-- ==== Sys2Proof/Word.lean ====
section
/-!
DEFINITION. The words of the GKV-7064: 32-bit registers (R10), bytes of wire and memory formats (R12), and 64-bit raw counts (R78).
-/
namespace Sys2Proof

/-- A register word: 32 bits, byte-addressed and little-endian on the host side (R10). -/
abbrev Word := BitVec 32

/-- One byte of a wire or memory format. -/
abbrev Byte := BitVec 8

end Sys2Proof
end

