-- ==== Sys2Proof/Config.lean ====
section
/-!
DEFINITION. What an implementation fixes and the spec leaves open, as constants without a body, and the free values.
-/
namespace Sys2Proof

/-- The free values, one for each taking: nothing constrains them (log entry 1). DESIGN CHOICE, safe: log entry 1. -/
opaque Config.freeValue : Nat → Nat

/-- The new CAL_TRIM from the crystal cycles counted over 600 s of disciplined time: the spec does not state the value (R96, log entry 5). DESIGN CHOICE, safe: log entry 5. -/
opaque Config.calTrim : Nat → BitVec 16

/-- The AES-128 CCM* integrity code: key, nonce, authenticated bytes (R195). DESIGN CHOICE, safe: log entry 4. -/
opaque Config.ccmMic : List Byte → List Byte → List Byte → List Byte

/-- AES-GCM decryption: key, IV, additional data, ciphertext and tag; none where the tag is wrong (R199). DESIGN CHOICE, safe: log entry 4. -/
opaque Config.gcmOpen : List Byte → List Byte → List Byte → List Byte → List Byte → Option (List Byte)

/-- RFC 3394 unwrapping under a key: none where the integrity value is wrong (R203). -/
opaque Config.unwrap : List Byte → List Byte → Option (List Byte)

/-- SHA-384 of a byte string. -/
opaque Config.sha384 : List Byte → List Byte

/-- An ECDSA brainpoolP384r1 signature with SHA-384: private key and message. -/
opaque Config.ecdsaSign : List Byte → List Byte → List Byte

/-- ECDSA verification: public key, message and signature. -/
opaque Config.ecdsaVerify : List Byte → List Byte → List Byte → Bool

/-- HMAC-SHA-384: key and message. -/
opaque Config.hmac : List Byte → List Byte → List Byte

/-- Key derivation: the parent key and the derivation data. -/
opaque Config.derive : List Byte → List Byte → List Byte

/-- A G.9903 attribute: 0 readable and writable, 1 unknown, 2 read-only (R139); by layer, identifier and index. -/
opaque Config.pibAccess : Nat → Nat

/-- The standard's default value of a G.9903 attribute (R139). -/
opaque Config.pibDefault : Nat → Nat

/-- The coordinator's next G3 bootstrap message (R137, R209): the node's EUI, its PSK and the port's group key where they are installed, and its message. PRESUMED, safe: log entry 48. -/
opaque Config.bootstrapAnswer : Nat → Option (List Byte) → Option (List Byte) → List Byte → List Byte

/-- The message that ends a G3 bootstrap (R106): EUI, result and short address. PRESUMED, safe: log entry 48. -/
opaque Config.bootstrapEnd : Nat → Nat → Nat → List Byte

/-- The payload of an NPL join frame (R145): EUI, result and short address. PRESUMED, safe: log entry 48. -/
opaque Config.joinAnswer : Nat → Nat → Nat → List Byte

/-- The payload of a tone-map command (R143): index and bits of each group. PRESUMED, safe: log entry 48. -/
opaque Config.toneMapCmd : Nat → List Nat → List Byte

/-- The payload of a route solicitation of NPL, or of a LOADng route request of G3 (R137, R160): the destination. PRESUMED, safe: log entry 48. -/
opaque Config.routeRequest : Bool → Nat → List Byte

/-- A G3 MAC frame (R137): PAN, destination and frame counter, the group key, and the payload. PRESUMED, safe: log entry 48. -/
opaque Config.g3Frame : Nat → Nat → Nat → Option (List Byte) → List Byte → List Byte

/-- The 6LoWPAN fragments of a payload (R137). PRESUMED, safe: log entry 48. -/
opaque Config.g3Fragments : List Byte → List (List Byte)

/-- How many slots a G3 burst of a number of bytes takes, by band; 0 bytes is an acknowledgement (R137). PRESUMED, safe: log entry 48. -/
opaque Config.g3Slots : Bool → Nat → Nat

/-- An acknowledgement of a G3 frame (R152). PRESUMED, safe: log entry 48. -/
opaque Config.g3Ack : List Byte → List Byte

/-- Is a G3 MAC frame whole (R137)? PRESUMED, safe: log entry 48. -/
opaque Config.g3FrameOk : List Byte → Bool

/-- What the header of a G3 MAC frame holds (R138): the destination and the transmitter's short address. PRESUMED, safe: log entry 48. -/
opaque Config.g3Dst : List Byte → Nat
opaque Config.g3Src : List Byte → Nat

/-- The frame counter of the auxiliary security header of a G3 frame, and whether the frame has one (R138). PRESUMED, safe: log entry 48. -/
opaque Config.g3Counter : List Byte → Nat
opaque Config.g3Sec : List Byte → Bool

/-- The payload of a G3 frame above its MAC and adaptation layers (R199). PRESUMED, safe: log entry 48. -/
opaque Config.g3Payload : List Byte → List Byte

/-- Is the AES-CCM* code of a G3 frame right (R195): the group key, the transmitter's EUI, the frame counter and the frame? PRESUMED, safe: log entry 48. -/
opaque Config.g3MicOk : List Byte → List Byte → Nat → List Byte → Bool

/-- The G.9903 attribute that holds the routing-table TTL in minutes (R139): layer, identifier and index as one number. PRESUMED, safe: log entry 48. -/
opaque Config.g3TtlAttr : Nat

/-- A G3 beacon of a PAN, as G.9903 gives it (R137, R161). PRESUMED, safe: log entry 48. -/
opaque Config.g3Beacon : Nat → List Byte

/-- AES-GCM encryption: key, IV, additional data and plaintext; the ciphertext and its 96-bit tag (R199). -/
opaque Config.gcmSeal : List Byte → List Byte → List Byte → List Byte → List Byte

/-- Air time of the STF, LTF and PHR of a SUN OFDM burst in µs, by PHY code and MCS, as the standard gives it (R169). -/
opaque Config.ofdmHeadUs : Nat → Nat → Nat

/-- RFC 3394 wrapping of a key under a key (R193, R458). -/
opaque Config.wrap : List Byte → List Byte → List Byte

/-- The public key 0x04 ‖ X ‖ Y of a brainpoolP384r1 private key (R330, R457). -/
opaque Config.pubKey : List Byte → List Byte

/-- Is a point 0x04 ‖ X ‖ Y on the curve brainpoolP384r1 (R457)? -/
opaque Config.onCurve : List Byte → Bool

/-- The Nolesque vendor root public key, whose digest is fixed in the ROM (R491). -/
opaque Config.vendorRoot : List Byte

/-- The order n of brainpoolP384r1 (R462). -/
opaque Config.curveOrder : Nat

/-- The fixed test root TR (R464), a constant the spec does not state. DESIGN CHOICE, unsafe: log entry 96. -/
opaque Config.testRoot : List Byte

/-- The measurement of the ROM, stage 0 (R465), a constant the spec does not state. DESIGN CHOICE, unsafe: log entry 96. -/
opaque Config.romMeasure : List Byte

/-- The subject key of an X.509 certificate (R466). -/
opaque Config.certSubject : List Byte → List Byte

/-- Does a certificate verify under a public key (R468)? -/
opaque Config.certVerify : List Byte → List Byte → Bool

/-- The content of the Nolesque extension of a certificate (R466). -/
opaque Config.certExt : List Byte → List Byte

/-- A certificate that SEC issues (R466): issuer's private key, subject key, the date of notBefore, and the extension's content. -/
opaque Config.certIssue : List Byte → List Byte → Nat → List Byte → List Byte

/-- The 128-bit AES-GCM tag over additional data, with an empty plaintext (R397): key, IV and data. -/
opaque Config.gmac : List Byte → List Byte → List Byte → List Byte

/-- An ECDSA brainpoolP384r1 signature over a given digest (R343): private key and digest. -/
opaque Config.ecdsaSignDigest : List Byte → List Byte → List Byte

/-- ECDSA verification over a given digest (R343): public key, digest and signature. -/
opaque Config.ecdsaVerifyDigest : List Byte → List Byte → List Byte → Bool

/-- The hash of a multicast address that an Ethernet port's filter looks up (R413), which the spec does not state (log entry 22). DESIGN CHOICE, safe: log entry 22. -/
opaque Config.mcHash : List Byte → Nat

/-- The capabilities word of a page whose layout the spec does not give (R45, log entry 23). DESIGN CHOICE, safe: log entry 23. -/
opaque Config.pageCap : Nat → Word

/-- The PCIe Vendor ID, fixed in the die (R44, R58), a constant the spec does not state (log entry 23). DESIGN CHOICE, safe: log entry 23. -/
opaque Config.vendorId : BitVec 16

/-- The manufacturer code in the JTAG IDCODE (R568), a constant the spec does not state (log entry 23). DESIGN CHOICE, safe: log entry 23. -/
opaque Config.jtagMaker : BitVec 11

/-- Unit code and scaler of an object, and its storage handle (R311), which the spec does not state (log entry 21). DESIGN CHOICE, unsafe: log entry 21. -/
opaque Config.objScale : Nat → BitVec 16
opaque Config.objLoc : Nat → BitVec 32

end Sys2Proof
end

