-- ==== Sys2Proof/Machine/Field.lean ====
section
/-!
DEFINITION. What a register field is (R10, R13, R50): its page, byte offset and bits, its access type, its retention class and its reset value.
-/
namespace Sys2Proof.Machine

/-- The access types of R13. -/
inductive Acc where
  | RW | RO | W1C | W1S | RC | WO
  deriving DecidableEq, Repr

/-- The retention classes of R50. -/
inductive Ret where
  | A | S | P | V
  deriving DecidableEq, Repr

/-- The place of a class in a field's key. -/
def Ret.code : Ret → Nat
  | .A => 0 | .S => 1 | .P => 2 | .V => 3

/-- A register field. `bank` tells apart the copies of a field that a selector register reaches (0 where there is one copy). -/
structure Fld where
  page : Nat
  off : Nat
  hi : Nat
  lo : Nat
  acc : Acc
  ret : Ret
  reset : Nat
  bank : Nat := 0
  deriving DecidableEq, Repr

/-- How many bits a field has. -/
def Fld.width (f : Fld) : Nat := f.hi + 1 - f.lo

/-- One past the greatest value a field holds. -/
def Fld.bound (f : Fld) : Nat := 2 ^ f.width

/-- The key of a field in the register store: class, bank, page, offset and lowest bit, from the top down. -/
def Fld.key (f : Fld) : Nat :=
  (((f.ret.code * 0x1000000 + f.bank) * 0x1000 + f.page) * 0x1000 + f.off) * 32 + f.lo

/-- The class code of a key. -/
def keyClass (k : Nat) : Nat := k / 0x20000000 / 0x1000000

/-- The page of a key. -/
def keyPage (k : Nat) : Nat := k / 0x20000 % 0x1000

/-- A family of fields as a register table gives it: one field, repeated at up to two strides, behind a bank selector or none. -/
structure Row where
  fld : Fld
  stride1 : Nat := 0
  count1 : Nat := 1
  stride2 : Nat := 0
  count2 : Nat := 1
  /-- Which selector picks the copy (see `bankOf`); 0 for none. -/
  sel : Nat := 0
  deriving DecidableEq, Repr

end Sys2Proof.Machine
end

