-- ==== Sys2Proof/Machine/Regs.lean ====
section
/-!
DEFINITION. The register fields, one definition each, as the register tables of the spec give them. `n` is a port number, `k` and `w` the index of a field that is repeated, `b` the copy that a selector register reaches.
-/
namespace Sys2Proof.Machine.F

/-- Page header PAGE_ID of page p (R45). -/
def PAGE_ID (p : Nat) : Fld := ⟨p, 0x00, 31, 0, .RO, .A, 0, 0⟩
/-- Page header PAGE_VER of page p (R45). -/
def PAGE_VER (p : Nat) : Fld := ⟨p, 0x04, 15, 0, .RO, .A, 1, 0⟩
/-- Page header CAP of page p (R45). -/
def CAP (p : Nat) : Fld := ⟨p, 0x08, 31, 0, .RO, .A, 0, 0⟩
/-- Page header STATUS_PAGE of page p (R45). -/
def STATUS_PAGE (p : Nat) : Fld := ⟨p, 0x0C, 31, 8, .RO, .V, 0, 0⟩
/-- Page header STATUS_OWNER of page p (R45). -/
def STATUS_OWNER (p : Nat) : Fld := ⟨p, 0x0C, 3, 3, .RO, .S, 0, 0⟩
/-- Page header STATUS_LOCKED of page p (R45). -/
def STATUS_LOCKED (p : Nat) : Fld := ⟨p, 0x0C, 2, 2, .RO, .S, 0, 0⟩
/-- Page header STATUS_BUSY of page p (R45). -/
def STATUS_BUSY (p : Nat) : Fld := ⟨p, 0x0C, 1, 1, .RO, .V, 0, 0⟩
/-- Page header STATUS_READY of page p (R45). -/
def STATUS_READY (p : Nat) : Fld := ⟨p, 0x0C, 0, 0, .RO, .V, 0, 0⟩
/-- Page header INT_STAT of page p (R45). -/
def INT_STAT (p : Nat) : Fld := ⟨p, 0x10, 31, 0, .W1C, .V, 0, 0⟩
/-- Page header INT_EN of page p (R45). -/
def INT_EN (p : Nat) : Fld := ⟨p, 0x14, 31, 0, .RW, .V, 0, 0⟩
/-- Page header INT_FORCE of page p (R45). -/
def INT_FORCE (p : Nat) : Fld := ⟨p, 0x18, 31, 0, .WO, .V, 0, 0⟩
/-- Page header ERR_CORR of page p (R45). -/
def ERR_CORR (p : Nat) : Fld := ⟨p, 0x1C, 31, 0, .RO, .V, 0, 0⟩
/-- Page header ERR_UNC of page p (R45). -/
def ERR_UNC (p : Nat) : Fld := ⟨p, 0x20, 31, 0, .RO, .V, 0, 0⟩
/-- Page header LOCK_LOCKED of page p (R45). -/
def LOCK_LOCKED (p : Nat) : Fld := ⟨p, 0x24, 0, 0, .W1S, .S, 0, 0⟩
/-- Page header OWNER_SEIZED of page p (R45). -/
def OWNER_SEIZED (p : Nat) : Fld := ⟨p, 0x28, 8, 8, .RO, .S, 0, 0⟩
/-- Page header OWNER_OWNER of page p (R45). -/
def OWNER_OWNER (p : Nat) : Fld := ⟨p, 0x28, 0, 0, .RW, .S, 0, 0⟩
/-- Page header DOM_RST_KEY of page p (R45). -/
def DOM_RST_KEY (p : Nat) : Fld := ⟨p, 0x2C, 31, 16, .WO, .V, 0, 0⟩
/-- Page header DOM_RST_GO of page p (R45). -/
def DOM_RST_GO (p : Nat) : Fld := ⟨p, 0x2C, 0, 0, .WO, .V, 0, 0⟩
/-- CHIP.VENDOR (R44). -/
def CHIP_VENDOR : Fld := ⟨0x0, 0x40, 15, 0, .RO, .A, 0, 0⟩
/-- CHIP.DEVICE (R44). -/
def CHIP_DEVICE : Fld := ⟨0x0, 0x44, 15, 0, .RO, .A, 28772, 0⟩
/-- CHIP.REV (R44). -/
def CHIP_REV : Fld := ⟨0x0, 0x44, 23, 16, .RO, .A, 1, 0⟩
/-- CHIP.ACC_ERR.VALID (R44). -/
def CHIP_ACC_ERR_VALID : Fld := ⟨0x0, 0x48, 31, 31, .W1C, .V, 0, 0⟩
/-- CHIP.ACC_ERR.MASTER (R44). -/
def CHIP_ACC_ERR_MASTER : Fld := ⟨0x0, 0x48, 29, 28, .RO, .V, 0, 0⟩
/-- CHIP.ACC_ERR.CAUSE (R44). -/
def CHIP_ACC_ERR_CAUSE : Fld := ⟨0x0, 0x48, 27, 24, .RO, .V, 0, 0⟩
/-- CHIP.ACC_ERR.ADDR (R44). -/
def CHIP_ACC_ERR_ADDR : Fld := ⟨0x0, 0x48, 23, 0, .RO, .V, 0, 0⟩
/-- CHIP.DENY_CNT (R44). -/
def CHIP_DENY_CNT : Fld := ⟨0x0, 0x4C, 31, 0, .RO, .V, 0, 0⟩
/-- CHIP.GRADE (R44). -/
def CHIP_GRADE : Fld := ⟨0x0, 0x50, 0, 0, .RO, .A, 0, 0⟩
/-- CFG.COMMIT.KEY (R57). -/
def CFG_COMMIT_KEY : Fld := ⟨0x6, 0x40, 31, 16, .WO, .V, 0, 0⟩
/-- CFG.COMMIT.FORCE_ROLE (R57). -/
def CFG_COMMIT_FORCE_ROLE : Fld := ⟨0x6, 0x40, 1, 1, .WO, .V, 0, 0⟩
/-- CFG.COMMIT.GO (R57). -/
def CFG_COMMIT_GO : Fld := ⟨0x6, 0x40, 0, 0, .WO, .V, 0, 0⟩
/-- CFG.CSTAT.RESULT (R57). -/
def CFG_CSTAT_RESULT : Fld := ⟨0x6, 0x44, 7, 4, .RO, .S, 0, 0⟩
/-- CFG.CSTAT.ROLE_MISMATCH (R57). -/
def CFG_CSTAT_ROLE_MISMATCH : Fld := ⟨0x6, 0x44, 2, 2, .RO, .V, 0, 0⟩
/-- CFG.CSTAT.DIRTY (R57). -/
def CFG_CSTAT_DIRTY : Fld := ⟨0x6, 0x44, 1, 1, .RO, .V, 0, 0⟩
/-- CFG.CSTAT.BUSY (R57). -/
def CFG_CSTAT_BUSY : Fld := ⟨0x6, 0x44, 0, 0, .RO, .V, 0, 0⟩
/-- CFG.GEN (R57). -/
def CFG_GEN : Fld := ⟨0x6, 0x48, 31, 0, .RO, .S, 0, 0⟩
/-- CFG.ROLE (R57). -/
def CFG_ROLE : Fld := ⟨0x6, 0x4C, 1, 0, .RW, .P, 0, 0⟩
/-- CFG.HOST_SEL (R57). -/
def CFG_HOST_SEL : Fld := ⟨0x6, 0x50, 1, 0, .RW, .P, 0, 0⟩
/-- CFG.DISCARD.KEY (R57). -/
def CFG_DISCARD_KEY : Fld := ⟨0x6, 0x54, 31, 16, .WO, .V, 0, 0⟩
/-- CFG.DISCARD.GO (R57). -/
def CFG_DISCARD_GO : Fld := ⟨0x6, 0x54, 0, 0, .WO, .V, 0, 0⟩
/-- CFG.FMT.OLD (R57). -/
def CFG_FMT_OLD : Fld := ⟨0x6, 0x58, 31, 16, .RO, .S, 0, 0⟩
/-- CFG.FMT.CUR (R57). -/
def CFG_FMT_CUR : Fld := ⟨0x6, 0x58, 15, 0, .RO, .A, 0, 0⟩
/-- PCI.LINK.UP (R64). -/
def PCI_LINK_UP : Fld := ⟨0x4A, 0x40, 0, 0, .RO, .V, 0, 0⟩
/-- PCI.LINK.L1 (R64). -/
def PCI_LINK_L1 : Fld := ⟨0x4A, 0x40, 1, 1, .RO, .V, 0, 0⟩
/-- PCI.LINK.WIDTH (R64). -/
def PCI_LINK_WIDTH : Fld := ⟨0x4A, 0x40, 6, 4, .RO, .V, 0, 0⟩
/-- PCI.LINK.SPEED (R64). -/
def PCI_LINK_SPEED : Fld := ⟨0x4A, 0x40, 9, 8, .RO, .V, 0, 0⟩
/-- PCI.CFG.MAX_WIDTH (R64). -/
def PCI_CFG_MAX_WIDTH : Fld := ⟨0x4A, 0x44, 1, 0, .RW, .P, 0, 0⟩
/-- PCI.CFG.MAX_SPEED (R64). -/
def PCI_CFG_MAX_SPEED : Fld := ⟨0x4A, 0x44, 5, 4, .RW, .P, 3, 0⟩
/-- PCI.CFG.ASPM_L1 (R64). -/
def PCI_CFG_ASPM_L1 : Fld := ⟨0x4A, 0x44, 8, 8, .RW, .P, 1, 0⟩
/-- PCI.SUB_VEN (R64). -/
def PCI_SUB_VEN : Fld := ⟨0x4A, 0x48, 15, 0, .RW, .P, 0, 0⟩
/-- PCI.SUB_DEV (R64). -/
def PCI_SUB_DEV : Fld := ⟨0x4A, 0x48, 31, 16, .RW, .P, 0, 0⟩
/-- PCI.HOST_STAT (R64). -/
def PCI_HOST_STAT : Fld := ⟨0x4A, 0x4C, 1, 0, .RO, .V, 0, 0⟩
/-- PCI.CORR_ERR (R64). -/
def PCI_CORR_ERR : Fld := ⟨0x4A, 0x50, 31, 0, .RO, .V, 0, 0⟩
/-- PCI.UNCORR_ERR (R64). -/
def PCI_UNCORR_ERR : Fld := ⟨0x4A, 0x54, 31, 0, .RO, .V, 0, 0⟩
/-- PCI.LINK_DOWN_CNT (R64). -/
def PCI_LINK_DOWN_CNT : Fld := ⟨0x4A, 0x58, 31, 0, .RO, .V, 0, 0⟩
/-- PCI.RETRAINS (R64). -/
def PCI_RETRAINS : Fld := ⟨0x4A, 0x5C, 31, 0, .RO, .V, 0, 0⟩
/-- SMP.TSTAT.LAST (R72). -/
def SMP_TSTAT_LAST : Fld := ⟨0x4B, 0x40, 7, 0, .RO, .V, 0, 0⟩
/-- SMP.CRC_CNT (R72). -/
def SMP_CRC_CNT : Fld := ⟨0x4B, 0x44, 31, 0, .RO, .S, 0, 0⟩
/-- SMP.ABANDON_CNT (R72). -/
def SMP_ABANDON_CNT : Fld := ⟨0x4B, 0x48, 31, 0, .RO, .S, 0, 0⟩
/-- SMP.ALERT_STAT (R72). -/
def SMP_ALERT_STAT : Fld := ⟨0x4B, 0x50, 11, 0, .W1C, .S, 0, 0⟩
/-- SMP.ALERT_EN (R72). -/
def SMP_ALERT_EN : Fld := ⟨0x4B, 0x54, 11, 0, .RW, .S, 198, 0⟩
/-- SMP.HOST_RECLAIM (R72). -/
def SMP_HOST_RECLAIM : Fld := ⟨0x4B, 0x58, 0, 0, .RW, .S, 0, 0⟩
/-- SMP.OVR_MODE.KEY (R75). -/
def SMP_OVR_MODE_KEY : Fld := ⟨0x4B, 0x100, 31, 24, .WO, .V, 0, 0⟩
/-- SMP.OVR_MODE.MODE (R75). -/
def SMP_OVR_MODE_MODE : Fld := ⟨0x4B, 0x100, 3, 0, .WO, .V, 0, 0⟩
/-- SMP.OVR_RESET.KEY (R75). -/
def SMP_OVR_RESET_KEY : Fld := ⟨0x4B, 0x104, 31, 24, .WO, .V, 0, 0⟩
/-- SMP.OVR_RESET.DOM (R75). -/
def SMP_OVR_RESET_DOM : Fld := ⟨0x4B, 0x104, 11, 8, .WO, .V, 0, 0⟩
/-- SMP.OVR_RESET.KIND (R75). -/
def SMP_OVR_RESET_KIND : Fld := ⟨0x4B, 0x104, 1, 0, .WO, .V, 0, 0⟩
/-- SMP.OVR_FAILOVER.KEY (R75). -/
def SMP_OVR_FAILOVER_KEY : Fld := ⟨0x4B, 0x108, 31, 24, .WO, .V, 0, 0⟩
/-- SMP.OVR_FAILOVER.CTRL_DENY (R75). -/
def SMP_OVR_FAILOVER_CTRL_DENY : Fld := ⟨0x4B, 0x108, 2, 2, .WO, .V, 0, 0⟩
/-- SMP.OVR_FAILOVER.CTRL_GRANT (R75). -/
def SMP_OVR_FAILOVER_CTRL_GRANT : Fld := ⟨0x4B, 0x108, 1, 1, .WO, .V, 0, 0⟩
/-- SMP.OVR_FAILOVER.GIVE_UP (R75). -/
def SMP_OVR_FAILOVER_GIVE_UP : Fld := ⟨0x4B, 0x108, 0, 0, .WO, .V, 0, 0⟩
/-- SMP.OVR_LDG_SEL (R75). -/
def SMP_OVR_LDG_SEL : Fld := ⟨0x4B, 0x10C, 15, 0, .RW, .V, 0, 0⟩
/-- SMP.OVR_LDG_DATA (R75). -/
def SMP_OVR_LDG_DATA : Fld := ⟨0x4B, 0x110, 31, 0, .RO, .V, 0, 0⟩
/-- SMP.OVR_LIFE.DBG (R75). -/
def SMP_OVR_LIFE_DBG : Fld := ⟨0x4B, 0x114, 7, 4, .RO, .A, 0, 0⟩
/-- SMP.OVR_LIFE.LC (R75). -/
def SMP_OVR_LIFE_LC : Fld := ⟨0x4B, 0x114, 3, 0, .RO, .A, 0, 0⟩
/-- SMP.OVR_STAT.LAST (R75). -/
def SMP_OVR_STAT_LAST : Fld := ⟨0x4B, 0x118, 7, 4, .RO, .S, 0, 0⟩
/-- SMP.OVR_STAT.BUSY (R75). -/
def SMP_OVR_STAT_BUSY : Fld := ⟨0x4B, 0x118, 0, 0, .RO, .V, 0, 0⟩
/-- TIME.COUNT_LO (R95). -/
def TIME_COUNT_LO : Fld := ⟨0x8, 0x40, 31, 0, .RO, .A, 0, 0⟩
/-- TIME.COUNT_HI (R95). -/
def TIME_COUNT_HI : Fld := ⟨0x8, 0x44, 31, 0, .RO, .A, 0, 0⟩
/-- TIME.NOW_LO (R95). -/
def TIME_NOW_LO : Fld := ⟨0x8, 0x48, 31, 0, .RO, .V, 0, 0⟩
/-- TIME.NOW_HI (R95). -/
def TIME_NOW_HI : Fld := ⟨0x8, 0x4C, 31, 0, .RO, .V, 0, 0⟩
/-- TIME.NOW_Q.EPOCH (R95). -/
def TIME_NOW_Q_EPOCH : Fld := ⟨0x8, 0x50, 23, 8, .RO, .V, 0, 0⟩
/-- TIME.NOW_Q.QUAL (R95). -/
def TIME_NOW_Q_QUAL : Fld := ⟨0x8, 0x50, 7, 0, .RO, .V, 0, 0⟩
/-- TIME.EPOCH.RESTART (R95). -/
def TIME_EPOCH_RESTART : Fld := ⟨0x8, 0x54, 31, 16, .RO, .A, 1, 0⟩
/-- TIME.EPOCH.NUM (R95). -/
def TIME_EPOCH_NUM : Fld := ⟨0x8, 0x54, 15, 0, .RO, .A, 0, 0⟩
/-- TIME.OFFSET_LO (R95). -/
def TIME_OFFSET_LO : Fld := ⟨0x8, 0x58, 31, 0, .RW, .A, 0, 0⟩
/-- TIME.OFFSET_HI (R95). -/
def TIME_OFFSET_HI : Fld := ⟨0x8, 0x5C, 31, 0, .RW, .A, 0, 0⟩
/-- TIME.RATE_LO (R95). -/
def TIME_RATE_LO : Fld := ⟨0x8, 0x60, 31, 0, .RW, .A, 0, 0⟩
/-- TIME.RATE_HI (R95). -/
def TIME_RATE_HI : Fld := ⟨0x8, 0x64, 15, 0, .RW, .A, 1024, 0⟩
/-- TIME.STEP_LO (R95). -/
def TIME_STEP_LO : Fld := ⟨0x8, 0x68, 31, 0, .WO, .V, 0, 0⟩
/-- TIME.STEP_HI (R95). -/
def TIME_STEP_HI : Fld := ⟨0x8, 0x6C, 31, 0, .WO, .V, 0, 0⟩
/-- TIME.ANCHOR_LO (R95). -/
def TIME_ANCHOR_LO : Fld := ⟨0x8, 0x70, 31, 0, .RO, .A, 0, 0⟩
/-- TIME.ANCHOR_HI (R95). -/
def TIME_ANCHOR_HI : Fld := ⟨0x8, 0x74, 31, 0, .RO, .A, 0, 0⟩
/-- TIME.CONV_IN_LO (R95). -/
def TIME_CONV_IN_LO : Fld := ⟨0x8, 0x78, 31, 0, .WO, .V, 0, 0⟩
/-- TIME.CONV_IN_HI (R95). -/
def TIME_CONV_IN_HI : Fld := ⟨0x8, 0x7C, 31, 0, .WO, .V, 0, 0⟩
/-- TIME.CONV_OUT_LO (R95). -/
def TIME_CONV_OUT_LO : Fld := ⟨0x8, 0x80, 31, 0, .RO, .V, 0, 0⟩
/-- TIME.CONV_OUT_HI (R95). -/
def TIME_CONV_OUT_HI : Fld := ⟨0x8, 0x84, 31, 0, .RO, .V, 0, 0⟩
/-- TIME.CONV_Q.DONE (R95). -/
def TIME_CONV_Q_DONE : Fld := ⟨0x8, 0x88, 8, 8, .RO, .V, 0, 0⟩
/-- TIME.CONV_Q.QUAL (R95). -/
def TIME_CONV_Q_QUAL : Fld := ⟨0x8, 0x88, 7, 0, .RO, .V, 0, 0⟩
/-- TIME.SRC.SEL (R95). -/
def TIME_SRC_SEL : Fld := ⟨0x8, 0x90, 2, 0, .RW, .P, 0, 0⟩
/-- TIME.SRC_PERIOD (R95). -/
def TIME_SRC_PERIOD : Fld := ⟨0x8, 0x94, 15, 0, .RW, .P, 1000, 0⟩
/-- TIME.SUP_TO (R95). -/
def TIME_SUP_TO : Fld := ⟨0x8, 0x98, 23, 0, .RW, .P, 10000, 0⟩
/-- TIME.QSTAT.QUAL (R95). -/
def TIME_QSTAT_QUAL : Fld := ⟨0x8, 0x9C, 23, 16, .RO, .A, 0, 0⟩
/-- TIME.QSTAT.SRC_LOST (R95). -/
def TIME_QSTAT_SRC_LOST : Fld := ⟨0x8, 0x9C, 8, 8, .RO, .V, 0, 0⟩
/-- TIME.QSTAT.MISSED (R95). -/
def TIME_QSTAT_MISSED : Fld := ⟨0x8, 0x9C, 3, 0, .RO, .V, 0, 0⟩
/-- TIME.QCTL.LOCK_CLR (R95). -/
def TIME_QCTL_LOCK_CLR : Fld := ⟨0x8, 0xA0, 1, 1, .WO, .V, 0, 0⟩
/-- TIME.QCTL.LOCK_SET (R95). -/
def TIME_QCTL_LOCK_SET : Fld := ⟨0x8, 0xA0, 0, 0, .WO, .V, 0, 0⟩
/-- TIME.FEED (R95). -/
def TIME_FEED : Fld := ⟨0x8, 0xA4, 31, 0, .WO, .V, 0, 0⟩
/-- TIME.ERR_EST (R95). -/
def TIME_ERR_EST : Fld := ⟨0x8, 0xA8, 31, 0, .RW, .A, 0, 0⟩
/-- TIME.HOLD_DRIFT (R95). -/
def TIME_HOLD_DRIFT : Fld := ⟨0x8, 0xAC, 23, 0, .RW, .P, 2000, 0⟩
/-- TIME.QTHRESH (R95). -/
def TIME_QTHRESH : Fld := ⟨0x8, 0xB0, 31, 0, .RW, .P, 0xF4240, 0⟩
/-- TIME.CAL_TRIM (R95). -/
def TIME_CAL_TRIM : Fld := ⟨0x8, 0xB4, 15, 0, .RW, .A, 0, 0⟩
/-- TIME.CAL_TOL (R95). -/
def TIME_CAL_TOL : Fld := ⟨0x8, 0xB8, 15, 0, .RW, .P, 20, 0⟩
/-- TIME.PPS_W (R95). -/
def TIME_PPS_W : Fld := ⟨0x8, 0xBC, 15, 0, .RW, .P, 100, 0⟩
/-- TIME.CAL_SEC_LO (R95). -/
def TIME_CAL_SEC_LO : Fld := ⟨0x8, 0xC0, 31, 0, .RO, .A, 0, 0⟩
/-- TIME.CAL_SEC_HI (R95). -/
def TIME_CAL_SEC_HI : Fld := ⟨0x8, 0xC4, 7, 0, .RO, .A, 0, 0⟩
/-- TIME.CAL_SUB (R95). -/
def TIME_CAL_SUB : Fld := ⟨0x8, 0xC8, 14, 0, .RO, .A, 0, 0⟩
/-- TIME.CAPj_LO (R95). -/
def TIME_CAP_LO (k : Nat) : Fld := ⟨0x8, 0x100 + 0x10 * k, 31, 0, .RO, .V, 0, 0⟩
/-- TIME.CAPj_HI (R95). -/
def TIME_CAP_HI (k : Nat) : Fld := ⟨0x8, 0x104 + 0x10 * k, 31, 0, .RO, .V, 0, 0⟩
/-- TIME.CAPj_FLAGS.VALID (R95). -/
def TIME_CAP_FLAGS_VALID (k : Nat) : Fld := ⟨0x8, 0x108 + 0x10 * k, 31, 31, .RC, .V, 0, 0⟩
/-- TIME.CAPj_FLAGS.OVF (R95). -/
def TIME_CAP_FLAGS_OVF (k : Nat) : Fld := ⟨0x8, 0x108 + 0x10 * k, 30, 30, .RC, .V, 0, 0⟩
/-- TIME.CAPj_FLAGS.SEQ (R95). -/
def TIME_CAP_FLAGS_SEQ (k : Nat) : Fld := ⟨0x8, 0x108 + 0x10 * k, 15, 0, .RO, .V, 0, 0⟩
/-- TIME.CMPk_TGT_LO (R102). -/
def TIME_CMP_TGT_LO (k : Nat) : Fld := ⟨0x8, 0x200 + 0x20 * k, 31, 0, .RW, .P, 0, 0⟩
/-- TIME.CMPk_TGT_HI (R102). -/
def TIME_CMP_TGT_HI (k : Nat) : Fld := ⟨0x8, 0x204 + 0x20 * k, 31, 0, .RW, .P, 0, 0⟩
/-- TIME.CMPk_PER_LO (R102). -/
def TIME_CMP_PER_LO (k : Nat) : Fld := ⟨0x8, 0x208 + 0x20 * k, 31, 0, .RW, .P, 0, 0⟩
/-- TIME.CMPk_PER_HI (R102). -/
def TIME_CMP_PER_HI (k : Nat) : Fld := ⟨0x8, 0x20C + 0x20 * k, 31, 0, .RW, .P, 0, 0⟩
/-- TIME.CMPk_CTL.PRIO (R102). -/
def TIME_CMP_CTL_PRIO (k : Nat) : Fld := ⟨0x8, 0x210 + 0x20 * k, 19, 16, .RW, .P, 0, 0⟩
/-- TIME.CMPk_CTL.DEST (R102). -/
def TIME_CMP_CTL_DEST (k : Nat) : Fld := ⟨0x8, 0x210 + 0x20 * k, 10, 8, .RW, .P, 0, 0⟩
/-- TIME.CMPk_CTL.EN (R102). -/
def TIME_CMP_CTL_EN (k : Nat) : Fld := ⟨0x8, 0x210 + 0x20 * k, 0, 0, .RW, .P, 0, 0⟩
/-- TIME.CMPk_STAT.SKIPPED (R102). -/
def TIME_CMP_STAT_SKIPPED (k : Nat) : Fld := ⟨0x8, 0x214 + 0x20 * k, 31, 16, .RO, .V, 0, 0⟩
/-- TIME.CMPk_STAT.FIRED (R102). -/
def TIME_CMP_STAT_FIRED (k : Nat) : Fld := ⟨0x8, 0x214 + 0x20 * k, 15, 0, .RO, .V, 0, 0⟩
/-- TIME.CMPk_PMASK_LO (R102). -/
def TIME_CMP_PMASK_LO (k : Nat) : Fld := ⟨0x8, 0x218 + 0x20 * k, 31, 0, .RW, .P, 0, 0⟩
/-- TIME.CMPk_PMASK_HI (R102). -/
def TIME_CMP_PMASK_HI (k : Nat) : Fld := ⟨0x8, 0x21C + 0x20 * k, 31, 0, .RW, .P, 0, 0⟩
/-- ZC.CTL.EN (R130). -/
def GPIO_ZC_CTL_EN : Fld := ⟨0x69, 0x300, 2, 0, .RW, .P, 0, 0⟩
/-- ZC.CTL.DEGLITCH (R130). -/
def GPIO_ZC_CTL_DEGLITCH : Fld := ⟨0x69, 0x300, 15, 8, .RW, .P, 200, 0⟩
/-- ZC.JIT_TH (R130). -/
def GPIO_ZC_JIT_TH : Fld := ⟨0x69, 0x304, 15, 0, .RW, .P, 50000, 0⟩
/-- ZCp_COMP (R130). -/
def GPIO_ZC_COMP (k : Nat) : Fld := ⟨0x69, 0x310 + 0x20 * k, 15, 0, .RW, .P, 0, 0⟩
/-- ZCp_LAST_LO (R130). -/
def GPIO_ZC_LAST_LO (k : Nat) : Fld := ⟨0x69, 0x314 + 0x20 * k, 31, 0, .RO, .V, 0, 0⟩
/-- ZCp_LAST_HI (R130). -/
def GPIO_ZC_LAST_HI (k : Nat) : Fld := ⟨0x69, 0x318 + 0x20 * k, 31, 0, .RO, .V, 0, 0⟩
/-- ZCp_PERIOD (R130). -/
def GPIO_ZC_PERIOD (k : Nat) : Fld := ⟨0x69, 0x31C + 0x20 * k, 27, 0, .RO, .V, 0, 0⟩
/-- ZCp_STAT.LOST (R130). -/
def GPIO_ZC_STAT_LOST (k : Nat) : Fld := ⟨0x69, 0x320 + 0x20 * k, 0, 0, .RO, .V, 1, 0⟩
/-- ZCp_STAT.HEAD (R130). -/
def GPIO_ZC_STAT_HEAD (k : Nat) : Fld := ⟨0x69, 0x320 + 0x20 * k, 11, 8, .RO, .V, 0, 0⟩
/-- ZCp_DISCARD (R130). -/
def GPIO_ZC_DISCARD (k : Nat) : Fld := ⟨0x69, 0x324 + 0x20 * k, 31, 0, .RO, .V, 0, 0⟩
/-- ZCp_ACCEPT (R130). -/
def GPIO_ZC_ACCEPT (k : Nat) : Fld := ⟨0x69, 0x328 + 0x20 * k, 31, 0, .RO, .V, 0, 0⟩
/-- GPIO.DIR (R131). -/
def GPIO_DIR : Fld := ⟨0x69, 0x40, 15, 0, .RW, .P, 0, 0⟩
/-- GPIO.OUT (R131). -/
def GPIO_OUT : Fld := ⟨0x69, 0x44, 15, 0, .RW, .V, 0, 0⟩
/-- GPIO.IN (R131). -/
def GPIO_IN : Fld := ⟨0x69, 0x48, 15, 0, .RO, .V, 0, 0⟩
/-- GPIO.OD (R131). -/
def GPIO_OD : Fld := ⟨0x69, 0x4C, 15, 0, .RW, .P, 0, 0⟩
/-- GPIO.FUNC (R131). -/
def GPIO_FUNC : Fld := ⟨0x69, 0x50, 31, 0, .RW, .P, 0, 0⟩
/-- GPIO.CMP_LO (R131). -/
def GPIO_CMP_LO : Fld := ⟨0x69, 0x54, 31, 0, .RW, .P, 0, 0⟩
/-- GPIO.CMP_HI (R131). -/
def GPIO_CMP_HI : Fld := ⟨0x69, 0x58, 31, 0, .RW, .P, 0, 0⟩
/-- GPIO.PULSE (R131). -/
def GPIO_PULSE : Fld := ⟨0x69, 0x5C, 15, 0, .RW, .P, 0, 0⟩
/-- GPIO.INT_RISE (R131). -/
def GPIO_INT_RISE : Fld := ⟨0x69, 0x60, 15, 0, .RW, .P, 0, 0⟩
/-- GPIO.INT_FALL (R131). -/
def GPIO_INT_FALL : Fld := ⟨0x69, 0x64, 15, 0, .RW, .P, 0, 0⟩
/-- GPIO.DRIVEN (R131). -/
def GPIO_DRIVEN : Fld := ⟨0x69, 0x68, 15, 0, .RO, .V, 0, 0⟩
/-- FPn.CTL.EN (R132). -/
def FP_CTL_EN (n : Nat) : Fld := ⟨0x100 + n, 0x40, 0, 0, .RW, .P, 0, 0⟩
/-- FPn.CTL.PERS (R132). -/
def FP_CTL_PERS (n : Nat) : Fld := ⟨0x100 + n, 0x40, 5, 4, .RW, .P, 0, 0⟩
/-- FPn.CTL.OUTAGE_KEEP (R132). -/
def FP_CTL_OUTAGE_KEEP (n : Nat) : Fld := ⟨0x100 + n, 0x40, 8, 8, .RW, .P, 0, 0⟩
/-- FPn.CTL.TX_INHIBIT (R132). -/
def FP_CTL_TX_INHIBIT (n : Nat) : Fld := ⟨0x100 + n, 0x40, 9, 9, .RW, .V, 0, 0⟩
/-- FPn.FSL_STAT.STATE (R132). -/
def FP_FSL_STAT_STATE (n : Nat) : Fld := ⟨0x100 + n, 0x44, 1, 0, .RO, .V, 0, 0⟩
/-- FPn.FSL_STAT.AFE_MISMATCH (R132). -/
def FP_FSL_STAT_AFE_MISMATCH (n : Nat) : Fld := ⟨0x100 + n, 0x44, 2, 2, .RO, .V, 0, 0⟩
/-- FPn.FSL_STAT.TX_ACTIVE (R132). -/
def FP_FSL_STAT_TX_ACTIVE (n : Nat) : Fld := ⟨0x100 + n, 0x44, 3, 3, .RO, .V, 0, 0⟩
/-- FPn.FSL_STAT.SRC (R132). -/
def FP_FSL_STAT_SRC (n : Nat) : Fld := ⟨0x100 + n, 0x44, 5, 4, .RO, .V, 0, 0⟩
/-- FPn.FSL_STAT.AFE_CLASS (R132). -/
def FP_FSL_STAT_AFE_CLASS (n : Nat) : Fld := ⟨0x100 + n, 0x44, 15, 8, .RO, .V, 0, 0⟩
/-- FPn.FSL_STAT.AFE_IFVER (R132). -/
def FP_FSL_STAT_AFE_IFVER (n : Nat) : Fld := ⟨0x100 + n, 0x44, 23, 16, .RO, .V, 0, 0⟩
/-- FPn.AFE_STAT.TEMP (R132). -/
def FP_AFE_STAT_TEMP (n : Nat) : Fld := ⟨0x100 + n, 0x48, 7, 0, .RO, .V, 0, 0⟩
/-- FPn.AFE_STAT.SUPPLY (R132). -/
def FP_AFE_STAT_SUPPLY (n : Nat) : Fld := ⟨0x100 + n, 0x48, 15, 8, .RO, .V, 0, 0⟩
/-- FPn.AFE_STAT.TX_CURR (R132). -/
def FP_AFE_STAT_TX_CURR (n : Nat) : Fld := ⟨0x100 + n, 0x48, 31, 16, .RO, .V, 0, 0⟩
/-- FPn.AFE_INFO.BANDS (R132). -/
def FP_AFE_INFO_BANDS (n : Nat) : Fld := ⟨0x100 + n, 0x4C, 15, 0, .RO, .V, 0, 0⟩
/-- FPn.AFE_INFO.MAX_DRAW (R132). -/
def FP_AFE_INFO_MAX_DRAW (n : Nat) : Fld := ⟨0x100 + n, 0x4C, 31, 16, .RO, .V, 0, 0⟩
/-- FPn.LAT_COMP (R132). -/
def FP_LAT_COMP (n : Nat) : Fld := ⟨0x100 + n, 0x50, 15, 0, .RW, .P, 65535, 0⟩
/-- FPn.LAT_EFF (R132). -/
def FP_LAT_EFF (n : Nat) : Fld := ⟨0x100 + n, 0x50, 31, 16, .RO, .V, 0, 0⟩
/-- FPn.TX_DRAW (R132). -/
def FP_TX_DRAW (n : Nat) : Fld := ⟨0x100 + n, 0x54, 15, 0, .RW, .P, 65535, 0⟩
/-- FPn.CRED_WAIT (R132). -/
def FP_CRED_WAIT (n : Nat) : Fld := ⟨0x100 + n, 0x58, 15, 0, .RW, .P, 20000, 0⟩
/-- FPn.NODE_LIMIT (R132). -/
def FP_NODE_LIMIT (n : Nat) : Fld := ⟨0x100 + n, 0x5C, 10, 0, .RW, .P, 1024, 0⟩
/-- FPn.NODES (R132). -/
def FP_NODES (n : Nat) : Fld := ⟨0x100 + n, 0x60, 10, 0, .RO, .V, 0, 0⟩
/-- FPn.FSL_CRC_ERR (R132). -/
def FP_FSL_CRC_ERR (n : Nat) : Fld := ⟨0x100 + n, 0x70, 31, 0, .RO, .V, 0, 0⟩
/-- FPn.FSL_DOWN_CNT (R132). -/
def FP_FSL_DOWN_CNT (n : Nat) : Fld := ⟨0x100 + n, 0x74, 31, 0, .RO, .V, 0, 0⟩
/-- FPn.TX_BURSTS (R132). -/
def FP_TX_BURSTS (n : Nat) : Fld := ⟨0x100 + n, 0x78, 31, 0, .RO, .V, 0, 0⟩
/-- FPn.CRED_DEFER (R132). -/
def FP_CRED_DEFER (n : Nat) : Fld := ⟨0x100 + n, 0x7C, 31, 0, .RO, .V, 0, 0⟩
/-- FPn.ILIM_CNT (R132). -/
def FP_ILIM_CNT (n : Nat) : Fld := ⟨0x100 + n, 0x80, 31, 0, .RO, .V, 0, 0⟩
/-- FPn.JOIN_REFUSED (R132). -/
def FP_JOIN_REFUSED (n : Nat) : Fld := ⟨0x100 + n, 0x84, 31, 0, .RO, .V, 0, 0⟩
/-- FPn.LATE_CMD (R132). -/
def FP_LATE_CMD (n : Nat) : Fld := ⟨0x100 + n, 0x88, 31, 0, .RO, .V, 0, 0⟩
/-- FYn.BAND.SEL (R167). -/
def FY_BAND_SEL (n : Nat) : Fld := ⟨0x180 + n, 0x40, 0, 0, .RW, .P, 0, 0⟩
/-- FYn.COUPLE.MODE (R167). -/
def FY_COUPLE_MODE (n : Nat) : Fld := ⟨0x180 + n, 0x44, 1, 0, .RW, .P, 0, 0⟩
/-- FYn.COUPLE.PHASE (R167). -/
def FY_COUPLE_PHASE (n : Nat) : Fld := ⟨0x180 + n, 0x44, 5, 4, .RW, .P, 0, 0⟩
/-- FYn.COUPLE.EFF (R167). -/
def FY_COUPLE_EFF (n : Nat) : Fld := ⟨0x180 + n, 0x44, 9, 8, .RO, .V, 0, 0⟩
/-- FYn.TX_ATT (R167). -/
def FY_TX_ATT (n : Nat) : Fld := ⟨0x180 + n, 0x48, 7, 0, .RW, .P, 0, 0⟩
/-- FYn.RX_GAIN.FIXED (R167). -/
def FY_RX_GAIN_FIXED (n : Nat) : Fld := ⟨0x180 + n, 0x4C, 7, 0, .RW, .P, 0, 0⟩
/-- FYn.RX_GAIN.AGC (R167). -/
def FY_RX_GAIN_AGC (n : Nat) : Fld := ⟨0x180 + n, 0x4C, 8, 8, .RW, .P, 1, 0⟩
/-- FYn.CMASKw (R167). -/
def FY_CMASK (n : Nat) (k : Nat) : Fld := ⟨0x180 + n, 0x50 + 0x4 * k, 31, 0, .RW, .P, 0, 0⟩
/-- FYn.IMP.TH (R167). -/
def FY_IMP_TH (n : Nat) : Fld := ⟨0x180 + n, 0x60, 7, 0, .RW, .P, 40, 0⟩
/-- FYn.IMP.MIN_RUN (R167). -/
def FY_IMP_MIN_RUN (n : Nat) : Fld := ⟨0x180 + n, 0x60, 11, 8, .RW, .P, 3, 0⟩
/-- FYn.IMP.GUARD (R167). -/
def FY_IMP_GUARD (n : Nat) : Fld := ⟨0x180 + n, 0x60, 23, 16, .RW, .P, 8, 0⟩
/-- FYn.LOAD.MARGIN (R167). -/
def FY_LOAD_MARGIN (n : Nat) : Fld := ⟨0x180 + n, 0x64, 7, 0, .RW, .P, 12, 0⟩
/-- FYn.LOAD.MAX_MODE (R167). -/
def FY_LOAD_MAX_MODE (n : Nat) : Fld := ⟨0x180 + n, 0x64, 10, 8, .RW, .P, 4, 0⟩
/-- FYn.CS_TH (R167). -/
def FY_CS_TH (n : Nat) : Fld := ⟨0x180 + n, 0x68, 7, 0, .RW, .P, 60, 0⟩
/-- FYn.IMP_ALARM (R167). -/
def FY_IMP_ALARM (n : Nat) : Fld := ⟨0x180 + n, 0x6C, 15, 0, .RW, .P, 100, 0⟩
/-- FYn.LAST.SNR (R167). -/
def FY_LAST_SNR (n : Nat) : Fld := ⟨0x180 + n, 0x70, 7, 0, .RO, .V, 0, 0⟩
/-- FYn.LAST.BLANKED (R167). -/
def FY_LAST_BLANKED (n : Nat) : Fld := ⟨0x180 + n, 0x70, 15, 8, .RO, .V, 0, 0⟩
/-- FYn.LAST.MODE (R167). -/
def FY_LAST_MODE (n : Nat) : Fld := ⟨0x180 + n, 0x70, 18, 16, .RO, .V, 0, 0⟩
/-- FYn.RX_PREAMBLE (R167). -/
def FY_RX_PREAMBLE (n : Nat) : Fld := ⟨0x180 + n, 0x80, 31, 0, .RO, .V, 0, 0⟩
/-- FYn.RX_OK (R167). -/
def FY_RX_OK (n : Nat) : Fld := ⟨0x180 + n, 0x84, 31, 0, .RO, .V, 0, 0⟩
/-- FYn.RX_HDR_ERR (R167). -/
def FY_RX_HDR_ERR (n : Nat) : Fld := ⟨0x180 + n, 0x88, 31, 0, .RO, .V, 0, 0⟩
/-- FYn.RX_ABORT (R167). -/
def FY_RX_ABORT (n : Nat) : Fld := ⟨0x180 + n, 0x8C, 31, 0, .RO, .V, 0, 0⟩
/-- FYn.IMP_BLANK (R167). -/
def FY_IMP_BLANK (n : Nat) : Fld := ⟨0x180 + n, 0x90, 31, 0, .RO, .V, 0, 0⟩
/-- FYn.IMP_FRAMES (R167). -/
def FY_IMP_FRAMES (n : Nat) : Fld := ⟨0x180 + n, 0x94, 31, 0, .RO, .V, 0, 0⟩
/-- FYn.OVR_SLOTS (R167). -/
def FY_OVR_SLOTS (n : Nat) : Fld := ⟨0x180 + n, 0x98, 31, 0, .RO, .V, 0, 0⟩
/-- FMn.NET.ID (R168). -/
def FM_NET_ID (n : Nat) : Fld := ⟨0x140 + n, 0x40, 15, 0, .RW, .P, 65535, 0⟩
/-- FMn.CW.S3 (R168). -/
def FM_CW_S3 (n : Nat) : Fld := ⟨0x140 + n, 0x44, 7, 0, .RW, .P, 4, 0⟩
/-- FMn.CW.S2 (R168). -/
def FM_CW_S2 (n : Nat) : Fld := ⟨0x140 + n, 0x44, 15, 8, .RW, .P, 8, 0⟩
/-- FMn.CW.S1 (R168). -/
def FM_CW_S1 (n : Nat) : Fld := ⟨0x140 + n, 0x44, 23, 16, .RW, .P, 16, 0⟩
/-- FMn.CW.S0 (R168). -/
def FM_CW_S0 (n : Nat) : Fld := ⟨0x140 + n, 0x44, 31, 24, .RW, .P, 32, 0⟩
/-- FMn.RETRY.MAX (R168). -/
def FM_RETRY_MAX (n : Nat) : Fld := ⟨0x140 + n, 0x48, 3, 0, .RW, .P, 4, 0⟩
/-- FMn.RETRY.MAX_DEFER (R168). -/
def FM_RETRY_MAX_DEFER (n : Nat) : Fld := ⟨0x140 + n, 0x48, 15, 8, .RW, .P, 16, 0⟩
/-- FMn.RETRY.RECOVER_N (R168). -/
def FM_RETRY_RECOVER_N (n : Nat) : Fld := ⟨0x140 + n, 0x48, 23, 16, .RW, .P, 8, 0⟩
/-- FMn.ACK_TO (R168). -/
def FM_ACK_TO (n : Nat) : Fld := ⟨0x140 + n, 0x4C, 15, 0, .RW, .P, 0, 0⟩
/-- FMn.ACK_DEADLINE (R168). -/
def FM_ACK_DEADLINE (n : Nat) : Fld := ⟨0x140 + n, 0x50, 7, 0, .RW, .P, 150, 0⟩
/-- FMn.BCN_PERIOD (R168). -/
def FM_BCN_PERIOD (n : Nat) : Fld := ⟨0x140 + n, 0x54, 15, 0, .RW, .P, 2000, 0⟩
/-- FMn.ROUTE.MAX_HOPS (R168). -/
def FM_ROUTE_MAX_HOPS (n : Nat) : Fld := ⟨0x140 + n, 0x58, 3, 0, .RW, .P, 8, 0⟩
/-- FMn.ROUTE.HOP_COST (R168). -/
def FM_ROUTE_HOP_COST (n : Nat) : Fld := ⟨0x140 + n, 0x58, 15, 8, .RW, .P, 4, 0⟩
/-- FMn.ROUTE.PH_PEN (R168). -/
def FM_ROUTE_PH_PEN (n : Nat) : Fld := ⟨0x140 + n, 0x58, 23, 16, .RW, .P, 24, 0⟩
/-- FMn.ROUTE.HYST (R168). -/
def FM_ROUTE_HYST (n : Nat) : Fld := ⟨0x140 + n, 0x58, 31, 24, .RW, .P, 8, 0⟩
/-- FMn.RT_LIFE (R168). -/
def FM_RT_LIFE (n : Nat) : Fld := ⟨0x140 + n, 0x5C, 15, 0, .RW, .P, 360, 0⟩
/-- FMn.RT_WAIT (R168). -/
def FM_RT_WAIT (n : Nat) : Fld := ⟨0x140 + n, 0x5C, 31, 16, .RW, .P, 2000, 0⟩
/-- FMn.JOIN.PERMIT (R168). -/
def FM_JOIN_PERMIT (n : Nat) : Fld := ⟨0x140 + n, 0x60, 0, 0, .RW, .P, 1, 0⟩
/-- FMn.RT_CNT (R168). -/
def FM_RT_CNT (n : Nat) : Fld := ⟨0x140 + n, 0x64, 10, 0, .RO, .V, 0, 0⟩
/-- FMn.PIB_SEL.ID (R168). -/
def FM_PIB_SEL_ID (n : Nat) : Fld := ⟨0x140 + n, 0x70, 31, 16, .RW, .V, 0, 0⟩
/-- FMn.PIB_SEL.ADP (R168). -/
def FM_PIB_SEL_ADP (n : Nat) : Fld := ⟨0x140 + n, 0x70, 15, 15, .RW, .V, 0, 0⟩
/-- FMn.PIB_SEL.IDX (R168). -/
def FM_PIB_SEL_IDX (n : Nat) : Fld := ⟨0x140 + n, 0x70, 7, 0, .RW, .V, 0, 0⟩
/-- FMn.PIB_DATA (R168). -/
def FM_PIB_DATA (n : Nat) : Fld := ⟨0x140 + n, 0x74, 31, 0, .RW, .V, 0, 0⟩
/-- FMn.PIB_STAT (R168). -/
def FM_PIB_STAT (n : Nat) : Fld := ⟨0x140 + n, 0x78, 1, 0, .RO, .V, 0, 0⟩
/-- FMn.TX_FRAMES (R168). -/
def FM_TX_FRAMES (n : Nat) : Fld := ⟨0x140 + n, 0x80, 31, 0, .RO, .V, 0, 0⟩
/-- FMn.TX_RETRY (R168). -/
def FM_TX_RETRY (n : Nat) : Fld := ⟨0x140 + n, 0x84, 31, 0, .RO, .V, 0, 0⟩
/-- FMn.TX_FAIL (R168). -/
def FM_TX_FAIL (n : Nat) : Fld := ⟨0x140 + n, 0x88, 31, 0, .RO, .V, 0, 0⟩
/-- FMn.CA_FAIL (R168). -/
def FM_CA_FAIL (n : Nat) : Fld := ⟨0x140 + n, 0x8C, 31, 0, .RO, .V, 0, 0⟩
/-- FMn.ACK_WITHHELD (R168). -/
def FM_ACK_WITHHELD (n : Nat) : Fld := ⟨0x140 + n, 0x90, 31, 0, .RO, .V, 0, 0⟩
/-- FMn.RX_HOLD_DROP (R168). -/
def FM_RX_HOLD_DROP (n : Nat) : Fld := ⟨0x140 + n, 0x94, 31, 0, .RO, .V, 0, 0⟩
/-- FMn.RT_MISS (R168). -/
def FM_RT_MISS (n : Nat) : Fld := ⟨0x140 + n, 0x98, 31, 0, .RO, .V, 0, 0⟩
/-- FMn.FALLBACK (R168). -/
def FM_FALLBACK (n : Nat) : Fld := ⟨0x140 + n, 0x9C, 31, 0, .RO, .V, 0, 0⟩
/-- FMn.RT_SEL (R168). -/
def FM_RT_SEL (n : Nat) : Fld := ⟨0x140 + n, 0xA0, 9, 0, .RW, .V, 0, 0⟩
/-- FMn.RT_DATA0 (R168). -/
def FM_RT_DATA0 (n : Nat) : Fld := ⟨0x140 + n, 0xA4, 31, 0, .RO, .V, 0, 0⟩
/-- FMn.RT_DATA1 (R168). -/
def FM_RT_DATA1 (n : Nat) : Fld := ⟨0x140 + n, 0xA8, 31, 0, .RO, .V, 0, 0⟩
/-- FYn.SUN.PROFILE (R189). -/
def FY_SUN_PROFILE (n : Nat) : Fld := ⟨0x180 + n, 0x200, 1, 0, .RW, .P, 0, 0⟩
/-- FYn.SUN.PHY (R189). -/
def FY_SUN_PHY (n : Nat) : Fld := ⟨0x180 + n, 0x200, 6, 4, .RW, .P, 1, 0⟩
/-- FYn.SUN.MCS (R189). -/
def FY_SUN_MCS (n : Nat) : Fld := ⟨0x180 + n, 0x200, 10, 8, .RW, .P, 2, 0⟩
/-- FYn.SUN.FEC (R189). -/
def FY_SUN_FEC (n : Nat) : Fld := ⟨0x180 + n, 0x200, 12, 12, .RW, .P, 0, 0⟩
/-- FYn.SUN.WHITEN (R189). -/
def FY_SUN_WHITEN (n : Nat) : Fld := ⟨0x180 + n, 0x200, 13, 13, .RW, .P, 1, 0⟩
/-- FYn.SUN.PREAMBLE (R189). -/
def FY_SUN_PREAMBLE (n : Nat) : Fld := ⟨0x180 + n, 0x204, 7, 0, .RW, .P, 8, 0⟩
/-- FYn.SUN.ANT (R189). -/
def FY_SUN_ANT (n : Nat) : Fld := ⟨0x180 + n, 0x204, 9, 8, .RW, .P, 0, 0⟩
/-- FYn.SUN.TX_ATT (R189). -/
def FY_SUN_TX_ATT (n : Nat) : Fld := ⟨0x180 + n, 0x208, 7, 0, .RW, .P, 0, 0⟩
/-- FYn.SUN.RX_GAIN (R189). -/
def FY_SUN_RX_GAIN (n : Nat) : Fld := ⟨0x180 + n, 0x208, 15, 8, .RW, .P, 0, 0⟩
/-- FYn.SUN.AGC (R189). -/
def FY_SUN_AGC (n : Nat) : Fld := ⟨0x180 + n, 0x208, 16, 16, .RW, .P, 1, 0⟩
/-- FYn.SUN.LBT_TH (R189). -/
def FY_SUN_LBT_TH (n : Nat) : Fld := ⟨0x180 + n, 0x20C, 7, 0, .RW, .P, 70, 0⟩
/-- FYn.SUN.LBT_TIME (R189). -/
def FY_SUN_LBT_TIME (n : Nat) : Fld := ⟨0x180 + n, 0x20C, 31, 16, .RW, .P, 160, 0⟩
/-- FYn.SUN.MIN_BE (R189). -/
def FY_SUN_MIN_BE (n : Nat) : Fld := ⟨0x180 + n, 0x210, 3, 0, .RW, .P, 2, 0⟩
/-- FYn.SUN.MAX_BE (R189). -/
def FY_SUN_MAX_BE (n : Nat) : Fld := ⟨0x180 + n, 0x210, 7, 4, .RW, .P, 5, 0⟩
/-- FYn.SUN.MAX_CCA (R189). -/
def FY_SUN_MAX_CCA (n : Nat) : Fld := ⟨0x180 + n, 0x210, 15, 8, .RW, .P, 4, 0⟩
/-- FYn.SUN.BO_UNIT (R189). -/
def FY_SUN_BO_UNIT (n : Nat) : Fld := ⟨0x180 + n, 0x210, 31, 16, .RW, .P, 250, 0⟩
/-- FYn.SUN.C_FIRST (R189). -/
def FY_SUN_C_FIRST (n : Nat) : Fld := ⟨0x180 + n, 0x220, 31, 0, .RW, .P, 0, 0⟩
/-- FYn.SUN.C_SPACING (R189). -/
def FY_SUN_C_SPACING (n : Nat) : Fld := ⟨0x180 + n, 0x224, 23, 0, .RW, .P, 0, 0⟩
/-- FYn.SUN.C_N (R189). -/
def FY_SUN_C_N (n : Nat) : Fld := ⟨0x180 + n, 0x228, 7, 0, .RW, .P, 0, 0⟩
/-- FYn.SUN.C_MIN_CH (R189). -/
def FY_SUN_C_MIN_CH (n : Nat) : Fld := ⟨0x180 + n, 0x228, 15, 8, .RW, .P, 1, 0⟩
/-- FYn.SUN.C_BURST_MAX (R189). -/
def FY_SUN_C_BURST_MAX (n : Nat) : Fld := ⟨0x180 + n, 0x228, 31, 16, .RW, .P, 200, 0⟩
/-- FYn.SUN.C_DWELL_MAX (R189). -/
def FY_SUN_C_DWELL_MAX (n : Nat) : Fld := ⟨0x180 + n, 0x22C, 15, 0, .RW, .P, 400, 0⟩
/-- FYn.SUN.C_DWELL_WIN (R189). -/
def FY_SUN_C_DWELL_WIN (n : Nat) : Fld := ⟨0x180 + n, 0x22C, 31, 16, .RW, .P, 10, 0⟩
/-- FYn.SUN.C_DUTY (R189). -/
def FY_SUN_C_DUTY (n : Nat) : Fld := ⟨0x180 + n, 0x230, 9, 0, .RW, .P, 1000, 0⟩
/-- FYn.SUN.C_LBT_MIN (R189). -/
def FY_SUN_C_LBT_MIN (n : Nat) : Fld := ⟨0x180 + n, 0x230, 23, 16, .RW, .P, 160, 0⟩
/-- FYn.SUN.C_CONT_EXEMPT (R189). -/
def FY_SUN_C_CONT_EXEMPT (n : Nat) : Fld := ⟨0x180 + n, 0x230, 24, 24, .RW, .P, 1, 0⟩
/-- FYn.SUN.N_EFF (R189). -/
def FY_SUN_N_EFF (n : Nat) : Fld := ⟨0x180 + n, 0x240, 7, 0, .RO, .V, 0, 0⟩
/-- FYn.SUN.LAST.RSSI (R189). -/
def FY_SUN_LAST_RSSI (n : Nat) : Fld := ⟨0x180 + n, 0x244, 7, 0, .RO, .V, 0, 0⟩
/-- FYn.SUN.LAST.CH (R189). -/
def FY_SUN_LAST_CH (n : Nat) : Fld := ⟨0x180 + n, 0x244, 15, 8, .RO, .V, 0, 0⟩
/-- FYn.SUN_RX_OK (R189). -/
def FY_SUN_RX_OK (n : Nat) : Fld := ⟨0x180 + n, 0x280, 31, 0, .RO, .V, 0, 0⟩
/-- FYn.SUN_RX_PHR_ERR (R189). -/
def FY_SUN_RX_PHR_ERR (n : Nat) : Fld := ⟨0x180 + n, 0x284, 31, 0, .RO, .V, 0, 0⟩
/-- FYn.SUN_RX_ABORT (R189). -/
def FY_SUN_RX_ABORT (n : Nat) : Fld := ⟨0x180 + n, 0x288, 31, 0, .RO, .V, 0, 0⟩
/-- FYn.SUN.CCA_BUSY (R189). -/
def FY_SUN_CCA_BUSY (n : Nat) : Fld := ⟨0x180 + n, 0x28C, 31, 0, .RO, .V, 0, 0⟩
/-- FYn.SUN.CCA_FAIL (R189). -/
def FY_SUN_CCA_FAIL (n : Nat) : Fld := ⟨0x180 + n, 0x290, 31, 0, .RO, .V, 0, 0⟩
/-- FYn.SUN.DWELL_SKIP (R189). -/
def FY_SUN_DWELL_SKIP (n : Nat) : Fld := ⟨0x180 + n, 0x294, 31, 0, .RO, .V, 0, 0⟩
/-- FYn.SUN.DUTY_SKIP (R189). -/
def FY_SUN_DUTY_SKIP (n : Nat) : Fld := ⟨0x180 + n, 0x298, 31, 0, .RO, .V, 0, 0⟩
/-- FYn.SUN.DUTY_USED (R189). -/
def FY_SUN_DUTY_USED (n : Nat) : Fld := ⟨0x180 + n, 0x29C, 21, 0, .RO, .V, 0, 0⟩
/-- FMn.SUN.ROLE (R190). -/
def FM_SUN_ROLE (n : Nat) : Fld := ⟨0x140 + n, 0x200, 0, 0, .RW, .P, 0, 0⟩
/-- FMn.SUN.JOIN_PERMIT (R190). -/
def FM_SUN_JOIN_PERMIT (n : Nat) : Fld := ⟨0x140 + n, 0x200, 4, 4, .RW, .P, 1, 0⟩
/-- FMn.SUN.NET_ID (R190). -/
def FM_SUN_NET_ID (n : Nat) : Fld := ⟨0x140 + n, 0x204, 15, 0, .RW, .P, 65535, 0⟩
/-- FMn.SUN.ES (R190). -/
def FM_SUN_ES (n : Nat) : Fld := ⟨0x140 + n, 0x208, 15, 0, .RW, .P, 20000, 0⟩
/-- FMn.SUN.CI_EXP (R190). -/
def FM_SUN_CI_EXP (n : Nat) : Fld := ⟨0x140 + n, 0x208, 19, 16, .RW, .P, 11, 0⟩
/-- FMn.SUN.HOP (R190). -/
def FM_SUN_HOP (n : Nat) : Fld := ⟨0x140 + n, 0x20C, 15, 0, .RW, .P, 23, 0⟩
/-- FMn.SUN.SEED (R190). -/
def FM_SUN_SEED (n : Nat) : Fld := ⟨0x140 + n, 0x20C, 31, 16, .RW, .P, 0, 0⟩
/-- FMn.SUN.HOP_EFF (R190). -/
def FM_SUN_HOP_EFF (n : Nat) : Fld := ⟨0x140 + n, 0x210, 15, 0, .RO, .V, 0, 0⟩
/-- FMn.SUN.BCN_CHk (R190). -/
def FM_SUN_BCN_CHk (n : Nat) : Fld := ⟨0x140 + n, 0x214, 31, 0, .RW, .P, 0x3020100, 0⟩
/-- FMn.SUN.BCN_NUM (R190). -/
def FM_SUN_BCN_NUM (n : Nat) : Fld := ⟨0x140 + n, 0x218, 1, 0, .RW, .P, 1, 0⟩
/-- FMn.SUN.GUARD (R190). -/
def FM_SUN_GUARD (n : Nat) : Fld := ⟨0x140 + n, 0x21C, 15, 0, .RW, .P, 1000, 0⟩
/-- FMn.SUN.ANCHOR_WIN (R190). -/
def FM_SUN_ANCHOR_WIN (n : Nat) : Fld := ⟨0x140 + n, 0x21C, 31, 16, .RW, .P, 2000, 0⟩
/-- FMn.SUN.TIFS (R190). -/
def FM_SUN_TIFS (n : Nat) : Fld := ⟨0x140 + n, 0x220, 15, 0, .RW, .P, 1000, 0⟩
/-- FMn.SUN.ACK_DEADLINE (R190). -/
def FM_SUN_ACK_DEADLINE (n : Nat) : Fld := ⟨0x140 + n, 0x220, 31, 16, .RW, .P, 600, 0⟩
/-- FMn.SUN.SUP_TO (R190). -/
def FM_SUN_SUP_TO (n : Nat) : Fld := ⟨0x140 + n, 0x224, 31, 0, .RW, .P, 0x1FBD0, 0⟩
/-- FMn.SUN.RETRY (R190). -/
def FM_SUN_RETRY (n : Nat) : Fld := ⟨0x140 + n, 0x228, 3, 0, .RW, .P, 3, 0⟩
/-- FMn.SUN.BUSY_EV (R190). -/
def FM_SUN_BUSY_EV (n : Nat) : Fld := ⟨0x140 + n, 0x228, 11, 8, .RW, .P, 1, 0⟩
/-- FMn.SUN.CHMAPw (R190). -/
def FM_SUN_CHMAP (n : Nat) (k : Nat) : Fld := ⟨0x140 + n, 0x230 + 0x4 * k, 31, 0, .RW, .P, 0xFFFFFFFF, 0⟩
/-- FMn.SUN.MAP_CTL.APPLY (R190). -/
def FM_SUN_MAP_CTL_APPLY (n : Nat) : Fld := ⟨0x140 + n, 0x244, 0, 0, .WO, .V, 0, 0⟩
/-- FMn.SUN.MAP_CTL.AUTO (R190). -/
def FM_SUN_MAP_CTL_AUTO (n : Nat) : Fld := ⟨0x140 + n, 0x244, 1, 1, .RW, .P, 0, 0⟩
/-- FMn.SUN.MAP_VER (R190). -/
def FM_SUN_MAP_VER (n : Nat) : Fld := ⟨0x140 + n, 0x248, 7, 0, .RO, .V, 0, 0⟩
/-- FMn.SUN.MAP_PEND (R190). -/
def FM_SUN_MAP_PEND (n : Nat) : Fld := ⟨0x140 + n, 0x248, 8, 8, .RO, .V, 0, 0⟩
/-- FMn.SUN.CHMAP_EFFw (R190). -/
def FM_SUN_CHMAP_EFF (n : Nat) (k : Nat) : Fld := ⟨0x140 + n, 0x250 + 0x4 * k, 31, 0, .RO, .V, 0, 0⟩
/-- FMn.SUN.EC_LO (R190). -/
def FM_SUN_EC_LO (n : Nat) : Fld := ⟨0x140 + n, 0x264, 31, 0, .RO, .V, 0, 0⟩
/-- FMn.SUN.EC_HI (R190). -/
def FM_SUN_EC_HI (n : Nat) : Fld := ⟨0x140 + n, 0x268, 7, 0, .RO, .V, 0, 0⟩
/-- FMn.SUN.MSTATE (R190). -/
def FM_SUN_MSTATE (n : Nat) : Fld := ⟨0x140 + n, 0x26C, 2, 0, .RO, .V, 0, 0⟩
/-- FMn.SUN.MISSED (R190). -/
def FM_SUN_MISSED (n : Nat) : Fld := ⟨0x140 + n, 0x26C, 11, 8, .RO, .V, 0, 0⟩
/-- FMn.SUN.MY_ADDR (R190). -/
def FM_SUN_MY_ADDR (n : Nat) : Fld := ⟨0x140 + n, 0x270, 15, 0, .RO, .V, 0, 0⟩
/-- FMn.SUN.LAST_BCN_LO (R190). -/
def FM_SUN_LAST_BCN_LO (n : Nat) : Fld := ⟨0x140 + n, 0x274, 31, 0, .RO, .V, 0, 0⟩
/-- FMn.SUN.LAST_BCN_HI (R190). -/
def FM_SUN_LAST_BCN_HI (n : Nat) : Fld := ⟨0x140 + n, 0x278, 31, 0, .RO, .V, 0, 0⟩
/-- FMn.SUN.LAST_BCN_T_LO (R190). -/
def FM_SUN_LAST_BCN_T_LO (n : Nat) : Fld := ⟨0x140 + n, 0x27C, 31, 0, .RO, .V, 0, 0⟩
/-- FMn.SUN.LAST_BCN_T_HI (R190). -/
def FM_SUN_LAST_BCN_T_HI (n : Nat) : Fld := ⟨0x140 + n, 0x280, 31, 0, .RO, .V, 0, 0⟩
/-- FMn.SUN.LAST_BCN_Q (R190). -/
def FM_SUN_LAST_BCN_Q (n : Nat) : Fld := ⟨0x140 + n, 0x284, 7, 0, .RO, .V, 0, 0⟩
/-- FMn.SUN.CONN_LOST (R190). -/
def FM_SUN_CONN_LOST (n : Nat) : Fld := ⟨0x140 + n, 0x2A0, 31, 0, .RO, .V, 0, 0⟩
/-- FMn.SUN.SCHED_FULL (R190). -/
def FM_SUN_SCHED_FULL (n : Nat) : Fld := ⟨0x140 + n, 0x2A4, 31, 0, .RO, .V, 0, 0⟩
/-- FMn.SUN.MISSED_BCN (R190). -/
def FM_SUN_MISSED_BCN (n : Nat) : Fld := ⟨0x140 + n, 0x2A8, 31, 0, .RO, .V, 0, 0⟩
/-- FMn.SUN.RESYNC_CNT (R190). -/
def FM_SUN_RESYNC_CNT (n : Nat) : Fld := ⟨0x140 + n, 0x2AC, 31, 0, .RO, .V, 0, 0⟩
/-- FMn.SUN.BUSY_SENT (R190). -/
def FM_SUN_BUSY_SENT (n : Nat) : Fld := ⟨0x140 + n, 0x2B0, 31, 0, .RO, .V, 0, 0⟩
/-- FMn.SUN.BUSY_RCVD (R190). -/
def FM_SUN_BUSY_RCVD (n : Nat) : Fld := ⟨0x140 + n, 0x2B4, 31, 0, .RO, .V, 0, 0⟩
/-- FMn.SUN.HOLD_DROP (R190). -/
def FM_SUN_HOLD_DROP (n : Nat) : Fld := ⟨0x140 + n, 0x2B8, 31, 0, .RO, .V, 0, 0⟩
/-- FMn.SUN.TX_FAIL (R190). -/
def FM_SUN_TX_FAIL (n : Nat) : Fld := ⟨0x140 + n, 0x2BC, 31, 0, .RO, .V, 0, 0⟩
/-- FMn.SUN.ACK_WITHHELD (R190). -/
def FM_SUN_ACK_WITHHELD (n : Nat) : Fld := ⟨0x140 + n, 0x2C0, 31, 0, .RO, .V, 0, 0⟩
/-- FMn.SUN.CONN_SEL (R190). -/
def FM_SUN_CONN_SEL (n : Nat) : Fld := ⟨0x140 + n, 0x2D0, 9, 0, .RW, .V, 0, 0⟩
/-- FMn.SUN.CONN_DATA0 (R190). -/
def FM_SUN_CONN_DATA0 (n : Nat) : Fld := ⟨0x140 + n, 0x2D4, 31, 0, .RO, .V, 0, 0⟩
/-- FMn.SUN.CONN_DATA1 (R190). -/
def FM_SUN_CONN_DATA1 (n : Nat) : Fld := ⟨0x140 + n, 0x2D8, 31, 0, .RO, .V, 0, 0⟩
/-- GTE.CTL.LINK_REQ (R211). -/
def GTE_CTL_LINK_REQ : Fld := ⟨0x22, 0x40, 0, 0, .RW, .P, 1, 0⟩
/-- GTE.CTL.APP_REQ (R211). -/
def GTE_CTL_APP_REQ : Fld := ⟨0x22, 0x40, 1, 1, .RW, .P, 1, 0⟩
/-- GTE.NBR_USED (R211). -/
def GTE_NBR_USED : Fld := ⟨0x22, 0x44, 16, 0, .RO, .V, 0, 0⟩
/-- GTE.CKPT_PERIOD (R211). -/
def GTE_CKPT_PERIOD : Fld := ⟨0x22, 0x48, 15, 0, .RW, .P, 10, 0⟩
/-- GTE.ROLL_GRACE (R211). -/
def GTE_ROLL_GRACE : Fld := ⟨0x22, 0x4C, 23, 0, .RW, .P, 86400, 0⟩
/-- GTE.JOIN_MAX (R211). -/
def GTE_JOIN_MAX : Fld := ⟨0x22, 0x50, 6, 0, .RW, .P, 64, 0⟩
/-- GTE.JOIN_TO (R211). -/
def GTE_JOIN_TO : Fld := ⟨0x22, 0x50, 31, 16, .RW, .P, 30, 0⟩
/-- GTE.SEQ_WARN (R211). -/
def GTE_SEQ_WARN : Fld := ⟨0x22, 0x54, 31, 0, .RW, .P, 0xFFF00000, 0⟩
/-- GTE.NBR_SEL (R211). -/
def GTE_NBR_SEL : Fld := ⟨0x22, 0x60, 16, 0, .RW, .V, 0, 0⟩
/-- GTE.NBR_CMD.OP (R211). -/
def GTE_NBR_CMD_OP : Fld := ⟨0x22, 0x64, 2, 0, .WO, .V, 0, 0⟩
/-- GTE.NBR_EUI_HI (R211). -/
def GTE_NBR_EUI_HI : Fld := ⟨0x22, 0x68, 31, 0, .RW, .V, 0, 0⟩
/-- GTE.NBR_EUI_LO (R211). -/
def GTE_NBR_EUI_LO : Fld := ⟨0x22, 0x6C, 31, 0, .RW, .V, 0, 0⟩
/-- GTE.NBR_STAT.RES (R211). -/
def GTE_NBR_STAT_RES : Fld := ⟨0x22, 0x70, 3, 0, .RO, .V, 0, 0⟩
/-- GTE.NBR_STAT.IDX (R211). -/
def GTE_NBR_STAT_IDX : Fld := ⟨0x22, 0x70, 31, 16, .RO, .V, 0, 0⟩
/-- GTE.NBR_DATAw (R211). -/
def GTE_NBR_DATA (k : Nat) : Fld := ⟨0x22, 0x80 + 0x4 * k, 31, 0, .RO, .V, 0, 0⟩
/-- GTE.INST_WRAPw (R211). -/
def GTE_INST_WRAP (k : Nat) : Fld := ⟨0x22, 0xC0 + 0x4 * k, 31, 0, .WO, .V, 0, 0⟩
/-- GTE.INST_TGT.IDX (R211). -/
def GTE_INST_TGT_IDX : Fld := ⟨0x22, 0xE8, 16, 0, .RW, .V, 0, 0⟩
/-- GTE.INST_TGT.KEY (R211). -/
def GTE_INST_TGT_KEY : Fld := ⟨0x22, 0xE8, 22, 20, .RW, .V, 0, 0⟩
/-- GTE.INST_TGT.K256 (R211). -/
def GTE_INST_TGT_K256 : Fld := ⟨0x22, 0xE8, 24, 24, .RW, .V, 0, 0⟩
/-- GTE.INST_CTL.SLOT (R211). -/
def GTE_INST_CTL_SLOT : Fld := ⟨0x22, 0xEC, 7, 0, .RW, .V, 0, 0⟩
/-- GTE.INST_CTL.BUSY (R211). -/
def GTE_INST_CTL_BUSY : Fld := ⟨0x22, 0xEC, 30, 30, .RO, .V, 0, 0⟩
/-- GTE.INST_CTL.GO (R211). -/
def GTE_INST_CTL_GO : Fld := ⟨0x22, 0xEC, 31, 31, .WO, .V, 0, 0⟩
/-- GTE.INST_STAT (R211). -/
def GTE_INST_STAT : Fld := ⟨0x22, 0xF0, 3, 0, .RO, .V, 0, 0⟩
/-- GTE.LINK_OK (R211). -/
def GTE_LINK_OK : Fld := ⟨0x22, 0x100, 31, 0, .RO, .V, 0, 0⟩
/-- GTE.DUP_RX (R211). -/
def GTE_DUP_RX : Fld := ⟨0x22, 0x104, 31, 0, .RO, .V, 0, 0⟩
/-- GTE.REPLAY (R211). -/
def GTE_REPLAY : Fld := ⟨0x22, 0x108, 31, 0, .RO, .V, 0, 0⟩
/-- GTE.MIC_FAIL (R211). -/
def GTE_MIC_FAIL : Fld := ⟨0x22, 0x10C, 31, 0, .RO, .V, 0, 0⟩
/-- GTE.UNKNOWN (R211). -/
def GTE_UNKNOWN : Fld := ⟨0x22, 0x110, 31, 0, .RO, .V, 0, 0⟩
/-- GTE.WRONG_PORT (R211). -/
def GTE_WRONG_PORT : Fld := ⟨0x22, 0x114, 31, 0, .RO, .V, 0, 0⟩
/-- GTE.BLOCKED (R211). -/
def GTE_BLOCKED : Fld := ⟨0x22, 0x118, 31, 0, .RO, .V, 0, 0⟩
/-- GTE.APP_OK (R211). -/
def GTE_APP_OK : Fld := ⟨0x22, 0x120, 31, 0, .RO, .V, 0, 0⟩
/-- GTE.APP_DUP (R211). -/
def GTE_APP_DUP : Fld := ⟨0x22, 0x124, 31, 0, .RO, .V, 0, 0⟩
/-- GTE.APP_REPLAY (R211). -/
def GTE_APP_REPLAY : Fld := ⟨0x22, 0x128, 31, 0, .RO, .V, 0, 0⟩
/-- GTE.APP_TAG_FAIL (R211). -/
def GTE_APP_TAG_FAIL : Fld := ⟨0x22, 0x12C, 31, 0, .RO, .V, 0, 0⟩
/-- GTE.APP_NO_KEY (R211). -/
def GTE_APP_NO_KEY : Fld := ⟨0x22, 0x130, 31, 0, .RO, .V, 0, 0⟩
/-- GTE.APP_BAD_HDR (R211). -/
def GTE_APP_BAD_HDR : Fld := ⟨0x22, 0x134, 31, 0, .RO, .V, 0, 0⟩
/-- GTE.JOIN_TIMEOUT (R211). -/
def GTE_JOIN_TIMEOUT : Fld := ⟨0x22, 0x140, 31, 0, .RO, .V, 0, 0⟩
/-- GTE.JOIN_DEFER (R211). -/
def GTE_JOIN_DEFER : Fld := ⟨0x22, 0x144, 31, 0, .RO, .V, 0, 0⟩
/-- GTE.REBIND (R211). -/
def GTE_REBIND : Fld := ⟨0x22, 0x148, 31, 0, .RO, .V, 0, 0⟩
/-- GTE.DN_EXHAUST (R211). -/
def GTE_DN_EXHAUST : Fld := ⟨0x22, 0x14C, 31, 0, .RO, .V, 0, 0⟩
/-- GTE.CACHE_MISS (R211). -/
def GTE_CACHE_MISS : Fld := ⟨0x22, 0x150, 31, 0, .RO, .V, 0, 0⟩
/-- CRU.CTL.SCRUB_EN (R238). -/
def CRU_CTL_SCRUB_EN : Fld := ⟨0x20, 0x40, 0, 0, .RW, .P, 1, 0⟩
/-- CRU.FREE (R238). -/
def CRU_FREE : Fld := ⟨0x20, 0x44, 16, 0, .RO, .V, 65536, 0⟩
/-- CRU.RESV (R238). -/
def CRU_RESV : Fld := ⟨0x20, 0x48, 16, 0, .RO, .V, 0, 0⟩
/-- CRU.FREE_MIN (R238). -/
def CRU_FREE_MIN : Fld := ⟨0x20, 0x4C, 16, 0, .RC, .V, 65536, 0⟩
/-- CRU.BP_TH (R238). -/
def CRU_BP_TH (k : Nat) : Fld := ⟨0x20, 0x50 + 0x4 * k, 16, 0, .RW, .P, ([4096, 8192, 12288, 16384, 1024] : List Nat).getD k 0, 0⟩
/-- CRU.BP_HYST (R238). -/
def CRU_BP_HYST : Fld := ⟨0x20, 0x64, 15, 0, .RW, .P, 1024, 0⟩
/-- CRU.BP_STAT (R238). -/
def CRU_BP_STAT : Fld := ⟨0x20, 0x68, 4, 0, .RO, .V, 0, 0⟩
/-- CRU.MAXC (R238). -/
def CRU_MAXC (k : Nat) : Fld := ⟨0x20, 0x70 + 0x4 * k, 8, 0, .RW, .P, ([6, 256, 38, 256, 64] : List Nat).getD k 0, 0⟩
/-- CRU.HOST_LIM (R238). -/
def CRU_HOST_LIM : Fld := ⟨0x20, 0x84, 12, 0, .RW, .P, 4096, 0⟩
/-- CRU.SCRUB_PERIOD (R238). -/
def CRU_SCRUB_PERIOD : Fld := ⟨0x20, 0x90, 15, 0, .RW, .P, 60, 0⟩
/-- CRU.SCRUB_PASSES (R238). -/
def CRU_SCRUB_PASSES : Fld := ⟨0x20, 0x94, 31, 0, .RO, .V, 0, 0⟩
/-- CRU.COMMIT_CNT (R238). -/
def CRU_COMMIT_CNT : Fld := ⟨0x20, 0xA0, 31, 0, .RO, .V, 0, 0⟩
/-- CRU.REWIND (R238). -/
def CRU_REWIND : Fld := ⟨0x20, 0xA4, 31, 0, .RO, .V, 0, 0⟩
/-- CRU.OVERSIZE (R238). -/
def CRU_OVERSIZE : Fld := ⟨0x20, 0xA8, 31, 0, .RO, .V, 0, 0⟩
/-- CRU.POISON_DROP (R238). -/
def CRU_POISON_DROP : Fld := ⟨0x20, 0xAC, 31, 0, .RO, .V, 0, 0⟩
/-- CRU.FLUSHED (R238). -/
def CRU_FLUSHED : Fld := ⟨0x20, 0xB0, 31, 0, .RO, .V, 0, 0⟩
/-- CRU.HWIN_ERR (R238). -/
def CRU_HWIN_ERR : Fld := ⟨0x20, 0xB4, 31, 0, .RO, .V, 0, 0⟩
/-- CRU.QUAR_CNT (R238). -/
def CRU_QUAR_CNT : Fld := ⟨0x20, 0xB8, 15, 0, .RO, .V, 0, 0⟩
/-- CRU.RETIRED (R238). -/
def CRU_RETIRED : Fld := ⟨0x20, 0xBC, 15, 0, .RO, .S, 0, 0⟩
/-- CRU.UE_LOG.VALID (R238). -/
def CRU_UE_LOG_VALID : Fld := ⟨0x20, 0xC0, 31, 31, .W1C, .V, 0, 0⟩
/-- CRU.UE_LOG.KIND (R238). -/
def CRU_UE_LOG_KIND : Fld := ⟨0x20, 0xC0, 30, 29, .RO, .V, 0, 0⟩
/-- CRU.UE_LOG.WORD (R238). -/
def CRU_UE_LOG_WORD : Fld := ⟨0x20, 0xC0, 28, 24, .RO, .V, 0, 0⟩
/-- CRU.UE_LOG.CELL (R238). -/
def CRU_UE_LOG_CELL : Fld := ⟨0x20, 0xC0, 15, 0, .RO, .V, 0, 0⟩
/-- CRU.HWIN_LOG (R238). -/
def CRU_HWIN_LOG : Fld := ⟨0x20, 0xC4, 23, 0, .RO, .V, 0, 0⟩
/-- CRU.BANKk_CE (R238). -/
def CRU_BANK_CE (k : Nat) : Fld := ⟨0x20, 0x100 + 0x4 * k, 31, 0, .RO, .V, 0, 0⟩
/-- CRU.BANKk_STAT.STATE (R238). -/
def CRU_BANK_STAT_STATE (k : Nat) : Fld := ⟨0x20, 0x140 + 0x4 * k, 31, 30, .RO, .V, 0, 0⟩
/-- CRU.BANKk_STAT.LIVE (R238). -/
def CRU_BANK_STAT_LIVE (k : Nat) : Fld := ⟨0x20, 0x140 + 0x4 * k, 28, 16, .RO, .V, 0, 0⟩
/-- CRU.BANKk_STAT.QUAR (R238). -/
def CRU_BANK_STAT_QUAR (k : Nat) : Fld := ⟨0x20, 0x140 + 0x4 * k, 12, 0, .RO, .V, 0, 0⟩
/-- CRU.DRAIN_CTL.BANK (R238). -/
def CRU_DRAIN_CTL_BANK : Fld := ⟨0x20, 0x180, 3, 0, .WO, .V, 0, 0⟩
/-- CRU.DRAIN_CTL.GO (R238). -/
def CRU_DRAIN_CTL_GO : Fld := ⟨0x20, 0x180, 8, 8, .WO, .V, 0, 0⟩
/-- CRU.DRAIN_CTL.RELEASE (R238). -/
def CRU_DRAIN_CTL_RELEASE : Fld := ⟨0x20, 0x180, 9, 9, .WO, .V, 0, 0⟩
/-- CRU.DRAIN_STAT.RESULT (R238). -/
def CRU_DRAIN_STAT_RESULT : Fld := ⟨0x20, 0x184, 2, 0, .RO, .V, 0, 0⟩
/-- CRU.DRAIN_STAT.BUSY (R238). -/
def CRU_DRAIN_STAT_BUSY : Fld := ⟨0x20, 0x184, 7, 7, .RO, .V, 0, 0⟩
/-- CRU.DRAIN_STAT.MOVED (R238). -/
def CRU_DRAIN_STAT_MOVED : Fld := ⟨0x20, 0x184, 31, 16, .RO, .V, 0, 0⟩
/-- CRU.DRAIN_WAIT (R238). -/
def CRU_DRAIN_WAIT : Fld := ⟨0x20, 0x188, 15, 0, .RW, .P, 20, 0⟩
/-- CRU.DRAIN_TO (R238). -/
def CRU_DRAIN_TO : Fld := ⟨0x20, 0x188, 31, 16, .RW, .P, 100, 0⟩
/-- CRU.HCTX_k.ALLOC (R238). -/
def CRU_HCTX_ALLOC (k : Nat) : Fld := ⟨0x20, 0x200 + 0x40 * k, 4, 0, .WO, .V, 0, 0⟩
/-- CRU.HCTX_k.STAT.OPEN (R238). -/
def CRU_HCTX_STAT_OPEN (k : Nat) : Fld := ⟨0x20, 0x204 + 0x40 * k, 31, 31, .RO, .V, 0, 0⟩
/-- CRU.HCTX_k.STAT.FAIL (R238). -/
def CRU_HCTX_STAT_FAIL (k : Nat) : Fld := ⟨0x20, 0x204 + 0x40 * k, 30, 30, .RO, .V, 0, 0⟩
/-- CRU.HCTX_k.STAT.CELLS (R238). -/
def CRU_HCTX_STAT_CELLS (k : Nat) : Fld := ⟨0x20, 0x204 + 0x40 * k, 24, 16, .RO, .V, 0, 0⟩
/-- CRU.HCTX_k.STAT.HELD (R238). -/
def CRU_HCTX_STAT_HELD (k : Nat) : Fld := ⟨0x20, 0x204 + 0x40 * k, 12, 0, .RO, .V, 0, 0⟩
/-- CRU.HCTX_k.CELLw (R238). -/
def CRU_HCTX_CELL (k : Nat) (w : Nat) : Fld := ⟨0x20, 0x208 + 0x40 * k + 0x4 * w, 31, 0, .RO, .V, 0xFFFFFFFF, 0⟩
/-- CRU.HCTX_k.COMMIT.GO (R238). -/
def CRU_HCTX_COMMIT_GO (k : Nat) : Fld := ⟨0x20, 0x228 + 0x40 * k, 31, 31, .WO, .V, 0, 0⟩
/-- CRU.HCTX_k.COMMIT.QUEUE (R238). -/
def CRU_HCTX_COMMIT_QUEUE (k : Nat) : Fld := ⟨0x20, 0x228 + 0x40 * k, 25, 16, .WO, .V, 0, 0⟩
/-- CRU.HCTX_k.COMMIT.USED (R238). -/
def CRU_HCTX_COMMIT_USED (k : Nat) : Fld := ⟨0x20, 0x228 + 0x40 * k, 7, 0, .WO, .V, 0, 0⟩
/-- CRU.HCTX_k.ABORT (R238). -/
def CRU_HCTX_ABORT (k : Nat) : Fld := ⟨0x20, 0x22C + 0x40 * k, 0, 0, .WO, .V, 0, 0⟩
/-- CRU.HCTX_k.POP_Q (R238). -/
def CRU_HCTX_POP_Q (k : Nat) : Fld := ⟨0x20, 0x230 + 0x40 * k, 9, 0, .RW, .V, 0, 0⟩
/-- CRU.HCTX_k.POP_RES.VALID (R238). -/
def CRU_HCTX_POP_RES_VALID (k : Nat) : Fld := ⟨0x20, 0x234 + 0x40 * k, 31, 31, .RC, .V, 0, 0⟩
/-- CRU.HCTX_k.POP_RES.CELL (R238). -/
def CRU_HCTX_POP_RES_CELL (k : Nat) : Fld := ⟨0x20, 0x234 + 0x40 * k, 15, 0, .RC, .V, 0, 0⟩
/-- CRU.HCTX_k.FREE.GO (R238). -/
def CRU_HCTX_FREE_GO (k : Nat) : Fld := ⟨0x20, 0x238 + 0x40 * k, 31, 31, .WO, .V, 0, 0⟩
/-- CRU.HCTX_k.FREE.CELL (R238). -/
def CRU_HCTX_FREE_CELL (k : Nat) : Fld := ⟨0x20, 0x238 + 0x40 * k, 15, 0, .WO, .V, 0, 0⟩
/-- CRU.QSEL (R238). -/
def CRU_QSEL : Fld := ⟨0x20, 0x300, 9, 0, .RW, .V, 0, 0⟩
/-- CRU.QCFG.CONS (R238). -/
def CRU_QCFG_CONS (b : Nat) : Fld := ⟨0x20, 0x304, 2, 0, .RW, .P, 0, b⟩
/-- CRU.QCFG.IDX (R238). -/
def CRU_QCFG_IDX (b : Nat) : Fld := ⟨0x20, 0x304, 13, 8, .RW, .P, 0, b⟩
/-- CRU.QCFG.EN (R238). -/
def CRU_QCFG_EN (b : Nat) : Fld := ⟨0x20, 0x304, 16, 16, .RW, .P, 1, b⟩
/-- CRU.QWM.HIGH (R238). -/
def CRU_QWM_HIGH (b : Nat) : Fld := ⟨0x20, 0x308, 15, 0, .RW, .P, 0, b⟩
/-- CRU.QWM.LOW (R238). -/
def CRU_QWM_LOW (b : Nat) : Fld := ⟨0x20, 0x308, 31, 16, .RW, .P, 0, b⟩
/-- CRU.QDEPTH_C (R238). -/
def CRU_QDEPTH_C : Fld := ⟨0x20, 0x30C, 16, 0, .RO, .V, 0, 0⟩
/-- CRU.QDEPTH_P (R238). -/
def CRU_QDEPTH_P : Fld := ⟨0x20, 0x310, 16, 0, .RO, .V, 0, 0⟩
/-- CRU.QSTAT.XOFF (R238). -/
def CRU_QSTAT_XOFF : Fld := ⟨0x20, 0x314, 0, 0, .RO, .V, 0, 0⟩
/-- CRU.QSTAT.FAULT (R238). -/
def CRU_QSTAT_FAULT : Fld := ⟨0x20, 0x314, 1, 1, .RO, .V, 0, 0⟩
/-- CRU.QSEQ (R238). -/
def CRU_QSEQ : Fld := ⟨0x20, 0x318, 31, 0, .RO, .V, 0, 0⟩
/-- CRU.QHT.HEAD (R238). -/
def CRU_QHT_HEAD : Fld := ⟨0x20, 0x31C, 31, 16, .RO, .V, 65535, 0⟩
/-- CRU.QHT.TAIL (R238). -/
def CRU_QHT_TAIL : Fld := ⟨0x20, 0x31C, 15, 0, .RO, .V, 65535, 0⟩
/-- CRU.QCMD.OP (R238). -/
def CRU_QCMD_OP : Fld := ⟨0x20, 0x320, 1, 0, .WO, .V, 0, 0⟩
/-- CRU.LINK_SEL (R238). -/
def CRU_LINK_SEL : Fld := ⟨0x20, 0x3C0, 15, 0, .RW, .V, 0, 0⟩
/-- CRU.LINK_DATA (R238). -/
def CRU_LINK_DATA : Fld := ⟨0x20, 0x3C4, 31, 0, .RO, .V, 0, 0⟩
/-- PLN.CTL.FAIR_N (R258). -/
def PLN_CTL_FAIR_N : Fld := ⟨0x21, 0x40, 7, 0, .RW, .P, 16, 0⟩
/-- PLN.DESC_FREE (R258). -/
def PLN_DESC_FREE : Fld := ⟨0x21, 0x44, 14, 0, .RO, .V, 16384, 0⟩
/-- PLN.DFREE (R258). -/
def PLN_DFREE : Fld := ⟨0x21, 0x48, 15, 0, .RO, .V, 15872, 0⟩
/-- PLN.DFREE_MIN (R258). -/
def PLN_DFREE_MIN : Fld := ⟨0x21, 0x4C, 15, 0, .RC, .V, 15872, 0⟩
/-- PLN.FLOW_USED (R258). -/
def PLN_FLOW_USED : Fld := ⟨0x21, 0x50, 13, 0, .RO, .V, 0, 0⟩
/-- PLN.DBP_TH (R258). -/
def PLN_DBP_TH (k : Nat) : Fld := ⟨0x21, 0x54 + 0x4 * k, 14, 0, .RW, .P, ([1024, 2048, 3072, 4096, 256] : List Nat).getD k 0, 0⟩
/-- PLN.DBP_HYST (R258). -/
def PLN_DBP_HYST : Fld := ⟨0x21, 0x68, 11, 0, .RW, .P, 256, 0⟩
/-- PLN.INT_RSV (R258). -/
def PLN_INT_RSV : Fld := ⟨0x21, 0x6C, 11, 0, .RW, .P, 512, 0⟩
/-- PLN.BP_STAT.DESC (R258). -/
def PLN_BP_STAT_DESC : Fld := ⟨0x21, 0x70, 4, 0, .RO, .V, 0, 0⟩
/-- PLN.BP_STAT.ANY (R258). -/
def PLN_BP_STAT_ANY : Fld := ⟨0x21, 0x70, 12, 8, .RO, .V, 0, 0⟩
/-- PLN.FIELD_VMAX (R258). -/
def PLN_FIELD_VMAX : Fld := ⟨0x21, 0x74, 6, 0, .RW, .P, 8, 0⟩
/-- PLN.TASK_TO (R258). -/
def PLN_TASK_TO : Fld := ⟨0x21, 0x78, 15, 0, .RW, .P, 1000, 0⟩
/-- PLN.ENG_EN (R258). -/
def PLN_ENG_EN : Fld := ⟨0x21, 0x7C, 10, 0, .RW, .V, 2047, 0⟩
/-- PLN.CORE_EN (R258). -/
def PLN_CORE_EN : Fld := ⟨0x21, 0x80, 15, 0, .RW, .V, 65535, 0⟩
/-- PLN.BND_SETTLE (R258). -/
def PLN_BND_SETTLE : Fld := ⟨0x21, 0x84, 15, 0, .RW, .P, 1000, 0⟩
/-- PLN.BND_MAX (R258). -/
def PLN_BND_MAX : Fld := ⟨0x21, 0x88, 15, 0, .RW, .P, 10000, 0⟩
/-- PLN.BND_PRIO (R258). -/
def PLN_BND_PRIO : Fld := ⟨0x21, 0x8C, 3, 0, .RW, .P, 13, 0⟩
/-- PLN.BND_SUBS (R258). -/
def PLN_BND_SUBS : Fld := ⟨0x21, 0x8C, 11, 8, .RW, .P, 15, 0⟩
/-- PLN.BND_STAT.OUT (R258). -/
def PLN_BND_STAT_OUT : Fld := ⟨0x21, 0x90, 3, 0, .RO, .V, 0, 0⟩
/-- PLN.QSEL (R258). -/
def PLN_QSEL : Fld := ⟨0x21, 0x100, 9, 0, .RW, .V, 0, 0⟩
/-- PLN.QMAP.EN (R258). -/
def PLN_QMAP_EN (b : Nat) : Fld := ⟨0x21, 0x104, 0, 0, .RW, .P, 1, b⟩
/-- PLN.QMAP.ATOMIC (R258). -/
def PLN_QMAP_ATOMIC (b : Nat) : Fld := ⟨0x21, 0x104, 1, 1, .RW, .P, 1, b⟩
/-- PLN.QMAP.PRIO (R258). -/
def PLN_QMAP_PRIO (b : Nat) : Fld := ⟨0x21, 0x104, 7, 4, .RW, .P, 8, b⟩
/-- PLN.QMAP.ENTRY (R258). -/
def PLN_QMAP_ENTRY (b : Nat) : Fld := ⟨0x21, 0x104, 23, 16, .RW, .P, 0, b⟩
/-- PLN.CREATED (R258). -/
def PLN_CREATED : Fld := ⟨0x21, 0x180, 31, 0, .RO, .V, 0, 0⟩
/-- PLN.DISPATCHED (R258). -/
def PLN_DISPATCHED : Fld := ⟨0x21, 0x184, 31, 0, .RO, .V, 0, 0⟩
/-- PLN.CANCELLED (R258). -/
def PLN_CANCELLED : Fld := ⟨0x21, 0x188, 31, 0, .RO, .V, 0, 0⟩
/-- PLN.POISON (R258). -/
def PLN_POISON : Fld := ⟨0x21, 0x18C, 31, 0, .RO, .V, 0, 0⟩
/-- PLN.TIMEOUT (R258). -/
def PLN_TIMEOUT : Fld := ⟨0x21, 0x190, 31, 0, .RO, .V, 0, 0⟩
/-- PLN.AGAIN (R258). -/
def PLN_AGAIN : Fld := ⟨0x21, 0x194, 31, 0, .RO, .V, 0, 0⟩
/-- PLN.FLOW_WAIT (R258). -/
def PLN_FLOW_WAIT : Fld := ⟨0x21, 0x198, 31, 0, .RO, .V, 0, 0⟩
/-- PLN.BND_LATE (R258). -/
def PLN_BND_LATE : Fld := ⟨0x21, 0x19C, 31, 0, .RO, .V, 0, 0⟩
/-- PLN.BND_DONE (R258). -/
def PLN_BND_DONE : Fld := ⟨0x21, 0x1A0, 31, 0, .RO, .V, 0, 0⟩
/-- PLN.FAULT_LOG.VALID (R258). -/
def PLN_FAULT_LOG_VALID : Fld := ⟨0x21, 0x1B0, 31, 31, .W1C, .V, 0, 0⟩
/-- PLN.FAULT_LOG.CAUSE (R258). -/
def PLN_FAULT_LOG_CAUSE : Fld := ⟨0x21, 0x1B0, 27, 24, .RO, .V, 0, 0⟩
/-- PLN.FAULT_LOG.CORE (R258). -/
def PLN_FAULT_LOG_CORE : Fld := ⟨0x21, 0x1B0, 19, 16, .RO, .V, 0, 0⟩
/-- PLN.FAULT_LOG.DESC (R258). -/
def PLN_FAULT_LOG_DESC : Fld := ⟨0x21, 0x1B0, 13, 0, .RO, .V, 0, 0⟩
/-- PLN.DESC_SEL (R258). -/
def PLN_DESC_SEL : Fld := ⟨0x21, 0x1C0, 13, 0, .RW, .V, 0, 0⟩
/-- PLN.DESC_DATAw (R258). -/
def PLN_DESC_DATA (k : Nat) : Fld := ⟨0x21, 0x1C4 + 0x4 * k, 31, 0, .RO, .V, 0, 0⟩
/-- PLN.OBS_WIN (R258). -/
def PLN_OBS_WIN : Fld := ⟨0x21, 0x200, 15, 0, .RW, .P, 1000, 0⟩
/-- PLN.OBS_SEL (R258). -/
def PLN_OBS_SEL : Fld := ⟨0x21, 0x204, 3, 0, .RW, .V, 0, 0⟩
/-- PLN.OBS_READY (R258). -/
def PLN_OBS_READY : Fld := ⟨0x21, 0x208, 14, 0, .RO, .V, 0, 0⟩
/-- PLN.OBS_WAIT_MAX (R258). -/
def PLN_OBS_WAIT_MAX : Fld := ⟨0x21, 0x20C, 31, 0, .RO, .V, 0, 0⟩
/-- PLN.OBS_WAIT_AVG (R258). -/
def PLN_OBS_WAIT_AVG : Fld := ⟨0x21, 0x210, 31, 0, .RO, .V, 0, 0⟩
/-- PLN.ENG_INFL (R258). -/
def PLN_ENG_INFL (k : Nat) : Fld := ⟨0x21, 0x220 + 0x4 * k, 8, 0, .RO, .V, 0, 0⟩
/-- PLN.CORE_BUSY (R258). -/
def PLN_CORE_BUSY (k : Nat) : Fld := ⟨0x21, 0x280 + 0x4 * k, 9, 0, .RO, .V, 0, 0⟩
/-- PLN.SQk_BASE_LO (R258). -/
def PLN_SQ_BASE_LO (k : Nat) : Fld := ⟨0x21, 0x300 + 0x20 * k, 31, 0, .RW, .V, 0, 0⟩
/-- PLN.SQk_BASE_HI (R258). -/
def PLN_SQ_BASE_HI (k : Nat) : Fld := ⟨0x21, 0x304 + 0x20 * k, 31, 0, .RW, .V, 0, 0⟩
/-- PLN.CQk_BASE_LO (R258). -/
def PLN_CQ_BASE_LO (k : Nat) : Fld := ⟨0x21, 0x308 + 0x20 * k, 31, 0, .RW, .V, 0, 0⟩
/-- PLN.CQk_BASE_HI (R258). -/
def PLN_CQ_BASE_HI (k : Nat) : Fld := ⟨0x21, 0x30C + 0x20 * k, 31, 0, .RW, .V, 0, 0⟩
/-- PLN.SQk_SIZE (R258). -/
def PLN_SQ_SIZE (k : Nat) : Fld := ⟨0x21, 0x310 + 0x20 * k, 3, 0, .RW, .V, 0, 0⟩
/-- PLN.SQk_TAIL (R258). -/
def PLN_SQ_TAIL (k : Nat) : Fld := ⟨0x21, 0x314 + 0x20 * k, 11, 0, .RW, .V, 0, 0⟩
/-- PLN.SQk_HEAD (R258). -/
def PLN_SQ_HEAD (k : Nat) : Fld := ⟨0x21, 0x318 + 0x20 * k, 11, 0, .RO, .V, 0, 0⟩
/-- PLN.CQk_HEAD (R258). -/
def PLN_CQ_HEAD (k : Nat) : Fld := ⟨0x21, 0x31C + 0x20 * k, 11, 0, .RW, .V, 0, 0⟩
/-- ASY.CTL.EST_EN (R290). -/
def ASY_CTL_EST_EN : Fld := ⟨0x28, 0x40, 0, 0, .RW, .P, 1, 0⟩
/-- ASY.CTL.NOCLK_PROV (R290). -/
def ASY_CTL_NOCLK_PROV : Fld := ⟨0x28, 0x40, 1, 1, .RW, .P, 1, 0⟩
/-- ASY.EST_MAX (R290). -/
def ASY_EST_MAX : Fld := ⟨0x28, 0x44, 3, 0, .RW, .P, 4, 0⟩
/-- ASY.MONO_REBASE (R290). -/
def ASY_MONO_REBASE : Fld := ⟨0x28, 0x44, 11, 8, .RW, .P, 3, 0⟩
/-- ASY.CLK_TOL (R290). -/
def ASY_CLK_TOL : Fld := ⟨0x28, 0x48, 23, 0, .RW, .P, 10000, 0⟩
/-- ASY.RS_SEL (R290). -/
def ASY_RS_SEL : Fld := ⟨0x28, 0x50, 7, 0, .RW, .V, 0, 0⟩
/-- ASY.RS_MIN_LO (R290). -/
def ASY_RS_MIN_LO (b : Nat) : Fld := ⟨0x28, 0x54, 31, 0, .RW, .P, 0, b⟩
/-- ASY.RS_MIN_HI (R290). -/
def ASY_RS_MIN_HI (b : Nat) : Fld := ⟨0x28, 0x58, 31, 0, .RW, .P, 0x80000000, b⟩
/-- ASY.RS_MAX_LO (R290). -/
def ASY_RS_MAX_LO (b : Nat) : Fld := ⟨0x28, 0x5C, 31, 0, .RW, .P, 0xFFFFFFFF, b⟩
/-- ASY.RS_MAX_HI (R290). -/
def ASY_RS_MAX_HI (b : Nat) : Fld := ⟨0x28, 0x60, 31, 0, .RW, .P, 0x7FFFFFFF, b⟩
/-- ASY.RS_RATE_LO (R290). -/
def ASY_RS_RATE_LO (b : Nat) : Fld := ⟨0x28, 0x64, 31, 0, .RW, .P, 0, b⟩
/-- ASY.RS_RATE_HI (R290). -/
def ASY_RS_RATE_HI (b : Nat) : Fld := ⟨0x28, 0x68, 31, 0, .RW, .P, 0, b⟩
/-- ASY.RS_SUM_TOL (R290). -/
def ASY_RS_SUM_TOL (b : Nat) : Fld := ⟨0x28, 0x6C, 31, 0, .RW, .P, 0, b⟩
/-- ASY.RS_CTL.STRICT (R290). -/
def ASY_RS_CTL_STRICT (b : Nat) : Fld := ⟨0x28, 0x70, 7, 0, .RW, .P, 71, b⟩
/-- ASY.RS_CTL.MOD_EXP (R290). -/
def ASY_RS_CTL_MOD_EXP (b : Nat) : Fld := ⟨0x28, 0x70, 12, 8, .RW, .P, 0, b⟩
/-- ASY.VALUES (R290). -/
def ASY_VALUES : Fld := ⟨0x28, 0x80, 31, 0, .RO, .V, 0, 0⟩
/-- ASY.NOT_VALID (R290). -/
def ASY_NOT_VALID : Fld := ⟨0x28, 0x84, 31, 0, .RO, .V, 0, 0⟩
/-- ASY.ESTIMATES (R290). -/
def ASY_ESTIMATES : Fld := ⟨0x28, 0x88, 31, 0, .RO, .V, 0, 0⟩
/-- ASY.DUP_SUPP (R290). -/
def ASY_DUP_SUPP : Fld := ⟨0x28, 0x8C, 31, 0, .RO, .V, 0, 0⟩
/-- ASY.MONO_REBASED (R290). -/
def ASY_MONO_REBASED : Fld := ⟨0x28, 0x90, 31, 0, .RO, .V, 0, 0⟩
/-- ASY.RULE_CNTi (R290). -/
def ASY_RULE_CNT (k : Nat) : Fld := ⟨0x28, 0xA0 + 0x4 * k, 31, 0, .RO, .V, 0, 0⟩
/-- PRF.CTL.FB_FORCE (R291). -/
def PRF_CTL_FB_FORCE : Fld := ⟨0x29, 0x40, 0, 0, .RW, .P, 0, 0⟩
/-- PRF.FILE_LEN (R291). -/
def PRF_FILE_LEN : Fld := ⟨0x29, 0x44, 2, 0, .RW, .P, 3, 0⟩
/-- PRF.GRID_OFS (R291). -/
def PRF_GRID_OFS : Fld := ⟨0x29, 0x48, 11, 0, .RW, .P, 37, 0⟩
/-- PRF.CLOSE_LAG (R291). -/
def PRF_CLOSE_LAG : Fld := ⟨0x29, 0x4C, 2, 0, .RW, .P, 1, 0⟩
/-- PRF.RETAIN_D (R291). -/
def PRF_RETAIN_D : Fld := ⟨0x29, 0x50, 11, 0, .RW, .P, 396, 0⟩
/-- PRF.FB_TH (R291). -/
def PRF_FB_TH : Fld := ⟨0x29, 0x54, 7, 0, .RW, .P, 20, 0⟩
/-- PRF.STATE.FALLBACK (R291). -/
def PRF_STATE_FALLBACK : Fld := ⟨0x29, 0x58, 0, 0, .RO, .V, 0, 0⟩
/-- PRF.STATE.CAUSE (R291). -/
def PRF_STATE_CAUSE : Fld := ⟨0x29, 0x58, 3, 1, .RO, .V, 0, 0⟩
/-- PRF.STATE.SPANS (R291). -/
def PRF_STATE_SPANS : Fld := ⟨0x29, 0x58, 10, 8, .RO, .V, 0, 0⟩
/-- PRF.OUT_BATCH (R291). -/
def PRF_OUT_BATCH : Fld := ⟨0x29, 0x5C, 7, 0, .RW, .P, 8, 0⟩
/-- PRF.CH_SEL (R291). -/
def PRF_CH_SEL : Fld := ⟨0x29, 0x80, 18, 0, .RW, .V, 0, 0⟩
/-- PRF.CH_CFG.EN (R291). -/
def PRF_CH_CFG_EN (b : Nat) : Fld := ⟨0x29, 0x84, 0, 0, .RW, .P, 0, b⟩
/-- PRF.CH_CFG.KIND (R291). -/
def PRF_CH_CFG_KIND (b : Nat) : Fld := ⟨0x29, 0x84, 2, 1, .RW, .P, 0, b⟩
/-- PRF.CH_CFG.LEN (R291). -/
def PRF_CH_CFG_LEN (b : Nat) : Fld := ⟨0x29, 0x84, 6, 4, .RW, .P, 3, b⟩
/-- PRF.CH_CFG.RS (R291). -/
def PRF_CH_CFG_RS (b : Nat) : Fld := ⟨0x29, 0x84, 15, 8, .RW, .P, 0, b⟩
/-- PRF.CH_CFG.SUM_MASK (R291). -/
def PRF_CH_CFG_SUM_MASK (b : Nat) : Fld := ⟨0x29, 0x84, 23, 16, .RW, .P, 0, b⟩
/-- PRF.CH_CFG.SCALE (R291). -/
def PRF_CH_CFG_SCALE (b : Nat) : Fld := ⟨0x29, 0x84, 27, 24, .RW, .P, 0, b⟩
/-- PRF.CH_LSLOT (R291). -/
def PRF_CH_LSLOT : Fld := ⟨0x29, 0x88, 31, 0, .RO, .V, 0, 0⟩
/-- PRF.CH_LVAL_LO (R291). -/
def PRF_CH_LVAL_LO : Fld := ⟨0x29, 0x8C, 31, 0, .RO, .V, 0, 0⟩
/-- PRF.CH_LVAL_HI (R291). -/
def PRF_CH_LVAL_HI : Fld := ⟨0x29, 0x90, 31, 0, .RO, .V, 0, 0⟩
/-- PRF.Q_KEY.NODE (R291). -/
def PRF_Q_KEY_NODE : Fld := ⟨0x29, 0xA0, 15, 0, .RW, .V, 0, 0⟩
/-- PRF.Q_KEY.UNIT (R291). -/
def PRF_Q_KEY_UNIT : Fld := ⟨0x29, 0xA0, 21, 16, .RW, .V, 0, 0⟩
/-- PRF.Q_KEY.CH (R291). -/
def PRF_Q_KEY_CH : Fld := ⟨0x29, 0xA0, 30, 28, .RW, .V, 0, 0⟩
/-- PRF.Q_SLOT (R291). -/
def PRF_Q_SLOT : Fld := ⟨0x29, 0xA4, 31, 0, .RW, .V, 0, 0⟩
/-- PRF.Q_CTL.GO (R291). -/
def PRF_Q_CTL_GO : Fld := ⟨0x29, 0xA8, 31, 31, .WO, .V, 0, 0⟩
/-- PRF.Q_CTL.BUSY (R291). -/
def PRF_Q_CTL_BUSY : Fld := ⟨0x29, 0xA8, 30, 30, .RO, .V, 0, 0⟩
/-- PRF.Q_CTL.ANNEX (R291). -/
def PRF_Q_CTL_ANNEX : Fld := ⟨0x29, 0xA8, 15, 8, .RW, .V, 0, 0⟩
/-- PRF.Q_CTL.RES (R291). -/
def PRF_Q_CTL_RES : Fld := ⟨0x29, 0xA8, 3, 0, .RO, .V, 0, 0⟩
/-- PRF.Q_DATAw (R291). -/
def PRF_Q_DATA (k : Nat) : Fld := ⟨0x29, 0xB0 + 0x4 * k, 31, 0, .RO, .V, 0, 0⟩
/-- PRF.E_VAL_LO (R291). -/
def PRF_E_VAL_LO : Fld := ⟨0x29, 0xD0, 31, 0, .RW, .V, 0, 0⟩
/-- PRF.E_VAL_HI (R291). -/
def PRF_E_VAL_HI : Fld := ⟨0x29, 0xD4, 31, 0, .RW, .V, 0, 0⟩
/-- PRF.E_CTL.GO (R291). -/
def PRF_E_CTL_GO : Fld := ⟨0x29, 0xD8, 31, 31, .WO, .V, 0, 0⟩
/-- PRF.E_CTL.RES (R291). -/
def PRF_E_CTL_RES : Fld := ⟨0x29, 0xD8, 3, 0, .RO, .V, 0, 0⟩
/-- PRF.RECORDS (R291). -/
def PRF_RECORDS : Fld := ⟨0x29, 0x100, 31, 0, .RO, .V, 0, 0⟩
/-- PRF.GAPS (R291). -/
def PRF_GAPS : Fld := ⟨0x29, 0x104, 31, 0, .RO, .V, 0, 0⟩
/-- PRF.LATE (R291). -/
def PRF_LATE : Fld := ⟨0x29, 0x108, 31, 0, .RO, .V, 0, 0⟩
/-- PRF.REPEATED (R291). -/
def PRF_REPEATED : Fld := ⟨0x29, 0x10C, 31, 0, .RO, .V, 0, 0⟩
/-- PRF.BND_OFFGRID (R291). -/
def PRF_BND_OFFGRID : Fld := ⟨0x29, 0x110, 31, 0, .RO, .V, 0, 0⟩
/-- PRF.SPAN_DROP (R291). -/
def PRF_SPAN_DROP : Fld := ⟨0x29, 0x114, 31, 0, .RO, .V, 0, 0⟩
/-- PRF.FB_ENTRIES (R291). -/
def PRF_FB_ENTRIES : Fld := ⟨0x29, 0x118, 31, 0, .RO, .V, 0, 0⟩
/-- PRF.SLOTS_CLOSED (R291). -/
def PRF_SLOTS_CLOSED : Fld := ⟨0x29, 0x11C, 31, 0, .RO, .V, 0, 0⟩
/-- TAR.CTL.EN (R320). -/
def TAR_CTL_EN : Fld := ⟨0x2A, 0x40, 0, 0, .RW, .P, 0, 0⟩
/-- TAR.GEN.ACT (R320). -/
def TAR_GEN_ACT : Fld := ⟨0x2A, 0x44, 15, 0, .RO, .S, 0, 0⟩
/-- TAR.GEN.PEND (R320). -/
def TAR_GEN_PEND : Fld := ⟨0x2A, 0x44, 31, 16, .RO, .S, 0, 0⟩
/-- TAR.ACT_MIN (R320). -/
def TAR_ACT_MIN : Fld := ⟨0x2A, 0x48, 31, 0, .RO, .S, 0, 0⟩
/-- TAR.BP.MODE (R320). -/
def TAR_BP_MODE : Fld := ⟨0x2A, 0x4C, 1, 0, .RW, .P, 0, 0⟩
/-- TAR.BP.DAY (R320). -/
def TAR_BP_DAY : Fld := ⟨0x2A, 0x4C, 12, 8, .RW, .P, 1, 0⟩
/-- TAR.BP.MIN (R320). -/
def TAR_BP_MIN : Fld := ⟨0x2A, 0x4C, 26, 16, .RW, .P, 0, 0⟩
/-- TAR.CLOSE_GRACE (R320). -/
def TAR_CLOSE_GRACE : Fld := ⟨0x2A, 0x50, 15, 0, .RW, .P, 900, 0⟩
/-- TAR.HIST_N (R320). -/
def TAR_HIST_N : Fld := ⟨0x2A, 0x54, 4, 0, .RW, .P, 13, 0⟩
/-- TAR.CKPT_PERIOD (R320). -/
def TAR_CKPT_PERIOD : Fld := ⟨0x2A, 0x58, 15, 0, .RW, .P, 3600, 0⟩
/-- TAR.VZ (R320). -/
def TAR_VZ : Fld := ⟨0x2A, 0x5C, 31, 0, .RO, .S, 0, 0⟩
/-- TAR.BP_END (R320). -/
def TAR_BP_END : Fld := ⟨0x2A, 0x60, 31, 0, .RO, .S, 0, 0⟩
/-- TAR.CLOSE_STAT.BUSY (R320). -/
def TAR_CLOSE_STAT_BUSY : Fld := ⟨0x2A, 0x64, 31, 31, .RO, .V, 0, 0⟩
/-- TAR.SWEEP_LEFT (R320). -/
def TAR_SWEEP_LEFT : Fld := ⟨0x2A, 0x68, 20, 0, .RO, .V, 0, 0⟩
/-- TAR.ACCOUNTS (R320). -/
def TAR_ACCOUNTS : Fld := ⟨0x2A, 0x6C, 20, 0, .RO, .V, 0, 0⟩
/-- TAR.ACCRUALS (R320). -/
def TAR_ACCRUALS : Fld := ⟨0x2A, 0x70, 31, 0, .RO, .V, 0, 0⟩
/-- TAR.LATE_ACCR (R320). -/
def TAR_LATE_ACCR : Fld := ⟨0x2A, 0x74, 31, 0, .RO, .V, 0, 0⟩
/-- TAR.UNBOUND (R320). -/
def TAR_UNBOUND : Fld := ⟨0x2A, 0x78, 31, 0, .RO, .V, 0, 0⟩
/-- TAR.DEM_VOID (R320). -/
def TAR_DEM_VOID : Fld := ⟨0x2A, 0x7C, 31, 0, .RO, .V, 0, 0⟩
/-- TAR.CORR_NEG (R320). -/
def TAR_CORR_NEG : Fld := ⟨0x2A, 0x80, 31, 0, .RO, .V, 0, 0⟩
/-- TAR.OLD_SET (R320). -/
def TAR_OLD_SET : Fld := ⟨0x2A, 0x84, 31, 0, .RO, .V, 0, 0⟩
/-- OBJ.SESS_CHAL_LO (R321). -/
def OBJ_SESS_CHAL_LO (b : Nat) : Fld := ⟨0x2B, 0x40, 31, 0, .RO, .V, 0, b⟩
/-- OBJ.SESS_CHAL_HI (R321). -/
def OBJ_SESS_CHAL_HI (b : Nat) : Fld := ⟨0x2B, 0x44, 31, 0, .RO, .V, 0, b⟩
/-- OBJ.SESS_RESPw (R321). -/
def OBJ_SESS_RESP (k : Nat) (b : Nat) : Fld := ⟨0x2B, 0x48 + 0x4 * k, 31, 0, .WO, .V, 0, b⟩
/-- OBJ.SESS_CTL.ROLE (R321). -/
def OBJ_SESS_CTL_ROLE (b : Nat) : Fld := ⟨0x2B, 0x58, 2, 0, .WO, .V, 0, b⟩
/-- OBJ.SESS_CTL.OPEN (R321). -/
def OBJ_SESS_CTL_OPEN (b : Nat) : Fld := ⟨0x2B, 0x58, 8, 8, .WO, .V, 0, b⟩
/-- OBJ.SESS_CTL.CLOSE (R321). -/
def OBJ_SESS_CTL_CLOSE (b : Nat) : Fld := ⟨0x2B, 0x58, 9, 9, .WO, .V, 0, b⟩
/-- OBJ.SESS_STAT.ROLE (R321). -/
def OBJ_SESS_STAT_ROLE (b : Nat) : Fld := ⟨0x2B, 0x5C, 2, 0, .RO, .V, 4, b⟩
/-- OBJ.SESS_STAT.RES (R321). -/
def OBJ_SESS_STAT_RES (b : Nat) : Fld := ⟨0x2B, 0x5C, 9, 8, .RO, .V, 0, b⟩
/-- OBJ.ROLE_SLOT (R321). -/
def OBJ_ROLE_SLOT : Fld := ⟨0x2B, 0x60, 31, 0, .RW, .P, 0, 0⟩
/-- OBJ.REQ_OBIS_HI (R321). -/
def OBJ_REQ_OBIS_HI (b : Nat) : Fld := ⟨0x2B, 0x64, 31, 0, .RW, .V, 0, b⟩
/-- OBJ.REQ_OBIS_LO (R321). -/
def OBJ_REQ_OBIS_LO (b : Nat) : Fld := ⟨0x2B, 0x68, 31, 16, .RW, .V, 0, b⟩
/-- OBJ.REQ_ACCT (R321). -/
def OBJ_REQ_ACCT (b : Nat) : Fld := ⟨0x2B, 0x6C, 19, 0, .RW, .V, 0, b⟩
/-- OBJ.REQ_CTL.GO (R321). -/
def OBJ_REQ_CTL_GO (b : Nat) : Fld := ⟨0x2B, 0x70, 31, 31, .WO, .V, 0, b⟩
/-- OBJ.REQ_CTL.UNIT (R321). -/
def OBJ_REQ_CTL_UNIT (b : Nat) : Fld := ⟨0x2B, 0x70, 21, 16, .RW, .V, 0, b⟩
/-- OBJ.REQ_CTL.ATTR (R321). -/
def OBJ_REQ_CTL_ATTR (b : Nat) : Fld := ⟨0x2B, 0x70, 15, 8, .RW, .V, 0, b⟩
/-- OBJ.REQ_CTL.OP (R321). -/
def OBJ_REQ_CTL_OP (b : Nat) : Fld := ⟨0x2B, 0x70, 1, 0, .RW, .V, 0, b⟩
/-- OBJ.REQ_CELL (R321). -/
def OBJ_REQ_CELL (b : Nat) : Fld := ⟨0x2B, 0x74, 15, 0, .RW, .V, 65535, b⟩
/-- OBJ.REQ_ARG (R321). -/
def OBJ_REQ_ARG (b : Nat) : Fld := ⟨0x2B, 0x78, 31, 0, .RW, .V, 0, b⟩
/-- OBJ.REQ_STAT.BUSY (R321). -/
def OBJ_REQ_STAT_BUSY (b : Nat) : Fld := ⟨0x2B, 0x7C, 30, 30, .RO, .V, 0, b⟩
/-- OBJ.REQ_STAT.RES (R321). -/
def OBJ_REQ_STAT_RES (b : Nat) : Fld := ⟨0x2B, 0x7C, 3, 0, .RO, .V, 0, b⟩
/-- OBJ.RSP_DATAw (R321). -/
def OBJ_RSP_DATA (k : Nat) (b : Nat) : Fld := ⟨0x2B, 0x80 + 0x4 * k, 31, 0, .RO, .V, 0, b⟩
/-- OBJ.RSP_LEN (R321). -/
def OBJ_RSP_LEN (b : Nat) : Fld := ⟨0x2B, 0xC0, 15, 0, .RO, .V, 0, b⟩
/-- OBJ.RSP_Q (R321). -/
def OBJ_RSP_Q : Fld := ⟨0x2B, 0xC4, 9, 0, .RW, .P, 0, 0⟩
/-- OBJ.REQS (R321). -/
def OBJ_REQS : Fld := ⟨0x2B, 0xD0, 31, 0, .RO, .V, 0, 0⟩
/-- OBJ.DENIED (R321). -/
def OBJ_DENIED : Fld := ⟨0x2B, 0xD4, 31, 0, .RO, .V, 0, 0⟩
/-- LGL.CHECK_SHORT_HI (R322). -/
def LGL_CHECK_SHORT_HI : Fld := ⟨0x2C, 0x40, 31, 0, .RO, .V, 0, 0⟩
/-- LGL.CHECK_SHORT_LO (R322). -/
def LGL_CHECK_SHORT_LO : Fld := ⟨0x2C, 0x44, 31, 16, .RO, .V, 0, 0⟩
/-- LGL.FW_ID (R322). -/
def LGL_FW_ID : Fld := ⟨0x2C, 0x48, 31, 0, .RO, .V, 0, 0⟩
/-- LGL.EVT_CNT (R322). -/
def LGL_EVT_CNT : Fld := ⟨0x2C, 0x4C, 31, 0, .RO, .S, 0, 0⟩
/-- LGL.EVT_HEAD (R322). -/
def LGL_EVT_HEAD : Fld := ⟨0x2C, 0x50, 9, 0, .RO, .S, 0, 0⟩
/-- LGL.LOG.NEAR (R322). -/
def LGL_LOG_NEAR : Fld := ⟨0x2C, 0x54, 0, 0, .RO, .V, 0, 0⟩
/-- LGL.LOG.FULL (R322). -/
def LGL_LOG_FULL : Fld := ⟨0x2C, 0x54, 1, 1, .RO, .S, 0, 0⟩
/-- LGL.STAT.RUN (R322). -/
def LGL_STAT_RUN : Fld := ⟨0x2C, 0x58, 0, 0, .RO, .V, 0, 0⟩
/-- LGL.STAT.HALTED (R322). -/
def LGL_STAT_HALTED : Fld := ⟨0x2C, 0x58, 1, 1, .RO, .S, 0, 0⟩
/-- LGL.STAT.REPLAY (R322). -/
def LGL_STAT_REPLAY : Fld := ⟨0x2C, 0x58, 2, 2, .RO, .V, 0, 0⟩
/-- LGL.STAT.COMMIT_BUSY (R322). -/
def LGL_STAT_COMMIT_BUSY : Fld := ⟨0x2C, 0x58, 3, 3, .RO, .V, 0, 0⟩
/-- LGL.STAT.RESULT (R322). -/
def LGL_STAT_RESULT : Fld := ⟨0x2C, 0x58, 7, 4, .RO, .S, 0, 0⟩
/-- LGL.LGEN (R322). -/
def LGL_LGEN : Fld := ⟨0x2C, 0x5C, 31, 0, .RO, .S, 0, 0⟩
/-- LGL.LOCKSTEP_ERR (R322). -/
def LGL_LOCKSTEP_ERR : Fld := ⟨0x2C, 0x60, 15, 0, .RO, .S, 0, 0⟩
/-- HSH.COMP0 (R344). -/
def HSH_COMP0 : Fld := ⟨0x32, 0x40, 31, 0, .RO, .V, 0, 0⟩
/-- HSH.COMP1 (R344). -/
def HSH_COMP1 : Fld := ⟨0x32, 0x44, 31, 0, .RO, .V, 0, 0⟩
/-- HSH.INFL0 (R344). -/
def HSH_INFL0 : Fld := ⟨0x32, 0x48, 5, 0, .RO, .V, 0, 0⟩
/-- HSH.INFL1 (R344). -/
def HSH_INFL1 : Fld := ⟨0x32, 0x48, 13, 8, .RO, .V, 0, 0⟩
/-- HSH.HOST_OPS (R344). -/
def HSH_HOST_OPS : Fld := ⟨0x32, 0x4C, 31, 0, .RO, .V, 0, 0⟩
/-- HSH.BUSY0 (R344). -/
def HSH_BUSY0 : Fld := ⟨0x32, 0x50, 9, 0, .RO, .V, 0, 0⟩
/-- HSH.BUSY1 (R344). -/
def HSH_BUSY1 : Fld := ⟨0x32, 0x50, 25, 16, .RO, .V, 0, 0⟩
/-- PKE.SIGNS (R345). -/
def PKE_SIGNS : Fld := ⟨0x31, 0x40, 31, 0, .RO, .V, 0, 0⟩
/-- PKE.VERIFIES (R345). -/
def PKE_VERIFIES : Fld := ⟨0x31, 0x44, 31, 0, .RO, .V, 0, 0⟩
/-- PKE.VERIFY_FAIL (R345). -/
def PKE_VERIFY_FAIL : Fld := ⟨0x31, 0x48, 31, 0, .RO, .V, 0, 0⟩
/-- PKE.SLOT_DENY (R345). -/
def PKE_SLOT_DENY : Fld := ⟨0x31, 0x4C, 31, 0, .RO, .V, 0, 0⟩
/-- PKE.INFL (R345). -/
def PKE_INFL : Fld := ⟨0x31, 0x50, 3, 0, .RO, .V, 0, 0⟩
/-- PKE.QUEUED (R345). -/
def PKE_QUEUED : Fld := ⟨0x31, 0x54, 15, 0, .RO, .V, 0, 0⟩
/-- PKE.BUSY (R345). -/
def PKE_BUSY : Fld := ⟨0x31, 0x58, 9, 0, .RO, .V, 0, 0⟩
/-- HLM.SIGN_SLOT (R346). -/
def HLM_SIGN_SLOT : Fld := ⟨0x30, 0x40, 7, 0, .RW, .P, 0, 0⟩
/-- HLM.PART_MAX (R346). -/
def HLM_PART_MAX : Fld := ⟨0x30, 0x44, 20, 0, .RW, .P, 0x100000, 0⟩
/-- HLM.RETAIN_D (R346). -/
def HLM_RETAIN_D : Fld := ⟨0x30, 0x48, 11, 0, .RW, .P, 396, 0⟩
/-- HLM.RESEAL_GRACE (R346). -/
def HLM_RESEAL_GRACE : Fld := ⟨0x30, 0x4C, 15, 0, .RW, .P, 600, 0⟩
/-- HLM.STAT.SIGNER_OK (R346). -/
def HLM_STAT_SIGNER_OK : Fld := ⟨0x30, 0x50, 0, 0, .RO, .V, 0, 0⟩
/-- HLM.STAT.REBUILDING (R346). -/
def HLM_STAT_REBUILDING : Fld := ⟨0x30, 0x50, 1, 1, .RO, .V, 0, 0⟩
/-- HLM.STAT.PEND (R346). -/
def HLM_STAT_PEND : Fld := ⟨0x30, 0x50, 12, 8, .RO, .V, 0, 0⟩
/-- HLM.SEQ_LO (R346). -/
def HLM_SEQ_LO : Fld := ⟨0x30, 0x54, 31, 0, .RO, .S, 0, 0⟩
/-- HLM.SEQ_HI (R346). -/
def HLM_SEQ_HI : Fld := ⟨0x30, 0x58, 31, 0, .RO, .S, 0, 0⟩
/-- HLM.RSEQ_LO (R346). -/
def HLM_RSEQ_LO : Fld := ⟨0x30, 0x5C, 31, 0, .RO, .S, 0, 0⟩
/-- HLM.RSEQ_HI (R346). -/
def HLM_RSEQ_HI : Fld := ⟨0x30, 0x60, 31, 0, .RO, .S, 0, 0⟩
/-- HLM.KEYID (R346). -/
def HLM_KEYID : Fld := ⟨0x30, 0x64, 31, 0, .RO, .V, 0, 0⟩
/-- HLM.OPEN_NLEAF (R346). -/
def HLM_OPEN_NLEAF : Fld := ⟨0x30, 0x68, 20, 0, .RO, .V, 0, 0⟩
/-- HLM.OPEN_PART (R346). -/
def HLM_OPEN_PART : Fld := ⟨0x30, 0x6C, 15, 0, .RO, .V, 0, 0⟩
/-- HLM.LAST_DIGESTw (R346). -/
def HLM_LAST_DIGEST (k : Nat) : Fld := ⟨0x30, 0x70 + 0x4 * k, 31, 0, .RO, .S, 0, 0⟩
/-- HLM.SEALS (R346). -/
def HLM_SEALS : Fld := ⟨0x30, 0xA0, 31, 0, .RO, .V, 0, 0⟩
/-- HLM.REBUILT (R346). -/
def HLM_REBUILT : Fld := ⟨0x30, 0xA4, 31, 0, .RO, .V, 0, 0⟩
/-- HLM.PARTS (R346). -/
def HLM_PARTS : Fld := ⟨0x30, 0xA8, 31, 0, .RO, .V, 0, 0⟩
/-- HLM.RESEALS (R346). -/
def HLM_RESEALS : Fld := ⟨0x30, 0xAC, 31, 0, .RO, .V, 0, 0⟩
/-- HLM.UNIT_OK (R346). -/
def HLM_UNIT_OK : Fld := ⟨0x30, 0xB0, 31, 0, .RO, .V, 0, 0⟩
/-- HLM.UNIT_FAIL (R346). -/
def HLM_UNIT_FAIL : Fld := ⟨0x30, 0xB4, 31, 0, .RO, .V, 0, 0⟩
/-- HLM.CHAIN_BREAK (R346). -/
def HLM_CHAIN_BREAK : Fld := ⟨0x30, 0xB8, 31, 0, .RO, .V, 0, 0⟩
/-- HLM.LATE_UNIT (R346). -/
def HLM_LATE_UNIT : Fld := ⟨0x30, 0xBC, 31, 0, .RO, .V, 0, 0⟩
/-- HLM.SIGN_DENY (R346). -/
def HLM_SIGN_DENY : Fld := ⟨0x30, 0xC0, 31, 0, .RO, .V, 0, 0⟩
/-- HLM.PRQ_KEY.NODE (R346). -/
def HLM_PRQ_KEY_NODE : Fld := ⟨0x30, 0x100, 15, 0, .RW, .V, 0, 0⟩
/-- HLM.PRQ_KEY.UNIT (R346). -/
def HLM_PRQ_KEY_UNIT : Fld := ⟨0x30, 0x100, 21, 16, .RW, .V, 0, 0⟩
/-- HLM.PRQ_KEY.CH (R346). -/
def HLM_PRQ_KEY_CH : Fld := ⟨0x30, 0x100, 30, 28, .RW, .V, 0, 0⟩
/-- HLM.PRQ_SLOT (R346). -/
def HLM_PRQ_SLOT : Fld := ⟨0x30, 0x104, 31, 0, .RW, .V, 0, 0⟩
/-- HLM.PRQ_CTL.GO (R346). -/
def HLM_PRQ_CTL_GO : Fld := ⟨0x30, 0x108, 31, 31, .WO, .V, 0, 0⟩
/-- HLM.PRQ_CTL.BUSY (R346). -/
def HLM_PRQ_CTL_BUSY : Fld := ⟨0x30, 0x108, 30, 30, .RO, .V, 0, 0⟩
/-- HLM.PRQ_CTL.EXT (R346). -/
def HLM_PRQ_CTL_EXT : Fld := ⟨0x30, 0x108, 24, 24, .RW, .V, 0, 0⟩
/-- HLM.PRQ_CTL.ANNEX (R346). -/
def HLM_PRQ_CTL_ANNEX : Fld := ⟨0x30, 0x108, 15, 8, .RW, .V, 0, 0⟩
/-- HLM.PRQ_CTL.RES (R346). -/
def HLM_PRQ_CTL_RES : Fld := ⟨0x30, 0x108, 3, 0, .RO, .V, 0, 0⟩
/-- HLM.PRQ_Q (R346). -/
def HLM_PRQ_Q : Fld := ⟨0x30, 0x10C, 9, 0, .RW, .P, 0, 0⟩
/-- HLM.PRQ_LEN (R346). -/
def HLM_PRQ_LEN : Fld := ⟨0x30, 0x110, 11, 0, .RO, .V, 0, 0⟩
/-- TCH.CTL.EN (R373). -/
def TCH_CTL_EN : Fld := ⟨0x38, 0x40, 0, 0, .RW, .P, 0, 0⟩
/-- TCH.CTL.PH_AUTO (R373). -/
def TCH_CTL_PH_AUTO : Fld := ⟨0x38, 0x40, 1, 1, .RW, .P, 0, 0⟩
/-- TCH.CTL.MEM_AUTO (R373). -/
def TCH_CTL_MEM_AUTO : Fld := ⟨0x38, 0x40, 2, 2, .RW, .P, 0, 0⟩
/-- TCH.CTL.RES_RPT (R373). -/
def TCH_CTL_RES_RPT : Fld := ⟨0x38, 0x40, 3, 3, .RW, .P, 1, 0⟩
/-- TCH.LAG (R373). -/
def TCH_LAG : Fld := ⟨0x38, 0x44, 2, 0, .RW, .P, 1, 0⟩
/-- TCH.COV_MIN (R373). -/
def TCH_COV_MIN : Fld := ⟨0x38, 0x48, 9, 0, .RW, .P, 950, 0⟩
/-- TCH.CUSUM.K (R373). -/
def TCH_CUSUM_K : Fld := ⟨0x38, 0x4C, 15, 0, .RW, .P, 128, 0⟩
/-- TCH.CUSUM.H (R373). -/
def TCH_CUSUM_H : Fld := ⟨0x38, 0x4C, 31, 16, .RW, .P, 1280, 0⟩
/-- TCH.LEARN_N (R373). -/
def TCH_LEARN_N : Fld := ⟨0x38, 0x50, 15, 0, .RW, .P, 2688, 0⟩
/-- TCH.PH.WIN (R373). -/
def TCH_PH_WIN : Fld := ⟨0x38, 0x54, 5, 0, .RW, .P, 32, 0⟩
/-- TCH.PH.QUORUM (R373). -/
def TCH_PH_QUORUM : Fld := ⟨0x38, 0x54, 17, 8, .RW, .P, 750, 0⟩
/-- TCH.PH.TOL (R373). -/
def TCH_PH_TOL : Fld := ⟨0x38, 0x54, 31, 24, .RW, .P, 38, 0⟩
/-- TCH.CORR.K (R373). -/
def TCH_CORR_K : Fld := ⟨0x38, 0x58, 3, 0, .RW, .P, 7, 0⟩
/-- TCH.CORR.MIN (R373). -/
def TCH_CORR_MIN : Fld := ⟨0x38, 0x5C, 9, 0, .RW, .P, 800, 0⟩
/-- TCH.CORR.MARGIN (R373). -/
def TCH_CORR_MARGIN : Fld := ⟨0x38, 0x5C, 25, 16, .RW, .P, 50, 0⟩
/-- TCH.CORR_DAYS (R373). -/
def TCH_CORR_DAYS : Fld := ⟨0x38, 0x60, 3, 0, .RW, .P, 3, 0⟩
/-- TCH.STEP_W (R373). -/
def TCH_STEP_W : Fld := ⟨0x38, 0x64, 9, 0, .RW, .P, 96, 0⟩
/-- TCH.STEP_MIN (R373). -/
def TCH_STEP_MIN : Fld := ⟨0x38, 0x64, 25, 16, .RW, .P, 500, 0⟩
/-- TCH.ZERO_N (R373). -/
def TCH_ZERO_N : Fld := ⟨0x38, 0x68, 9, 0, .RW, .P, 96, 0⟩
/-- TCH.CAND_MAX (R373). -/
def TCH_CAND_MAX : Fld := ⟨0x38, 0x6C, 3, 0, .RW, .P, 8, 0⟩
/-- TCH.CKPT_PERIOD (R373). -/
def TCH_CKPT_PERIOD : Fld := ⟨0x38, 0x70, 15, 0, .RW, .P, 3600, 0⟩
/-- TCH.RPT_Q (R373). -/
def TCH_RPT_Q : Fld := ⟨0x38, 0x74, 9, 0, .RW, .P, 0, 0⟩
/-- TCH.GRP_USED (R373). -/
def TCH_GRP_USED : Fld := ⟨0x38, 0x78, 13, 0, .RO, .V, 0, 0⟩
/-- TCH.GRP_SEL (R373). -/
def TCH_GRP_SEL : Fld := ⟨0x38, 0x80, 12, 0, .RW, .V, 0, 0⟩
/-- TCH.GRP_CFG.EN (R373). -/
def TCH_GRP_CFG_EN (b : Nat) : Fld := ⟨0x38, 0x84, 0, 0, .RW, .P, 0, b⟩
/-- TCH.GRP_CFG.PHASES (R373). -/
def TCH_GRP_CFG_PHASES (b : Nat) : Fld := ⟨0x38, 0x84, 3, 1, .RW, .P, 7, b⟩
/-- TCH.GRP_CFG.LEN (R373). -/
def TCH_GRP_CFG_LEN (b : Nat) : Fld := ⟨0x38, 0x84, 6, 4, .RW, .P, 3, b⟩
/-- TCH.GRP_REF.NODE (R373). -/
def TCH_GRP_REF_NODE (b : Nat) : Fld := ⟨0x38, 0x88, 15, 0, .RW, .P, 65535, b⟩
/-- TCH.GRP_REF_CH.E1 (R373). -/
def TCH_GRP_REF_CH_E1 (b : Nat) : Fld := ⟨0x38, 0x8C, 2, 0, .RW, .P, 0, b⟩
/-- TCH.GRP_REF_CH.E2 (R373). -/
def TCH_GRP_REF_CH_E2 (b : Nat) : Fld := ⟨0x38, 0x8C, 6, 4, .RW, .P, 0, b⟩
/-- TCH.GRP_REF_CH.E3 (R373). -/
def TCH_GRP_REF_CH_E3 (b : Nat) : Fld := ⟨0x38, 0x8C, 10, 8, .RW, .P, 0, b⟩
/-- TCH.GRP_REF_CH.V1 (R373). -/
def TCH_GRP_REF_CH_V1 (b : Nat) : Fld := ⟨0x38, 0x8C, 14, 12, .RW, .P, 0, b⟩
/-- TCH.GRP_REF_CH.V2 (R373). -/
def TCH_GRP_REF_CH_V2 (b : Nat) : Fld := ⟨0x38, 0x8C, 18, 16, .RW, .P, 0, b⟩
/-- TCH.GRP_REF_CH.V3 (R373). -/
def TCH_GRP_REF_CH_V3 (b : Nat) : Fld := ⟨0x38, 0x8C, 22, 20, .RW, .P, 0, b⟩
/-- TCH.GRP_REF_CH.V_EN (R373). -/
def TCH_GRP_REF_CH_V_EN (b : Nat) : Fld := ⟨0x38, 0x8C, 24, 24, .RW, .P, 0, b⟩
/-- TCH.GRP_NBR01 (R373). -/
def TCH_GRP_NBR01 (b : Nat) : Fld := ⟨0x38, 0x90, 31, 0, .RW, .P, 0xFFFFFFFF, b⟩
/-- TCH.GRP_NBR23 (R373). -/
def TCH_GRP_NBR23 (b : Nat) : Fld := ⟨0x38, 0x94, 31, 0, .RW, .P, 0xFFFFFFFF, b⟩
/-- TCH.GRP_ZC_OFS (R373). -/
def TCH_GRP_ZC_OFS (b : Nat) : Fld := ⟨0x38, 0x98, 15, 0, .RW, .P, 0, b⟩
/-- TCH.GRP_MEMBERS (R373). -/
def TCH_GRP_MEMBERS : Fld := ⟨0x38, 0x9C, 10, 0, .RO, .V, 0, 0⟩
/-- TCH.PH_SEL (R373). -/
def TCH_PH_SEL : Fld := ⟨0x38, 0xA0, 1, 0, .RW, .V, 0, 0⟩
/-- TCH.MODEL_A (R373). -/
def TCH_MODEL_A : Fld := ⟨0x38, 0xA4, 31, 0, .RW, .V, 0, 0⟩
/-- TCH.MODEL_B (R373). -/
def TCH_MODEL_B : Fld := ⟨0x38, 0xA8, 31, 0, .RW, .V, 0, 0⟩
/-- TCH.SIGMA (R373). -/
def TCH_SIGMA : Fld := ⟨0x38, 0xAC, 31, 0, .RW, .V, 0, 0⟩
/-- TCH.DET.STATE (R373). -/
def TCH_DET_STATE : Fld := ⟨0x38, 0xB0, 2, 0, .RO, .V, 0, 0⟩
/-- TCH.DET.MSRC (R373). -/
def TCH_DET_MSRC : Fld := ⟨0x38, 0xB0, 5, 4, .RO, .V, 0, 0⟩
/-- TCH.DET.LEARN_CNT (R373). -/
def TCH_DET_LEARN_CNT : Fld := ⟨0x38, 0xB0, 31, 16, .RO, .V, 0, 0⟩
/-- TCH.CUSUM_POS (R373). -/
def TCH_CUSUM_POS : Fld := ⟨0x38, 0xB4, 15, 0, .RO, .V, 0, 0⟩
/-- TCH.CUSUM_NEG (R373). -/
def TCH_CUSUM_NEG : Fld := ⟨0x38, 0xB4, 31, 16, .RO, .V, 0, 0⟩
/-- TCH.MODEL_CTL.WRITE (R373). -/
def TCH_MODEL_CTL_WRITE : Fld := ⟨0x38, 0xB8, 0, 0, .WO, .V, 0, 0⟩
/-- TCH.MODEL_CTL.RELEARN (R373). -/
def TCH_MODEL_CTL_RELEARN : Fld := ⟨0x38, 0xB8, 1, 1, .WO, .V, 0, 0⟩
/-- TCH.MODEL_CTL.HOLD (R373). -/
def TCH_MODEL_CTL_HOLD : Fld := ⟨0x38, 0xB8, 2, 2, .WO, .V, 0, 0⟩
/-- TCH.MODEL_CTL.RESUME (R373). -/
def TCH_MODEL_CTL_RESUME : Fld := ⟨0x38, 0xB8, 3, 3, .WO, .V, 0, 0⟩
/-- TCH.LAST_R (R373). -/
def TCH_LAST_R : Fld := ⟨0x38, 0xBC, 31, 0, .RO, .V, 0, 0⟩
/-- TCH.LAST_STATUS (R373). -/
def TCH_LAST_STATUS : Fld := ⟨0x38, 0xC0, 15, 0, .RO, .V, 0, 0⟩
/-- TCH.LAST_COV (R373). -/
def TCH_LAST_COV : Fld := ⟨0x38, 0xC0, 25, 16, .RO, .V, 0, 0⟩
/-- TCH.LAST_ISTART (R373). -/
def TCH_LAST_ISTART : Fld := ⟨0x38, 0xC4, 31, 0, .RO, .V, 0, 0⟩
/-- TCH.MBR_SEL (R373). -/
def TCH_MBR_SEL : Fld := ⟨0x38, 0xD0, 9, 0, .RW, .V, 0, 0⟩
/-- TCH.MBR_CFG.NODE (R373). -/
def TCH_MBR_CFG_NODE (b : Nat) : Fld := ⟨0x38, 0xD4, 15, 0, .RW, .P, 0, b⟩
/-- TCH.MBR_CFG.CH (R373). -/
def TCH_MBR_CFG_CH (b : Nat) : Fld := ⟨0x38, 0xD4, 18, 16, .RW, .P, 0, b⟩
/-- TCH.MBR_CFG.VCH (R373). -/
def TCH_MBR_CFG_VCH (b : Nat) : Fld := ⟨0x38, 0xD4, 22, 20, .RW, .P, 0, b⟩
/-- TCH.MBR_CFG.V_EN (R373). -/
def TCH_MBR_CFG_V_EN (b : Nat) : Fld := ⟨0x38, 0xD4, 23, 23, .RW, .P, 0, b⟩
/-- TCH.MBR_CFG.CPH (R373). -/
def TCH_MBR_CFG_CPH (b : Nat) : Fld := ⟨0x38, 0xD4, 25, 24, .RW, .P, 0, b⟩
/-- TCH.MBR_CFG.DIR (R373). -/
def TCH_MBR_CFG_DIR (b : Nat) : Fld := ⟨0x38, 0xD4, 27, 26, .RW, .P, 0, b⟩
/-- TCH.MBR_CFG.EN (R373). -/
def TCH_MBR_CFG_EN (b : Nat) : Fld := ⟨0x38, 0xD4, 31, 31, .RW, .P, 0, b⟩
/-- TCH.MBR_STAT.LPH (R373). -/
def TCH_MBR_STAT_LPH : Fld := ⟨0x38, 0xD8, 1, 0, .RO, .V, 0, 0⟩
/-- TCH.MBR_STAT.LPH_VALID (R373). -/
def TCH_MBR_STAT_LPH_VALID : Fld := ⟨0x38, 0xD8, 2, 2, .RO, .V, 0, 0⟩
/-- TCH.MBR_STAT.MOVED (R373). -/
def TCH_MBR_STAT_MOVED : Fld := ⟨0x38, 0xD8, 3, 3, .RO, .V, 0, 0⟩
/-- TCH.MBR_STAT.CLASS (R373). -/
def TCH_MBR_STAT_CLASS : Fld := ⟨0x38, 0xD8, 13, 8, .RO, .V, 0, 0⟩
/-- TCH.MBR_STAT.OBS (R373). -/
def TCH_MBR_STAT_OBS : Fld := ⟨0x38, 0xD8, 21, 16, .RO, .V, 0, 0⟩
/-- TCH.MBR_CORR.R_OWN (R373). -/
def TCH_MBR_CORR_R_OWN : Fld := ⟨0x38, 0xDC, 15, 0, .RO, .V, 0, 0⟩
/-- TCH.MBR_CORR.R_BEST (R373). -/
def TCH_MBR_CORR_R_BEST : Fld := ⟨0x38, 0xDC, 31, 16, .RO, .V, 0, 0⟩
/-- TCH.MBR_BEST_GRP (R373). -/
def TCH_MBR_BEST_GRP : Fld := ⟨0x38, 0xE0, 15, 0, .RO, .V, 65535, 0⟩
/-- TCH.CONTRIB (R373). -/
def TCH_CONTRIB : Fld := ⟨0x38, 0x100, 31, 0, .RO, .V, 0, 0⟩
/-- TCH.LATE_CONTRIB (R373). -/
def TCH_LATE_CONTRIB : Fld := ⟨0x38, 0x104, 31, 0, .RO, .V, 0, 0⟩
/-- TCH.CLOSES (R373). -/
def TCH_CLOSES : Fld := ⟨0x38, 0x108, 31, 0, .RO, .V, 0, 0⟩
/-- TCH.UNFED (R373). -/
def TCH_UNFED : Fld := ⟨0x38, 0x10C, 31, 0, .RO, .V, 0, 0⟩
/-- TCH.ALARMS (R373). -/
def TCH_ALARMS : Fld := ⟨0x38, 0x110, 31, 0, .RO, .V, 0, 0⟩
/-- TCH.PH_OBS (R373). -/
def TCH_PH_OBS : Fld := ⟨0x38, 0x114, 31, 0, .RO, .V, 0, 0⟩
/-- TCH.PH_REJECT (R373). -/
def TCH_PH_REJECT : Fld := ⟨0x38, 0x118, 31, 0, .RO, .V, 0, 0⟩
/-- TCH.MOVES (R373). -/
def TCH_MOVES : Fld := ⟨0x38, 0x11C, 31, 0, .RO, .V, 0, 0⟩
/-- TCH.CFG_REFUSED (R373). -/
def TCH_CFG_REFUSED : Fld := ⟨0x38, 0x120, 31, 0, .RO, .V, 0, 0⟩
/-- TCH.RPT_LOST (R373). -/
def TCH_RPT_LOST : Fld := ⟨0x38, 0x124, 31, 0, .RO, .V, 0, 0⟩
/-- IGT.CTL.BG_EN (R395). -/
def IGT_CTL_BG_EN : Fld := ⟨0x40, 0x40, 0, 0, .RW, .P, 1, 0⟩
/-- IGT.CTL.WL_EN (R395). -/
def IGT_CTL_WL_EN : Fld := ⟨0x40, 0x40, 1, 1, .RW, .P, 1, 0⟩
/-- IGT.CTL.FORCE_WT (R395). -/
def IGT_CTL_FORCE_WT : Fld := ⟨0x40, 0x40, 2, 2, .RW, .P, 0, 0⟩
/-- IGT.GEOM.CH (R395). -/
def IGT_GEOM_CH : Fld := ⟨0x40, 0x44, 1, 0, .RO, .V, 0, 0⟩
/-- IGT.GEOM.CE (R395). -/
def IGT_GEOM_CE : Fld := ⟨0x40, 0x44, 4, 2, .RO, .V, 0, 0⟩
/-- IGT.GEOM.LUN (R395). -/
def IGT_GEOM_LUN : Fld := ⟨0x40, 0x44, 6, 5, .RO, .V, 0, 0⟩
/-- IGT.GEOM.PLANE (R395). -/
def IGT_GEOM_PLANE : Fld := ⟨0x40, 0x44, 9, 8, .RO, .V, 0, 0⟩
/-- IGT.GEOM.PAGE (R395). -/
def IGT_GEOM_PAGE : Fld := ⟨0x40, 0x44, 12, 12, .RO, .V, 0, 0⟩
/-- IGT.GEOM.PPB (R395). -/
def IGT_GEOM_PPB : Fld := ⟨0x40, 0x44, 28, 16, .RO, .V, 0, 0⟩
/-- IGT.BPL (R395). -/
def IGT_BPL : Fld := ⟨0x40, 0x48, 15, 0, .RO, .V, 0, 0⟩
/-- IGT.RAW_MIB (R395). -/
def IGT_RAW_MIB : Fld := ⟨0x40, 0x4C, 31, 0, .RO, .V, 0, 0⟩
/-- IGT.STATE.MODE (R395). -/
def IGT_STATE_MODE : Fld := ⟨0x40, 0x50, 2, 0, .RO, .V, 0, 0⟩
/-- IGT.STATE.TIER (R395). -/
def IGT_STATE_TIER : Fld := ⟨0x40, 0x50, 5, 4, .RO, .V, 2, 0⟩
/-- IGT.STATE.READY (R395). -/
def IGT_STATE_READY : Fld := ⟨0x40, 0x50, 8, 8, .RO, .V, 0, 0⟩
/-- IGT.FREE_PM (R395). -/
def IGT_FREE_PM : Fld := ⟨0x40, 0x54, 9, 0, .RO, .V, 0, 0⟩
/-- IGT.FREE_BLK (R395). -/
def IGT_FREE_BLK : Fld := ⟨0x40, 0x58, 31, 0, .RO, .V, 0, 0⟩
/-- IGT.GC.BG_TH (R395). -/
def IGT_GC_BG_TH : Fld := ⟨0x40, 0x5C, 9, 0, .RW, .P, 100, 0⟩
/-- IGT.GC.FG_TH (R395). -/
def IGT_GC_FG_TH : Fld := ⟨0x40, 0x5C, 25, 16, .RW, .P, 30, 0⟩
/-- IGT.FG_SHARE (R395). -/
def IGT_FG_SHARE : Fld := ⟨0x40, 0x60, 9, 0, .RW, .P, 250, 0⟩
/-- IGT.RD_LIMIT (R395). -/
def IGT_RD_LIMIT : Fld := ⟨0x40, 0x64, 31, 0, .RW, .P, 0x186A0, 0⟩
/-- IGT.REFRESH_BITS (R395). -/
def IGT_REFRESH_BITS : Fld := ⟨0x40, 0x68, 6, 0, .RW, .P, 48, 0⟩
/-- IGT.VERIFY_BITS (R395). -/
def IGT_VERIFY_BITS : Fld := ⟨0x40, 0x68, 14, 8, .RW, .P, 16, 0⟩
/-- IGT.RETRY_MAX (R395). -/
def IGT_RETRY_MAX : Fld := ⟨0x40, 0x68, 19, 16, .RW, .P, 7, 0⟩
/-- IGT.SCAN_DAYS (R395). -/
def IGT_SCAN_DAYS : Fld := ⟨0x40, 0x6C, 15, 0, .RW, .P, 30, 0⟩
/-- IGT.WL_SPREAD (R395). -/
def IGT_WL_SPREAD : Fld := ⟨0x40, 0x70, 15, 0, .RW, .P, 500, 0⟩
/-- IGT.JRNL_MIB (R395). -/
def IGT_JRNL_MIB : Fld := ⟨0x40, 0x74, 15, 0, .RW, .P, 4096, 0⟩
/-- IGT.JRNL_HIGH (R395). -/
def IGT_JRNL_HIGH : Fld := ⟨0x40, 0x74, 25, 16, .RW, .P, 750, 0⟩
/-- IGT.SPARE_PM (R395). -/
def IGT_SPARE_PM : Fld := ⟨0x40, 0x78, 9, 0, .RW, .P, 20, 0⟩
/-- IGT.SPARE_NOW (R395). -/
def IGT_SPARE_NOW : Fld := ⟨0x40, 0x7C, 31, 0, .RO, .V, 0, 0⟩
/-- IGT.DIRTY_MAX (R395). -/
def IGT_DIRTY_MAX : Fld := ⟨0x40, 0x80, 4, 0, .RW, .P, 24, 0⟩
/-- IGT.JTAIL_MAX (R395). -/
def IGT_JTAIL_MAX : Fld := ⟨0x40, 0x80, 12, 8, .RW, .P, 4, 0⟩
/-- IGT.DIRTY_EFF (R395). -/
def IGT_DIRTY_EFF : Fld := ⟨0x40, 0x84, 4, 0, .RO, .V, 0, 0⟩
/-- IGT.DIRTY_NOW (R395). -/
def IGT_DIRTY_NOW : Fld := ⟨0x40, 0x88, 15, 0, .RO, .V, 0, 0⟩
/-- IGT.JTAIL_NOW (R395). -/
def IGT_JTAIL_NOW : Fld := ⟨0x40, 0x88, 31, 16, .RO, .V, 0, 0⟩
/-- IGT.CAP.MARGIN (R395). -/
def IGT_CAP_MARGIN : Fld := ⟨0x40, 0x8C, 9, 0, .RW, .P, 200, 0⟩
/-- IGT.CAP.T_HOLD (R395). -/
def IGT_CAP_T_HOLD : Fld := ⟨0x40, 0x8C, 31, 16, .RO, .S, 50, 0⟩
/-- IGT.FLUSH_RATE (R395). -/
def IGT_FLUSH_RATE : Fld := ⟨0x40, 0x90, 15, 0, .RO, .V, 0, 0⟩
/-- IGT.CAP.HOLDUP_MW (R395). -/
def IGT_CAP_HOLDUP_MW : Fld := ⟨0x40, 0x90, 31, 16, .RW, .P, 6000, 0⟩
/-- IGT.CAP_CTL.GO (R395). -/
def IGT_CAP_CTL_GO : Fld := ⟨0x40, 0x94, 0, 0, .WO, .V, 0, 0⟩
/-- IGT.CAP_CTL.EN (R395). -/
def IGT_CAP_CTL_EN : Fld := ⟨0x40, 0x94, 1, 1, .RW, .P, 0, 0⟩
/-- IGT.CAP_CTL.PIN (R395). -/
def IGT_CAP_CTL_PIN : Fld := ⟨0x40, 0x94, 11, 8, .RW, .P, 0, 0⟩
/-- IGT.CAP_CTL.LOAD_MW (R395). -/
def IGT_CAP_CTL_LOAD_MW : Fld := ⟨0x40, 0x94, 31, 16, .RW, .P, 6000, 0⟩
/-- IGT.CAP.PERIOD_D (R395). -/
def IGT_CAP_PERIOD_D : Fld := ⟨0x40, 0x98, 15, 0, .RW, .P, 30, 0⟩
/-- IGT.CAP.RECHARGE_MS (R395). -/
def IGT_CAP_RECHARGE_MS : Fld := ⟨0x40, 0x98, 31, 16, .RW, .P, 2000, 0⟩
/-- IGT.CAP_STAT.RESULT (R395). -/
def IGT_CAP_STAT_RESULT : Fld := ⟨0x40, 0x9C, 2, 0, .RO, .S, 0, 0⟩
/-- IGT.CAP_STAT.BUSY (R395). -/
def IGT_CAP_STAT_BUSY : Fld := ⟨0x40, 0x9C, 3, 3, .RO, .V, 0, 0⟩
/-- IGT.CAP_STAT.T_TEST (R395). -/
def IGT_CAP_STAT_T_TEST : Fld := ⟨0x40, 0x9C, 31, 16, .RO, .S, 0, 0⟩
/-- IGT.CAP_LAST (R395). -/
def IGT_CAP_LAST : Fld := ⟨0x40, 0xA0, 31, 0, .RO, .S, 0, 0⟩
/-- IGT.PROG_AU (R395). -/
def IGT_PROG_AU : Fld := ⟨0x40, 0x100, 31, 0, .RO, .V, 0, 0⟩
/-- IGT.ERASES (R395). -/
def IGT_ERASES : Fld := ⟨0x40, 0x104, 31, 0, .RO, .V, 0, 0⟩
/-- IGT.GC_MOVED (R395). -/
def IGT_GC_MOVED : Fld := ⟨0x40, 0x108, 31, 0, .RO, .V, 0, 0⟩
/-- IGT.REFRESHES (R395). -/
def IGT_REFRESHES : Fld := ⟨0x40, 0x10C, 31, 0, .RO, .V, 0, 0⟩
/-- IGT.RETRIES (R395). -/
def IGT_RETRIES : Fld := ⟨0x40, 0x110, 31, 0, .RO, .V, 0, 0⟩
/-- IGT.ORPHANS (R395). -/
def IGT_ORPHANS : Fld := ⟨0x40, 0x114, 31, 0, .RO, .V, 0, 0⟩
/-- IGT.GROWN_BAD (R395). -/
def IGT_GROWN_BAD : Fld := ⟨0x40, 0x118, 31, 0, .RO, .S, 0, 0⟩
/-- IGT.FLUSH_OK (R395). -/
def IGT_FLUSH_OK : Fld := ⟨0x40, 0x11C, 31, 0, .RO, .S, 0, 0⟩
/-- IGT.FLUSH_SHORT (R395). -/
def IGT_FLUSH_SHORT : Fld := ⟨0x40, 0x120, 31, 0, .RO, .S, 0, 0⟩
/-- IGT.FG_MS (R395). -/
def IGT_FG_MS : Fld := ⟨0x40, 0x124, 31, 0, .RO, .V, 0, 0⟩
/-- IGT.JRNL_WAIT (R395). -/
def IGT_JRNL_WAIT : Fld := ⟨0x40, 0x128, 31, 0, .RO, .V, 0, 0⟩
/-- IGT.JRNL_USED (R395). -/
def IGT_JRNL_USED : Fld := ⟨0x40, 0x12C, 15, 0, .RO, .V, 0, 0⟩
/-- IGT.CE_REJECT (R395). -/
def IGT_CE_REJECT : Fld := ⟨0x40, 0x130, 7, 0, .RO, .V, 0, 0⟩
/-- CHN.CTL.EN_UP (R416). -/
def CHN_CTL_EN_UP : Fld := ⟨0x48, 0x40, 0, 0, .RW, .P, 0, 0⟩
/-- CHN.CTL.EN_DN (R416). -/
def CHN_CTL_EN_DN : Fld := ⟨0x48, 0x40, 1, 1, .RW, .P, 0, 0⟩
/-- CHN.CTL.ADDR_ACCEPT (R416). -/
def CHN_CTL_ADDR_ACCEPT : Fld := ⟨0x48, 0x40, 2, 2, .W1S, .V, 0, 0⟩
/-- CHN.ADDR (R416). -/
def CHN_ADDR : Fld := ⟨0x48, 0x44, 5, 0, .RO, .V, 63, 0⟩
/-- CHN.ADDR_PREV (R416). -/
def CHN_ADDR_PREV : Fld := ⟨0x48, 0x44, 13, 8, .RO, .S, 63, 0⟩
/-- CHN.STAT.UP (R416). -/
def CHN_STAT_UP : Fld := ⟨0x48, 0x48, 1, 0, .RO, .V, 0, 0⟩
/-- CHN.STAT.DN (R416). -/
def CHN_STAT_DN : Fld := ⟨0x48, 0x48, 3, 2, .RO, .V, 0, 0⟩
/-- CHN.STAT.NOADDR (R416). -/
def CHN_STAT_NOADDR : Fld := ⟨0x48, 0x48, 4, 4, .RO, .V, 0, 0⟩
/-- CHN.STAT.ADDR_CHANGED (R416). -/
def CHN_STAT_ADDR_CHANGED : Fld := ⟨0x48, 0x48, 5, 5, .RO, .V, 0, 0⟩
/-- CHN.UNITS (R416). -/
def CHN_UNITS : Fld := ⟨0x48, 0x4C, 6, 0, .RO, .V, 0, 0⟩
/-- CHN.MTU (R416). -/
def CHN_MTU : Fld := ⟨0x48, 0x50, 15, 0, .RW, .P, 8000, 0⟩
/-- CHN.RX_CRED (R416). -/
def CHN_RX_CRED : Fld := ⟨0x48, 0x54, 7, 0, .RW, .P, 64, 0⟩
/-- CHN.RTX_TO (R416). -/
def CHN_RTX_TO : Fld := ⟨0x48, 0x58, 15, 0, .RW, .P, 100, 0⟩
/-- CHN.LINK_TO (R416). -/
def CHN_LINK_TO : Fld := ⟨0x48, 0x58, 31, 16, .RW, .P, 1000, 0⟩
/-- CHN.ENUM_TO (R416). -/
def CHN_ENUM_TO : Fld := ⟨0x48, 0x5C, 15, 0, .RW, .P, 100, 0⟩
/-- CHN.TBCN_PERIOD (R416). -/
def CHN_TBCN_PERIOD : Fld := ⟨0x48, 0x5C, 31, 16, .RW, .P, 1000, 0⟩
/-- CHN.BATCH_INFL (R416). -/
def CHN_BATCH_INFL : Fld := ⟨0x48, 0x60, 3, 0, .RW, .P, 2, 0⟩
/-- CHN.REQ_TO (R416). -/
def CHN_REQ_TO : Fld := ⟨0x48, 0x60, 31, 16, .RW, .P, 30, 0⟩
/-- CHN.UNIT_SEL (R416). -/
def CHN_UNIT_SEL : Fld := ⟨0x48, 0x64, 5, 0, .RW, .V, 0, 0⟩
/-- CHN.UNIT_STAT.STATE (R416). -/
def CHN_UNIT_STAT_STATE : Fld := ⟨0x48, 0x68, 1, 0, .RO, .V, 0, 0⟩
/-- CHN.UNIT_STAT.KEYS (R416). -/
def CHN_UNIT_STAT_KEYS : Fld := ⟨0x48, 0x68, 5, 4, .RO, .V, 0, 0⟩
/-- CHN.UNIT_STAT.HELD (R416). -/
def CHN_UNIT_STAT_HELD : Fld := ⟨0x48, 0x68, 12, 8, .RO, .V, 0, 0⟩
/-- CHN.UNIT_SEQ (R416). -/
def CHN_UNIT_SEQ : Fld := ⟨0x48, 0x6C, 31, 0, .RO, .V, 0, 0⟩
/-- CHN.UNIT_CMD (R416). -/
def CHN_UNIT_CMD : Fld := ⟨0x48, 0x70, 1, 0, .WO, .V, 0, 0⟩
/-- CHN.UNIT_KEY (R416). -/
def CHN_UNIT_KEY : Fld := ⟨0x48, 0x74, 31, 0, .RW, .V, 0, 0⟩
/-- CHN.NODES_USED (R416). -/
def CHN_NODES_USED : Fld := ⟨0x48, 0x78, 20, 0, .RO, .V, 0, 0⟩
/-- CHN.TX_FRAMES (R416). -/
def CHN_TX_FRAMES : Fld := ⟨0x48, 0x100, 31, 0, .RO, .V, 0, 0⟩
/-- CHN.RX_FRAMES (R416). -/
def CHN_RX_FRAMES : Fld := ⟨0x48, 0x104, 31, 0, .RO, .V, 0, 0⟩
/-- CHN.RX_DROP (R416). -/
def CHN_RX_DROP : Fld := ⟨0x48, 0x108, 31, 0, .RO, .V, 0, 0⟩
/-- CHN.MIC_FAIL (R416). -/
def CHN_MIC_FAIL : Fld := ⟨0x48, 0x10C, 31, 0, .RO, .V, 0, 0⟩
/-- CHN.RTX (R416). -/
def CHN_RTX : Fld := ⟨0x48, 0x110, 31, 0, .RO, .V, 0, 0⟩
/-- CHN.LINK_DOWN_CNT (R416). -/
def CHN_LINK_DOWN_CNT : Fld := ⟨0x48, 0x114, 31, 0, .RO, .V, 0, 0⟩
/-- CHN.BATCH_REQ (R416). -/
def CHN_BATCH_REQ : Fld := ⟨0x48, 0x118, 31, 0, .RO, .V, 0, 0⟩
/-- CHN.BATCH_FAIL (R416). -/
def CHN_BATCH_FAIL : Fld := ⟨0x48, 0x11C, 31, 0, .RO, .V, 0, 0⟩
/-- CHN.UNREG_REC (R416). -/
def CHN_UNREG_REC : Fld := ⟨0x48, 0x120, 31, 0, .RO, .V, 0, 0⟩
/-- CHN.TSj_LO (R416). -/
def CHN_TS_LO (k : Nat) : Fld := ⟨0x48, 0x140 + 0x10 * k, 31, 0, .RO, .V, 0, 0⟩
/-- CHN.TSj_HI (R416). -/
def CHN_TS_HI (k : Nat) : Fld := ⟨0x48, 0x144 + 0x10 * k, 31, 0, .RO, .V, 0, 0⟩
/-- CHN.TSj_INFO.VALID (R416). -/
def CHN_TS_INFO_VALID (k : Nat) : Fld := ⟨0x48, 0x148 + 0x10 * k, 31, 31, .RO, .V, 0, 0⟩
/-- CHN.TSj_INFO.TYPE (R416). -/
def CHN_TS_INFO_TYPE (k : Nat) : Fld := ⟨0x48, 0x148 + 0x10 * k, 27, 24, .RO, .V, 0, 0⟩
/-- CHN.TSj_SEQ (R416). -/
def CHN_TS_SEQ (k : Nat) : Fld := ⟨0x48, 0x14C + 0x10 * k, 31, 0, .RO, .V, 0, 0⟩
/-- ETH.p.CTL.EN (R417). -/
def ETH_CTL_EN (k : Nat) : Fld := ⟨0x49, 0x100 + 0x100 * k, 0, 0, .RW, .P, 0, 0⟩
/-- ETH.p.CTL.MODE (R417). -/
def ETH_CTL_MODE (k : Nat) : Fld := ⟨0x49, 0x100 + 0x100 * k, 5, 4, .RW, .P, 0, 0⟩
/-- ETH.p.MAC_LO (R417). -/
def ETH_MAC_LO (k : Nat) : Fld := ⟨0x49, 0x104 + 0x100 * k, 31, 0, .RW, .P, 0, 0⟩
/-- ETH.p.MAC_HI (R417). -/
def ETH_MAC_HI (k : Nat) : Fld := ⟨0x49, 0x108 + 0x100 * k, 15, 0, .RW, .P, 0, 0⟩
/-- ETH.p.MAXLEN (R417). -/
def ETH_MAXLEN (k : Nat) : Fld := ⟨0x49, 0x10C + 0x100 * k, 13, 0, .RW, .P, 1522, 0⟩
/-- ETH.p.MC_HASH_LO (R417). -/
def ETH_MC_HASH_LO (k : Nat) : Fld := ⟨0x49, 0x110 + 0x100 * k, 31, 0, .RW, .P, 0, 0⟩
/-- ETH.p.MC_HASH_HI (R417). -/
def ETH_MC_HASH_HI (k : Nat) : Fld := ⟨0x49, 0x114 + 0x100 * k, 31, 0, .RW, .P, 0, 0⟩
/-- ETH.p.PAUSE_Q (R417). -/
def ETH_PAUSE_Q (k : Nat) : Fld := ⟨0x49, 0x118 + 0x100 * k, 15, 0, .RW, .P, 8192, 0⟩
/-- ETH.p.PFC_EN (R417). -/
def ETH_PFC_EN (k : Nat) : Fld := ⟨0x49, 0x118 + 0x100 * k, 23, 16, .RW, .P, 0, 0⟩
/-- ETH.p.TXQ_c (R417). -/
def ETH_TXQ (k : Nat) (w : Nat) : Fld := ⟨0x49, 0x120 + 0x100 * k + 0x4 * w, 9, 0, .RW, .P, 0, 0⟩
/-- ETH.p.TXQ_c.EN (R417). -/
def ETH_TXQ_EN (k : Nat) (w : Nat) : Fld := ⟨0x49, 0x120 + 0x100 * k + 0x4 * w, 31, 31, .RW, .P, 0, 0⟩
/-- ETH.p.STAT.LINK (R417). -/
def ETH_STAT_LINK (k : Nat) : Fld := ⟨0x49, 0x140 + 0x100 * k, 1, 0, .RO, .V, 0, 0⟩
/-- ETH.p.STAT.SPEED (R417). -/
def ETH_STAT_SPEED (k : Nat) : Fld := ⟨0x49, 0x140 + 0x100 * k, 5, 4, .RO, .V, 0, 0⟩
/-- ETH.p.RX_FRAMES (R417). -/
def ETH_RX_FRAMES (k : Nat) : Fld := ⟨0x49, 0x144 + 0x100 * k, 31, 0, .RO, .V, 0, 0⟩
/-- ETH.p.TX_FRAMES (R417). -/
def ETH_TX_FRAMES (k : Nat) : Fld := ⟨0x49, 0x148 + 0x100 * k, 31, 0, .RO, .V, 0, 0⟩
/-- ETH.p.RX_FCS_ERR (R417). -/
def ETH_RX_FCS_ERR (k : Nat) : Fld := ⟨0x49, 0x14C + 0x100 * k, 31, 0, .RO, .V, 0, 0⟩
/-- ETH.p.RX_FILTERED (R417). -/
def ETH_RX_FILTERED (k : Nat) : Fld := ⟨0x49, 0x150 + 0x100 * k, 31, 0, .RO, .V, 0, 0⟩
/-- ETH.p.PAUSE_TX (R417). -/
def ETH_PAUSE_TX (k : Nat) : Fld := ⟨0x49, 0x154 + 0x100 * k, 31, 0, .RO, .V, 0, 0⟩
/-- ETH.p.PAUSE_RX (R417). -/
def ETH_PAUSE_RX (k : Nat) : Fld := ⟨0x49, 0x158 + 0x100 * k, 31, 0, .RO, .V, 0, 0⟩
/-- ETH.p.TSd_LO (R417). -/
def ETH_TS_LO (k : Nat) (w : Nat) : Fld := ⟨0x49, 0x160 + 0x100 * k + 0x10 * w, 31, 0, .RO, .V, 0, 0⟩
/-- ETH.p.TSd_HI (R417). -/
def ETH_TS_HI (k : Nat) (w : Nat) : Fld := ⟨0x49, 0x164 + 0x100 * k + 0x10 * w, 31, 0, .RO, .V, 0, 0⟩
/-- ETH.p.TSd_INFO.VALID (R417). -/
def ETH_TS_INFO_VALID (k : Nat) (w : Nat) : Fld := ⟨0x49, 0x168 + 0x100 * k + 0x10 * w, 31, 31, .RO, .V, 0, 0⟩
/-- ETH.p.TSd_INFO.MSGTYPE (R417). -/
def ETH_TS_INFO_MSGTYPE (k : Nat) (w : Nat) : Fld := ⟨0x49, 0x168 + 0x100 * k + 0x10 * w, 27, 24, .RO, .V, 0, 0⟩
/-- ETH.p.TSd_INFO.DOMAIN (R417). -/
def ETH_TS_INFO_DOMAIN (k : Nat) (w : Nat) : Fld := ⟨0x49, 0x168 + 0x100 * k + 0x10 * w, 23, 16, .RO, .V, 0, 0⟩
/-- ETH.p.TSd_INFO.SEQID (R417). -/
def ETH_TS_INFO_SEQID (k : Nat) (w : Nat) : Fld := ⟨0x49, 0x168 + 0x100 * k + 0x10 * w, 15, 0, .RO, .V, 0, 0⟩
/-- ETH.p.STS_OVF (R417). -/
def ETH_STS_OVF (k : Nat) : Fld := ⟨0x49, 0x180 + 0x100 * k, 31, 0, .RO, .V, 0, 0⟩
/-- MIR.CTL.EN (R443). -/
def MIR_CTL_EN : Fld := ⟨0x50, 0x40, 0, 0, .RW, .P, 0, 0⟩
/-- MIR.CTL.PRELOAD (R443). -/
def MIR_CTL_PRELOAD : Fld := ⟨0x50, 0x40, 1, 1, .RW, .P, 0, 0⟩
/-- MIR.HB_PERIOD (R443). -/
def MIR_HB_PERIOD : Fld := ⟨0x50, 0x44, 15, 0, .RW, .P, 1000, 0⟩
/-- MIR.HB_LOSS (R443). -/
def MIR_HB_LOSS : Fld := ⟨0x50, 0x44, 31, 16, .RW, .P, 5000, 0⟩
/-- MIR.SOLO_TO (R443). -/
def MIR_SOLO_TO : Fld := ⟨0x50, 0x48, 15, 0, .RW, .P, 2000, 0⟩
/-- MIR.SHIP_MAX (R443). -/
def MIR_SHIP_MAX : Fld := ⟨0x50, 0x48, 31, 16, .RW, .P, 100, 0⟩
/-- MIR.SYNC_LAG (R443). -/
def MIR_SYNC_LAG : Fld := ⟨0x50, 0x4C, 23, 0, .RW, .P, 10000, 0⟩
/-- MIR.HEALTH_PERIOD (R443). -/
def MIR_HEALTH_PERIOD : Fld := ⟨0x50, 0x50, 15, 0, .RW, .P, 1000, 0⟩
/-- MIR.COPY_RATE (R443). -/
def MIR_COPY_RATE : Fld := ⟨0x50, 0x54, 15, 0, .RW, .P, 400, 0⟩
/-- MIR.MTU (R443). -/
def MIR_MTU : Fld := ⟨0x50, 0x58, 15, 0, .RW, .P, 8000, 0⟩
/-- MIR.RX_CRED (R443). -/
def MIR_RX_CRED : Fld := ⟨0x50, 0x58, 23, 16, .RW, .P, 64, 0⟩
/-- MIR.STAT.LINK (R443). -/
def MIR_STAT_LINK : Fld := ⟨0x50, 0x5C, 1, 0, .RO, .V, 0, 0⟩
/-- MIR.STAT.PARTNER_HB (R443). -/
def MIR_STAT_PARTNER_HB : Fld := ⟨0x50, 0x5C, 4, 4, .RO, .V, 0, 0⟩
/-- MIR.STAT.SOLO (R443). -/
def MIR_STAT_SOLO : Fld := ⟨0x50, 0x5C, 5, 5, .RO, .V, 0, 0⟩
/-- MIR.STAT.ELIG (R443). -/
def MIR_STAT_ELIG : Fld := ⟨0x50, 0x5C, 6, 6, .RO, .V, 0, 0⟩
/-- MIR.STAT.SYNC (R443). -/
def MIR_STAT_SYNC : Fld := ⟨0x50, 0x5C, 9, 8, .RO, .S, 0, 0⟩
/-- MIR.STAT.PAIR_CFG (R443). -/
def MIR_STAT_PAIR_CFG : Fld := ⟨0x50, 0x5C, 10, 10, .RO, .V, 0, 0⟩
/-- MIR.TOP_LO (R443). -/
def MIR_TOP_LO : Fld := ⟨0x50, 0x60, 31, 0, .RO, .V, 0, 0⟩
/-- MIR.TOP_HI (R443). -/
def MIR_TOP_HI : Fld := ⟨0x50, 0x64, 31, 0, .RO, .V, 0, 0⟩
/-- MIR.APPLIED_LO (R443). -/
def MIR_APPLIED_LO : Fld := ⟨0x50, 0x68, 31, 0, .RO, .V, 0, 0⟩
/-- MIR.APPLIED_HI (R443). -/
def MIR_APPLIED_HI : Fld := ⟨0x50, 0x6C, 31, 0, .RO, .V, 0, 0⟩
/-- MIR.LAG (R443). -/
def MIR_LAG : Fld := ⟨0x50, 0x70, 23, 0, .RO, .V, 0, 0⟩
/-- MIR.COPY_PM (R443). -/
def MIR_COPY_PM : Fld := ⟨0x50, 0x74, 9, 0, .RO, .V, 0, 0⟩
/-- MIR.HEALTHw (R443). -/
def MIR_HEALTH (k : Nat) : Fld := ⟨0x50, 0x80 + 0x4 * k, 31, 0, .RO, .V, 0, 0⟩
/-- MIR.TX_REC (R443). -/
def MIR_TX_REC : Fld := ⟨0x50, 0x100, 31, 0, .RO, .V, 0, 0⟩
/-- MIR.RTX (R443). -/
def MIR_RTX : Fld := ⟨0x50, 0x104, 31, 0, .RO, .V, 0, 0⟩
/-- MIR.MIC_FAIL (R443). -/
def MIR_MIC_FAIL : Fld := ⟨0x50, 0x108, 31, 0, .RO, .V, 0, 0⟩
/-- MIR.LINK_DOWN_CNT (R443). -/
def MIR_LINK_DOWN_CNT : Fld := ⟨0x50, 0x10C, 31, 0, .RO, .V, 0, 0⟩
/-- MIR.HB_MISS (R443). -/
def MIR_HB_MISS : Fld := ⟨0x50, 0x110, 31, 0, .RO, .V, 0, 0⟩
/-- MIR.FORK_DROP (R443). -/
def MIR_FORK_DROP : Fld := ⟨0x50, 0x114, 31, 0, .RO, .S, 0, 0⟩
/-- MIR.FULL_COPIES (R443). -/
def MIR_FULL_COPIES : Fld := ⟨0x50, 0x118, 15, 0, .RO, .S, 0, 0⟩
/-- CLM.SLOT (R444). -/
def CLM_SLOT : Fld := ⟨0x51, 0x40, 1, 0, .RO, .A, 0, 0⟩
/-- CLM.CLAIM (R444). -/
def CLM_CLAIM : Fld := ⟨0x51, 0x44, 15, 0, .RO, .V, 0, 0⟩
/-- CLM.WIN_STAT.CLAIM (R444). -/
def CLM_WIN_STAT_CLAIM : Fld := ⟨0x51, 0x48, 15, 0, .RO, .V, 0, 0⟩
/-- CLM.WIN_STAT.WIN (R444). -/
def CLM_WIN_STAT_WIN : Fld := ⟨0x51, 0x48, 16, 16, .RO, .V, 0, 0⟩
/-- CLM.WIN_STAT.SLOT (R444). -/
def CLM_WIN_STAT_SLOT : Fld := ⟨0x51, 0x48, 17, 17, .RO, .V, 0, 0⟩
/-- CLM.WIN_STAT.ELIG (R444). -/
def CLM_WIN_STAT_ELIG : Fld := ⟨0x51, 0x48, 19, 18, .RO, .V, 0, 0⟩
/-- CLM.WIN_STAT.ROUND (R444). -/
def CLM_WIN_STAT_ROUND : Fld := ⟨0x51, 0x48, 29, 24, .RO, .V, 0, 0⟩
/-- CLM.EPOCH (R444). -/
def CLM_EPOCH : Fld := ⟨0x51, 0x4C, 11, 0, .RO, .S, 0, 0⟩
/-- CLM.STAT.EPOCH_SAT (R444). -/
def CLM_STAT_EPOCH_SAT : Fld := ⟨0x51, 0x4C, 16, 16, .RO, .S, 0, 0⟩
/-- CLM.STAT.HO_FAIL (R444). -/
def CLM_STAT_HO_FAIL : Fld := ⟨0x51, 0x4C, 17, 17, .RO, .V, 0, 0⟩
/-- CLM.PRIO_ACT (R444). -/
def CLM_PRIO_ACT : Fld := ⟨0x51, 0x50, 3, 0, .RW, .P, 12, 0⟩
/-- CLM.PRIO_SBY (R444). -/
def CLM_PRIO_SBY : Fld := ⟨0x51, 0x50, 7, 4, .RW, .P, 4, 0⟩
/-- CLM.GIVEUP_EN (R444). -/
def CLM_GIVEUP_EN : Fld := ⟨0x51, 0x54, 5, 0, .RW, .P, 63, 0⟩
/-- CLM.GIVEUP_UE_N (R444). -/
def CLM_GIVEUP_UE_N : Fld := ⟨0x51, 0x54, 15, 8, .RW, .P, 4, 0⟩
/-- CLM.GIVEUP_CAUSE (R444). -/
def CLM_GIVEUP_CAUSE : Fld := ⟨0x51, 0x58, 7, 0, .RO, .S, 0, 0⟩
/-- CLM.GIVEUP_CAUSE.REQ (R444). -/
def CLM_GIVEUP_CAUSE_REQ : Fld := ⟨0x51, 0x58, 8, 8, .RO, .S, 0, 0⟩
/-- CLM.CTL.GIVE_UP (R444). -/
def CLM_CTL_GIVE_UP : Fld := ⟨0x51, 0x5C, 0, 0, .WO, .V, 0, 0⟩
/-- CLM.CTL.HANDOVER (R444). -/
def CLM_CTL_HANDOVER : Fld := ⟨0x51, 0x5C, 1, 1, .WO, .V, 0, 0⟩
/-- CLM.CTL.REJOIN (R444). -/
def CLM_CTL_REJOIN : Fld := ⟨0x51, 0x5C, 2, 2, .WO, .V, 0, 0⟩
/-- CLM.CTRL_ARB (R444). -/
def CLM_CTRL_ARB : Fld := ⟨0x51, 0x60, 0, 0, .RW, .P, 0, 0⟩
/-- CLM.CTRL.GRANT (R444). -/
def CLM_CTRL_GRANT : Fld := ⟨0x51, 0x64, 0, 0, .WO, .V, 0, 0⟩
/-- CLM.CTRL.DENY (R444). -/
def CLM_CTRL_DENY : Fld := ⟨0x51, 0x64, 1, 1, .WO, .V, 0, 0⟩
/-- CLM.CTRL.EPOCH (R444). -/
def CLM_CTRL_EPOCH : Fld := ⟨0x51, 0x64, 27, 16, .WO, .V, 0, 0⟩
/-- CLM.CTRL_STAT (R444). -/
def CLM_CTRL_STAT : Fld := ⟨0x51, 0x68, 1, 0, .RO, .V, 0, 0⟩
/-- CLM.GPIO_ARB (R444). -/
def CLM_GPIO_ARB : Fld := ⟨0x51, 0x6C, 15, 0, .RW, .P, 0, 0⟩
/-- CLM.GPIO_CTRL (R444). -/
def CLM_GPIO_CTRL : Fld := ⟨0x51, 0x70, 15, 0, .RW, .P, 0, 0⟩
/-- CLM.HANDOVER_TO (R444). -/
def CLM_HANDOVER_TO : Fld := ⟨0x51, 0x74, 15, 0, .RW, .P, 5000, 0⟩
/-- CLM.LANE_PIN (R444). -/
def CLM_LANE_PIN : Fld := ⟨0x51, 0x78, 4, 0, .RW, .P, 31, 0⟩
/-- CLM.ROUNDS (R444). -/
def CLM_ROUNDS : Fld := ⟨0x51, 0x100, 31, 0, .RO, .V, 0, 0⟩
/-- CLM.CRC_ERR (R444). -/
def CLM_CRC_ERR : Fld := ⟨0x51, 0x104, 31, 0, .RO, .V, 0, 0⟩
/-- CLM.BUS_FAULT (R444). -/
def CLM_BUS_FAULT : Fld := ⟨0x51, 0x108, 31, 0, .RO, .V, 0, 0⟩
/-- CLM.TAKEOVERS (R444). -/
def CLM_TAKEOVERS : Fld := ⟨0x51, 0x10C, 15, 0, .RO, .S, 0, 0⟩
/-- CLM.GIVEUPS (R444). -/
def CLM_GIVEUPS : Fld := ⟨0x51, 0x110, 15, 0, .RO, .S, 0, 0⟩
/-- SEC.ANNEAL_MS (R472). -/
def SEC_ANNEAL_MS : Fld := ⟨0x10, 0x40, 15, 0, .RW, .P, 1000, 0⟩
/-- SEC.ANNEAL_PASSES (R472). -/
def SEC_ANNEAL_PASSES : Fld := ⟨0x10, 0x44, 31, 0, .RO, .V, 0, 0⟩
/-- SEC.STAT.DERIVED (R472). -/
def SEC_STAT_DERIVED : Fld := ⟨0x10, 0x48, 0, 0, .RO, .V, 0, 0⟩
/-- SEC.STAT.TEST_ROOT (R472). -/
def SEC_STAT_TEST_ROOT : Fld := ⟨0x10, 0x48, 1, 1, .RO, .V, 0, 0⟩
/-- SEC.STAT.DICE (R472). -/
def SEC_STAT_DICE : Fld := ⟨0x10, 0x48, 2, 2, .RO, .V, 0, 0⟩
/-- SEC.STAT.STK_FAIL (R472). -/
def SEC_STAT_STK_FAIL : Fld := ⟨0x10, 0x48, 3, 3, .RO, .V, 0, 0⟩
/-- SEC.MEAS_SEL (R472). -/
def SEC_MEAS_SEL : Fld := ⟨0x10, 0x4C, 2, 0, .RW, .V, 0, 0⟩
/-- SEC.MEASw (R472). -/
def SEC_MEAS (k : Nat) : Fld := ⟨0x10, 0x50 + 0x4 * k, 31, 0, .RO, .V, 0, 0⟩
/-- SEC.ATT_NONCEw (R472). -/
def SEC_ATT_NONCE (k : Nat) : Fld := ⟨0x10, 0x80 + 0x4 * k, 31, 0, .WO, .V, 0, 0⟩
/-- SEC.ATT_CTL.GO (R472). -/
def SEC_ATT_CTL_GO : Fld := ⟨0x10, 0xA0, 31, 31, .WO, .V, 0, 0⟩
/-- SEC.ATT_CTL.BUSY (R472). -/
def SEC_ATT_CTL_BUSY : Fld := ⟨0x10, 0xA0, 30, 30, .RO, .V, 0, 0⟩
/-- SEC.ATT_CTL.INSTALL (R472). -/
def SEC_ATT_CTL_INSTALL : Fld := ⟨0x10, 0xA0, 29, 29, .WO, .V, 0, 0⟩
/-- SEC.ATT_CTL.RES (R472). -/
def SEC_ATT_CTL_RES : Fld := ⟨0x10, 0xA0, 11, 8, .RO, .V, 0, 0⟩
/-- SEC.ATT_CTL.ITEM (R472). -/
def SEC_ATT_CTL_ITEM : Fld := ⟨0x10, 0xA0, 2, 0, .RW, .V, 0, 0⟩
/-- SEC.OUT_Q (R472). -/
def SEC_OUT_Q : Fld := ⟨0x10, 0xA4, 9, 0, .RW, .P, 0, 0⟩
/-- SEC.IN_CELL (R472). -/
def SEC_IN_CELL : Fld := ⟨0x10, 0xA8, 15, 0, .RW, .V, 65535, 0⟩
/-- SEC.TAMPER_EN (R472). -/
def SEC_TAMPER_EN : Fld := ⟨0x10, 0xAC, 5, 0, .RW, .A, 63, 0⟩
/-- SEC.TAMPER_STAT (R472). -/
def SEC_TAMPER_STAT : Fld := ⟨0x10, 0xB0, 5, 0, .W1C, .A, 0, 0⟩
/-- KEYS.SEL (R473). -/
def KEYS_SEL : Fld := ⟨0x11, 0x40, 7, 0, .RW, .V, 0, 0⟩
/-- KEYS.ATTR_LO (R473). -/
def KEYS_ATTR_LO : Fld := ⟨0x11, 0x44, 31, 0, .RW, .V, 0, 0⟩
/-- KEYS.ATTR_HI (R473). -/
def KEYS_ATTR_HI : Fld := ⟨0x11, 0x48, 31, 0, .RW, .V, 0, 0⟩
/-- KEYS.INFO.TYPE (R473). -/
def KEYS_INFO_TYPE : Fld := ⟨0x11, 0x4C, 3, 0, .RO, .V, 0, 0⟩
/-- KEYS.INFO.ORIGIN (R473). -/
def KEYS_INFO_ORIGIN : Fld := ⟨0x11, 0x4C, 5, 4, .RO, .V, 0, 0⟩
/-- KEYS.INFO.PERSIST (R473). -/
def KEYS_INFO_PERSIST : Fld := ⟨0x11, 0x4C, 6, 6, .RO, .V, 0, 0⟩
/-- KEYS.INFO.EXPIRED (R473). -/
def KEYS_INFO_EXPIRED : Fld := ⟨0x11, 0x4C, 7, 7, .RO, .V, 0, 0⟩
/-- KEYS.INFO.GEN (R473). -/
def KEYS_INFO_GEN : Fld := ⟨0x11, 0x4C, 31, 16, .RO, .V, 0, 0⟩
/-- KEYS.INw (R473). -/
def KEYS_IN (k : Nat) : Fld := ⟨0x11, 0x50 + 0x4 * k, 31, 0, .WO, .V, 0, 0⟩
/-- KEYS.CMD.GO (R473). -/
def KEYS_CMD_GO : Fld := ⟨0x11, 0xB4, 31, 31, .WO, .V, 0, 0⟩
/-- KEYS.CMD.BUSY (R473). -/
def KEYS_CMD_BUSY : Fld := ⟨0x11, 0xB4, 30, 30, .RO, .V, 0, 0⟩
/-- KEYS.CMD.OP (R473). -/
def KEYS_CMD_OP : Fld := ⟨0x11, 0xB4, 27, 24, .WO, .V, 0, 0⟩
/-- KEYS.CMD.KEK (R473). -/
def KEYS_CMD_KEK : Fld := ⟨0x11, 0xB4, 23, 16, .WO, .V, 0, 0⟩
/-- KEYS.CMD.PERSIST (R473). -/
def KEYS_CMD_PERSIST : Fld := ⟨0x11, 0xB4, 4, 4, .WO, .V, 0, 0⟩
/-- KEYS.CMD.TYPE (R473). -/
def KEYS_CMD_TYPE : Fld := ⟨0x11, 0xB4, 3, 0, .WO, .V, 0, 0⟩
/-- KEYS.RES (R473). -/
def KEYS_RES : Fld := ⟨0x11, 0xB8, 3, 0, .RO, .V, 0, 0⟩
/-- KEYS.USED (R473). -/
def KEYS_USED : Fld := ⟨0x11, 0xBC, 8, 0, .RO, .V, 0, 0⟩
/-- KEYS.DENY_CNT (R473). -/
def KEYS_DENY_CNT : Fld := ⟨0x11, 0xC0, 31, 0, .RO, .V, 0, 0⟩
/-- KEYS.DENY_LOG.VALID (R473). -/
def KEYS_DENY_LOG_VALID : Fld := ⟨0x11, 0xC4, 31, 31, .W1C, .V, 0, 0⟩
/-- KEYS.DENY_LOG.USAGE (R473). -/
def KEYS_DENY_LOG_USAGE : Fld := ⟨0x11, 0xC4, 23, 16, .RO, .V, 0, 0⟩
/-- KEYS.DENY_LOG.MASTER (R473). -/
def KEYS_DENY_LOG_MASTER : Fld := ⟨0x11, 0xC4, 15, 8, .RO, .V, 0, 0⟩
/-- KEYS.DENY_LOG.SLOT (R473). -/
def KEYS_DENY_LOG_SLOT : Fld := ⟨0x11, 0xC4, 7, 0, .RO, .V, 0, 0⟩
/-- LIFE.STATE (R474). -/
def LIFE_STATE : Fld := ⟨0x12, 0x40, 3, 0, .RO, .A, 0, 0⟩
/-- LIFE.SERIAL_HI (R474). -/
def LIFE_SERIAL_HI : Fld := ⟨0x12, 0x44, 31, 0, .RO, .A, 0, 0⟩
/-- LIFE.SERIAL_LO (R474). -/
def LIFE_SERIAL_LO : Fld := ⟨0x12, 0x48, 31, 0, .RO, .A, 0, 0⟩
/-- LIFE.CHAL_LO (R474). -/
def LIFE_CHAL_LO : Fld := ⟨0x12, 0x4C, 31, 0, .RO, .V, 0, 0⟩
/-- LIFE.CHAL_HI (R474). -/
def LIFE_CHAL_HI : Fld := ⟨0x12, 0x50, 31, 0, .RO, .V, 0, 0⟩
/-- LIFE.TOKENw (R474). -/
def LIFE_TOKEN (k : Nat) : Fld := ⟨0x12, 0x54 + 0x4 * k, 31, 0, .WO, .V, 0, 0⟩
/-- LIFE.CMD.KEY (R474). -/
def LIFE_CMD_KEY : Fld := ⟨0x12, 0xB4, 31, 16, .WO, .V, 0, 0⟩
/-- LIFE.CMD.TO (R474). -/
def LIFE_CMD_TO : Fld := ⟨0x12, 0xB4, 3, 0, .WO, .V, 0, 0⟩
/-- LIFE.STAT.RES (R474). -/
def LIFE_STAT_RES : Fld := ⟨0x12, 0xB8, 3, 0, .RO, .S, 0, 0⟩
/-- LIFE.STAT.BUSY (R474). -/
def LIFE_STAT_BUSY : Fld := ⟨0x12, 0xB8, 8, 8, .RO, .V, 0, 0⟩
/-- LIFE.STAT.DONE (R474). -/
def LIFE_STAT_DONE : Fld := ⟨0x12, 0xB8, 9, 9, .RO, .V, 0, 0⟩
/-- LIFE.LAST_T (R474). -/
def LIFE_LAST_T : Fld := ⟨0x12, 0xBC, 31, 0, .RO, .A, 0, 0⟩
/-- DBG.LEVEL (R475). -/
def DBG_LEVEL : Fld := ⟨0x13, 0x40, 1, 0, .RO, .A, 0, 0⟩
/-- DBG.PEND (R475). -/
def DBG_PEND : Fld := ⟨0x13, 0x40, 5, 4, .RO, .S, 0, 0⟩
/-- DBG.SCAN_PEND (R475). -/
def DBG_SCAN_PEND : Fld := ⟨0x13, 0x40, 8, 8, .RO, .S, 0, 0⟩
/-- DBG.CHAL_LO (R475). -/
def DBG_CHAL_LO : Fld := ⟨0x13, 0x44, 31, 0, .RO, .V, 0, 0⟩
/-- DBG.CHAL_HI (R475). -/
def DBG_CHAL_HI : Fld := ⟨0x13, 0x48, 31, 0, .RO, .V, 0, 0⟩
/-- DBG.TOKENw (R475). -/
def DBG_TOKEN (k : Nat) : Fld := ⟨0x13, 0x4C + 0x4 * k, 31, 0, .WO, .V, 0, 0⟩
/-- DBG.REQ.GO (R475). -/
def DBG_REQ_GO : Fld := ⟨0x13, 0xAC, 31, 31, .WO, .V, 0, 0⟩
/-- DBG.REQ.SCAN (R475). -/
def DBG_REQ_SCAN : Fld := ⟨0x13, 0xAC, 8, 8, .WO, .V, 0, 0⟩
/-- DBG.REQ.LEVEL (R475). -/
def DBG_REQ_LEVEL : Fld := ⟨0x13, 0xAC, 1, 0, .WO, .V, 0, 0⟩
/-- DBG.RES (R475). -/
def DBG_RES : Fld := ⟨0x13, 0xB0, 3, 0, .RO, .V, 0, 0⟩
/-- DBG.SCAN.OPEN (R475). -/
def DBG_SCAN_OPEN : Fld := ⟨0x13, 0xB4, 0, 0, .RO, .V, 0, 0⟩
/-- DBG.SCAN.CLEARED (R475). -/
def DBG_SCAN_CLEARED : Fld := ⟨0x13, 0xB4, 1, 1, .RO, .V, 0, 0⟩
/-- DBG.SCAN.ABORTED (R475). -/
def DBG_SCAN_ABORTED : Fld := ⟨0x13, 0xB4, 2, 2, .RO, .V, 0, 0⟩
/-- DBG.UNLOCKS (R475). -/
def DBG_UNLOCKS : Fld := ⟨0x13, 0xB8, 31, 0, .RO, .A, 0, 0⟩
/-- UPD.CTL.AUTO_FWD (R497). -/
def UPD_CTL_AUTO_FWD : Fld := ⟨0x58, 0x40, 0, 0, .RW, .P, 1, 0⟩
/-- UPD.LOAD_OFS (R497). -/
def UPD_LOAD_OFS : Fld := ⟨0x58, 0x44, 31, 0, .RW, .V, 0, 0⟩
/-- UPD.LOAD_CELL (R497). -/
def UPD_LOAD_CELL : Fld := ⟨0x58, 0x48, 15, 0, .RW, .V, 65535, 0⟩
/-- UPD.LOAD_CTL.GO (R497). -/
def UPD_LOAD_CTL_GO : Fld := ⟨0x58, 0x4C, 31, 31, .WO, .V, 0, 0⟩
/-- UPD.LOAD_CTL.BUSY (R497). -/
def UPD_LOAD_CTL_BUSY : Fld := ⟨0x58, 0x4C, 30, 30, .RO, .V, 0, 0⟩
/-- UPD.LOAD_CTL.LAST (R497). -/
def UPD_LOAD_CTL_LAST : Fld := ⟨0x58, 0x4C, 0, 0, .WO, .V, 0, 0⟩
/-- UPD.LOAD_RES (R497). -/
def UPD_LOAD_RES : Fld := ⟨0x58, 0x50, 3, 0, .RO, .V, 0, 0⟩
/-- UPD.LOAD_ID (R497). -/
def UPD_LOAD_ID : Fld := ⟨0x58, 0x54, 31, 0, .RO, .V, 0, 0⟩
/-- UPD.IMG_SEL (R497). -/
def UPD_IMG_SEL : Fld := ⟨0x58, 0x58, 3, 0, .RW, .V, 0, 0⟩
/-- UPD.IMG_INFO.VALID (R497). -/
def UPD_IMG_INFO_VALID : Fld := ⟨0x58, 0x5C, 31, 31, .RO, .V, 0, 0⟩
/-- UPD.IMG_INFO.PART (R497). -/
def UPD_IMG_INFO_PART : Fld := ⟨0x58, 0x5C, 11, 8, .RO, .V, 0, 0⟩
/-- UPD.IMG_INFO.SVN (R497). -/
def UPD_IMG_INFO_SVN : Fld := ⟨0x58, 0x5C, 5, 0, .RO, .V, 0, 0⟩
/-- UPD.IMG_VER (R497). -/
def UPD_IMG_VER : Fld := ⟨0x58, 0x60, 31, 0, .RO, .V, 0, 0⟩
/-- UPD.IMG_ID (R497). -/
def UPD_IMG_ID : Fld := ⟨0x58, 0x64, 31, 0, .RO, .V, 0, 0⟩
/-- UPD.IMG_CMD (R497). -/
def UPD_IMG_CMD : Fld := ⟨0x58, 0x68, 1, 0, .WO, .V, 0, 0⟩
/-- UPD.BUNDLE (R497). -/
def UPD_BUNDLE : Fld := ⟨0x58, 0x6C, 15, 0, .RW, .V, 0, 0⟩
/-- UPD.APPLY.KEY (R497). -/
def UPD_APPLY_KEY : Fld := ⟨0x58, 0x70, 31, 16, .WO, .V, 0, 0⟩
/-- UPD.APPLY.PAIR (R497). -/
def UPD_APPLY_PAIR : Fld := ⟨0x58, 0x70, 1, 1, .WO, .V, 0, 0⟩
/-- UPD.APPLY.GO (R497). -/
def UPD_APPLY_GO : Fld := ⟨0x58, 0x70, 0, 0, .WO, .V, 0, 0⟩
/-- UPD.CONFIRM.KEY (R497). -/
def UPD_CONFIRM_KEY : Fld := ⟨0x58, 0x74, 31, 16, .WO, .V, 0, 0⟩
/-- UPD.CONFIRM.REJECT (R497). -/
def UPD_CONFIRM_REJECT : Fld := ⟨0x58, 0x74, 1, 1, .WO, .V, 0, 0⟩
/-- UPD.CONFIRM.GO (R497). -/
def UPD_CONFIRM_GO : Fld := ⟨0x58, 0x74, 0, 0, .WO, .V, 0, 0⟩
/-- UPD.STAT.STATE (R497). -/
def UPD_STAT_STATE : Fld := ⟨0x58, 0x78, 3, 0, .RO, .S, 0, 0⟩
/-- UPD.STAT.STEP (R497). -/
def UPD_STAT_STEP : Fld := ⟨0x58, 0x78, 7, 4, .RO, .S, 0, 0⟩
/-- UPD.STAT.STEPS (R497). -/
def UPD_STAT_STEPS : Fld := ⟨0x58, 0x78, 11, 8, .RO, .S, 0, 0⟩
/-- UPD.STAT.CFG_LOST (R497). -/
def UPD_STAT_CFG_LOST : Fld := ⟨0x58, 0x78, 12, 12, .RO, .S, 0, 0⟩
/-- UPD.STAT.RES (R497). -/
def UPD_STAT_RES : Fld := ⟨0x58, 0x78, 19, 16, .RO, .S, 0, 0⟩
/-- UPD.ORDER (R497). -/
def UPD_ORDER : Fld := ⟨0x58, 0x7C, 19, 0, .RO, .S, 0, 0⟩
/-- UPD.TRIAL_TO (R497). -/
def UPD_TRIAL_TO : Fld := ⟨0x58, 0x80, 11, 0, .RW, .P, 120, 0⟩
/-- UPD.SETTLE (R497). -/
def UPD_SETTLE : Fld := ⟨0x58, 0x84, 9, 0, .RW, .P, 10, 0⟩
/-- UPD.CONFIRM_TO (R497). -/
def UPD_CONFIRM_TO : Fld := ⟨0x58, 0x88, 21, 0, .RW, .P, 86400, 0⟩
/-- UPD.GUARD (R497). -/
def UPD_GUARD : Fld := ⟨0x58, 0x8C, 8, 0, .RW, .P, 20, 0⟩
/-- UPD.STORE_MIB (R497). -/
def UPD_STORE_MIB : Fld := ⟨0x58, 0x90, 12, 0, .RW, .P, 256, 0⟩
/-- UPD.FWD_TO (R497). -/
def UPD_FWD_TO : Fld := ⟨0x58, 0x94, 11, 0, .RW, .P, 60, 0⟩
/-- UPD.SVN_MIN (R497). -/
def UPD_SVN_MIN : Fld := ⟨0x58, 0x98, 29, 0, .RO, .A, 0, 0⟩
/-- UPD.PARTp.ACT (R497). -/
def UPD_PART_ACT (k : Nat) : Fld := ⟨0x58, 0xA0 + 0x10 * k, 1, 0, .RO, .S, 0, 0⟩
/-- UPD.PARTp.STATE_A (R497). -/
def UPD_PART_STATE_A (k : Nat) : Fld := ⟨0x58, 0xA0 + 0x10 * k, 6, 4, .RO, .S, 0, 0⟩
/-- UPD.PARTp.STATE_B (R497). -/
def UPD_PART_STATE_B (k : Nat) : Fld := ⟨0x58, 0xA0 + 0x10 * k, 10, 8, .RO, .S, 0, 0⟩
/-- UPD.PARTp.TRIALS (R497). -/
def UPD_PART_TRIALS (k : Nat) : Fld := ⟨0x58, 0xA0 + 0x10 * k, 13, 12, .RO, .S, 0, 0⟩
/-- UPD.PARTp.VER_A (R497). -/
def UPD_PART_VER_A (k : Nat) : Fld := ⟨0x58, 0xA4 + 0x10 * k, 31, 0, .RO, .S, 0, 0⟩
/-- UPD.PARTp.VER_B (R497). -/
def UPD_PART_VER_B (k : Nat) : Fld := ⟨0x58, 0xA8 + 0x10 * k, 31, 0, .RO, .S, 0, 0⟩
/-- UPD.NODE_LIST (R497). -/
def UPD_NODE_LIST : Fld := ⟨0x58, 0x100, 15, 0, .RW, .V, 65535, 0⟩
/-- UPD.NODE_BLK (R497). -/
def UPD_NODE_BLK : Fld := ⟨0x58, 0x104, 7, 0, .RW, .P, 128, 0⟩
/-- UPD.NODE_PAR (R497). -/
def UPD_NODE_PAR : Fld := ⟨0x58, 0x104, 14, 8, .RW, .P, 8, 0⟩
/-- UPD.NODE_TO (R497). -/
def UPD_NODE_TO : Fld := ⟨0x58, 0x108, 15, 0, .RW, .P, 30, 0⟩
/-- UPD.NODE_RETRY (R497). -/
def UPD_NODE_RETRY : Fld := ⟨0x58, 0x108, 19, 16, .RW, .P, 5, 0⟩
/-- UPD.NODE_DONE (R497). -/
def UPD_NODE_DONE : Fld := ⟨0x58, 0x10C, 31, 0, .RO, .V, 0, 0⟩
/-- UPD.NODE_FAIL (R497). -/
def UPD_NODE_FAIL : Fld := ⟨0x58, 0x110, 31, 0, .RO, .V, 0, 0⟩
/-- UPD.UNIT_SEL (R497). -/
def UPD_UNIT_SEL : Fld := ⟨0x58, 0x120, 5, 0, .RW, .V, 0, 0⟩
/-- UPD.UNIT_STAT.RES (R497). -/
def UPD_UNIT_STAT_RES : Fld := ⟨0x58, 0x124, 3, 0, .RO, .V, 0, 0⟩
/-- UPD.UNIT_STAT.STATE (R497). -/
def UPD_UNIT_STAT_STATE : Fld := ⟨0x58, 0x124, 11, 8, .RO, .V, 0, 0⟩
/-- UPD.UNIT_ID (R497). -/
def UPD_UNIT_ID : Fld := ⟨0x58, 0x128, 31, 0, .RO, .V, 0, 0⟩
/-- UPD.IMG_RX (R497). -/
def UPD_IMG_RX : Fld := ⟨0x58, 0x140, 31, 0, .RO, .V, 0, 0⟩
/-- UPD.VERIFY_FAIL (R497). -/
def UPD_VERIFY_FAIL : Fld := ⟨0x58, 0x144, 31, 0, .RO, .V, 0, 0⟩
/-- UPD.FALLBACKS (R497). -/
def UPD_FALLBACKS : Fld := ⟨0x58, 0x148, 15, 0, .RO, .S, 0, 0⟩
/-- MODE.CUR (R522). -/
def MODE_CUR : Fld := ⟨0x1, 0x40, 3, 0, .RO, .V, 2, 0⟩
/-- MODE.PREV (R522). -/
def MODE_PREV : Fld := ⟨0x1, 0x40, 7, 4, .RO, .S, 0, 0⟩
/-- MODE.TGT (R522). -/
def MODE_TGT : Fld := ⟨0x1, 0x40, 11, 8, .RO, .V, 0, 0⟩
/-- MODE.REQ.KEY (R522). -/
def MODE_REQ_KEY : Fld := ⟨0x1, 0x44, 31, 16, .WO, .V, 0, 0⟩
/-- MODE.REQ.MODE (R522). -/
def MODE_REQ_MODE : Fld := ⟨0x1, 0x44, 3, 0, .WO, .V, 0, 0⟩
/-- MODE.STAT.RES (R522). -/
def MODE_STAT_RES : Fld := ⟨0x1, 0x48, 3, 0, .RO, .V, 0, 0⟩
/-- MODE.STAT.BUSY (R522). -/
def MODE_STAT_BUSY : Fld := ⟨0x1, 0x48, 8, 8, .RO, .V, 0, 0⟩
/-- MODE.ENTRY_LO (R522). -/
def MODE_ENTRY_LO : Fld := ⟨0x1, 0x4C, 31, 0, .RO, .V, 0, 0⟩
/-- MODE.ENTRY_HI (R522). -/
def MODE_ENTRY_HI : Fld := ⟨0x1, 0x50, 31, 0, .RO, .V, 0, 0⟩
/-- MODE.BOOT_MS (R522). -/
def MODE_BOOT_MS : Fld := ⟨0x1, 0x54, 15, 0, .RO, .S, 0, 0⟩
/-- PWR.DOM_ON (R523). -/
def PWR_DOM_ON : Fld := ⟨0x2, 0x40, 11, 0, .RO, .V, 1, 0⟩
/-- PWR.DOM_FAULT (R523). -/
def PWR_DOM_FAULT : Fld := ⟨0x2, 0x44, 11, 0, .W1C, .V, 0, 0⟩
/-- PWR.CTL.OUT_EN (R523). -/
def PWR_CTL_OUT_EN : Fld := ⟨0x2, 0x48, 0, 0, .RW, .P, 1, 0⟩
/-- PWR.OUT_DELAY (R523). -/
def PWR_OUT_DELAY : Fld := ⟨0x2, 0x4C, 15, 0, .RW, .P, 2000, 0⟩
/-- PWR.MAINS_DEB (R523). -/
def PWR_MAINS_DEB : Fld := ⟨0x2, 0x50, 15, 0, .RW, .P, 10000, 0⟩
/-- PWR.PF_RESTORE (R523). -/
def PWR_PF_RESTORE : Fld := ⟨0x2, 0x54, 15, 0, .RW, .P, 200, 0⟩
/-- PWR.LG.Q0 (R523). -/
def PWR_LG_Q0 : Fld := ⟨0x2, 0x58, 9, 0, .RW, .P, 0, 0⟩
/-- PWR.LG.Q1 (R523). -/
def PWR_LG_Q1 : Fld := ⟨0x2, 0x58, 25, 16, .RW, .P, 0, 0⟩
/-- PWR.LG.EN (R523). -/
def PWR_LG_EN : Fld := ⟨0x2, 0x5C, 1, 0, .RW, .P, 0, 0⟩
/-- PWR.OUT_Q (R523). -/
def PWR_OUT_Q : Fld := ⟨0x2, 0x60, 9, 0, .RW, .P, 0, 0⟩
/-- PWR.MAINS.OK (R523). -/
def PWR_MAINS_OK : Fld := ⟨0x2, 0x64, 0, 0, .RO, .V, 0, 0⟩
/-- PWR.MAINS.PF_N (R523). -/
def PWR_MAINS_PF_N : Fld := ⟨0x2, 0x64, 1, 1, .RO, .V, 0, 0⟩
/-- PWR.HOLDUP_CNT (R523). -/
def PWR_HOLDUP_CNT : Fld := ⟨0x2, 0x68, 31, 0, .RO, .S, 0, 0⟩
/-- PWR.OUTAGE_CNT (R523). -/
def PWR_OUTAGE_CNT : Fld := ⟨0x2, 0x6C, 31, 0, .RO, .S, 0, 0⟩
/-- PWR.HOLDUP_MS (R523). -/
def PWR_HOLDUP_MS : Fld := ⟨0x2, 0x70, 15, 0, .RO, .S, 0, 0⟩
/-- PWR.RESTORES (R523). -/
def PWR_RESTORES : Fld := ⟨0x2, 0x74, 31, 0, .RO, .S, 0, 0⟩
/-- ARB.DOM_BUDGET (R524). -/
def ARB_DOM_BUDGET : Fld := ⟨0x3, 0x40, 15, 0, .RW, .P, 19000, 0⟩
/-- ARB.DOM_USED (R524). -/
def ARB_DOM_USED : Fld := ⟨0x3, 0x44, 15, 0, .RO, .V, 30, 0⟩
/-- ARB.TX_BUDGET (R524). -/
def ARB_TX_BUDGET : Fld := ⟨0x3, 0x48, 15, 0, .RW, .P, 9000, 0⟩
/-- ARB.TX_BUDGET_OUT (R524). -/
def ARB_TX_BUDGET_OUT : Fld := ⟨0x3, 0x4C, 15, 0, .RW, .P, 3000, 0⟩
/-- ARB.ACK_RSV (R524). -/
def ARB_ACK_RSV : Fld := ⟨0x3, 0x50, 15, 0, .RW, .P, 3000, 0⟩
/-- ARB.STARVE (R524). -/
def ARB_STARVE : Fld := ⟨0x3, 0x54, 15, 0, .RW, .P, 5000, 0⟩
/-- ARB.TX_USED (R524). -/
def ARB_TX_USED : Fld := ⟨0x3, 0x58, 15, 0, .RO, .V, 0, 0⟩
/-- ARB.ACK_USED (R524). -/
def ARB_ACK_USED : Fld := ⟨0x3, 0x58, 31, 16, .RO, .V, 0, 0⟩
/-- ARB.TX_PEAK (R524). -/
def ARB_TX_PEAK : Fld := ⟨0x3, 0x5C, 15, 0, .RC, .V, 0, 0⟩
/-- ARB.WAITING (R524). -/
def ARB_WAITING : Fld := ⟨0x3, 0x60, 6, 0, .RO, .V, 0, 0⟩
/-- ARB.GRANTS (R524). -/
def ARB_GRANTS : Fld := ⟨0x3, 0x64, 31, 0, .RO, .V, 0, 0⟩
/-- ARB.WITHDRAWN (R524). -/
def ARB_WITHDRAWN : Fld := ⟨0x3, 0x68, 31, 0, .RO, .V, 0, 0⟩
/-- ARB.ACK_DENY (R524). -/
def ARB_ACK_DENY : Fld := ⟨0x3, 0x6C, 31, 0, .RO, .V, 0, 0⟩
/-- ARB.DOM_DEFER (R524). -/
def ARB_DOM_DEFER : Fld := ⟨0x3, 0x70, 31, 0, .RO, .V, 0, 0⟩
/-- CLK.LOCK (R525). -/
def CLK_LOCK : Fld := ⟨0x4, 0x40, 13, 0, .RO, .V, 1, 0⟩
/-- CLK.REF.OK (R525). -/
def CLK_REF_OK : Fld := ⟨0x4, 0x44, 0, 0, .RO, .V, 0, 0⟩
/-- CLK.REF.ERR (R525). -/
def CLK_REF_ERR : Fld := ⟨0x4, 0x44, 31, 16, .RO, .V, 0, 0⟩
/-- CLK.REF_TOL (R525). -/
def CLK_REF_TOL : Fld := ⟨0x4, 0x48, 15, 0, .RW, .P, 100, 0⟩
/-- CLK.GATE_STAT (R525). -/
def CLK_GATE_STAT : Fld := ⟨0x4, 0x4C, 13, 0, .RO, .V, 0, 0⟩
/-- CLK.APP_DIV (R525). -/
def CLK_APP_DIV : Fld := ⟨0x4, 0x50, 1, 0, .RW, .P, 1, 0⟩
/-- RST.LAST.CAUSE (R526). -/
def RST_LAST_CAUSE : Fld := ⟨0x5, 0x40, 3, 0, .RO, .S, 0, 0⟩
/-- RST.LAST.SRC (R526). -/
def RST_LAST_SRC : Fld := ⟨0x5, 0x40, 7, 4, .RO, .S, 0, 0⟩
/-- RST.LAST.KEPT (R526). -/
def RST_LAST_KEPT : Fld := ⟨0x5, 0x40, 8, 8, .RO, .S, 0, 0⟩
/-- RST.LAST_C_LO (R526). -/
def RST_LAST_C_LO : Fld := ⟨0x5, 0x44, 31, 0, .RO, .S, 0, 0⟩
/-- RST.LAST_C_HI (R526). -/
def RST_LAST_C_HI : Fld := ⟨0x5, 0x48, 31, 0, .RO, .S, 0, 0⟩
/-- RST.CNT_c (R526). -/
def RST_CNT (k : Nat) : Fld := ⟨0x5, 0x4C + 0x4 * k, 31, 0, .RO, .S, 0, 0⟩
/-- RST.DOM_SEL (R526). -/
def RST_DOM_SEL : Fld := ⟨0x5, 0x64, 3, 0, .RW, .V, 0, 0⟩
/-- RST.DOM_CNT (R526). -/
def RST_DOM_CNT : Fld := ⟨0x5, 0x68, 31, 0, .RO, .S, 0, 0⟩
/-- RST.SWF.KEY (R526). -/
def RST_SWF_KEY : Fld := ⟨0x5, 0x6C, 31, 16, .WO, .V, 0, 0⟩
/-- RST.SWF.GO (R526). -/
def RST_SWF_GO : Fld := ⟨0x5, 0x6C, 0, 0, .WO, .V, 0, 0⟩
/-- RST.WDT.PERIOD (R526). -/
def RST_WDT_PERIOD : Fld := ⟨0x5, 0x70, 15, 0, .RW, .P, 0, 0⟩
/-- RST.WDT_KICK (R526). -/
def RST_WDT_KICK : Fld := ⟨0x5, 0x74, 31, 0, .WO, .V, 0, 0⟩
/-- RST.PRE_FLUSH (R526). -/
def RST_PRE_FLUSH : Fld := ⟨0x5, 0x78, 8, 0, .RW, .P, 50, 0⟩
/-- RST.KEPT_LOST (R526). -/
def RST_KEPT_LOST : Fld := ⟨0x5, 0x7C, 31, 0, .RO, .S, 0, 0⟩
/-- PST.CTL.EN (R543). -/
def PST_CTL_EN : Fld := ⟨0x60, 0x40, 0, 0, .RW, .P, 1, 0⟩
/-- PST.PERIOD (R543). -/
def PST_PERIOD : Fld := ⟨0x60, 0x44, 5, 0, .RW, .P, 10, 0⟩
/-- PST.ISO_WAIT (R543). -/
def PST_ISO_WAIT : Fld := ⟨0x60, 0x48, 7, 0, .RW, .P, 50, 0⟩
/-- PST.CRU_RET_MAX (R543). -/
def PST_CRU_RET_MAX : Fld := ⟨0x60, 0x4C, 7, 0, .RW, .P, 64, 0⟩
/-- PST.MASKw (R543). -/
def PST_MASK (k : Nat) : Fld := ⟨0x60, 0x50 + 0x4 * k, 31, 0, .RW, .P, 0, 0⟩
/-- PST.OUTw (R543). -/
def PST_OUT (k : Nat) : Fld := ⟨0x60, 0x60 + 0x4 * k, 31, 0, .RO, .V, 0, 0⟩
/-- PST.COVERAGE (R543). -/
def PST_COVERAGE : Fld := ⟨0x60, 0x70, 9, 0, .RO, .V, 0, 0⟩
/-- PST.NEXT (R543). -/
def PST_NEXT : Fld := ⟨0x60, 0x74, 6, 0, .RO, .V, 0, 0⟩
/-- PST.SLICES (R543). -/
def PST_SLICES : Fld := ⟨0x60, 0x78, 31, 0, .RO, .V, 0, 0⟩
/-- PST.SKIPS (R543). -/
def PST_SKIPS : Fld := ⟨0x60, 0x7C, 31, 0, .RO, .V, 0, 0⟩
/-- PST.FAILS (R543). -/
def PST_FAILS : Fld := ⟨0x60, 0x80, 31, 0, .RO, .V, 0, 0⟩
/-- PST.ABORTS (R543). -/
def PST_ABORTS : Fld := ⟨0x60, 0x84, 31, 0, .RO, .V, 0, 0⟩
/-- PST.FAIL_LOG.VALID (R543). -/
def PST_FAIL_LOG_VALID : Fld := ⟨0x60, 0x88, 31, 31, .W1C, .V, 0, 0⟩
/-- PST.FAIL_LOG.CODE (R543). -/
def PST_FAIL_LOG_CODE : Fld := ⟨0x60, 0x88, 15, 8, .RO, .V, 0, 0⟩
/-- PST.FAIL_LOG.UNIT (R543). -/
def PST_FAIL_LOG_UNIT : Fld := ⟨0x60, 0x88, 6, 0, .RO, .V, 0, 0⟩
/-- PST.UNIT_SEL (R543). -/
def PST_UNIT_SEL : Fld := ⟨0x60, 0x90, 6, 0, .RW, .V, 0, 0⟩
/-- PST.UNIT_STAT.STATE (R543). -/
def PST_UNIT_STAT_STATE : Fld := ⟨0x60, 0x94, 1, 0, .RO, .V, 0, 0⟩
/-- PST.UNIT_STAT.LAST (R543). -/
def PST_UNIT_STAT_LAST : Fld := ⟨0x60, 0x94, 5, 4, .RO, .V, 0, 0⟩
/-- PST.UNIT_STAT.AGE (R543). -/
def PST_UNIT_STAT_AGE : Fld := ⟨0x60, 0x94, 31, 16, .RO, .V, 65535, 0⟩
/-- PST.UNIT_CMD.RETEST (R543). -/
def PST_UNIT_CMD_RETEST : Fld := ⟨0x60, 0x98, 0, 0, .WO, .V, 0, 0⟩
/-- PST.FULL_CTL.GO (R543). -/
def PST_FULL_CTL_GO : Fld := ⟨0x60, 0x9C, 0, 0, .WO, .V, 0, 0⟩
/-- PST.FULL_CTL.RES (R543). -/
def PST_FULL_CTL_RES : Fld := ⟨0x60, 0x9C, 5, 4, .RO, .V, 0, 0⟩
/-- PST.FULL_CTL.BUSY (R543). -/
def PST_FULL_CTL_BUSY : Fld := ⟨0x60, 0x9C, 8, 8, .RO, .V, 0, 0⟩
/-- LDG.WARN_D (R544). -/
def LDG_WARN_D : Fld := ⟨0x61, 0x40, 15, 0, .RW, .P, 1825, 0⟩
/-- LDG.TJ (R544). -/
def LDG_TJ : Fld := ⟨0x61, 0x44, 7, 0, .RO, .V, 0, 0⟩
/-- LDG.BAND (R544). -/
def LDG_BAND : Fld := ⟨0x61, 0x44, 10, 8, .RO, .V, 0, 0⟩
/-- LDG.STAT.TIME_GAP (R544). -/
def LDG_STAT_TIME_GAP : Fld := ⟨0x61, 0x48, 0, 0, .RO, .A, 0, 0⟩
/-- LDG.STAT.NO_STORE (R544). -/
def LDG_STAT_NO_STORE : Fld := ⟨0x61, 0x48, 1, 1, .RO, .A, 0, 0⟩
/-- LDG.STAT.PRED (R544). -/
def LDG_STAT_PRED : Fld := ⟨0x61, 0x48, 2, 2, .RO, .A, 0, 0⟩
/-- LDG.SUCC_CTL.KEY (R544). -/
def LDG_SUCC_CTL_KEY : Fld := ⟨0x61, 0x50, 31, 16, .WO, .V, 0, 0⟩
/-- LDG.SUCC_CTL.LAST (R544). -/
def LDG_SUCC_CTL_LAST : Fld := ⟨0x61, 0x50, 2, 2, .WO, .V, 0, 0⟩
/-- LDG.SUCC_CTL.GO (R544). -/
def LDG_SUCC_CTL_GO : Fld := ⟨0x61, 0x50, 1, 1, .WO, .V, 0, 0⟩
/-- LDG.SUCC_CTL.EXPORT (R544). -/
def LDG_SUCC_CTL_EXPORT : Fld := ⟨0x61, 0x50, 0, 0, .WO, .V, 0, 0⟩
/-- LDG.SUCC_OFS (R544). -/
def LDG_SUCC_OFS : Fld := ⟨0x61, 0x54, 31, 0, .RW, .V, 0, 0⟩
/-- LDG.SUCC_CELL (R544). -/
def LDG_SUCC_CELL : Fld := ⟨0x61, 0x58, 15, 0, .RW, .V, 65535, 0⟩
/-- LDG.SUCC_Q (R544). -/
def LDG_SUCC_Q : Fld := ⟨0x61, 0x5C, 9, 0, .RW, .P, 0, 0⟩
/-- LDG.SUCC_STAT.RES (R544). -/
def LDG_SUCC_STAT_RES : Fld := ⟨0x61, 0x60, 3, 0, .RO, .S, 0, 0⟩
/-- LDG.SUCC_STAT.EXPORTED (R544). -/
def LDG_SUCC_STAT_EXPORTED : Fld := ⟨0x61, 0x60, 8, 8, .RO, .V, 0, 0⟩
/-- LDG.SUCC_STAT.BUSY (R544). -/
def LDG_SUCC_STAT_BUSY : Fld := ⟨0x61, 0x60, 9, 9, .RO, .V, 0, 0⟩
/-- LDG.WORDw (R544). -/
def LDG_WORD (k : Nat) : Fld := ⟨0x61, 0x200 + 0x4 * k, 31, 0, .RO, .A, 0, 0⟩
/-- LDG.PREDw (R544). -/
def LDG_PRED (k : Nat) : Fld := ⟨0x61, 0x400 + 0x4 * k, 31, 0, .RO, .A, 0, 0⟩
/-- DSP.CTL.TYPE (R556). -/
def DSP_CTL_TYPE : Fld := ⟨0x68, 0x40, 1, 0, .RW, .P, 0, 0⟩
/-- DSP.CTL.COMS (R556). -/
def DSP_CTL_COMS : Fld := ⟨0x68, 0x40, 6, 4, .RW, .P, 0, 0⟩
/-- DSP.CTL.INV (R556). -/
def DSP_CTL_INV : Fld := ⟨0x68, 0x40, 9, 8, .RW, .P, 0, 0⟩
/-- DSP.CTL.RAILS (R556). -/
def DSP_CTL_RAILS : Fld := ⟨0x68, 0x40, 14, 12, .RW, .P, 0, 0⟩
/-- DSP.FRAME_HZ (R556). -/
def DSP_FRAME_HZ : Fld := ⟨0x68, 0x44, 7, 0, .RW, .P, 64, 0⟩
/-- DSP.EPD_FRAME_MS (R556). -/
def DSP_EPD_FRAME_MS : Fld := ⟨0x68, 0x44, 12, 8, .RW, .P, 20, 0⟩
/-- DSP.DISCH_MS (R556). -/
def DSP_DISCH_MS : Fld := ⟨0x68, 0x44, 20, 16, .RW, .P, 10, 0⟩
/-- DSP.RAIL_DLY (R556). -/
def DSP_RAIL_DLY : Fld := ⟨0x68, 0x48, 6, 0, .RW, .P, 5, 0⟩
/-- DSP.FL_DUTY (R556). -/
def DSP_FL_DUTY : Fld := ⟨0x68, 0x4C, 9, 0, .RW, .P, 0, 0⟩
/-- DSP.FL_EN (R556). -/
def DSP_FL_EN : Fld := ⟨0x68, 0x4C, 16, 16, .RW, .V, 0, 0⟩
/-- DSP.TEMP_HOST (R556). -/
def DSP_TEMP_HOST : Fld := ⟨0x68, 0x50, 7, 0, .RW, .V, 0, 0⟩
/-- DSP.TEMP.SRC (R556). -/
def DSP_TEMP_SRC : Fld := ⟨0x68, 0x50, 8, 8, .RW, .P, 0, 0⟩
/-- DSP.TEMP.OFS (R556). -/
def DSP_TEMP_OFS : Fld := ⟨0x68, 0x50, 23, 16, .RW, .P, 0, 0⟩
/-- DSP.EPD_EDGE_LO (R556). -/
def DSP_EPD_EDGE_LO : Fld := ⟨0x68, 0x54, 31, 0, .RW, .P, 0xF0A0500, 0⟩
/-- DSP.EPD_EDGE_HI (R556). -/
def DSP_EPD_EDGE_HI : Fld := ⟨0x68, 0x58, 23, 0, .RW, .P, 0x281E14, 0⟩
/-- DSP.TEMP_STAT.BAND (R556). -/
def DSP_TEMP_STAT_BAND : Fld := ⟨0x68, 0x5C, 2, 0, .RO, .V, 0, 0⟩
/-- DSP.TEMP_STAT.TEMP (R556). -/
def DSP_TEMP_STAT_TEMP : Fld := ⟨0x68, 0x5C, 15, 8, .RO, .V, 0, 0⟩
/-- DSP.TEMP_STAT.STALE (R556). -/
def DSP_TEMP_STAT_STALE : Fld := ⟨0x68, 0x5C, 16, 16, .RO, .V, 0, 0⟩
/-- DSP.UPD.GO (R556). -/
def DSP_UPD_GO : Fld := ⟨0x68, 0x60, 0, 0, .WO, .V, 0, 0⟩
/-- DSP.UPD.CLEAR (R556). -/
def DSP_UPD_CLEAR : Fld := ⟨0x68, 0x60, 1, 1, .WO, .V, 0, 0⟩
/-- DSP.UPD_CRC (R556). -/
def DSP_UPD_CRC : Fld := ⟨0x68, 0x64, 31, 0, .RW, .V, 0, 0⟩
/-- DSP.UPD_STAT.RES (R556). -/
def DSP_UPD_STAT_RES : Fld := ⟨0x68, 0x68, 3, 0, .RO, .V, 0, 0⟩
/-- DSP.UPD_STAT.BUSY (R556). -/
def DSP_UPD_STAT_BUSY : Fld := ⟨0x68, 0x68, 8, 8, .RO, .V, 0, 0⟩
/-- DSP.UPD_STAT.CLEAR_PEND (R556). -/
def DSP_UPD_STAT_CLEAR_PEND : Fld := ⟨0x68, 0x68, 9, 9, .RO, .V, 0, 0⟩
/-- DSP.UPD_STAT.LEGAL (R556). -/
def DSP_UPD_STAT_LEGAL : Fld := ⟨0x68, 0x68, 10, 10, .RO, .V, 0, 0⟩
/-- DSP.AON.COMMITTED (R556). -/
def DSP_AON_COMMITTED : Fld := ⟨0x68, 0x6C, 0, 0, .RO, .A, 0, 0⟩
/-- DSP.AON.IMG_LO (R556). -/
def DSP_AON_IMG_LO : Fld := ⟨0x68, 0x70, 31, 0, .RO, .A, 0, 0⟩
/-- DSP.AON.IMG_HI (R556). -/
def DSP_AON_IMG_HI : Fld := ⟨0x68, 0x74, 23, 0, .RO, .A, 0, 0⟩
/-- DSP.FM_CRC (R556). -/
def DSP_FM_CRC : Fld := ⟨0x68, 0x78, 31, 0, .RO, .V, 0, 0⟩
/-- DSP.CRC_ERR (R556). -/
def DSP_CRC_ERR : Fld := ⟨0x68, 0x7C, 31, 0, .RO, .V, 0, 0⟩
/-- DSP.UPDATES (R556). -/
def DSP_UPDATES : Fld := ⟨0x68, 0x80, 31, 0, .RO, .V, 0, 0⟩
/-- DSP.LEGAL_FW (R556). -/
def DSP_LEGAL_FW : Fld := ⟨0x68, 0x84, 31, 0, .RO, .V, 0, 0⟩
/-- DSP.LEGAL_CHK_HI (R556). -/
def DSP_LEGAL_CHK_HI : Fld := ⟨0x68, 0x88, 31, 0, .RO, .V, 0, 0⟩
/-- DSP.LEGAL_CHK_LO (R556). -/
def DSP_LEGAL_CHK_LO : Fld := ⟨0x68, 0x8C, 31, 16, .RO, .V, 0, 0⟩
/-- DSP.DIGITS (R556). -/
def DSP_DIGITS : Fld := ⟨0x68, 0x90, 4, 0, .RW, .P, 0, 0⟩
/-- DSP.LEGAL_SEG (R556). -/
def DSP_LEGAL_SEG : Fld := ⟨0x68, 0x90, 24, 16, .RW, .P, 511, 0⟩
/-- DSP.LEGAL_S (R556). -/
def DSP_LEGAL_S : Fld := ⟨0x68, 0x94, 5, 0, .RW, .P, 5, 0⟩
/-- DSP.BTN_CNT (R556). -/
def DSP_BTN_CNT : Fld := ⟨0x68, 0x98, 31, 0, .RO, .V, 0, 0⟩
/-- DSP.FBw (R556). -/
def DSP_FB (k : Nat) : Fld := ⟨0x68, 0x100 + 0x4 * k, 31, 0, .RW, .V, 0, 0⟩
/-- DSP.WAVEb_q (R556). -/
def DSP_WAVE (k : Nat) (w : Nat) : Fld := ⟨0x68, 0x200 + 0x40 * k + 0x4 * w, 31, 0, .RW, .P, 0, 0⟩
/-- DSP.DIGd_h (R556). -/
def DSP_DIG (k : Nat) (w : Nat) : Fld := ⟨0x68, 0x400 + 0x10 * k + 0x4 * w, 31, 0, .RW, .P, 0xFFFFFFFF, 0⟩

end Sys2Proof.Machine.F
end

