-- ==== Sys2Proof/Machine/SMap.lean ====
section
/-!
DEFINITION. Sparse maps: a list of (key, value) pairs with rising keys. A key that is not listed has no value of its own.
-/
namespace Sys2Proof.Machine

/-- A sparse map from Nat keys, held as a list in rising key order. -/
abbrev SMap (α : Type) := List (Nat × α)

/-- The value listed for a key. -/
def SMap.find? {α : Type} : SMap α → Nat → Option α
  | [], _ => none
  | (k, v) :: m, j => if j = k then some v else SMap.find? m j

/-- The value of a key, or a default where the key is not listed. -/
def SMap.getD {α : Type} (m : SMap α) (j : Nat) (d : α) : α := (SMap.find? m j).getD d

/-- Lists a value for a key, in rising key order, replacing the one it had. -/
def SMap.set {α : Type} : SMap α → Nat → α → SMap α
  | [], j, w => [(j, w)]
  | (k, v) :: m, j, w =>
    if j = k then (j, w) :: m
    else if j < k then (j, w) :: (k, v) :: m
    else (k, v) :: SMap.set m j w

/-- Removes a key. -/
def SMap.erase {α : Type} : SMap α → Nat → SMap α
  | [], _ => []
  | (k, v) :: m, j => if j = k then SMap.erase m j else (k, v) :: SMap.erase m j

/-- Changes the value of a key, starting from a default where it is not listed. -/
def SMap.modify {α : Type} (m : SMap α) (j : Nat) (d : α) (f : α → α) : SMap α :=
  SMap.set m j (f (SMap.getD m j d))

/-- The keys rise strictly: the one form a map is kept in. -/
def SMap.rising {α : Type} : SMap α → Bool
  | [] => true
  | [_] => true
  | (j, _) :: (k, v) :: m => decide (j < k) && SMap.rising ((k, v) :: m)

end Sys2Proof.Machine
end

