-- ==== Sys2Proof/Syntax.lean ====
section
/-!
DEFINITION. The commands of the block: one constructor per row of the command table, in the table's order, and the operand types.
-/
namespace Sys2Proof

/-- Who reaches the register window: the external PCIe host, the APP cluster, or the SMP (R38, R63); and the LEGAL core, which writes the legal partition (R26, R293). -/
inductive Master where
  | pcie | app | smp | lgl
  deriving DecidableEq, Repr

/-- A page number of the register window: bits [23:12] of a byte address (R38). -/
abbrev Page := BitVec 12

/-- A field port, FP0 to FP63 (R9). -/
abbrev Port := Fin 64

/-- The SMP transaction that an abandonment cuts off (R69). -/
inductive SmpOp where
  | read | write | badCmd
  deriving DecidableEq, Repr

/-- The configuration registers of the TCH page that R350 checks: GRP_CFG, GRP_REF, GRP_REF_CH, GRP_NBR01, GRP_NBR23, GRP_ZC_OFS and MBR_CFG. -/
inductive TchReg where
  | grpCfg | refNode | refCh | nbr01 | nbr23 | zcOfs | mbrCfg
  deriving DecidableEq, Repr

/-- The memories that the board fits, as BOOT finds them: the DRAM in MiB (R521), and of the NAND (R375) channels, chip enables per channel, LUNs per chip enable, log2 of the planes, whether pages are 16 KiB (else 8 KiB), pages per block, blocks per LUN, the longest program time in µs, the chip enables not used, the flush rate measured in MiB/s, and the spare bytes for 2 KiB of a page. Without a usable chip enable it is not present. -/
structure NandFit where
  present : Bool := true
  channels : Nat := 1
  ces : Nat := 1
  luns : Nat := 1
  planes : Nat := 0
  page16 : Bool := true
  ppb : Nat := 256
  bpl : Nat := 4096
  tprog : Nat := 2500
  rejects : Nat := 0
  rate : Nat := 800
  spare : Nat := 160
  dramMib : Nat := 8192
  deriving DecidableEq, Repr

/-- One attempt to copy an AU (R387): the erased physical AU it is copied to, and whether the copy verifies. -/
structure CopyTo where
  phys : Nat
  ok : Bool
  deriving DecidableEq, Repr


/-- An image: its 256-byte header, its 96-byte signature and its record stream (R477). -/
structure Image where
  head : List Byte
  sig : List Byte
  stream : List Byte
  deriving DecidableEq, Repr

/-- A tariff set as a STORE transfer brings it (R421): its generation, ACT_MIN and image. -/
structure SetImage where
  gen : Nat
  actMin : Nat
  image : List Byte
  deriving DecidableEq, Repr

/-- What the legal partition of the active unit holds at a commit (R293, R421): the active and held sets, the passive and the armed set, the accounts (number, table, NET, ACTIVE), the bindings (channel key, account, DIR), and the committed fields by key. -/
structure LegalImage where
  sets : List SetImage
  passive : Option SetImage
  armed : Option SetImage
  accts : List (Nat × Nat × Bool × Bool)
  binds : List (Nat × Nat × Nat)
  fields : List (Nat × Nat)
  deriving DecidableEq, Repr

/-- What the STORE transfers that a journal record names have brought to the standby with it (R421). -/
inductive Carried where
  | nothing
  | image (x : Image)
  | legal (x : LegalImage)
  deriving DecidableEq, Repr


/-- The commands. Each constructor is one row of the command table; its operands are what the outside world chooses. -/
inductive Instr where
  /-- A write to a register that has no row of its own: ownership, lock and domain checks, then the field is updated (R73). Operands: byte address, byte enables and data of one word write. -/
  | registerWrite (m : Master) (addr : BitVec 24) (be : BitVec 4) (v : Word)
  /-- A read of the lower register of a pair latches the upper word into the reading master's shadow (R43). Operands: the lower register of a pair. -/
  | pairLatchRead (m : Master) (addr : BitVec 24)
  /-- A W1C write to INT_STAT clears bits, and the MSI-X vector sends again if its condition is still 1 (R62). Operands: the bits to clear. -/
  | intStatClear (m : Master) (p : Page) (v : Word)
  /-- A write to INT_FORCE sets the matching INT_STAT bits (R45). Operands: the bits to set. -/
  | intForce (m : Master) (p : Page) (v : Word)
  /-- Writing 1 to LOCK.LOCKED freezes the page against writes (R48). Operands: the word written to LOCK. -/
  | lockPage (m : Master) (p : Page) (v : Word)
  /-- A write to OWNER.OWNER hands a page over, seizes it or returns it (R74). Operands: the word written to OWNER. -/
  | ownerWrite (m : Master) (p : Page) (v : Word)
  /-- A keyed write to DOM_RST.GO requests a domain reset of the page's domain (R49). Operands: the word written to DOM_RST. -/
  | domRst (m : Master) (p : Page) (v : Word)
  /-- A keyed CFG.COMMIT.GO captures the live P-class fields and starts writing them to the non-current slot (R53). Operands: the word written to CFG.COMMIT. -/
  | cfgCommit (m : Master) (v : Word)
  /-- The slot readback passes and the journal record making the new slot current is written, advancing CFG.GEN (R53). Operands: whether the slot read back with a correct digest. -/
  | cfgCommitDone (readbackOk : Bool)
  /-- A keyed CFG.DISCARD.GO reloads every live P-class field outside the legal partition from the current image (R53). Operands: the word written to CFG.DISCARD. -/
  | cfgDiscard (m : Master) (v : Word)
  /-- The PCIe data link layer becomes active (R64). Operands: the negotiated width and speed. -/
  | pcieLinkUp (width : BitVec 3) (speed : BitVec 2)
  /-- The PCIe link leaves the active state, setting LINK_DOWN and SMP HOST_DOWN (R64). Operands: the link leaves the active state. -/
  | pcieLinkDown
  /-- With HOST_SEL AUTO, 200 ms after BOOT without a PCIe link the APP cluster becomes main host (R63). Operands: 200 ms after BOOT. -/
  | appHostSelect
  /-- An SMP READ transaction fetches the addressed words and returns status, data and CRC (R66). Operands: the request of R66. -/
  | smpRead (len : BitVec 4) (addr : BitVec 24) (crc : Byte)
  /-- An SMP WRITE transaction is checked and its data words enter the bridge to the page (R70). Operands: the request of R66 with its data words. -/
  | smpWrite (len : BitVec 4) (addr : BitVec 24) (data : List Word) (crc : Byte)
  /-- An SMP transaction with a reserved opcode is answered with BAD_CMD (R66). Operands: a request whose OP is 10 or 11. -/
  | smpBadCmd (cmd : Byte) (addr : BitVec 24) (crc : Byte)
  /-- SMP_CS_N rises before the last byte, abandoning the transaction (R69). Operands: the transaction cut off, whether its request CRC came in full, and how many words of a READ had been fetched. -/
  | smpAbandon (op : SmpOp) (len : BitVec 4) (addr : BitVec 24) (data : List Word) (crc : Byte) (crcReceived : Bool) (fetched : Nat)
  /-- The SMP requests a mode change through SMP.OVR_MODE (R75). Operands: the word the SMP writes to SMP.OVR_MODE. -/
  | ovrMode (v : Word)
  /-- The SMP requests a full reset of cause PIN through SMP.OVR_RESET with KIND 01 (R75). Operands: the word the SMP writes to SMP.OVR_RESET, KIND 01. -/
  | ovrResetFull (v : Word)
  /-- The SMP requests a domain reset through SMP.OVR_RESET with KIND 10 (R75). Operands: the word the SMP writes to SMP.OVR_RESET, KIND 10. -/
  | ovrResetDomain (v : Word)
  /-- The SMP drops this unit's claim number to 0 through SMP.OVR_FAILOVER.GIVE_UP (R75). Operands: the word the SMP writes to SMP.OVR_FAILOVER. -/
  | ovrGiveUp (v : Word)
  /-- The SMP grants the pending CONTROL-class request through OVR_FAILOVER.CTRL_GRANT (R438). Operands: the word the SMP writes to SMP.OVR_FAILOVER. -/
  | ovrCtrlGrant (v : Word)
  /-- The SMP denies the pending CONTROL-class request through OVR_FAILOVER.CTRL_DENY (R438). Operands: the word the SMP writes to SMP.OVR_FAILOVER. -/
  | ovrCtrlDeny (v : Word)
  /-- A read of SMP.OVR_LDG_DATA returns the selected ledger word and advances OVR_LDG_SEL (R75). Operands: a read of SMP.OVR_LDG_DATA. -/
  | ovrLdgDataRead (m : Master)
  /-- A write of TIME.RATE_HI commits a new RATE and opens an epoch with continuous time (R82). Operands: the word written to TIME.RATE_HI. -/
  | timeRateCommit (m : Master) (v : Word)
  /-- A write of TIME.OFFSET_HI commits a new OFFSET, a time change (R82). Operands: the word written to TIME.OFFSET_HI. -/
  | timeOffsetCommit (m : Master) (v : Word)
  /-- A write of TIME.STEP_HI steps disciplined time by a signed amount (R82). Operands: the word written to TIME.STEP_HI. -/
  | timeStepCommit (m : Master) (v : Word)
  /-- A read of TIME.NOW_LO latches the count, its time, epoch and quality in one step (R87). Operands: a read of TIME.NOW_LO. -/
  | timeNowRead (m : Master)
  /-- A write of TIME.CONV_IN_HI converts a raw count under its epoch into CONV_OUT (R87). Operands: the word written to TIME.CONV_IN_HI. -/
  | timeConvert (m : Master) (v : Word)
  /-- A write of TIME.QCTL.LOCK_SET sets LOCKED and clears HOLDOVER (R92). Operands: the word written to TIME.QCTL. -/
  | lockSet (m : Master) (v : Word)
  /-- A write of TIME.QCTL.LOCK_CLR clears LOCKED (R92). Operands: the word written to TIME.QCTL. -/
  | lockClr (m : Master) (v : Word)
  /-- A write of TIME.FEED is a HOST or PTP source event for the source monitor (R93). Operands: the word written to TIME.FEED. -/
  | timeFeed (m : Master) (v : Word)
  /-- A rising PPS_IN edge is captured and is a PPS source event (R89). Operands: a rising edge, at the present raw count. -/
  | ppsInEdge
  /-- The source monitor counts a miss when no source event arrives in time; at the third it enters holdover (R93). Operands: the period of the monitor has passed. -/
  | sourceMiss
  /-- TIME.SUP_TO expires since the last source event and the source is declared lost (R93). Operands: SUP_TO has passed since the last event. -/
  | srcLost
  /-- Once per second while not locked, HOLD_DRIFT is added to ERR_EST (R94). Operands: one second has passed. -/
  | holdDriftTick
  /-- Every 60 s the calendar is loaded from disciplined time (R96). Operands: 60 s have passed. -/
  | calendarLoad
  /-- Every 600 s while locked the crystal is measured and CAL_TRIM updated (R96). Operands: crystal cycles counted over 600 s of disciplined time. -/
  | calendarTrim (crystalTicks : Nat)
  /-- A read of CAPj_FLAGS returns and clears VALID and OVF (R89). Operands: the capture latch whose flags are read. -/
  | captureFlagsRead (m : Master) (j : Fin 3)
  /-- A compare unit fires when disciplined time reaches its target and delivers to its destination (R98). Operands: the compare unit whose target is reached. -/
  | compareFire (k : Fin 16)
  /-- A write of CMPk_TGT_HI or CMPk_PER_HI recomputes the unit's next target (R98). Operands: the word written to CMPk_TGT_HI, or to CMPk_PER_HI. -/
  | compareRetarget (m : Master) (k : Fin 16) (perHi : Bool) (v : Word)
  /-- PPS_OUT falls after its PPS_W high time (R101). Operands: PPS_W has passed. -/
  | ppsOutEnd
  /-- Setting FPn.CTL.EN starts link bring-up of the field port (R105). Operands: the word written to FPn.CTL. -/
  | portEnable (m : Master) (n : Port) (v : Word)
  /-- Clearing FPn.CTL.EN abandons reception, finishes the burst and stops the port (R105). Operands: the word written to FPn.CTL. -/
  | portDisable (m : Master) (n : Port) (v : Word)
  /-- A sample-link slot arrives from the AFE and is checked, or discarded with zero samples (R113). Operands: whether the comma is in place and no code violation came, and characters 1 to 63. -/
  | fslSlotRx (n : Port) (commaOk codeOk : Bool) (chars : List Byte)
  /-- Loss of comma takes the port link DOWN (R114). Operands: the port. -/
  | fslCommaLoss (n : Port)
  /-- 10 ms in ALIGN restarts alignment and counts it (R114). Operands: the port. -/
  | fslAlignTimeout (n : Port)
  /-- The device sends SYNC once every 96,000 slots (R112). Operands: the port. -/
  | sync (n : Port)
  /-- An INFO message from the AFE reports class, version, latency residue, draw and bands (R115). Operands: the payload of R115. -/
  | info (n : Port) (p : BitVec 64)
  /-- A STATUS message from the AFE updates temperature, supply and current and may raise AFE_ALARM (R116). Operands: the payload of R115. -/
  | status (n : Port) (p : BitVec 64)
  /-- A TX_END from the AFE ends the burst and releases its power credit (R124). Operands: the payload of R115. -/
  | txEnd (n : Port) (p : BitVec 64)
  /-- An AUX_RESULT from the AFE carries an auxiliary converter result (R115). Operands: the payload of R115. -/
  | auxResult (n : Port) (p : BitVec 64)
  /-- A CMD_ACK from the AFE acknowledges a command, counting LATE answers (R117). Operands: the payload of R115. -/
  | cmdAck (n : Port) (p : BitVec 64)
  /-- A port requests a transmit power credit from the steward before a burst (R121). Operands: the burst length in slots. -/
  | creditRequest (n : Port) (len : BitVec 16)
  /-- A port requests an acknowledgement credit from the reserve or the transmit budget (R507). Operands: the burst length in slots. -/
  | ackCreditRequest (n : Port) (len : BitVec 16)
  /-- The power steward grants a waiting transmit request when it fits the budget (R506). Operands: the port whose waiting request is examined. -/
  | creditGrant (n : Port)
  /-- A request not granted within CRED_WAIT is withdrawn and the burst is not sent (R122). Operands: the port whose request has waited CRED_WAIT. -/
  | creditWithdraw (n : Port)
  /-- A request that has waited ARB.STARVE blocks later requests and sets STARVE (R506). Operands: the port whose request has waited ARB.STARVE. -/
  | creditStarve (n : Port)
  /-- TX_END has not arrived 1 ms after the burst's end; the port sends TX_OFF (R124). Operands: the port. -/
  | txEndTimeout (n : Port)
  /-- 200 µs after a port link goes DOWN or its domain goes off, the held credit is released (R124). Operands: the port. -/
  | creditReleaseDown (n : Port)
  /-- A deglitched zero-crossing edge is stamped and accepted or discarded for phase identification (R127). Operands: the phase, at the raw count at which the input has been stable for DEGLITCH. -/
  | zcEdge (p : Fin 3)
  /-- No edge of a phase is accepted for 50 ms, and its reference becomes invalid (R128). Operands: the phase. -/
  | zcLost (p : Fin 3)
  /-- A GPIO input edge enabled in INT_RISE or INT_FALL sets its interrupt bit (R131). Operands: the pin and the direction of the edge. -/
  | gpioEdge (k : Fin 16) (rise : Bool)
  /-- A COMPARE output pin goes low PULSE µs after its firing (R131). Operands: the pin. -/
  | gpioPulseEnd (k : Fin 16)
  /-- An NPL preamble is detected, the stamp is latched and the medium becomes busy (R147). Operands: the port, at the correlation peak referred to the preamble's first sample. -/
  | nplPreambleDetect (n : Port)
  /-- The NPL header is decoded, or discarded on HCS, reserved field or unknown TMI (R164). Operands: the header bits of R144. -/
  | nplHeaderDecode (n : Port) (hdr : BitVec 48)
  /-- The last data symbol ends; the frame is committed or rewound on RS or FCS failure (R164). Operands: whether Reed-Solomon decoding succeeded, the MAC frame, the mean SNR, the mean SNR of each carrier group in 0.25 dB, and the symbols blanked. -/
  | nplFrameEnd (n : Port) (rsOk : Bool) (frame : List Byte) (snr : Byte) (groups : List Byte) (blanked : Nat)
  /-- A matching ACK is received, ending the sender's wait and tracking mode recovery (R154). Operands: the header bits of R144. -/
  | nplAckRx (n : Port) (hdr : BitVec 48)
  /-- No matching ACK by the acknowledgement timeout; the frame is retried one mode more robust or discarded (R153). Operands: the port. -/
  | ackTimeout (n : Port)
  /-- A contention slot begins; a station whose drawn slot it is transmits or defers (R148). Operands: the slot number of the contention period, and whether the medium is found busy. -/
  | contentionSlot (n : Port) (slot : Nat) (energy : Bool)
  /-- After each BCN_PERIOD the port sends a beacon in slot 0 of the next contention period (R161). Operands: the port. -/
  | nplBeacon (n : Port)
  /-- A tone-map command from a receiver makes its new map available to the sender (R143). Operands: the receiver that sends the map, its index, and the bits of each group. -/
  | toneMapRx (n : Port) (src : BitVec 16) (idx : BitVec 4) (map : List Nat)
  /-- A route frame from a node updates the route cache entry of that destination (R159). Operands: the node, the neighbour that delivered its frame, and what the frame names. -/
  | routeFrameRx (n : Port) (node via : BitVec 16) (hops : BitVec 4) (cost : BitVec 16) (tag : BitVec 2)
  /-- An NPL route cache entry expires RT_LIFE after its last route frame (R160). Operands: the destination. -/
  | routeExpire (n : Port) (node : BitVec 16)
  /-- A frame still without a route when RT_WAIT ends is discarded (R160). Operands: the port. -/
  | routeWaitExpire (n : Port)
  /-- An NPL join frame is checked against permission and the node limit and handed to Gate (R106). Operands: the node that asks. -/
  | nplJoinRequest (n : Port) (eui : BitVec 64)
  /-- A G3 LoWPAN bootstrap message is handled by the port as bootstrap server (R137). Operands: the node that asks and its message. -/
  | g3Bootstrap (n : Port) (eui : BitVec 64) (msg : List Byte)
  /-- A G3 port answers a beacon request with a beacon (R161). Operands: the port. -/
  | g3BeaconRequest (n : Port)
  /-- A write of FMn.PIB_DATA applies the selected G.9903 attribute (R139). Operands: the word written to FMn.PIB_DATA. -/
  | pibWrite (m : Master) (n : Port) (v : Word)
  /-- A read of FMn.PIB_DATA returns the selected G.9903 attribute and sets PIB_STAT (R139). Operands: a read of FMn.PIB_DATA. -/
  | pibRead (m : Master) (n : Port)
  /-- When back-pressure clears, a port commits its held frames in arrival order (R166). Operands: the port. -/
  | heldFrameCommit (n : Port)
  /-- An event slot begins on the coordinator's grid: beacon, shared or assignable (R175). Operands: whether listening finds the channel busy. -/
  | sunSlotStart (n : Port) (busy : Bool)
  /-- A backoff after a busy listen ends and the station listens again (R178). Operands: whether listening finds the channel busy. -/
  | lbtBackoffEnd (n : Port) (busy : Bool)
  /-- A SUN PPDU is received; PHR and FCS are checked, and the frame committed or rewound (R170). Operands: whether the PHR passes its check and the FCS is correct, the PSDU without its FCS, and the received level. -/
  | sunFrameRx (n : Port) (phrOk fcsOk : Bool) (psdu : List Byte) (level : Byte)
  /-- A CONNECT_REQ in a shared slot is accepted or refused by the coordinator (R182). Operands: the member that asks. -/
  | connectReq (n : Port) (eui : BitVec 64)
  /-- A member receives CONNECT_RSP and becomes CONNECTED or returns to SCAN (R186). Operands: the payload of R180. -/
  | connectRsp (n : Port) (result : Byte) (addr anchor : BitVec 16) (e : Byte)
  /-- A sender receives the ACK of its frame (R184). Operands: the SEQ answered. -/
  | sunAckRx (n : Port) (seq : Word)
  /-- A sender that receives no ACK retries at its next turn or counts TX_FAIL (R184). Operands: the port. -/
  | sunAckMissing (n : Port)
  /-- A sender receives BUSY and retries after BACKOFF events (R188). Operands: the SEQ answered and BACKOFF. -/
  | busyRx (n : Port) (seq : Word) (backoff : BitVec 4)
  /-- SUP_TO passes without a valid frame and the connection is lost (R185). Operands: the connection, for a coordinator. -/
  | sunSupervisionTimeout (n : Port) (addr : BitVec 16)
  /-- A beacon slot ends in CONNECTED without a valid beacon; the third miss enters RESYNC (R186). Operands: the port. -/
  | beaconMissed (n : Port)
  /-- A member's scan dwell on one beacon channel ends and it moves to the next (R186). Operands: the port. -/
  | scanDwellEnd (n : Port)
  /-- No answer to CONNECT_REQ in 4 shared slots returns the member to SCAN (R186). Operands: the port. -/
  | connectNoAnswer (n : Port)
  /-- A write of MAP_CTL.APPLY schedules the staged channel map for the map instant (R177). Operands: the word written to FMn.SUN.MAP_CTL. -/
  | mapApply (m : Master) (n : Port) (v : Word)
  /-- NBR_CMD CREATE makes a PRESET entry for an EUI (R194). Operands: the word written to GTE.NBR_CMD. -/
  | nbrCreate (m : Master) (v : Word)
  /-- NBR_CMD UNBIND returns an ACTIVE entry to PRESET and releases its address (R194). Operands: the word written to GTE.NBR_CMD. -/
  | nbrUnbind (m : Master) (v : Word)
  /-- NBR_CMD BLOCK puts an entry in BLOCKED (R194). Operands: the word written to GTE.NBR_CMD. -/
  | nbrBlock (m : Master) (v : Word)
  /-- NBR_CMD UNBLOCK returns a BLOCKED entry to ACTIVE or PRESET (R194). Operands: the word written to GTE.NBR_CMD. -/
  | nbrUnblock (m : Master) (v : Word)
  /-- NBR_CMD FREE erases an entry's keys and record (R194). Operands: the word written to GTE.NBR_CMD. -/
  | nbrFree (m : Master) (v : Word)
  /-- NBR_CMD FIND looks up the entry holding an EUI (R211). Operands: the word written to GTE.NBR_CMD. -/
  | nbrFind (m : Master) (v : Word)
  /-- A read of NBR_DATA0 latches the whole 64-byte neighbour record (R210). Operands: a read of GTE.NBR_DATA0. -/
  | nbrRead (m : Master)
  /-- A join request reaches Gate and moves or binds a neighbour entry (R194). Operands: the port and the node that asks. -/
  | joinRequest (n : Port) (eui : BitVec 64)
  /-- GTE.JOIN_TO expires for a JOINING entry and the join is refused (R194). Operands: the entry. -/
  | joinTimeout (idx : BitVec 16)
  /-- INST_CTL.GO starts unwrapping and installing a node key (R203). Operands: whether an APP core writes in machine mode, and the word written to GTE.INST_CTL. -/
  | keyInstall (m : Master) (machine : Bool) (v : Word)
  /-- The key record is written, the window reset, journaled and INST_DONE set (R203). Operands: the installation in progress. -/
  | keyInstallDone
  /-- Every CKPT_PERIOD Gate journals a checkpoint for each changed entry (R206). Operands: CKPT_PERIOD has passed. -/
  | gateCheckpoint
  /-- The application key grace period ends and the old generation is erased (R201). Operands: the entry. -/
  | rollGraceEnd (idx : BitVec 16)
  /-- A writer's first word names a queue and reserves MAXC cells (R217). Operands: the writer (0 to 63 ports, 64 CHN_UP, 65 CHN_DN, 66 ETH0, 67 ETH1, 68 mirror, 69 to 72 host contexts, 73 to 88 TASK cores) and its queue. -/
  | packetStart (w : Fin 89) (q : Fin 1024)
  /-- A writer waiting for FREE to cover its reservation is given it when cells return (R229). Operands: the writer. -/
  | reservationWaitEnd (w : Fin 89)
  /-- A packet's last word is written and it is committed to its queue in one step (R218). Operands: the writer, its payload, capture stamp, quality and source data. -/
  | packetCommit (w : Fin 89) (payload : List Byte) (stamp : Nat) (qual : Byte) (srcInfo : List Byte)
  /-- A writer abandons an uncommitted packet and its cells return to FREE (R220). Operands: the writer. -/
  | packetRewind (w : Fin 89)
  /-- A consumer releases a packet and its cells return to FREE or quarantine (R221). Operands: the packet's first cell. -/
  | packetRelease (cell : BitVec 16)
  /-- QCMD FLUSH releases every packet of a disabled queue (R225). Operands: the word written to CRU.QCMD. -/
  | queueFlush (m : Master) (v : Word)
  /-- QCMD RECOVER delivers packets before a break, scans the link table and clears FAULT (R226). Operands: the word written to CRU.QCMD. -/
  | queueRecover (m : Master) (v : Word)
  /-- The patrol reads every non-WRITING cell once per SCRUB_PERIOD and corrects errors (R232). Operands: the banks in which the pass corrected a word, once for each, the cells with an uncorrectable data word, and the cells with an uncorrectable link entry. -/
  | scrubPass (corrected : List (Fin 16)) (ueData : List (BitVec 16)) (ueLink : List (BitVec 16))
  /-- A write to HCTX_k.ALLOC allocates cells for a host context's open packet (R234). Operands: the word written to HCTX_k.ALLOC. -/
  | hctxAlloc (m : Master) (k : Fin 4) (v : Word)
  /-- A write to HCTX_k.COMMIT commits the host context's packet to a queue (R234). Operands: the word written to HCTX_k.COMMIT. -/
  | hctxCommit (m : Master) (k : Fin 4) (v : Word)
  /-- HCTX_k.ABORT rewinds the host context's open packet (R234). Operands: the word written to HCTX_k.ABORT. -/
  | hctxAbort (m : Master) (k : Fin 4) (v : Word)
  /-- A read of POP_RES unlinks the head packet of the named HOST queue for the context (R235). Operands: a read of HCTX_k.POP_RES. -/
  | hctxPop (m : Master) (k : Fin 4)
  /-- A write of HCTX_k.FREE releases a held packet (R235). Operands: the word written to HCTX_k.FREE. -/
  | hctxFree (m : Master) (k : Fin 4) (v : Word)
  /-- A BAR2 access reaches a host cell, or is refused and logged for any other cell (R233). Operands: the byte offset of a word, and the data of a write. -/
  | bar2Access (m : Master) (off : BitVec 24) (write : Bool) (v : Word)
  /-- DRAIN_CTL.GO closes a bank to allocation and starts a drain (R236). Operands: the word written to CRU.DRAIN_CTL. -/
  | bankDrain (m : Master) (v : Word)
  /-- After DRAIN_WAIT the remaining unpinned cells of the bank are relocated (R236). Operands: DRAIN_WAIT has passed. -/
  | drainRelocate
  /-- The draining bank holds no live cell and becomes ISOLATED (R236). Operands: the draining bank. -/
  | drainEmpty
  /-- Pinned cells remain at DRAIN_TO; the drain ends PINNED_TIMEOUT and the bank reopens (R236). Operands: DRAIN_TO has passed. -/
  | drainTimeout
  /-- DRAIN_CTL.RELEASE re-initialises an isolated bank and reopens it (R237). Operands: the word written to CRU.DRAIN_CTL. -/
  | bankRelease (m : Master) (v : Word)
  /-- Planish pops a packet whose whole chain it can reserve and builds its first descriptors (R243). Operands: the queue popped. -/
  | packetPop (q : Fin 1024)
  /-- Planish hands the oldest ready task of the highest list to an executor with room (R250). Operands: the executor class (0 Gate, 1 AES lanes, 2 SHA-384 engines, 3 ECDSA, 4 Assay, 5 Touchstone, 6 tariff engine, 7 TASK cores, 8 Planish). -/
  | taskDispatch (cls : Fin 9)
  /-- T1 completes at Gate with ACCEPT, DUP, REPLAY or a failure outcome (R198). Operands: the descriptor, and whether the result is known by the acknowledgement deadline. -/
  | linkCheck (d : Fin 16384) (inTime : Bool)
  /-- T2 completes with an application outcome; on success Planish expands the chain (R200). Operands: the descriptor. -/
  | decrypt (d : Fin 16384)
  /-- T3 completes at Assay, giving each value its checks and status word (R263). Operands: the descriptor. -/
  | validate (d : Fin 16384)
  /-- T4 completes: the profile record and its journal record are written (R269). Operands: the descriptor. -/
  | profileUpdate (d : Fin 16384)
  /-- T5 completes: the record's quantity accrues to its account registers (R302). Operands: the descriptor. -/
  | tariffAccrual (d : Fin 16384)
  /-- T6 completes: the leaf hash is placed at its LIDX in the interval's tree (R325). Operands: the descriptor. -/
  | merkleLeaf (d : Fin 16384)
  /-- T7 completes: the value is added to its group, phase and interval sums (R351). Operands: the descriptor. -/
  | balanceContribution (d : Fin 16384)
  /-- T8 completes: the frame's cells and descriptors are freed (R248). Operands: the descriptor. -/
  | retire (d : Fin 16384)
  /-- The item task completes, handling non-reading items of a frame (R244). Operands: the descriptor. -/
  | itemTask (d : Fin 16384)
  /-- A CODE or CONTROL task ends with DONE, FAIL or YIELD (R247). Operands: the descriptor, how its code ended (0 DONE, 1 FAIL, 2 YIELD) and the result. -/
  | codeTaskDone (d : Fin 16384) (how : Fin 3) (result : Word)
  /-- A host AES_OP task completes and its completion entry is written (R254). Operands: the descriptor, whether the operation succeeded, and its result. -/
  | aesOpDone (d : Fin 16384) (ok : Bool) (result : Word)
  /-- A SHA_OP digest, leaf or node operation completes (R343). Operands: the descriptor. -/
  | shaOpDone (d : Fin 16384)
  /-- A PK_OP sign or verify operation completes with its result (R343). Operands: the descriptor. -/
  | pkOpDone (d : Fin 16384)
  /-- An XFER task moves its packet to another queue (R240). Operands: the descriptor. -/
  | xferDone (d : Fin 16384)
  /-- Task code writes a descriptor image to its submission window and reads OK, AGAIN or BAD_KIND (R246). Operands: the core and the 32-byte descriptor image. -/
  | taskSubmit (core : Fin 16) (image : List Byte)
  /-- A task still RUNNING after TASK_TO is stopped, its core reset, and it is redispatched or ended (R247). Operands: the descriptor. -/
  | taskTimeout (d : Fin 16384)
  /-- A write of SQk_TAIL announces new host submission entries (R254). Operands: the word written to SQk_TAIL. -/
  | sqDoorbell (m : Master) (k : Fin 8) (v : Word)
  /-- Planish fetches a submission entry while HOST is not back-pressured and makes it READY (R254). Operands: the queue and the 32-byte entry at its head. -/
  | sqFetch (k : Fin 8) (entry : List Byte)
  /-- The drain's conditions hold; BOUNDARY events go to the subscribers (R255). Operands: the oldest drain, BND_SETTLE after its firing. -/
  | boundaryDrainComplete
  /-- BND_MAX passes, or a ninth firing arrives, and the drain completes with LATE (R255). Operands: the oldest drain, BND_MAX after its firing. -/
  | boundaryDrainLate
  /-- Each OBS_WIN the scheduler observation figures are updated (R257). Operands: the longest and mean wait of each priority level, and each core's busy per mille. -/
  | obsWindowEnd (waitMax waitAvg : List Word) (busy : List Nat)
  /-- A read of DESC_DATA0 latches the selected descriptor (R257). Operands: a read of PLN.DESC_DATA0. -/
  | descRead (m : Master)
  /-- Profile task code acts on a BOUNDARY event: closes slots and filing intervals (R275). Operands: the oldest BOUNDARY event that profile task code has not acted on. -/
  | profileBoundary
  /-- A set-back span retires when time reaches its end plus CLOSE_LAG intervals (R284). Operands: the oldest live span, at its end. -/
  | setbackSpanRetire
  /-- Profile task code enters FALLBACK on low space, unavailability or force (R288). Operands: the cause is read from the state. -/
  | fallbackEnter
  /-- FALLBACK ends and SUMMARY records are filed with SHORT (R288). Operands: the conditions are read from the state. -/
  | fallbackExit
  /-- PRF.Q_CTL.GO reads a current or annex record (R289). Operands: the word written to PRF.Q_CTL. -/
  | profileRead (m : Master) (v : Word)
  /-- The record read completes into Q_DATA and Q_DONE is set (R289). Operands: whether Ingot's read was uncorrectable. -/
  | profileReadDone (unc : Bool)
  /-- PRF.E_CTL.GO files an EDITED record for the selected slot (R289). Operands: the word written to PRF.E_CTL. -/
  | profileEdit (m : Master) (v : Word)
  /-- The LEGAL cores disagree; the core halts and LGL is reset (R294). Operands: the LEGAL cores disagree. -/
  | lockstepMismatch
  /-- Every CKPT_PERIOD the billing registers are checkpointed to Ingot (R295). Operands: CKPT_PERIOD has passed. -/
  | tariffCheckpoint
  /-- A billing period closes when its slots have closed or the grace expires (R308). Operands: the period end that is due. -/
  | periodClose
  /-- The close sweep has copied every untouched account (R308). Operands: the sweep in progress. -/
  | periodSweepDone
  /-- A read of OBJ.SESS_CHAL_LO issues a fresh challenge to that master (R314). Operands: a read of OBJ.SESS_CHAL_LO. -/
  | sessionChallenge (m : Master)
  /-- SESS_CTL OPEN checks the response and opens a role session (R314). Operands: the word written to OBJ.SESS_CTL. -/
  | sessionOpen (m : Master) (v : Word)
  /-- SESS_CTL CLOSE returns the master to PUBLIC (R314). Operands: the word written to OBJ.SESS_CTL. -/
  | sessionClose (m : Master) (v : Word)
  /-- A session ends after 900 s without a request (R314). Operands: the master whose session ends. -/
  | sessionTimeout (m : Master)
  /-- An object GET request returns an object's value (R315). Operands: the word written to OBJ.REQ_CTL. -/
  | objGet (m : Master) (v : Word)
  /-- An object SET request writes an object, checked and committed (R315). Operands: the word written to OBJ.REQ_CTL. -/
  | objSet (m : Master) (v : Word)
  /-- ACTION ACTIVATE arms the passive tariff set for ACT_MIN (R298). Operands: the word written to OBJ.REQ_CTL. -/
  | actionActivate (m : Master) (v : Word)
  /-- ACTION CANCEL disarms an activation before ACT_MIN (R298). Operands: the word written to OBJ.REQ_CTL. -/
  | actionCancel (m : Master) (v : Word)
  /-- ACTION CLOSE sets the period end to the next filing boundary (R307). Operands: the word written to OBJ.REQ_CTL. -/
  | actionClose (m : Master) (v : Word)
  /-- ACTION ACK acknowledges the legal event log and clears LOG.NEAR (R319). Operands: the word written to OBJ.REQ_CTL. -/
  | actionAck (m : Master) (v : Word)
  /-- After a close record and its T6 tasks, the tree is closed, signed and journaled (R328). Operands: the oldest closed interval. -/
  | sealInterval
  /-- A seal is released once the partner has applied its SEAL record, or at once without one (R335). Operands: the oldest seal not yet released. -/
  | sealRelease
  /-- The HEAD makes a re-seal when every unit has delivered its seal for the interval (R338). Operands: the oldest own seal without a re-seal. -/
  | reseal
  /-- RESEAL_GRACE passes since the HEAD's own seal and the re-seal is made with MISSING leaves (R338). Operands: the oldest own seal without a re-seal. -/
  | resealGraceExpire
  /-- HLM.PRQ_CTL.GO requests an inclusion proof for a record (R341). Operands: the word written to HLM.PRQ_CTL. -/
  | proofRequest (m : Master) (v : Word)
  /-- The proof is written into a Crucible packet and PRQ_DONE is set (R341). Operands: the request in progress. -/
  | proofDone
  /-- After slot closing for a drain, Touchstone closes due group intervals and feeds the detectors (R355). Operands: the oldest BOUNDARY event that Touchstone has not acted on. -/
  | tchGroupClose
  /-- After an ALARM_POS, member step drops are assessed and CANDIDATE reports written (R369). Operands: the oldest alarm that waits for its localisation. -/
  | tchLocalise
  /-- MODEL_CTL.WRITE takes A, B and sigma from the registers and enters WATCH (R359). Operands: the word written to TCH.MODEL_CTL. -/
  | modelWrite (m : Master) (v : Word)
  /-- MODEL_CTL.RELEARN clears the fit and sums and enters LEARN (R359). Operands: the word written to TCH.MODEL_CTL. -/
  | modelRelearn (m : Master) (v : Word)
  /-- MODEL_CTL.HOLD puts the phase detector in HOLD (R359). Operands: the word written to TCH.MODEL_CTL. -/
  | modelHold (m : Master) (v : Word)
  /-- MODEL_CTL.RESUME returns from HOLD to WATCH or LEARN (R359). Operands: the word written to TCH.MODEL_CTL. -/
  | modelResume (m : Master) (v : Word)
  /-- A group or member configuration write is checked and accepted or refused (R350). Operands: the configuration register and the word written to it, for the group and member selected. -/
  | tchConfigWrite (m : Master) (r : TchReg) (v : Word)
  /-- At each grid day end members' correlations are evaluated for MOVE and WEAK_CORR (R367). Operands: a grid day has ended. -/
  | tchDayEval
  /-- Every CKPT_PERIOD phase windows and correlation sums are checkpointed (R372). Operands: CKPT_PERIOD has passed. -/
  | tchCheckpoint
  /-- A profile-area AU is programmed, a MAP record appended and the map updated (R379). Operands: the logical AU, the erased physical AU Ingot has allocated, and the data. -/
  | auWrite (logical phys : BitVec 32) (data : List Byte)
  /-- A journal record is appended to the DRAM tail, waiting while the tail is at its bound (R380). Operands: the record's KIND, its LOCAL flag and its body. -/
  | journalAppend (kind : Fin 16) (isLocal : Bool) (body : List Byte)
  /-- A journal page is programmed into both journal copies (R383). Operands: the oldest records of the tail. -/
  | journalPageProgram
  /-- A dirty map page is programmed, letting waiting MAP records proceed (R379). Operands: the map page. -/
  | mapPageProgram (page : BitVec 20)
  /-- A journal page below the release horizon is released (R384). Operands: the oldest journal page. -/
  | journalRelease
  /-- A source block's valid AUs are copied, verified, remapped and the block erased (R387). Operands: the source block and the attempts to copy its valid AUs, in order. -/
  | gcRelocate (blk : Nat) (dst : List CopyTo)
  /-- A block is refreshed by relocation on read count or correction level (R388). Operands: the block and the attempts to copy its valid AUs, in order. -/
  | blockRefresh (blk : Nat) (dst : List CopyTo)
  /-- The patrol reads every mapped page once in SCAN_DAYS (R388). Operands: the block read and the highest number of corrected bits found. -/
  | patrolRead (blk bits : Nat)
  /-- A failed program or erase retires the block and may enter READ_ONLY (R389). Operands: the block whose program or erase failed. -/
  | nandProgFail (blk : Nat)
  /-- A NAND read completes, with correction, retries or UNC (R376). Operands: the physical AU, the corrected bits, the read-retries and whether it stays uncorrectable. -/
  | nandRead (phys : BitVec 32) (bits retries : Nat) (unc : Bool)
  /-- The flush on hold-up completes with FLUSH_DONE programmed (R390). -/
  | quenchEnd
  /-- A capacitor test starts on GO or its period: WT_ALL flush then test pin high (R393). Operands: the word written to IGT.CAP_CTL with its master, or none where the period has passed. -/
  | capTest (m : Master) (w : Option Word)
  /-- HOLD_V falls during a test; T_TEST is recorded and T_hold computed (R393). Operands: the edge of HOLD_V. -/
  | holdVFall
  /-- HOLD_V has not fallen 500 ms into the test; it ends NO_FALL (R393). Operands: 500 ms into a test. -/
  | capTestNoFall
  /-- RECHARGE_MS after a test, Ingot leaves WT_ALL and applies its bounds (R393). Operands: RECHARGE_MS after a test. -/
  | capRechargeEnd
  /-- An Ozsum link trains to UP and grants its initial credits (R401). Operands: the link: 0 CHN_UP, 1 CHN_DN. -/
  | chnLinkUp (l : Fin 2)
  /-- A link frame arrives; FCS and SEQ are checked and it is committed or rewound (R398). Operands: the link and the frame from its header to its FCS. -/
  | chnFrameRx (l : Fin 3) (bytes : List Byte)
  /-- A LINKCTL frame updates acknowledgements and credits at the transmitter (R399). Operands: the link (2 is the mirror link), the sender (its pair slot there), and the body of R399. -/
  | linkctl (l : Fin 3) (src : Byte) (ack : BitVec 32) (c0 c1 : BitVec 16)
  /-- The receiver sends a LINKCTL frame on its 10 µs or 100 µs timer (R399). Operands: the link whose receiver reports. -/
  | linkctlSend (l : Fin 3)
  /-- No new ACK for RTX_TO; frames are retransmitted from the first unacknowledged one (R399). Operands: the link whose frames are unacknowledged. -/
  | chnRetransmit (l : Fin 3)
  /-- No valid frame for LINK_TO takes the link DOWN and it retrains (R401). Operands: the link without a valid frame. -/
  | chnLinkTimeout (l : Fin 2)
  /-- Withheld chain credits are granted when CHN back-pressure clears (R400). Operands: the link whose withheld credits are due. -/
  | creditReturn (l : Fin 3)
  /-- An ENUM frame gives a RELAY its address and is forwarded or answered (R402). Operands: NEXT. -/
  | enum (next : Byte)
  /-- An ENUM_END frame is forwarded upstream or completes enumeration at the HEAD (R402). Operands: LAST and OVERFLOW. -/
  | enumEnd (last : Byte) (overflow : Bool)
  /-- No ENUM_END within ENUM_TO; the unit sends ENUM_END itself (R402). Operands: ENUM_TO has passed. -/
  | enumTimeout
  /-- A JOIN_REQ is forwarded toward the HEAD, which starts a new walk (R402). Operands: a JOIN_REQ received on CHN_DN. -/
  | joinReq
  /-- A RELAY without an address sends JOIN_REQ once per second (R402). Operands: a second has passed. -/
  | joinReqSend
  /-- CHN.CTL.ADDR_ACCEPT accepts a changed chain address (R403). Operands: the word written to CHN.CTL. -/
  | addrAccept (m : Master) (v : Word)
  /-- The HEAD verifies a RELAY's certificate and registers its seal key (R404). Operands: the unit, its identity certificate and its seal-key certificate. -/
  | unitId (unit : BitVec 6) (cert sealCert : List Byte)
  /-- UNIT_CMD REVOKE removes a registered key (R404). Operands: the word written to CHN.UNIT_CMD. -/
  | unitRevoke (m : Master) (v : Word)
  /-- UNIT_CMD FORGET removes a unit's unbound nodes from the node table (R410). Operands: the word written to CHN.UNIT_CMD. -/
  | unitForget (m : Master) (v : Word)
  /-- The HEAD receives a BATCH message, verifies it and files and accrues its records (R409). Operands: the sending unit, its seal and the canonical records. -/
  | batch (unit : BitVec 6) (sealB : List Byte) (recs : List (List Byte))
  /-- A RELAY receives BATCH_ACK for a seal's SEQ (R408). Operands: the seal's SEQ. -/
  | batchAck (seq : BitVec 64)
  /-- A RELAY receives BATCH_REQ and resends the batch (R408). Operands: the SEQ that the HEAD needs. -/
  | batchReq (seq : BitVec 64)
  /-- The HEAD repeats a batch request after REQ_TO; the third failure marks gaps (R408). Operands: the unit whose request has stood for REQ_TO. -/
  | batchReqTimer (unit : BitVec 6)
  /-- A unit receives a forwarded PROOF_REQ and builds the proof (R341). Operands: channel key, slot, annex number and three zero bytes. -/
  | proofReq (body : List Byte)
  /-- The HEAD receives a PROOF_RSP for a forwarded proof request (R341). Operands: the unit, the result of R346 and the proof. -/
  | proofRsp (unit : BitVec 6) (res : Fin 9) (proof : List Byte)
  /-- A forwarded proof request gets no answer within 2 s and ends UNREACHABLE (R341). Operands: 2 s without an answer. -/
  | proofUnreachable
  /-- An EVENT message is received (R405). Operands: the originator and the body. -/
  | chnEvent (unit : BitVec 6) (body : List Byte)
  /-- A HOST message carrying an opaque body is received (R405). Operands: the originator and the body. -/
  | chnHost (unit : BitVec 6) (body : List Byte)
  /-- A TIME frame is stamped; received on CHN_UP it is a CHAIN source event (R412). Operands: the link, SEQ, and the time and quality it carries. -/
  | time (l : Fin 2) (seq : BitVec 32) (time : BitVec 64) (qual : Byte)
  /-- A TIME_REQ frame is received and stamped (R412). Operands: the link and SEQ. -/
  | timeReq (l : Fin 2) (seq : BitVec 32)
  /-- A TIME_RSP frame is received and stamped (R412). Operands: the link and SEQ. -/
  | timeRsp (l : Fin 2) (seq : BitVec 32)
  /-- Every TBCN_PERIOD a unit with time sends a TIME frame on CHN_DN (R412). Operands: TBCN_PERIOD has passed. -/
  | timeBeaconSend
  /-- A read of a TSj_LO register pops the stamp entry and latches the rest (R416). Operands: a read of CHN.TSj_LO (0 to 3) or ETH.p.TSd_LO (4 + 2p + d). -/
  | stampFifoRead (m : Master) (j : Fin 8)
  /-- An Ethernet frame is filtered and committed to its receive queue (R413). Operands: the port, the frame without its FCS, and whether its FCS is right. -/
  | ethFrameRx (p : Fin 2) (bytes : List Byte) (fcsOk : Bool)
  /-- A received PAUSE or PFC frame halts the named port or class (R413). Operands: the port, whether the frame is PFC, its priorities, and its quanta. -/
  | pauseRx (p : Fin 2) (pfc : Bool) (prios : Byte) (quanta : BitVec 16)
  /-- Under back-pressure the port repeats PAUSE at half its quanta (R414). Operands: half of the quanta sent have elapsed. -/
  | pauseRefresh (p : Fin 2)
  /-- A mirror HEARTBEAT is received, updating partner claim, TOP and APPLIED (R422). Operands: SRC and the 32-byte body of R422. -/
  | heartbeat (src : Byte) (body : List Byte)
  /-- Each unit sends a HEARTBEAT every HB_PERIOD (R422). Operands: HB_PERIOD has passed. -/
  | heartbeatSend
  /-- No valid heartbeat for HB_LOSS clears PARTNER_HB (R422). Operands: HB_LOSS has passed without a valid HEARTBEAT. -/
  | partnerLost
  /-- The standby applies a shipped journal record to its tail (R420). Operands: the record, and what STORE transfers have brought for it. -/
  | jrec (seq : BitVec 64) (kind : Fin 16) (isLocal : Bool) (body : List Byte) (carried : Carried)
  /-- The standby programs a shipped AU and maps it (R421). Operands: the logical AU, the erased AU of the standby that takes it, the data, and the ledger sequence of the active unit's MAP record (0 for none). -/
  | store (logical phys : BitVec 32) (data : List Byte) (seq : BitVec 64)
  /-- The active unit receives SYNC_REQ and ships from the named sequence or starts a full copy (R424). Operands: the first ledger sequence that the standby lacks. -/
  | syncReq (seq : BitVec 64)
  /-- The active unit latches a HEALTH report from the standby (R423). Operands: the 32 bytes of R423. -/
  | health (body : List Byte)
  /-- The standby sends HEALTH every HEALTH_PERIOD (R423). Operands: HEALTH_PERIOD has passed. -/
  | healthSend
  /-- The mirror link goes DOWN (R424). Operands: the mirror link goes DOWN. -/
  | mirLinkDown
  /-- The mirror link down for SOLO_TO ends eligibility or makes the active unit SOLO (R440). Operands: the link has been DOWN for SOLO_TO. -/
  | soloTimeout
  /-- A claim-bus round is run on the 10 ms timer or a CLAIM_CK fall, arbitrating the claim (R428). Operands: the partner's claim where it contends, the ROUND it sends as winner, whether the CRC read is right, whether a line is held low, and the uncorrectable DRAM errors since the last round. -/
  | claimRound (partner : Option (BitVec 16)) (pround : BitVec 6) (crcOk stuck : Bool) (dramUe : Byte)
  /-- The state load ends; the unit sets the lane switch, enables ports and enters its role mode (R436). Operands: the state load has ended. -/
  | takeoverReady
  /-- CLM.CTL.GIVE_UP drops the active unit's claim to 0 (R434). Operands: the word written to CLM.CTL. -/
  | giveUp (m : Master) (v : Word)
  /-- CLM.CTL.REJOIN re-enters contention and synchronises incremental or full (R439). Operands: the word written to CLM.CTL. -/
  | rejoin (m : Master) (v : Word)
  /-- CLM.CTL.HANDOVER stops popping and waits for the partner to apply everything (R441). Operands: the word written to CLM.CTL. -/
  | handover (m : Master) (v : Word)
  /-- The partner's APPLIED equals TOP; HANDOVER is journaled and the unit gives up (R441). Operands: the partner's APPLIED has reached TOP. -/
  | handoverComplete
  /-- HANDOVER_TO expires and the handover is abandoned (R441). Operands: HANDOVER_TO has passed. -/
  | handoverTimeout
  /-- CLM.CTRL.GRANT with the current epoch grants CONTROL work (R438). Operands: the word written to CLM.CTRL. -/
  | ctrlGrant (m : Master) (v : Word)
  /-- CLM.CTRL.DENY denies CONTROL work (R438). Operands: the word written to CLM.CTRL. -/
  | ctrlDeny (m : Master) (v : Word)
  /-- LIFE.CMD to FACTORY fuses a device secret and derives slots 0–4 (R445). Operands: the word written to LIFE.CMD. -/
  | lcToFactory (m : Master) (v : Word)
  /-- LIFE.CMD to PROVISIONED, once keys and certificates are present (R445). Operands: the word written to LIFE.CMD. -/
  | lcToProvisioned (m : Master) (v : Word)
  /-- LIFE.CMD to FIELD, with debug closed and configuration committed (R445). Operands: the word written to LIFE.CMD. -/
  | lcToField (m : Master) (v : Word)
  /-- A tokened LIFE.CMD to RETURN blocks the secret and clears (R445). Operands: the word written to LIFE.CMD. -/
  | lcToReturn (m : Master) (v : Word)
  /-- LIFE.CMD to RETIRED clears, blocks the secret and erases certificates (R445). Operands: the word written to LIFE.CMD. -/
  | lcToRetired (m : Master) (v : Word)
  /-- A read of LIFE.CHAL_LO issues a life-cycle challenge (R446). Operands: a read of LIFE.CHAL_LO. -/
  | lifeChallenge (m : Master)
  /-- A read of DBG.CHAL_LO issues a debug challenge (R446). Operands: a read of DBG.CHAL_LO. -/
  | debugChallenge (m : Master)
  /-- DBG.REQ.GO submits a debug level request, with or without scan (R449). Operands: the word written to DBG.REQ. -/
  | debugRequest (m : Master) (v : Word)
  /-- A write of KEYS.SEL loads the slot's attributes and info (R473). Operands: the word written to KEYS.SEL. -/
  | keySelect (m : Master) (v : Word)
  /-- KEYS.CMD IMPORT unwraps a key into the selected slot (R457). Operands: whether an APP core writes in machine mode, and the word written to KEYS.CMD. -/
  | keyImport (m : Master) (machine : Bool) (v : Word)
  /-- KEYS.CMD IMPORT_PUB stores a public key in the slot (R457). Operands: whether an APP core writes in machine mode, and the word written to KEYS.CMD. -/
  | keyImportPub (m : Master) (machine : Bool) (v : Word)
  /-- KEYS.CMD GENERATE fills the slot from the TRNG (R457). Operands: whether an APP core writes in machine mode, and the word written to KEYS.CMD. -/
  | keyGenerate (m : Master) (machine : Bool) (v : Word)
  /-- KEYS.CMD ZEROISE empties the slot (R457). Operands: whether an APP core writes in machine mode, and the word written to KEYS.CMD. -/
  | keyZeroise (m : Master) (machine : Bool) (v : Word)
  /-- KEYS.CMD NARROW applies the staged, narrower attributes (R457). Operands: whether an APP core writes in machine mode, and the word written to KEYS.CMD. -/
  | keyNarrow (m : Master) (machine : Bool) (v : Word)
  /-- Ledger time reaches a slot's EXPIRY and the slot is zeroised (R460). Operands: the slot whose EXPIRY ledger time reaches. -/
  | keyExpire (slot : Byte)
  /-- Every ANNEAL_MS every slot is re-masked with a new mask (R461). Operands: a re-mask period has passed. -/
  | annealPass
  /-- An enabled tamper cause zeroises the slots and requests an SWF reset (R469). Operands: the cause seen. -/
  | tamper (cause : Fin 6)
  /-- ATT_CTL.GO with ITEM 0 produces a signed attestation report (R467). Operands: the word written to SEC.ATT_CTL. -/
  | attestReport (m : Master) (v : Word)
  /-- ATT_CTL.GO with ITEM 1–5 returns a certificate or the IDK public key (R467). Operands: the word written to SEC.ATT_CTL. -/
  | attestItem (m : Master) (v : Word)
  /-- ATT_CTL.INSTALL installs a vendor or owner certificate in PROVISION mode (R466). Operands: the word written to SEC.ATT_CTL. -/
  | certInstall (m : Master) (v : Word)
  /-- UPD.LOAD_CTL.GO takes a chunk of an update image (R481). Operands: the word written to UPD.LOAD_CTL. -/
  | imageChunk (m : Master) (v : Word)
  /-- The final chunk starts the image checks, storing a verified image (R479). Operands: the word written to UPD.LOAD_CTL, with LAST. -/
  | imageVerify (m : Master) (v : Word)
  /-- IMG_CMD DELETE removes a store entry (R480). Operands: the word written to UPD.IMG_CMD. -/
  | imageDelete (m : Master) (v : Word)
  /-- IMG_CMD FORWARD sends a stored image down the chain (R483). Operands: the word written to UPD.IMG_CMD. -/
  | imageForward (m : Master) (v : Word)
  /-- IMG_CMD NODE_PUSH starts sending a node image to listed nodes (R484). Operands: the word written to UPD.IMG_CMD. -/
  | nodePush (m : Master) (v : Word)
  /-- An UPDATE CHUNK message delivers image bytes from the chain (R483). Operands: IMGID, the image offset and the image bytes. -/
  | updateChunk (img ofs : Word) (bytes : List Byte)
  /-- An UPDATE STORED message reports a unit's check result (R483). Operands: the unit that reports, IMGID and the result of R479. -/
  | updateStored (unit : BitVec 6) (img : Word) (res : BitVec 4)
  /-- An UPDATE APPLY from address 0 acts as a local bundle apply (R483). Operands: the IMGIDs of the bundle. -/
  | updateApply (imgs : List Word)
  /-- An UPDATE STATUS message reports a unit's update state to the HEAD (R483). Operands: the unit that reports, none for the pair's partner, and its UPD.STAT. -/
  | updateStatus (unit : Option (BitVec 6)) (stat : Word)
  /-- No STORED within FWD_TO; the sender resends the whole image (R483). Operands: FWD_TO has passed. -/
  | imageResend
  /-- A node's IMG_STAT item reports progress and the next block is sent (R485). Operands: the node's entry and the content of its IMG_STAT item. -/
  | imgStat (nbr : BitVec 16) (img next : Word) (st : Byte)
  /-- An image block is unanswered after NODE_TO and is sent again or the node dropped (R485). Operands: the node whose block is unanswered. -/
  | nodeBlockTimeout (nbr : BitVec 16)
  /-- A keyed UPD.APPLY starts a bundle after checks and order selection (R486). Operands: the word written to UPD.APPLY. -/
  | bundleApply (m : Master) (v : Word)
  /-- The target slot is built and verified, marked NEXT and APPLIED journaled (R489). Operands: whether the slot reads back as it was built. -/
  | partBuilt (readbackOk : Bool)
  /-- When the reset window opens, the unit resets with cause SWF (R490). Operands: the reset window opens. -/
  | updateReset
  /-- A part in trial runs SETTLE without failure and TRIAL_PASS is journaled (R491). Operands: SETTLE has run. -/
  | trialPass
  /-- A trial part fails or misses TRIAL_TO, starting a fall-back (R491). Operands: the trial has failed, or TRIAL_TO has passed. -/
  | trialFail
  /-- A switched part is reverted at the next reset window (R492). Operands: the reset window opens. -/
  | fallbackStep
  /-- A keyed CONFIRM.GO makes trial slots active and raises SVN fuses (R494). Operands: the word written to UPD.CONFIRM. -/
  | updateConfirm (m : Master) (v : Word)
  /-- A keyed CONFIRM.REJECT starts a fall-back (R492). Operands: the word written to UPD.CONFIRM. -/
  | updateReject (m : Master) (v : Word)
  /-- CONFIRM_TO expires in AWAIT_CONFIRM and a fall-back starts (R492). Operands: CONFIRM_TO has passed. -/
  | confirmTimeout
  /-- The main supplies rise and BOOT begins with cause POR (R562). Operands: whether VBAK was held, the straps sampled, the calendar time E in ns since VAULT entry, and the NAND that BOOT finds. -/
  | powerOn (vbakHeld : Bool) (straps : BitVec 2) (pair : BitVec 2) (elapsed : Nat) (nand : NandFit)
  /-- VBAK rises without the main supply and the unit enters VAULT (R501). Operands: VBAK rises while the main supply is absent. -/
  | vbakRise
  /-- VBAK is lost in VAULT without the main supply and the unit goes OFF (R501). Operands: VBAK is lost. -/
  | vbakLost
  /-- PF_N falls: c_pf is captured, Quench starts and the unit enters HOLDUP (R510). Operands: PF_N falls at the present raw count. -/
  | powerFail
  /-- PF_N high for PF_RESTORE after Quench ends; domains power up and the mode resumes (R512). Operands: how long the HOLDUP lasted, in ms. -/
  | holdupReturn (ms : BitVec 16)
  /-- The supply collapses in HOLDUP and the unit enters VAULT or OFF (R512). Operands: how long the HOLDUP lasted, in ms, and how many records of the journal tail stand in flush pages without a gap. -/
  | supplyCollapse (ms : BitVec 16) (kept : Nat)
  /-- MAINS_OK falls; the edge is captured and MAINS_LOST set (R501). Operands: MAINS_OK falls at the present raw count. -/
  | mainsOkFall
  /-- MAINS_OK low for OUT_DELAY enters OUTAGE, stopping unkept ports (R508). Operands: MAINS_OK has been low for OUT_DELAY. -/
  | outageEnter
  /-- MAINS_OK rises and MAINS_BACK is set (R501). Operands: MAINS_OK rises. -/
  | mainsOkRise
  /-- MAINS_OK high for MAINS_DEB leaves OUTAGE and powers domains up (R508). Operands: MAINS_OK has been high for MAINS_DEB. -/
  | outageExit
  /-- A keyed MODE.REQ asks for a mode change, checked and applied (R502). Operands: the word written to MODE.REQ. -/
  | modeRequest (m : Master) (v : Word)
  /-- RESET_N low for at least 1 µs starts a PIN reset (R515). Operands: how long RESET_N was low, in ns. -/
  | resetPin (ns : Nat)
  /-- A keyed RST.SWF.GO starts a full reset of cause SWF (R515). Operands: the word written to RST.SWF. -/
  | softwareReset (m : Master) (v : Word)
  /-- Writing the kick value to RST.WDT_KICK restarts the watchdog period (R516). Operands: the word written to RST.WDT_KICK. -/
  | wdtKick (m : Master) (v : Word)
  /-- At half the watchdog period WDT_WARN and HOST_DOWN are set (R516). Operands: half the watchdog period has passed. -/
  | wdtWarn
  /-- The watchdog period expires and the unit resets with cause WDT (R516). Operands: the watchdog period has passed. -/
  | watchdogExpire
  /-- The reset pre-flush completes or PRE_FLUSH expires and DRAM enters self-refresh (R515). Operands: whether any data stayed unprogrammed. -/
  | preFlushEnd (kept : Bool)
  /-- A domain reset closes bridges, holds reset and reloads fields (R517). Operands: the domain of a request made before. -/
  | domainReset (d : Fin 12)
  /-- A domain finishes power-up or restart and sets STATUS.READY (R504). Operands: the domain that finishes. -/
  | domainReady (d : Fin 12)
  /-- A domain without power-good at 1 ms is switched off and DOM_FAULT set (R504). Operands: the domain without power-good. -/
  | domainFault (d : Fin 12)
  /-- The steward grants a waiting domain its power credit (R505). Operands: the domain whose credit now fits. -/
  | domainCreditGrant (d : Fin 12)
  /-- BOOT ends and the unit enters its target mode (R518). Operands: the duration of BOOT, and whether the regions of R521 fit the fitted DRAM. -/
  | bootEnd (ms : BitVec 16) (trainedMib : Nat)
  /-- Each PERIOD a self-test slice starts on the next unit, or is skipped or postponed (R528). -/
  | pstSlice
  /-- A slice ends PASS, FAIL or ABORTED and the unit returns to service or is kept out (R530). Operands: the verdict of the test, the step that failed, and of a bank its failing cells. -/
  | pstSliceEnd (ok : Bool) (code : Byte) (bad : List (BitVec 16))
  /-- A unit not isolated within ISO_WAIT or DRAIN_TO is skipped (R529). -/
  | pstIsolationTimeout
  /-- PST.UNIT_CMD.RETEST schedules the unit for the next period (R531). Operands: a write of PST.UNIT_CMD. -/
  | pstRetest (m : Master) (v : Word)
  /-- PST.FULL_CTL.GO in SERVICE tests every powered unit back to back (R533). Operands: a write of PST.FULL_CTL. -/
  | pstFullRun (m : Master) (v : Word)
  /-- Once per powered second Tj is sampled and its band weight added to CONSUMED (R536). Operands: the junction temperature in °C, signed. -/
  | tjSample (tj : Byte)
  /-- Ledger time advances by one second whenever AON has power (R534). -/
  | ledgerSecond
  /-- Every 3,600 s of ledger time Patina journals its words and recomputes REM_D (R538). -/
  | ledgerCheckpoint
  /-- A keyed SUCC_CTL.EXPORT in SERVICE stops work, seals and writes the succession bundle (R540). Operands: the word written to LDG.SUCC_CTL. -/
  | succExport (m : Master) (v : Word)
  /-- SUCC_CTL.GO takes a chunk of an imported bundle (R542). Operands: the word written to LDG.SUCC_CTL. -/
  | succChunk (m : Master) (v : Word)
  /-- SUCC_CTL.LAST checks the bundle and applies its sections (R542). Operands: the word written to LDG.SUCC_CTL. -/
  | succImport (m : Master) (v : Word)
  /-- DSP.UPD.GO checks the staging CRC and starts a panel update (R552). Operands: the word written to DSP.UPD. -/
  | displayUpdate (m : Master) (v : Word)
  /-- DSP.UPD.CLEAR schedules a full clear before the next update (R556). Operands: the word written to DSP.UPD. -/
  | displayClear (m : Master) (v : Word)
  /-- An e-paper waveform frame ends; after the last, the image is committed (R549). Operands: a frame of the e-paper drive ends. -/
  | epdFrame
  /-- An LCD frame ends and polarity reverses (R548). Operands: a frame of the LCD ends. -/
  | lcdFrame
  /-- Once per second both frame-memory copies are checked and repaired (R552). Operands: the bits of the two frame-memory copies that have upset since the last check. -/
  | frameCrcCheck (flip0 flip1 : Nat)
  /-- A rail-enable delay ends and the next panel rail rises or falls (R546). Operands: the delay of the rail sequence ends. -/
  | panelRailStep
  /-- The EPD discharge of DISCH_MS ends and the rails drop (R553). Operands: DISCH_MS has passed. -/
  | dischargeEnd
  /-- TEMP_HOST not written for 600 s; Bezel switches source and sets STALE (R550). Operands: TEMP_HOST has not been written for 600 s. -/
  | tempStale
  /-- A debounced button press sets BTN or shows the legal page (R555). Operands: how long the button was pressed, in ms. -/
  | buttonPress (ms : Nat)
  /-- After LEGAL_S the legal page moves to its next view or back to the host image (R555). Operands: LEGAL_S has passed. -/
  | legalViewNext
  /-- A main-host register read returns the word, records DOM_OFF in CHIP.ACC_ERR for a page whose domain is off, and clears RC fields such as CRU.FREE_MIN, PLN.DFREE_MIN and ARB.TX_PEAK (R42). Operands: a read of one word. -/
  | registerRead (m : Master) (addr : BitVec 24)
  /-- The mirror link trains to UP, grants its initial credits and moves the standby's SYNC to INCREMENTAL or FULL_COPY (R424). Operands: whether the active unit still holds every record above this unit's APPLIED, and the fork point of a TAKEOVER entry of the partner that this unit has not applied. -/
  | mirLinkUp (held : Bool) (fork : Option (BitVec 64))
  /-- An Ethernet port's link comes up, setting ETH.p.STAT.LINK and the LINK_UP interrupt bit (R417). Operands: the port and its speed code. -/
  | ethLinkUp (p : Fin 2) (speed : BitVec 2)
  /-- An Ethernet port's link goes down, clearing ETH.p.STAT.LINK and setting the LINK_DOWN interrupt bit (R417). Operands: the port. -/
  | ethLinkDown (p : Fin 2)
  /-- The quanta of a received PAUSE or PFC frame run out and the halted port or class transmits again (R413). Operands: the port and the traffic class, 8 for the whole port. -/
  | ethPauseExpire (p : Fin 2) (c : Fin 9)
  /-- The measured reference-clock error crosses REF_TOL, changing CLK.REF.OK and setting REF_FAULT (R525). Operands: the measured error in 0.1 ppm, signed. -/
  | refFault (err : BitVec 16)
  /-- An island PLL loses lock, clearing its bit in CLK.LOCK and setting LOCK_LOST (R525). Operands: the island whose PLL loses lock. -/
  | lockLost (island : Fin 14)
  deriving DecidableEq, Repr

end Sys2Proof
end

