-- ==== Sys2Proof/Machine/State.lean ====
section
/-!
DEFINITION. The state of the block: the register fields in one sparse store, and beside them everything the spec gives the machine that is no register field.
-/
namespace Sys2Proof.Machine

/-- The reasons a step can stop with a fault. No command of the block stops with one: the type has a constructor so that it can be named.
`unreachable` is raised by nothing; it is safe, since a stop proves nothing false. -/
inductive Fault where
  | unreachable
  deriving DecidableEq, Repr

/-- The reasons a command can be refused.
`notModelled` is raised by the dispatch for a command without a meaning; it is safe, since the machine stops there. -/
inductive Refusal where
  | notModelled (mnemonic : String)
  deriving DecidableEq, Repr

/-- The pins and supplies the unit senses, and the NAND the board fits (R1, R375, R418, R501, R574). DESIGN CHOICE, unsafe: log entry 2. DESIGN CHOICE, safe: log entry 128. -/
structure Pins where
  roleSel : BitVec 2 := 0
  pairSel : BitVec 2 := 0
  mainGood : Bool := true
  vbak : Bool := true
  pfN : Bool := true
  mainsOk : Bool := true
  gpio : BitVec 16 := 0
  holdV : Bool := true
  nand : NandFit := {}
  deriving DecidableEq, Repr

/-- The masters that regions of DRAM are opened to (R521). -/
inductive MemMaster where
  | gate | ingot | journal | mirror | tariff | legal | touchstone | task | hallmark | sha | app
  deriving DecidableEq, Repr

/-- A region of DRAM (R521): its first address, its size in bytes, and the masters it is opened to. -/
structure Region where
  base : Nat
  size : Nat
  opened : List MemMaster
  deriving DecidableEq, Repr

/-- A mode change under way (R502, R504): the mode it ends in and the domains still to power up, in order. -/
structure ModeChange where
  target : Nat
  todo : List Nat
  deriving DecidableEq, Repr

/-- The power and mode machinery beside its registers (R500 to R513): the mode change under way; the domain that ramps; the mode a HOLDUP left and whether it came from a request for VAULT; whether the VAULT was entered by such a request with the main supply present; whether Quench runs; whether a domain failed in BOOT; whether field ports and chain links are idle, and the mirror link with them (R503); the raw count of the last fall or rise of MAINS_OK; the role mode an OUTAGE left; whether the APP cluster is main host, and whether BOOT has ended without the choice of R63 being made. -/
structure Pwr where
  change : Option ModeChange := none
  ramping : Option Nat := none
  modeLeft : Nat := 4
  vaultReq : Bool := false
  vaultByReq : Bool := false
  quench : Bool := false
  domFailed : Bool := false
  portsOff : Bool := false
  mirOff : Bool := false
  mainsEdge : Nat := 0
  outLeft : Nat := 4
  appHost : Bool := false
  hostPend : Bool := false
  deriving DecidableEq, Repr

/-- The reset machinery beside its registers (R514 to R518): the full reset that waits for its pre-flush or for Bezel, and one that waits for Quench (R510), each as its cause and source; whether the pre-flush has ended; the domain resets asked for and the domains in reset, each with its requester (R49: 0 host, 1 SMP, 2 the device); the counts by domain; whether the watchdog runs, and the raw count at which its period began (R516); whether a DRAM remainder was kept; whether the full reset under way stands for a reset of MEM (R517, R520); and the raw counts of the DOM resets of PKT and TSK that R434 counts. -/
structure Rst where
  seq : Option (Nat × Nat) := none
  waiting : Option (Nat × Nat) := none
  flushDone : Bool := false
  asked : List (Nat × Nat) := []
  inReset : List (Nat × Nat) := []
  domCnt : SMap Nat := []
  wdtRun : Bool := false
  wdtAt : Nat := 0
  memLost : Bool := false
  kept : Bool := false
  domAt : List Nat := []
  deriving DecidableEq, Repr

/-- The fuses (R8, R445): the grade, the serial number, the life-cycle state, the device secret (empty while it is not programmed), whether it is blocked, and the security version word. -/
structure Fuses where
  grade : Nat := 0
  serial : Nat := 0
  lc : Nat := 0
  ds : List Byte := []
  blocked : Bool := false
  svnMin : Nat := 0
  deriving DecidableEq, Repr

/-- One journal record (R380): its ledger sequence, kind, LOCAL flag and body; and whether it is this unit's own, or a LOCAL record of the partner that is recorded without being applied (R381). -/
structure JRec where
  seq : Nat
  kind : Nat
  isLocal : Bool
  body : List Byte
  own : Bool := true
  deriving DecidableEq, Repr

/-- Interrupt delivery: the vectors' conditions and the MSI-X pending bits (R61, R62), and whether SMP_ALERT_N is driven low (R71). -/
structure Irq where
  cond : BitVec 64 := 0
  pba : BitVec 64 := 0
  alertN : Bool := false
  deriving DecidableEq, Repr

/-- What the two masters' reads have left: their shadows (R43, R87, R210) and the words last read. -/
structure Bus where
  shadow : SMap Word := []
  rdata : List Word := []
  deriving DecidableEq, Repr

/-- A persisted key slot in the configuration image (R458): its type, attributes and origin, and its key wrapped under slot 4. -/
structure KeyBlob where
  typ : Nat
  attr : Nat
  origin : Nat
  wrapped : List Byte
  deriving DecidableEq, Repr

/-- One slot of the configuration store (R52). -/
structure CfgSlot where
  gen : Nat
  fmt : Nat
  role : Nat
  image : SMap Nat
  keys : SMap KeyBlob := []
  good : Bool
  deriving DecidableEq, Repr

/-- The configuration store: the image in force with its keys and the role it names, the two slots, the commit in progress (R52, R53), and the format reserve (R493). -/
structure Cfg where
  cur : SMap Nat := []
  curKeys : SMap KeyBlob := []
  curRole : Nat := 0
  slot0 : Option CfgSlot := none
  slot1 : Option CfgSlot := none
  job : Option CfgSlot := none
  interrupted : Bool := false
  reserve : Option CfgSlot := none
  deriving DecidableEq, Repr

/-- The functions an override shares with the main host (R76). -/
inductive OvrFn where
  | mode | reset | claim
  deriving DecidableEq, Repr

/-- The override in progress, with the domain a domain reset names; the mode override and the full reset that wait to start (R75, R76). -/
structure Ovr where
  running : Option OvrFn := none
  dom : Option Nat := none
  waitMode : Option Nat := none
  waitReset : Bool := false
  deriving DecidableEq, Repr

/-- One epoch of disciplined time (R82, R84). -/
structure Epoch where
  num : Nat
  anchor : Nat
  offset : Nat
  rate : Nat
  qual : BitVec 8
  deriving DecidableEq, Repr

/-- Compare unit state beside its registers (R98, R99, R101): the next target, the staged low words, the end of the re-lived span, the count at which the unit was armed, and the target whose converter start has been sent. -/
structure CmpUnit where
  next : Nat := 0
  stgTgt : Nat := 0
  stgPer : Nat := 0
  repeatEnd : Nat := 0
  armedAt : Nat := 0
  sentFor : Option Nat := none
  deriving DecidableEq, Repr

/-- The timebase (R78 to R101). `epochs` lists the held epochs, newest first; `cal` is the calendar in units of 1/32,768 s and `calFrac` its fraction in units of 1/(250,000,000 × 2²⁴) of one (R96); `vault` the time in VAULT so far, in ns. -/
structure Tim where
  raw : Nat := 0
  epochs : List Epoch := [⟨0, 0, 0, 0x40000000000, 0⟩]
  stgOffset : Nat := 0
  stgRate : Nat := 0
  stgStep : Nat := 0
  stgConv : Nat := 0
  lastCommit : Option Nat := none
  cal : Nat := 0
  calFrac : Nat := 0
  held : Nat := 0
  vault : Nat := 0
  cmp : SMap CmpUnit := []
  ppsHigh : Bool := false
  deriving DecidableEq, Repr

/-- A transmission on a port's sample link (R115, R121): its credit tag, first slot, length and attenuation, whether it acknowledges, whether TX_ON has gone, the credit it holds from the budget and from the reserve, in mW, and whether it was lost with its link or domain (R124). -/
structure Burst where
  tag : Nat
  first : Nat
  len : Nat
  att : Nat
  isAck : Bool
  sent : Bool
  fromTx : Nat
  fromRsv : Nat
  lost : Bool := false
  deriving DecidableEq, Repr

/-- A burst request that waits for its power credit (R121, R506), in arrival order. -/
structure CreditReq where
  port : Nat
  draw : Nat
  len : Nat
  att : Nat
  /-- The burst goes out at once on the grant; else it waits for its slot. -/
  atOnce : Bool
  starved : Bool
  deriving DecidableEq, Repr

/-- A decoded NPL header (R144). -/
structure NplHdr where
  ft : Nat
  mode : Nat
  tmi : Nat
  nsym : Nat
  prio : Nat
  ph : Nat
  ar : Bool
  info : Nat
  deriving DecidableEq, Repr

/-- A frame that a power-line port sends (R141, R145, R148 to R154): its TYPE, payload and the further fragments of the packet, the packet's first cell and the entry it goes to, destination and next hop (0xFFFF broadcast) with the hops remaining, priority and AR; once it is built its bytes with FCS and its mode, and where it stands. -/
structure NplTx where
  typ : Nat := 0
  payload : List Byte := []
  rest : List (List Byte) := []
  cell : Option Nat := none
  nbr : Option Nat := none
  dst : Nat := 0xFFFF
  next : Nat := 0xFFFF
  hops : Nat := 0
  prio : Nat := 2
  ar : Bool := false
  bytes : List Byte := []
  mode : Nat := 0
  retries : Nat := 0
  defers : Nat := 0
  slot : Option Nat := none
  waitAck : Bool := false
  deriving DecidableEq, Repr

/-- What a sender keeps toward one neighbour (R143, R153, R154): the mode in use, the receiver's ceiling, the run of first-attempt successes and the newest tone map received. -/
structure LinkMode where
  mode : Nat
  ceiling : Nat
  run : Nat := 0
  mapIdx : Nat := 0
  map : List Nat := []
  deriving DecidableEq, Repr

/-- A route cache entry (R160). -/
structure Route where
  next : Nat
  cost : Nat
  hops : Nat
  tag : Nat
  valid : Bool
  stamp : Nat
  deriving DecidableEq, Repr

/-- A received frame, as a port hands it to the Crucible: its payload, capture stamp and quality, flags, and what the port reads from its header (transmitter's short address, link sequence number, SEC and AR). -/
structure RxFrame where
  payload : List Byte
  stamp : Nat
  qual : Nat
  blanked : Bool
  held : Bool
  short : Nat
  seq : Nat
  sec : Bool
  ar : Bool
  deriving DecidableEq, Repr

/-- A SUN connection (R182, R185): the member's address, its anchor and exponent, the raw count of the last valid frame, and the first slot that may be its event. -/
structure Conn where
  addr : Nat
  anchor : Nat
  e : Nat
  lastRx : Nat
  start : Nat := 0
  deriving DecidableEq, Repr

/-- One burst's air time (R174): channel, raw count of its start, and µs. -/
structure AirUse where
  ch : Nat
  at_ : Nat
  us : Nat
  deriving DecidableEq, Repr

/-- The frame a SUN port is sending (R178, R184): the frame with its FCS, the packet's first cell, the destination, the sequence number, and where it stands. `wait` counts events still to let pass after a BUSY. -/
structure SunTx where
  bytes : List Byte
  cell : Nat
  dst : Nat
  seq : Nat
  prio : Nat
  ar : Bool
  retries : Nat := 0
  wait : Nat := 0
  waitAck : Bool := false
  deriving DecidableEq, Repr

/-- What a SUN port sends in a slot (R178, R180, R182 to R184, R186, R188). -/
inductive SunKind where
  | beacon | anchor | data | connectReq | connectRsp | ack | busy
  deriving DecidableEq, Repr

/-- The limits of a regulatory profile (R173): longest burst in µs, dwell in µs, dwell window in s, duty in per mille, fewest channels, shortest listen in µs, in-event exemption. -/
structure SunLimits where
  burst : Nat := 0
  dwell : Nat := 0
  window : Nat := 0
  duty : Nat := 0
  minCh : Nat := 0
  lbt : Nat := 0
  exempt : Bool := false
  deriving DecidableEq, Repr

/-- A frame that waits in the present slot (R178, R179, R183): what it is, its bytes, its channel, the backoff exponent and the busy listens so far; the raw counts between which it may start; whether it has found the channel idle and waits for its credit alone; and, for an answer, the station it goes to and whether that one's frame carried MD. -/
structure SunLbt where
  kind : SunKind
  bytes : List Byte
  ch : Nat
  be : Nat
  cca : Nat := 0
  from_ : Nat
  till : Nat
  clear : Bool := false
  peer : Nat := 0
  md : Bool := false
  deriving DecidableEq, Repr

/-- A channel map change that waits for its instant (R177): the map, its version and the beacon slots left. -/
structure MapChange where
  map : List Nat
  ver : Nat
  left : Nat
  deriving DecidableEq, Repr

/-- The radio MAC of a port (R172 to R188). The parameters that take effect at the rise of EN are latched here: PHY, profile and the CUSTOM plan (first channel, spacing, channels) and limits, and the grid's. `tuned` is the slot that a TUNE has named. -/
structure Sun where
  profile : Nat := 0
  phy : Nat := 1
  mcs : Nat := 2
  fec : Bool := false
  preamble : Nat := 8
  custom : Nat × Nat × Nat := (0, 0, 1)
  limits : SunLimits := {}
  tuned : Option Nat := none
  es : Nat := 20000
  ciExp : Nat := 11
  hop : Nat := 23
  seed : Nat := 0
  nb : Nat := 2
  bcnCh : Nat := 0x03020100
  netId : Nat := 0xFFFF
  member : Bool := false
  pend : Option MapChange := none
  autoAt : Nat := 0
  conns : SMap Conn := []
  air : List AirUse := []
  ccaUse : SMap (Nat × Nat) := []
  tx : Option SunTx := none
  lbt : Option SunLbt := none
  net : Nat := 0xFFFF
  busySent : Bool := false
  dwellCh : Nat := 0
  sharedLeft : Nat := 0
  noReqUntil : Nat := 0
  evt : Bool := false
  deriving DecidableEq, Repr

/-- A field port beside its registers (R103 to R125, R147 to R166). Latched at the rise of EN: personality, band and coupling mode.
Sample link: the runs of good and discarded slots, INFO, the present transmit slot with the raw count at which it began, the messages that wait for a slot, the slots still to send after an orderly stop, and of the last received slot its count and the samples fed to the modem (real and imaginary part); whether a slot of the present frame came with OVR. `rxEnd` is the stamp and the end of the newest frame received.
Power-line MAC: whether energy still follows a header that failed its HCS; the frame being sent, the port's own frames that wait, the frames held for a route, and whether a beacon is due.
Claim field of the AFE: ROUND and claim number last accepted, whether SRC has read 01 in this round, and the rounds without. -/
structure Port_ where
  pers : Nat := 0
  band : Nat := 0
  couple : Nat := 0
  good : Nat := 0
  bad : Nat := 0
  info : Option (BitVec 64) := none
  slot : Nat := 0
  slotRaw : Nat := 0
  msgs : List (Nat × Nat) := []
  ending : Option Nat := none
  rxSlot : Nat := 0
  ovrSeen : Bool := false
  samples : List (Int × Int) := []
  round : Nat := 0
  accepted : Nat := 0
  srcSeen : Bool := false
  srcMiss : Nat := 0
  srcLost : Bool := false
  tag : Nat := 0
  bursts : List Burst := []
  rxStamp : Option Nat := none
  rxEnd : Nat × Nat := (0, 0)
  hdr : Option NplHdr := none
  reservedTo : Nat := 0
  energy : Bool := false
  hcsBad : Bool := false
  tx : Option NplTx := none
  mac : List NplTx := []
  routeHeld : List NplTx := []
  beaconDue : Bool := false
  modes : SMap LinkMode := []
  maps : SMap (Nat × List Nat) := []
  mapNext : Nat := 0
  mapTo : SMap Nat := []
  routes : SMap Route := []
  held : List RxFrame := []
  bseq : Nat := 0
  blankAt : Nat := 0
  blankN : Nat := 0
  sun : Sun := {}
  deriving DecidableEq, Repr

/-- One entry of a zero-crossing ring (R129). -/
structure ZcEntry where
  count : Nat
  flags : Nat
  deriving DecidableEq, Repr

/-- A zero-crossing phase beside its registers (R127, R128). `period` is the mean period in units of 2⁻¹⁶ ns; `rebuild` lists the edges taken since LOST. -/
structure Zc where
  last : Nat := 0
  period : Nat := 0
  rebuild : List Nat := []
  ring : SMap ZcEntry := []
  deriving DecidableEq, Repr

/-- The states of a neighbour entry (R194). -/
inductive NbrState where
  | free | preset | joining | active | blocked
  deriving DecidableEq, Repr

/-- A neighbour entry (R192): its record, and beside it whether CREATE made it, the old generation's window of R201, whether the link and the downlink counter have reached GTE.SEQ_WARN, and whether the record has changed since its checkpoint. -/
structure Nbr where
  eui : Nat := 0
  st : NbrState := .free
  lkey : Bool := false
  ag0 : Bool := false
  ag1 : Bool := false
  aact : Nat := 0
  port : Nat := 0xFF
  short : Nat := 0xFFFF
  flow : Nat := 0
  ltop : Nat := 0
  lmap : Nat := 0
  atop : Nat := 0
  amap : Nat := 0
  gen : Nat := 0
  oldTop : Nat := 0
  oldMap : Nat := 0
  grace : Bool := false
  dnext : Nat := 0
  drsv : Nat := 0
  lastRx : Nat := 0
  dup : Nat := 0
  rpl : Nat := 0
  micf : Nat := 0
  appf : Nat := 0
  warned : Bool := false
  dnWarned : Bool := false
  created : Bool := false
  changed : Bool := false
  deriving DecidableEq, Repr

/-- The keys of an entry (R193): link, uplink and downlink of generation 0, uplink and downlink of generation 1. A key is held as its bytes; it is never readable. -/
structure NbrKeys where
  link : Option (List Byte) := none
  up0 : Option (List Byte) := none
  dn0 : Option (List Byte) := none
  up1 : Option (List Byte) := none
  dn1 : Option (List Byte) := none
  deriving DecidableEq, Repr

/-- A key installation in progress (R203): target entry, key kind, master and the key unwrapped; none where the integrity value failed. -/
structure Install where
  idx : Nat
  kind : Nat
  key : Option (List Byte)
  deriving DecidableEq, Repr

/-- Gate (R191 to R211). `saved` is each entry as the newest GATE record in released journal pages left it; `cache` the records held on chip, the most recently used first (R192). -/
structure Gate where
  nbr : SMap Nbr := []
  keys : SMap NbrKeys := []
  groupKeys : SMap (List Byte) := []
  inst : Option Install := none
  portSeq : SMap Nat := []
  portRsv : SMap Nat := []
  saved : SMap Nbr := []
  cache : List Nat := []
  deriving DecidableEq, Repr

/-- The states of a cell (R215). -/
inductive CellState where
  | free | writing | queued | held
  deriving DecidableEq, Repr

/-- A link entry (R215). `bad` marks an entry with an uncorrectable error (R226). -/
structure Link where
  st : CellState := .free
  host : Bool := false
  hctx : Nat := 0
  eop : Bool := false
  quar : Bool := false
  used : Nat := 0
  next : Nat := 0xFFFF
  bad : Bool := false
  deriving DecidableEq, Repr

/-- A write context (R217): its queue, class (5 internal), cells reserved and cells taken, in order. -/
structure WCtx where
  queue : Nat
  cls : Nat
  resv : Nat
  cells : List Nat
  deriving DecidableEq, Repr

/-- A queue (R222 to R226). -/
structure CQueue where
  head : Nat := 0xFFFF
  tail : Nat := 0xFFFF
  cells : Nat := 0
  pkts : Nat := 0
  qseq : Nat := 0
  xoff : Bool := false
  fault : Bool := false
  deriving DecidableEq, Repr

/-- The Crucible (R212 to R237). `pool` is its memory in the one canonical form: rising offsets, no entry equal to the 0 that an unlisted byte reads as.
`ue` lists the cells that have held an uncorrectable word, `reinit` those re-initialised after one (R231), `drain` the bank that drains, `isolated` the bank held for self-test, `bp` the class back-pressures in force. -/
structure Cru where
  pool : List Host.Cell := []
  links : SMap Link := []
  ctx : SMap WCtx := []
  waiting : List (Nat × Nat) := []
  queues : SMap CQueue := []
  rr : Nat := 0
  drain : Option Nat := none
  isolated : Option Nat := none
  bp : BitVec 5 := 0
  ue : List Nat := []
  reinit : List Nat := []
  deriving DecidableEq, Repr

/-- The states of a descriptor (R239). -/
inductive TaskState where
  | waiting | ready | running
  deriving DecidableEq, Repr

/-- The end of a task (R247, R248). -/
inductive TaskEnd where
  | ok | fail | poison | timeout
  deriving DecidableEq, Repr

/-- A profile record with all that its canonical record and its T4 journal record carry (R269, R324, R382). `item` is empty for a record that the device made; `frame` says that a frame carried it. -/
structure Rec where
  unit : Nat := 0
  node : Nat := 0
  chan : Nat := 0
  kind : Nat := 0
  len : Nat := 0
  istart : Nat := 0
  status : Nat := 0
  rules : Nat := 0
  mstat : Nat := 0
  rev : Nat := 0
  late : Bool := false
  span : Bool := false
  noacc : Bool := false
  annex : Bool := false
  maxpos : Nat := 0
  value : Int := 0
  delta : Int := 0
  lseq : Nat := 0
  stamp : Nat := 0
  qual : Nat := 0
  time : Nat := 0
  eui : Nat := 0
  ic : Nat := 0
  item : List Byte := []
  gen : Nat := 0
  prot : Bool := false
  frame : Bool := false
  lidx : Nat := 0
  txNbr : Nat := 0xFFFFFF
  txSeq : Nat := 0
  startC : Nat := 0
  deriving DecidableEq, Repr

/-- A key slot (R452, R453, R461): its type (0 EMPTY, 1 AES128, 2 AES256, 3 HMAC384, 4 EC_PRIV, 5 EC_PUB), origin (0 DERIVED, 1 IMPORTED, 2 GENERATED), attribute word, generation, and the key as K ⊕ M beside its mask M. -/
structure KeySlot where
  typ : Nat := 0
  origin : Nat := 0
  attr : Nat := 0
  persist : Bool := false
  expired : Bool := false
  gen : Nat := 0
  sum : List Byte := []
  mask : List Byte := []
  deriving DecidableEq, Repr

/-- What Gate has of an entry when a T1 or T2 task is dispatched (R204, R210): the entry found, its record and keys, the port's group key, and whether the frame's originator is bound to another port. -/
structure GateSnap where
  idx : Option Nat := none
  nbr : Nbr := {}
  keys : NbrKeys := {}
  group : Option (List Byte) := none
  elsewhere : Bool := false
  deriving DecidableEq, Repr

/-- A task descriptor (R239), with its chain, its successors in order, the FAN descriptors that carry them, the executor that runs it, how often it timed out, the submission queue it came from with its SQHD, how it ended where its completion entry waits, the order number that tells the oldest ready task, its handler, the value it handles, the record a T5 to T7 task handles with the one it displaced, and what its executor took on at dispatch: Gate's view of the entry (R204, R210), or the contents of the key slot that a PK_OP names (R23). -/
structure Desc where
  st : TaskState
  prio : Nat
  kind : Nat
  atomic : Bool
  flow : Nat
  count : Nat
  cell : Nat
  stamp : Nat
  arg : Nat
  succ : List Nat
  fans : List Nat := []
  chain : Nat := 0
  exec : Nat := 0
  tries : Nat := 0
  host : Option (Nat × Nat) := none
  ended : Option (Nat × Nat) := none
  order : Nat := 0
  entry : Nat := 0
  vi : Nat := 0
  record : Option Rec := none
  disp : Option Rec := none
  gate : Option GateSnap := none
  slot : Option KeySlot := none
  deriving DecidableEq, Repr

/-- A boundary drain (R255): the firing count, the target, the fire count and the REPEAT flag. -/
structure BndDrain where
  c : Nat
  target : Nat
  fires : Nat
  rep : Bool
  deriving DecidableEq, Repr

/-- A BOUNDARY event (R255), with its priority. -/
structure BndEvent where
  c : Nat
  target : Nat
  fires : Nat
  rep : Bool
  late : Bool
  prio : Nat := 13
  deriving DecidableEq, Repr

/-- A reading item on its way (R260): its 16 bytes, and once Assay has judged it the record to file, the estimates that T4 files before it (slot, value and delta), and whether T4 has filed it. -/
structure ValItem where
  bytes : List Byte
  record : Option Rec := none
  est : List (Nat × Int × Int) := []
  filed : Bool := false
  deriving DecidableEq, Repr

/-- What a chain carries between its tasks: its port, the transmitting entry and link sequence number, the originator with its counter and generation, the reading items, the node time in hundredths of a second, the other items, the item task, T8, and the descriptors still reserved. -/
structure Chain where
  port : Nat := 0
  txNbr : Nat := 0xFFFFFF
  txSeq : Nat := 0
  node : Option Nat := none
  ic : Nat := 0
  gen : Nat := 0
  prot : Bool := false
  vals : List ValItem := []
  ntime : Option Nat := none
  others : List (Nat × List Byte) := []
  itemTask : Option Nat := none
  retire : Nat := 0
  resv : Nat := 0
  deriving DecidableEq, Repr

/-- Planish (R239 to R258). `descs` lists the descriptors in use, `spill` the internal creations that wait for one, `flowWait` the queues whose pop waits for a flow cache entry.
Completion queue k: `cqTail` entries written, `cqHead` entries the host has read, `cqHeld` ended tasks whose entry waits. -/
structure Pln where
  descs : SMap Desc := []
  chains : SMap Chain := []
  nextChain : Nat := 0
  order : Nat := 0
  dispatches : SMap Nat := []
  rrQueue : Nat := 0
  drains : List BndDrain := []
  lastDrain : Nat := 0
  spill : List Desc := []
  flowWait : List Nat := []
  flowFull : Bool := false
  cqTail : SMap Nat := []
  cqHead : SMap Nat := []
  cqHeld : SMap (List Nat) := []
  obsMax : SMap Nat := []
  obsAvg : SMap Nat := []
  deriving DecidableEq, Repr

/-- The state of a channel beside its configuration (R261, R268): LVAL with its slot and whether it came from a VALID reading, LSLOT, MONO_RUN, the LEN code that acts for slots before the grid minute `lenFrom`, and the drain target to close from after an OUTAGE. -/
structure ChanSt where
  lval : Int := 0
  lvSlot : Option Nat := none
  lvalid : Bool := false
  lslot : Option Nat := none
  monoRun : Nat := 0
  oldLen : Nat := 3
  lenFrom : Nat := 0
  heldFrom : Option Nat := none
  deriving DecidableEq, Repr

/-- An open filing interval (R267, R279): the grid minute of its nominal start, its raw start, its length in minutes, and the STATUS bits it has taken. -/
structure Filing where
  istart : Nat
  startC : Nat
  len : Nat
  status : Nat
  deriving DecidableEq, Repr

/-- A live set-back span (R283): the raw count of the commit, T_new and T_old, and the ledger sequence of the TIME_CHG record. -/
structure SetBack where
  cw : Nat
  from_ : Nat
  to_ : Nat
  seq : Nat
  deriving DecidableEq, Repr

/-- A read of PRF in progress (R289): the record's channel key, slot and ANNEX. -/
structure PrfRead where
  key : Nat
  slot : Nat
  annex : Nat
  deriving DecidableEq, Repr

/-- The FALLBACK figures of a channel's day (R288): how many slots hold records, the sum, the largest quantity with its slot, the OR of the status words, and whether all are VALID. -/
structure FbFig where
  n : Nat := 0
  sum : Int := 0
  top : Option (Int × Nat) := none
  flags : Nat := 0
  allValid : Bool := true
  deriving DecidableEq, Repr

/-- The profiles (R261 to R289). `recs` lists the records of each slot in ledger order; `outages`, `skips` and `setBacks` are spans of disciplined time in ns; `lastTarget` the grid minute of the last drain acted on; `dirty` the segments held back in OUTAGE and `writes` the segment writes that Ingot has been asked for, oldest first, both with the ledger sequence of the first record not yet programmed (R281, R386); `progSeq` the sequence up to which records were settled when FALLBACK began or its last SUMMARY was filed;
`notKept` the FALLBACK spans in grid minutes, the last one open while FALLBACK lasts; `base` the channel state that a succession brought, `figs` and `figDay` its FALLBACK figures and their day. -/
structure Prf where
  chans : SMap ChanSt := []
  recs : SMap (List Rec) := []
  sums : List Rec := []
  filings : List Filing := []
  oldFile : Nat := 3
  fileFrom : Nat := 0
  spans : List SetBack := []
  outages : List (Nat × Nat) := []
  skips : List (Nat × Nat) := []
  setBacks : List (Nat × Nat) := []
  lastTarget : Nat := 0
  cutAt : Option Nat := none
  outExit : Nat := 0
  dirty : List (Nat × Nat) := []
  writes : List (Nat × Nat) := []
  progSeq : Nat := 0
  notKept : List (Nat × Option Nat) := []
  fbDay : Nat := 0
  read : Option PrfRead := none
  base : SMap ChanSt := []
  figs : SMap FbFig := []
  figDay : Nat := 0
  deriving DecidableEq, Repr

/-- A tariff set (R296, R298): its generation, the grid minute from which it governs, and its image. -/
structure TarSet where
  gen : Nat
  actMin : Nat
  image : List Byte
  deriving DecidableEq, Repr

/-- An account (R300 to R306). `regs` lists the registers that are not 0, by register kind times 17 plus rate; `dem` the demand maxima, by direction times 17 plus rate, each with the grid minute of its window end, in descending order. -/
structure Acct where
  table : Nat := 0
  net : Bool := false
  active : Bool := false
  regs : SMap Int := []
  dem : SMap (List (Int × Nat)) := []
  deriving DecidableEq, Repr

/-- A binding (R300, R303): the account, the direction, and the ledger sequence of the last record it accrued. -/
structure Binding where
  acct : Nat
  dir : Nat
  last : Nat := 0
  deriving DecidableEq, Repr

/-- A stored period (R308): its number after the close, its end, the time of the close, its late accruals, and the accounts' register blocks copied so far. -/
structure Period where
  vz : Nat
  e : Nat
  closed : Nat
  late : Nat
  accts : SMap Acct
  deriving DecidableEq, Repr

/-- A register checkpoint (R295): the ledger sequence it covers, and the accounts, last records of the bindings, stored periods, period start, untouched accounts, period counter, late accruals and evaluated windows at that moment. -/
structure TarCkpt where
  seq : Nat := 0
  accts : SMap Acct := []
  lasts : SMap Nat := []
  hist : List Period := []
  start : Nat := 0
  untouched : List Nat := []
  vz : Nat := 0
  late : Nat := 0
  demDone : SMap Nat := []
  deriving DecidableEq, Repr

/-- The tariff engine (R292 to R310). `sets` is the active set and those most recently active before it; `untouched` the accounts the sweep has not copied; `due` period ends asked for by ACTION CLOSE; `lateNow` the late accruals of the open period; `demDone` the end of the last evaluated demand window of each account. -/
structure Tar where
  sets : List TarSet := []
  passive : Option TarSet := none
  armed : Option TarSet := none
  accts : SMap Acct := []
  binds : SMap Binding := []
  hist : List Period := []
  start : Nat := 0
  due : Option Nat := none
  untouched : List Nat := []
  lateNow : Nat := 0
  ckpt : TarCkpt := {}
  demDone : SMap Nat := []
  deriving DecidableEq, Repr

/-- A legal request in progress (R315): its master, operation, OBIS code (six bytes as a number), account word, unit, attribute, cell and argument. -/
structure ObjReq where
  op : Nat
  obis : Nat
  acct : Nat
  unit : Nat
  attr : Nat
  cell : Nat
  arg : Nat
  deriving DecidableEq, Repr

/-- A slot of the legal partition (R293). -/
structure LegalSlot where
  gen : Nat
  image : SMap Nat
  good : Bool
  fmt : Nat := 0
  deriving DecidableEq, Repr

/-- The LEGAL core beside its registers (R293 to R319): the event ring, newest first; the events since the last ACK; per master the second, count and first address of refused writes; the raw counts of lockstep mismatches; the legal partition's slots; the check value of this and of the previous BOOT; the challenges issued to the two masters; and whether a LOCKSTEP event is to be written after the restart; and the format reserve of the legal partition (R493). -/
structure Lgl where
  events : List (List Byte) := []
  sinceAck : Nat := 0
  deny : SMap (Nat × Nat × Nat) := []
  lockstep : List Nat := []
  slot0 : Option LegalSlot := none
  slot1 : Option LegalSlot := none
  image : SMap Nat := []
  check : List Byte := []
  checkPrev : List Byte := []
  chal : SMap Nat := []
  lockPend : Bool := false
  reserve : Option LegalSlot := none
  deriving DecidableEq, Repr

/-- What a close record gives a seal (R328, R330): STATUS, KIND, the raw count of the end, and whether another part follows. -/
structure TreeClose where
  cstatus : Nat
  ckind : Nat
  endC : Nat
  more : Bool
  deriving DecidableEq, Repr

/-- A tree of a filing interval, or of a part of one (R325 to R328): the leaf hashes by leaf index, and the header values fixed at its opening. `dropped` marks a leaf table that was given up, `rebuilt` one made again from the journal. -/
structure Tree where
  startC : Nat
  fstartC : Nat
  istart : Nat
  part : Nat
  flen : Nat
  qual : Nat
  tstart : Nat
  restart : Nat
  nleaf : Nat := 0
  first : Nat := 0
  last : Nat := 0
  lastAt : Nat := 0
  leaves : SMap (List Byte) := []
  close : Option TreeClose := none
  dropped : Bool := false
  rebuilt : Bool := false
  deriving DecidableEq, Repr

/-- A sealed tree (R330, R340): its seal, START_C and SEQ, its leaf hashes in order, the ledger sequence of its SEAL record, and whether it has been released. -/
structure Sealed where
  bytes : List Byte
  seq : Nat
  startC : Nat
  istart : Nat
  leaves : List (List Byte)
  jseq : Nat
  released : Bool
  deriving DecidableEq, Repr

/-- A unit seal at the HEAD (R337, R338): its unit, its bytes, whether it failed the checks, and whether its interval had its re-seal already. -/
structure UnitSeal where
  unit : Nat
  bytes : List Byte
  bad : Bool
  late : Bool := false
  deriving DecidableEq, Repr

/-- A re-seal with its leaves and their order (R338, R341): its bytes, the grid minute of its interval, and the 56-byte leaves. -/
structure ReSeal where
  bytes : List Byte
  istart : Nat
  leaves : List (List Byte)
  deriving DecidableEq, Repr

/-- A proof request in progress (R341): the record, EXT, and the unit and request number where another unit makes it. -/
structure ProofReq where
  key : Nat
  slot : Nat
  annex : Nat
  ext : Bool
  unit : Nat
  deriving DecidableEq, Repr

/-- Hallmark (R323 to R341). `trees` is the open and the waiting trees, oldest first; `unitSeals` the accepted unit seals that no re-seal holds yet; `unitKept` all accepted unit seals; `due` the HEAD's own seals without a re-seal. -/
structure Hlm where
  trees : List Tree := []
  sealed : List Sealed := []
  resealDigest : List Byte := []
  unitSeals : List UnitSeal := []
  unitKept : List (List Byte) := []
  due : List (List Byte) := []
  reseals : List ReSeal := []
  prq : Option ProofReq := none
  deriving DecidableEq, Repr

/-- A member as a group's configuration holds it (R349): its number, node, energy channel, voltage channel where it has one, configured phase and direction, and the phase its energy is added to (R365). -/
structure TchMbrCfg where
  idx : Nat
  node : Nat
  ch : Nat
  vch : Option Nat
  cph : Nat
  dir : Nat
  phase : Nat
  deriving DecidableEq, Repr

/-- A configuration of a balance group and the grid minute from which it acts (R350): the phases, LEN, reference node, its energy channels and, where present, its voltage channels, and the members. -/
structure TchVer where
  from_ : Nat
  en : Bool
  phases : Nat
  len : Nat
  ref : Nat
  refE : List Nat
  refV : Option (List Nat)
  members : List TchMbrCfg
  deriving DecidableEq, Repr

/-- The sums of one phase of an open group interval (R352). -/
structure TchSum where
  eref : Int := 0
  imp : Int := 0
  exp : Int := 0
  deriving DecidableEq, Repr

/-- An open group interval (R352): the sums of the three phases, and the current records that contributed, by channel selector. -/
structure TchOpen where
  l1 : TchSum := {}
  l2 : TchSum := {}
  l3 : TchSum := {}
  cur : SMap Rec := []
  deriving DecidableEq, Repr

/-- A run of fed closes (R360): their residual sum, the lowest COV, and the grid minutes of their intervals, the newest first. -/
structure TchRun where
  sum : Int := 0
  cov : Nat := 1000
  starts : List Nat := []
  deriving DecidableEq, Repr

/-- The sums of the least-squares fit (R358), with x1 = u/60 and x2 = w: the count, and the sums of uu, uw, ww, uy, wy and yy. -/
structure TchFit where
  n : Nat := 0
  uu : Nat := 0
  uw : Nat := 0
  ww : Nat := 0
  uy : Int := 0
  wy : Int := 0
  yy : Nat := 0
  deriving DecidableEq, Repr

/-- A group phase (R355 to R362): the detector state, the model source, A, B and σ in 1/256 units, the fit, the two sums in Q8.8 with their runs, and the figures of the last close. -/
structure TchDet where
  st : Nat := 0
  msrc : Nat := 0
  a : Nat := 0
  b : Nat := 0
  sigma : Nat := 256
  fit : TchFit := {}
  pos : Nat := 0
  neg : Nat := 0
  runP : TchRun := {}
  runN : TchRun := {}
  lastR : Int := 0
  lastStatus : Nat := 0
  lastCov : Nat := 0
  lastIstart : Nat := 0
  deriving DecidableEq, Repr

/-- The exponentially weighted sums of a pair (R366). -/
structure TchCorr where
  n : Nat := 0
  sx : Rat := 0
  sy : Rat := 0
  sxx : Rat := 0
  syy : Rat := 0
  sxy : Rat := 0
  deriving DecidableEq, Repr

/-- What Touchstone has learned of a member (R365 to R369): its accepted phases, newest first; the learned phase; the pairs, 0 to 2 with its own group and 3 to 6 with the neighbours; its updates; consecutive evaluations as MOVE and as WEAK_CORR; its classes by code; the count of closes with zero energy and voltage; whether it was moved in; and the figures of the last evaluation. -/
structure TchMbr where
  win : List Nat := []
  lph : Option Nat := none
  corr : SMap TchCorr := []
  upd : Nat := 0
  moveDays : Nat := 0
  weakDays : Nat := 0
  classes : Nat := 0
  zero : Nat := 0
  moved : Bool := false
  rOwn : Int := 0
  rBest : Int := 0
  bestGrp : Nat := 0xFFFF
  deriving DecidableEq, Repr

/-- A localisation that an alarm has started (R369): group, phase, ISTART and STATUS of the alarm close, the alarm's RATE, and the grid minutes of the run's closes. -/
structure TchAlarm where
  grp : Nat
  ph : Nat
  istart : Nat
  status : Nat
  rate : Int
  starts : List Nat
  deriving DecidableEq, Repr

/-- Touchstone (R347 to R372): the configurations of each group, newest first; the end of the last closed interval of each group; the open intervals by group and start; the group phases and what the newest close record holds of them; the members, and their last checkpoint; the moves not yet committed; the model words staged; localisations that wait; and the last day evaluated. -/
structure Tch where
  vers : SMap (List TchVer) := []
  closedTo : SMap Nat := []
  opens : SMap TchOpen := []
  dets : SMap TchDet := []
  saved : SMap TchDet := []
  mbrs : SMap TchMbr := []
  ckpt : SMap TchMbr := []
  moves : List (Nat × Nat) := []
  stgA : Option Nat := none
  stgB : Option Nat := none
  stgS : Option Nat := none
  alarms : List TchAlarm := []
  dayDone : Nat := 0
  deriving DecidableEq, Repr


/-- The journal (R380 to R384): the ledger sequence last issued, the records in the DRAM tail, and the pages programmed in both copies (each a list of records). -/
structure Jrn where
  seq : Nat := 0
  tail : List JRec := []
  pages : List (List JRec) := []
  deriving DecidableEq, Repr

/-- A map page as it is stored (R378): the ledger sequence of the newest MAP record it reflects, and its mapped entries. -/
structure MapPage where
  stamp : Nat
  entries : SMap Nat
  deriving DecidableEq, Repr

/-- An AU as it lies in the NAND: the logical AU its metadata names, and its data. -/
structure AuData where
  logical : Nat
  data : List Byte
  deriving DecidableEq, Repr

/-- A block (R387 to R389): its erase and read counts, whether it is retired, and whether a read found it in need of a refresh. -/
structure NBlock where
  erases : Nat := 0
  reads : Nat := 0
  bad : Bool := false
  weak : Bool := false
  deriving DecidableEq, Repr

/-- What the flush area holds after a HOLDUP (R390): the records of the flushed pages, the flushed map pages, and whether FLUSH_DONE is programmed. -/
structure Flush where
  recs : List JRec
  maps : SMap MapPage
  complete : Bool
  deriving DecidableEq, Repr

/-- Ingot beside its registers (R375 to R393): the map, its dirty pages and the stored ones; the programmed AUs by physical number; the blocks; the flush area, where it is not erased; the journal size and spare share in force; and the capacitor test with its start and whether it recharges. -/
structure Nand where
  map : SMap Nat := []
  dirty : List Nat := []
  stored : SMap MapPage := []
  aus : SMap AuData := []
  blocks : SMap NBlock := []
  flush : Option Flush := none
  jrnlMib : Nat := 4096
  sparePm : Nat := 20
  capAt : Option Nat := none
  recharge : Bool := false
  retryAt : Option (Option Nat) := none
  orphans : Nat := 0
  deriving DecidableEq, Repr


/-- A frame of an Ozsum or mirror link without its hop fields (R397): TYPE, FLAGS, SRC, DST, MSGID, FRAG and body. -/
structure LinkFrame where
  typ : Nat
  flags : Nat
  src : Nat
  dst : Nat
  msgid : Nat := 0
  frag : Nat := 0
  body : List Byte
  deriving DecidableEq, Repr

/-- A serial link (R398 to R401): the last SEQ sent, the last SEQ committed in order (none until the first frame after UP), the frames not yet acknowledged with their SEQ, the frames that wait for credits by class, the credits granted by the peer and used by class, the credits granted to the peer and those withheld by class. -/
structure SLink where
  txSeq : Nat := 0
  rxSeq : Option Nat := none
  rxHeld : Nat := 0
  sent : List (Nat × LinkFrame) := []
  wait0 : List LinkFrame := []
  wait1 : List LinkFrame := []
  cred0 : Nat := 0
  cred1 : Nat := 0
  used0 : Nat := 0
  used1 : Nat := 0
  grant0 : Nat := 0
  grant1 : Nat := 0
  held0 : Nat := 0
  held1 : Nat := 0
  changed : Bool := false
  deriving DecidableEq, Repr

/-- A batch accepted and not yet acknowledged (R408, R409): its unit, SEQ, START_C and seal, the PROFILE tasks still to file a record of it, and, once they all have, the ledger sequence of the seal's own journal record. -/
structure BatchAck where
  unit : Nat
  seq : Nat
  startC : Nat
  left : Nat
  sealB : List Byte
  jseq : Option Nat := none
  deriving DecidableEq, Repr

/-- A batch (R407): a unit seal and its canonical records in LIDX order. -/
structure Batch where
  sealB : List Byte
  recs : List (List Byte)
  deriving DecidableEq, Repr

/-- What a HEAD keeps of a chain unit (R411): the registered public keys, the one used last first; SEQ and digest of the last accepted seal; the batches held; the SEQ asked for with the requests made for it; the seal that failed its checks last; and whether it is reachable. -/
structure UnitInfo where
  keys : List (List Byte) := []
  lastSeq : Option Nat := none
  digest : List Byte := []
  held : List Batch := []
  asked : Option (Nat × Nat) := none
  bad : Option (List Byte) := none
  reachable : Bool := false
  deriving DecidableEq, Repr

/-- A stamp of a link or Ethernet FIFO (R412, R415): raw count, type or messageType, domainNumber, and SEQ or sequenceId. -/
structure FifoStamp where
  count : Nat
  typ : Nat
  dom : Nat := 0
  seq : Nat
  deriving DecidableEq, Repr

/-- The chain beside its registers (R396 to R412): links 0 CHN_UP, 1 CHN_DN and 2 the mirror link; the message number; whether an ENUM_END is awaited; the released seals not yet acknowledged, by SEQ, and how many of them are in flight; the units of a HEAD; its node table (unit × 65,536 + node to index); the stamp FIFOs; the transmit halts of Ethernet ports by port × 16 + class (8 for the whole port); whether a RELAY has an address; the batches accepted and not yet acknowledged; whether the HEAD has a walk to begin once CHN_DN is UP; and the Ethernet ports that pause their peers. -/
structure Chn where
  links : SMap SLink := []
  msgId : Nat := 0
  enumWait : Bool := false
  due : List Nat := []
  inFlight : List Nat := []
  units : SMap UnitInfo := []
  nodes : SMap Nat := []
  stamps : SMap (List FifoStamp) := []
  halts : List Nat := []
  hasAddr : Bool := false
  acks : List BatchAck := []
  walkDue : Bool := false
  pausing : BitVec 2 := 0
  deriving DecidableEq, Repr


/-- A heartbeat of the partner (R422). -/
structure Heartbeat where
  claim : Nat
  mode : Nat
  flags : Nat
  top : Nat
  applied : Nat
  epoch : Nat
  deriving DecidableEq, Repr

/-- A STORE transfer not yet programmed (R421). -/
structure StoreXfer where
  logical : Nat
  data : List Byte
  seq : Nat
  deriving DecidableEq, Repr

/-- The steps of a planned handover (R441). -/
inductive Handover where
  | draining | waiting | done
  deriving DecidableEq, Repr

/-- The pair beside its registers (R418 to R442): the partner's last heartbeat; the highest sequence shipped; as a standby, the transfers not yet programmed and the records not yet applied behind them; the fork point of a TAKEOVER entry of the partner that this unit has not applied; whether the unit is active, has given up, and is barred until its next BOOT (R418) or until a REJOIN (R435); the valid rounds since BOOT and whether one of them had an active winner; whether the last SYNC state was not SYNCED at BOOT; the consecutive frames with the partner's ELIG at 0; the handover in progress; whether the mirror link is DOWN, and has been for SOLO_TO; whether a slice has failed since the last pass; whether the claim bus is issuing; the give-up causes found and not yet acted on; the raw count since which, as a standby, it has not applied every record the partner has; ROUND of a unit without a partner (R118); the pin levels journaled; and when the uncorrectable DRAM errors of the last second came. -/
structure Pair where
  hb : Option Heartbeat := none
  shipped : Nat := 0
  stores : List StoreXfer := []
  behind : List (JRec × Carried) := []
  fork : Option Nat := none
  active : Bool := false
  givenUp : Bool := false
  barred : Bool := false
  rounds : Nat := 0
  sawActive : Bool := false
  stale : Bool := false
  partnerOut : Nat := 0
  handover : Option Handover := none
  linkLost : Bool := false
  soloTo : Bool := false
  failedSlice : Bool := false
  issuing : Bool := false
  found : Nat := 0
  lagFrom : Option Nat := none
  soloRound : Nat := 0
  pinLevels : SMap Bool := []
  ueAt : List Nat := []
  deriving DecidableEq, Repr

/-- SEC (R445 to R475) beside its registers: the key slots, the measurements by stage, the installed and issued certificates by attestation item, the raw counts and values of the life-cycle and debug challenges outstanding, whether the fuse read path is closed for a scan session, and the node-store key under which the key records in DRAM are wrapped, with the records wrapped under other keys. -/
structure Sec where
  slots : SMap KeySlot := []
  meas : SMap (List Byte) := []
  certs : SMap (List Byte) := []
  blobs : SMap KeyBlob := []
  lifeChal : Option (Nat × Nat) := none
  dbgChal : Option (Nat × Nat) := none
  noFuse : Bool := false
  kek : List Byte := []
  otherKeks : List (List Byte × SMap NbrKeys × SMap (List Byte)) := []
  deriving DecidableEq, Repr


/-- A slot of a part (R476, R489): its state (0 EMPTY, 1 WRITING, 2 NEXT, 3 TRIAL, 4 ACTIVE, 5 OLD, 6 FAILED), the kept header with its signature (both empty for the firmware the unit was made with), and the slot's contents. -/
structure FwSlot where
  st : Nat := 0
  head : List Byte := []
  sig : List Byte := []
  data : List Byte := []
  deriving DecidableEq, Repr

/-- A part in the boot record (R489): its two slots, which of them is active, its trial boots, and the slot this BOOT runs (none where neither passed its check). -/
structure FwPart where
  a : FwSlot := { st := 4 }
  b : FwSlot := {}
  act : Nat := 0
  trials : Nat := 0
  runs : Option Nat := some 0
  deriving DecidableEq, Repr

/-- A bundle (R486 to R492): its images in the order of its steps, the steps completed, whether the step under way is built, whether its trial has reached the mode it must reach, whether anything failed during the trial, and the steps still to revert in a fall-back. -/
structure Bundle where
  images : List Image
  step : Nat := 0
  built : Bool := false
  reached : Bool := false
  bad : Bool := false
  back : Nat := 0
  deriving DecidableEq, Repr

/-- A node of an image push (R484, R485): its entry, the block it asks for, whether a block is on its way, and the repetitions of that block. -/
structure NodePush where
  nbr : Nat
  block : Nat := 0
  sent : Bool := false
  tries : Nat := 0
  deriving DecidableEq, Repr

/-- The update machinery beside its registers (R480 to R496): the boot record by part; the store by entry, with the entries not yet forwarded or pushed; the chunks of the host's and of the chain's image so far, with the IMGID of the latter; the image that is being forwarded; per unit of a HEAD the last STORED result, its IMGID and the last STATE; the bundle; the IMGIDs of a pair bundle while the active unit waits for its standby, or while a standby takes their entries; those that the unit has to run once it is synchronised; and the push with its nodes. -/
structure Upd where
  parts : SMap FwPart := []
  store : SMap Image := []
  pushed : List Nat := []
  load : List Byte := []
  arriving : Option (Nat × List Byte) := none
  fwd : Option Nat := none
  units : SMap (Nat × Nat × Nat) := []
  bundle : Option Bundle := none
  pairWait : Option (List Nat) := none
  pairNext : Option (List Nat) := none
  push : Option Image := none
  nodes : List NodePush := []
  deriving DecidableEq, Repr

/-- A self-test unit (R528 to R531): its state (0 OK, 1 OUT, 2 FAULTY), its last result (1 PASS, 2 FAIL, 3 ABORTED), the ledger time of its last PASS, its consecutive skips, whether its last slice failed, whether a retest is asked for, and whether self-test holds it out of service. -/
structure PstUnit where
  st : Nat := 0
  last : Nat := 0
  passAt : Option Nat := none
  skips : Nat := 0
  failed : Bool := false
  retest : Bool := false
  held : Bool := false
  deriving DecidableEq, Repr

/-- A slice in progress (R527, R529): its unit, and whether the unit is a modem whose silent window is open. -/
structure PstSlice where
  unit : Nat
  silent : Bool
  deriving DecidableEq, Repr

/-- The self-test sequencer beside its registers (R527 to R533): the units, the slice in progress, and the units that a full run has still to test with whether all passed so far. -/
structure Pst where
  units : SMap PstUnit := []
  slice : Option PstSlice := none
  full : Option (List Nat × Bool) := none
  deriving DecidableEq, Repr

/-- Patina beside the ledger words (R534 to R542): the powered seconds since the last counted hour, in all and by band; the error counts last seen, by page; LTIME and CONSUMED at past checkpoints, the newest first; the newest checkpoint in the system area and the partner's; and the bundle chunks received. -/
structure Ldg where
  poh : Nat := 0
  bands : SMap Nat := []
  corr : SMap Nat := []
  unc : SMap Nat := []
  hist : List (Nat × Nat) := []
  ckpt : Option (List Nat) := none
  partner : Option (List Nat) := none
  load : List Byte := []
  deriving DecidableEq, Repr

/-- The panel's rail sequence (R546): rising, with the rail outputs from `next` on still to rise, or falling. -/
inductive RailSeq where
  | rising (next : Nat)
  | falling
  deriving DecidableEq, Repr

/-- What the panel is to show next (R547, R548, R551, R555): the two updates of a full clear, an image of the host (its completion counts), or an image that Bezel draws itself. -/
inductive Draw where
  | black | white
  | host (img : Nat)
  | own (img : Nat)
  deriving DecidableEq, Repr

/-- The e-paper drive in progress (R549 to R551): what is drawn, the band latched, the copied phase words with the frames each has left, and whether it is abandoned at the end of the frame. -/
structure EpdRun where
  draw : Draw
  band : Nat
  phases : List Nat
  left : Nat
  cut : Bool := false
  deriving DecidableEq, Repr

/-- Bezel beside its registers (R545 to R556). In force since the power-up: panel type, commons and inversion.
Rails: those up, and the sequence under way; `ready` once the panel is cleared; `light` while the front light is on.
Frame memory: its two copies, whether it holds an image, and whether a check failed since the last image of the host.
Drive: the draws that wait, in order; of an LCD the image driven, the frames of a clear left and the polarity; of an e-paper panel the run, the old state, the band of the last update, and whether the discharge runs.
Legal page: its images still to show. `held` is a GO that waits, `host` the host's image shown last. -/
structure Dsp where
  typ : Nat := 0
  coms : Nat := 0
  inv : Nat := 0
  rails : BitVec 3 := 0
  seq : Option RailSeq := none
  ready : Bool := false
  light : Bool := false
  fm0 : Nat := 0
  fm1 : Nat := 0
  fmOn : Bool := false
  crcBad : Bool := false
  todo : List Draw := []
  shown : Nat := 0
  clearLeft : Nat := 0
  negative : Bool := false
  run : Option EpdRun := none
  old : Nat := 0
  band : Option Nat := none
  discharge : Bool := false
  legal : List Nat := []
  held : Bool := false
  host : Nat := 0
  deriving DecidableEq, Repr


/-- What the block puts on its outputs, newest first in the state: messages, frames, pin levels and answers. -/
inductive OutMsg where
  /-- An MSI-X message of a vector (R62), to the PCIe host. -/
  | msix (vec : Nat) (addr : Nat) (data : Nat)
  /-- A vector delivered to the APP cluster's interrupt controller (R63). -/
  | appIrq (vec : Nat)
  /-- SMP_ALERT_N is driven low, or let go (R71). -/
  | alertN (low : Bool)
  /-- The bytes an SMP transaction answers (R66). -/
  | smp (bytes : List Byte)
  /-- PPS_OUT rises or falls (R101). -/
  | pps (level : Bool)
  /-- A timed converter start that a port sends its AFE (R101, DEST 3): the raw count of its target and the LATE flag. Its message is AUX_START (R117). -/
  | convStart (port : Nat) (count : Nat) (late : Bool)
  /-- A sample-link slot to a port's AFE, after its comma: characters 1 to 63 (R109). -/
  | slot (port : Nat) (chars : List Byte)
  /-- A frame a port transmits on its medium. -/
  | frame (port : Nat) (mode : Nat) (bytes : List Byte)
  /-- The 48-bit header of the NPL burst that follows, or of an ACK (R144). -/
  | nplHeader (port : Nat) (hdr : Nat)
  /-- A GPIO pin is driven to a level. -/
  | gpio (pin : Nat) (level : Bool)
  /-- A frame is returned to its source as failed (R150). -/
  | txFailed (port : Nat)
  /-- An auxiliary converter result of a port's AFE (R115). -/
  | auxResult (port : Nat) (payload : Nat)
  /-- A packet leaves a transmit queue (R222): the queue and its bytes. -/
  | sent (queue : Nat) (bytes : List Byte)
  /-- A completion entry written to completion queue k (R254): its index in the ring, TAG, SQHD, STATUS, PHASE and RESULT. -/
  | completion (k : Nat) (index : Nat) (tag : Nat) (sqhd : Nat) (status : Nat) (phase : Nat) (result : Nat)
  /-- What a TASK core's submission window answers (R246): 0 OK with the new index, 1 AGAIN, 2 BAD_KIND. -/
  | submitStatus (core : Nat) (status : Nat) (index : Nat)
  /-- A frame put on a serial lane (R396, R419): link 0 CHN_UP, 1 CHN_DN, 2 mirror; the bytes with MIC and FCS. -/
  | lane (link : Nat) (bytes : List Byte)
  /-- A PAUSE frame, or a PFC frame for the priorities named (0 for PAUSE), with its quanta (R414). -/
  | pause (port : Nat) (prios : Nat) (quanta : Nat)
  /-- An Ethernet frame leaves a port (R413): its traffic class and bytes. -/
  | eth (port : Nat) (cls : Nat) (bytes : List Byte)
  /-- A panel rail enable rises or falls (R546). -/
  | rail (i : Nat) (level : Bool)
  /-- The front light's duty in per mille, 0 for off (R546). -/
  | light (duty : Nat)
  /-- An LCD frame: its image and polarity, under the commons and inversion in force (R548). -/
  | lcdFrame (img : Nat) (negative : Bool) (coms : Nat) (inv : Nat)
  /-- An e-paper frame: the drive code of each segment, segment k in bits [2k+1:2k] (R549). -/
  | epdFrame (drives : Nat)
  /-- Every line and the top plane are at V0 (R546, R553). -/
  | linesV0
  deriving DecidableEq, Repr

/-- The state of the block. -/
structure State where
  /-- The commands that are waiting, first in, first out. -/
  pending : List Instr
  /-- The register fields whose value is not their reset value, by key (`Fld.key`). -/
  regs : SMap Nat
  /-- The model's own: how many free values have been taken. -/
  fresh : Nat
  /-- The model's own: what the block has put on its outputs, newest first. -/
  out : List OutMsg
  /-- Interrupt delivery. -/
  irq : Irq
  /-- Read shadows and read data of the two masters. -/
  bus : Bus
  /-- The configuration store. -/
  cfg : Cfg
  /-- Overrides in progress. -/
  ovr : Ovr
  /-- The timebase. -/
  tim : Tim
  /-- Field ports. -/
  ports : SMap Port_
  /-- Burst requests that wait for a credit, in arrival order (R506). -/
  credits : List CreditReq
  /-- Zero-crossing phases, L1 at 1 to L3 at 3. -/
  zc : SMap Zc
  /-- COMPARE output levels of the GPIO pins (R131). -/
  gpioCmp : BitVec 16
  /-- Grid origins of the radio ports, class S (R175). -/
  sunGrid : SMap Nat
  /-- G.9903 attributes that have been written, by port, layer, identifier and index (R139). -/
  pib : SMap Nat
  /-- Gate, the ingest security block. -/
  gate : Gate
  /-- The Crucible, the shared queue memory. -/
  cru : Cru
  /-- Cells retired for life, class S (R231). -/
  retired : List Nat
  /-- Planish, the hardware scheduler. -/
  pln : Pln
  /-- Firings held in TIM for a PKT domain under reset (R255). -/
  heldFirings : List BndDrain
  /-- BOUNDARY events delivered to profile task code and not yet acted on. -/
  bndPrf : List BndEvent
  /-- BOUNDARY events delivered to Touchstone and not yet acted on. -/
  bndTch : List BndEvent
  /-- The load profiles. -/
  prf : Prf
  /-- The tariff engine. -/
  tar : Tar
  /-- The LEGAL core. -/
  lgl : Lgl
  /-- Hallmark, the interval sealing. -/
  hlm : Hlm
  /-- Touchstone, the energy balance. -/
  tch : Tch
  /-- The journal. -/
  jrn : Jrn
  /-- Ingot, the NAND store. -/
  nand : Nand
  /-- The chain, the uplinks and the HEAD's view of its units. -/
  chn : Chn
  /-- The redundant pair. -/
  pair : Pair
  /-- The security controller: key slots, measurements, certificates and challenges. -/
  sec : Sec
  /-- The update machinery and the boot record. -/
  upd : Upd
  /-- Pins and supplies. -/
  pins : Pins
  /-- Power and mode machinery. -/
  pwr : Pwr
  /-- Reset machinery. -/
  rst : Rst
  mem : List Region
  /-- Fuses. -/
  fuses : Fuses
  /-- The self-test sequencer. -/
  pst : Pst
  /-- Patina, the lifetime ledger. -/
  ldg : Ldg
  /-- Bezel, the display driver. -/
  dsp : Dsp
  deriving DecidableEq, Repr

/-- The state right after power-on reset: mode BOOT, only AON powered, every register field at its reset value, every queue empty. DESIGN CHOICE, unsafe: log entry 2. DESIGN CHOICE, unsafe: log entry 3. -/
def State.reset : State where
  pending := []
  regs := []
  fresh := 0
  out := []
  irq := {}
  bus := {}
  cfg := {}
  ovr := {}
  tim := {}
  ports := []
  credits := []
  zc := []
  gpioCmp := 0
  sunGrid := []
  pib := []
  gate := {}
  cru := {}
  retired := []
  pln := {}
  heldFirings := []
  bndPrf := []
  bndTch := []
  prf := {}
  tar := {}
  lgl := {}
  hlm := {}
  tch := {}
  jrn := {}
  nand := {}
  chn := {}
  pair := {}
  sec := {}
  upd := {}
  pins := {}
  pwr := { change := some ⟨2, [1, 9, 10, 2, 4, 5, 3, 8, 11, 6, 7]⟩ }
  rst := {}
  mem := []
  fuses := {}
  pst := {}
  ldg := {}
  dsp := {}

end Sys2Proof.Machine
end

