-- ==== Sys2Proof/Machine/Ops.lean ====
section
/-!
DEFINITION. The named operations every meaning is built from: reading and writing register fields, counters, outputs, free values, the page map, interrupts and the ledger sequence.
-/
namespace Sys2Proof.Machine

/-- A bit as a number. -/
def b2n (b : Bool) : Nat := if b then 1 else 0

/-! ## Register fields -/

/-- The value of a field: what the store lists, or the field's reset value. -/
def State.rd (s : State) (f : Fld) : Nat := SMap.getD s.regs f.key f.reset

/-- Lists a value in a register store; the reset value is not listed. -/
def putField (m : SMap Nat) (f : Fld) (v : Nat) : SMap Nat :=
  if v % f.bound = f.reset then SMap.erase m f.key else SMap.set m f.key (v % f.bound)

/-- Writes a field, keeping as many bits as it has. -/
def State.wr (s : State) (f : Fld) (v : Nat) : State := { s with regs := putField s.regs f v }

/-- Adds to a counter that stops at its greatest value. -/
def State.addSat (s : State) (f : Fld) (n : Nat) : State :=
  s.wr f (if s.rd f + n < f.bound then s.rd f + n else f.bound - 1)

/-- Counts one in a saturating counter. -/
def State.sat (s : State) (f : Fld) : State := s.addSat f 1

/-- Counts one in a wrapping counter. -/
def State.wrap (s : State) (f : Fld) : State := s.wr f (s.rd f + 1)

/-- Is a one-bit field 1? -/
def State.on (s : State) (f : Fld) : Bool := s.rd f == 1

/-- The value a field acts with where its table states a range: the nearest value within it. -/
def State.rdIn (s : State) (f : Fld) (lo hi : Nat) : Nat := min (max (s.rd f) lo) hi

/-- Puts a message on the outputs. DESIGN CHOICE, safe: log entry 8. -/
def State.emit (s : State) (m : OutMsg) : State := { s with out := m :: s.out }

/-- A free value below a bound, for a value the spec leaves open; each taking is a new one. DESIGN CHOICE, safe: log entry 1. -/
def State.freeVal (s : State) (bound : Nat) : Nat := Config.freeValue s.fresh % bound

/-- Moves on to the next free value. -/
def State.tookFree (s : State) : State := { s with fresh := s.fresh + 1 }

/-- The bits [hi:lo] of a word. -/
def bits (v : Word) (hi lo : Nat) : Nat := v.toNat / 2 ^ lo % 2 ^ (hi + 1 - lo)

/-- One bit of a word. -/
def bit (v : Word) (i : Nat) : Bool := v.getLsbD i

/-- The value a word written to a register gives a field of it. -/
def Fld.ofWord (f : Fld) (v : Word) : Nat := bits v f.hi f.lo

/-- A number as bytes, most significant first (R12). -/
def be : Nat → Nat → List Byte
  | 0, _ => []
  | k + 1, n => BitVec.ofNat 8 (n / 256 ^ k) :: be k n

/-- The number a list of bytes spells, most significant first (R12). -/
def ofBe (l : List Byte) : Nat := l.foldl (fun a b => a * 256 + b.toNat) 0

/-- Bytes `i` to `i + n - 1` of a list, as a number. -/
def field (l : List Byte) (i n : Nat) : Nat := ofBe ((l.drop i).take n)

/-! ## Pages -/

/-- Page numbers (R39). -/
def Pg.CHIP : Nat := 0x000
def Pg.MODE : Nat := 0x001
def Pg.PWR : Nat := 0x002
def Pg.ARB : Nat := 0x003
def Pg.CLK : Nat := 0x004
def Pg.RST : Nat := 0x005
def Pg.CFG : Nat := 0x006
def Pg.TIME : Nat := 0x008
def Pg.SEC : Nat := 0x010
def Pg.KEYS : Nat := 0x011
def Pg.LIFE : Nat := 0x012
def Pg.DBG : Nat := 0x013
def Pg.CRU : Nat := 0x020
def Pg.PLN : Nat := 0x021
def Pg.GTE : Nat := 0x022
def Pg.ASY : Nat := 0x028
def Pg.PRF : Nat := 0x029
def Pg.TAR : Nat := 0x02A
def Pg.OBJ : Nat := 0x02B
def Pg.LGL : Nat := 0x02C
def Pg.HLM : Nat := 0x030
def Pg.PKE : Nat := 0x031
def Pg.HSH : Nat := 0x032
def Pg.TCH : Nat := 0x038
def Pg.IGT : Nat := 0x040
def Pg.CHN : Nat := 0x048
def Pg.ETH : Nat := 0x049
def Pg.PCI : Nat := 0x04A
def Pg.SMP : Nat := 0x04B
def Pg.MIR : Nat := 0x050
def Pg.CLM : Nat := 0x051
def Pg.UPD : Nat := 0x058
def Pg.PST : Nat := 0x060
def Pg.LDG : Nat := 0x061
def Pg.DSP : Nat := 0x068
def Pg.GPIO : Nat := 0x069
/-- Page FPn (R40). -/
def Pg.FP (n : Nat) : Nat := 0x100 + n
/-- Page FMn (R40). -/
def Pg.FM (n : Nat) : Nat := 0x140 + n
/-- Page FYn (R40). -/
def Pg.FY (n : Nat) : Nat := 0x180 + n

/-- Domain numbers (R499). -/
def Dom.AON : Nat := 0
def Dom.SEC : Nat := 1
def Dom.LGL : Nat := 2
def Dom.APP : Nat := 3
def Dom.TSK : Nat := 4
def Dom.PKT : Nat := 5
def Dom.FPA : Nat := 6
def Dom.FPB : Nat := 7
def Dom.UPL : Nat := 8
def Dom.MEM : Nat := 9
def Dom.NVM : Nat := 10
def Dom.IOX : Nat := 11

/-- The power domain of a page; none for a reserved page (R39, R41). -/
def pageDomain (p : Nat) : Option Nat :=
  if p ≤ 6 || p = 8 || p = 0x04B || p = 0x061 then some Dom.AON
  else if p = 0x010 || p = 0x011 || p = 0x012 || p = 0x013 || p = 0x031 then some Dom.SEC
  else if p = 0x020 || p = 0x021 || p = 0x022 || p = 0x030 || p = 0x032 then some Dom.PKT
  else if p = 0x028 || p = 0x029 || p = 0x038 then some Dom.TSK
  else if p = 0x02A || p = 0x02B || p = 0x02C then some Dom.LGL
  else if p = 0x040 then some Dom.NVM
  else if p = 0x048 || p = 0x049 || p = 0x04A || p = 0x050 || p = 0x051 then some Dom.UPL
  else if p = 0x058 then some Dom.APP
  else if p = 0x060 || p = 0x068 || p = 0x069 then some Dom.IOX
  else if 0x100 ≤ p && p < 0x1C0 then
    (if p % 64 < 32 then some Dom.FPA else some Dom.FPB)
  else none

/-- The kind of a page: port pages go by the first page of their kind (R40). -/
def pageKind (p : Nat) : Nat := if 0x100 ≤ p && p < 0x1C0 then p / 64 * 64 else p

/-- The port number of a port page, 0 for every other page (R45). -/
def pageInst (p : Nat) : Nat := if 0x100 ≤ p && p < 0x1C0 then p % 64 else 0

/-- Is a domain powered (PWR.DOM_ON, R499)? -/
def State.domPowered (s : State) (d : Nat) : Bool := (s.rd F.PWR_DOM_ON).testBit d

/-- Does a domain answer: powered, and not held in reset or restarting (R517)? -/
def State.domOn (s : State) (d : Nat) : Bool :=
  s.domPowered d && !(s.rst.inReset.any (fun x => x.1 == d))

/-- Does a page's domain answer (R42)? A reserved page has none and always answers with 0 (R41). -/
def State.pageOn (s : State) (p : Nat) : Bool :=
  match pageDomain p with
  | some d => s.domOn d
  | none => true

/-- Strap value 11 is reserved: only the override registers are answered (R2). DEDUCED, unsafe: log entry 11. -/
def State.dead (s : State) : Bool := s.pins.roleSel == 3

/-! ## Interrupts -/

/-- The MSI-X vector of a page (R61); the SMP page has none that is ever sent. -/
def pageVector (p : Nat) : Option Nat :=
  if p = Pg.CHIP || p = Pg.MODE || p = Pg.PWR || p = Pg.CLK || p = Pg.RST then some 0
  else if p = Pg.ARB then some 1
  else if p = Pg.TIME then some 2
  else if p = Pg.SEC || p = Pg.KEYS || p = Pg.LIFE || p = Pg.DBG then some 3
  else if p = Pg.CRU then some 4
  else if p = Pg.PLN then some 5
  else if p = Pg.GTE then some 6
  else if p = Pg.ASY then some 7
  else if p = Pg.PRF then some 8
  else if p = Pg.TAR || p = Pg.OBJ || p = Pg.LGL then some 9
  else if p = Pg.HLM || p = Pg.PKE || p = Pg.HSH then some 10
  else if p = Pg.TCH then some 11
  else if p = Pg.IGT then some 12
  else if p = Pg.CHN then some 13
  else if p = Pg.ETH then some 14
  else if p = Pg.PCI then some 15
  else if p = Pg.MIR || p = Pg.CLM then some 16
  else if p = Pg.CFG || p = Pg.UPD then some 17
  else if p = Pg.PST || p = Pg.LDG then some 18
  else if p = Pg.DSP || p = Pg.GPIO then some 19
  else if 0x100 ≤ p && p < 0x1C0 then some (32 + p % 64 / 2)
  else none

/-- The pages whose interrupts a vector carries (R61). -/
def vectorPages (v : Nat) : List Nat :=
  match v with
  | 0 => [Pg.CHIP, Pg.MODE, Pg.PWR, Pg.CLK, Pg.RST]
  | 1 => [Pg.ARB] | 2 => [Pg.TIME]
  | 3 => [Pg.SEC, Pg.KEYS, Pg.LIFE, Pg.DBG]
  | 4 => [Pg.CRU] | 5 => [Pg.PLN] | 6 => [Pg.GTE] | 7 => [Pg.ASY] | 8 => [Pg.PRF]
  | 9 => [Pg.TAR, Pg.OBJ, Pg.LGL]
  | 10 => [Pg.HLM, Pg.PKE, Pg.HSH]
  | 11 => [Pg.TCH] | 12 => [Pg.IGT] | 13 => [Pg.CHN] | 14 => [Pg.ETH] | 15 => [Pg.PCI]
  | 16 => [Pg.MIR, Pg.CLM] | 17 => [Pg.CFG, Pg.UPD] | 18 => [Pg.PST, Pg.LDG] | 19 => [Pg.DSP, Pg.GPIO]
  | v => if 32 ≤ v && v < 64 then
      [Pg.FP (2 * (v - 32)), Pg.FP (2 * (v - 32) + 1), Pg.FM (2 * (v - 32)), Pg.FM (2 * (v - 32) + 1),
       Pg.FY (2 * (v - 32)), Pg.FY (2 * (v - 32) + 1)]
    else []

/-- The owner of a page: 0 main host, 1 SMP. The SMP page is always the SMP's (R72). -/
def State.owner (s : State) (p : Nat) : Nat := if p = Pg.SMP then 1 else s.rd (F.OWNER_OWNER p)

/-- Is a page locked (R48)? -/
def State.locked (s : State) (p : Nat) : Bool := s.on (F.LOCK_LOCKED p)

/-- Has a page an enabled interrupt pending? -/
def State.pageIrq (s : State) (p : Nat) : Bool :=
  BitVec.ofNat 32 (s.rd (F.INT_STAT p)) &&& BitVec.ofNat 32 (s.rd (F.INT_EN p)) != 0

/-- A word of the MSI-X table (R61, R64): entry `k / 4`, word `k % 4`. Vector control resets to masked, as PCIe gives it. -/
def F.MSIX_WORD (k : Nat) : Fld := ⟨0x04A, 0x400 + 4 * k, 31, 0, .RW, .V, if k % 4 = 3 then 1 else 0, 0⟩

/-- Sends a vector: to the APP cluster while it is main host (R63); else an MSI-X message, or its pending bit while it is masked (R62). PRESUMED, unsafe: log entry 29. -/
def State.sendVector (s : State) (v : Nat) : State :=
  if s.pwr.appHost then s.emit (.appIrq v)
  else if s.rd (F.MSIX_WORD (4 * v + 3)) % 2 = 1 then
    { s with irq := { s.irq with pba := s.irq.pba ||| BitVec.ofNat 64 (2 ^ v) } }
  else s.emit (.msix v (s.rd (F.MSIX_WORD (4 * v)) + 2 ^ 32 * s.rd (F.MSIX_WORD (4 * v + 1))) (s.rd (F.MSIX_WORD (4 * v + 2))))

/-- The condition of a page vector: an enabled pending interrupt of a host-owned page (R62). -/
def State.vectorCond (s : State) (v : Nat) : Bool :=
  (vectorPages v).any (fun p => s.owner p == 0 && s.pageIrq p)

/-- Sets the stored condition of a vector, sending it where the condition rises (R62). -/
def State.setCond (s : State) (v : Nat) (c : Bool) : State :=
  if c then
    (if s.irq.cond.getLsbD v then s
     else ({ s with irq := { s.irq with cond := s.irq.cond ||| BitVec.ofNat 64 (2 ^ v) } }).sendVector v)
  else { s with irq := { s.irq with cond := s.irq.cond &&& ~~~(BitVec.ofNat 64 (2 ^ v)) } }

/-- Brings the delivery of a page's interrupt up to date: its vector's condition (R62). -/
def State.updPage (s : State) (p : Nat) : State :=
  match pageVector p with
  | some v => s.setCond v (s.vectorCond v)
  | none => s

/-- Sets a bit of SMP.ALERT_STAT (R72); SMP_ALERT_N follows it under R71 (`State.alertLow`). -/
def State.alert (s : State) (b : Nat) : State :=
  s.wr F.SMP_ALERT_STAT (s.rd F.SMP_ALERT_STAT ||| 2 ^ b)

/-- SMP_ALERT_N is driven low (R71). -/
def State.alertLow (s : State) : Bool := (s.rd F.SMP_ALERT_STAT &&& s.rd F.SMP_ALERT_EN) != 0

/-- Delivers a page's interrupt (R47): to its vector, or to the SMP's PAGE_INT alert where the SMP owns the page. -/
def State.deliver (s : State) (p : Nat) : State :=
  if s.owner p = 1 then (if s.pageIrq p then s.alert 8 else s) else s.updPage p

/-- Sets bits of a page's INT_STAT and delivers the interrupt (R45, R47). A page whose domain is off holds no interrupt. -/
def State.raiseBits (s : State) (p : Nat) (m : Nat) : State :=
  (s.wr (F.INT_STAT p) (s.rd (F.INT_STAT p) ||| m)).deliver p

/-- Sets one bit of a page's INT_STAT. -/
def State.raise (s : State) (p : Nat) (b : Nat) : State := s.raiseBits p (2 ^ b)

/-- Counts an uncorrectable error of a page's block and sets INT_STAT.UNC (R45). -/
def State.errUnc (s : State) (p : Nat) : State := (s.sat (F.ERR_UNC p)).raise p 31

/-- Counts a corrected error of a page's block (R45). -/
def State.errCorr (s : State) (p : Nat) : State := s.sat (F.ERR_CORR p)

/-! ## Access faults -/

/-- The causes of CHIP.ACC_ERR (R44). -/
def Cause.DOM_OFF : Nat := 1
def Cause.SIZE : Nat := 2
def Cause.OWNER_DENY : Nat := 3
def Cause.LOCKED : Nat := 4
def Cause.LEGAL : Nat := 5

/-- How CHIP.ACC_ERR.MASTER names a master (R44). -/
def masterCode : Master → Nat
  | .smp => 1 | _ => 0

/-- Records an access fault; a recorded one stands until VALID is cleared (R44). -/
def State.accErr (s : State) (m : Master) (cause addr : Nat) : State :=
  if s.on F.CHIP_ACC_ERR_VALID then s
  else (((s.wr F.CHIP_ACC_ERR_VALID 1).wr F.CHIP_ACC_ERR_MASTER (masterCode m)).wr F.CHIP_ACC_ERR_CAUSE cause).wr F.CHIP_ACC_ERR_ADDR addr

/-- Refuses a write for ownership or lock: recorded, counted, and INT_STAT.DENY of the page set (R44, R45, R73). -/
def State.denyWrite (s : State) (m : Master) (cause p off : Nat) : State :=
  ((s.accErr m cause (p * 0x1000 + off)).sat F.CHIP_DENY_CNT).raise p 30

/-- Is a master the main host in effect (R63)? -/
def State.isMain (s : State) (m : Master) : Bool :=
  match m with
  | .pcie => !s.pwr.appHost
  | .app => s.pwr.appHost
  | .smp => false
  | .lgl => false

/-- May a master write a page (R63, R73)? The LEGAL core writes the pages of its own domain (R293). DESIGN CHOICE, unsafe: log entry 7. -/
def State.owns (s : State) (m : Master) (p : Nat) : Bool :=
  if m == .lgl then pageDomain p == some Dom.LGL else if s.owner p = 1 then m == .smp else s.isMain m

/-- What stands in the way of a write, in the order of R575. -/
inductive Gatekeep where
  | unanswered | domOff | ownerDeny | locked | open
  deriving DecidableEq, Repr

/-- Is an offset exempt from the lock: INT_STAT, INT_EN and INT_FORCE (R48)? -/
def lockExempt (off : Nat) : Bool := off = 0x10 || off = 0x14 || off = 0x18

/-- Judges a write of one word (R2, R42, R48, R73, R575). -/
def State.judge (s : State) (m : Master) (p off : Nat) : Gatekeep :=
  if s.dead then .unanswered
  else if !s.pageOn p then .domOff
  else if (pageDomain p).isNone then .unanswered
  else if !s.owns m p then .ownerDeny
  else if s.locked p && !lockExempt off then .locked
  else .open

/-- Runs the effect of a register write where the write is let through, and records it where it is refused. -/
def State.guarded (s : State) (m : Master) (p off : Nat) (eff : State → State) : State :=
  match s.judge m p off with
  | .unanswered => s
  | .domOff => s.accErr m Cause.DOM_OFF (p * 0x1000 + off)
  | .ownerDeny => s.denyWrite m Cause.OWNER_DENY p off
  | .locked => s.denyWrite m Cause.LOCKED p off
  | .open => eff s

/-! ## Read shadows -/

/-- The key of a master's shadow of a register word (R43): the byte address above the master. The SMP has its own shadow, and every other master shares the main host's. DESIGN CHOICE, unsafe: log entry 9. -/
def shadowKey (m : Master) (p off : Nat) : Nat := (masterCode m * 0x1000 + p) * 0x1000 + off

/-- Lists a word in a master's shadow. -/
def State.setShadow (s : State) (m : Master) (p off : Nat) (w : Word) : State :=
  { s with bus := { s.bus with shadow := SMap.set s.bus.shadow (shadowKey m p off) w } }

/-- Answers a read with one word. -/
def State.answer (s : State) (w : Word) : State := { s with bus := { s.bus with rdata := [w] } }

/-- Runs the effect of a register read; a page whose domain is off answers all ones and the read is recorded (R2, R42). -/
def State.guardedRead (s : State) (m : Master) (p off : Nat) (eff : State → State) : State :=
  if s.dead then s.answer 0xFFFFFFFF#32
  else if !s.pageOn p then (s.accErr m Cause.DOM_OFF (p * 0x1000 + off)).answer 0xFFFFFFFF#32
  else eff s

/-! ## The ledger sequence and the journal -/

/-- Has the unit a partner: strapped to a pair slot, with the mirror link enabled (R418)? -/
def State.partnered (s : State) : Bool := (s.pins.pairSel == 1 || s.pins.pairSel == 2) && s.on F.MIR_CTL_EN

/-- Takes the next ledger sequence and appends a journal record to the DRAM tail (R32, R380). A pair unit that is not active issues no sequence of the pair's journal (R420): its own records stand beside the record it applied last, LOCAL. DEDUCED, unsafe: log entry 103. -/
def State.journalRec (s : State) (kind : Nat) (isLocal : Bool) (body : List Byte) : State :=
  if s.partnered && !s.pair.active then { s with jrn := { s.jrn with tail := s.jrn.tail ++ [{ seq := s.jrn.seq, kind := kind, isLocal := true, body := body }] } }
  else { s with jrn := { s.jrn with seq := s.jrn.seq + 1, tail := s.jrn.tail ++ [{ seq := s.jrn.seq + 1, kind := kind, isLocal := isLocal, body := body }] } }

/-- Appends a record that the partner applies. -/
def State.journal (s : State) (kind : Nat) (body : List Byte) : State := s.journalRec kind false body

/-! ## The outcome of a command -/

/-- SMP_ALERT_N as it must be driven now (R71): a change of its level is put out. -/
def State.alertPin (s : State) : State :=
  if s.irq.alertN == s.alertLow then s
  else ({ s with irq := { s.irq with alertN := s.alertLow } }).emit (.alertN s.alertLow)

/-- The outcome of a command or an idle tick that began in state s and whose effect leads to t: the next state, with SMP_ALERT_N driven as R71 says, and with the queue of waiting commands as it was. -/
def State.done (s t : State) : Host.Outcome State Fault Refusal := .next { t.alertPin with pending := s.pending }

/-! ## Time -/

/-- T(c) of an epoch (R81), an unsigned 64-bit count: OFFSET plus RATE times the ticks since ANCHOR, the 40 fractional bits discarded.
A count below ANCHOR takes the same rule with a negative product. DEDUCED, unsafe: log entry 33. -/
def Epoch.time (e : Epoch) (c : Nat) : Nat :=
  (((e.offset : Int) + ((e.rate : Int) * ((c : Int) - (e.anchor : Int))) / (2 ^ 40 : Int)) % (2 ^ 64 : Int)).toNat

/-- The epoch in force. -/
def Tim.cur (t : Tim) : Epoch := t.epochs.headD ⟨0, 0, 0, 0x40000000000, 0⟩

/-- Disciplined time now, TAI nanoseconds (R81). -/
def State.now (s : State) : Nat := s.tim.cur.time s.tim.raw

/-- The raw count now (R78). -/
def State.raw (s : State) : Nat := s.tim.raw

/-- The modes (R498). -/
def Md.OFF : Nat := 0
def Md.VAULT : Nat := 1
def Md.BOOT : Nat := 2
def Md.PROVISION : Nat := 3
def Md.LEAF : Nat := 4
def Md.RELAY : Nat := 5
def Md.HEAD : Nat := 6
def Md.STANDBY : Nat := 7
def Md.TAKEOVER : Nat := 8
def Md.HOLDUP : Nat := 9
def Md.OUTAGE : Nat := 10
def Md.SERVICE : Nat := 11

/-- The mode the unit is in (MODE.CUR, R498). -/
def State.mode (s : State) : Nat := s.rd F.MODE_CUR

/-- Is a mode a role mode (R498)? -/
def isRole (m : Nat) : Bool := 4 ≤ m && m ≤ 6

/-- The strapped role mode (R1, R498). -/
def State.roleMode (s : State) : Nat := 4 + s.pins.roleSel.toNat

/-- The unit's role: 0 LEAF, 1 RELAY, 2 HEAD (R1). -/
def State.role (s : State) : Nat := s.pins.roleSel.toNat

/-- Is the APP cluster main host (R63)? -/
def State.appMain (s : State) : Bool := s.pwr.appHost

/-- Is the work of the role done: in a mode that does it, with ports and links not held off, and no succession bundle exported since BOOT (R503, R540)? -/
def State.working (s : State) : Bool := (isRole s.mode || s.mode == Md.OUTAGE || s.mode == Md.SERVICE) && !s.pwr.portsOff && !s.on F.LDG_SUCC_STAT_EXPORTED

/-- Does an override of a function run or wait, so that the host's requests for that function are refused (R76)? -/
def State.ovrHolds (s : State) (f : OvrFn) : Bool := s.ovr.running == some f || (f == .mode && s.ovr.waitMode.isSome) || (f == .reset && s.ovr.waitReset)

/-- The override of a function that ran has ended with a result: 1 done, 2 refused (R75). -/
def State.ovrEnd (s : State) (f : OvrFn) (r : Nat) : State :=
  if s.ovr.running == some f then (({ s with ovr := { s.ovr with running := none, dom := none } }).wr F.SMP_OVR_STAT_LAST r).wr F.SMP_OVR_STAT_BUSY 0 else s

/-! ## Ledger counters -/

/-- A ledger counter (R535): word 2i holds bits [31:0], word 2i + 1 bits [47:32]. -/
def State.ledger (s : State) (i : Nat) : Nat := s.rd (F.LDG_WORD (2 * i)) + 2 ^ 32 * s.rd (F.LDG_WORD (2 * i + 1))

/-- Sets a ledger counter; it stops at 2^48 - 1 (R535). -/
def State.setLedger (s : State) (i v : Nat) : State :=
  let x := min v (2 ^ 48 - 1)
  (s.wr (F.LDG_WORD (2 * i)) x).wr (F.LDG_WORD (2 * i + 1)) (x / 2 ^ 32)

/-- Advances a ledger counter. -/
def State.ledgerAdd (s : State) (i n : Nat) : State := s.setLedger i (s.ledger i + n)

/-- Ledger time in seconds (R534). -/
def State.ledgerTime (s : State) : Nat := s.ledger 0

end Sys2Proof.Machine
end

