-- ==== Sys2Proof/Machine/Clock.lean ====
section
/-!
DEFINITION. Epochs, quality bytes and the conversion of counts (R81, R84, R86, R91), which every block that stamps something uses.
-/
namespace Sys2Proof.Machine

/-! ## The quality byte and epochs -/

/-- SOURCE of a quality byte (R91). -/
def qSource (q : BitVec 8) : Nat := q.toNat % 8

/-- A quality byte with a bit set or cleared. -/
def qPut (q : BitVec 8) (i : Nat) (b : Bool) : BitVec 8 :=
  if b then q ||| BitVec.ofNat 8 (2 ^ i) else q &&& ~~~(BitVec.ofNat 8 (2 ^ i))

/-- A quality byte with its SOURCE replaced. -/
def qWithSource (q : BitVec 8) (n : Nat) : BitVec 8 := (q &&& 0xF8#8) ||| BitVec.ofNat 8 (n % 8)

/-- TIME.SRC.SEL as it acts: 1, 6 and 7 act as 0 (R95). -/
def State.srcSel (s : State) : Nat :=
  if s.rd F.TIME_SRC_SEL = 1 || s.rd F.TIME_SRC_SEL = 6 || s.rd F.TIME_SRC_SEL = 7 then 0 else s.rd F.TIME_SRC_SEL

/-- Is UNCERTAIN due: ERR_EST exceeds QTHRESH (R91)? -/
def State.uncertain (s : State) : Bool := s.rd F.TIME_QTHRESH < s.rd F.TIME_ERR_EST

/-- The target of a compare unit as its registers give it. -/
def State.cmpTgt (s : State) (k : Nat) : Nat := s.rd (F.TIME_CMP_TGT_LO k) + 2 ^ 32 * s.rd (F.TIME_CMP_TGT_HI k)

/-- The period of a compare unit. -/
def State.cmpPer (s : State) (k : Nat) : Nat := s.rd (F.TIME_CMP_PER_LO k) + 2 ^ 32 * s.rd (F.TIME_CMP_PER_HI k)

/-- The state of a compare unit beside its registers. -/
def State.cmpUnit (s : State) (k : Nat) : CmpUnit := SMap.getD s.tim.cmp k {}

/-- Changes a compare unit's state. -/
def State.setCmp (s : State) (k : Nat) (u : CmpUnit) : State := { s with tim := { s.tim with cmp := SMap.set s.tim.cmp k u } }

/-- The next target of R98 above a time: TGT while it lies above; else TGT plus whole periods; else TGT, which fires at once. -/
def nextTarget (tgt per t : Nat) : Nat :=
  if t < tgt then tgt else if per = 0 then tgt else tgt + ((t - tgt) / per + 1) * per

/-- How many targets a time has reached, from the next target on (R99). DEDUCED, unsafe: log entry 35. -/
def targetsPassed (next per t : Nat) : Nat :=
  if t < next then 0 else if per = 0 then 1 else (t - next) / per + 1

/-- Opens an epoch (R82, R84): the number goes up by one and wraps at 16 bits, and the 16 newest epochs stay held. -/
def State.openEpoch (s : State) (anchor offset rate : Nat) (q : BitVec 8) : State :=
  { s with tim := { s.tim with
      epochs := (⟨(s.tim.cur.num + 1) % 65536, anchor, offset % 2 ^ 64, rate, q⟩ :: s.tim.epochs).take 16 } }

/-- Gives the running epoch a new quality byte: a change opens an epoch with time continuous and RATE unchanged (R84). A rise of UNCERTAIN sets its interrupt bit (R95). DEDUCED, unsafe: log entry 34. -/
def State.setQual (s : State) (q : BitVec 8) : State :=
  if q = s.tim.cur.qual then s
  else
    let s1 := s.openEpoch s.raw s.now s.tim.cur.rate q
    if q.getLsbD 7 && !s.tim.cur.qual.getLsbD 7 then s1.raise Pg.TIME 5 else s1

/-- Brings UNCERTAIN up to date after a change of ERR_EST or QTHRESH (R91). -/
def State.refreshUncertain (s : State) : State := s.setQual (qPut s.tim.cur.qual 7 s.uncertain)

/-- The epoch a count converts with (R86), and whether the count is older than every held one. DEDUCED, unsafe: log entry 33. -/
def Tim.epochOf (t : Tim) (c : Nat) : Epoch × Bool :=
  match t.epochs.find? (fun e => decide (e.anchor ≤ c)) with
  | some e => (e, false)
  | none => (t.epochs.getLastD t.cur, true)

/-- Converts a count: its time, epoch number and quality, EPOCH_LOST for a count older than the oldest held epoch (R86). -/
def State.convert (s : State) (c : Nat) : Nat × Nat × BitVec 8 :=
  let (e, lost) := s.tim.epochOf c
  (e.time c, e.num, qPut e.qual 6 lost)

end Sys2Proof.Machine
end

