-- ==== Sys2Proof/Machine/Legal.lean ====
section
/-!
DEFINITION. The legal event log (R317 to R319) and the activation of a tariff set (R298), which other blocks bring about.
-/
namespace Sys2Proof.Machine

/-- The grid minute of a TAI time in ns (R266). -/
def State.gridMin (s : State) (t : Nat) : Nat := (t / 1000000000 - s.rd F.PRF_GRID_OFS) / 60

/-- The grid minute now. -/
def State.gridNow (s : State) : Nat := s.gridMin s.now

/-- Does a TAI time lie on the grid minute raster (R268)? -/
def State.onRaster (s : State) (t : Nat) : Bool :=
  t % 1000000000 == 0 && decide (s.rd F.PRF_GRID_OFS ≤ t / 1000000000) && (t / 1000000000 - s.rd F.PRF_GRID_OFS) % 60 == 0

/-- The TAI time in ns of a grid minute. -/
def State.minTime (s : State) (m : Nat) : Nat := (m * 60 + s.rd F.PRF_GRID_OFS) * 1000000000

/-- The two's complement of an integer in `k` bytes. -/
def beInt (k : Nat) (i : Int) : List Byte := be k (i % (256 ^ k : Nat)).toNat

/-- The integer that bytes spell in two's complement. -/
def ofBeInt (l : List Byte) : Int :=
  if 2 * ofBe l < 256 ^ l.length then (ofBe l : Int) else (ofBe l : Int) - (256 ^ l.length : Nat)

/-- Writes a legal event (R317, R319): the counter advances, the ring takes the record, and the journal carries it. At 0xFFFF_FFFF the counter stands and the log is full. DEDUCED, unsafe: log entry 81. -/
def State.legalEvent (s : State) (code src role lseq : Nat) (detail : List Byte) : State :=
  if s.rd F.LGL_EVT_CNT = 0xFFFFFFFF then s.wr F.LGL_LOG_FULL 1
  else
    let cnt := s.rd F.LGL_EVT_CNT + 1
    let body := be 4 cnt ++ be 8 s.raw ++ be 1 s.tim.cur.qual.toNat ++ be 1 code ++ be 1 src ++ be 1 role ++ be 8 lseq ++ (detail ++ be 8 0).take 8
    let n := s.lgl.sinceAck + 1
    let s1 := { s with lgl := { s.lgl with events := (body :: s.lgl.events).take 1024, sinceAck := n } }
    let s2 := ((s1.wr F.LGL_EVT_CNT cnt).wr F.LGL_EVT_HEAD ((s.rd F.LGL_EVT_HEAD + 1) % 1024)).wr F.LGL_LOG_FULL (if cnt = 0xFFFFFFFF then 1 else 0)
    let s3 := (s2.journal 8 (be 1 0x45 ++ body)).raise Pg.LGL 0
    if 960 ≤ n && !s.on F.LGL_LOG_NEAR then (s3.wr F.LGL_LOG_NEAR 1).raise Pg.LGL 1 else s3

/-- The SRC of a legal event for a master (R317). -/
def eventSrc (m : Master) : Nat := masterCode m

/-- The role in effect for a master (R314, R321). -/
def State.sessRole (s : State) (m : Master) : Nat := s.rd (F.OBJ_SESS_STAT_ROLE (masterCode m))

/-- ROLE of a legal event for a master: 7 while it has no session (R317). -/
def State.eventRole (s : State) (b : Nat) : Nat := if s.rd (F.OBJ_SESS_STAT_ROLE b) = 4 then 7 else s.rd (F.OBJ_SESS_STAT_ROLE b)

/-- A write to a legal field by another master than the LEGAL core is ignored and recorded; one event stands for all refused writes of a master within a second (R26, R318). DEDUCED, unsafe: log entry 81. -/
def State.deniedWrite (s : State) (m : Master) (addr : Nat) : State :=
  let sec := s.raw / 250000000
  match SMap.find? s.lgl.deny (masterCode m) with
  | some (t, n, a) =>
    if t = sec then
      let body := be 4 a ++ be 4 (n + 1)
      { s with lgl := { s.lgl with
          deny := SMap.set s.lgl.deny (masterCode m) (t, n + 1, a)
          events := s.lgl.events.map (fun e => if e.drop 24 == be 4 a ++ be 4 n && (e.drop 13).take 2 == be 1 7 ++ be 1 (eventSrc m) && ofBe ((e.drop 4).take 8) / 250000000 == sec then e.take 24 ++ body else e) } }
    else ({ s with lgl := { s.lgl with deny := SMap.set s.lgl.deny (masterCode m) (sec, 1, addr) } }).legalEvent 7 (eventSrc m) (s.eventRole (masterCode m)) (s.jrn.seq + 1) (be 4 addr ++ be 4 1)
  | none => ({ s with lgl := { s.lgl with deny := SMap.set s.lgl.deny (masterCode m) (sec, 1, addr) } }).legalEvent 7 (eventSrc m) (s.eventRole (masterCode m)) (s.jrn.seq + 1) (be 4 addr ++ be 4 1)

/-- Is the LEGAL core at work? -/
def State.lglRuns (s : State) : Bool := s.domOn Dom.LGL && s.on F.LGL_STAT_RUN && !s.on F.LGL_STAT_HALTED

/-- The armed set becomes active (R298): the journal record with the effective raw count, the oldest held set dropped, and the event. -/
def State.tariffActivate (s : State) (effective : Nat) : State :=
  match s.tar.armed with
  | none => s
  | some a =>
    let old := (s.tar.sets.head?.map (fun x => x.gen)).getD 0
    let s1 := { s with tar := { s.tar with sets := (a :: s.tar.sets).take 3, armed := none } }
    let s2 := ((s1.wr F.TAR_GEN_ACT a.gen).wr F.TAR_GEN_PEND 0).wr F.TAR_ACT_MIN 0
    let s3 := (s2.journal 8 (be 1 0x41 ++ be 2 a.gen ++ be 4 a.actMin ++ be 8 effective)).raise Pg.TAR 0
    s3.legalEvent 1 2 7 s3.jrn.seq (be 2 old ++ be 2 a.gen ++ be 4 a.actMin)

/-- A completed boundary drain reaches the LEGAL core (R298): the first whose target is at least ACT_MIN makes the armed set active; a core that does not run takes none. -/
def State.tariffBoundary (s : State) (c target : Nat) : State :=
  match s.tar.armed with
  | some a => if s.lglRuns && decide (s.minTime a.actMin ≤ target) then s.tariffActivate c else s
  | none => s

end Sys2Proof.Machine
end

