-- ==== Sys2Proof/Machine/Boundary.lean ====
section
/-!
DEFINITION. Where a firing of a compare unit lands outside TIM: a boundary drain, a GPIO pin, a control task, and what a time change means to the profiles.
-/
namespace Sys2Proof.Machine

/-- Is PKT awake enough for a drain (R255): not in HOLDUP, and the domain powered? -/
def State.pktAwake (s : State) : Bool := s.mode != Md.HOLDUP && s.domPowered Dom.PKT

/-- A BOUNDARY event reaches every block of PLN.BND_SUBS that acts on one: profile task code and Touchstone, which act on it in their turn, and the tariff engine (R255, R258, R298). -/
def State.sendBoundary (s : State) (e : BndEvent) : State :=
  let m := if s.working then s.rd F.PLN_BND_SUBS else 0
  let s1 := { s with
    bndPrf := if m.testBit 0 then s.bndPrf ++ [e] else s.bndPrf
    bndTch := if m.testBit 2 then s.bndTch ++ [e] else s.bndTch }
  if m.testBit 3 then s1.tariffBoundary e.c e.target else s1

/-- ARG bit 63 (LATE) of a VALIDATE or PROFILE task whose stamp precedes the count of the last completed drain (R255). -/
def Desc.markLate (d : Desc) (last : Nat) : Desc :=
  if (d.kind = 2 || d.kind = 3) && d.stamp < last && !d.arg.testBit 63 then { d with arg := d.arg + 2 ^ 63 } else d

/-- The oldest outstanding drain completes (R255, R256): the event goes out, the count of the last completed drain moves on, and LATE is counted. -/
def State.completeDrain (s : State) (late : Bool) : State :=
  match s.pln.drains with
  | [] => s
  | d :: ds =>
    let last := max s.pln.lastDrain d.c
    let s1 := { s with pln := { s.pln with drains := ds, lastDrain := last, descs := s.pln.descs.map (fun e : Nat × Desc => (e.1, e.2.markLate last)) } }
    let s2 := (s1.wr F.PLN_BND_STAT_OUT ds.length).sendBoundary ⟨d.c, d.target, d.fires, d.rep, late, s.rd F.PLN_BND_PRIO⟩
    if late then ((s2.sat F.PLN_BND_LATE).wrap F.PLN_BND_DONE).raiseBits Pg.PLN (2 ^ 3 + 2 ^ 4)
    else (s2.wrap F.PLN_BND_DONE).raise Pg.PLN 3

/-- A drain starts; a ninth firing first completes the oldest with LATE (R256). -/
def State.startDrain (s : State) (d : BndDrain) : State :=
  let s1 := if 8 ≤ s.pln.drains.length then s.completeDrain true else s
  { s1 with pln := { s1.pln with drains := s1.pln.drains ++ [d] } }.wr F.PLN_BND_STAT_OUT (s1.pln.drains.length + 1)

/-- A firing with DEST = 2 (R255): it starts a drain at the present count; in HOLDUP or with PKT off it starts none; under a PKT domain reset it is held in TIM. -/
def State.boundaryFire (s : State) (target fires : Nat) (rep : Bool) : State :=
  if !s.pktAwake then s
  else if s.rst.inReset.any (fun x => x.1 == Dom.PKT) then { s with heldFirings := s.heldFirings ++ [⟨s.raw, target, fires, rep⟩] }
  else s.startDrain ⟨s.raw, target, fires, rep⟩

/-! ## GPIO -/

/-- FUNC of a pin: COMPARE? (R131) -/
def State.pinCompare (s : State) (k : Nat) : Bool := s.rd F.GPIO_FUNC / 4 ^ k % 4 == 1

/-- The compare unit of a pin (R131). -/
def State.pinUnit (s : State) (k : Nat) : Nat :=
  if k < 8 then s.rd F.GPIO_CMP_LO / 16 ^ k % 16 else s.rd F.GPIO_CMP_HI / 16 ^ (k - 8) % 16

/-- A bit of a level word set or cleared. -/
def putBit16 (x : BitVec 16) (k : Nat) (b : Bool) : BitVec 16 :=
  if b then x ||| BitVec.ofNat 16 (2 ^ k) else x &&& ~~~(BitVec.ofNat 16 (2 ^ k))

/-- Is a pin claimed by the pair's arbitration (CLM.GPIO_ARB, R131)? -/
def State.pinArb (s : State) (k : Nat) : Bool := (s.rd F.CLM_GPIO_ARB).testBit k

/-- The level that GPIO.OUT holds for a pin: a claim-arbitrated pin's journaled level, else the bit written (R131, R432). DESIGN CHOICE, unsafe: log entry 66. -/
def State.outLevel (s : State) (k : Nat) : Bool :=
  if s.pinArb k then SMap.getD s.pair.pinLevels k ((s.rd F.GPIO_OUT).testBit k) else (s.rd F.GPIO_OUT).testBit k

/-- Is a pin the capacitor-test pin, while the test is enabled or runs (R131, R393)? -/
def State.pinCap (s : State) (k : Nat) : Bool := (s.on F.IGT_CAP_CTL_EN || s.nand.capAt.isSome) && s.rd F.IGT_CAP_CTL_PIN == k

/-- The level at which the device drives a pin, none where it is an input (R131, R393, R432): a claim-arbitrated pin while the unit issues; the capacitor-test pin, high during a test; a COMPARE or a SOFT output. DESIGN CHOICE, unsafe: log entry 66. -/
def State.pinLevel (s : State) (k : Nat) : Option Bool :=
  if !s.domOn Dom.IOX then none
  else if s.pinArb k then (if s.pair.issuing || !s.partnered then some (s.outLevel k) else none)
  else if s.pinCap k then some s.nand.capAt.isSome
  else if (s.rd F.GPIO_DIR).testBit k then some (if s.pinCompare k then s.gpioCmp.getLsbD k else (s.rd F.GPIO_OUT).testBit k)
  else none

/-- Does the device drive a pin now (R131)? -/
def State.pinDriven (s : State) (k : Nat) : Bool := (s.pinLevel k).isSome

/-- The level on a pin (R131): the driven one, and where the pin is an input, or an open-drain output that is high, the board's. DESIGN CHOICE, unsafe: log entry 66. -/
def State.pinIn (s : State) (k : Nat) : Bool :=
  match s.pinLevel k with
  | some b => if b && (s.rd F.GPIO_OD).testBit k then s.pins.gpio.getLsbD k else b
  | none => s.pins.gpio.getLsbD k

/-- One pin follows a change of the state (R131): a new driven level goes out, and an edge of the pin sets its interrupt bit where INT_RISE or INT_FALL enables it. -/
def State.pinFollow (s old : State) (t : State) (k : Nat) : State :=
  let t1 := match s.pinLevel k with
    | some b => if old.pinLevel k == some b then t else t.emit (.gpio k b)
    | none => t
  if s.pinIn k == old.pinIn k || !s.domOn Dom.IOX then t1
  else if (s.rd (if s.pinIn k then F.GPIO_INT_RISE else F.GPIO_INT_FALL)).testBit k then t1.raise Pg.GPIO k else t1

/-- The pins follow a change of the state (R131). -/
def State.gpioFollow (s old : State) : State := (List.range 16).foldl (fun (t : State) k => s.pinFollow old t k) s

/-- The COMPARE output pins take a firing of unit `u`: they go high, or toggle while PULSE is 0 (R131). -/
def State.gpioCompare (s : State) (u : Nat) : State :=
  ((List.range 16).foldl (fun (t : State) k =>
    if (s.rd F.GPIO_DIR).testBit k && s.pinCompare k && s.pinUnit k == u && !s.pinArb k && !s.pinCap k && s.domOn Dom.IOX then
      { t with gpioCmp := putBit16 t.gpioCmp k (if s.rd F.GPIO_PULSE = 0 then !s.gpioCmp.getLsbD k else true) }
    else t) s).gpioFollow s

end Sys2Proof.Machine
end

