-- ==== Sys2Proof/Machine/Crucible.lean ====
section
/-!
DEFINITION. The Crucible: cells, links, packets, queues, back-pressure, host contexts, BAR2 and bank drains (chapter 08).
-/
namespace Sys2Proof.Machine

/-! ## The pool's memory -/

/-- Reads a byte of the pool; a byte that nothing has written reads 0. DESIGN CHOICE, unsafe: log entry 62. -/
def poolRead : List Host.Cell → Nat → Byte
  | [], _ => 0
  | (a, b) :: m, i => if a = i then b else poolRead m i

/-- Writes a byte of the pool, keeping the canonical form: rising offsets, and no entry that reads 0. DESIGN CHOICE, unsafe: log entry 62. -/
def poolWrite : List Host.Cell → Nat → Byte → List Host.Cell
  | [], i, v => if v = 0 then [] else [(i, v)]
  | (a, b) :: m, i, v =>
    if i = a then (if v = 0 then m else (i, v) :: m)
    else if i < a then (if v = 0 then (a, b) :: m else (i, v) :: (a, b) :: m)
    else (a, b) :: poolWrite m i v

/-- The canonical form of the pool: offsets rise strictly and no entry is 0. -/
def poolWf : List Host.Cell → Bool
  | [] => true
  | [(_, b)] => b != 0
  | (a, b) :: (c, d) :: m => b != 0 && decide (a < c) && poolWf ((c, d) :: m)

/-- The memory of the Crucible is in its canonical form. -/
def Memory.wf (s : State) : Bool := poolWf s.cru.pool

/-- Writes bytes into the cells of a packet, the first at byte `i` of the packet. -/
def poolWriteBytes (cells : List Nat) : List Host.Cell → Nat → List Byte → List Host.Cell
  | m, _, [] => m
  | m, i, b :: bs => poolWriteBytes cells (poolWrite m (cells.getD (i / 256) 0 * 256 + i % 256) b) (i + 1) bs

/-- Reads `n` bytes of a packet, from byte `i` on. -/
def poolReadBytes (cells : List Nat) (m : List Host.Cell) : Nat → Nat → List Byte
  | _, 0 => []
  | i, n + 1 => poolRead m (cells.getD (i / 256) 0 * 256 + i % 256) :: poolReadBytes cells m (i + 1) n

/-! ## Cells and FREE -/

/-- A cell's link entry (R215). -/
def State.link (s : State) (c : Nat) : Link := SMap.getD s.cru.links c {}

/-- Sets a cell's link entry. -/
def State.setLink (s : State) (c : Nat) (l : Link) : State := { s with cru := { s.cru with links := SMap.set s.cru.links c l } }

/-- Is a bank open to allocation (R236)? -/
def State.bankOpen (s : State) (k : Nat) : Bool := s.cru.drain != some k && s.cru.isolated != some k

/-- Is a cell FREE and allocatable: not quarantined, not retired (R231)? -/
def State.cellFree (s : State) (c : Nat) : Bool :=
  let l := s.link c
  l.st == .free && !l.quar && !s.retired.contains c

/-- Cells of a bank that are FREE and allocatable. -/
def State.bankFree (s : State) (k : Nat) : Nat :=
  4096 - ((s.cru.links.filter (fun e => e.1 % 16 == k && (e.2.st != .free || e.2.quar))).length
    + (s.retired.filter (fun c => c % 16 == k)).length)

/-- Cells reserved by open writers and not yet taken (R217). -/
def State.cruResv (s : State) : Nat := (s.cru.ctx.map (fun e => e.2.resv - e.2.cells.length)).sum

/-- FREE (R227): FREE cells in open banks minus outstanding reservations. -/
def State.cruFree (s : State) : Nat :=
  (((List.range 16).filter (fun k => s.bankOpen k)).map (fun k => s.bankFree k)).sum - s.cruResv

/-- Is a class back-pressured, by the pool or by descriptors (R252), or by a planned handover (R441)? -/
def State.classBp (s : State) (c : Nat) : Bool := (s.rd F.PLN_BP_STAT_ANY).testBit c || s.pair.handover.isSome

/-- The back-pressure of one class after FREE has changed (R227). -/
def bpNext (was : Bool) (free th hyst : Nat) : Bool := if was then decide (free < th + hyst) else decide (free < th)

/-- The pool's back-pressures, one bit per class, after FREE has changed. -/
def State.cruBpNext (s : State) : Nat :=
  ((List.range 5).map (fun c => if bpNext (s.cru.bp.getLsbD c) s.cruFree (s.rd (F.CRU_BP_TH c)) (s.rd F.CRU_BP_HYST) then 2 ^ c else 0)).sum

/-- Sends a PAUSE or PFC frame of an Ethernet port (R414). -/
def State.sendPause (s : State) (p quanta : Nat) : State := (s.emit (.pause p (s.rd (F.ETH_PFC_EN p)) quanta)).sat (F.ETH_PAUSE_TX p)

/-- Ethernet ports pause their peers while ETH back-pressure is in force, and release them with zero quanta (R253, R414). -/
def State.ethPause (s : State) : State :=
  (List.range 2).foldl (fun (t : State) p =>
    let want := t.classBp 2 && t.on (F.ETH_CTL_EN p) && t.rd (F.ETH_STAT_LINK p) == 1
    let has := t.chn.pausing.getLsbD p
    let flip := { t with chn := { t.chn with pausing := t.chn.pausing ^^^ BitVec.ofNat 2 (2 ^ p) } }
    if want && !has then flip.sendPause p (t.rd (F.ETH_PAUSE_Q p))
    else if !want && has then (if t.rd (F.ETH_STAT_LINK p) = 1 then flip.sendPause p 0 else flip) else t) s

/-- Brings what follows from FREE up to date: FREE_MIN, the class back-pressures with their interrupts (R227), and a drain that FREE no longer allows (R237). -/
def State.cruSync (s : State) : State :=
  let s1 := if s.cruFree < s.rd F.CRU_FREE_MIN then s.wr F.CRU_FREE_MIN s.cruFree else s
  let b := BitVec.ofNat 5 s.cruBpNext
  let rose := b &&& ~~~s.cru.bp
  let fell := s.cru.bp &&& ~~~b
  let s2 := { s1 with cru := { s1.cru with bp := b } }
  let s3 := (s2.wr F.PLN_BP_STAT_ANY (b.toNat ||| s2.rd F.PLN_BP_STAT_DESC)).ethPause
  let s4 := if rose != 0 then s3.raise Pg.CRU 0 else s3
  let s5 := if fell != 0 then s4.raise Pg.CRU 1 else s4
  if s5.cru.drain.isSome && decide (s5.cruFree < ((List.range 5).map (fun c => s5.rd (F.CRU_BP_TH c))).foldl max 0 + s5.rd F.CRU_BP_HYST) then
    (({ s5 with cru := { s5.cru with drain := none } }).wr F.CRU_DRAIN_STAT_BUSY 0).wr F.CRU_DRAIN_STAT_RESULT 4 |>.raise Pg.CRU 4
  else s5

/-- The first allocatable cell of a bank, trying `fuel` cells from `c` on in steps of 16. DESIGN CHOICE, unsafe: log entry 12. -/
def State.firstFree (s : State) : Nat → Nat → Option Nat
  | 0, _ => none
  | fuel + 1, c => if s.cellFree c then some c else State.firstFree s fuel (c + 16)

/-- Takes one cell, round-robin over the open banks; within a bank the lowest-numbered one (log entry 12). DESIGN CHOICE, unsafe: log entry 12. -/
def State.takeCell (s : State) : Option (Nat × State) :=
  ((List.range 16).map (fun j => (s.cru.rr + j) % 16)).findSome? (fun k =>
    if s.bankOpen k then
      (s.firstFree 4096 k).map (fun c =>
        (c, { s with cru := { s.cru with rr := (k + 1) % 16, links := SMap.set s.cru.links c { st := .writing } } }))
    else none)

/-- Takes cells until a writer has `n`. -/
def State.takeCells (s : State) : Nat → List Nat → Option (List Nat × State)
  | 0, acc => some (acc, s)
  | n + 1, acc =>
    match s.takeCell with
    | some (c, t) => State.takeCells t n (acc ++ [c])
    | none => none

/-! ## Packets -/

/-- The class of a writer: FIELD, CHN, ETH, HOST, MIR, or 5 for internal (R217, R238). -/
def writerClass (w : Nat) : Nat :=
  if w < 64 then 0 else if w < 66 then 1 else if w < 68 then 2 else if w = 68 then 4 else if w < 73 then 3 else 5

/-- SRC of the packet header for a writer (R216). -/
def writerSrc (w : Nat) : Nat :=
  if w < 64 then 0 else if w = 64 then 1 else if w = 65 then 2 else if w = 66 then 3 else if w = 67 then 4
  else if w < 69 then 6 else if w < 73 then 5 else 7

/-- SIDX of the packet header for a writer (R216). -/
def writerSidx (w : Nat) : Nat := if w < 64 then w else if w < 69 then 0 else if w < 73 then w - 69 else w - 73

/-- The consumer type of a queue (R222): 6 and 7 act as 0 (R238). -/
def State.consumer (s : State) (q : Nat) : Nat := if 6 ≤ s.rd (F.CRU_QCFG_CONS q) then 0 else s.rd (F.CRU_QCFG_CONS q)

/-- A queue. -/
def State.queue (s : State) (q : Nat) : CQueue := SMap.getD s.cru.queues q {}

/-- Sets a queue. -/
def State.setQueue (s : State) (q : Nat) (x : CQueue) : State := { s with cru := { s.cru with queues := SMap.set s.cru.queues q x } }

/-- XOFF follows the watermarks (R224). -/
def State.queueXoff (s : State) (q : Nat) : State :=
  let x := s.queue q
  let hi := s.rd (F.CRU_QWM_HIGH q)
  if hi = 0 then s.setQueue q { x with xoff := false }
  else if hi ≤ x.cells then s.setQueue q { x with xoff := true }
  else if x.cells ≤ s.rd (F.CRU_QWM_LOW q) then s.setQueue q { x with xoff := false }
  else s

/-- XOFF of every queue follows the watermarks, once they have been loaded again (R224). -/
def State.queuesXoff (s : State) : State := (s.cru.queues.map (fun e => e.1)).foldl (fun (t : State) q => t.queueXoff q) s

/-- The cells of a packet, from its first cell to EOP. -/
def packetCells (links : SMap Link) : Nat → Nat → List Nat
  | 0, _ => []
  | fuel + 1, c =>
    let l := SMap.getD links c {}
    if l.eop then [c] else c :: packetCells links fuel l.next

/-- The cells of the packet that begins in a cell. -/
def State.pktCells (s : State) (c : Nat) : List Nat := packetCells s.cru.links 256 c

/-- Bytes `i` to `i + n - 1` of the packet that begins in a cell. -/
def State.pktBytes (s : State) (c i n : Nat) : List Byte := poolReadBytes (s.pktCells c) s.cru.pool i n

/-- LEN of the packet that begins in a cell (R216). -/
def State.pktLen (s : State) (c : Nat) : Nat := ofBe (s.pktBytes c 0 2)

/-- The payload of the packet that begins in a cell. -/
def State.pktPayload (s : State) (c : Nat) : List Byte := s.pktBytes c 32 (s.pktLen c)

/-- STAMP of the packet that begins in a cell. -/
def State.pktStamp (s : State) (c : Nat) : Nat := ofBe (s.pktBytes c 4 8)

/-- Is a packet poisoned (R230)? DEDUCED, unsafe: log entry 63. -/
def State.pktPoison (s : State) (c : Nat) : Bool := (s.pktCells c).any (fun x => s.cru.ue.contains x)

/-- Chains cells in order, the last one EOP, all in one state. -/
def chainCells (st : CellState) (used : Nat) : SMap Link → List Nat → SMap Link
  | m, [] => m
  | m, [c] => SMap.set m c { st := st, eop := true, used := used, next := 0xFFFF }
  | m, c :: d :: cs => chainCells st used (SMap.set m c { st := st, next := d }) (d :: cs)

/-- Links a committed packet after a queue's tail (R218). -/
def State.enqueue (s : State) (q : Nat) (cells : List Nat) (used : Nat) : State :=
  let x := s.queue q
  let links := chainCells .queued used s.cru.links cells
  let links' := if x.head = 0xFFFF then links else SMap.modify links x.tail {} (fun l => { l with next := cells.headD 0xFFFF })
  let s1 := { s with cru := { s.cru with links := links' } }
  (s1.setQueue q { x with
    head := if x.head = 0xFFFF then cells.headD 0xFFFF else x.head
    tail := cells.getLastD 0xFFFF
    cells := x.cells + cells.length
    pkts := x.pkts + 1
    qseq := (x.qseq + 1) % 2 ^ 32 }).queueXoff q

/-- The 32 header bytes of a packet (R216). -/
def headerBytes (len src sidx stamp qual flags ncells flow qseq : Nat) (srcInfo : List Byte) : List Byte :=
  be 2 len ++ be 1 src ++ be 1 sidx ++ be 8 stamp ++ be 1 qual ++ be 1 flags ++ be 2 ncells ++ be 4 flow ++ be 4 qseq ++
    (srcInfo ++ be 8 0).take 8

/-- Counts a rewind (R220). -/
def State.countRewind (s : State) : State := s.sat F.CRU_REWIND

/-- Retires a cell for the life of the unit (R231): in the AON map, counted in CRU.RETIRED and in the ledger, with bit RETIRED. -/
def State.retireCell (s : State) (c : Nat) : State :=
  if s.retired.contains c then s
  else ((({ s with retired := s.retired ++ [c], cru := { s.cru with ue := s.cru.ue.filter (fun x => x != c) } }).sat F.CRU_RETIRED).ledgerAdd 22 1).raise Pg.CRU 7

/-- Retires the cells that have held an uncorrectable word again after their re-initialisation (R231). -/
def State.retireAgain (s : State) (cells : List Nat) : State :=
  (cells.filter (fun c => s.cru.ue.contains c && s.cru.reinit.contains c)).foldl (fun (t : State) c => t.retireCell c) s

/-- Gives cells back: to FREE, to quarantine where they have held an uncorrectable word, or to no use where that is so again (R221, R231). -/
def State.freeCells (s0 : State) (cells : List Nat) : State :=
  let s := s0.retireAgain cells
  { s with cru := { s.cru with
      links := cells.foldl (fun m c => if s.cru.ue.contains c then SMap.set m c { quar := true } else SMap.erase m c) s.cru.links
      ue := s.cru.ue.filter (fun c => !cells.contains c) } }

/-- Removes a write context, or a writer that waits for its reservation. -/
def State.dropCtx (s : State) (w : Nat) : State := { s with cru := { s.cru with ctx := SMap.erase s.cru.ctx w, waiting := s.cru.waiting.filter (fun x => x.1 != w) } }

/-- A writer abandons its packet (R220): cells and reservation return, one that waits for its reservation waits no more, and the rewind is counted. -/
def State.rewind (s : State) (w : Nat) : State :=
  match SMap.find? s.cru.ctx w with
  | none => if s.cru.waiting.any (fun x => x.1 == w) then (s.dropCtx w).countRewind else s
  | some c => (((s.freeCells c.cells).dropCtx w).countRewind).cruSync

/-- Does a queue take new packets: enabled and not in FAULT (R225, R226)? -/
def State.queueOpen (s : State) (q : Nat) : Bool := s.on (F.CRU_QCFG_EN q) && !(s.queue q).fault

/-- The queue a writer writes to: a hardware source has one of its own (R222). -/
def writerQueue (w q : Nat) : Nat := if w < 69 then w else q

/-- MAXC of a class as it acts: 1 to 256 (R238). -/
def State.maxC (s : State) (c : Nat) : Nat := s.rdIn (F.CRU_MAXC c) 1 256

/-- The cells a writer of a class reserves at its first word (R217): MAXC, and for an internal writer, which has none and may take the pool to 0 (R229), the 256 cells of the longest packet or what is FREE. DEDUCED, unsafe: log entry 64. -/
def State.resvFor (s : State) (c : Nat) : Nat := if c = 5 then max 1 (min 256 s.cruFree) else s.maxC c

/-- Is a class held back: internal writers never are (R227)? -/
def State.heldBack (s : State) (c : Nat) : Bool := c != 5 && s.classBp c

/-- The first word of a packet (R217, R224, R225, R227, R229): refused by a closed queue, held back by XOFF or class back-pressure, waiting while FREE cannot cover the reservation, else reserved. -/
def State.packetStart (s : State) (w q0 : Nat) : State :=
  let q := writerQueue w q0
  let c := writerClass w
  if (SMap.find? s.cru.ctx w).isSome || (69 ≤ w && q < 72) then s
  else if !s.queueOpen q then (s.dropCtx w).countRewind
  else if (s.queue q).xoff || s.heldBack c || s.cruFree < s.resvFor c then
    { s with cru := { s.cru with waiting := s.cru.waiting.filter (fun x => x.1 != w) ++ [(w, q)] } }
  else ({ s with cru := { s.cru with ctx := SMap.set s.cru.ctx w ⟨q, c, s.resvFor c, []⟩, waiting := s.cru.waiting.filter (fun x => x.1 != w) } }).cruSync

/-- Cells a payload needs, the 32-byte header included (R216). -/
def cellsFor (len : Nat) : Nat := (32 + len + 255) / 256

/-- A packet's last word (R217, R218): the packet is committed in one step, or rewound with OVERSIZE. -/
def State.packetCommit (s : State) (w : Nat) (payload : List Byte) (stamp qual flags flow : Nat) (srcInfo : List Byte) : State :=
  match SMap.find? s.cru.ctx w with
  | none => s
  | some c =>
    let n := cellsFor payload.length
    if 256 < n || c.resv < n then ((s.sat F.CRU_OVERSIZE).raise Pg.CRU 5).rewind w
    else
      match s.takeCells (n - c.cells.length) c.cells with
      | none => s.rewind w
      | some (cells, t) =>
        let hdr := headerBytes payload.length (writerSrc w) (writerSidx w) stamp qual flags n flow (s.queue c.queue).qseq srcInfo
        let t1 := { t with cru := { t.cru with pool := poolWriteBytes cells t.cru.pool 0 (hdr ++ payload) } }
        ((((t1.dropCtx w).enqueue c.queue cells ((32 + payload.length - 1) % 256)).wrap F.CRU_COMMIT_CNT)).cruSync

/-- Takes the head packet of a queue: its cells become HELD (R221). Answers its first cell. -/
def State.popQueue (s : State) (q : Nat) : Option (Nat × State) :=
  let x := s.queue q
  if x.head = 0xFFFF || x.fault then none
  else
    let cells := s.pktCells x.head
    let last := cells.getLastD 0xFFFF
    let nxt := (s.link last).next
    let links := cells.foldl (fun m c => SMap.modify m c {} (fun l => { l with st := .held })) s.cru.links
    let links' := SMap.modify links last {} (fun l => { l with next := 0xFFFF })
    let s1 := { s with cru := { s.cru with links := links' } }
    some (x.head, (s1.setQueue q { x with
      head := nxt, tail := if nxt = 0xFFFF then 0xFFFF else x.tail,
      cells := x.cells - cells.length, pkts := x.pkts - 1 }).queueXoff q)

/-- A consumer releases a packet (R221). -/
def State.releasePacket (s : State) (c : Nat) : State := (s.freeCells (s.pktCells c)).cruSync

/-- Moves a held packet to another queue: same cells and header, a new QSEQ (R221). A queue that takes no packets leaves it where it is. -/
def State.movePacket (s : State) (c q : Nat) : Option State :=
  if !s.queueOpen q then none
  else
    let cells := s.pktCells c
    let used := (s.link (cells.getLastD 0)).used
    let s1 := { s with cru := { s.cru with pool := poolWriteBytes cells s.cru.pool 20 (be 4 (s.queue q).qseq) } }
    some (s1.enqueue q cells used)

/-- Does a register name an output queue (R223)? -/
def queueNamed (q : Nat) : Bool := 80 ≤ q && q ≤ 1023

/-- A block writes an output packet as an internal writer (R223, R229); false where the output is disabled or no packet can be made: one of over 256 cells, or of more than FREE. DEDUCED, unsafe: log entry 64. -/
def State.internalPacket (s : State) (q flow : Nat) (info payload : List Byte) : Bool × State :=
  if !queueNamed q then (false, s)
  else if !s.queueOpen q then (false, s.countRewind)
  else
    let n := cellsFor payload.length
    if 256 < n || s.cruFree < n then (false, s.countRewind)
    else
      match s.takeCells n [] with
      | none => (false, s.countRewind)
      | some (cells, t) =>
        let hdr := headerBytes payload.length 7 0 s.raw s.tim.cur.qual.toNat 0 n flow (s.queue q).qseq info
        let t1 := { t with cru := { t.cru with pool := poolWriteBytes cells t.cru.pool 0 (hdr ++ payload) } }
        (true, ((t1.enqueue q cells ((32 + payload.length - 1) % 256)).wrap F.CRU_COMMIT_CNT).cruSync)

/-- An internal writer's packet for host software (R223), with no flow and no source data. -/
def State.outputPacket (s : State) (q : Nat) (payload : List Byte) : Bool × State := s.internalPacket q 0 [] payload

/-- PACKET_START (R217). -/
def execPacketStart (w : Fin 89) (q : Fin 1024) (s : State) : Host.Outcome State Fault Refusal :=
  s.done (if s.domOn Dom.PKT then s.packetStart w.val q.val else s)

/-- RESERVATION_WAIT_END (R229): a waiting writer is given its reservation when FREE covers it. -/
def execReservationWaitEnd (w : Fin 89) (s : State) : Host.Outcome State Fault Refusal :=
  s.done (match s.cru.waiting.find? (fun x => x.1 == w.val) with
    | some (_, q) => s.packetStart w.val q
    | none => s)

/-- PACKET_REWIND (R220). -/
def execPacketRewind (w : Fin 89) (s : State) : Host.Outcome State Fault Refusal := s.done (s.rewind w.val)

/-- PACKET_RELEASE (R221): a held packet's cells return. -/
def execPacketRelease (cell : BitVec 16) (s : State) : Host.Outcome State Fault Refusal :=
  s.done (if (s.link cell.toNat).st = .held then s.releasePacket cell.toNat else s)

/-! ## Queue commands -/

/-- Releases every packet of a queue, `fuel` at most. -/
def State.flushQueue (s : State) (q : Nat) : Nat → State
  | 0 => s
  | fuel + 1 =>
    match s.popQueue q with
    | some (c, t) => State.flushQueue ((t.releasePacket c).sat F.CRU_FLUSHED) q fuel
    | none => s

/-- The cells of a queue that can be reached from its head before a broken entry. -/
def queueCells (links : SMap Link) : Nat → Nat → List Nat
  | 0, _ => []
  | fuel + 1, c =>
    if c = 0xFFFF then []
    else
      let l := SMap.getD links c {}
      if l.bad then [] else c :: queueCells links fuel l.next

/-- Keeps of a list of cells the whole packets at its front: up to the last EOP. -/
def wholePackets (links : SMap Link) (l : List Nat) : List Nat :=
  (l.reverse.dropWhile (fun c => !(SMap.getD links c {}).eop)).reverse

/-- RECOVER (R226): the packets before the break stay, every unreachable QUEUED cell becomes FREE, and FAULT clears; XOFF follows (R224). -/
def State.recoverQueue (s : State) (q : Nat) : State :=
  let x := s.queue q
  let cells := wholePackets s.cru.links (queueCells s.cru.links 65536 x.head)
  let kept := (cells.filter (fun c => (s.link c).eop)).length
  let x' : CQueue := { x with
    head := cells.headD 0xFFFF, tail := cells.getLastD 0xFFFF, cells := cells.length, pkts := kept, fault := false }
  let s1 := s.setQueue q x'
  let reach := (s1.cru.queues.map (fun e => queueCells s1.cru.links (e.2.cells) e.2.head)).flatten
  let lost := (s1.cru.links.filter (fun e => e.2.st == .queued && !reach.contains e.1)).map (fun e => e.1)
  let s2 := s1.freeCells lost
  let links := if cells.isEmpty then s2.cru.links else SMap.modify s2.cru.links (cells.getLastD 0) {} (fun l => { l with next := 0xFFFF })
  ((({ s2 with cru := { s2.cru with links := links } }).addSat F.CRU_POISON_DROP (x.pkts - kept)).queueXoff q).cruSync

/-- A write of CRU.QCMD (R225, R226). -/
def State.qcmdWrite (s : State) (v : Word) : State :=
  let q := s.rd F.CRU_QSEL
  match bits v 1 0 with
  | 1 => if s.on (F.CRU_QCFG_EN q) then s else s.flushQueue q (s.queue q).pkts
  | 2 => if (s.queue q).fault then s.recoverQueue q else s
  | _ => s

/-- QUEUE_FLUSH (R225). -/
def execQueueFlush (m : Master) (v : Word) (s : State) : Host.Outcome State Fault Refusal :=
  s.done (s.guarded m Pg.CRU 0x320 (fun s => s.qcmdWrite v))

/-- QUEUE_RECOVER (R226). -/
def execQueueRecover (m : Master) (v : Word) (s : State) : Host.Outcome State Fault Refusal :=
  s.done (s.guarded m Pg.CRU 0x320 (fun s => s.qcmdWrite v))

/-! ## Scrubbing -/

/-- Logs an uncorrectable error (R230): kind 0 for a data word, 1 for a link entry. The word in the cell is no operand of SCRUB_PASS: a free value. DESIGN CHOICE, safe: log entry 1. -/
def State.ueLog (s : State) (kind c : Nat) : State :=
  let s1 := (s.errUnc Pg.CRU).raise Pg.CRU 2
  if s1.on F.CRU_UE_LOG_VALID then s1
  else ((((s1.wr F.CRU_UE_LOG_VALID 1).wr F.CRU_UE_LOG_KIND kind).wr F.CRU_UE_LOG_CELL c).wr F.CRU_UE_LOG_WORD (s1.freeVal 32)).tookFree

/-- The first cell of the packet a cell belongs to, walking back. -/
def firstOf (links : SMap Link) : Nat → Nat → Nat
  | 0, c => c
  | fuel + 1, c =>
    match List.find? (fun e : Nat × Link => e.2.next == c && !e.2.eop && e.2.st != .free) links with
    | some (p, _) => firstOf links fuel p
    | none => c

/-- An uncorrectable data word (R230): counted and logged, and the packet's header takes POISON. -/
def State.ueData (s : State) (c : Nat) : State :=
  let s1 := s.ueLog 0 c
  let s2 := { s1 with cru := { s1.cru with ue := c :: s1.cru.ue.filter (fun x => x != c) } }
  if (s.link c).st = .free then s2.retireAgain [c]
  else
    let f := firstOf s2.cru.links 256 c
    { s2 with cru := { s2.cru with pool := poolWrite s2.cru.pool (f * 256 + 13) (poolRead s2.cru.pool (f * 256 + 13) ||| 1#8) } }

/-- An uncorrectable link entry (R226, R230): logged, and the queue that holds it enters FAULT. -/
def State.ueLink (s : State) (c : Nat) : State :=
  let s1 := (s.ueLog 1 c).setLink c { s.link c with bad := true }
  match List.find? (fun e : Nat × CQueue => (queueCells s.cru.links e.2.cells e.2.head).contains c) s1.cru.queues with
  | some (q, x) => (s1.setQueue q { x with fault := true }).raise Pg.CRU 3
  | none => s1

/-- SCRUB_PASS (R230, R232): corrected words count in their bank and in ERR_CORR. -/
def execScrubPass (corrected : List (Fin 16)) (ueData ueLink : List (BitVec 16)) (s : State) : Host.Outcome State Fault Refusal :=
  s.done (if s.on F.CRU_CTL_SCRUB_EN && s.domOn Dom.PKT then
      let s1 := corrected.foldl (fun t k => (t.sat (F.CRU_BANK_CE k.val)).errCorr Pg.CRU) s
      let s2 := ueData.foldl (fun t c => t.ueData c.toNat) s1
      (ueLink.foldl (fun t c => t.ueLink c.toNat) s2).wrap F.CRU_SCRUB_PASSES
    else s)

/-! ## Host contexts and BAR2 -/

/-- Sets the cell words of a context: two cells a word, 0xFFFF unused (R238). -/
def State.hctxCells (s : State) (k : Nat) (cells : List Nat) : State :=
  (List.range 8).foldl (fun t w => t.wr (F.CRU_HCTX_CELL k w) (cells.getD (2 * w) 0xFFFF * 65536 + cells.getD (2 * w + 1) 0xFFFF)) s

/-- A write of HCTX_k.ALLOC (R234). -/
def State.hctxAlloc (s : State) (k n : Nat) : State :=
  let had := match SMap.find? s.cru.ctx (69 + k) with | some c => c.cells | none => []
  if n = 0 || 16 < n || s.classBp 3 || s.rdIn F.CRU_HOST_LIM 0 8191 < had.length + s.rd (F.CRU_HCTX_STAT_HELD k) + n || 256 < had.length + n || s.cruFree < n then
    s.wr (F.CRU_HCTX_STAT_FAIL k) 1
  else
    match s.takeCells n [] with
    | none => s.wr (F.CRU_HCTX_STAT_FAIL k) 1
    | some (new, t) =>
      let cells := had ++ new
      let links := (chainCells .writing 0 t.cru.links cells).map (fun e => if cells.contains e.1 then (e.1, { e.2 with host := true, hctx := k, eop := false }) else e)
      let t1 := { t with cru := { t.cru with links := links, ctx := SMap.set t.cru.ctx (69 + k) ⟨0, 3, cells.length, cells⟩ } }
      (((t1.wr (F.CRU_HCTX_STAT_FAIL k) 0).wr (F.CRU_HCTX_STAT_OPEN k) 1).wr (F.CRU_HCTX_STAT_CELLS k) cells.length).hctxCells k new |>.cruSync

/-- Closes a context's open packet in its registers. -/
def State.hctxClose (s : State) (k : Nat) : State :=
  ((s.wr (F.CRU_HCTX_STAT_OPEN k) 0).wr (F.CRU_HCTX_STAT_CELLS k) 0).hctxCells k []

/-- A write of HCTX_k.COMMIT (R234): the device writes header bytes 0 to 15 and 20 to 23, and commits. A closed queue rewinds the packet (R225). DEDUCED, unsafe: log entry 64. -/
def State.hctxCommit (s : State) (k : Nat) (v : Word) : State :=
  if !bit v 31 then s
  else
    match SMap.find? s.cru.ctx (69 + k) with
    | none => s
    | some c =>
      let q := bits v 25 16
      if !s.queueOpen q || q < 72 then (s.rewind (69 + k)).hctxClose k
      else
        let len := (c.cells.length - 1) * 256 + bits v 7 0 + 1 - 32
        let hdr := headerBytes len 5 k s.raw s.tim.cur.qual.toNat 0 c.cells.length 0 0 []
        let p1 := poolWriteBytes c.cells s.cru.pool 0 (hdr.take 16)
        let p2 := poolWriteBytes c.cells p1 20 (be 4 (s.queue q).qseq)
        let s1 := ({ s with cru := { s.cru with pool := p2 } }).dropCtx (69 + k)
        (((s1.enqueue q c.cells (bits v 7 0)).wrap F.CRU_COMMIT_CNT).hctxClose k).cruSync

/-- HCTX_ALLOC (R234). -/
def execHctxAlloc (m : Master) (k : Fin 4) (v : Word) (s : State) : Host.Outcome State Fault Refusal :=
  s.done (s.guarded m Pg.CRU (0x200 + 0x40 * k.val) (fun s => s.hctxAlloc k.val (bits v 4 0)))

/-- HCTX_COMMIT (R234). -/
def execHctxCommit (m : Master) (k : Fin 4) (v : Word) (s : State) : Host.Outcome State Fault Refusal :=
  s.done (s.guarded m Pg.CRU (0x228 + 0x40 * k.val) (fun s => s.hctxCommit k.val v))

/-- A write of HCTX_k.ABORT (R234). -/
def State.hctxAbort (s : State) (k : Nat) (v : Word) : State := if bit v 0 then (s.rewind (69 + k)).hctxClose k else s

/-- HCTX_ABORT (R234). -/
def execHctxAbort (m : Master) (k : Fin 4) (v : Word) (s : State) : Host.Outcome State Fault Refusal :=
  s.done (s.guarded m Pg.CRU (0x22C + 0x40 * k.val) (fun s => s.hctxAbort k.val v))

/-- A read of HCTX_k.POP_RES (R235): the head packet of POP_Q, whose consumer must be HOST, becomes the context's; its first cell is answered. -/
def State.hctxPop (s : State) (k : Nat) : State :=
  let q := s.rd (F.CRU_HCTX_POP_Q k)
  if s.consumer q != 1 then s.answer 0
  else
    match s.popQueue q with
    | none => s.answer 0
    | some (c, t) =>
      let cells := t.pktCells c
      let links := cells.foldl (fun m x => SMap.modify m x {} (fun l => { l with host := true, hctx := k })) t.cru.links
      (({ t with cru := { t.cru with links := links } }).wr (F.CRU_HCTX_STAT_HELD k) (t.rd (F.CRU_HCTX_STAT_HELD k) + cells.length)).answer
        (BitVec.ofNat 32 (2 ^ 31 + c))

/-- HCTX_POP (R235). -/
def execHctxPop (m : Master) (k : Fin 4) (s : State) : Host.Outcome State Fault Refusal :=
  s.done (s.guardedRead m Pg.CRU (0x234 + 0x40 * k.val) (fun s => s.hctxPop k.val))

/-- A write of HCTX_k.FREE (R235): the packet named, held by this context, is released. -/
def State.hctxFree (s : State) (k : Nat) (v : Word) : State :=
  let c := bits v 15 0
  let l := s.link c
  if bit v 31 && l.st == .held && l.host && l.hctx == k then
    (s.wr (F.CRU_HCTX_STAT_HELD k) (s.rd (F.CRU_HCTX_STAT_HELD k) - (s.pktCells c).length)).releasePacket c
  else s

/-- HCTX_FREE (R235). -/
def execHctxFree (m : Master) (k : Fin 4) (v : Word) (s : State) : Host.Outcome State Fault Refusal :=
  s.done (s.guarded m Pg.CRU (0x238 + 0x40 * k.val) (fun s => s.hctxFree k.val v))

/-- Every cell held by a host context is released (R235). -/
def State.releaseHctx (s : State) : State :=
  let cells := (s.cru.links.filter (fun e => e.2.host && e.2.st == .held)).map (fun e => e.1)
  ((List.range 4).foldl (fun t k => t.wr (F.CRU_HCTX_STAT_HELD k) 0) (s.freeCells cells)).cruSync

/-- A BAR2 access to a cell that is not a host cell (R233): a read answers 0; a write is ignored and counted, and the first one counted is recorded. DEDUCED, unsafe: log entry 65. -/
def State.bar2Refused (s : State) (off : Nat) (write : Bool) : State :=
  if write then (((if s.rd F.CRU_HWIN_ERR = 0 then s.wr F.CRU_HWIN_LOG off else s).sat F.CRU_HWIN_ERR).raise Pg.CRU 6) else s.answer 0

/-- A BAR2 access to a host cell: four bytes of the pool, byte 0 of a cell word first (R213, R233). -/
def State.bar2Host (s : State) (a : Nat) (write : Bool) (v : Word) : State :=
  if write then
    { s with cru := { s.cru with pool := poolWrite (poolWrite (poolWrite (poolWrite s.cru.pool a (v.extractLsb' 0 8)) (a + 1) (v.extractLsb' 8 8)) (a + 2) (v.extractLsb' 16 8)) (a + 3) (v.extractLsb' 24 8) } }
  else s.answer (poolRead s.cru.pool (a + 3) ++ poolRead s.cru.pool (a + 2) ++ poolRead s.cru.pool (a + 1) ++ poolRead s.cru.pool a)

/-- BAR2_ACCESS (R59, R233): one 32-bit word of the pool. Ownership of BAR2 follows the CRU page's OWNER for writes. -/
def execBar2Access (m : Master) (off : BitVec 24) (write : Bool) (v : Word) (s : State) : Host.Outcome State Fault Refusal :=
  s.done (
    let a := off.toNat / 4 * 4
    if s.dead || !s.domOn Dom.PKT then s.answer 0xFFFFFFFF#32
    else if write && !(s.owner Pg.CRU == 1 && m == .smp || s.owner Pg.CRU == 0 && s.isMain m) then s.bar2Refused a true
    else if (s.link (a / 256)).host then s.bar2Host a write v
    else s.bar2Refused a write)

/-! ## Draining a bank -/

/-- The bound a drain may not take FREE below (R237). -/
def State.drainBound (s : State) : Nat := ((List.range 5).map (fun c => s.rd (F.CRU_BP_TH c))).foldl max 0 + s.rd F.CRU_BP_HYST

/-- Ends a drain with a result (R236, R237). -/
def State.drainEnd (s : State) (r : Nat) : State :=
  ((s.wr F.CRU_DRAIN_STAT_BUSY (b2n s.cru.drain.isSome)).wr F.CRU_DRAIN_STAT_RESULT r).raise Pg.CRU 4

/-- DRAIN_CTL.GO (R236, R237). -/
def State.drainGo (s : State) (k : Nat) : State :=
  if s.cru.drain.isSome || s.cru.isolated.isSome || s.cruFree - s.bankFree k < s.drainBound then s.drainEnd 3
  else (({ s with cru := { s.cru with drain := some k } }).wr F.CRU_DRAIN_STAT_BUSY 1).wr F.CRU_DRAIN_STAT_MOVED 0 |>.wr F.CRU_DRAIN_STAT_RESULT 0 |>.cruSync

/-- DRAIN_CTL.RELEASE (R237): the isolated bank's words become zeros, its quarantine clears, and it opens. DEDUCED, unsafe: log entry 121. -/
def State.drainRelease (s : State) : State :=
  match s.cru.isolated with
  | none => s
  | some k =>
    (({ s with cru := { s.cru with
        isolated := none
        reinit := s.cru.reinit ++ (s.cru.links.filter (fun e : Nat × Link => e.1 % 16 == k && e.2.quar && !s.cru.reinit.contains e.1)).map (fun e : Nat × Link => e.1)
        ue := s.cru.ue.filter (fun c => c % 16 != k)
        pool := s.cru.pool.filter (fun e => e.1 / 256 % 16 != k)
        links := s.cru.links.filter (fun e => e.1 % 16 != k) } }).drainEnd 5).cruSync

/-- A write of DRAIN_CTL. -/
def State.drainCtlWrite (s : State) (v : Word) : State :=
  let s1 := if bit v 9 then s.drainRelease else s
  if bit v 8 then s1.drainGo (bits v 3 0) else s1

/-- BANK_DRAIN (R236). -/
def execBankDrain (m : Master) (v : Word) (s : State) : Host.Outcome State Fault Refusal :=
  s.done (s.guarded m Pg.CRU 0x180 (fun s => s.drainCtlWrite v))

/-- BANK_RELEASE (R237). -/
def execBankRelease (m : Master) (v : Word) (s : State) : Host.Outcome State Fault Refusal :=
  s.done (s.guarded m Pg.CRU 0x180 (fun s => s.drainCtlWrite v))

/-- Is a cell the first of a packet that its consumer has taken? -/
def State.heldFirst (s : State) (c : Nat) : Bool := (s.link c).st == .held && !s.cru.links.any (fun e => e.2.next == c && !e.2.eop && e.2.st == .held)

/-- Is a cell pinned (R236): WRITING, a host cell, or the first cell of a packet that a live descriptor or an engine names? A port, a link or a task that has taken a packet names it. -/
def State.cellPinned (s : State) (c : Nat) : Bool :=
  let l := s.link c
  l.st == .writing || l.host || s.heldFirst c || s.pln.descs.any (fun d => d.2.cell == c)

/-- Copies one cell to another: its bytes, its link entry, and every reference to it (R236). A bad word keeps its poison in the copy (R230), and the cell that held it is released as one that has (R231). -/
def State.moveCell (s : State) (c d : Nat) : State :=
  let pool := (List.range 256).foldl (fun m i => poolWrite (poolWrite m (d * 256 + i) (poolRead m (c * 256 + i))) (c * 256 + i) 0) s.cru.pool
  let links := (SMap.set s.cru.links d (s.link c)).map (fun e => if e.2.next == c then (e.1, { e.2 with next := d }) else e)
  let queues := s.cru.queues.map (fun e => (e.1, { e.2 with head := if e.2.head = c then d else e.2.head, tail := if e.2.tail = c then d else e.2.tail }))
  { s with cru := { s.cru with pool := pool, links := links, queues := queues, ue := s.cru.ue ++ (if s.cru.ue.contains c then [d] else []) } }.freeCells [c]

/-- DRAIN_RELOCATE (R236): each remaining cell of the bank that is not pinned is copied to another bank. -/
def execDrainRelocate (s : State) : Host.Outcome State Fault Refusal :=
  s.done (match s.cru.drain with
    | none => s
    | some k =>
      let cells := (s.cru.links.filter (fun e => e.1 % 16 == k && e.2.st != .free)).map (fun e => e.1)
      cells.foldl (fun t c =>
        if t.cellPinned c then t
        else
          match t.takeCell with
          | some (d, u) => (u.moveCell c d).addSat F.CRU_DRAIN_STAT_MOVED 1
          | none => t) s)

/-- Has a bank a live cell? -/
def State.bankLive (s : State) (k : Nat) : Nat := (s.cru.links.filter (fun e => e.1 % 16 == k && e.2.st != .free)).length

/-- DRAIN_EMPTY (R236): a draining bank without live cells becomes ISOLATED. -/
def execDrainEmpty (s : State) : Host.Outcome State Fault Refusal :=
  s.done (match s.cru.drain with
    | some k => if s.bankLive k = 0 then ({ s with cru := { s.cru with drain := none, isolated := some k } }).drainEnd 1 else s
    | none => s)

/-- DRAIN_TIMEOUT (R236): pinned cells remain, and the bank reopens. -/
def execDrainTimeout (s : State) : Host.Outcome State Fault Refusal :=
  s.done (match s.cru.drain with
    | some k => if s.bankLive k = 0 then s else (({ s with cru := { s.cru with drain := none } }).drainEnd 2).cruSync
    | none => s)

end Sys2Proof.Machine
end

