-- ==== Sys2Proof/Machine/Ports.lean ====
section
/-!
DEFINITION. What every field port shares: the sample link, its messages, power credits, the zero-crossing inputs and the GPIO pins (chapter 04, R505 to R507).
-/
namespace Sys2Proof.Machine

/-! ## The state of a port -/

/-- A port beside its registers. -/
def State.port (s : State) (n : Nat) : Port_ := SMap.getD s.ports n {}

/-- Sets a port. -/
def State.setPort (s : State) (n : Nat) (p : Port_) : State := { s with ports := SMap.set s.ports n p }

/-- The domain of a port (R39). -/
def portDom (n : Nat) : Nat := if n < 32 then Dom.FPA else Dom.FPB

/-- The ports kept in OUTAGE: the eight lowest with OUTAGE_KEEP (R107). -/
def State.keptPorts (s : State) : List Nat := ((List.range 64).filter (fun n => s.on (F.FP_CTL_OUTAGE_KEEP n))).take 8

/-- A RELAY without an address, or with a changed one, keeps its field ports off (R402, R403). -/
def State.chainHolds (s : State) : Bool := s.role == 1 && (s.on F.CHN_STAT_NOADDR || s.on F.CHN_STAT_ADDR_CHANGED)

/-- A self-test unit (R528). -/
def State.pstUnit (s : State) (u : Nat) : PstUnit := SMap.getD s.pst.units u {}

/-- Is the modem of a port in its silent window under test (R529)? -/
def State.modemTested (s : State) (n : Nat) : Bool := s.pst.slice == some { unit := 43 + n, silent := true }

/-- May a port run: its modem in service (R531), enabled, a personality that exists, its domain on, kept while in OUTAGE, and no rule that holds the unit's ports off (R3, R103, R107, R402, R403, R448, R503)? -/
def State.portRuns (s : State) (n : Nat) : Bool :=
  s.on (F.FP_CTL_EN n) && s.rd (F.FP_CTL_PERS n) != 3 && s.domOn (portDom n) && !s.dead && !s.pwr.portsOff && !s.chainHolds &&
    !s.on F.CFG_CSTAT_ROLE_MISMATCH && !(s.pstUnit (43 + n)).held && (s.mode != Md.OUTAGE || s.keptPorts.contains n)

/-- Is a port's link UP (R114)? -/
def State.linkUp (s : State) (n : Nat) : Bool := s.rd (F.FP_FSL_STAT_STATE n) == 2

/-! ## Channel plans (needed to tell what an AFE covers) -/

/-- The built-in plans of R172: first channel in Hz, spacing in Hz, channel count; by PHY code, for EU868 and US915. -/
def builtinPlan (us : Bool) (phy : Nat) : Nat × Nat × Nat :=
  match us, phy with
  | false, 0 => (863125000, 200000, 34)
  | false, 3 => (863325000, 600000, 11)
  | false, 4 => (863625000, 1200000, 5)
  | false, 5 => (863425000, 800000, 8)
  | false, _ => (863225000, 400000, 17)
  | true, 0 => (902200000, 200000, 129)
  | true, 3 => (902600000, 600000, 42)
  | true, 4 => (902800000, 1200000, 20)
  | true, 5 => (902400000, 800000, 31)
  | true, _ => (902400000, 400000, 64)

/-- PHY code as it acts: 6 and 7 act as 1 (R169). -/
def phyActs (p : Nat) : Nat := if 6 ≤ p then 1 else p

/-- Does a centre frequency lie in 863-870 MHz, or in 902-928 MHz? -/
def inEuBand (f : Nat) : Bool := 863000000 ≤ f && f ≤ 870000000
def inUsBand (f : Nat) : Bool := 902000000 ≤ f && f ≤ 928000000

/-- The CUSTOM plan that the fields of a port give (R172). -/
def State.customPlan (s : State) (n : Nat) : Nat × Nat × Nat :=
  (s.rd (F.FY_SUN_C_FIRST n), s.rd (F.FY_SUN_C_SPACING n), max 1 (s.rd (F.FY_SUN_C_N n)))

/-- Every channel of a plan lies in a band (R172). -/
def planLawful (p : Nat × Nat × Nat) : Bool :=
  p.2.2 ≤ 129 && (List.range p.2.2).all (fun i => inEuBand (p.1 + i * p.2.1) || inUsBand (p.1 + i * p.2.1))

/-- The profile that acts: 3 acts as 0, and an unlawful CUSTOM plan acts as EU868 (R172, R189). -/
def State.profileActs (s : State) (n : Nat) (profile : Nat) : Nat :=
  if profile = 1 then 1 else if profile = 2 && planLawful (s.customPlan n) then 2 else 0

/-- The plan that acts on a port: the one latched at the rise of EN (R172). -/
def State.plan (s : State) (n : Nat) : Nat × Nat × Nat :=
  let u := (s.port n).sun
  if u.profile = 2 then u.custom else builtinPlan (u.profile == 1) u.phy

/-- Does an AFE's band mask cover a plan (R171)? -/
def planCovered (p : Nat × Nat × Nat) (mask : Nat) : Bool :=
  let fs := (List.range p.2.2).map (fun i => p.1 + i * p.2.1)
  (!fs.any inEuBand || mask.testBit 0) && (!fs.any inUsBand || mask.testBit 1)

/-! ## Link bring-up -/

/-- Does the personality not fit the AFE (R103, R135, R171)? -/
def State.mismatch (s : State) (n : Nat) : Bool :=
  let p := s.port n
  let cls := s.rd (F.FP_FSL_STAT_AFE_CLASS n)
  let mask := s.rd (F.FP_AFE_INFO_BANDS n)
  if p.pers = 2 then cls != 2 || !planCovered (s.plan n) mask else cls != 1 || !mask.testBit p.band

/-- The coupling in effect: the mode latched at the rise of EN, where one that the AFE does not support acts as SINGLE (R155). -/
def State.coupling (s : State) (n : Nat) : Nat :=
  let mask := s.rd (F.FP_AFE_INFO_BANDS n)
  match (s.port n).couple with
  | 1 => if mask.testBit 8 then 1 else 0
  | 2 => if mask.testBit 9 then 2 else 0
  | _ => 0

/-- COUPLE.PHASE as it acts: 3 acts as 0 (R167). -/
def State.phase (s : State) (n : Nat) : Nat := if s.rd (F.FY_COUPLE_PHASE n) = 3 then 0 else s.rd (F.FY_COUPLE_PHASE n)

/-- LAT_EFF (R132, R136): LAT_COMP, or with LAT_COMP = 0xFFFF the INFO residue plus 96 ns; before the first INFO its reset value. -/
def State.latEff (s : State) (n : Nat) : Nat := if s.rd (F.FP_LAT_COMP n) = 0xFFFF then s.rd (F.FP_LAT_EFF n) else s.rd (F.FP_LAT_COMP n)

/-- What INFO says goes into the registers (R114, R115, R132). -/
def State.loadInfo (s : State) (n : Nat) : State :=
  match (s.port n).info with
  | none => s
  | some w =>
    let p := w.toNat
    let residue := p / 2 ^ 32 % 65536
    let s1 := ((((s.wr (F.FP_FSL_STAT_AFE_CLASS n) (p / 2 ^ 56)).wr (F.FP_FSL_STAT_AFE_IFVER n) (p / 2 ^ 48)).wr (F.FP_AFE_INFO_MAX_DRAW n) (p / 2 ^ 16)).wr (F.FP_AFE_INFO_BANDS n) p)
    let s2 := s1.wr (F.FP_LAT_EFF n) (residue + 96)
    (s2.wr (F.FP_FSL_STAT_AFE_MISMATCH n) (if s2.mismatch n then 1 else 0)).wr (F.FY_COUPLE_EFF n) (s2.coupling n)

/-- A message waits for the port's next free slot (R115): a slot carries at most one. -/
def State.fslSend (s : State) (n type payload : Nat) : State :=
  s.setPort n { s.port n with msgs := (s.port n).msgs ++ [(type, payload)] }

/-- The slot that will carry the message queued next: the present one has begun. -/
def State.nextMsgSlot (s : State) (n : Nat) : Nat := (s.port n).slot + 1 + (s.port n).msgs.length

/-- The raw count at which transmit slot `k` begins (R112, R136): a slot takes 15,625/6 ticks. -/
def State.slotCount (s : State) (n k : Nat) : Nat := (s.port n).slotRaw + (k - (s.port n).slot) * 15625 / 6

/-- Alignment begins (R114, R115): the AFE is asked for INFO. DEDUCED, unsafe: log entry 130. -/
def State.askInfo (s : State) (n : Nat) : State := s.fslSend n 0x07 0

/-- The CONFIG message of a port (R115): centre frequency, coupling or antenna, receive gain and attenuation. Under automatic gain control the gain is a free value. DESIGN CHOICE, safe: log entry 46. -/
def State.sendConfig (s : State) (n phase freq : Nat) : State :=
  let sun := (s.port n).pers == 2
  let agc := if sun then s.on (F.FY_SUN_AGC n) else s.on (F.FY_RX_GAIN_AGC n)
  let gain := if agc then s.freeVal 256 else if sun then s.rd (F.FY_SUN_RX_GAIN n) else s.rd (F.FY_RX_GAIN_FIXED n)
  let att := if sun then s.rd (F.FY_SUN_TX_ATT n) else s.rd (F.FY_TX_ATT n)
  let cpl := if sun then s.rd (F.FY_SUN_ANT n) else phase
  let t := s.fslSend n 0x02 (freq * 2 ^ 32 + cpl * 2 ^ 24 + gain * 2 ^ 16 + att * 2 ^ 8)
  if agc then t.tookFree else t

/-- The coupling field of CONFIG at rest: three-phase under ALL, else PHASE (R155). -/
def State.restCoupling (s : State) (n : Nat) : Nat := if s.coupling n = 1 then 3 else s.phase n

/-- A scanning member listens on the beacon channel of its rotation (R186): TUNE names the next slot that the AFE can follow (R117). -/
def State.tuneScan (s : State) (n : Nat) : State :=
  let u := (s.port n).sun
  s.fslSend n 0x05 ((s.nextMsgSlot n + 3) % 2 ^ 32 * 2 ^ 32 + (s.plan n).1 + u.bcnCh / 256 ^ u.dwellCh % 256 * (s.plan n).2.1)

/-- Is a member scanning: SCAN or RESYNC (R186)? -/
def State.scanning (s : State) (n : Nat) : Bool := (s.port n).sun.member && (s.rd (F.FM_SUN_MSTATE n) == 1 || s.rd (F.FM_SUN_MSTATE n) == 4)

/-- A link reaches UP (R112, R114): INFO loads, SYNC and CONFIG are sent, a scanning member tunes, and bit LINK_UP is set. -/
def State.linkComesUp (s : State) (n : Nat) : State :=
  let s1 := (s.wr (F.FP_FSL_STAT_STATE n) 2).loadInfo n
  let s2 := s1.fslSend n 0x01 0
  let s3 := s2.sendConfig n (s2.restCoupling n) (if (s2.port n).pers = 2 then (s2.plan n).1 else 0)
  (if (s3.port n).pers = 2 && s3.scanning n then s3.tuneScan n else s3).raise (Pg.FP n) 0

/-- A reception in progress is abandoned: its packet is rewound (R105, R114). -/
def State.abandonRx (s : State) (n : Nat) : State :=
  (s.setPort n { s.port n with rxStamp := none, hdr := none }).rewind n

/-- A credit request that waits is withdrawn (R122): counted in ARB.WITHDRAWN. -/
def State.dropReq (s : State) (n : Nat) : State :=
  if s.credits.any (fun r => r.port == n) then
    let s1 := { s with credits := s.credits.filter (fun r => r.port != n) }
    (s1.wr F.ARB_WAITING s1.credits.length).sat F.ARB_WITHDRAWN
  else s

/-- A credit request that waits is withdrawn while the port's domain stays powered: FPn.CRED_DEFER counts it too (R122). -/
def State.withdrawReq (s : State) (n : Nat) : State :=
  if s.credits.any (fun r => r.port == n) then ((s.dropReq n).sat (F.FP_CRED_DEFER n)).raise (Pg.FP n) 3 else s

/-- What a port takes on at the rise of EN (R104, R133, R155, R172, R190). -/
def State.latchPort (s : State) (n : Nat) : State :=
  let p := s.port n
  let prof := s.profileActs n (s.rd (F.FY_SUN_PROFILE n))
  let u : Sun := { p.sun with
    profile := prof, phy := phyActs (s.rd (F.FY_SUN_PHY n)), mcs := s.rd (F.FY_SUN_MCS n), fec := s.on (F.FY_SUN_FEC n), preamble := s.rdIn (F.FY_SUN_PREAMBLE n) 4 64
    custom := s.customPlan n
    limits := { burst := s.rd (F.FY_SUN_C_BURST_MAX n) * 1000, dwell := s.rd (F.FY_SUN_C_DWELL_MAX n) * 1000, window := s.rd (F.FY_SUN_C_DWELL_WIN n), duty := s.rd (F.FY_SUN_C_DUTY n)
                minCh := s.rd (F.FY_SUN_C_MIN_CH n), lbt := s.rd (F.FY_SUN_C_LBT_MIN n), exempt := s.on (F.FY_SUN_C_CONT_EXEMPT n) }
    es := s.rdIn (F.FM_SUN_ES n) 5000 60000
    ciExp := s.rdIn (F.FM_SUN_CI_EXP n) 6 16, hop := s.rd (F.FM_SUN_HOP n), seed := s.rd (F.FM_SUN_SEED n)
    nb := s.rd (F.FM_SUN_BCN_NUM n) + 1, bcnCh := s.rd (F.FM_SUN_BCN_CHk n), netId := s.rd (F.FM_SUN_NET_ID n)
    member := s.on (F.FM_SUN_ROLE n), pend := none, tx := none, lbt := none, tuned := none, dwellCh := 0, sharedLeft := 0, noReqUntil := 0, evt := false, busySent := false }
  s.setPort n { p with
    pers := s.rd (F.FP_CTL_PERS n), band := s.rd (F.FY_BAND_SEL n), couple := s.rd (F.FY_COUPLE_MODE n), good := 0, bad := 0, info := none
    msgs := [], ending := none, slotRaw := s.raw, srcSeen := false, srcMiss := 0, srcLost := false, rxStamp := none, hdr := none, hcsBad := false, tx := none, mac := [], routeHeld := [], beaconDue := false, sun := u }

/-- The hop increment in effect (R176): HOP where it lies in 1 to N - 1 and is coprime with N, else the smallest coprime value from max(HOP mod N, 1) on. -/
def hopEff (hop n : Nat) : Nat :=
  if 1 ≤ hop && hop < n && Nat.gcd hop n == 1 then hop
  else (((List.range (n + 2)).map (fun i => i + max (hop % n) 1)).find? (fun h => Nat.gcd h n == 1)).getD 1

/-- The channel map a port starts with: the CHMAP fields, bits beyond N cleared (R190); no change is pending. -/
def State.startMap (s : State) (n : Nat) : State :=
  let nch := (s.plan n).2.2
  let s1 := (List.range 5).foldl (fun t w =>
    t.wr (F.FM_SUN_CHMAP_EFF n w) ((s.rd (F.FM_SUN_CHMAP n w)) % 2 ^ (min 32 (nch - 32 * w)))) s
  ((s1.wr (F.FM_SUN_HOP_EFF n) (hopEff (s.port n).sun.hop nch)).wr (F.FY_SUN_N_EFF n) nch).wr (F.FM_SUN_MAP_PEND n) 0

/-- A port begins link bring-up (R105, R114); a radio port's grid origin is chosen at the first rise of EN after a counter restart (R175). -/
def State.portStart (s : State) (n : Nat) : State :=
  let s1 := ((s.latchPort n).wr (F.FP_FSL_STAT_STATE n) 1).askInfo n
  if s.rd (F.FP_CTL_PERS n) = 2 then
    let s2 := s1.startMap n
    let s3 := if (SMap.find? s2.sunGrid n).isSome then s2 else { s2 with sunGrid := SMap.set s2.sunGrid n s2.raw }
    s3.wr (F.FM_SUN_MSTATE n) (if (s3.port n).sun.member then 1 else 0)
  else s1

/-- Releases the credit of a burst (R124). -/
def State.releaseBurst (s : State) (n tag : Nat) : State :=
  let p := s.port n
  match p.bursts.find? (fun b => b.tag == tag) with
  | none => s
  | some b =>
    let s1 := s.setPort n { p with bursts := p.bursts.filter (fun x => x.tag != tag) }
    (s1.wr F.ARB_TX_USED (s1.rd F.ARB_TX_USED - b.fromTx)).wr F.ARB_ACK_USED (s1.rd F.ARB_ACK_USED - b.fromRsv)

/-- A credit that a port holds for a burst not yet sent is given back. -/
def State.dropCredit (s : State) (n : Nat) : State :=
  ((s.port n).bursts.filter (fun b => !b.sent)).foldl (fun t b => t.releaseBurst n b.tag) s

/-- The frames that a port was sending are given up: their packets are released and the sources told. DEDUCED, unsafe: log entry 38. -/
def State.dropTx (s : State) (n : Nat) : State :=
  let p := s.port n
  let cells := ((p.tx.toList ++ p.routeHeld).filterMap (fun x => x.cell)) ++ p.sun.tx.toList.map (fun x => x.cell)
  cells.foldl (fun (t : State) c => (t.releasePacket c).emit (.txFailed n)) (s.setPort n { p with tx := none, mac := [], routeHeld := [], beaconDue := false, sun := { p.sun with tx := none, lbt := none } })

/-- A frame of the port's own waits for the medium (R143, R160, R194). -/
def State.macQueue (s : State) (n : Nat) (x : NplTx) : State := s.setPort n { s.port n with mac := (s.port n).mac ++ [x] }

/-- A port stops in good order (R105): reception abandoned, waiting request withdrawn, link DOWN, member MAC IDLE. A burst in progress goes on to its declared length, and slots for 1 ms more (`State.slotEnd`). Its neighbours stay. DEDUCED, unsafe: log entry 38. -/
def State.portStop (s : State) (n : Nat) : State :=
  let s1 := (((s.abandonRx n).withdrawReq n).dropCredit n).dropTx n
  ((s1.setPort n { s1.port n with ending := some 96 }).wr (F.FP_FSL_STAT_STATE n) 0).wr (F.FM_SUN_MSTATE n) 0

/-- A port that may run and does not begins its bring-up; one that runs and may not stops (R105, R107). -/
def State.portFollow (s : State) (n : Nat) : State :=
  let up := s.rd (F.FP_FSL_STAT_STATE n) != 0
  if s.portRuns n && !up then s.portStart n else if !s.portRuns n && up then s.portStop n else s

/-- Every port follows the rules that hold it on or off (R105, R107). DEDUCED, unsafe: log entry 38. -/
def State.portsFollow (s : State) : State := (List.range 64).foldl (fun (t : State) n => t.portFollow n) s

/-- The bursts of a port are lost with its link (R124): their credits wait for 200 µs. -/
def State.loseBursts (s : State) (n : Nat) : State :=
  s.setPort n { s.port n with bursts := (s.port n).bursts.map (fun b : Burst => { b with lost := true }) }

/-- A link goes DOWN (R114): the modem stops, the reception is abandoned, the request withdrawn; while the port runs it goes to ALIGN at once. -/
def State.linkDown (s : State) (n : Nat) : State :=
  let s1 := ((((s.abandonRx n).withdrawReq n).loseBursts n).sat (F.FP_FSL_DOWN_CNT n)).raise (Pg.FP n) 1
  ((s1.setPort n { s1.port n with good := 0, bad := 0, info := none, msgs := [] }).wr (F.FP_FSL_STAT_STATE n) (if s.portRuns n then 1 else 0)).askInfo n

/-- A write of FPn.CTL (R103 to R105, R107): PERS changes only where EN is 0 before or after; EN starts and stops the port, and in OUTAGE a change of OUTAGE_KEEP the ports whose standing it changes. -/
def State.portCtlWrite (s : State) (n : Nat) (v : Word) : State :=
  let was := s.on (F.FP_CTL_EN n)
  let now := bit v 0
  let pers := bits v 5 4
  let refused := was && now && pers != s.rd (F.FP_CTL_PERS n)
  let s1 := (((s.wr (F.FP_CTL_EN n) (bits v 0 0)).wr (F.FP_CTL_OUTAGE_KEEP n) (bits v 8 8)).wr (F.FP_CTL_TX_INHIBIT n) (bits v 9 9))
  let s2 := if refused then s1.raise (Pg.FP n) 6 else s1.wr (F.FP_CTL_PERS n) pers
  if s2.mode = Md.OUTAGE then s2.portsFollow else s2.portFollow n

/-- PORT_ENABLE (R105). -/
def execPortEnable (m : Master) (n : Port) (v : Word) (s : State) : Host.Outcome State Fault Refusal :=
  s.done (s.guarded m (Pg.FP n.val) 0x40 (fun s => s.portCtlWrite n.val v))

/-- PORT_DISABLE (R105). -/
def execPortDisable (m : Master) (n : Port) (v : Word) (s : State) : Host.Outcome State Fault Refusal :=
  s.done (s.guarded m (Pg.FP n.val) 0x40 (fun s => s.portCtlWrite n.val v))

/-! ## Power credits -/

/-- The transmit budget in force (R506). -/
def State.txBudget (s : State) : Nat := if s.mode = Md.OUTAGE then s.rd F.ARB_TX_BUDGET_OUT else s.rd F.ARB_TX_BUDGET

/-- The credit of a burst of a port, in mW (R121). -/
def State.draw (s : State) (n : Nat) : Nat :=
  if s.rd (F.FP_TX_DRAW n) = 0xFFFF then s.rd (F.FP_AFE_INFO_MAX_DRAW n) else s.rd (F.FP_TX_DRAW n)

/-- May a port transmit: UP, not inhibited, personality and AFE matching, the AFE following this unit, and outputs issued by it (R103, R120, R125, R430)? -/
def State.mayTransmit (s : State) (n : Nat) : Bool :=
  s.linkUp n && !s.on (F.FP_CTL_TX_INHIBIT n) && !s.on (F.FP_FSL_STAT_AFE_MISMATCH n) && !(s.port n).srcLost && (!s.partnered || s.pair.issuing)

/-- The attenuation a port names in TX_ON. -/
def State.txAtt (s : State) (n : Nat) : Nat := if (s.port n).pers = 2 then s.rd (F.FY_SUN_TX_ATT n) else s.rd (F.FY_TX_ATT n)

/-- A port holds a new credit (R121): its tag is the next one. -/
def State.holdCredit (s : State) (n len att : Nat) (isAck : Bool) (fromTx fromRsv : Nat) : State :=
  let p := s.port n
  let tag := (p.tag + 1) % 256
  let b : Burst := { tag := tag, first := 0, len := len, att := att, isAck := isAck, sent := false, fromTx := fromTx, fromRsv := fromRsv }
  s.setPort n { p with tag := tag, bursts := p.bursts ++ [b] }

/-- The first slot that a TX_ON queued now can name: three slots after the one that carries it (R117). -/
def State.firstSlot (s : State) (n : Nat) : Nat := (s.nextMsgSlot n + 3) % 2 ^ 32

/-- The raw count at which a burst whose TX_ON is queued now begins (R136). -/
def State.burstCount (s : State) (n : Nat) : Nat := s.slotCount n (s.nextMsgSlot n + 3)

/-- Sends TX_ON for a burst of a port (R115, R117, R121). -/
def State.sendTxOn (s : State) (n tag : Nat) : State :=
  let p := s.port n
  match p.bursts.find? (fun b => b.tag == tag && !b.sent) with
  | none => s
  | some b =>
    let first := s.firstSlot n
    let s1 := s.setPort n { p with bursts := p.bursts.map (fun x => if x.tag = tag then { x with sent := true, first := first } else x) }
    (s1.fslSend n 0x03 (first * 2 ^ 32 + b.len * 2 ^ 16 + b.att * 2 ^ 8 + b.tag)).wrap (F.FP_TX_BURSTS n)

/-- The tag of the burst whose credit a port holds and has not used; an acknowledgement's is none such. -/
def State.heldTag (s : State) (n : Nat) : Option Nat := ((s.port n).bursts.find? (fun b => !b.sent && !b.lost && !b.isAck)).map (fun b => b.tag)

/-- Uses the credit that a port holds for a burst of `len` slots (R121): TX_ON goes out. -/
def State.sendBurst (s : State) (n len : Nat) : State :=
  match s.heldTag n with
  | none => s
  | some tag =>
    (s.setPort n { s.port n with bursts := (s.port n).bursts.map (fun b : Burst => if b.tag = tag then { b with len := len, att := s.txAtt n } else b) }).sendTxOn n tag

/-- Adds to the transmit credits held, TX_PEAK following (R506, R524). -/
def State.txUsedAdd (s : State) (mw : Nat) : State :=
  let s1 := s.wr F.ARB_TX_USED (s.rd F.ARB_TX_USED + mw)
  if s1.rd F.ARB_TX_PEAK < s1.rd F.ARB_TX_USED then s1.wr F.ARB_TX_PEAK (s1.rd F.ARB_TX_USED) else s1

/-- A burst request joins the waiting ones (R121, R506). A port that may not transmit requests nothing. -/
def State.creditRequest (s : State) (n len att : Nat) (atOnce : Bool) : State :=
  if !s.mayTransmit n || s.credits.any (fun r => r.port == n) then s
  else
    let r : CreditReq := { port := n, draw := s.draw n, len := len, att := att, atOnce := atOnce, starved := false }
    let s1 := { s with credits := s.credits ++ [r] }
    s1.wr F.ARB_WAITING s1.credits.length

/-- The waiting requests up to and including the first that has starved: only they may be granted (R506). -/
def grantable : List CreditReq → List CreditReq
  | [] => []
  | r :: rs => if r.starved then [r] else r :: grantable rs

/-- Examines the waiting request of a port (R506): it is granted when its draw fits what remains of the budget and no earlier request has starved. A port that may not transmit is granted none (R103, R125). -/
def State.creditGrant (s : State) (n : Nat) : State :=
  match (grantable s.credits).find? (fun r => r.port == n) with
  | none => s
  | some r =>
    if s.modemTested n || !s.mayTransmit n then s
    else if s.rd F.ARB_TX_USED + r.draw ≤ s.txBudget then
      let s1 := { s with credits := s.credits.filter (fun x => x.port != n) }
      let s2 := (((s1.wr F.ARB_WAITING s1.credits.length).txUsedAdd r.draw).wrap F.ARB_GRANTS).holdCredit n r.len r.att false r.draw 0
      if r.atOnce then s2.sendTxOn n (s2.port n).tag else s2
    else s

/-- An acknowledgement's credit (R507): from the reserve, else from the transmit budget, else refused and counted. Answers whether it is held. -/
def State.ackHold (s : State) (n len : Nat) : Bool × State :=
  if !s.mayTransmit n || s.modemTested n then (false, s)
  else
    let d := s.draw n
    if s.rd F.ARB_ACK_USED + d ≤ s.rd F.ARB_ACK_RSV then
      (true, ((s.wr F.ARB_ACK_USED (s.rd F.ARB_ACK_USED + d)).wrap F.ARB_GRANTS).holdCredit n len (s.txAtt n) true 0 d)
    else if s.rd F.ARB_TX_USED + d ≤ s.txBudget then
      (true, ((s.txUsedAdd d).wrap F.ARB_GRANTS).holdCredit n len (s.txAtt n) true d 0)
    else (false, (s.sat F.ARB_ACK_DENY).raise Pg.ARB 0)

/-- An acknowledgement's credit, with its TX_ON (R507). -/
def State.ackCredit (s : State) (n len : Nat) : Bool × State :=
  match s.ackHold n len with
  | (true, t) => (true, t.sendTxOn n (t.port n).tag)
  | r => r

/-- CREDIT_REQUEST (R121). -/
def execCreditRequest (n : Port) (len : BitVec 16) (s : State) : Host.Outcome State Fault Refusal :=
  s.done (s.creditRequest n.val len.toNat (s.txAtt n.val) true)

/-- ACK_CREDIT_REQUEST (R507). -/
def execAckCreditRequest (n : Port) (len : BitVec 16) (s : State) : Host.Outcome State Fault Refusal :=
  s.done (s.ackCredit n.val len.toNat).2

/-- CREDIT_STARVE (R506): a request that has waited ARB.STARVE blocks later ones. -/
def execCreditStarve (n : Port) (s : State) : Host.Outcome State Fault Refusal :=
  s.done (if s.credits.any (fun r => r.port == n.val && !r.starved) then
      ({ s with credits := s.credits.map (fun r : CreditReq => if r.port = n.val then { r with starved := true } else r) }).raise Pg.ARB 1
    else s)

/-- TX_END_TIMEOUT (R124): TX_OFF is sent, and the credit is kept. -/
def execTxEndTimeout (n : Port) (s : State) : Host.Outcome State Fault Refusal :=
  s.done (((s.port n.val).bursts.filter (fun b => b.sent && !b.lost)).foldl (fun t b => t.fslSend n.val 0x04 b.tag) s)

/-- CREDIT_RELEASE_DOWN (R124): 200 µs after DOWN, or after the domain went, the credits of the bursts lost then are released. -/
def execCreditReleaseDown (n : Port) (s : State) : Host.Outcome State Fault Refusal :=
  s.done (((s.port n.val).bursts.filter (fun b => b.lost)).foldl (fun t b => t.releaseBurst n.val b.tag) s)

/-! ## Messages of the AFE -/

/-- INFO (R114, R115): kept, and in UP loaded at once. -/
def State.afeInfo (s : State) (n : Nat) (p : BitVec 64) : State :=
  let s1 := s.setPort n { s.port n with info := some p }
  if s1.linkUp n then s1.loadInfo n else s1

/-- STATUS (R115, R116). -/
def State.afeStatus (s : State) (n : Nat) (p : BitVec 64) : State :=
  let s1 := ((s.wr (F.FP_AFE_STAT_TEMP n) (p.toNat / 2 ^ 56)).wr (F.FP_AFE_STAT_SUPPLY n) (p.toNat / 2 ^ 48)).wr (F.FP_AFE_STAT_TX_CURR n) (p.toNat / 2 ^ 32)
  if p.toNat % 256 != 0 then s1.raise (Pg.FP n) 4 else s1

/-- A switched port turns back to its own phase (R155). DEDUCED, unsafe: log entry 45. -/
def State.restorePhase (s : State) (n : Nat) : State :=
  if (s.port n).pers < 2 && s.coupling n = 2 then s.sendConfig n (s.phase n) 0 else s

/-- TX_END (R123, R124): the credit its tag names is released; ILIM is counted. A switched port turns back to its own phase, unless the burst's acknowledgement is awaited (R155). DEDUCED, unsafe: log entry 45. -/
def State.afeTxEnd (s : State) (n : Nat) (p : BitVec 64) : State :=
  let tag := p.toNat % 256
  if (s.port n).bursts.any (fun b => b.tag == tag) then
    let s1 := if p.getLsbD 16 then (s.sat (F.FP_ILIM_CNT n)).raise (Pg.FP n) 2 else s
    let s2 := s1.releaseBurst n tag
    let waits := match (s2.port n).tx with | some x => x.waitAck | none => false
    if waits then s2 else s2.restorePhase n
  else s

/-- CMD_ACK (R115, R117): a LATE answer is counted. -/
def State.afeCmdAck (s : State) (n : Nat) (p : BitVec 64) : State :=
  if p.toNat / 2 ^ 48 % 256 = 1 then s.sat (F.FP_LATE_CMD n) else s

/-- AUX_RESULT (R115): the converter result leaves the port for the task that asked for it. -/
def State.afeAux (s : State) (n : Nat) (p : BitVec 64) : State := s.emit (.auxResult n p.toNat)

/-- A message of the AFE, by type (R115). -/
def State.afeMessage (s : State) (n type : Nat) (p : BitVec 64) : State :=
  match type with
  | 0x81 => s.afeInfo n p
  | 0x82 => s.afeStatus n p
  | 0x83 => s.afeTxEnd n p
  | 0x84 => s.afeAux n p
  | 0x85 => s.afeCmdAck n p
  | _ => s

/-- A message reaches a port only while its link is not DOWN. -/
def State.afeHeard (s : State) (n : Nat) : Bool := s.rd (F.FP_FSL_STAT_STATE n) != 0

/-- INFO (R115). -/
def execInfo (n : Port) (p : BitVec 64) (s : State) : Host.Outcome State Fault Refusal :=
  s.done (if s.afeHeard n.val then s.afeInfo n.val p else s)

/-- STATUS (R116). -/
def execStatus (n : Port) (p : BitVec 64) (s : State) : Host.Outcome State Fault Refusal :=
  s.done (if s.afeHeard n.val then s.afeStatus n.val p else s)

/-- TX_END (R124). -/
def execTxEnd (n : Port) (p : BitVec 64) (s : State) : Host.Outcome State Fault Refusal := s.done (s.afeTxEnd n.val p)

/-- AUX_RESULT (R115). -/
def execAuxResult (n : Port) (p : BitVec 64) (s : State) : Host.Outcome State Fault Refusal :=
  s.done (if s.afeHeard n.val then s.afeAux n.val p else s)

/-- CMD_ACK (R117). -/
def execCmdAck (n : Port) (p : BitVec 64) (s : State) : Host.Outcome State Fault Refusal :=
  s.done (if s.afeHeard n.val then s.afeCmdAck n.val p else s)

/-! ## Slots -/

/-- CRC-16 with polynomial 0x1021 over one byte (R113). -/
def crc16Bit (c : Nat) : Nat := if 32768 ≤ c then (c * 2 % 65536) ^^^ 0x1021 else c * 2 % 65536
def crc16Byte (c : Nat) (b : Byte) : Nat :=
  crc16Bit (crc16Bit (crc16Bit (crc16Bit (crc16Bit (crc16Bit (crc16Bit (crc16Bit (c ^^^ (b.toNat * 256)))))))))

/-- CRC-16 of R113: initial value 0xFFFF, no reflection, no final XOR. -/
def crc16 (l : List Byte) : Nat := l.foldl crc16Byte 0xFFFF

/-- Is a slot good: comma in place, no code violation, 63 characters, and the CRC over characters 1 to 61 (R113)? -/
def slotGood (commaOk codeOk : Bool) (chars : List Byte) : Bool :=
  commaOk && codeOk && chars.length == 63 && crc16 (chars.take 61) == ofBe (chars.drop 61)

/-- Is this unit the winner a port announces: always where it has no partner (R118, R429)? -/
def State.winning (s : State) : Bool := !s.partnered || s.on F.CLM_WIN_STAT_WIN

/-- The claim field of a transmit slot (R118, R429): WIN, VALID and ROUND, then the winning claim number. A unit without a partner wins with its own. -/
def State.claimBytes (s : State) : List Byte :=
  if s.partnered then
    be 1 (128 * s.rd F.CLM_WIN_STAT_WIN + 64 * b2n (s.rd F.CLM_WIN_STAT_CLAIM != 0) + s.rd F.CLM_WIN_STAT_ROUND % 64) ++ be 2 (s.rd F.CLM_WIN_STAT_CLAIM)
  else be 1 (192 + s.pair.soloRound % 64) ++ be 2 (s.rdIn F.CLM_PRIO_ACT 8 14 * 4096 + s.rd F.CLM_EPOCH)

/-- How many slots of a burst have begun at the present slot, its length or more once it is over (R112: the count has 32 bits). -/
def Burst.age (b : Burst) (slot : Nat) : Nat := (slot + 2 ^ 32 - b.first) % 2 ^ 32

/-- Does the present slot belong to an active burst (R110)? -/
def Port_.inBurst (p : Port_) : Bool := p.bursts.any (fun b => b.sent && !b.lost && decide (b.age p.slot < b.len))

/-- FMT of a transmit slot (R110, R114): none while the link aligns, then REAL16, and CPLX12 on a radio port. -/
def State.txFmt (s : State) (n : Nat) : Nat :=
  if !s.linkUp n && (s.port n).ending.isNone then 0 else if (s.port n).pers = 2 then 2 else 1

/-- Characters 1 to 61 of the present transmit slot (R109, R110). The samples are the modem's, which the spec does not give as numbers, and the bytes of a MSG field without a message are not stated: free values. A SYNC carries the count of its own slot (R115). DESIGN CHOICE, safe: log entry 131. -/
def State.slotChars (s : State) (n : Nat) : List Byte :=
  let p := s.port n
  let fmt := s.txFmt n
  let fill := s.freeVal (2 ^ 456)
  be 1 (p.slot % 16 * 16 + fmt * 4 + 2 * b2n (!p.msgs.isEmpty) + b2n p.inBurst) ++
    be 48 (if fmt = 0 then 0 else fill) ++
    (match p.msgs with
      | (ty, pl) :: _ => be 1 ty ++ be 8 (if ty = 1 then p.slot * 2 ^ 32 else pl)
      | [] => be 9 (fill / 2 ^ 384)) ++
    s.claimBytes

/-- The present transmit slot goes out (R109, R113): its characters and their CRC; a message that it carried is gone. -/
def State.slotSend (s : State) (n : Nat) : State :=
  let c := s.slotChars n
  (s.tookFree.setPort n { s.port n with msgs := (s.port n).msgs.tail }).emit (.slot n (c ++ be 2 (crc16 c)))

/-- What a port that stops does after a slot (R105): a burst that has reached its length ends with TX_OFF and its credit returns; then 96 more slots follow. DEDUCED, unsafe: log entry 38. -/
def State.slotEnd (s : State) (n : Nat) : State :=
  let p := s.port n
  let s1 := (p.bursts.filter (fun b => b.sent && !b.lost && decide (b.len ≤ b.age p.slot))).foldl (fun (t : State) b => (t.fslSend n 0x04 b.tag).releaseBurst n b.tag) s
  if (s1.port n).bursts.any (fun b => b.sent && !b.lost) then s1
  else
    match (s1.port n).ending with
    | some (k + 2) => s1.setPort n { s1.port n with ending := some (k + 1) }
    | _ => s1.setPort n { s1.port n with ending := none, msgs := [] }

/-- The claim field of a good slot (R120): SRC, ROUND and the claim number accepted; SRC = 01 ends a run of rounds without it. -/
def State.claimField (s : State) (n : Nat) (b : List Byte) : State :=
  let src := field b 0 1 / 64
  let p := s.port n
  (s.wr (F.FP_FSL_STAT_SRC n) src).setPort n { p with
    round := field b 0 1 % 64, accepted := field b 1 2, srcSeen := p.srcSeen || src == 1
    srcMiss := if src = 1 then 0 else p.srcMiss, srcLost := p.srcLost && src != 1 }

/-- A round passes for a port that sends WIN = 1 (R120): the third in succession in which SRC has not read 01 stops its requests. -/
def State.srcRound (s : State) (n : Nat) : State :=
  let p := s.port n
  if !s.linkUp n || !s.winning || p.srcSeen then s.setPort n { p with srcSeen := false, srcMiss := 0 }
  else if p.srcMiss = 2 then (s.setPort n { p with srcMiss := 3, srcLost := true }).raise (Pg.FP n) 7
  else s.setPort n { p with srcMiss := min 3 (p.srcMiss + 1) }

/-- A claim round passes for every port (R120). -/
def State.srcRounds (s : State) : State := (s.ports.map (fun e => e.1)).foldl (fun (t : State) n => t.srcRound n) s

/-- REAL16 samples (R111): signed 16-bit numbers, big-endian. -/
def real16 : List Byte → List (Int × Int)
  | a :: b :: r => ((BitVec.ofNat 16 (ofBe [a, b])).toInt, 0) :: real16 r
  | _ => []

/-- CPLX12 samples (R111): I[11:4], I[3:0] with Q[11:8], Q[7:0]. -/
def cplx12 : List Byte → List (Int × Int)
  | a :: b :: c :: r => ((BitVec.ofNat 12 (ofBe [a, b, c] / 4096)).toInt, (BitVec.ofNat 12 (ofBe [a, b, c])).toInt) :: cplx12 r
  | _ => []

/-- The sixteen zero samples that stand for a slot without samples (R110, R113). -/
def zeroSamples : List (Int × Int) := List.replicate 16 (0, 0)

/-- The samples of a received slot by its FMT (R110, R111); REAL16 carries 16 samples in its first 32 bytes. -/
def slotSamples (fmt : Nat) (b : List Byte) : List (Int × Int) :=
  if fmt = 1 then (real16 b).take 16 else if fmt = 2 then cplx12 b else zeroSamples

/-- The count of a received slot (R112): the newest transmit count that agrees with its SEQ. -/
def rxCount (slot seq : Nat) : Nat := slot - (slot + 16 - seq % 16) % 16

/-- The next transmit slot begins (R109, R112). -/
def State.slotNext (s : State) (n : Nat) : State :=
  s.setPort n { s.port n with slot := ((s.port n).slot + 1) % 2 ^ 32, slotRaw := s.raw }

/-- A good slot (R110 to R115): its count and samples, the runs, its message and claim field; overload is counted, and its samples are blanked on a power-line port (R163); 16 good slots with INFO bring the link UP. -/
def State.slotTaken (s : State) (n : Nat) (chars : List Byte) : State :=
  let hdr := chars.getD 0 0
  let p := s.port n
  let ovr := hdr.getLsbD 0
  let smp := if ovr && p.pers != 2 then zeroSamples else slotSamples (field chars 0 1 / 4 % 4) ((chars.drop 1).take 48)
  let s1 := (s.setPort n { p with good := p.good + 1, bad := 0, rxSlot := rxCount p.slot (field chars 0 1 / 16), samples := smp, ovrSeen := p.ovrSeen || ovr }).slotNext n
  let s2 := if hdr.getLsbD 1 then s1.afeMessage n (chars.getD 49 0).toNat (BitVec.ofNat 64 (ofBe ((chars.drop 50).take 8))) else s1
  let s3 := s2.claimField n ((chars.drop 58).take 3)
  let s4 := if ovr then s3.sat (F.FY_OVR_SLOTS n) else s3
  if s4.rd (F.FP_FSL_STAT_STATE n) = 1 && 16 ≤ (s4.port n).good && (s4.port n).info.isSome then s4.linkComesUp n else s4

/-- A discarded slot (R113, R114): counted, with 16 zero samples for the modem; the eighth in succession takes an UP link DOWN. -/
def State.slotDiscarded (s : State) (n : Nat) : State :=
  let p := s.port n
  let s1 := ((s.setPort n { p with good := 0, bad := p.bad + 1, samples := zeroSamples }).slotNext n).sat (F.FP_FSL_CRC_ERR n)
  if s1.linkUp n && 8 ≤ p.bad + 1 then s1.linkDown n else s1

/-- FSL_COMMA_LOSS (R114). -/
def execFslCommaLoss (n : Port) (s : State) : Host.Outcome State Fault Refusal :=
  s.done (if s.linkUp n.val then s.linkDown n.val else s)

/-- FSL_ALIGN_TIMEOUT (R114): alignment starts again and is counted; the AFE is reset and asked for INFO again. DEDUCED, unsafe: log entry 130. -/
def execFslAlignTimeout (n : Port) (s : State) : Host.Outcome State Fault Refusal :=
  s.done (if s.rd (F.FP_FSL_STAT_STATE n.val) = 1 then
      (((s.setPort n.val { s.port n.val with good := 0, bad := 0, info := none, msgs := [] }).sat (F.FP_FSL_DOWN_CNT n.val)).fslSend n.val 0x0E 0).askInfo n.val
    else s)

/-- SYNC (R112): the slot count goes out, once every 96,000 slots. -/
def execSync (n : Port) (s : State) : Host.Outcome State Fault Refusal :=
  s.done (if s.linkUp n.val then s.fslSend n.val 0x01 0 else s)

/-! ## Timed converter starts -/

/-- AUX_START for a raw count (R111, R117): the slot and the sample index on the 651.04 ns grid (15,625/96 ticks), rounded down. The auxiliary converter channel is named by no field: a free value. DEDUCED, unsafe: log entry 36. -/
def State.auxStart (s : State) (n c : Nat) : State :=
  let d : Int := ((c : Int) - ((s.port n).slotRaw : Int)) * 96 / 15625
  let slot := ((((s.port n).slot : Int) + d / 16) % 2 ^ 32).toNat
  (s.fslSend n 0x06 (slot * 2 ^ 32 + (d % 16).toNat * 2 ^ 24 + s.freeVal 16)).tookFree

/-! ## Zero crossings -/

/-- A zero-crossing phase, 1 to 3. -/
def State.zcOf (s : State) (p : Nat) : Zc := SMap.getD s.zc p {}

/-- Sets a phase. -/
def State.setZc (s : State) (p : Nat) (z : Zc) : State := { s with zc := SMap.set s.zc p z }

/-- Enters an edge in the ring of a phase (R129). -/
def State.zcRing (s : State) (p count flags : Nat) : State :=
  let head := (s.rd (F.GPIO_ZC_STAT_HEAD (p - 1)) + 1) % 16
  (s.setZc p { s.zcOf p with ring := SMap.set (s.zcOf p).ring head ⟨count, flags⟩ }).wr (F.GPIO_ZC_STAT_HEAD (p - 1)) head

/-- An accepted edge (R127): it becomes E, and the registers show it. DESIGN CHOICE, unsafe: log entry 39. -/
def State.zcAccept (s : State) (p stamp period flags : Nat) : State :=
  let s1 := (s.setZc p { s.zcOf p with last := stamp, period := period }).zcRing p stamp flags
  (((s1.wr (F.GPIO_ZC_LAST_LO (p - 1)) stamp).wr (F.GPIO_ZC_LAST_HI (p - 1)) (stamp / 2 ^ 32)).wr (F.GPIO_ZC_PERIOD (p - 1)) (period / 65536)).wrap (F.GPIO_ZC_ACCEPT (p - 1))

/-- A discarded edge (R127): entered in the ring with its flag and counted; it never becomes E. -/
def State.zcDiscard (s : State) (p stamp flag : Nat) : State := (s.zcRing p stamp flag).sat (F.GPIO_ZC_DISCARD (p - 1))

/-- An edge of a phase at its stamp (R127, R128). DESIGN CHOICE, unsafe: log entry 39. -/
def State.zcEdge (s : State) (p stamp : Nat) : State :=
  let z := s.zcOf p
  if s.on (F.GPIO_ZC_STAT_LOST (p - 1)) then
    let l := z.rebuild ++ [stamp]
    if l.length < 4 then ((s.setZc p { z with rebuild := l }).zcAccept p stamp z.period 0x9)
    else
      let per := (stamp - l.headD 0) * 4 * 65536 / 3
      (((s.setZc p { z with rebuild := [] }).zcAccept p stamp per 0x9).wr (F.GPIO_ZC_STAT_LOST (p - 1)) 0)
  else
    let d := (stamp - z.last) * 4 * 65536
    let k := max 1 ((2 * d + z.period) / (2 * max 1 z.period))
    let pred := k * z.period
    let dev := if d < pred then pred - d else d - pred
    if s.rd F.GPIO_ZC_JIT_TH * 65536 < dev then s.zcDiscard p stamp 0x2
    else if d < k * 15385000 * 65536 || k * 22222000 * 65536 < d then s.zcDiscard p stamp 0x4
    else s.zcAccept p stamp (((z.period : Int) + ((d / k : Int) - (z.period : Int)) / 64).toNat) 0x1

/-- ZC_EDGE (R126, R127): DEGLITCH and the comparator delay are taken off the stamp, the delay in whole ticks of 4 ns. DESIGN CHOICE, unsafe: log entry 39. -/
def execZcEdge (p : Fin 3) (s : State) : Host.Outcome State Fault Refusal :=
  s.done (if s.domOn Dom.IOX && (s.rd F.GPIO_ZC_CTL_EN).testBit p.val then
      s.zcEdge (p.val + 1) (s.raw - (s.rdIn F.GPIO_ZC_CTL_DEGLITCH 10 255 * 250 + s.rd (F.GPIO_ZC_COMP p.val) / 4))
    else s)

/-- ZC_LOST (R128). -/
def execZcLost (p : Fin 3) (s : State) : Host.Outcome State Fault Refusal :=
  s.done (if s.domOn Dom.IOX && (s.rd F.GPIO_ZC_CTL_EN).testBit p.val && !s.on (F.GPIO_ZC_STAT_LOST p.val) then
      ((s.setZc (p.val + 1) { s.zcOf (p.val + 1) with rebuild := [] }).wr (F.GPIO_ZC_STAT_LOST p.val) 1).raise Pg.GPIO (16 + p.val)
    else s)

/-! ## GPIO -/

/-- GPIO_EDGE (R131): the board changes a pin's level. -/
def execGpioEdge (k : Fin 16) (rise : Bool) (s : State) : Host.Outcome State Fault Refusal :=
  s.done (({ s with pins := { s.pins with gpio := putBit16 s.pins.gpio k.val rise } }).gpioFollow s)

/-- GPIO_PULSE_END (R131): a COMPARE pin goes low PULSE µs after its firing. -/
def execGpioPulseEnd (k : Fin 16) (s : State) : Host.Outcome State Fault Refusal :=
  s.done (if s.gpioCmp.getLsbD k.val && s.rd F.GPIO_PULSE != 0 then
      ({ s with gpioCmp := putBit16 s.gpioCmp k.val false }).gpioFollow s
    else s)

end Sys2Proof.Machine
end

