-- ==== Sys2Proof/Machine/Gate.lean ====
section
/-!
DEFINITION. Gate, the ingest security block (chapter 07): neighbour entries, windows, the link check, the application check, joins, checkpoints and key generations.
-/
namespace Sys2Proof.Machine

/-! ## Entries -/

/-- A neighbour entry (R192). -/
def State.nbr (s : State) (i : Nat) : Nbr := SMap.getD s.gate.nbr i {}

/-- The keys of an entry (R193). -/
def State.nbrKeys (s : State) (i : Nat) : NbrKeys := SMap.getD s.gate.keys i {}

/-- Sets an entry, marked changed for the next checkpoint (R206). A FREE entry is not listed; the link entries have no state. DEDUCED, unsafe: log entry 51. -/
def State.setNbr (s : State) (i : Nat) (x : Nbr) : State :=
  { s with gate := { s.gate with nbr :=
      if x.st = .free ∧ i < 65536 then SMap.erase s.gate.nbr i else SMap.set s.gate.nbr i { x with changed := true } } }

/-- Puts a key of a kind (R203): 0 link, 1 and 2 generation 0 up and down, 3 and 4 generation 1. -/
def NbrKeys.put (k : NbrKeys) (kind : Nat) (key : List Byte) : NbrKeys :=
  match kind with
  | 0 => { k with link := some key }
  | 1 => { k with up0 := some key }
  | 2 => { k with dn0 := some key }
  | 3 => { k with up1 := some key }
  | _ => { k with dn1 := some key }

/-- Sets the keys of an entry. -/
def State.setNbrKeys (s : State) (i : Nat) (k : NbrKeys) : State :=
  { s with gate := { s.gate with keys := SMap.set s.gate.keys i k } }

/-- The code of a state (R194). -/
def NbrState.code : NbrState → Nat
  | .free => 0 | .preset => 1 | .joining => 2 | .active => 3 | .blocked => 4

/-- The state of a code. -/
def NbrState.ofCode : Nat → NbrState
  | 1 => .preset | 2 => .joining | 3 => .active | 4 => .blocked | _ => .free

/-- The 64-byte record of an entry (R192). -/
def nbrRecord (x : Nbr) : List Byte :=
  be 8 x.eui ++ be 1 (x.st.code * 32 + b2n x.lkey * 16 + b2n x.ag0 * 8 + b2n x.ag1 * 4 + x.aact * 2) ++ be 1 x.port ++ be 2 x.short ++
    be 3 x.flow ++ be 1 0 ++ be 4 x.ltop ++ be 8 x.lmap ++ be 4 x.atop ++ be 4 x.amap ++ be 4 (min x.dnext 0xFFFFFFFF) ++ be 4 (min x.drsv 0xFFFFFFFF) ++ be 4 x.lastRx ++
    be 2 x.dup ++ be 2 x.rpl ++ be 2 x.micf ++ be 2 x.appf ++ be 8 0

/-- The entry a record spells. -/
def nbrOfRecord (r : List Byte) : Nbr :=
  let st := field r 8 1
  { eui := field r 0 8, st := NbrState.ofCode (st / 32), lkey := st.testBit 4, ag0 := st.testBit 3, ag1 := st.testBit 2, aact := st / 2 % 2
    port := field r 9 1, short := field r 10 2, flow := field r 12 3, ltop := field r 16 4, lmap := field r 20 8, atop := field r 28 4
    amap := field r 32 4, gen := st / 2 % 2, dnext := field r 36 4, drsv := field r 40 4, lastRx := field r 44 4
    dup := field r 48 2, rpl := field r 50 2, micf := field r 52 2, appf := field r 54 2 }

/-- The body of an entry's GATE record (R206): its index, what the 64 bytes do not say (bit 0 CREATE made it, bit 1 a grace period runs, bit 2 the current generation, bit 3 the downlink counters are used up), the record, and the old generation's window. DESIGN CHOICE, unsafe: log entry 52. -/
def gateBody (i : Nat) (x : Nbr) : List Byte :=
  be 3 i ++ be 1 (b2n x.created + 2 * b2n x.grace + 4 * x.gen + 8 * b2n (decide (2 ^ 32 ≤ x.drsv))) ++ nbrRecord x ++ be 4 x.oldTop ++ be 4 x.oldMap

/-- The entry that a GATE record's body holds. -/
def nbrOfGate (b : List Byte) : Nbr :=
  let fl := field b 3 1
  let x := nbrOfRecord (b.drop 4)
  { x with created := fl.testBit 0, grace := fl.testBit 1, gen := fl / 4 % 2, drsv := if fl.testBit 3 then 2 ^ 32 else x.drsv
           oldTop := field b 68 4, oldMap := field b 72 4 }

/-- Lists an entry as a record leaves it; a FREE entry is not listed, but a link entry is. -/
def putNbr (m : SMap Nbr) (i : Nat) (x : Nbr) : SMap Nbr := if x.st = .free ∧ i < 65536 then SMap.erase m i else SMap.set m i x

/-- Writes the GATE journal record of an entry (R206). DESIGN CHOICE, unsafe: log entry 52. -/
def State.gateJournal (s : State) (i : Nat) : State := s.journal 6 (gateBody i (s.nbr i))

/-- Writes the GATE journal record of a key installation (R203 steps 3 to 6): the entry's, with the key's kind and the key wrapped under the node-store key-encryption key. DESIGN CHOICE, unsafe: log entry 52. -/
def State.gateJournalKey (s : State) (i kind : Nat) (key : List Byte) : State :=
  s.journal 6 (gateBody i (s.nbr i) ++ be 1 kind ++ Config.wrap s.sec.kek key)

/-- The entry that holds an EUI; link entries hold none. -/
def State.nbrByEui (s : State) (eui : Nat) : Option Nat :=
  (List.find? (fun e : Nat × Nbr => e.1 < 65536 && e.2.eui == eui && e.2.st != .free) s.gate.nbr).map (fun e => e.1)

/-- The lowest index from `k` on that a rising list of entries leaves free. -/
def lowestGap : SMap Nbr → Nat → Nat
  | [], k => k
  | (i, x) :: m, k => if i = k && x.st != .free then lowestGap m (k + 1) else if i < k then lowestGap m k else k

/-- The lowest FREE index (R194), if one of the 65,536 is free. -/
def State.freeIdx (s : State) : Option Nat :=
  let k := lowestGap s.gate.nbr 0
  if k < 65536 then some k else none

/-- Entries that are not FREE, link entries excluded. -/
def State.nbrUsed (s : State) : Nat := (s.gate.nbr.filter (fun e => e.1 < 65536 && e.2.st != .free)).length

/-- The entries in a state that are bound to a port. -/
def State.boundIn (s : State) (n : Nat) (st : NbrState) : Nat := (s.gate.nbr.filter (fun e => e.2.port == n && e.2.st == st)).length

/-- FPn.NODES: connections of a radio port (R182), else the nodes admitted (R132). -/
def State.nodes (s : State) (n : Nat) : Nat :=
  if (s.port n).pers = 2 then (s.port n).sun.conns.length else s.boundIn n .active + s.boundIn n .blocked

/-- What counts against FPn.NODE_LIMIT: the nodes, and the entries that are JOINING (R106, R194). -/
def State.nodesHeld (s : State) (n : Nat) : Nat := s.nodes n + s.boundIn n .joining

/-- Does an entry on a port hold a short address? -/
def State.shortTaken (s : State) (n a : Nat) : Bool := s.gate.nbr.any (fun e => e.2.port == n && e.2.short == a && e.2.st != .free)

/-- The lowest short address from 0x0001 to 0x0400 that no entry holds on a port (R194). -/
def State.freeShort (s : State) (n : Nat) : Option Nat := ((List.range 1024).map (fun i => i + 1)).find? (fun a => !s.shortTaken n a)

/-! ## The node table of a HEAD (R410) -/

/-- The key of a node in the node table. -/
def nodeKey (unit node : Nat) : Nat := unit * 65536 + node

/-- The index of a node in the node table. -/
def State.nodeIndex (s : State) (unit node : Nat) : Option Nat := SMap.find? s.chn.nodes (nodeKey unit node)

/-- Enters a node in the HEAD's node table with the lowest unused index (R410); a full table takes none. -/
def State.enterNode (s : State) (unit node : Nat) : State :=
  if s.role != 2 || (s.nodeIndex unit node).isSome || 1048576 ≤ s.chn.nodes.length then s
  else
    let used := s.chn.nodes.map (fun e => e.2)
    let i := ((List.range (used.length + 1)).find? (fun j => !used.contains j)).getD used.length
    let s1 := { s with chn := { s.chn with nodes := SMap.set s.chn.nodes (nodeKey unit node) i } }
    s1.wr F.CHN_NODES_USED s1.chn.nodes.length

/-- The flow identifier of an entry (R192): its index in LEAF and RELAY; in HEAD the node's node-table index. -/
def State.flowOf (s : State) (i : Nat) : Nat := if s.role = 2 then (s.nodeIndex 0 i).getD i else i

/-! ## Windows -/

/-- What a window says of a sequence number (R196). -/
inductive WinOut where
  | accept | dup | replay
  deriving DecidableEq, Repr

/-- The window rule of R196 for a window of `w` numbers: the outcome, the new top and the new map. -/
def window (w top map s : Nat) : WinOut × Nat × Nat :=
  if top < s then
    let d := s - top
    (.accept, s, (if w ≤ d then 0 else map * 2 ^ d % 2 ^ w) ||| 1)
  else if top - s < w then
    if map.testBit (top - s) then (.dup, top, map) else (.accept, top, map ||| 2 ^ (top - s))
  else (.replay, top, map)

/-- Counts in a 16-bit saturating counter. -/
def sat16 (n : Nat) : Nat := min 65535 (n + 1)

/-! ## The link check -/

/-- The outcomes of T1 (R198). -/
inductive LinkOut where
  | accept | dup | replay | micFail | noMic | unknown | wrongPort | blocked
  deriving DecidableEq, Repr

/-- The entry in state ACTIVE or BLOCKED bound to a short address on a port (R195, R198). -/
def State.nbrByShort (s : State) (n a : Nat) : Option Nat :=
  (List.find? (fun e : Nat × Nbr => e.2.port == n && e.2.short == a && (e.2.st == .active || e.2.st == .blocked)) s.gate.nbr).map (fun e => e.1)

/-- Is the link integrity code of a frame right (R195)? G3 under the port's group key as G.9903 gives it (log entry 48); NPL and SUN under the link key:
the code is the last four bytes, the nonce the transmitter's EUI, SEQ and 0x05, and all before the code is authenticated. -/
def GateSnap.micOk (g : GateSnap) (g3 : Bool) (seq : Nat) (frame : List Byte) : Bool :=
  if g3 then (match g.group with
    | none => false
    | some key => Config.g3MicOk key (be 8 g.nbr.eui) seq frame)
  else match g.keys.link with
    | none => false
    | some key => decide (4 ≤ frame.length) &&
        Config.ccmMic key (be 8 g.nbr.eui ++ be 4 seq ++ be 1 5) (frame.take (frame.length - 4)) == frame.drop (frame.length - 4)

/-- Gate uses the record of an entry (R192): a miss of the cache is counted, and with 8,192 records held the one used longest ago leaves, but for those in `busy`, which tasks are using. -/
def State.cacheUse (s : State) (i : Nat) (busy : List Nat) : State :=
  let c := s.gate.cache
  if c.contains i then { s with gate := { s.gate with cache := i :: c.erase i } }
  else
    let kept := if c.length < 8192 then c else
      (match (c.reverse.find? (fun j => !busy.contains j)) with
        | some j => c.erase j
        | none => c)
    ({ s with gate := { s.gate with cache := i :: kept } }).sat F.GTE_CACHE_MISS

/-- What Gate has of an entry now. -/
def State.snapOf (s : State) (n : Nat) (i : Option Nat) (elsewhere : Bool) : GateSnap :=
  { idx := i, nbr := (i.map s.nbr).getD {}, keys := (i.map s.nbrKeys).getD {}, group := SMap.find? s.gate.groupKeys n, elsewhere := elsewhere }

/-- What a T1 task takes on when it starts (R195, R198, R204): the entry of the transmitter's short address on the port. `orig` is the entry that holds the frame's ORIG_EUI; bound to another port, it makes an unknown address WRONG_PORT. DEDUCED, unsafe: log entry 50. -/
def State.snapT1 (s : State) (n short : Nat) (orig : Option Nat) : GateSnap :=
  s.snapOf n (s.nbrByShort n short) (match orig with
    | some j => (s.nbr j).port != 0xFF && (s.nbr j).port != n
    | none => false)

/-- Is an entry still the one a task started with: the same node under the same key (R204)? -/
def State.sameLink (s : State) (g : GateSnap) (i : Nat) : Bool :=
  65536 ≤ i || ((s.nbr i).eui == g.nbr.eui && (s.nbrKeys i).link == g.keys.link && (s.nbr i).st != NbrState.free)

/-- The link window takes a sequence number (R196): the outcome and the entry with its window, LAST_RX, DUP or RPL; `now` is ledger time. -/
def Nbr.linkWindow (x : Nbr) (now seq : Nat) : WinOut × Nbr :=
  match window 64 x.ltop x.lmap seq with
  | (.accept, top, map) => (.accept, { x with ltop := top, lmap := map, lastRx := now % 2 ^ 32 })
  | (.dup, _, _) => (.dup, { x with dup := sat16 x.dup })
  | (.replay, _, _) => (.replay, { x with rpl := sat16 x.rpl })

/-- An accepted or repeated frame at its entry (R196, R198): the window moves, LAST_RX and DUP or RPL follow, and SEQ_WARN comes once. A task whose entry or key has changed since it started decides by the window it started with and moves none (R204). DEDUCED, unsafe: log entry 135. -/
def State.linkWindow (s : State) (g : GateSnap) (i seq : Nat) : LinkOut × State :=
  let live := s.sameLink g i
  let x := if live then s.nbr i else g.nbr
  let (o, y) := x.linkWindow s.ledgerTime seq
  let warn := live && o = .accept && !x.warned && decide (s.rd F.GTE_SEQ_WARN ≤ y.ltop)
  let s1 := if live then s.setNbr i { y with warned := y.warned || warn } else s
  match o with
  | .accept => (.accept, if warn then (s1.wrap F.GTE_LINK_OK).raise Pg.GTE 6 else s1.wrap F.GTE_LINK_OK)
  | .dup => (.dup, s1.sat F.GTE_DUP_RX)
  | .replay => (.replay, (s1.sat F.GTE_REPLAY).raise Pg.GTE 1)

/-- T1's decision on a frame (R195, R196, R198), under what it started with. DEDUCED, unsafe: log entry 50. -/
def State.linkCheck (s : State) (g : GateSnap) (g3 : Bool) (seq : Nat) (sec : Bool) (frame : List Byte) : LinkOut × State :=
  match g.idx with
  | none => if g.elsewhere then (.wrongPort, s.sat F.GTE_WRONG_PORT) else (.unknown, s.sat F.GTE_UNKNOWN)
  | some i =>
    if g.nbr.st = .blocked then (.blocked, s.sat F.GTE_BLOCKED)
    else if !sec && s.on F.GTE_CTL_LINK_REQ then (.noMic, (s.sat F.GTE_MIC_FAIL).raise Pg.GTE 0)
    else if sec && !g.micOk g3 seq frame then
      (.micFail, ((if s.sameLink g i then s.setNbr i { s.nbr i with micf := sat16 (s.nbr i).micf } else s).sat F.GTE_MIC_FAIL).raise Pg.GTE 0)
    else s.linkWindow g i seq

/-! ## The application check -/

/-- The outcomes of T2 (R200). -/
inductive AppOut where
  | ok | dup | replay | tagFail | noKey | badHdr | clear
  deriving DecidableEq, Repr

/-- The uplink key of a generation. -/
def NbrKeys.up (k : NbrKeys) (g : Nat) : Option (List Byte) := if g = 0 then k.up0 else k.up1

/-- Erases a generation of an entry (R201). -/
def State.eraseGen (s : State) (i g : Nat) : State :=
  let k := s.nbrKeys i
  let x := s.nbr i
  if g = 0 then (s.setNbrKeys i { k with up0 := none, dn0 := none }).setNbr i { x with ag0 := false }
  else (s.setNbrKeys i { k with up1 := none, dn1 := none }).setNbr i { x with ag1 := false }

/-- The grace period of an entry ends (R201): the old generation is erased. DEDUCED, unsafe: log entry 53. -/
def State.endGrace (s : State) (i : Nat) : State :=
  let x := s.nbr i
  if x.grace then
    let s1 := s.setNbr i { x with grace := false, oldTop := 0, oldMap := 0 }
    s1.eraseGen i (1 - x.gen)
  else s

/-- Is a payload one with an application security header that T2 can read: version 1, uplink, long enough (R199, R200)? -/
def appHdrOk (p : List Byte) : Bool := 25 ≤ p.length && field p 0 1 / 16 == 1 && !(field p 0 1).testBit 3

/-- Does a payload begin with a header at all? One that does not carry version 1 in a first byte has none. -/
def hasAppHdr (p : List Byte) : Bool := field p 0 1 / 16 != 0

/-- Counts a failed T2 outcome (R200): the page counter, APPF of the originator's entry, and bit APP_FAIL. A payload without the header counts at the transmitter's entry (log entry 19). -/
def State.appFail (s : State) (o : AppOut) (i : Option Nat) : State :=
  let s1 := match o with
    | .dup => s.sat F.GTE_APP_DUP
    | .replay => s.sat F.GTE_APP_REPLAY
    | .tagFail => s.sat F.GTE_APP_TAG_FAIL
    | .noKey => s.sat F.GTE_APP_NO_KEY
    | _ => s.sat F.GTE_APP_BAD_HDR
  let s2 := match i with
    | some j => if (s1.nbr j).st = NbrState.free then s1 else s1.setNbr j { s1.nbr j with appf := sat16 (s1.nbr j).appf }
    | none => s1
  s2.raise Pg.GTE 2

/-- The application window of an entry and generation takes a counter (R200, R201): the outcome and the entry. The first frame of a new generation starts the grace period. -/
def Nbr.appWindow (x : Nbr) (g ic : Nat) : WinOut × Nbr :=
  if g = x.gen then
    let (o, t, m) := window 32 x.atop x.amap ic
    (o, if o = .accept then { x with atop := t, amap := m } else x)
  else if x.grace then
    let (o, t, m) := window 32 x.oldTop x.oldMap ic
    (o, if o = .accept then { x with oldTop := t, oldMap := m } else x)
  else
    let (o, t, m) := window 32 0 0 ic
    (o, if o = .accept then { x with oldTop := x.atop, oldMap := x.amap, atop := t, amap := m, gen := g, aact := g, grace := true } else x)

/-- Is an entry still the one a T2 task started with: the same node under the same uplink key (R204)? -/
def State.sameUp (s : State) (q : GateSnap) (i g : Nat) : Bool := (s.nbr i).eui == q.nbr.eui && (s.nbrKeys i).up g == q.keys.up g && (s.nbr i).st != NbrState.free

/-- The application window of a frame whose tag is right (R200). A task whose entry or key has changed since it started decides by the window it started with and moves none (R204). DEDUCED, unsafe: log entry 135. -/
def State.appWindow (s : State) (q : GateSnap) (i g ic : Nat) : WinOut × State :=
  if s.sameUp q i g then
    let (o, y) := (s.nbr i).appWindow g ic
    (o, if o = .accept then s.setNbr i y else s)
  else ((q.nbr.appWindow g ic).1, s)

/-- What T2 says of a payload (R199, R200): the outcome, the originator's entry, IC, generation, whether it was protected, and the content. -/
structure AppRes where
  out : AppOut
  node : Option Nat := none
  ic : Nat := 0
  gen : Nat := 0
  prot : Bool := false
  content : List Byte := []
  deriving DecidableEq, Repr

/-- What a T2 task takes on when it starts (R200, R204): the entry of ORIG_EUI. -/
def State.snapT2 (s : State) (n : Nat) (p : List Byte) : GateSnap := s.snapOf n (if hasAppHdr p then s.nbrByEui (field p 1 8) else none) false

/-- T2's decision on a payload (R199 to R201), under what it started with; `tx` is the transmitter's entry. -/
def State.appCheck (s : State) (q : GateSnap) (p : List Byte) (tx : Option Nat) : AppRes × State :=
  if !hasAppHdr p then
    if s.on F.GTE_CTL_APP_REQ then ({ out := .clear }, s.appFail .clear tx)
    else ({ out := .ok, content := p }, s)
  else if !appHdrOk p then ({ out := .badHdr, node := q.idx }, s.appFail .badHdr q.idx)
  else
    let g := b2n ((field p 0 1).testBit 2)
    let ic := field p 9 4
    match q.idx with
    | none => ({ out := .noKey }, s.appFail .noKey none)
    | some i =>
      match q.keys.up g with
      | none => ({ out := .noKey, node := some i }, s.appFail .noKey (some i))
      | some key =>
        let n := p.length
        match Config.gcmOpen key ((p.drop 1).take 12) (p.take 13) ((p.drop 13).take (n - 25)) (p.drop (n - 12)) with
        | none => ({ out := .tagFail, node := some i }, s.appFail .tagFail (some i))
        | some content =>
          match s.appWindow q i g ic with
          | (.accept, t) => ({ out := .ok, node := some i, ic := ic, gen := g, prot := true, content := content }, t.wrap F.GTE_APP_OK)
          | (.dup, t) => ({ out := .dup, node := some i }, t.appFail .dup (some i))
          | (.replay, t) => ({ out := .replay, node := some i }, t.appFail .replay (some i))

/-! ## Downlink counters -/

/-- Takes the next downlink counter of an entry (R207): reserved 256 ahead by a journal record, refused once it would pass 0xFFFF_FFFF. A counter that reaches GTE.SEQ_WARN sets SEQ_WARN once for the entry (R211). -/
def State.takeDown (s : State) (i : Nat) : Option Nat × State :=
  let x := s.nbr i
  if 2 ^ 32 ≤ x.dnext then (none, (s.sat F.GTE_DN_EXHAUST).raise Pg.GTE 6)
  else
    let s1 := if x.dnext = x.drsv then (s.setNbr i { x with drsv := x.drsv + 256 }).gateJournal i else s
    let warn := !x.dnWarned && decide (s.rd F.GTE_SEQ_WARN ≤ x.dnext)
    let s2 := s1.setNbr i { s1.nbr i with dnext := x.dnext + 1, dnWarned := x.dnWarned || warn }
    (some x.dnext, if warn then s2.raise Pg.GTE 6 else s2)

/-- Takes the next link sequence number of a port toward its neighbours, reserved ahead and refused in the same way (R207). DESIGN CHOICE, unsafe: log entry 52. -/
def State.takePortSeq (s : State) (n : Nat) : Option Nat × State :=
  let q := SMap.getD s.gate.portSeq n 0
  let r := SMap.getD s.gate.portRsv n 0
  if 2 ^ 32 ≤ q then (none, (s.sat F.GTE_DN_EXHAUST).raise Pg.GTE 6)
  else
    let s1 := if q = r then
        ({ s with gate := { s.gate with portRsv := SMap.set s.gate.portRsv n (r + 256) } }).journal 6 (be 3 (0x20000 + n) ++ be 5 (r + 256))
      else s
    (some q, { s1 with gate := { s1.gate with portSeq := SMap.set s1.gate.portSeq n (q + 1) } })

/-! ## Joins -/

/-- What Gate answers to a join request (R194, R209). -/
inductive JoinRes where
  | active (idx : Nat) | joining (idx : Nat) | ignored | defer | full | blocked
  deriving DecidableEq, Repr

/-- How many entries are JOINING in the unit. -/
def State.joiningAll (s : State) : Nat := (s.gate.nbr.filter (fun e => e.2.st == .joining)).length

/-- Binds an entry to a port in a state, with the short address it keeps or the lowest free one (R194); none where the port has no address left. -/
def State.bindNbr (s : State) (i n : Nat) (x : Nbr) (st : NbrState) : Option State :=
  let a := if x.port = n && x.short != 0xFFFF then some x.short else s.freeShort n
  let s0 := s.enterNode 0 i
  a.map (fun a => (s0.setNbr i { x with st := st, port := n, short := a, flow := s0.flowOf i }).gateJournal i)

/-- A join request reaches Gate (R194, R209). -/
def State.gateJoin (s : State) (n eui : Nat) : JoinRes × State :=
  let start (i : Nat) (x : Nbr) : JoinRes × State :=
    if s.rdIn F.GTE_JOIN_MAX 1 64 ≤ s.joiningAll || 8 ≤ s.boundIn n .joining then (.defer, s.sat F.GTE_JOIN_DEFER)
    else
      match s.bindNbr i n x .joining with
      | some t => (.joining i, t.raise Pg.GTE 3)
      | none => (.full, s)
  match s.nbrByEui eui with
  | none =>
    match s.freeIdx with
    | some i => start i { eui := eui }
    | none => (.full, s)
  | some i =>
    let x := s.nbr i
    match x.st with
    | .active =>
      if x.port = n then (.active i, s)
      else
        match s.bindNbr i n x .active with
        | some t => (.active i, t.sat F.GTE_REBIND)
        | none => (.full, s)
    | .preset =>
      if x.lkey then
        match s.bindNbr i n x .active with
        | some t => (.active i, t)
        | none => (.full, s)
      else start i x
    | .joining => if x.port = n then (.joining i, s) else (.ignored, s)
    | .blocked => (.blocked, s)
    | .free => (.full, s)

/-- The results of a join as a port answers them: 0 accepted, 1 NODE_LIMIT, 2 SCHED_FULL, 3 NOT_PERMITTED (R180); 4 the join timed out (R194). -/
abbrev JoinResult := Nat

/-- A power-line port answers a join (R106, R194): a join frame (TYPE 3) to all, or a G3 bootstrap message; its content is a constant without a body. A radio port's answer is CONNECT_RSP (R182). PRESUMED, safe: log entry 48. -/
def State.answerJoin (s : State) (n eui : Nat) (r : JoinResult) (addr : Nat) : State :=
  if (s.port n).pers = 2 then s
  else s.macQueue n { typ := 3, payload := if (s.port n).pers = 0 then Config.bootstrapEnd eui r addr else Config.joinAnswer eui r addr }

/-- Does a port permit joins (R106)? -/
def State.joinPermitted (s : State) (n : Nat) : Bool :=
  if (s.port n).pers = 2 then s.rd (F.FM_SUN_NET_ID n) != 0xFFFF && s.on (F.FM_SUN_JOIN_PERMIT n) else s.rd (F.FM_NET_ID n) != 0xFFFF && s.on (F.FM_JOIN_PERMIT n)

/-- A port refuses a join for want of room (R106): counted, with bit NODE_LIMIT. -/
def State.joinRefused (s : State) (n eui : Nat) : State :=
  ((s.sat (F.FP_JOIN_REFUSED n)).raise (Pg.FP n) 5).answerJoin n eui 1 0

/-- Does a port count a node already: bound to it and not PRESET, or on a radio port connected or JOINING? -/
def State.countsNode (s : State) (n eui : Nat) : Bool :=
  match s.nbrByEui eui with
  | some i =>
    let x := s.nbr i
    x.port == n && (if (s.port n).pers = 2 then x.st == .joining || (SMap.find? (s.port n).sun.conns x.short).isSome else x.st != .preset)
  | none => false

/-- Is there room for a node on a port (R106)? One that the port already counts takes none. -/
def State.roomFor (s : State) (n eui : Nat) : Bool :=
  s.countsNode n eui || decide (s.nodesHeld n < min 1024 (s.rd (F.FP_NODE_LIMIT n)))

/-- The port admits a node (R194): a power-line port answers the join and sets bit JOIN. A radio port answers the member's next CONNECT_REQ, which then finds the entry ACTIVE (R182). DESIGN CHOICE, unsafe: log entry 57. -/
def State.enrol (s : State) (n i : Nat) : State :=
  if (s.port n).pers = 2 then s else (s.answerJoin n (s.nbr i).eui 0 (s.nbr i).short).raise (Pg.FM n) 4

/-- A join request that reaches a port (R106, R194): permission, then the node limit, then Gate, with what the port then does. -/
def State.joinRequest (s : State) (n eui : Nat) : State :=
  if !s.joinPermitted n then s.answerJoin n eui 3 0
  else if !s.roomFor n eui then s.joinRefused n eui
  else
    match s.gateJoin n eui with
    | (.active i, t) => t.enrol n i
    | (.full, t) => t.joinRefused n eui
    | (_, t) => t

/-- JOIN_REQUEST (R194). -/
def execJoinRequest (n : Port) (eui : BitVec 64) (s : State) : Host.Outcome State Fault Refusal :=
  s.done (if s.domOn Dom.PKT then s.joinRequest n.val eui.toNat else s)

/-- Removes an entry: its keys and its record are erased (R194). -/
def State.freeNbr (s : State) (i : Nat) : State :=
  let s1 := s.setNbr i {}
  ({ s1 with gate := { s1.gate with keys := SMap.erase s1.gate.keys i } }).gateJournal i

/-- Sends an entry back to PRESET without a binding (R194). -/
def State.unbindNbr (s : State) (i : Nat) : State :=
  (s.setNbr i { s.nbr i with st := .preset, port := 0xFF, short := 0xFFFF }).gateJournal i

/-- JOIN_TIMEOUT (R194): a JOINING entry whose time has passed goes back to PRESET, where it keeps the address it holds, or is FREE again; its port refuses the join. -/
def execJoinTimeout (idx : BitVec 16) (s : State) : Host.Outcome State Fault Refusal :=
  s.done (
    let x := s.nbr idx.toNat
    if x.st = .joining then
      let s1 := if x.created then (s.setNbr idx.toNat { x with st := .preset }).gateJournal idx.toNat else s.freeNbr idx.toNat
      ((s1.sat F.GTE_JOIN_TIMEOUT).raise Pg.GTE 4).answerJoin x.port x.eui 4 0
    else s)

/-! ## Commands on entries -/

/-- The EUI in NBR_EUI. -/
def State.nbrEui (s : State) : Nat := s.rd F.GTE_NBR_EUI_HI * 2 ^ 32 + s.rd F.GTE_NBR_EUI_LO

/-- The result of a command (R211). -/
def State.nbrRes (s : State) (r : Nat) : State := s.wr F.GTE_NBR_STAT_RES r

/-- CREATE (R194). -/
def State.nbrCreate (s : State) : State :=
  match s.nbrByEui s.nbrEui with
  | some i => (s.nbrRes 3).wr F.GTE_NBR_STAT_IDX i
  | none =>
    match s.freeIdx with
    | none => (s.nbrRes 2).raise Pg.GTE 7
    | some i =>
      let s0 := s.enterNode 0 i
      let s1 := (s0.setNbr i { eui := s.nbrEui, st := .preset, flow := s0.flowOf i, created := true }).setNbrKeys i {}
      ((s1.gateJournal i).nbrRes 1).wr F.GTE_NBR_STAT_IDX i

/-- FIND (R211). -/
def State.nbrFind (s : State) : State :=
  match s.nbrByEui s.nbrEui with
  | some i => (s.nbrRes 1).wr F.GTE_NBR_STAT_IDX i
  | none => s.nbrRes 4

/-- UNBIND (R194). -/
def State.nbrUnbind (s : State) (i : Nat) : State :=
  if (s.nbr i).st = .active then (s.unbindNbr i).nbrRes 1 else s.nbrRes 5

/-- BLOCK (R194). -/
def State.nbrBlock (s : State) (i : Nat) : State :=
  if (s.nbr i).st = .free then s.nbrRes 5
  else ((s.setNbr i { s.nbr i with st := .blocked }).gateJournal i).nbrRes 1

/-- UNBLOCK (R194). -/
def State.nbrUnblock (s : State) (i : Nat) : State :=
  let x := s.nbr i
  if x.st != .blocked then s.nbrRes 5
  else if x.port != 0xFF && x.lkey then ((s.setNbr i { x with st := .active }).gateJournal i).nbrRes 1
  else (s.unbindNbr i).nbrRes 1

/-- FREE (R194). -/
def State.nbrFree (s : State) (i : Nat) : State :=
  if (s.nbr i).st = .free then s.nbrRes 5 else (s.freeNbr i).nbrRes 1

/-- A write of NBR_CMD (R210, R211): the command acts on the entry in NBR_SEL; a link entry takes none. DEDUCED, unsafe: log entry 51. -/
def State.nbrCmd (s : State) (v : Word) : State :=
  let i := s.rd F.GTE_NBR_SEL
  match bits v 2 0 with
  | 1 => s.nbrCreate
  | 6 => s.nbrFind
  | 2 => if 65536 ≤ i then s.nbrRes 5 else s.nbrUnbind i
  | 3 => if 65536 ≤ i then s.nbrRes 5 else s.nbrBlock i
  | 4 => if 65536 ≤ i then s.nbrRes 5 else s.nbrUnblock i
  | 5 => if 65536 ≤ i then s.nbrRes 5 else s.nbrFree i
  | _ => s

/-- NBR_CREATE (R194). -/
def execNbrCreate (m : Master) (v : Word) (s : State) : Host.Outcome State Fault Refusal :=
  s.done (s.guarded m Pg.GTE 0x64 (fun s => s.nbrCmd v))
/-- NBR_UNBIND (R194). -/
def execNbrUnbind (m : Master) (v : Word) (s : State) : Host.Outcome State Fault Refusal :=
  s.done (s.guarded m Pg.GTE 0x64 (fun s => s.nbrCmd v))
/-- NBR_BLOCK (R194). -/
def execNbrBlock (m : Master) (v : Word) (s : State) : Host.Outcome State Fault Refusal :=
  s.done (s.guarded m Pg.GTE 0x64 (fun s => s.nbrCmd v))
/-- NBR_UNBLOCK (R194). -/
def execNbrUnblock (m : Master) (v : Word) (s : State) : Host.Outcome State Fault Refusal :=
  s.done (s.guarded m Pg.GTE 0x64 (fun s => s.nbrCmd v))
/-- NBR_FREE (R194). -/
def execNbrFree (m : Master) (v : Word) (s : State) : Host.Outcome State Fault Refusal :=
  s.done (s.guarded m Pg.GTE 0x64 (fun s => s.nbrCmd v))
/-- NBR_FIND (R211). -/
def execNbrFind (m : Master) (v : Word) (s : State) : Host.Outcome State Fault Refusal :=
  s.done (s.guarded m Pg.GTE 0x64 (fun s => s.nbrCmd v))

/-- A read of NBR_DATA0 (R210): the record in NBR_SEL goes into the reading master's shadow, its first word is answered. -/
def State.nbrRead (s : State) (m : Master) : State :=
  let r := nbrRecord (s.nbr (s.rd F.GTE_NBR_SEL))
  ((List.range 15).foldl (fun t w => t.setShadow m Pg.GTE (0x84 + 4 * w) (BitVec.ofNat 32 (field r (4 * w + 4) 4))) s).answer (BitVec.ofNat 32 (field r 0 4))

/-- NBR_READ (R210). -/
def execNbrRead (m : Master) (s : State) : Host.Outcome State Fault Refusal :=
  s.done (s.guardedRead m Pg.GTE 0x80 (fun s => s.nbrRead m))

/-! ## Checkpoints and generations -/

/-- A journal record for each entry that has changed since the last one (R206). -/
def State.gateCheckpoint (s : State) : State :=
  let s1 := (s.gate.nbr.filter (fun e => e.2.changed)).foldl (fun t e => t.gateJournal e.1) s
  { s1 with gate := { s1.gate with nbr := s1.gate.nbr.map (fun e => (e.1, { e.2 with changed := false })) } }

/-- GATE_CHECKPOINT (R206). -/
def execGateCheckpoint (s : State) : Host.Outcome State Fault Refusal := s.done (if s.domOn Dom.PKT then s.gateCheckpoint else s)

/-- ROLL_GRACE_END (R201). -/
def execRollGraceEnd (idx : BitVec 16) (s : State) : Host.Outcome State Fault Refusal := s.done (s.endGrace idx.toNat)

end Sys2Proof.Machine
end

