-- ==== Sys2Proof/Machine/Ingest.lean ====
section
/-!
DEFINITION. How a port's received frame becomes a packet, is held or is dropped (R166, R188, R217, R218, R245), what a transmit queue gives a port, and the checksums of frames.
-/
namespace Sys2Proof.Machine

/-! ## Checksums -/

/-- One bit of CRC-8, polynomial 0x07 (R67). -/
def crc8Bit (c : Nat) : Nat := if 128 ≤ c then (c * 2 % 256) ^^^ 0x07 else c * 2 % 256

/-- CRC-8 of R67 over one byte. -/
def crc8Byte (c : Nat) (b : Byte) : Nat :=
  crc8Bit (crc8Bit (crc8Bit (crc8Bit (crc8Bit (crc8Bit (crc8Bit (crc8Bit (c ^^^ b.toNat))))))))

/-- CRC-8 of R67: initial value 0, no reflection, no final XOR. -/
def crc8 (l : List Byte) : Nat := l.foldl crc8Byte 0

/-- One bit of CRC-32 of IEEE 802.3. -/
def crc32Bit (c : Nat) : Nat := if c % 2 = 1 then (c / 2) ^^^ 0xEDB88320 else c / 2

/-- CRC-32 of IEEE 802.3 over one byte. -/
def crc32Byte (c : Nat) (b : Byte) : Nat :=
  crc32Bit (crc32Bit (crc32Bit (crc32Bit (crc32Bit (crc32Bit (crc32Bit (crc32Bit (c ^^^ b.toNat))))))))

/-- CRC-32 of IEEE 802.3. -/
def crc32 (l : List Byte) : Nat := l.foldl crc32Byte 0xFFFFFFFF ^^^ 0xFFFFFFFF

/-- Cuts a byte string into pieces of at most `k` bytes, at least one piece. -/
def pieces (k : Nat) : Nat → List Byte → List (List Byte)
  | 0, b => [b]
  | fuel + 1, b => if b.length ≤ k then [b] else b.take k :: pieces k fuel (b.drop k)

/-! ## What a frame says -/

/-- The payload that the application header begins, in a received frame (R145, R180, R199): past the 12-byte MAC header of NPL and SUN, and without the 4-byte link MIC; that of a G3 frame is as G.9903 gives it (log entry 48). -/
def State.appPayload (s : State) (n : Nat) (sec : Bool) (frame : List Byte) : List Byte :=
  if (s.port n).pers = 0 then Config.g3Payload frame else (if sec then frame.take (frame.length - 4) else frame).drop 12

/-- The entry that holds a frame's ORIG_EUI (R200, R245). -/
def State.frameOrig (s : State) (n : Nat) (sec : Bool) (frame : List Byte) : Option Nat :=
  let p := s.appPayload n sec frame
  if hasAppHdr p then s.nbrByEui (field p 1 8) else none

/-- The FLOW a port writes into a packet header (R245): that of the originator's entry, else the port number. -/
def State.frameFlow (s : State) (n : Nat) (sec : Bool) (frame : List Byte) : Nat :=
  match s.frameOrig n sec frame with
  | some i => (s.nbr i).flow
  | none => n

/-- SRCINFO of a field port (log entry 13): the transmitter's short address, the link sequence number, and the flags SEC and AR. DESIGN CHOICE, unsafe: log entry 13. -/
def srcInfoOf (r : RxFrame) : List Byte := be 2 r.short ++ be 4 r.seq ++ be 1 (b2n r.sec + 2 * b2n r.ar) ++ be 1 0

/-! ## Commit, hold or drop -/

/-- Can a field port commit now: its queue takes packets without XOFF, FIELD is not back-pressured, and FREE covers a reservation (R217, R224, R227, R252)? -/
def State.portRoom (s : State) (n : Nat) : Bool :=
  s.domOn Dom.PKT && s.queueOpen n && !(s.queue n).xoff && !s.classBp 0 && decide (s.maxC 0 ≤ s.cruFree)

/-- Commits a received frame of a port whose write context is open (R218). -/
def State.commitFrame (s : State) (n : Nat) (r : RxFrame) : State :=
  s.packetCommit n r.payload r.stamp r.qual (2 * b2n r.held + 4 * b2n r.blanked) (s.frameFlow n r.sec r.payload) (srcInfoOf r)

/-- Counts a frame that a port has committed (R167, R170). -/
def State.countRx (s : State) (n : Nat) (r : RxFrame) : State :=
  if (s.port n).pers = 2 then s.wrap (F.FY_SUN_RX_OK n)
  else
    let s1 := s.wrap (F.FY_RX_OK n)
    if r.blanked then s1.sat (F.FY_IMP_FRAMES n) else s1

/-- Commits a received frame (R217, R218) and counts it where it was committed: one that is too long was rewound (R217). -/
def State.takeFrame (s : State) (n : Nat) (r : RxFrame) : State :=
  let t := (s.packetStart n n).commitFrame n r
  if (t.queue n).qseq != (s.queue n).qseq then t.countRx n r else t

/-- A good frame of a port (R166, R188): committed where its cells are reserved or there is room, else held, up to four in order, else dropped and counted. A port whose queue is closed has its packet rewound (R225). -/
def State.portReceive (s : State) (n : Nat) (r : RxFrame) : State :=
  let p := s.port n
  if (SMap.find? s.cru.ctx n).isSome || p.held.isEmpty && s.portRoom n then s.takeFrame n r
  else if s.domOn Dom.PKT && !s.queueOpen n then s.countRewind
  else if p.held.length < 4 then s.setPort n { p with held := p.held ++ [{ r with held := true }] }
  else if p.pers = 2 then s.sat (F.FM_SUN_HOLD_DROP n)
  else (s.sat (F.FM_RX_HOLD_DROP n)).raise (Pg.FM n) 2

/-- Commits held frames in arrival order while there is room (R166). -/
def State.commitHeld (s : State) (n : Nat) : Nat → State
  | 0 => s
  | fuel + 1 =>
    let p := s.port n
    match p.held with
    | [] => s
    | r :: rs =>
      if s.portRoom n then
        ((s.setPort n { p with held := rs }).takeFrame n r).commitHeld n fuel
      else s

/-- Once a radio port holds no frame, the next back-pressure is a new one for bit BUSY (R190). -/
def State.busyRearm (s : State) (n : Nat) : State :=
  if (s.port n).held.isEmpty then s.setPort n { s.port n with sun := { (s.port n).sun with busySent := false } } else s

/-- HELD_FRAME_COMMIT (R166, R188). -/
def execHeldFrameCommit (n : Port) (s : State) : Host.Outcome State Fault Refusal := s.done ((s.commitHeld n.val 4).busyRearm n.val)

/-- PACKET_COMMIT (R218): the last word of a writer's packet. A field port's FLOW is that of the originator (R245). -/
def execPacketCommit (w : Fin 89) (payload : List Byte) (stamp : Nat) (qual : Byte) (srcInfo : List Byte) (s : State) :
    Host.Outcome State Fault Refusal :=
  s.done (s.packetCommit w.val payload stamp qual.toNat 0
    (if w.val < 64 then s.frameFlow w.val ((field srcInfo 6 1).testBit 0) payload else 0) srcInfo)

/-! ## What a port transmits -/

/-- A packet for a port's medium: its first cell, payload, flow, priority, and whether it asks for an acknowledgement and for application protection (log entry 13). -/
structure TxPacket where
  cell : Nat
  payload : List Byte
  flow : Nat
  prio : Nat
  ar : Bool
  prot : Bool
  deriving DecidableEq, Repr

/-- The queues whose consumer is of a type and index (R222), lowest first; the mirror link has no index. DESIGN CHOICE, unsafe: log entry 14. -/
def State.queuesOf (s : State) (cons idx : Nat) : List Nat :=
  ((s.cru.queues.map (fun e => e.1)).filter (fun q => (s.queue q).head != 0xFFFF && s.consumer q == cons && (cons == 5 || s.rd (F.CRU_QCFG_IDX q) == idx)))

/-- Takes the next packet of a consumer, lowest-numbered queue first (log entry 14); poisoned packets are discarded on the way (R230). DESIGN CHOICE, unsafe: log entry 14. -/
def State.takeTx (s : State) (cons idx : Nat) : Nat → Option Nat × State
  | 0 => (none, s)
  | fuel + 1 =>
    match (s.queuesOf cons idx).findSome? (fun q => s.popQueue q) with
    | none => (none, s)
    | some (c, t) => if t.pktPoison c then ((t.releasePacket c).sat F.CRU_POISON_DROP).takeTx cons idx fuel else (some c, t)

/-- The packet in a cell as a port reads it. DESIGN CHOICE, unsafe: log entry 13. -/
def State.txPacket (s : State) (c : Nat) : TxPacket :=
  let h := s.pktBytes c 0 32
  { cell := c, payload := s.pktPayload c, flow := field h 16 4 % 2 ^ 20, prio := field h 24 1 % 4
    ar := (field h 24 1).testBit 2, prot := (field h 24 1).testBit 3 }

/-- The entry of a flow (R192). -/
def State.nbrByFlow (s : State) (f : Nat) : Option Nat :=
  (List.find? (fun e : Nat × Nbr => e.1 < 65536 && e.2.flow == f && e.2.st != .free) s.gate.nbr).map (fun e => e.1)

/-- The types of the items of an application content (R259). -/
def itemTypes : Nat → List Byte → List Nat
  | fuel + 1, t :: l :: b => if b.length < l.toNat then [] else t.toNat :: itemTypes fuel (b.drop l.toNat)
  | _, _ => []

/-- Is a content refused now: an activation of a node image, while the unit holds no CONTROL grant (R485)? -/
def State.activationBarred (s : State) (b : List Byte) : Bool := s.rd F.CLM_CTRL_STAT != 2 && (itemTypes b.length b).contains 0x12

/-- The payload a port sends to an entry: under application protection where the packet asks for it (R199, R207); none where the downlink counters are used up, no key is installed, or the content is refused. -/
def State.downPayload (s : State) (i : Nat) (p : TxPacket) : Option (List Byte) × State :=
  if !p.prot then (some p.payload, s)
  else if s.activationBarred p.payload then (none, s)
  else
    let x := s.nbr i
    let key := if x.aact = 0 then (s.nbrKeys i).dn0 else (s.nbrKeys i).dn1
    match key with
    | none => (none, s)
    | some key =>
      match s.takeDown i with
      | (none, t) => (none, t)
      | (some ic, t) =>
        let hdr := be 1 (0x18 + 4 * x.aact) ++ be 8 x.eui ++ be 4 ic
        (some (hdr ++ Config.gcmSeal key (be 8 x.eui ++ be 4 ic) hdr p.payload), t)

/-- The link MIC a port appends toward an entry (R195): under the entry's link key, with the unit's own EUI in the nonce. -/
def State.linkMic (s : State) (i seq : Nat) (auth : List Byte) : List Byte :=
  match (s.nbrKeys i).link with
  | some key => (Config.ccmMic key (be 8 s.fuses.serial ++ be 4 seq ++ be 1 5) auth ++ be 4 0).take 4
  | none => []

end Sys2Proof.Machine
end

