-- ==== Sys2Proof/Machine/Bezel.lean ====
section
/-!
DEFINITION. Bezel, the display driver (R545 to R556): rails and clearing, LCD frames, e-paper waveforms, the frame memory and its checksum, the legal page and the button.
-/
namespace Sys2Proof.Machine

/-! ## The panel -/

/-- Changes Bezel's state. -/
def State.setDsp (s : State) (d : Dsp) : State := { s with dsp := d }

/-- Does a panel type show LCD frames (R545)? -/
def isLcd (typ : Nat) : Bool := typ == 1 || typ == 2

/-- The commons a panel is driven with (R545): COMS + 1, the nearest number that the type allows. -/
def commons (typ coms : Nat) : Nat :=
  if typ = 1 then min 4 (coms + 1) else if typ = 2 then max 2 (coms + 1) else if typ = 3 then 1 else 0

/-- How many segments the panel in force has (R545). -/
def Dsp.segments (d : Dsp) : Nat := 56 * commons d.typ d.coms

/-- The front light follows FL_EN once the panel is cleared (R546). -/
def State.lightFollow (s : State) : State :=
  let want := s.dsp.ready && s.on F.DSP_FL_EN
  if want then (s.setDsp { s.dsp with light := true }).emit (.light (min 1000 (s.rd F.DSP_FL_DUTY)))
  else if s.dsp.light then (s.setDsp { s.dsp with light := false }).emit (.light 0) else s

/-- A signed byte. -/
def signed8 (v : Nat) : Int := if v < 128 then (v : Int) else (v : Int) - 256

/-- The panel temperature (R550): TEMP_HOST while it is the source and fresh, else Tj plus OFS. -/
def State.panelTemp (s : State) : Int :=
  if s.on F.DSP_TEMP_SRC && !s.on F.DSP_TEMP_STAT_STALE then signed8 (s.rd F.DSP_TEMP_HOST)
  else signed8 (s.rd F.LDG_TJ) + signed8 (s.rd F.DSP_TEMP_OFS)

/-- The seven edges of the temperature bands. -/
def State.epdEdges (s : State) : List Int :=
  (List.range 7).map (fun k => signed8 ((s.rd F.DSP_EPD_EDGE_LO + 2 ^ 32 * s.rd F.DSP_EPD_EDGE_HI) / 256 ^ k % 256))

/-- The band of the present temperature (R550): the edges at or below it. -/
def State.panelBand (s : State) : Nat := (s.epdEdges.filter (fun e => decide (e ≤ s.panelTemp))).length

/-- Brings TEMP_STAT up to date. -/
def State.tempSync (s : State) : State :=
  (s.wr F.DSP_TEMP_STAT_BAND s.panelBand).wr F.DSP_TEMP_STAT_TEMP (s.panelTemp % 256).toNat

/-! ## Images -/

/-- The words of an image, segment 32w + b in bit b of word w (R552). -/
def imageWords (img : Nat) : List Nat := (List.range 14).map (fun w => img / 2 ^ (32 * w) % 2 ^ 32)

/-- The CRC-32 of an image (R552). -/
def imageCrc (img : Nat) : Nat := crc32 ((imageWords img).flatMap (fun w => be 4 w))

/-- The staged image. -/
def State.stagedImage (s : State) : Nat := (List.range 14).foldl (fun a w => a + s.rd (F.DSP_FB w) * 2 ^ (32 * w)) 0

/-- Loads both frame-memory copies with an image (R547, R552). -/
def State.loadFrame (s : State) (img : Nat) : State :=
  (s.setDsp { s.dsp with fm0 := img, fm1 := img, fmOn := true }).wr F.DSP_FM_CRC (imageCrc img)

/-- Is an update in progress: a drive that runs or waits? -/
def State.updSync (s : State) : State := s.wr F.DSP_UPD_STAT_BUSY (b2n (s.dsp.run.isSome || !s.dsp.todo.isEmpty))

/-! ## E-paper waveforms (R549) -/

/-- A band's phase words: up to 32, ended by a phase of 0 frames. -/
def State.waveform (s : State) (b : Nat) : List Nat :=
  ((List.range 32).map (fun p => s.rd (F.DSP_WAVE b (p / 2)) / 65536 ^ (p % 2) % 65536)).takeWhile (fun w => w % 256 != 0)

/-- The drive code of a phase for a segment that goes from old to new, 1 for black. -/
def phaseCode (w : Nat) (old new : Bool) : Nat := w / 4 ^ (4 + (if new then 2 else 0) + (if old then 1 else 0)) % 4

/-- The net frames toward black that a waveform drives in a transition. DEDUCED, unsafe: log entry 124. -/
def netBlack (l : List Nat) (old new : Bool) : Int :=
  (l.map (fun w => if phaseCode w old new = 2 then ((w % 256 : Nat) : Int) else if phaseCode w old new = 1 then -((w % 256 : Nat) : Int) else 0)).sum

/-- Is a waveform balanced (R549)? -/
def waveOk (l : List Nat) : Bool :=
  netBlack l false false == 0 && netBlack l true true == 0 && netBlack l false true == -netBlack l true false

/-- All segments black. -/
def Dsp.allBlack (d : Dsp) : Nat := 2 ^ d.segments - 1

/-- The image a draw aims at. -/
def Draw.target (d : Dsp) : Draw → Nat
  | .black => d.allBlack
  | .white => 0
  | .host img => img
  | .own img => img

/-- The old state a draw starts from: a full clear treats every segment's as the opposite of its target (R547). -/
def Draw.from_ (d : Dsp) : Draw → Nat
  | .black => 0
  | .white => d.allBlack
  | _ => d.old

/-- The drive codes of a frame, two bits a segment. -/
def frameDrives (n w old new : Nat) : Nat :=
  (List.range n).foldl (fun a k => a + phaseCode w (old.testBit k) (new.testBit k) * 4 ^ k) 0

/-- Puts the frame of the phase under way on the panel. -/
def State.epdEmit (s : State) : State :=
  match s.dsp.run with
  | some r => s.emit (.epdFrame (frameDrives 56 (r.phases.headD 0) (r.draw.from_ s.dsp) (r.draw.target s.dsp)))
  | none => s

/-- The panel is cleared: the front light may go on (R546). -/
def State.panelReady (s : State) : State := (s.setDsp { s.dsp with ready := true }).lightFollow

/-- A host image is on the panel (R551): both counters. DEDUCED, unsafe: log entry 124. -/
def State.updateDone (s : State) (img : Nat) : State :=
  (((s.setDsp { s.dsp with host := img }).wrap F.DSP_UPDATES).ledgerAdd 19 1).wr F.DSP_UPD_STAT_RES 1

/-- An e-paper image is complete (R551): the AON copy and its flag. -/
def State.epdCommit (s : State) (img : Nat) : State :=
  (((s.setDsp { s.dsp with old := img }).wr F.DSP_AON_IMG_LO img).wr F.DSP_AON_IMG_HI (img / 2 ^ 32)).wr F.DSP_AON_COMMITTED 1

/-- The end of an e-paper drive (R547, R551). -/
def State.epdDone (s : State) (d : Draw) : State :=
  let s1 := s.setDsp { s.dsp with run := none }
  match d with
  | .black => s1.setDsp { s1.dsp with old := s1.dsp.allBlack }
  | .white => (((s1.setDsp { s1.dsp with old := 0 }).wr F.DSP_UPD_STAT_CLEAR_PEND 0)).panelReady
  | .host img => ((s1.epdCommit img).updateDone img).raise Pg.DSP 0
  | .own img => s1.epdCommit img

/-- Is a draw part of a full clear? -/
def Draw.isClear : Draw → Bool
  | .black => true
  | .white => true
  | _ => false

/-- Schedules a full clear (R550, R556). -/
def State.scheduleClear (s : State) : State := (s.wr F.DSP_UPD_STAT_CLEAR_PEND 1).raise Pg.DSP 3

/-- The band jumps by more than two (R550). -/
def State.bandFar (s : State) : Bool :=
  match s.dsp.band with
  | some b => decide (b + 2 < s.panelBand) || decide (s.panelBand + 2 < b)
  | none => false

/-- The draws that wait, a scheduled full clear before them (R550). -/
def State.withClear (s : State) : List Draw :=
  match s.dsp.todo with
  | [] => []
  | d :: ds => if !d.isClear && s.on F.DSP_UPD_STAT_CLEAR_PEND then .black :: .white :: d :: ds else d :: ds

/-- Starts an e-paper drive (R549, R550): the band is latched and its waveform copied and checked. A waveform without a phase ends at once. -/
def State.epdStart (s0 : State) (d : Draw) (ds : List Draw) : State :=
  let s := s0.tempSync
  let w := s.waveform s.panelBand
  if !waveOk w then
    ((s.setDsp { s.dsp with todo := [], held := false }).wr F.DSP_UPD_STAT_RES 4).wr F.DSP_UPD_STAT_CLEAR_PEND (if d.isClear then 1 else s.rd F.DSP_UPD_STAT_CLEAR_PEND)
  else
    let s1 := s.setDsp { s.dsp with todo := ds, band := some s.panelBand }
    if w.isEmpty then s1.epdDone d
    else ((s1.setDsp { s1.dsp with run := some ⟨d, s.panelBand, w, w.headD 0 % 256, false⟩ }).wr F.DSP_AON_COMMITTED 0).epdEmit

/-- The e-paper drives that wait start, one after the other. -/
def State.epdGo (s : State) : Nat → State
  | 0 => s
  | n + 1 =>
    if s.dsp.typ != 3 || s.dsp.run.isSome || s.dsp.seq.isSome || s.dsp.discharge || s.dsp.todo.isEmpty then s
    else
      let s1 := if s.bandFar && !s.on F.DSP_UPD_STAT_CLEAR_PEND && !((s.dsp.todo.headD .white).isClear) then s.scheduleClear else s
      match s1.withClear with
      | [] => s1
      | d :: ds => (s1.epdStart d ds).epdGo n

/-! ## The host's image -/

/-- A GO (R551, R552, R555): refused, held until the panel is free, or taken. -/
def State.dspGo (s : State) : State :=
  let img := s.stagedImage
  if s.dsp.typ = 0 then s.wr F.DSP_UPD_STAT_RES 5
  else if s.on F.DSP_UPD_STAT_LEGAL || s.dsp.seq.isSome || 0 < s.dsp.clearLeft then s.setDsp { s.dsp with held := true }
  else if s.on F.DSP_UPD_STAT_BUSY then s.wr F.DSP_UPD_STAT_RES 3
  else if imageCrc img != s.rd F.DSP_UPD_CRC then s.wr F.DSP_UPD_STAT_RES 2
  else
    let s1 := s.loadFrame img
    let s2 := (s1.setDsp { s1.dsp with crcBad := false, todo := s1.dsp.todo ++ [.host (img % 2 ^ s1.dsp.segments)] }).wr (F.INT_STAT Pg.DSP)
      (if s1.dsp.crcBad && (s1.rd (F.INT_STAT Pg.DSP)).testBit 2 then s1.rd (F.INT_STAT Pg.DSP) - 4 else s1.rd (F.INT_STAT Pg.DSP))
    s2.updPage Pg.DSP

/-- A GO that was held is applied once nothing stands in its way (R555). -/
def State.heldGo (s : State) : State :=
  if s.dsp.held && s.dsp.todo.isEmpty && s.dsp.run.isNone && s.dsp.legal.isEmpty && !s.on F.DSP_UPD_STAT_LEGAL && s.dsp.seq.isNone && s.dsp.clearLeft = 0 then
    ((s.setDsp { s.dsp with held := false }).wr F.DSP_UPD_STAT_BUSY 0).dspGo
  else s

/-- Whatever can go on goes on: drives that wait, then a held GO. -/
def State.dspSettle (s : State) : State := (((s.epdGo 8).updSync.heldGo).epdGo 8).updSync

/-- A write of DSP.UPD (R551, R556). -/
def State.dspUpdWrite (s : State) (v : Word) : State :=
  let s1 := if bit v 1 then s.scheduleClear else s
  if bit v 0 then s1.dspGo.dspSettle else s1

/-- DISPLAY_UPDATE (R552). -/
def execDisplayUpdate (m : Master) (v : Word) (s : State) : Host.Outcome State Fault Refusal :=
  s.done (s.guarded m Pg.DSP 0x60 (fun s => s.dspUpdWrite v))

/-- DISPLAY_CLEAR (R556). -/
def execDisplayClear (m : Master) (v : Word) (s : State) : Host.Outcome State Fault Refusal :=
  s.done (s.guarded m Pg.DSP 0x60 (fun s => s.dspUpdWrite v))

/-! ## Frames -/

/-- An e-paper frame ends (R549, R553). -/
def State.epdFrame (s : State) : State :=
  match s.dsp.run with
  | none => s
  | some r =>
    if r.cut then (s.setDsp { s.dsp with run := none, discharge := true }).emit .linesV0
    else if 1 < r.left then (s.setDsp { s.dsp with run := some { r with left := r.left - 1 } }).epdEmit
    else match r.phases.tail with
      | [] => (s.epdDone r.draw).dspSettle
      | w :: ws => (s.setDsp { s.dsp with run := some { r with phases := w :: ws, left := w % 256 } }).epdEmit

/-- EPD_FRAME (R549). -/
def execEpdFrame (s : State) : Host.Outcome State Fault Refusal := s.done (if s.domOn Dom.IOX then s.epdFrame else s)

/-- A new LCD image takes effect at the start of a pair of frames (R548). -/
def State.lcdTake (s : State) : State :=
  match s.dsp.todo with
  | [] => s
  | d :: ds =>
    let s1 := s.setDsp { s.dsp with todo := ds, shown := d.target s.dsp }
    match d with
    | .host img => s1.updateDone img
    | _ => s1

/-- An LCD frame ends (R547, R548): the polarity reverses, and a clear counts down; one that found both copies bad begins with the next pair of frames. -/
def State.lcdFrame (s : State) : State :=
  let s1 := s.setDsp { s.dsp with negative := !s.dsp.negative, clearLeft := s.dsp.clearLeft - 1, shown := if s.dsp.clearLeft = 3 then 0 else s.dsp.shown }
  let s2 := if s.dsp.clearLeft = 1 && !s.dsp.ready then s1.panelReady else s1
  let s3 := if !s2.dsp.negative && s2.dsp.clearLeft = 0 then s2.lcdTake else s2
  s3.dspSettle.emit (.lcdFrame s3.dsp.shown s3.dsp.negative (commons s3.dsp.typ s3.dsp.coms) (if s3.dsp.inv = 3 || commons s3.dsp.typ s3.dsp.coms = 1 then 0 else s3.dsp.inv))

/-- LCD_FRAME (R548). -/
def execLcdFrame (s : State) : Host.Outcome State Fault Refusal :=
  s.done (if s.domOn Dom.IOX && isLcd s.dsp.typ && s.dsp.seq.isNone then s.lcdFrame else s)

/-- The check of both copies against FM_CRC (R552). -/
def State.frameCheck (s : State) : State :=
  let ok0 := imageCrc s.dsp.fm0 == s.rd F.DSP_FM_CRC
  let ok1 := imageCrc s.dsp.fm1 == s.rd F.DSP_FM_CRC
  let bad := fun (t : State) => (t.setDsp { t.dsp with crcBad := true }).raise Pg.DSP 2
  if ok0 && ok1 then s
  else if ok0 then bad ((s.setDsp { s.dsp with fm1 := s.dsp.fm0 }).sat F.DSP_CRC_ERR)
  else if ok1 then bad ((s.setDsp { s.dsp with fm0 := s.dsp.fm1 }).sat F.DSP_CRC_ERR)
  else
    let s1 := bad (s.wr F.DSP_UPD_STAT_RES 7)
    if isLcd s1.dsp.typ then (s1.setDsp { s1.dsp with clearLeft := if s1.dsp.negative then 3 else 4 }).loadFrame 0 else s1

/-- FRAME_CRC_CHECK (R552). -/
def execFrameCrcCheck (flip0 flip1 : Nat) (s : State) : Host.Outcome State Fault Refusal :=
  s.done (if s.domOn Dom.IOX && s.dsp.fmOn then
      (s.setDsp { s.dsp with fm0 := s.dsp.fm0 ^^^ (flip0 % 2 ^ 448), fm1 := s.dsp.fm1 ^^^ (flip1 % 2 ^ 448) }).frameCheck
    else s)

/-! ## Rails (R546, R547, R553) -/

/-- The rails are up: the panel is cleared (R547). -/
def State.railsUp (s : State) : State :=
  let s1 := s.setDsp { s.dsp with seq := none }
  if isLcd s1.dsp.typ then (s1.setDsp { s1.dsp with clearLeft := 2, shown := 0, negative := false }).loadFrame 0
  else if s1.on F.DSP_AON_COMMITTED then
    (let img := s1.rd F.DSP_AON_IMG_LO + 2 ^ 32 * s1.rd F.DSP_AON_IMG_HI
     ((s1.setDsp { s1.dsp with old := img, host := img }).panelReady).dspSettle)
  else (s1.setDsp { s1.dsp with todo := [.black, .white] }).dspSettle

/-- The next enabled rail rises. -/
def State.railRise (s : State) (k : Nat) : State :=
  let want := (List.range 3).filter (fun i => decide (k ≤ i) && (s.rd F.DSP_CTL_RAILS).testBit i)
  match want with
  | [] => s.railsUp
  | i :: rest =>
    let s1 := (s.setDsp { s.dsp with rails := s.dsp.rails ||| BitVec.ofNat 3 (2 ^ i) }).emit (.rail i true)
    if rest.isEmpty then s1.railsUp else s1.setDsp { s1.dsp with seq := some (.rising (i + 1)) }

/-- Bezel powers the panel up (R545, R546): type, commons and inversion take effect. -/
def State.panelUp (s : State) : State :=
  if s.rd F.DSP_CTL_TYPE = 0 then s.setDsp {}
  else (s.setDsp { typ := s.rd F.DSP_CTL_TYPE, coms := s.rd F.DSP_CTL_COMS, inv := s.rd F.DSP_CTL_INV }).railRise 0

/-- The highest rail that is up falls; with none left the panel is off. -/
def State.railFall (s : State) : State :=
  match [2, 1, 0].find? (fun i => s.dsp.rails.getLsbD i) with
  | some i => (s.setDsp { s.dsp with rails := s.dsp.rails &&& ~~~(BitVec.ofNat 3 (2 ^ i)), seq := some .falling }).emit (.rail i false)
  | none => s.setDsp {}

/-- The panel powers down (R546): light off, lines at V0, rails in reverse. -/
def State.panelDown (s : State) : State :=
  let s1 := if s.dsp.light then s.emit (.light 0) else s
  ((s1.setDsp { s1.dsp with ready := false, light := false, todo := [], legal := [], held := false, clearLeft := 0 }).emit .linesV0).railFall

/-- Bezel stops for HOLDUP or a reset (R553, R554): an e-paper update ends with its frame and is ABORTED; any other panel powers down. -/
def State.bezelStop (s : State) : State :=
  if s.dsp.typ = 0 || s.dsp.discharge || s.dsp.seq = some .falling then s
  else match s.dsp.run with
    | some r =>
      let s1 := if s.dsp.light then s.emit (.light 0) else s
      ((s1.setDsp { s1.dsp with run := some { r with cut := true }, todo := [], legal := [], held := false, ready := false, light := false }).wr F.DSP_UPD_STAT_RES 6).wr F.DSP_UPD_STAT_BUSY 0
    | none => s.panelDown

/-- Has Bezel still to complete the e-paper path of R553 (R554)? -/
def State.bezelBusy (s : State) : Bool := s.dsp.typ == 3 && (s.dsp.run.isSome || s.dsp.discharge || s.dsp.seq == some .falling)

/-- A rail delay ends (R546). -/
def State.railStep (s : State) : State :=
  match s.dsp.seq with
  | some (.rising k) => s.railRise k
  | some .falling => s.railFall
  | none => s

/-- The discharge ends and the rails drop (R553). -/
def State.dischargeEnd (s : State) : State :=
  if s.dsp.discharge then (s.setDsp { s.dsp with discharge := false }).panelDown else s

/-- A write of DSP.CTL (R545, R546): a change from no panel to one powers it up. -/
def State.dspCtlWrite (s : State) : State := if s.dsp.typ = 0 && s.rd F.DSP_CTL_TYPE != 0 then s.panelUp else s

/-! ## Temperature, button and legal page -/

/-- TEMP_STALE (R550): 600 s without a write of TEMP_HOST. -/
def execTempStale (s : State) : Host.Outcome State Fault Refusal :=
  s.done (if s.domOn Dom.IOX && s.on F.DSP_TEMP_SRC && !s.on F.DSP_TEMP_STAT_STALE then
      ((s.wr F.DSP_TEMP_STAT_STALE 1).raise Pg.DSP 5).tempSync
    else s)

/-- The segments a to g that show a hexadecimal digit, in the forms 0–9, A, b, C, d, E and F (R555). -/
def digitSegs : Nat → List Nat
  | 0 => [0, 1, 2, 3, 4, 5]
  | 1 => [1, 2]
  | 2 => [0, 1, 3, 4, 6]
  | 3 => [0, 1, 2, 3, 6]
  | 4 => [1, 2, 5, 6]
  | 5 => [0, 2, 3, 5, 6]
  | 6 => [0, 2, 3, 4, 5, 6]
  | 7 => [0, 1, 2]
  | 8 => [0, 1, 2, 3, 4, 5, 6]
  | 9 => [0, 1, 2, 3, 5, 6]
  | 10 => [0, 1, 2, 4, 5, 6]
  | 11 => [2, 3, 4, 5, 6]
  | 12 => [0, 3, 4, 5]
  | 13 => [1, 2, 3, 4, 6]
  | 14 => [0, 3, 4, 5, 6]
  | _ => [0, 4, 5, 6]

/-- The segment index of segment j of a digit position. -/
def State.digitSeg (s : State) (pos j : Nat) : Nat := s.rd (F.DSP_DIG pos (j / 2)) / 65536 ^ (1 - j % 2) % 65536

/-- The segments that show digits at the positions from 0 on, with the indicator segment (R555). -/
def State.digitImage (s : State) (digits : List Nat) : Nat :=
  let segs := s.rd F.DSP_LEGAL_SEG :: digits.zipIdx.flatMap (fun e : Nat × Nat => (digitSegs e.1).map (fun j => s.digitSeg e.2 j))
  (segs.filter (fun k => decide (k < s.dsp.segments))).foldl (fun a k => if a.testBit k then a else a + 2 ^ k) 0

/-- The mapped digit positions. -/
def State.digitCount (s : State) : Nat := min 16 (s.rd F.DSP_DIGITS)

/-- The groups a view is shown in (R555): whole where it has the positions, else four digits in turn. -/
def groups (n : Nat) (l : List Nat) : List (List Nat) :=
  if l.length ≤ n then [l] else (List.range (l.length / 4)).map (fun g => (l.drop (4 * g)).take 4)

/-- The images of the legal page, in order: the firmware identifier and the check value. -/
def State.legalViews (s : State) : List Nat :=
  let fw := (List.range 8).map (fun i => s.rd F.DSP_LEGAL_FW / 16 ^ (7 - i) % 16)
  let chk := (List.range 12).map (fun i => (s.rd F.DSP_LEGAL_CHK_HI * 65536 + s.rd F.DSP_LEGAL_CHK_LO) / 16 ^ (11 - i) % 16)
  (groups s.digitCount fw ++ groups s.digitCount chk).map (fun l => s.digitImage l)

/-- Can a legal page be shown (CAP bit 0, R555)? DEDUCED, unsafe: log entry 125. -/
def State.canShowLegal (s : State) : Bool := decide (4 ≤ s.digitCount)

/-- The legal page is shown (R555). DEDUCED, unsafe: log entry 125. -/
def State.legalShow (s : State) : State :=
  if !s.canShowLegal || !s.dsp.ready || s.on F.DSP_UPD_STAT_LEGAL then s
  else match s.legalViews with
    | [] => s
    | v :: vs => (((s.setDsp { s.dsp with legal := vs, todo := s.dsp.todo ++ [.own v] }).wr F.DSP_UPD_STAT_LEGAL 1).raise Pg.DSP 4).dspSettle

/-- BUTTON_PRESS (R555): the press is debounced for 20 ms and acts by its length. -/
def execButtonPress (ms : Nat) (s : State) : Host.Outcome State Fault Refusal :=
  s.done (if !s.domOn Dom.IOX || ms < 20 then s
    else
      let s1 := s.wrap F.DSP_BTN_CNT
      let s2 := if 50 ≤ ms && ms ≤ 2000 then s1.raise Pg.DSP 1 else s1
      if 2000 ≤ ms then s2.legalShow else s2)

/-- The legal page moves on, at its end back to the host's image (R555). -/
def State.legalNext (s : State) : State :=
  match s.dsp.legal with
  | v :: vs => (s.setDsp { s.dsp with legal := vs, todo := s.dsp.todo ++ [.own v] }).dspSettle
  | [] => ((s.setDsp { s.dsp with todo := s.dsp.todo ++ [.own s.dsp.host] }).wr F.DSP_UPD_STAT_LEGAL 0).dspSettle

/-- LEGAL_VIEW_NEXT (R555). -/
def execLegalViewNext (s : State) : Host.Outcome State Fault Refusal :=
  s.done (if s.domOn Dom.IOX && s.on F.DSP_UPD_STAT_LEGAL then s.legalNext else s)

/-- At the end of BOOT the legal page's values are copied (R555): the firmware identifier and the first bytes of the stage-2 measurement. -/
def State.bezelLegal (s : State) (fw : Nat) : State :=
  let chk := ofBe ((SMap.getD s.sec.meas 2 (be 48 0)).take 6)
  ((s.wr F.DSP_LEGAL_FW fw).wr F.DSP_LEGAL_CHK_HI (chk / 65536)).wr F.DSP_LEGAL_CHK_LO chk

end Sys2Proof.Machine
end

