-- ==== Sys2Proof/Machine/Keys.lean ====
section
/-!
DEFINITION. The security controller (chapter 17): key slots and invocations, derivation, Anneal, the life cycle, debug requests, certificates and attestation; and the installation of node keys (R203).
-/
namespace Sys2Proof.Machine

/-! ## Key slots -/

/-- The XOR of two byte strings: a key as it reaches an engine (R461). -/
def xorBytes (a b : List Byte) : List Byte := List.zipWith (fun x y => x ^^^ y) a b

/-- A slot (R452). -/
def State.slot (s : State) (i : Nat) : KeySlot := SMap.getD s.sec.slots i {}

/-- The key a slot holds (R461). -/
def KeySlot.key (k : KeySlot) : List Byte := xorBytes k.sum k.mask

/-- The key of a slot. -/
def State.keyOf (s : State) (i : Nat) : List Byte := (s.slot i).key

/-- How many slots are not EMPTY. -/
def State.keysUsed (s : State) : Nat := (s.sec.slots.filter (fun e => e.2.typ != 0)).length

/-- Sets a slot. -/
def State.setSlot (s : State) (i : Nat) (k : KeySlot) : State :=
  let t := { s with sec := { s.sec with slots := SMap.set s.sec.slots i k } }
  t.wr F.KEYS_USED t.keysUsed

/-- Bytes from the TRNG: a free value. -/
def State.random (s : State) (n : Nat) : List Byte × State := (be n (s.freeVal (256 ^ n)), s.tookFree)

/-- A slot with a key placed under a new mask. -/
def State.placeKey (s : State) (i : Nat) (k : KeySlot) (key : List Byte) : State :=
  let (m, t) := s.random key.length
  t.setSlot i { k with sum := xorBytes key m, mask := m }

/-- Bytes of a key of a type; 0 for a type that no key has. -/
def keyLen (typ : Nat) : Nat :=
  match typ with
  | 1 => 16 | 2 => 32 | 3 => 48 | 4 => 48 | 5 => 97 | _ => 0

/-- An attribute word (R453). -/
def attrOf (masters : Nat) (secure : Bool) (lcmask usage expiry : Nat) : Nat :=
  masters * 2 ^ 56 + b2n secure * 2 ^ 55 + lcmask * 2 ^ 48 + usage * 2 ^ 32 + expiry

/-- EXPIRY of an attribute word. -/
def attrExpiry (a : Nat) : Nat := a % 2 ^ 32

/-- Usage bits (R455). -/
def Use.UNWRAP : Nat := 3
def Use.NODE_UNWRAP : Nat := 4
def Use.LINK_MIC : Nat := 6
def Use.HMAC : Nat := 7
def Use.SEAL_SIGN : Nat := 8
def Use.ATTEST_SIGN : Nat := 9
def Use.CERT_SIGN : Nat := 10
def Use.SIGN : Nat := 11
def Use.ANCHOR : Nat := 12

/-- Master bits (R453). -/
def Mst.APP : Nat := 0
def Mst.LGL : Nat := 2
def Mst.HOST : Nat := 3
def Mst.SMP : Nat := 4
def Mst.CHN : Nat := 5
def Mst.ENG : Nat := 6
def Mst.SEC : Nat := 7

/-- The master bit of a master of the register window (R453, R454). -/
def invoker (m : Master) : Nat :=
  match m with
  | .pcie => Mst.HOST | .app => Mst.APP | .smp => Mst.SMP | .lgl => Mst.LGL

/-- Is a write of a master a secure-world one (R454)? The LEGAL core's is, and an APP core's in machine mode. -/
def secureWrite (m : Master) (machine : Bool) : Bool := m == .lgl || (m == .app && machine)

/-- Do a slot's attributes allow an invocation (R456)? -/
def State.keyAllows (s : State) (i master : Nat) (secure : Bool) (usage : Nat) : Bool :=
  let a := (s.slot i).attr
  (s.slot i).typ != 0 && a.testBit (56 + master) && (secure || !a.testBit 55) && a.testBit (48 + s.fuses.lc) && a.testBit (32 + usage) &&
    (attrExpiry a == 0 || decide (s.ledgerTime < attrExpiry a))

/-- Records a refused invocation (R456). -/
def State.keyDeny (s : State) (i master usage : Nat) : State :=
  let s1 := s.sat F.KEYS_DENY_CNT
  let s2 := if s1.on F.KEYS_DENY_LOG_VALID then s1
    else (((s1.wr F.KEYS_DENY_LOG_VALID 1).wr F.KEYS_DENY_LOG_USAGE usage).wr F.KEYS_DENY_LOG_MASTER master).wr F.KEYS_DENY_LOG_SLOT i
  s2.raise Pg.KEYS 1

/-- Invokes a slot as it stood when the operation began (R23, R456): its key, or none and the refusal recorded. -/
def State.invokeWith (s : State) (k : KeySlot) (i master : Nat) (secure : Bool) (usage : Nat) : Option (List Byte) × State :=
  if (s.setSlot i k).keyAllows i master secure usage then (some k.key, s) else (none, s.keyDeny i master usage)

/-- Invokes a slot (R456): its key, or none and the refusal recorded. -/
def State.invoke (s : State) (i master : Nat) (secure : Bool) (usage : Nat) : Option (List Byte) × State :=
  if s.keyAllows i master secure usage then (some (s.keyOf i), s) else (none, s.keyDeny i master usage)

/-! ## Derivation -/

/-- The key derivation of R462: NIST SP 800-108 in counter mode, `n` bytes from at most two blocks. -/
def kdf (kdk label ctx : List Byte) (n : Nat) : List Byte :=
  let blk (i : Nat) := Config.hmac kdk (be 4 i ++ label ++ be 1 0 ++ ctx ++ be 4 (8 * n))
  ((if 48 < n then blk 1 ++ blk 2 else blk 1) ++ be n 0).take n

/-- An EC private key from 448 bits (R462). -/
def ecPriv (c : List Byte) : List Byte := be 48 (ofBe c % (Config.curveOrder - 1) + 1)

/-- Does the test root take the place of the device secret (R464)? -/
def State.testRoot (s : State) : Bool :=
  s.fuses.lc == 0 || 4 ≤ s.fuses.lc || (s.role != 2 && s.rd F.DBG_LEVEL != 0)

/-- The measurement of a stage (R465). -/
def State.measure (s : State) (j : Nat) : List Byte := if j = 0 then Config.romMeasure else SMap.getD s.sec.meas j (be 48 0)

/-- The chained secrets of the largest configuration (R463): CDI after stage j. -/
def State.cdi (s : State) (root : List Byte) : Nat → List Byte
  | 0 => Config.hmac root (s.measure 0 ++ be 1 (s.rd F.DBG_LEVEL))
  | j + 1 => Config.hmac (s.cdi root j) (s.measure (j + 1))

/-- KDK of a slot (R463, R464). -/
def State.kdkOf (s : State) (i : Nat) : List Byte :=
  let root := if s.testRoot then Config.testRoot else s.fuses.ds
  if s.role = 2 then s.cdi root (if i = 2 then 5 else 0) else root

/-- The ASCII labels SEAL, IDENTITY, ATTEST, NODESTORE and STORAGE (R462). -/
def derivedLabel (i : Nat) : List Byte :=
  match i with
  | 0 => [0x53, 0x45, 0x41, 0x4C]
  | 1 => [0x49, 0x44, 0x45, 0x4E, 0x54, 0x49, 0x54, 0x59]
  | 2 => [0x41, 0x54, 0x54, 0x45, 0x53, 0x54]
  | 3 => [0x4E, 0x4F, 0x44, 0x45, 0x53, 0x54, 0x4F, 0x52, 0x45]
  | _ => [0x53, 0x54, 0x4F, 0x52, 0x41, 0x47, 0x45]

/-- The attribute word of a derived slot (R452). -/
def derivedAttr (i : Nat) : Nat :=
  let a (m u : Nat) := attrOf m true 0x0E u 0
  match i with
  | 0 => a 0x40 0x0100
  | 1 => a 0x80 0x0400
  | 2 => a 0x80 0x0200
  | 3 => a 0xC0 0x0020
  | _ => a 0x80 0x000C

/-- The key a derived slot gets (R462). -/
def State.derivedKey (s : State) (i : Nat) : List Byte :=
  let ctx := be 8 s.fuses.serial ++ be 1 s.role
  if i ≤ 2 then ecPriv (kdf (s.kdkOf i) (derivedLabel i) ctx 56) else kdf (s.kdkOf i) (derivedLabel i) ctx 32

/-- The node keys are usable only under the key-encryption key they are wrapped with (R193): a change of slot 3 puts them aside and brings those of the new key. DEDUCED, unsafe: log entry 94. -/
def State.useKek (s : State) (kek : List Byte) : State :=
  if s.sec.kek == kek then s
  else
    let aside := (s.sec.kek, s.gate.keys, s.gate.groupKeys) :: s.sec.otherKeks
    let found := (aside.find? (fun e => e.1 == kek)).map (fun e => e.2)
    { s with
      sec := { s.sec with kek := kek, otherKeks := aside.filter (fun e => e.1 != kek) }
      gate := { s.gate with keys := (found.map (fun e => e.1)).getD [], groupKeys := (found.map (fun e => e.2)).getD [] } }

/-- Derives slots 0 to 4 (R462, R463). -/
def State.deriveSlots (s : State) : State :=
  let s1 := [0, 1, 2, 3, 4].foldl (fun (t : State) i =>
    t.placeKey i { t.slot i with typ := if i ≤ 2 then 4 else 2, origin := 0, attr := derivedAttr i, persist := false, expired := false } (s.derivedKey i)) s
  (((s1.useKek (s1.keyOf 3)).wr F.SEC_STAT_DERIVED 1).wr F.SEC_STAT_TEST_ROOT (b2n s.testRoot)).wr F.SEC_STAT_DICE (b2n (s.role == 2))

/-- Restores the persisted slots at BOOT (R458): a blob that does not unwrap leaves its slot EMPTY and is kept. -/
def State.restoreKeys (s : State) : State :=
  s.sec.blobs.foldl (fun (t : State) (e : Nat × KeyBlob) =>
    match Config.unwrap (t.keyOf 4) e.2.wrapped with
    | some key => t.placeKey e.1 { typ := e.2.typ, origin := e.2.origin, attr := e.2.attr, persist := true, gen := (t.slot e.1).gen } key
    | none => (t.wr F.SEC_STAT_STK_FAIL 1).raise Pg.SEC 2) s

/-- Issues the alias and the seal-key certificate at BOOT (R466), valid from the provisioning date. -/
def State.issueCerts (s : State) : State :=
  let idk := s.keyOf 1
  let ext := (List.range 6).flatMap s.measure ++ be 1 (s.rd F.DBG_LEVEL)
  let from_ := s.ledger 28
  let c1 := SMap.set s.sec.certs 3 (Config.certIssue idk (Config.pubKey (s.keyOf 2)) from_ ext)
  { s with sec := { s.sec with certs := SMap.set c1 4 (Config.certIssue idk (Config.pubKey (s.keyOf 0)) from_ []) } }

/-- What SEC does with keys at BOOT (R458, R459, R462, R466); while the fuse read path is closed nothing is derived (R471). -/
def State.bootKeys (s : State) : State := if s.sec.noFuse then s else s.deriveSlots.restoreKeys.issueCerts

/-- Empties a slot (R457, R460, R469). -/
def State.zeroise (s : State) (i : Nat) (expired : Bool) : State :=
  s.setSlot i { gen := ((s.slot i).gen + 1) % 65536, expired := expired }

/-- Empties every slot, the vault slots included (R469, R470); slots 0 to 4 are then no longer derived (R472). -/
def State.zeroiseAll (s : State) : State := ((s.sec.slots.filter (fun e => e.2.typ != 0)).foldl (fun (t : State) (e : Nat × KeySlot) => t.zeroise e.1 false) s).wr F.SEC_STAT_DERIVED 0

/-! ## Slot commands -/

/-- The slot's attributes and information, loaded by a write of SEL (R473). -/
def State.keySelect (s : State) (v : Word) : State :=
  let i := bits v 7 0
  let k := s.slot i
  let s1 := ((s.wr F.KEYS_SEL i).wr F.KEYS_ATTR_LO k.attr).wr F.KEYS_ATTR_HI (k.attr / 2 ^ 32)
  ((((s1.wr F.KEYS_INFO_TYPE k.typ).wr F.KEYS_INFO_ORIGIN k.origin).wr F.KEYS_INFO_PERSIST (b2n k.persist)).wr F.KEYS_INFO_EXPIRED (b2n k.expired)).wr F.KEYS_INFO_GEN k.gen

/-- KEY_SELECT (R473). -/
def execKeySelect (m : Master) (v : Word) (s : State) : Host.Outcome State Fault Refusal :=
  s.done (s.guarded m Pg.KEYS 0x40 (fun s => s.keySelect v))

/-- The staged attribute word (R457); bits 54 and 47 to 45 are 0 in a stored word (R453, R455). -/
def State.staged (s : State) : Nat := s.rd F.KEYS_ATTR_HI * 2 ^ 32 + s.rd F.KEYS_ATTR_LO

/-- A staged word as it is stored for a slot: slots 8 to 13 have the MASTERS and USAGE of R452. DEDUCED, unsafe: log entry 93. -/
def attrStored (i a : Nat) : Nat :=
  let free := attrOf (a / 2 ^ 56 % 256) (a.testBit 55) (a / 2 ^ 48 % 64) (a / 2 ^ 32 % 2 ^ 13) (attrExpiry a)
  let fixed (m u : Nat) := attrOf m (a.testBit 55) (a / 2 ^ 48 % 64) u (attrExpiry a)
  if i = 8 then fixed 0x60 0x40 else if i = 9 then fixed 0x20 0x40
  else if 10 ≤ i && i ≤ 13 then fixed 0x80 0x1000 else free

/-- A KEYS command ends (R473). -/
def State.keyRes (s : State) (r : Nat) : State := (s.wr F.KEYS_RES r).raise Pg.KEYS 0

/-- The input bytes of KEYS.INw. -/
def State.keyIn (s : State) (n : Nat) : List Byte := ((List.range 25).flatMap (fun w => be 4 (s.rd (F.KEYS_IN w)))).take n

/-- May a slot take a command: an import, an import of a public key, or a generation (R445, R452)? -/
def State.slotTakes (s : State) (i op typ : Nat) : Bool :=
  if 16 ≤ i then true
  else if s.fuses.lc = 3 then false
  else if i = 8 || i = 9 then op == 1 && (typ == 1 || typ == 2)
  else if 10 ≤ i && i ≤ 12 then op == 2
  else if i = 13 then op == 2 && s.fuses.lc == 1
  else false

/-- Stores a new key in a slot, and its blob in the configuration image where it persists (R457, R458). DEDUCED, unsafe: log entry 93. -/
def State.storeKey (s : State) (i typ origin : Nat) (persist : Bool) (key : List Byte) : State :=
  let p := persist && 8 ≤ i && i < 240
  let attr := attrStored i s.staged
  let s1 := s.placeKey i { typ := typ, origin := origin, attr := attr, persist := p, gen := ((s.slot i).gen + 1) % 65536 } key
  if p then { s1 with sec := { s1.sec with blobs := SMap.set s1.sec.blobs i ⟨typ, attr, origin, Config.wrap (s1.keyOf 4) key⟩ } } else s1

/-- IMPORT (R457). -/
def State.keyImport (s : State) (m : Master) (machine : Bool) (v : Word) : State :=
  let i := s.rd F.KEYS_SEL
  let typ := bits v 3 0
  if !s.slotTakes i 1 typ then s.keyRes 5
  else if (s.slot i).typ != 0 then s.keyRes 8
  else if typ = 0 || 5 ≤ typ then s.keyRes 6
  else
    let (k, t) := s.invoke (bits v 23 16) (invoker m) (secureWrite m machine) Use.UNWRAP
    match k with
    | none => t.keyRes 3
    | some kek =>
      match Config.unwrap kek (t.keyIn (keyLen typ + 8)) with
      | none => t.keyRes 2
      | some key => (t.storeKey i typ 1 (bit v 4) key).keyRes 1

/-- IMPORT_PUB (R457). -/
def State.keyImportPub (s : State) (v : Word) : State :=
  let i := s.rd F.KEYS_SEL
  let p := s.keyIn 97
  if !s.slotTakes i 2 5 then s.keyRes 5
  else if (s.slot i).typ != 0 then s.keyRes 8
  else if 240 ≤ i || p.headD 0 != 4 || !Config.onCurve p then s.keyRes 6
  else (s.storeKey i 5 1 (bit v 4) p).keyRes 1

/-- GENERATE (R457). -/
def State.keyGenerate (s : State) (v : Word) : State :=
  let i := s.rd F.KEYS_SEL
  let typ := bits v 3 0
  if !s.slotTakes i 3 typ then s.keyRes 5
  else if (s.slot i).typ != 0 then s.keyRes 8
  else if typ = 0 || 5 ≤ typ then s.keyRes 6
  else
    let (r, t) := s.random (if typ = 4 then 56 else keyLen typ)
    (t.storeKey i typ 2 (bit v 4) (if typ = 4 then ecPriv r else r)).keyRes 1

/-- Forgets the blob of a persisted slot. -/
def State.dropBlob (s : State) (i : Nat) : State := { s with sec := { s.sec with blobs := SMap.erase s.sec.blobs i } }

/-- Is a slot reserved against ZEROISE and NARROW: derived, or reserved (R452)? -/
def slotFixed (i : Nat) : Bool := i ≤ 7 || i = 14 || i = 15

/-- ZEROISE (R457). -/
def State.keyZeroise (s : State) : State :=
  let i := s.rd F.KEYS_SEL
  if slotFixed i then s.keyRes 5 else (((s.zeroise i false).dropBlob i).raise Pg.KEYS 3).keyRes 1

/-- Does a staged word only narrow (R457)? -/
def narrows (old new : Nat) : Bool :=
  let sub (hi lo : Nat) : Bool := (new / 2 ^ lo % 2 ^ (hi + 1 - lo)) &&& (old / 2 ^ lo % 2 ^ (hi + 1 - lo)) == new / 2 ^ lo % 2 ^ (hi + 1 - lo)
  let eo := attrExpiry old
  let en := attrExpiry new
  sub 63 56 && sub 53 48 && sub 47 32 && (new.testBit 55 || !old.testBit 55) && !new.testBit 54 &&
    (en == eo || (en != 0 && (eo == 0 || decide (en < eo))))

/-- NARROW (R457). -/
def State.keyNarrow (s : State) : State :=
  let i := s.rd F.KEYS_SEL
  let k := s.slot i
  if slotFixed i then s.keyRes 5
  else if k.typ = 0 then s.keyRes 6
  else if !narrows k.attr s.staged then s.keyRes 4
  else
    let s1 := s.setSlot i { k with attr := s.staged, gen := (k.gen + 1) % 65536 }
    let s2 := match SMap.find? s1.sec.blobs i with
      | some b => { s1 with sec := { s1.sec with blobs := SMap.set s1.sec.blobs i { b with attr := s.staged } } }
      | none => s1
    s2.keyRes 1

/-- A write of KEYS.CMD (R457, R473); a code that names no command does nothing. -/
def State.keyCmd (s : State) (m : Master) (machine : Bool) (v : Word) : State :=
  if !bit v 31 then s
  else
    match bits v 27 24 with
    | 1 => s.keyImport m machine v
    | 2 => s.keyImportPub v
    | 3 => s.keyGenerate v
    | 4 => s.keyZeroise
    | 5 => s.keyNarrow
    | _ => s

/-- KEY_IMPORT (R457). -/
def execKeyImport (m : Master) (machine : Bool) (v : Word) (s : State) : Host.Outcome State Fault Refusal :=
  s.done (s.guarded m Pg.KEYS 0xB4 (fun s => s.keyCmd m machine v))
/-- KEY_IMPORT_PUB (R457). -/
def execKeyImportPub (m : Master) (machine : Bool) (v : Word) (s : State) : Host.Outcome State Fault Refusal :=
  s.done (s.guarded m Pg.KEYS 0xB4 (fun s => s.keyCmd m machine v))
/-- KEY_GENERATE (R457). -/
def execKeyGenerate (m : Master) (machine : Bool) (v : Word) (s : State) : Host.Outcome State Fault Refusal :=
  s.done (s.guarded m Pg.KEYS 0xB4 (fun s => s.keyCmd m machine v))
/-- KEY_ZEROISE (R457). -/
def execKeyZeroise (m : Master) (machine : Bool) (v : Word) (s : State) : Host.Outcome State Fault Refusal :=
  s.done (s.guarded m Pg.KEYS 0xB4 (fun s => s.keyCmd m machine v))
/-- KEY_NARROW (R457). -/
def execKeyNarrow (m : Master) (machine : Bool) (v : Word) (s : State) : Host.Outcome State Fault Refusal :=
  s.done (s.guarded m Pg.KEYS 0xB4 (fun s => s.keyCmd m machine v))

/-- KEY_EXPIRE (R460): a slot whose EXPIRY ledger time has reached is emptied. -/
def execKeyExpire (slot : Byte) (s : State) : Host.Outcome State Fault Refusal :=
  s.done (
    let k := s.slot slot.toNat
    if s.domOn Dom.SEC && k.typ != 0 && attrExpiry k.attr != 0 && decide (attrExpiry k.attr ≤ s.ledgerTime) then
      ((s.zeroise slot.toNat true).dropBlob slot.toNat).raise Pg.KEYS 2
    else s)

/-! ## Anneal -/

/-- Gives a slot a new mask; its key stays as it was (R461). -/
def State.remask (s : State) (i : Nat) : State :=
  let k := s.slot i
  if k.typ = 0 then s else s.placeKey i k k.key

/-- ANNEAL_PASS (R461): every slot, or the vault slots while SEC is off; only a pass over all slots counts in Patina. DEDUCED, unsafe: log entry 94. -/
def execAnnealPass (s : State) : Host.Outcome State Fault Refusal :=
  s.done (
    if s.mode = Md.OFF then s
    else if s.domOn Dom.SEC then
      ((s.sec.slots.foldl (fun (t : State) (e : Nat × KeySlot) => t.remask e.1) s).wrap F.SEC_ANNEAL_PASSES).ledgerAdd 20 1
    else (s.sec.slots.filter (fun e => 240 ≤ e.1)).foldl (fun (t : State) (e : Nat × KeySlot) => t.remask e.1) s)

/-! ## The life cycle -/

/-- The configuration image that is live (R51, R52): the P-class fields outside the legal partition (R55). DEDUCED, unsafe: log entry 92. -/
def State.cfgImage (s : State) : SMap Nat :=
  s.regs.filter (fun e => keyClass e.1 == 2 && !(keyPage e.1 == Pg.TAR || keyPage e.1 == Pg.OBJ || keyPage e.1 == Pg.LGL))

/-- CFG.CSTAT.DIRTY: a live field differs from the image in force (R51), or a key blob does that no commit has stored. DESIGN CHOICE, unsafe: log entry 32. -/
def State.cfgDirty (s : State) : Bool :=
  SMap.erase s.cfgImage F.CFG_ROLE.key != SMap.erase s.cfg.cur F.CFG_ROLE.key || s.rd F.CFG_ROLE != SMap.getD s.cfg.cur F.CFG_ROLE.key s.role || s.sec.blobs != s.cfg.curKeys

/-- The date of Patina (R535): TAI seconds, or ledger time with bit 47 set while SOURCE is NONE. -/
def State.date (s : State) : Nat := if qSource s.tim.cur.qual = 0 then 2 ^ 47 + s.ledgerTime else s.now / 1000000000

/-- Is a challenge still valid: at most 300 s old (R446)? -/
def State.chalFresh (s : State) (c : Option (Nat × Nat)) : Option Nat :=
  match c with
  | some (x, at_) => if s.raw ≤ at_ + 300 * 250000000 then some x else none
  | none => none

/-- The 24 bytes that a token signs (R446). -/
def State.tokenMsg (s : State) (chal purpose target : Nat) (scan : Bool) : List Byte :=
  be 8 s.fuses.serial ++ be 8 chal ++ be 1 purpose ++ be 1 target ++ be 1 s.fuses.lc ++ be 1 (b2n scan) ++ be 4 0

/-- Checks a token under an anchor slot (R446, R456). -/
def State.tokenOk (s : State) (slot : Nat) (chal : Option Nat) (purpose target : Nat) (scan : Bool) (sig : List Byte) : Bool × State :=
  match chal with
  | none => (false, s)
  | some c =>
    let (k, t) := s.invoke slot Mst.SEC true Use.ANCHOR
    match k with
    | none => (false, t)
    | some pub => (Config.ecdsaVerify pub (t.tokenMsg c purpose target scan) sig, t)

/-- A session ends (R314): the master works in PUBLIC. -/
def State.endSession (s : State) (b : Nat) : State :=
  if s.rd (F.OBJ_SESS_STAT_ROLE b) = 4 then s else (s.wr (F.OBJ_SESS_STAT_ROLE b) 4).raise Pg.OBJ 2

/-- Clearing (R470): the slots and masks, the sessions that the LEGAL core keeps in its private SRAM, and the registers and shadows that have held a challenge, token or nonce. The caches and engine registers hold nothing that State shows. -/
def State.clearing (s : State) : State :=
  let s1 := s.zeroiseAll
  let s2 := (List.range 24).foldl (fun (t : State) w => (t.wr (F.LIFE_TOKEN w) 0).wr (F.DBG_TOKEN w) 0) s1
  let s3 := (List.range 8).foldl (fun (t : State) w => t.wr (F.SEC_ATT_NONCE w) 0) s2
  let s4 := (((s3.wr F.LIFE_CHAL_LO 0).wr F.LIFE_CHAL_HI 0).wr F.DBG_CHAL_LO 0).wr F.DBG_CHAL_HI 0
  let held (k : Nat) : Bool := [Pg.LIFE, Pg.DBG, Pg.SEC, Pg.OBJ].contains (k / 0x1000 % 0x1000)
  let s5 := [0, 1].foldl (fun (t : State) b => ((t.endSession b).wr (F.OBJ_SESS_CHAL_LO b) 0).wr (F.OBJ_SESS_CHAL_HI b) 0) s4
  ({ s5 with
    sec := { s5.sec with lifeChal := none, dbgChal := none }, lgl := { s5.lgl with chal := [] }
    bus := { s5.bus with shadow := s5.bus.shadow.filter (fun e : Nat × Word => !held e.1) } }).wr F.DBG_SCAN_CLEARED 1

/-- The effects of a life-cycle state (R445, R447), which BOOT repeats until DONE reads 1. -/
def State.lcEffects (s : State) : State :=
  let s1 :=
    if s.fuses.lc = 1 then s.deriveSlots
    else if s.fuses.lc = 4 then { s.clearing with fuses := { s.fuses with blocked := true } }
    else if s.fuses.lc = 5 then
      let t := { s.clearing with fuses := { s.fuses with blocked := true } }
      { t with sec := { t.sec with certs := [] } }
    else s
  s1.wr F.LIFE_STAT_DONE 1

/-- The state word is programmed: the commit point of a transition (R447). -/
def State.lcCommit (s : State) (lc : Nat) : State :=
  let s1 := ({ s with fuses := { s.fuses with lc := lc } }).wr F.LIFE_LAST_T s.ledgerTime
  let s2 := if lc = 2 then s1.setLedger 28 s1.date else s1
  ((s2.lcEffects).wr F.LIFE_STAT_RES 1).raise Pg.LIFE 0

/-- A refused transition. -/
def State.lcRefuse (s : State) (res : Nat) : State := (s.wr F.LIFE_STAT_RES res).raise Pg.LIFE 1

/-- A tokened transition (R445, R446). -/
def State.lcToken (s : State) (slot lc : Nat) : State :=
  let c := s.chalFresh s.sec.lifeChal
  let sig := (List.range 24).flatMap (fun w => be 4 (s.rd (F.LIFE_TOKEN w)))
  let s0 := { s with sec := { s.sec with lifeChal := none } }
  let (ok, t) := s0.tokenOk slot c 1 lc false sig
  if ok then t.lcCommit lc else t.lcRefuse 2

/-- A write of LIFE.CMD (R445, R447). -/
def State.lifeCmd (s : State) (v : Word) : State :=
  if bits v 31 16 != 0x1CFE then s
  else if !s.pins.mainsOk || s.mode = Md.OUTAGE || s.mode = Md.HOLDUP then s.lcRefuse 4
  else
    match s.fuses.lc, bits v 3 0 with
    | 0, 1 =>
      let s1 := if s.fuses.ds.isEmpty then
          let (d, t) := s.random 48
          { t with fuses := { t.fuses with ds := d } }
        else s
      s1.lcCommit 1
    | 1, 2 =>
      if [10, 11, 12, 13].all (fun i => (s.slot i).typ == 5) && (SMap.find? s.sec.certs 1).isSome && (SMap.find? s.sec.certs 2).isSome then s.lcCommit 2
      else s.lcRefuse 3
    | 2, 3 => if s.rd F.DBG_LEVEL = 0 && !s.cfgDirty && 1 ≤ s.rd F.LGL_LGEN then s.lcCommit 3 else s.lcRefuse 3
    | 1, 4 => s.lcToken 13 4
    | 2, 4 => s.lcToken 13 4
    | 3, 4 => s.lcToken 13 4
    | 2, 5 => s.lcToken 12 5
    | 3, 5 => s.lcToken 12 5
    | 4, 5 => s.lcCommit 5
    | _, _ => s.lcRefuse 3

/-- LC_TO_FACTORY (R445). -/
def execLcToFactory (m : Master) (v : Word) (s : State) : Host.Outcome State Fault Refusal :=
  s.done (s.guarded m Pg.LIFE 0xB4 (fun s => s.lifeCmd v))
/-- LC_TO_PROVISIONED (R445). -/
def execLcToProvisioned (m : Master) (v : Word) (s : State) : Host.Outcome State Fault Refusal :=
  s.done (s.guarded m Pg.LIFE 0xB4 (fun s => s.lifeCmd v))
/-- LC_TO_FIELD (R445). -/
def execLcToField (m : Master) (v : Word) (s : State) : Host.Outcome State Fault Refusal :=
  s.done (s.guarded m Pg.LIFE 0xB4 (fun s => s.lifeCmd v))
/-- LC_TO_RETURN (R445). -/
def execLcToReturn (m : Master) (v : Word) (s : State) : Host.Outcome State Fault Refusal :=
  s.done (s.guarded m Pg.LIFE 0xB4 (fun s => s.lifeCmd v))
/-- LC_TO_RETIRED (R445). -/
def execLcToRetired (m : Master) (v : Word) (s : State) : Host.Outcome State Fault Refusal :=
  s.done (s.guarded m Pg.LIFE 0xB4 (fun s => s.lifeCmd v))

/-- A read of LIFE.CHAL_LO issues a challenge (R446, R474). -/
def State.lifeChalRead (s : State) (m : Master) : State :=
  let x := s.freeVal (2 ^ 64)
  let t := { s.tookFree with sec := { s.sec with lifeChal := some (x, s.raw) } }
  ((((t.wr F.LIFE_CHAL_LO x).wr F.LIFE_CHAL_HI (x / 2 ^ 32)).setShadow m Pg.LIFE 0x50 (BitVec.ofNat 32 (x / 2 ^ 32)))).answer (BitVec.ofNat 32 x)

/-- A read of DBG.CHAL_LO issues a challenge (R446, R475). -/
def State.dbgChalRead (s : State) (m : Master) : State :=
  let x := s.freeVal (2 ^ 64)
  let t := { s.tookFree with sec := { s.sec with dbgChal := some (x, s.raw) } }
  ((((t.wr F.DBG_CHAL_LO x).wr F.DBG_CHAL_HI (x / 2 ^ 32)).setShadow m Pg.DBG 0x48 (BitVec.ofNat 32 (x / 2 ^ 32)))).answer (BitVec.ofNat 32 x)

/-- LIFE_CHALLENGE (R446). -/
def execLifeChallenge (m : Master) (s : State) : Host.Outcome State Fault Refusal :=
  s.done (s.guardedRead m Pg.LIFE 0x4C (fun s => s.lifeChalRead m))
/-- DEBUG_CHALLENGE (R446). -/
def execDebugChallenge (m : Master) (s : State) : Host.Outcome State Fault Refusal :=
  s.done (s.guardedRead m Pg.DBG 0x44 (fun s => s.dbgChalRead m))

/-! ## Debug requests -/

/-- The codes of the matrix of R451: IDCODE and BYPASS only; CLOSED; the latched level; the latched level where a token gave it; the latched level with scan; suspended; the mode is not entered. -/
inductive DbgAccess where
  | none | closed | level | token | scan | suspended | excluded
  deriving DecidableEq, Repr

/-- The highest access in a mode and life-cycle state (R451). -/
def dbgMatrix (mode lc : Nat) : DbgAccess :=
  if mode = Md.OFF || mode = Md.VAULT then .none
  else if mode = Md.HOLDUP then .suspended
  else if mode = Md.BOOT then (if lc = 2 || lc = 3 then .token else if lc = 5 then .closed else .level)
  else if mode = Md.PROVISION then (if lc ≤ 1 then .level else if lc = 2 then .closed else .excluded)
  else if mode = Md.SERVICE then (match lc with | 0 => .level | 1 => .scan | 4 => .scan | 5 => .closed | _ => .token)
  else if lc = 2 || lc = 3 then .closed else .excluded

/-- The debug level that acts now (R449, R451): none where the JTAG port answers IDCODE and BYPASS only, or access is suspended. -/
def State.dbgActs (s : State) : Option Nat :=
  match dbgMatrix s.mode s.fuses.lc with
  | .closed => some 0
  | .level => some (s.rd F.DBG_LEVEL)
  | .token => some (s.rd F.DBG_LEVEL)
  | .scan => some (s.rd F.DBG_LEVEL)
  | _ => Option.none

/-- What a debugger may reach (R450). -/
inductive DbgTarget where
  | app | task | legal | sec
  deriving DecidableEq, Repr

/-- A debugger's rights over a target (R450): trace, read, halt and step, write, and of the APP cluster also the secure world. -/
structure DbgRights where
  trace : Bool := false
  read : Bool := false
  halt : Bool := false
  write : Bool := false
  secure : Bool := false
  deriving DecidableEq, Repr

/-- The rights that the level opens over a target (R450, R451). -/
def State.dbgRights (s : State) (x : DbgTarget) : DbgRights :=
  let free := s.fuses.lc == 0 || s.fuses.lc == 1 || s.fuses.lc == 4
  match s.dbgActs, x with
  | some 1, .app => { trace := true, read := true }
  | some 2, .app => { trace := true, read := true, halt := true, write := true, secure := true }
  | some 1, .task => { trace := true, read := true }
  | some 2, .task => { trace := true, read := true, halt := true, write := true }
  | some 1, .legal => { trace := free }
  | some 2, .legal => { trace := free, read := free, halt := free, write := free }
  | some 2, .sec => (let o := s.fuses.lc == 0 || (s.fuses.lc == 4 && s.on F.DBG_SCAN_CLEARED); { read := o, halt := o })
  | _, _ => {}

/-- The JTAG port's IDCODE (R568). -/
def State.jtagIdcode (s : State) : Nat := s.rd F.CHIP_REV % 16 * 2 ^ 28 + 0x7064 * 2 ^ 12 + Config.jtagMaker.toNat * 2 + 1

/-- Are SAMPLE/PRELOAD and EXTEST available (R451, R568)? Only at a level above CLOSED. -/
def State.jtagBoundary (s : State) : Bool :=
  match s.dbgActs with
  | some l => decide (0 < l)
  | Option.none => false

/-- May the JTAG port read or write a page of the register window (R450, R475)? The CHIP and DBG pages at every level that acts, as a master of SMP class; every other page as the main host, read at OBSERVE, read and written at FULL. -/
def State.jtagReaches (s : State) (page : Nat) (write : Bool) : Bool :=
  match s.dbgActs with
  | some l => page == Pg.CHIP || page == Pg.DBG || l == 2 || (l == 1 && !write)
  | Option.none => false

/-- An accepted debug request (R449, R471). -/
def State.dbgAccept (s : State) (level : Nat) (scan : Bool) : State :=
  let s1 := ((s.wr F.DBG_PEND level).wr F.DBG_SCAN_PEND (b2n scan)).wr F.DBG_RES 1
  (if level = 0 then s1 else s1.sat F.DBG_UNLOCKS).raise Pg.DBG 0

/-- A refused debug request. -/
def State.dbgRefuse (s : State) (res : Nat) : State := (s.wr F.DBG_RES res).raise Pg.DBG 0

/-- A write of DBG.REQ (R449). DESIGN CHOICE, safe: log entry 129. -/
def State.dbgReq (s : State) (v : Word) : State :=
  if !bit v 31 then s
  else
    let level := min 2 (bits v 1 0)
    let scan := bit v 8
    if level = 0 then s.dbgAccept 0 scan
    else if s.fuses.lc = 5 then s.dbgRefuse 3
    else if s.fuses.lc = 2 || s.fuses.lc = 3 then
      let c := s.chalFresh s.sec.dbgChal
      let sig := (List.range 24).flatMap (fun w => be 4 (s.rd (F.DBG_TOKEN w)))
      let s0 := { s with sec := { s.sec with dbgChal := none } }
      let (ok, t) := s0.tokenOk 12 c 2 level scan sig
      if ok then t.dbgAccept level scan else t.dbgRefuse 2
    else s.dbgAccept level scan

/-- DEBUG_REQUEST (R449). -/
def execDebugRequest (m : Master) (v : Word) (s : State) : Host.Outcome State Fault Refusal :=
  s.done (s.guarded m Pg.DBG 0xAC (fun s => s.dbgReq v))

/-! ## Certificates and attestation -/

/-- First four bytes of SHA-384 over a public key (R330, R467). -/
def keyId (pub : List Byte) : List Byte := (Config.sha384 pub ++ be 4 0).take 4

/-- The attestation report (R467). -/
def State.attReport (s : State) : List Byte :=
  let trial := s.rd F.UPD_STAT_STATE = 3
  let flags := s.rd F.SEC_STAT_TEST_ROOT + 2 * s.rd F.SEC_STAT_DICE + 4 * b2n trial + 8 * b2n (s.rd F.SEC_TAMPER_STAT != 0) + 16 * s.rd F.SEC_STAT_STK_FAIL
  let ak := s.keyOf 2
  let head := be 2 1 ++ be 1 s.fuses.lc ++ be 1 (s.rd F.DBG_LEVEL) ++ be 1 s.role ++ be 1 flags ++ be 2 0 ++ be 8 s.fuses.serial ++ be 8 s.ledgerTime ++
    be 4 (s.rd F.CFG_GEN) ++ be 4 (s.rd F.LGL_LGEN) ++ (List.range 8).flatMap (fun w => be 4 (s.rd (F.SEC_ATT_NONCE w))) ++
    (List.range 6).flatMap (fun j => (s.measure j ++ be 48 0).take 48) ++ keyId (Config.pubKey ak) ++ keyId (Config.pubKey (s.keyOf 1)) ++ be 24 0
  head ++ (Config.ecdsaSign ak head ++ be 96 0).take 96

/-- The result of an attestation request. -/
def State.attRes (s : State) (r : Nat) : State := (s.wr F.SEC_ATT_CTL_RES r).raise Pg.SEC 0

/-- Puts an attestation item in the output queue (R223, R467). -/
def State.attOut (s : State) (b : List Byte) : State :=
  let (ok, t) := s.outputPacket (s.rd F.SEC_OUT_Q) b
  t.attRes (if ok then 1 else 6)

/-- GO of an attestation item (R467): the check for a queue comes first (R223). -/
def State.attGo (s : State) (item : Nat) : State :=
  if !queueNamed (s.rd F.SEC_OUT_Q) then s.attRes 6
  else if item = 0 then
    let (k, t) := s.invoke 2 Mst.SEC true Use.ATTEST_SIGN
    match k with
    | none => t.attRes 4
    | some _ => t.attOut t.attReport
  else if item = 5 then (if (s.slot 1).typ = 0 then s.attRes 2 else s.attOut (Config.pubKey (s.keyOf 1)))
  else
    match SMap.find? s.sec.certs item with
    | some c => s.attOut c
    | none => s.attRes 2

/-- INSTALL of a certificate (R466): the vendor's in BLANK and FACTORY, the owner's, both in PROVISION mode. -/
def State.certInstall (s : State) (item : Nat) : State :=
  if s.mode != Md.PROVISION || !(item = 1 || item = 2) then s.attRes 4
  else if item = 1 && !(s.fuses.lc = 0 || s.fuses.lc = 1) then s.attRes 4
  else if (s.link (s.rd F.SEC_IN_CELL)).st != .held || !(s.link (s.rd F.SEC_IN_CELL)).host then s.attRes 2
  else
    let c := s.pktPayload (s.rd F.SEC_IN_CELL)
    if Config.certSubject c != Config.pubKey (s.keyOf 1) then s.attRes 3
    else ({ s with sec := { s.sec with certs := SMap.set s.sec.certs item c } }).attRes 1

/-- A write of SEC.ATT_CTL (R466, R467, R472). -/
def State.attCtlWrite (s : State) (v : Word) : State :=
  let s1 := s.wr F.SEC_ATT_CTL_ITEM (bits v 2 0)
  if bit v 29 then s1.certInstall (bits v 2 0) else if bit v 31 then s1.attGo (bits v 2 0) else s1

/-- ATTEST_REPORT (R467). -/
def execAttestReport (m : Master) (v : Word) (s : State) : Host.Outcome State Fault Refusal :=
  s.done (s.guarded m Pg.SEC 0xA0 (fun s => s.attCtlWrite v))
/-- ATTEST_ITEM (R467). -/
def execAttestItem (m : Master) (v : Word) (s : State) : Host.Outcome State Fault Refusal :=
  s.done (s.guarded m Pg.SEC 0xA0 (fun s => s.attCtlWrite v))
/-- CERT_INSTALL (R466). -/
def execCertInstall (m : Master) (v : Word) (s : State) : Host.Outcome State Fault Refusal :=
  s.done (s.guarded m Pg.SEC 0xA0 (fun s => s.attCtlWrite v))

/-! ## Node keys -/

/-- May a key go to a target: an entry in use, or the group key of a port (R203)? -/
def State.instTarget (s : State) : Bool :=
  let i := s.rd F.GTE_INST_TGT_IDX
  let k := s.rd F.GTE_INST_TGT_KEY
  if k = 5 then true else if 6 ≤ k then false else if i < 65536 then (s.nbr i).st != .free else i = 0x10000 || i = 0x10001

/-- A write of GTE.INST_CTL (R203): GO while BUSY is ignored. -/
def State.instGo (s : State) (m : Master) (machine : Bool) (v : Word) : State :=
  if s.gate.inst.isSome then (if bit v 31 then s.wr F.GTE_INST_STAT 5 else s)
  else
    let s0 := s.wr F.GTE_INST_CTL_SLOT (bits v 7 0)
    if !bit v 31 then s0
    else if !s0.instTarget then (s0.wr F.GTE_INST_STAT 4).raise Pg.GTE 5
    else
      let (k, t) := s0.invoke (bits v 7 0) (invoker m) (secureWrite m machine) Use.NODE_UNWRAP
      match k with
      | none => (t.wr F.GTE_INST_STAT 3).raise Pg.GTE 5
      | some kek =>
        let n := if t.on F.GTE_INST_TGT_K256 then 40 else 24
        let w := ((List.range 10).flatMap (fun j => be 4 (t.rd (F.GTE_INST_WRAP j)))).take n
        let i := t.rd F.GTE_INST_TGT_IDX
        ({ t with gate := { t.gate with inst := some ⟨if t.rd F.GTE_INST_TGT_KEY = 5 then i % 64 else i, t.rd F.GTE_INST_TGT_KEY, Config.unwrap kek w⟩ } }).wr F.GTE_INST_CTL_BUSY 1

/-- KEY_INSTALL (R203). -/
def execKeyInstall (m : Master) (machine : Bool) (v : Word) (s : State) : Host.Outcome State Fault Refusal :=
  s.done (s.guarded m Pg.GTE 0xEC (fun s => s.instGo m machine v))

/-- The entry after an installation (R194, R203): what the key's kind sets, with the window that belongs to it reset. A link key completes a join. -/
def Nbr.keyed (x : Nbr) (kind : Nat) : Nbr :=
  match kind with
  | 0 => { x with lkey := true, ltop := 0, lmap := 0, warned := false, st := if x.st = .joining then .active else x.st }
  | 1 => if x.gen = 0 then { x with ag0 := true, atop := 0, amap := 0 } else { x with ag0 := true }
  | 2 => { x with ag0 := true, dnext := 0, drsv := 0, dnWarned := false }
  | 3 => if x.gen = 1 then { x with ag1 := true, atop := 0, amap := 0 } else { x with ag1 := true }
  | _ => { x with ag1 := true, dnext := 0, drsv := 0, dnWarned := false }

/-- Steps 4 to 6 of R203: the key is written, its window reset, and the record journaled. Installing an application key while a grace period runs ends it at once (R201). DEDUCED, unsafe: log entry 53. -/
def State.installKey (s : State) (i kind : Nat) (key : List Byte) : State :=
  if kind = 5 then
    ({ s with gate := { s.gate with groupKeys := SMap.set s.gate.groupKeys i key } }).journal 6 (be 3 (0x20040 + i) ++ Config.wrap s.sec.kek key)
  else
    let s0 := if kind != 0 && (s.nbr i).grace then s.endGrace i else s
    let x := s0.nbr i
    let s1 := ((s0.setNbrKeys i ((s0.nbrKeys i).put kind key)).setNbr i (x.keyed kind)).gateJournalKey i kind key
    if kind = 0 && x.st = .joining then s1.enrol x.port i else s1

/-- KEY_INSTALL_DONE (R203). -/
def execKeyInstallDone (s : State) : Host.Outcome State Fault Refusal :=
  s.done (match s.gate.inst with
    | none => s
    | some x =>
      let s1 := ({ s with gate := { s.gate with inst := none } }).wr F.GTE_INST_CTL_BUSY 0
      match x.key with
      | none => (s1.wr F.GTE_INST_STAT 2).raise Pg.GTE 5
      | some key => ((s1.installKey x.idx x.kind key).wr F.GTE_INST_STAT 1).raise Pg.GTE 5)

end Sys2Proof.Machine
end

