-- ==== Sys2Proof/Machine/Npl.lean ====
section
/-!
DEFINITION. The power-line personalities: NPL reception, medium access, acknowledgements and modes, routing, beacons, joins, and the G3 personality's own commands (chapter 05).
-/
namespace Sys2Proof.Machine

/-! ## Bands, modes and times -/

/-- Is a port on the FCC band (R133)? -/
def State.fcc (s : State) (n : Nat) : Bool := (s.port n).band == 1

/-- The preamble in raw ticks of 4 ns (R140, R146): five symbols of 256 samples, 3,200 µs and 1,066.67 µs. -/
def preambleTicks (fcc : Bool) : Nat := if fcc then 266667 else 800000

/-- Preamble and header together, in ns (R146). -/
def headNs (fcc : Bool) : Nat := if fcc then 1761670 else 7370000

/-- A symbol period, in ns (R133). -/
def symbolNs (fcc : Bool) : Nat := if fcc then 231667 else 695000

/-- The acknowledgement timeout, in ns (R146). -/
def State.ackToNs (s : State) (n : Nat) : Nat :=
  if s.rd (F.FM_ACK_TO n) = 0 then (if s.fcc n then 2100000 else 7700000) else s.rd (F.FM_ACK_TO n) * 1000

/-- ns as raw ticks of 4 ns, rounded up. DESIGN CHOICE, unsafe: log entry 40. -/
def ticks (ns : Nat) : Nat := (ns + 3) / 4

/-- The highest mode a port loads: LOAD.MAX_MODE, 5 to 7 acting as 4, and N2 at most on CENELEC-A (R133, R167). DESIGN CHOICE, unsafe: log entry 15. -/
def State.maxMode (s : State) (n : Nat) : Nat := min (min 4 (s.rd (F.FY_LOAD_MAX_MODE n))) (if s.fcc n then 4 else 2)

/-- Is carrier `i` of the band masked (R134, R167)? -/
def State.masked (s : State) (n i : Nat) : Bool := (s.rd (F.FY_CMASK n (i / 32))).testBit (i % 32)

/-- The data carriers of each group that carry anything (R134, R140): group g's pilot is carrier 9g of the band and its eight data carriers follow. A masked pilot switches the group off, a masked data carrier reduces its loading. DEDUCED, unsafe: log entry 41. -/
def State.groupCarriers (s : State) (n : Nat) : List Nat :=
  (List.range (if s.fcc n then 8 else 4)).map (fun g =>
    if s.masked n (9 * g) then 0 else ((List.range 8).filter (fun k => !s.masked n (9 * g + 1 + k))).length)

/-- Coded bits per symbol K of a mode (R142); a map gives those of NA. DEDUCED, unsafe: log entry 41. -/
def State.kBits (s : State) (n mode : Nat) (map : List Nat) : Nat :=
  let c := (s.groupCarriers n).sum
  match mode with
  | 0 => max 1 (c / 4)
  | 1 => max 1 c
  | 2 => max 1 (2 * c)
  | 3 => max 1 (3 * c)
  | 4 => max 1 (4 * c)
  | _ => max 1 (((s.groupCarriers n).zip map).map (fun e => e.1 * e.2)).sum

/-- Coded bits of a frame of `l` bytes (R141). -/
def codedBits (l : Nat) : Nat := 2 * (8 * (l + 16 * ((l + 238) / 239)) + 6)

/-- Data symbols of a frame (R141). -/
def nSym (l k : Nat) : Nat := (codedBits l + k - 1) / k

/-- Symbols with the pilot symbols among them (R140, R141). -/
def totalSymbols (n : Nat) : Nat := n + (n - 1) / 28

/-- A burst's length in sample-link slots of 1/96,000 s, rounded up (R109). DESIGN CHOICE, unsafe: log entry 40. -/
def burstSlots (ns : Nat) : Nat := (ns * 96000 + 999999999) / 1000000000

/-- What a sender keeps toward a neighbour; toward a new one it starts with its own highest mode, and no ACK has asked for less. DESIGN CHOICE, unsafe: log entry 15. -/
def State.linkMode (s : State) (n a : Nat) : LinkMode := SMap.getD (s.port n).modes a ⟨s.maxMode n, 5, 0, 0, []⟩

/-- The mode a sender uses toward a neighbour: never above what the port loads (R133, R167). -/
def State.modeTo (s : State) (n a : Nat) : Nat := if (s.linkMode n a).mode = 5 then 5 else min (s.linkMode n a).mode (s.maxMode n)

/-- Sets what a sender keeps toward a neighbour. -/
def State.setLinkMode (s : State) (n a : Nat) (x : LinkMode) : State :=
  s.setPort n { s.port n with modes := SMap.set (s.port n).modes a x }

/-- The mode one step more robust (R153): from NA to the highest uniform mode that every loaded group supports. -/
def fallBack (mode : Nat) (map : List Nat) : Nat :=
  if mode = 5 then ((map.filter (fun b => b != 0)).foldl min 4) else mode - 1

/-! ## The header -/

/-- Reads the fields of a header (R144). -/
def nplHdrOf (h : BitVec 48) : NplHdr :=
  let v := h.toNat
  ⟨v / 2 ^ 46 % 4, v / 2 ^ 43 % 8, v / 2 ^ 39 % 16, v / 2 ^ 29 % 1024, v / 2 ^ 27 % 4, v / 2 ^ 25 % 4, h.getLsbD 24, v / 2 ^ 8 % 65536⟩

/-- Is HCS right: CRC-8 over bits [47:8] (R144)? -/
def hcsOk (h : BitVec 48) : Bool := crc8 (be 5 (h.toNat / 256)) == h.toNat % 256

/-- Is a mode one of the band (R142): 6 and 7 are reserved, and CENELEC-A has neither N3 nor N4. DEDUCED, unsafe: log entry 41. -/
def State.bandMode (s : State) (n m : Nat) : Bool := decide (m < 6) && (s.fcc n || (m != 3 && m != 4))

/-- Is a header one the port acts on (R142 to R144)? -/
def State.hdrGood (s : State) (n : Nat) (h : BitVec 48) : Bool :=
  let x := nplHdrOf h
  hcsOk h && x.ft != 3 && s.bandMode n x.mode && (x.ft == 1 || x.mode != 5 || (SMap.find? (s.port n).maps x.tmi).isSome)

/-- Is the medium busy at a port: a preamble, energy, or a reservation (R147)? DEDUCED, unsafe: log entry 43. -/
def State.mediumBusy (s : State) (n : Nat) : Bool :=
  let p := s.port n
  p.rxStamp.isSome || p.energy || p.hcsBad || decide (s.raw < p.reservedTo)

/-- Does a port run a power-line personality with its link UP? -/
def State.plcUp (s : State) (n : Nat) : Bool := s.linkUp n && decide ((s.port n).pers < 2)

/-- NPL_PREAMBLE_DETECT (R88, R136, R147): the correlation peak, which comes at the preamble's end, is referred back to the preamble's first sample, less LAT_EFF; the medium is busy. DEDUCED, unsafe: log entry 136. -/
def execNplPreambleDetect (n : Port) (s : State) : Host.Outcome State Fault Refusal :=
  s.done (if s.plcUp n.val && !s.modemTested n.val then
      (s.setPort n.val { s.port n.val with rxStamp := some (s.raw - preambleTicks (s.fcc n.val) - s.latEff n.val / 4), hdr := none, ovrSeen := false }).wrap
        (F.FY_RX_PREAMBLE n.val)
    else s)

/-- How long a header reserves the medium (R147): to the frame's end, with AR for the acknowledgement timeout beyond it; an ACK is over. -/
def State.hdrResv (s : State) (n : Nat) (x : NplHdr) : Nat :=
  (if x.ft = 1 then 0 else ticks (totalSymbols x.nsym * symbolNs (s.fcc n))) + (if x.ar then ticks (s.ackToNs n) else 0)

/-- A header that is discarded (R147, R164): counted. With a right HCS it reserves the medium for what it says; with a wrong one the medium is reserved until energy falls, and the acknowledgement timeout beyond that (`State.energyNow`). DEDUCED, unsafe: log entry 43. -/
def State.hdrDiscard (s : State) (n : Nat) (h : BitVec 48) : State :=
  let p := { s.port n with rxStamp := none, hdr := none }
  let s1 := s.setPort n (if hcsOk h then { p with reservedTo := s.raw + s.hdrResv n (nplHdrOf h) } else { p with hcsBad := true })
  (s1.sat (F.FY_RX_HDR_ERR n)).raise (Pg.FY n) 2

/-- The energy of a contention slot (R147): once it falls after a failed header, the acknowledgement timeout begins. DEDUCED, unsafe: log entry 43. -/
def State.energyNow (s : State) (n : Nat) (energy : Bool) : State :=
  let p := s.port n
  s.setPort n { p with
    energy := energy, hcsBad := p.hcsBad && energy
    reservedTo := if p.hcsBad && !energy then s.raw + ticks (s.ackToNs n) else p.reservedTo }

/-- A decoded header (R147, R217): the medium is reserved to the frame's end, with AR for the acknowledgement timeout beyond it, and a data frame's cells are reserved. -/
def State.hdrTake (s : State) (n : Nat) (x : NplHdr) : State :=
  let s1 := (s.setPort n { s.port n with hdr := if x.ft = 1 then none else some x, rxStamp := if x.ft = 1 then none else (s.port n).rxStamp, reservedTo := s.raw + s.hdrResv n x }).wr
    (F.FY_LAST_MODE n) x.mode
  if x.ft = 0 && (s1.port n).held.isEmpty && s1.portRoom n then s1.packetStart n n else s1

/-- NPL_HEADER_DECODE (R164). -/
def execNplHeaderDecode (n : Port) (hdr : BitVec 48) (s : State) : Host.Outcome State Fault Refusal :=
  s.done (if s.plcUp n.val && (s.port n.val).rxStamp.isSome then
      (if s.hdrGood n.val hdr then s.hdrTake n.val (nplHdrOf hdr) else s.hdrDiscard n.val hdr)
    else s)

/-! ## Frames -/

/-- Notes the blanked symbols of a frame (R163, R167): the counter, the last frame's figure, and the alarm over one second. -/
def State.noteBlanked (s : State) (n k : Nat) : State :=
  let p := s.port n
  let fresh := decide (p.blankAt + 250000000 ≤ s.raw)
  let cnt := (if fresh then 0 else p.blankN) + k
  let s1 := s.setPort n { p with blankAt := if fresh then s.raw else p.blankAt, blankN := cnt }
  let s2 := (s1.addSat (F.FY_IMP_BLANK n) k).wr (F.FY_LAST_BLANKED n) (min 255 k)
  if 0 < k && s.rd (F.FY_IMP_ALARM n) ≤ cnt then s2.raise (Pg.FY n) 1 else s2

/-- The largest loading a group's mean SNR allows, in 0.25 dB steps (R143): 4, 7, 12 and 15 dB raised by MARGIN, and no more than `lim` bits. -/
def loading (margin lim snr : Nat) : Nat :=
  min lim (if 60 + margin ≤ snr then 4 else if 48 + margin ≤ snr then 3 else if 28 + margin ≤ snr then 2 else if 16 + margin ≤ snr then 1 else 0)

/-- The tone map the receiver loads (R134, R143): a group whose pilot is masked is off. The CMASK bit of group g's pilot is 9g. -/
def State.toneMap (s : State) (n : Nat) (groups : List Byte) : List Nat :=
  (groups.zip (List.range groups.length)).map (fun e =>
    if s.masked n (9 * e.2) then 0
    else loading (s.rd (F.FY_LOAD_MARGIN n)) (s.maxMode n) e.1.toNat)

/-- The map last published to a sender, where it is still held: its index and loadings (R143). DEDUCED, unsafe: log entry 44. -/
def State.mapFor (s : State) (n src : Nat) : Option (Nat × List Nat) :=
  match SMap.find? (s.port n).mapTo src with
  | some i =>
    match SMap.find? (s.port n).maps i with
    | some e => if e.1 = src then some (i, e.2) else none
    | none => none
  | none => none

/-- Publishes a new map to a sender (R143): the 16 newest are kept, indexed in turn, and a tone-map command (TYPE 4, priority 3) to the sender waits for the medium. DEDUCED, unsafe: log entry 44. -/
def State.publishMap (s : State) (n src : Nat) (groups : List Byte) : State :=
  let p := s.port n
  let map := s.toneMap n groups
  if groups.isEmpty || (s.mapFor n src).map (fun e => e.2) == some map then s
  else
    let idx := p.mapNext % 16
    (s.setPort n { p with maps := SMap.set p.maps idx (src, map), mapNext := idx + 1, mapTo := SMap.set p.mapTo src idx }).macQueue n
      { typ := 4, dst := src, nbr := s.nbrByShort n src, prio := 3, payload := Config.toneMapCmd idx map }

/-- A valid route to a destination (R160). -/
def State.route (s : State) (n dst : Nat) : Option Route :=
  match SMap.find? (s.port n).routes dst with
  | some r => if r.valid then some r else none
  | none => none

/-- The tag of a next hop (R155): that of its own route entry; three-phase where it has none, or for all. -/
def State.hopTag (s : State) (n next : Nat) : Nat :=
  match s.route n next with
  | some r => r.tag
  | none => 3

/-- The phase of a burst toward a tag under SWITCHED (R155): a three-phase hop is reached on PHASE. -/
def State.hopPhase (s : State) (n tag : Nat) : Nat := if tag = 3 then s.phase n else tag

/-- Under SWITCHED a port first turns to the phase of the next hop's tag (R155). -/
def State.turnTo (s : State) (n tag : Nat) : State := if s.coupling n = 2 then s.sendConfig n (s.hopPhase n tag) 0 else s

/-- The phase tag of a port's bursts (R156): its coupling phase, the phase used for the burst under SWITCHED, 3 under ALL. -/
def State.phTag (s : State) (n phase : Nat) : Nat := if s.coupling n = 1 then 3 else if s.coupling n = 2 then phase else s.phase n

/-- A 48-bit header with its HCS (R144). -/
def nplHeaderOf (ft mode tmi nsym prio ph : Nat) (ar : Bool) (info : Nat) : Nat :=
  let v := ft % 4 * 2 ^ 38 + mode % 8 * 2 ^ 35 + tmi % 16 * 2 ^ 31 + nsym % 1024 * 2 ^ 21 + prio % 4 * 2 ^ 19 + ph % 4 * 2 ^ 17 + b2n ar * 2 ^ 16 + info % 65536
  v * 256 + crc8 (be 5 v)

/-- Sends the header of an NPL burst; G3 has its own (R137). -/
def State.sendHeader (s : State) (n hdr : Nat) : State := if (s.port n).pers = 1 then s.emit (.nplHeader n hdr) else s

/-- The header of an ACK (R144, R152, R153): MODE and TMI name the map last published to the sender; without one the mode asked for is a free value of the loadable modes. PRIO is a free value. INFO is the end of the FCS of the acknowledged frame. DEDUCED, unsafe: log entry 44. -/
def State.ackHeader (s : State) (n src : Nat) (frame : List Byte) : State :=
  let t := s.tookFree
  let ph := s.phTag n (s.hopPhase n (s.hopTag n src))
  match s.mapFor n src with
  | some e => t.sendHeader n (nplHeaderOf 1 5 e.1 0 (s.freeVal 4) ph false (crc32 frame))
  | none => t.tookFree.sendHeader n (nplHeaderOf 1 (t.freeVal (s.maxMode n + 1)) 0 0 (s.freeVal 4) ph false (crc32 frame))

/-- The length of an ACK in slots (R146): preamble and header; that of a G3 port is G.9903's. -/
def State.ackSlots (s : State) (n : Nat) : Nat := if (s.port n).pers = 0 then Config.g3Slots (s.fcc n) 0 else burstSlots (headNs (s.fcc n))

/-- Sends the ACK of a frame on a power-line port (R152, R155): its credit, the turn to the sender's phase, TX_ON, and the ACK. Answers whether it went out. -/
def State.plcAck (s : State) (n src : Nat) (frame : List Byte) : Bool × State :=
  match s.ackHold n (s.ackSlots n) with
  | (false, t) => (false, t)
  | (true, t) =>
    let t1 := (((t.turnTo n (t.hopTag n src)).sendTxOn n (t.port n).tag).wrap (F.FM_TX_FRAMES n)).ackHeader n src frame
    (true, if (s.port n).pers = 0 then t1.emit (.frame n 0 (Config.g3Ack frame)) else t1)

/-- Is an NPL MAC frame whole: 16 to 400 bytes, FCS right (R141, R145)? -/
def nplFrameOk (f : List Byte) : Bool := 16 ≤ f.length && f.length ≤ 400 && crc32 (f.take (f.length - 4)) == field f (f.length - 4) 4

/-- Is the MAC frame of a port's personality whole? -/
def State.plcFrameOk (s : State) (n : Nat) (f : List Byte) : Bool := if (s.port n).pers = 0 then Config.g3FrameOk f else nplFrameOk f

/-- A frame that fails decoding (R164): the cells are rewound, and it is counted. -/
def State.nplAbort (s : State) (n : Nat) : State := ((s.rewind n).sat (F.FY_RX_ABORT n)).raise (Pg.FY n) 0

/-- A unicast route, join or tone-map frame (R145, R152): Gate checks its SEQ, and it is acknowledged as any other. A join frame of a station that holds no address here has none to check. DESIGN CHOICE, unsafe: log entry 42. -/
def State.macFrame (s : State) (n : Nat) (ar : Bool) (f : List Byte) : State :=
  let src := field f 8 2
  let g := s.snapT1 n src none
  if !s.domOn Dom.PKT || (field f 0 1 / 16 = 3 && g.idx.isNone) then s
  else
    match s.linkCheck g false (field f 2 4) ((field f 0 2).testBit 7) f with
    | (o, t) =>
      if (o = .accept || o = .dup) && ar && field f 6 2 = 0 then
        (match t.plcAck n src f with
          | (true, u) => u
          | (false, u) => u.sat (F.FM_ACK_WITHHELD n))
      else t

/-- What a whole frame holds for its packet: transmitter, link sequence number, SEC, and the frame without its FCS; of a G3 frame as G.9903 gives them (R138, R145). PRESUMED, safe: log entry 48. -/
def State.plcRx (s : State) (n stamp : Nat) (ar : Bool) (f : List Byte) (blanked : Nat) : RxFrame :=
  let g3 := (s.port n).pers = 0
  { payload := if g3 then f else f.take (f.length - 4), stamp := stamp, qual := (s.convert stamp).2.2.toNat, blanked := decide (0 < blanked), held := false
    short := if g3 then Config.g3Src f else field f 8 2, seq := if g3 then Config.g3Counter f else field f 2 4
    sec := if g3 then Config.g3Sec f else (field f 0 2).testBit 7, ar := ar }

/-- A whole data-field frame (R145, R164): data and command frames addressed to the port or to all become packets; route, join and tone-map frames are the port's own business, and the rest is discarded. DESIGN CHOICE, unsafe: log entry 42. -/
def State.plcFrame (s : State) (n stamp : Nat) (x : NplHdr) (f : List Byte) (groups : List Byte) (blanked : Nat) : State :=
  let g3 := (s.port n).pers = 0
  let type := if g3 then 0 else field f 0 1 / 16
  let dst := if g3 then Config.g3Dst f else field f 6 2
  let r := s.plcRx n stamp (x.ar && dst != 0xFFFF) f blanked
  let s1 := if g3 then s else s.publishMap n r.short groups
  if dst != 0 && dst != 0xFFFF then s1.rewind n
  else if type < 2 then s1.portReceive n r
  else if type < 5 then (s1.rewind n).macFrame n x.ar r.payload
  else s1.rewind n

/-- The symbols that the blanker touched in a frame (R163): what the impulse detector flagged, none while IMP.TH is 0, and at least one where a slot of the frame came with OVR. DEDUCED, unsafe: log entry 137. -/
def State.blankedNow (s : State) (n k : Nat) : Nat := max (if s.rd (F.FY_IMP_TH n) = 0 then 0 else k) (b2n (s.port n).ovrSeen)

/-- NPL_FRAME_END (R164). A beacon of another station ends here. -/
def execNplFrameEnd (n : Port) (rsOk : Bool) (frame : List Byte) (snr : Byte) (groups : List Byte) (blanked : Nat) (s : State) :
    Host.Outcome State Fault Refusal :=
  s.done (match (s.port n.val).hdr, (s.port n.val).rxStamp with
    | some x, some stamp =>
      let k := s.blankedNow n.val blanked
      let s1 := (s.setPort n.val { s.port n.val with hdr := none, rxStamp := none, rxEnd := (stamp, s.raw), ovrSeen := false }).noteBlanked n.val k
      if rsOk && s1.plcFrameOk n.val frame then
        let s2 := s1.wr (F.FY_LAST_SNR n.val) snr.toNat
        if x.ft = 2 then s2 else s2.plcFrame n.val stamp x frame groups k
      else s1.nplAbort n.val
    | _, _ => s)

/-! ## Sending -/

/-- Sets the frame being sent. -/
def State.setTx (s : State) (n : Nat) (x : Option NplTx) : State := s.setPort n { s.port n with tx := x }

/-- The credit or the request of a frame that needs it no more is given back; a beacon that is due uses it. -/
def State.endCredit (s : State) (n : Nat) : State := if (s.port n).beaconDue then s else (s.dropCredit n).withdrawReq n

/-- The frame being sent is done with: the packet's next fragment waits, or its cells are released. -/
def State.endTx (s : State) (n : Nat) : State :=
  match (s.port n).tx with
  | none => s
  | some x =>
    let s1 := (s.setTx n none).endCredit n
    match x.rest, x.cell with
    | f :: fs, _ => s1.setPort n { s1.port n with mac := { x with payload := f, rest := fs, slot := none, waitAck := false, retries := 0, defers := 0 } :: (s1.port n).mac }
    | [], some c => s1.releasePacket c
    | [], none => s1

/-- A frame is given up: a packet's cells are released and its source is told (R150). -/
def State.loseFrame (s : State) (n : Nat) (x : NplTx) : State :=
  match x.cell with
  | some c => (s.releasePacket c).emit (.txFailed n)
  | none => s

/-- The frame being sent is discarded with the rest of its packet (R150). -/
def State.failTx (s : State) (n : Nat) : State :=
  match (s.port n).tx with
  | none => s
  | some x => ((s.setTx n none).endCredit n).loseFrame n x

/-- A deferral (R150): the frame draws again in the next contention period, and is discarded after MAX_DEFER of them. -/
def State.deferTx (s : State) (n : Nat) : State :=
  match (s.port n).tx with
  | none => s
  | some x =>
    if s.rdIn (F.FM_RETRY_MAX_DEFER n) 1 255 ≤ x.defers + 1 then ((s.failTx n).sat (F.FM_CA_FAIL n)).raise (Pg.FM n) 1
    else s.setTx n (some { x with defers := x.defers + 1, slot := none })

/-- Builds the MAC frame (R145, R195): type, hops, SEQ, next hop, the port's address 0 as transmitter and originator, payload, MIC and FCS; a G3 frame as G.9903 gives it (log entry 48). None where no sequence number is left (R207). -/
def State.plcBuild (s : State) (n : Nat) (x : NplTx) : Option (List Byte) × State :=
  if x.typ = 5 then (some x.payload, s)
  else
    match s.takePortSeq n with
    | (none, t) => (none, t)
    | (some seq, t) =>
      if (s.port n).pers = 0 then (some (Config.g3Frame (s.rd (F.FM_NET_ID n)) x.next seq (SMap.find? s.gate.groupKeys n) x.payload), t)
      else
        let sec := match x.nbr with | some i => (s.nbrKeys i).link.isSome | none => false
        let body := be 2 (x.typ % 16 * 4096 + x.hops % 16 * 256 + 128 * b2n sec) ++ be 4 seq ++ be 2 x.next ++ be 2 0 ++ be 2 0 ++ x.payload
        let whole := body ++ (match x.nbr with | some i => s.linkMic i seq body | none => [])
        (some (whole ++ be 4 (crc32 whole)), t)

/-- A frame whose next hop is known is built and contends (R145, R148). -/
def State.plcReady (s : State) (n : Nat) (x : NplTx) : State :=
  let y := { x with mode := if x.next = 0xFFFF then 0 else s.modeTo n x.next }
  match s.plcBuild n y with
  | (some b, t) => t.setTx n (some { y with bytes := b })
  | (none, t) => t.loseFrame n y

/-- A frame is looked up in the route cache before contention (R160): a hit gives its next hop and hops. A miss is counted, route discovery begins, and the frame is held. One to all has every hop of MAX_HOPS. -/
def State.plcRoute (s : State) (n : Nat) (x : NplTx) : State :=
  if x.dst = 0xFFFF then s.plcReady n { x with next := 0xFFFF, hops := s.rdIn (F.FM_ROUTE_MAX_HOPS n) 1 15 }
  else
    match s.route n x.dst with
    | some r => s.plcReady n { x with next := r.next, hops := r.hops }
    | none =>
      (((s.setPort n { s.port n with routeHeld := (s.port n).routeHeld ++ [x] }).sat (F.FM_RT_MISS n)).raise (Pg.FM n) 3).macQueue n
        { typ := 2, prio := 2, payload := Config.routeRequest ((s.port n).pers == 0) x.dst }

/-- The frames a payload takes (R141): of at most 380 payload bytes, which with header, MIC and FCS make 400; a G3 port's are 6LoWPAN's. PRESUMED, unsafe: log entry 138. -/
def State.fragments (s : State) (n : Nat) (pl : List Byte) : List (List Byte) :=
  if (s.port n).pers = 0 then Config.g3Fragments pl else pieces 380 pl.length pl

/-- Takes the next packet of the port's transmit queues; one of PRIO 2 or 3 goes as a command, TYPE 1 (R145, R149, log entry 13). A packet for a node without a binding here, or one that cannot be protected, is returned as failed. -/
def State.takePacket (s : State) (n : Nat) : State :=
  match s.takeTx 2 n 4 with
  | (none, t) => t
  | (some c, t) =>
    let p := t.txPacket c
    let lost (u : State) : State := u.loseFrame n { cell := some c }
    match t.nbrByFlow p.flow with
    | none => lost t
    | some i =>
      let x := t.nbr i
      if x.port != n then lost t
      else
        match t.downPayload i p with
        | (none, u) => lost u
        | (some pl, u) =>
          let l := u.fragments n pl
          u.plcRoute n { typ := b2n (2 ≤ p.prio), payload := l.headD [], rest := l.tail, cell := some c, nbr := some i, dst := x.short, prio := p.prio, ar := p.ar }

/-- The next frame of a port that sends none: one that waited for a route and has it, then the port's own frames, then the transmit queues. -/
def State.nextTx (s : State) (n : Nat) : State :=
  let p := s.port n
  if p.tx.isSome then s
  else
    match p.routeHeld.find? (fun x => (s.route n x.dst).isSome) with
    | some x => (s.setPort n { p with routeHeld := p.routeHeld.erase x }).plcRoute n x
    | none =>
      match p.mac with
      | x :: r => (s.setPort n { p with mac := r }).plcRoute n x
      | [] => s.takePacket n

/-- The slot window sizes (R148, R168). -/
def State.cw (s : State) (n p : Nat) : Nat :=
  match p with
  | 3 => s.rdIn (F.FM_CW_S3 n) 2 64
  | 2 => s.rdIn (F.FM_CW_S2 n) 2 64
  | 1 => s.rdIn (F.FM_CW_S1 n) 2 64
  | _ => s.rdIn (F.FM_CW_S0 n) 2 64

/-- The first slot of a window (R148). -/
def State.cwFirst (s : State) (n p : Nat) : Nat :=
  match p with
  | 3 => 0
  | 2 => s.cw n 3
  | 1 => s.cw n 3 + s.cw n 2
  | _ => s.cw n 3 + s.cw n 2 + s.cw n 1

/-- How long a frame takes on the medium, in slots; a G3 frame as G.9903 gives it (log entry 48). -/
def State.txSlots (s : State) (n : Nat) (x : NplTx) : Nat :=
  if (s.port n).pers = 0 then Config.g3Slots (s.fcc n) x.bytes.length
  else burstSlots (headNs (s.fcc n) + totalSymbols (nSym x.bytes.length (s.kBits n x.mode (s.linkMode n x.next).map)) * symbolNs (s.fcc n))

/-- A port asks for the credit of its next burst, unless it holds one or its request waits (R121, R151). -/
def State.askCredit (s : State) (n len : Nat) : State := if (s.heldTag n).isSome then s else s.creditRequest n len (s.txAtt n) false

/-- At the start of a contention period the frame draws its slot, a free value of the stated range, and its credit is requested (R148, R151). The port is the coordinator: its priority-3 frames take slot 0. DESIGN CHOICE, safe: log entry 46. -/
def State.drawSlot (s : State) (n : Nat) : State :=
  match (s.port n).tx with
  | none => s
  | some x =>
    if x.slot.isSome || x.waitAck then s
    else
      let range := min (s.cw n x.prio * 2 ^ x.retries) (4 * s.cw n x.prio)
      let u := if x.prio = 3 then 0 else s.freeVal range
      ((s.tookFree).setTx n (some { x with slot := some (s.cwFirst n x.prio + u) })).askCredit n (s.txSlots n x)

/-- Transmits the frame in its slot (R148, R155): a switched port first turns to the next hop's phase. Without AR the frame is done. -/
def State.transmit (s : State) (n : Nat) (x : NplTx) : State :=
  let tag := s.hopTag n x.next
  let l := s.linkMode n x.next
  let h := nplHeaderOf 0 x.mode (if x.mode = 5 then l.mapIdx else 0) (nSym x.bytes.length (s.kBits n x.mode l.map)) x.prio
    (s.phTag n (s.hopPhase n tag)) x.ar (s.txAtt n * 256)
  let s1 := ((((s.turnTo n tag).sendBurst n (s.txSlots n x)).wrap (F.FM_TX_FRAMES n)).sendHeader n h).emit (.frame n x.mode x.bytes)
  if x.ar then s1.setTx n (some { x with waitAck := true, slot := none }) else s1.endTx n

/-- What a contention slot does for the frame that waits (R148, R150, R151). -/
def State.slotAct (s : State) (n slot : Nat) (energy : Bool) : State :=
  match (s.port n).tx with
  | none => s
  | some x =>
    match x.slot with
    | none => s
    | some k =>
      if (energy || s.mediumBusy n) && slot ≤ k then s.deferTx n
      else if slot < k then s
      else if (s.heldTag n).isSome && s.mayTransmit n then s.transmit n x
      else s.deferTx n

/-! ## Beacons -/

/-- ZCO of a beacon whose preamble begins at a raw count, in ns (R157). -/
def State.zco (s : State) (c : Nat) : Option Nat :=
  let off (p : Nat) : Nat := (c - (s.zcOf p).last) * 4
  let per (p : Nat) : Nat := (s.zcOf p).period / 65536
  let ok (p : Nat) : Bool := s.domOn Dom.IOX && (s.rd F.GPIO_ZC_CTL_EN).testBit (p - 1) && !s.on (F.GPIO_ZC_STAT_LOST (p - 1))
  if ok 1 then some (off 1)
  else if ok 2 then some (off 2 + per 2 / 3)
  else if ok 3 then some (off 3 + 2 * per 3 / 3)
  else none

/-- The 24-byte body of a coordinator beacon whose first burst slot begins at a raw count (R162). -/
def State.nplBeaconBody (s : State) (n c : Nat) : List Byte :=
  let z := s.zco c
  let (t, _, q) := s.convert c
  be 2 (s.rd (F.FM_NET_ID n)) ++ be 1 ((s.port n).bseq) ++ be 1 (128 * s.rd (F.FM_JOIN_PERMIT n) + 64 * b2n z.isSome) ++ be 2 0 ++ be 2 0 ++
    be 8 t ++ be 1 q.toNat ++ be 3 0 ++ be 4 (z.getD 0xFFFFFFFF)

/-- The length of a beacon in slots: N0, L = 28 (R162). -/
def State.beaconSlots (s : State) (n : Nat) : Nat :=
  burstSlots (headNs (s.fcc n) + totalSymbols (nSym 28 (s.kBits n 0 [])) * symbolNs (s.fcc n))

/-- Sends the beacon that is due, with the credit held (R155, R161, R162). -/
def State.sendBeacon (s : State) (n : Nat) : State :=
  let s1 := s.turnTo n 3
  let body := s1.nplBeaconBody n (s1.burstCount n)
  let h := nplHeaderOf 2 0 0 (nSym 28 (s.kBits n 0 [])) 3 (s.phTag n (s.phase n)) false (s.txAtt n * 256)
  let s2 := (s1.sendBurst n (s.beaconSlots n)).wrap (F.FM_TX_FRAMES n)
  ((s2.setPort n { s2.port n with bseq := ((s2.port n).bseq + 1) % 256, beaconDue := false }).sendHeader n h).emit (.frame n 0 (body ++ be 4 (crc32 body)))

/-- A frame that drew slot 0 when a beacon takes it draws again in the next period, without a deferral. DESIGN CHOICE, unsafe: log entry 47. -/
def State.yieldSlot (s : State) (n : Nat) : State :=
  match (s.port n).tx with
  | some x => if x.slot = some 0 then s.setTx n (some { x with slot := none }) else s
  | none => s

/-- The start of a contention period (R148, R151, R161): the next frame draws its slot, and a beacon that is due goes out in slot 0, if the medium is free and its credit is held; else it waits for the next period. DESIGN CHOICE, unsafe: log entry 47. -/
def State.slotZero (s : State) (n : Nat) (energy : Bool) : State :=
  let s1 := (s.nextTx n).drawSlot n
  if (s1.port n).beaconDue && !energy && !s1.mediumBusy n && (s1.heldTag n).isSome && s1.mayTransmit n then (s1.sendBeacon n).yieldSlot n
  else
    let s2 := s1.slotAct n 0 energy
    if (s2.port n).beaconDue then s2.askCredit n (s2.beaconSlots n) else s2

/-- CONTENTION_SLOT (R147, R148). -/
def execContentionSlot (n : Port) (slot : Nat) (energy : Bool) (s : State) : Host.Outcome State Fault Refusal :=
  s.done (if s.plcUp n.val then
      let s1 := s.energyNow n.val energy
      if slot = 0 then s1.slotZero n.val energy else s1.slotAct n.val slot energy
    else s)

/-! ## Acknowledgements and modes -/

/-- The highest mode that an ACK and the maps held allow toward a neighbour (R154): NA only with a map. -/
def State.modeCap (s : State) (n asked : Nat) (l : LinkMode) : Nat :=
  if asked = 5 then (if l.map.isEmpty then s.maxMode n else 5) else min asked (s.maxMode n)

/-- One level up (R154): from the port's highest uniform mode to NA, where a map is held. -/
def State.modeUp (s : State) (n : Nat) (l : LinkMode) : Nat :=
  if l.mode = 5 then 5 else if l.mode < s.maxMode n then l.mode + 1 else if l.map.isEmpty then l.mode else 5

/-- NPL_ACK_RX (R153, R154): an ACK whose INFO is the end of the frame's FCS ends the wait; a run of first-attempt successes raises the mode, never above the one asked for. -/
def execNplAckRx (n : Port) (hdr : BitVec 48) (s : State) : Host.Outcome State Fault Refusal :=
  s.done (
    let h := nplHdrOf hdr
    match (s.port n.val).tx with
    | some x =>
      if s.plcUp n.val && hcsOk hdr && h.ft = 1 && x.waitAck && decide (h.mode < 6) && h.info = field x.bytes (x.bytes.length - 2) 2 then
        let l := s.linkMode n.val x.next
        let run := if x.retries = 0 then l.run + 1 else 0
        let rise := s.rdIn (F.FM_RETRY_RECOVER_N n.val) 1 255 ≤ run
        let mode := min (s.modeCap n.val h.mode l) (if rise then s.modeUp n.val l else l.mode)
        (((s.setLinkMode n.val x.next { l with mode := mode, ceiling := h.mode, run := if rise then 0 else run })).endTx n.val).restorePhase n.val
      else s
    | none => s)

/-- ACK_TIMEOUT (R153): the frame is retried one mode more robust, or discarded after the last retry. -/
def execAckTimeout (n : Port) (s : State) : Host.Outcome State Fault Refusal :=
  s.done (match (s.port n.val).tx with
    | some x =>
      if !x.waitAck then s
      else if min 7 (s.rd (F.FM_RETRY_MAX n.val)) ≤ x.retries then (((s.failTx n.val).restorePhase n.val).sat (F.FM_TX_FAIL n.val)).raise (Pg.FM n.val) 0
      else
        let l := s.linkMode n.val x.next
        let mode := fallBack x.mode l.map
        let s1 := s.setLinkMode n.val x.next { l with mode := mode, run := 0 }
        let s2 := ((s1.setTx n.val (some { x with waitAck := false, slot := none, retries := x.retries + 1, mode := mode })).restorePhase n.val).sat (F.FM_TX_RETRY n.val)
        if x.mode != 0 then s2.sat (F.FM_FALLBACK n.val) else s2
    | none => s)

/-- A tone-map command reaches the sender (R143, R154): the map is held, and NA is available again at once, within the mode last asked for; a map with every group off offers none. -/
def execToneMapRx (n : Port) (src : BitVec 16) (idx : BitVec 4) (map : List Nat) (s : State) : Host.Outcome State Fault Refusal :=
  s.done (if s.plcUp n.val then
      let l := s.linkMode n.val src.toNat
      s.setLinkMode n.val src.toNat { l with mapIdx := idx.toNat, map := map, mode := if l.ceiling = 5 && map.any (fun b => b != 0) then 5 else l.mode }
    else s)

/-! ## Routes -/

/-- Valid entries of the route cache. -/
def State.routeCount (s : State) (n : Nat) : Nat := ((s.port n).routes.filter (fun e => e.2.valid)).length

/-- ROUTE_FRAME_RX (R159, R160): the destination's entry takes the next hop, cost, hops and tag; a frame that waited for it goes on at the next contention period. The cache holds 1,024 entries. -/
def execRouteFrameRx (n : Port) (node via : BitVec 16) (hops : BitVec 4) (cost : BitVec 16) (tag : BitVec 2) (s : State) :
    Host.Outcome State Fault Refusal :=
  s.done (
    let p := s.port n.val
    if !s.plcUp n.val || ((SMap.find? p.routes node.toNat).isNone && 1024 ≤ p.routes.length) then s
    else
      let s1 := s.setPort n.val { p with routes := SMap.set p.routes node.toNat ⟨via.toNat, cost.toNat, hops.toNat, tag.toNat, true, s.raw⟩ }
      s1.wr (F.FM_RT_CNT n.val) (s1.routeCount n.val))

/-- How long a route entry lives after its last route frame, in minutes (R139, R160): RT_LIFE, and on a G3 port the routing-table TTL attribute. -/
def State.routeLife (s : State) (n : Nat) : Nat :=
  if (s.port n).pers = 0 then SMap.getD s.pib (n * (2 * 65536 * 256) + Config.g3TtlAttr % (2 * 65536 * 256)) (Config.pibDefault (Config.g3TtlAttr % (2 * 65536 * 256)))
  else s.rdIn (F.FM_RT_LIFE n) 4 65535

/-- ROUTE_EXPIRE (R139, R160): an entry whose life has passed since its last route frame is no longer valid. -/
def execRouteExpire (n : Port) (node : BitVec 16) (s : State) : Host.Outcome State Fault Refusal :=
  s.done (
    let p := s.port n.val
    match SMap.find? p.routes node.toNat with
    | some r =>
      if r.stamp + s.routeLife n.val * 15000000000 ≤ s.raw then
        let s1 := s.setPort n.val { p with routes := SMap.set p.routes node.toNat { r with valid := false } }
        s1.wr (F.FM_RT_CNT n.val) (s1.routeCount n.val)
      else s
    | none => s)

/-- ROUTE_WAIT_EXPIRE (R160): the frame that has waited longest for its route is discarded. -/
def execRouteWaitExpire (n : Port) (s : State) : Host.Outcome State Fault Refusal :=
  s.done (match (s.port n.val).routeHeld with
    | x :: r => (((s.setPort n.val { s.port n.val with routeHeld := r }).loseFrame n.val x).sat (F.FM_TX_FAIL n.val)).raise (Pg.FM n.val) 0
    | [] => s)

/-! ## Beacon commands and joins -/

/-- NPL_BEACON (R151, R161): a beacon is due, and its credit is requested. -/
def execNplBeacon (n : Port) (s : State) : Host.Outcome State Fault Refusal :=
  s.done (if s.plcUp n.val && (s.port n.val).pers = 1 && s.rd (F.FM_NET_ID n.val) != 0xFFFF then
      (s.setPort n.val { s.port n.val with beaconDue := true }).askCredit n.val (s.beaconSlots n.val)
    else s)

/-- G3_BEACON_REQUEST (R137, R161): the beacon waits for the medium. -/
def execG3BeaconRequest (n : Port) (s : State) : Host.Outcome State Fault Refusal :=
  s.done (if s.plcUp n.val && (s.port n.val).pers = 0 && s.rd (F.FM_NET_ID n.val) != 0xFFFF then
      s.macQueue n.val { typ := 5, prio := 3, payload := Config.g3Beacon (s.rd (F.FM_NET_ID n.val)) }
    else s)

/-- NPL_JOIN_REQUEST (R106, R194). -/
def execNplJoinRequest (n : Port) (eui : BitVec 64) (s : State) : Host.Outcome State Fault Refusal :=
  s.done (if s.plcUp n.val && (s.port n.val).pers = 1 && s.domOn Dom.PKT then s.joinRequest n.val eui.toNat else s)

/-- The bootstrap server answers a message of an entry's node (R137, R209): under its PSK, with the port's group key. PRESUMED, safe: log entry 48. -/
def State.bootstrap (s : State) (n eui i : Nat) (msg : List Byte) : State :=
  s.macQueue n { typ := 3, nbr := some i, payload := Config.bootstrapAnswer eui (s.nbrKeys i).link (SMap.find? s.gate.groupKeys n) msg }

/-- G3_BOOTSTRAP (R106, R137, R194, R209): permission, the node limit and Gate as for any join; a message of a node that is joining or admitted is answered, and a node that Gate admits now is. -/
def execG3Bootstrap (n : Port) (eui : BitVec 64) (msg : List Byte) (s : State) : Host.Outcome State Fault Refusal :=
  s.done (if !(s.plcUp n.val && (s.port n.val).pers = 0 && s.domOn Dom.PKT) then s
    else if !s.joinPermitted n.val then s.answerJoin n.val eui.toNat 3 0
    else if !s.roomFor n.val eui.toNat then s.joinRefused n.val eui.toNat
    else
      match s.gateJoin n.val eui.toNat with
      | (.active i, t) =>
        let u := t.bootstrap n.val eui.toNat i msg
        if (s.nbr i).st = NbrState.active && (s.nbr i).port = n.val then u else u.enrol n.val i
      | (.joining i, t) => t.bootstrap n.val eui.toNat i msg
      | (.full, t) => t.joinRefused n.val eui.toNat
      | (_, t) => t)

/-! ## G.9903 attributes -/

/-- The key of the attribute that PIB_SEL selects: port, layer, identifier and index. -/
def State.pibKey (s : State) (n : Nat) : Nat :=
  ((n * 2 + s.rd (F.FM_PIB_SEL_ADP n)) * 65536 + s.rd (F.FM_PIB_SEL_ID n)) * 256 + s.rd (F.FM_PIB_SEL_IDX n)

/-- The part of the key that names the attribute itself, whatever the port. -/
def State.pibAttr (s : State) (n : Nat) : Nat := s.pibKey n % (2 * 65536 * 256)

/-- A write of PIB_DATA (R139, R168): 0 applied, 1 unknown, 2 read-only. -/
def State.pibWrite (s : State) (n : Nat) (v : Word) : State :=
  match Config.pibAccess (s.pibAttr n) with
  | 0 => (({ s with pib := SMap.set s.pib (s.pibKey n) v.toNat }).wr (F.FM_PIB_DATA n) v.toNat).wr (F.FM_PIB_STAT n) 0
  | 1 => s.wr (F.FM_PIB_STAT n) 1
  | _ => s.wr (F.FM_PIB_STAT n) 2

/-- A read of PIB_DATA (R139, R168). -/
def State.pibRead (s : State) (n : Nat) : State :=
  if Config.pibAccess (s.pibAttr n) = 1 then (s.wr (F.FM_PIB_STAT n) 1).answer 0
  else (s.wr (F.FM_PIB_STAT n) 0).answer (BitVec.ofNat 32 (SMap.getD s.pib (s.pibKey n) (Config.pibDefault (s.pibAttr n))))

/-- PIB_WRITE (R139). -/
def execPibWrite (m : Master) (n : Port) (v : Word) (s : State) : Host.Outcome State Fault Refusal :=
  s.done (s.guarded m (Pg.FM n.val) 0x74 (fun s => s.pibWrite n.val v))

/-- PIB_READ (R139). -/
def execPibRead (m : Master) (n : Port) (s : State) : Host.Outcome State Fault Refusal :=
  s.done (s.guardedRead m (Pg.FM n.val) 0x74 (fun s => s.pibRead n.val))

end Sys2Proof.Machine
end

