-- ==== Sys2Proof/Machine/SunMac.lean ====
section
/-!
DEFINITION. The SUN personality: slots and hopping, air-time limits, listening, frames, connections, the member role, channel maps and BUSY (chapter 06).
-/
namespace Sys2Proof.Machine

/-! ## Grid and hopping -/

/-- The radio MAC of a port. -/
def State.sun (s : State) (n : Nat) : Sun := (s.port n).sun

/-- Sets the radio MAC of a port. -/
def State.setSun (s : State) (n : Nat) (u : Sun) : State := s.setPort n { s.port n with sun := u }

/-- Does a port run the SUN personality with its link UP? -/
def State.sunUp (s : State) (n : Nat) : Bool := s.linkUp n && decide ((s.port n).pers = 2)

/-- A slot's length in raw ticks (R175). -/
def State.esTicks (s : State) (n : Nat) : Nat := (s.sun n).es * 250

/-- How long the event counter takes to come round, in raw ticks (R175): it has 40 bits. -/
def State.gridTicks (s : State) (n : Nat) : Nat := s.esTicks n * 2 ^ 40

/-- Raw ticks since the grid's origin, which counts as far as the event counter does. -/
def State.gridAge (s : State) (n : Nat) : Nat := s.raw + s.gridTicks n - SMap.getD s.sunGrid n 0 % s.gridTicks n

/-- The event counter: the number of the current slot, 40 bits (R175). -/
def State.sunEc (s : State) (n : Nat) : Nat := s.gridAge n / (s.esTicks n) % 2 ^ 40

/-- The raw count at which the current slot began. -/
def State.slotAt (s : State) (n : Nat) : Nat := s.raw - s.gridAge n % (s.esTicks n)

/-- How far into its slot a port is, in µs. -/
def State.sunOffset (s : State) (n : Nat) : Nat := s.gridAge n % (s.esTicks n) / 250

/-- The kinds of slot (R175). -/
def isBeaconSlot (e : Nat) : Bool := e % 64 == 0
def isSharedSlot (e : Nat) : Bool := e % 16 == 8

/-- Channels of the plan in effect. -/
def State.sunN (s : State) (n : Nat) : Nat := max 1 (s.plan n).2.2

/-- Is a channel enabled in the map in effect? -/
def State.chOn (s : State) (n c : Nat) : Bool := (s.rd (F.FM_SUN_CHMAP_EFF n (c / 32))).testBit (c % 32)

/-- The enabled channels in ascending order (R176). -/
def State.usedCh (s : State) (n : Nat) : List Nat := (List.range (s.sunN n)).filter (fun c => s.chOn n c)

/-- The beacon channel number k (R176, R190). -/
def State.beaconCh (s : State) (n k : Nat) : Nat := (s.sun n).bcnCh / 256 ^ k % 256

/-- The channel of a slot (R176). -/
def State.slotCh (s : State) (n e : Nat) : Nat :=
  if isBeaconSlot e then s.beaconCh n (e / 64 % (s.sun n).nb)
  else
    let u := (e * s.rd (F.FM_SUN_HOP_EFF n) + (s.sun n).seed) % s.sunN n
    if s.chOn n u then u
    else
      let l := s.usedCh n
      l.getD (u % max 1 l.length) u

/-! ## Air time -/

/-- The data rate of the PHY in effect, in kbit/s (R169); an MCS outside the option's range acts as the nearest. -/
def State.sunRate (s : State) (n : Nat) : Nat :=
  let mcs := (s.sun n).mcs
  let fec (r : Nat) : Nat := if (s.sun n).fec then r / 2 else r
  match (s.sun n).phy with
  | 0 => fec 50
  | 2 => fec 150
  | 3 => fec 300
  | 4 => ([100, 200, 400, 800] : List Nat).getD (min 3 mcs) 800
  | 5 => ([100, 200, 400, 600, 800] : List Nat).getD (min 5 (max 1 mcs) - 1) 800
  | _ => fec 100

/-- Air time of a PSDU in µs (R169): an FSK burst adds the preamble, the 2-octet start delimiter and the 2-octet PHR; FEC halves the rate of the whole burst. DESIGN CHOICE, unsafe: log entry 60. -/
def State.airUs (s : State) (n psdu : Nat) : Nat :=
  let r := max 1 (s.sunRate n)
  if (s.sun n).phy < 4 then (((s.sun n).preamble + 4 + psdu) * 8 * 1000 + r - 1) / r
  else Config.ofdmHeadUs (s.sun n).phy (s.sun n).mcs + (psdu * 8 * 1000 + r - 1) / r

/-- The limits in effect (R173, R189). -/
def State.sunLimits (s : State) (n : Nat) : SunLimits :=
  match (s.sun n).profile with
  | 1 => ⟨400000, 400000, 20, 1000, if 50 ≤ s.sunN n then 50 else s.sunN n, 0, true⟩
  | 2 => (s.sun n).limits
  | _ => ⟨200000, 400000, 10, 100, 3, 160, true⟩

/-- Own air time in µs since a count, on one channel or on all. -/
def airSince (l : List AirUse) (ch : Option Nat) (from_ : Nat) : Nat :=
  ((l.filter (fun a => decide (from_ ≤ a.at_) && (match ch with | some c => a.ch == c | none => true))).map (fun a => a.us)).sum

/-- What forbids a burst (R174): 0 nothing, 1 the longest burst or the channel's dwell, 2 the duty. DESIGN CHOICE, unsafe: log entry 58. -/
def State.airBlock (s : State) (n ch us : Nat) : Nat :=
  let l := s.sunLimits n
  let a := (s.sun n).air
  if l.burst < us || l.dwell < airSince a (some ch) (s.raw - l.window * 250000000) + us then 1
  else if l.duty < 1000 && 3600000 * l.duty < airSince a none (s.raw - 3600 * 250000000) + us then 2
  else 0

/-- Adds a burst to the air time kept: of the last hour, and of the dwell window where that is longer (R174). -/
def State.noteAir (s : State) (n ch us : Nat) : State :=
  let u := s.sun n
  s.setSun n { u with air := (u.air.filter (fun x => decide (s.raw ≤ x.at_ + max 3600 (s.sunLimits n).window * 250000000))) ++ [⟨ch, s.raw, us⟩] }

/-- DUTY_USED: the port's own air time in the last hour, in ms (R189). -/
def State.dutyUsed (s : State) (n : Nat) : Nat := airSince (s.sun n).air none (s.raw - 3600 * 250000000) / 1000

/-- Counts a blocked burst (R174): in its own counter alone. Though it is handled as a listen-before-talk failure, CCA_FAIL does not advance. DESIGN CHOICE, unsafe: log entry 58. -/
def State.airSkip (s : State) (n why : Nat) : State :=
  if why = 1 then (s.sat (F.FY_SUN_DWELL_SKIP n)).raise (Pg.FY n) 9 else (s.sat (F.FY_SUN_DUTY_SKIP n)).raise (Pg.FY n) 10

/-! ## Sending -/

/-- Bits of a map's words. -/
def mapBit (m : List Nat) (c : Nat) : Bool := (m.getD (c / 32) 0).testBit (c % 32)

/-- CHMAP of a beacon (R181): channel i is bit 7 - i mod 8 of byte i / 8, 17 bytes. -/
def chmapBytes (m : List Nat) : List Byte :=
  (List.range 17).map (fun k => BitVec.ofNat 8 (((List.range 8).map (fun j => if mapBit m (8 * k + j) then 2 ^ (7 - j) else 0)).sum))

/-- A frame header (R180): type, MD, AR, SEC, priority, sequence number, destination, transmitter and map version. -/
def State.sunHdr (s : State) (n type : Nat) (md ar sec : Bool) (prio seq dst src : Nat) : List Byte :=
  be 2 (type * 4096 + 2048 * b2n md + 1024 * b2n ar + 512 * b2n sec + prio * 128) ++ be 4 seq ++ be 2 dst ++ be 2 src ++
    be 1 (s.rd (F.FM_SUN_MAP_VER n)) ++ be 1 0

/-- A frame with its 4-octet FCS (R180). -/
def withFcs (b : List Byte) : List Byte := b ++ be 4 (crc32 b)

/-- The port's own short address: 0 as coordinator, MY_ADDR as member. -/
def State.sunAddr (s : State) (n : Nat) : Nat := if (s.sun n).member then s.rd (F.FM_SUN_MY_ADDR n) else 0

/-- LT: the listen time in effect (R178). -/
def State.sunLt (s : State) (n : Nat) : Nat := max (s.rd (F.FY_SUN_LBT_TIME n)) (s.sunLimits n).lbt

/-- TIFS as it acts: 500 to 5,000 µs (R190). -/
def State.tifs (s : State) (n : Nat) : Nat := s.rdIn (F.FM_SUN_TIFS n) 500 5000

/-- GUARD as it acts: at least 400 µs and LT (R190). -/
def State.guard (s : State) (n : Nat) : Nat := max (s.rd (F.FM_SUN_GUARD n)) (400 + s.sunLt n)

/-- MIN_BE and MAX_BE as they act (R189). -/
def State.minBe (s : State) (n : Nat) : Nat := min 8 (s.rd (F.FY_SUN_MIN_BE n))
def State.maxBe (s : State) (n : Nat) : Nat := max (s.minBe n) (min 8 (s.rd (F.FY_SUN_MAX_BE n)))

/-- Need a frame that answers one of the same event not listen (R178)? -/
def State.noListen (s : State) (n : Nat) : Bool := (s.sunLimits n).exempt || s.sunLt n == 0

/-- Notes one listen on a channel: the last 256 uses, one bit each (R177). -/
def State.noteCca (s : State) (n ch : Nat) (busy : Bool) : State :=
  let u := s.sun n
  let (k, b) := SMap.getD u.ccaUse ch (0, 0)
  s.setSun n { u with ccaUse := SMap.set u.ccaUse ch (min 256 (k + 1), (b * 2 + b2n busy) % 2 ^ 256) }

/-- The last raw count at which an exchange may start that ends 200 µs before the slot end (R183): a frame of `len` octets, with AR = 1 its acknowledgement too. DESIGN CHOICE, unsafe: log entry 60. -/
def State.sunTill (s : State) (n len : Nat) (ar : Bool) : Nat :=
  s.slotAt n + s.esTicks n - (s.airUs n len + (if ar then s.tifs n + s.airUs n 13 else 0) + 200) * 250

/-- The first frame of a slot (R183): from GUARD on; a coordinator's anchor frame no later than ANCHOR_WIN after that. -/
def State.firstFrame (s : State) (n : Nat) (kind : SunKind) (bytes : List Byte) (ar : Bool) (ch be : Nat) : SunLbt :=
  let open_ := s.slotAt n + s.guard n * 250
  let till := s.sunTill n bytes.length ar
  { kind := kind, bytes := bytes, ch := ch, be := be, from_ := open_
    till := if (kind == .data || kind == .anchor) && !(s.sun n).member then min till (open_ + s.rd (F.FM_SUN_ANCHOR_WIN n) * 250) else till }

/-- A turn within an event (R183): TIFS after the previous exchange ended at a raw count, and missed 200 µs later. -/
def State.turnFrame (s : State) (n : Nat) (kind : SunKind) (bytes : List Byte) (ar : Bool) (ended : Nat) : SunLbt :=
  let open_ := ended + s.tifs n * 250
  { kind := kind, bytes := bytes, ch := s.slotCh n (s.sunEc n), be := s.minBe n, from_ := open_, till := min (s.sunTill n bytes.length ar) (open_ + 200 * 250) }

/-- An answer TIFS after a frame that ended now (R182, R183). -/
def State.answerFrame (s : State) (n : Nat) (kind : SunKind) (bytes : List Byte) (peer : Nat) (md : Bool) : SunLbt :=
  { kind := kind, bytes := bytes, ch := s.slotCh n (s.sunEc n), be := s.minBe n, from_ := s.raw + s.tifs n * 250, till := s.sunTill n bytes.length false, peer := peer, md := md }

/-- Can a frame still start in its slot? -/
def State.sunInTime (s : State) (x : SunLbt) : Bool := decide (s.raw ≤ x.till) && decide (x.from_ ≤ x.till)

/-- A listen-before-talk failure (R122, R178): counted with bit CCA_FAIL, and the slot is given up. -/
def State.ccaFail (s : State) (n : Nat) : State := ((s.setSun n { s.sun n with lbt := none }).sat (F.FY_SUN_CCA_FAIL n)).raise (Pg.FY n) 8

/-- The frame of the slot is not sent: a credit held returns, and a request that waits, which can no longer be used, is withdrawn and handled as a listen-before-talk failure (R122, R179). -/
def State.sunGiveUp (s : State) (n : Nat) : State :=
  let s1 := s.dropCredit n
  if s1.credits.any (fun r => r.port == n) then (s1.withdrawReq n).ccaFail n else s1.setSun n { s1.sun n with lbt := none }

/-- What follows a burst that has begun (R183, R184): the event is under way; a data frame waits for its ACK or is done; a CONNECT_REQ is one of four. -/
def State.sunSent (s : State) (n : Nat) (kind : SunKind) : State :=
  match kind with
  | .anchor => s.setSun n { s.sun n with evt := true }
  | .connectReq => s.setSun n { s.sun n with sharedLeft := (s.sun n).sharedLeft - 1 }
  | .data =>
    let s1 := s.setSun n { s.sun n with evt := true }
    match (s1.sun n).tx with
    | some f => if f.ar then s1.setSun n { s1.sun n with tx := some { f with waitAck := true } } else (s1.setSun n { s1.sun n with tx := none }).releasePacket f.cell
    | none => s1
  | _ => s

/-- The 52-octet body of a beacon of slot `e` whose preamble begins at a raw count (R181). -/
def State.sunBeacon (s : State) (n e c : Nat) : List Byte :=
  let u := s.sun n
  let (map, ver, left) := match u.pend with
    | some p => (p.map, p.ver, p.left * 64)
    | none => ((List.range 5).map (fun w => s.rd (F.FM_SUN_CHMAP_EFF n w)), s.rd (F.FM_SUN_MAP_VER n), 0)
  let (t, _, q) := s.convert c
  be 2 0x4000 ++ be 2 u.netId ++ be 5 e ++ be 1 (128 * s.rd (F.FM_SUN_JOIN_PERMIT n) + 64 * b2n u.pend.isSome) ++ be 1 (u.profile * 16 + u.phy) ++
    be 1 u.ciExp ++ be 2 u.es ++ be 2 (s.rd (F.FM_SUN_HOP_EFF n)) ++ be 2 u.seed ++ be 1 (u.nb - 1) ++
    (List.range 4).map (fun k => BitVec.ofNat 8 (s.beaconCh n k)) ++ be 1 ver ++ chmapBytes map ++ be 2 left ++ be 8 t ++ be 1 q.toNat

/-- A frame whose channel is clear and whose credit is held goes on the air (R174, R179): a beacon is built for its preamble start (R181). -/
def State.sunSend (s : State) (n : Nat) (x : SunLbt) : State :=
  let us := s.airUs n x.bytes.length
  let bytes := if x.kind == .beacon then withFcs (s.sunBeacon n (s.sunEc n) (s.burstCount n)) else x.bytes
  let s1 := (s.setSun n { s.sun n with lbt := none }).noteAir n x.ch us
  ((s1.sendBurst n (burstSlots (us * 1000))).emit (.frame n (s.sun n).phy bytes)).sunSent n x.kind

/-- The next frame of a port toward a station (R180, R195): its data frame where one is ready for it. -/
def SunTx.readyFor (x : SunTx) (a : Nat) : Bool := x.dst == a && !x.waitAck && x.wait == 0

/-- A failed packet is released and its source told. -/
def State.losePacket (s : State) (n c : Nat) : State := (s.releasePacket c).emit (.txFailed n)

/-- Builds the data frame for a node from the next packet of the port's transmit queues, where none is being sent (R180, R195). A member sends a packet of PRIO 2 or 3 as a COMMAND (R149, R183, log entry 13). A PSDU over 255 octets is not sent (R170). -/
def State.sunNextTx (s : State) (n : Nat) : State :=
  if (s.sun n).tx.isSome then s
  else
    match s.takeTx 2 n 4 with
    | (none, t) => t
    | (some c, t) =>
      let p := t.txPacket c
      match t.nbrByFlow p.flow with
      | none => t.losePacket n c
      | some i =>
        if (t.nbr i).port != n then t.losePacket n c
        else
          match t.downPayload i p with
          | (none, u) => u.losePacket n c
          | (some pl, u) =>
            let sec := (u.nbrKeys i).link.isSome
            if 255 < 12 + pl.length + 4 * b2n sec + 4 then u.losePacket n c
            else
              match u.takePortSeq n with
              | (none, v) => v.losePacket n c
              | (some seq, v) =>
                let body := v.sunHdr n (b2n ((v.sun n).member && 2 ≤ p.prio)) false p.ar sec p.prio seq (v.nbr i).short (v.sunAddr n) ++ pl
                v.setSun n { v.sun n with tx := some { bytes := withFcs (body ++ v.linkMic i seq body), cell := c, dst := (v.nbr i).short, seq := seq, prio := p.prio, ar := p.ar } }

/-- What a port sends a station in its turn (R183): the data frame that is ready for it, or EMPTY with the next sequence number; nothing where none is left (R207). -/
def State.turnBytes (s : State) (n a : Nat) : Option (SunKind × List Byte × Bool) × State :=
  let empty : Option (SunKind × List Byte × Bool) × State :=
    match s.takePortSeq n with
    | (some seq, t) => (some (.anchor, withFcs (t.sunHdr n 2 false false false 0 seq a (t.sunAddr n)), false), t)
    | (none, t) => (none, t)
  match (s.sun n).tx with
  | some f => if f.readyFor a then (some (.data, f.bytes, f.ar), s) else empty
  | none => empty

/-- An ACK or BUSY goes on the air (R174, R179, R184, R188), or is withheld and counted. Answers whether it was sent. -/
def State.sunAnswer (s : State) (n : Nat) (x : SunLbt) : Bool × State :=
  let us := s.airUs n x.bytes.length
  let s1 := s.setSun n { s.sun n with lbt := none }
  if s.airBlock n x.ch us != 0 then (false, s1.sat (F.FM_SUN_ACK_WITHHELD n))
  else
    match s1.ackCredit n (burstSlots (us * 1000)) with
    | (false, t) => (false, t.sat (F.FM_SUN_ACK_WITHHELD n))
    | (true, t) =>
      let t1 := (t.noteAir n x.ch us).emit (.frame n (s.sun n).phy x.bytes)
      (true,
        if x.kind == .ack then t1
        else
          let t2 := t1.sat (F.FM_SUN_BUSY_SENT n)
          if (t2.sun n).busySent || (t2.port n).held.isEmpty then t2 else (t2.setSun n { t2.sun n with busySent := true }).raise (Pg.FM n) 13)

/-- A frame whose channel is clear, other than an answer to another's: sent with its credit, which it waits for until the last instant at which it could start (R179). A burst that the limits forbid is not sent and counted (R174). -/
def State.sunTry (s : State) (n : Nat) (x : SunLbt) : State :=
  let us := s.airUs n x.bytes.length
  if !s.sunInTime x then s.sunGiveUp n
  else if s.airBlock n x.ch us != 0 then ((s.dropCredit n).setSun n { s.sun n with lbt := none }).airSkip n (s.airBlock n x.ch us)
  else if (s.heldTag n).isSome && s.mayTransmit n then s.sunSend n x
  else (s.setSun n { s.sun n with lbt := some { x with clear := true } }).askCredit n (burstSlots (us * 1000))

/-- A turn of the port within an event toward a station (R178, R183), TIFS after an exchange that ended at a raw count: its frame, or EMPTY. It is sent without listening where the profile exempts frames within an event; else the outcome of its listen comes as LBT_BACKOFF_END. DEDUCED, unsafe: log entry 55. DEDUCED, unsafe: log entry 56. -/
def State.sunTurn (s : State) (n a ended : Nat) : State :=
  match (s.sunNextTx n).turnBytes n a with
  | (none, t) => t
  | (some (kind, bytes, ar), t) =>
    let x := t.turnFrame n kind bytes ar ended
    if t.noListen n then t.sunTry n x else t.setSun n { t.sun n with lbt := some x }

/-- An event of the frame's receiver passes for a frame told to wait (R188). -/
def State.sunWaitEvent (s : State) (n a : Nat) : State :=
  match (s.sun n).tx with
  | some x => if x.dst = a && 0 < x.wait then s.setSun n { s.sun n with tx := some { x with wait := x.wait - 1 } } else s
  | none => s

/-- The port's next turn after an exchange that ended at a raw count (R183): a member's first of an event always, any other while the last frame carried MD = 1. The port's own frames carry MD = 0. DEDUCED, unsafe: log entry 55. -/
def State.nextTurn (s : State) (n a : Nat) (md : Bool) (ended : Nat) : State :=
  if (s.sun n).member then
    if (s.sun n).evt && !md then s
    else
      let s1 := if (s.sun n).evt then s else s.sunWaitEvent n a
      (s1.setSun n { s1.sun n with evt := true }).sunTurn n a ended
  else if (s.sun n).evt && md then s.sunTurn n a ended
  else s

/-- An answer whose channel is clear: sent, and the port's next turn follows it; one that is not sent ends the event. -/
def State.answerGo (s : State) (n : Nat) (x : SunLbt) : State :=
  if !s.sunInTime x then s.setSun n { s.sun n with lbt := none }
  else
    match s.sunAnswer n x with
    | (true, t) => t.nextTurn n x.peer x.md (max s.raw x.from_ + s.airUs n x.bytes.length * 250)
    | (false, t) => t

/-- A frame whose channel is clear. -/
def State.sunGo (s : State) (n : Nat) (x : SunLbt) : State := if x.kind == .ack || x.kind == .busy then s.answerGo n x else s.sunTry n x

/-- Offers an answer (R178): at once where the profile exempts it, else after its listen. DEDUCED, unsafe: log entry 56. -/
def State.answerOffer (s : State) (n : Nat) (x : SunLbt) : State := if s.noListen n then s.sunGo n x else s.setSun n { s.sun n with lbt := some x }

/-- One listen for the frame that waits (R178): busy listens are counted, and BE rises; MAX_CCA of them give the slot up. -/
def State.sunListen (s : State) (n : Nat) (x : SunLbt) (busy : Bool) : State :=
  if s.sunLt n = 0 then s.sunGo n x
  else
    let s1 := s.noteCca n x.ch busy
    if !busy then s1.sunGo n x
    else
      let s2 := s1.sat (F.FY_SUN_CCA_BUSY n)
      if s.rdIn (F.FY_SUN_MAX_CCA n) 1 16 ≤ x.cca + 1 then ((s2.dropCredit n).withdrawReq n).ccaFail n
      else s2.setSun n { s2.sun n with lbt := some { x with cca := x.cca + 1, be := min (x.be + 1) (s.maxBe n) } }

/-- The first frame of a slot asks for its credit and listens (R178, R179). Priority-3 frames in a shared slot start with BE 0 (R184). -/
def State.sunOffer (s : State) (n : Nat) (kind : SunKind) (bytes : List Byte) (ar : Bool) (ch be : Nat) (busy : Bool) : State :=
  let x := s.firstFrame n kind bytes ar ch be
  (s.askCredit n (burstSlots (s.airUs n bytes.length * 1000))).sunListen n x busy

/-! ## Channel maps -/

/-- The map held in a group of five words. -/
def State.mapWords (s : State) (f : Nat → Fld) : List Nat := (List.range 5).map (fun w => s.rd (f w))

/-- The map with the bits beyond the plan cleared (R190). -/
def State.trimMap (s : State) (n : Nat) (m : List Nat) : List Nat :=
  (List.range 5).map (fun w => m.getD w 0 % 2 ^ (min 32 (s.sunN n - 32 * w)))

/-- Enabled channels of a map. -/
def mapCount (m : List Nat) : Nat := ((List.range 160).filter (fun c => mapBit m c)).length

/-- Schedules a map for the map instant: the fourth beacon slot from now (R177). DEDUCED, unsafe: log entry 59. -/
def State.mapSchedule (s : State) (n : Nat) (m : List Nat) : State :=
  let u := s.sun n
  let ver := (match u.pend with | some p => p.ver + 1 | none => s.rd (F.FM_SUN_MAP_VER n) + 1) % 256
  (s.setSun n { u with pend := some ⟨m, ver, 4⟩ }).wr (F.FM_SUN_MAP_PEND n) 1

/-- Puts a map in effect. -/
def State.mapPut (s : State) (n : Nat) (m : List Nat) (ver : Nat) : State :=
  ((List.range 5).foldl (fun t w => t.wr (F.FM_SUN_CHMAP_EFF n w) (m.getD w 0)) s).wr (F.FM_SUN_MAP_VER n) ver

/-- A beacon slot passes for a pending map (R177): at the fourth the map takes effect. -/
def State.mapBeat (s : State) (n : Nat) : State :=
  let u := s.sun n
  match u.pend with
  | none => s
  | some p =>
    if p.left ≤ 1 then
      (((s.setSun n { u with pend := none }).mapPut n p.map p.ver).wr (F.FM_SUN_MAP_PEND n) 0).raise (Pg.FM n) 11
    else s.setSun n { u with pend := some { p with left := p.left - 1 } }

/-- A write of MAP_CTL (R177): AUTO is taken, and APPLY schedules the staged map unless it has too few channels. DEDUCED, unsafe: log entry 59. -/
def State.mapCtlWrite (s : State) (n : Nat) (v : Word) : State :=
  let s1 := s.wr (F.FM_SUN_MAP_CTL_AUTO n) (bits v 1 1)
  if bit v 0 && s.rd (F.FP_FSL_STAT_STATE n) != 0 && (s.port n).pers = 2 && !(s.sun n).member then
    let m := s1.trimMap n (s1.mapWords (F.FM_SUN_CHMAP n))
    if mapCount m < (s1.sunLimits n).minCh then s1.raise (Pg.FM n) 12 else s1.mapSchedule n m
  else s1

/-- MAP_APPLY (R177). -/
def execMapApply (m : Master) (n : Port) (v : Word) (s : State) : Host.Outcome State Fault Refusal :=
  s.done (s.guarded m (Pg.FM n.val) 0x244 (fun s => s.mapCtlWrite n.val v))

/-- The number of ones among the low `k` bits. -/
def onesIn (b : Nat) (k : Nat) : Nat := ((List.range k).filter (fun i => b.testBit i)).length

/-- Automatic exclusion (R177): channels busy in more than half of their last 256 uses are disabled, within the minimum, at most once in 64 beacon periods. -/
def State.mapAuto (s : State) (n e : Nat) : State :=
  let u := s.sun n
  if !s.on (F.FM_SUN_MAP_CTL_AUTO n) || u.pend.isSome || (u.autoAt != 0 && decide (e < u.autoAt + 64 * 64)) then s
  else
    let bad := (u.ccaUse.filter (fun x => x.2.1 == 256 && decide (128 < onesIn x.2.2 256))).map (fun x => x.1)
    let cut := (bad.filter (fun c => s.chOn n c)).take ((s.usedCh n).length - (s.sunLimits n).minCh)
    if cut.isEmpty then s
    else
      let old := s.mapWords (F.FM_SUN_CHMAP_EFF n)
      let m := (List.range 5).map (fun w => cut.foldl (fun x c => if c / 32 = w && x.testBit (c % 32) then x - 2 ^ (c % 32) else x) (old.getD w 0))
      (s.setSun n { u with autoAt := e }).mapSchedule n m

/-! ## Beacons -/

/-- The map that CHMAP bytes spell. -/
def mapOfBytes (b : List Byte) : List Nat :=
  (List.range 5).map (fun w => ((List.range 32).map (fun j =>
    if (b.getD ((32 * w + j) / 8) 0).getLsbD (7 - j % 8) then 2 ^ j else 0)).sum)

/-! ## Events -/

/-- A connection's event: the slots with s mod 2^e = A, from the first one at least 16 slots after its CONNECT_RSP on (R182). -/
def Conn.owns (c : Conn) (e : Nat) : Bool :=
  e % 2 ^ c.e == c.anchor && !isBeaconSlot e && !isSharedSlot e && decide ((e + 2 ^ 40 - c.start % 2 ^ 40) % 2 ^ 40 < 2 ^ 39)

/-- TUNE to the channel of slot `e`, which begins at a raw count: the message names the sample-link slot in which that lies (R179). -/
def State.tuneSlot (s : State) (n e at_ : Nat) : State :=
  let p := s.port n
  if p.sun.tuned = some e || s.scanning n then s
  else
    let k := (((p.slot : Int) + ((at_ : Int) - (p.slotRaw : Int)) * 6 / 15625) % 2 ^ 32).toNat
    (s.setSun n { p.sun with tuned := some e }).fslSend n 0x05 (k * 2 ^ 32 + (s.plan n).1 + s.slotCh n e * (s.plan n).2.1)

/-- The next event slot begins so soon that its TUNE is due (R117, R179): three sample-link slots after the one that can carry the message. -/
def State.tuneAhead (s : State) (n : Nat) : State :=
  let at_ := s.slotAt n + s.esTicks n
  if s.sunUp n && decide (at_ < s.slotCount n (s.nextMsgSlot n + 4)) then s.tuneSlot n ((s.sunEc n + 1) % 2 ^ 40) at_ else s

/-- The coordinator's slot (R175, R182, R183). -/
def State.coordSlot (s : State) (n e : Nat) (busy : Bool) : State :=
  if isBeaconSlot e then
    let s1 := s.mapAuto n e
    if (s1.sun n).netId = 0xFFFF then s1
    else s1.sunOffer n .beacon (withFcs (s1.sunBeacon n e s1.raw)) false (s1.slotCh n e) (s1.minBe n) busy
  else if isSharedSlot e then s
  else
    match List.find? (fun c : Nat × Conn => c.2.owns e) (s.sun n).conns with
    | none => s
    | some (_, c) =>
      match ((s.sunNextTx n).sunWaitEvent n c.addr).turnBytes n c.addr with
      | (some (kind, bytes, ar), t) => t.sunOffer n kind bytes ar (t.slotCh n e) (t.minBe n) busy
      | (none, t) => t

/-- A member's slot (R184, R186): a CONNECT_REQ in a shared slot while CONNECTING, a priority-3 frame in any shared slot while CONNECTED. -/
def State.memberSlot (s : State) (n e : Nat) (busy : Bool) : State :=
  if !isSharedSlot e then s
  else if s.rd (F.FM_SUN_MSTATE n) = 2 then
    if (s.sun n).sharedLeft = 0 then s
    else
      match s.takePortSeq n with
      | (none, t) => t
      | (some seq, t) => t.sunOffer n .connectReq (withFcs (t.sunHdr n 5 false false false 0 seq 0 0xFFFE ++ be 8 t.fuses.serial)) false (t.slotCh n e) (t.minBe n) busy
  else if s.rd (F.FM_SUN_MSTATE n) = 3 then
    let s1 := s.sunNextTx n
    match (s1.sun n).tx with
    | some x => if x.prio = 3 && x.readyFor 0 then s1.sunOffer n .data x.bytes x.ar (s1.slotCh n e) 0 busy else s1
    | none => s1
  else s

/-- SUN_SLOT_START (R175, R177, R179): a beacon slot counts for a pending map whether or not the link is UP; TUNE to the slot's channel where it has not gone out, then the slot's business. What still waits from the slot before is given up. -/
def execSunSlotStart (n : Port) (busy : Bool) (s : State) : Host.Outcome State Fault Refusal :=
  s.done (if (s.port n.val).pers != 2 || s.rd (F.FP_FSL_STAT_STATE n.val) = 0 then s
    else
      let e := s.sunEc n.val
      let s1 := if isBeaconSlot e then s.mapBeat n.val else s
      if !s1.sunUp n.val then s1
      else
        let s2 := s1.sunGiveUp n.val
        let s3 := (s2.setSun n.val { s2.sun n.val with evt := false }).tuneSlot n.val e (s2.slotAt n.val)
        if (s3.sun n.val).member then s3.memberSlot n.val e busy else s3.coordSlot n.val e busy)

/-- LBT_BACKOFF_END (R178): the station listens again. -/
def execLbtBackoffEnd (n : Port) (busy : Bool) (s : State) : Host.Outcome State Fault Refusal :=
  s.done (match (s.sun n.val).lbt with
    | some x => if s.sunUp n.val && !x.clear then s.sunListen n.val x busy else s
    | none => s)

/-- The credit that a frame waits for has been granted (R179). -/
def State.sunGranted (s : State) (n : Nat) : State :=
  match (s.sun n).lbt with
  | some x => if x.clear && (s.heldTag n).isSome then s.sunTry n x else s
  | none => s

/-- CREDIT_GRANT (R506): the request is examined; a radio frame that waits for nothing else goes out. -/
def execCreditGrant (n : Port) (s : State) : Host.Outcome State Fault Refusal := s.done ((s.creditGrant n.val).sunGranted n.val)

/-- The last instant at which a radio frame could still start passes (R179). -/
def State.sunExpire (s : State) (n : Nat) : State :=
  match (s.sun n).lbt with
  | some x => if s.sunInTime x then s else s.sunGiveUp n
  | none => s

/-- Every radio port. -/
def State.sunExpires (s : State) : State := (s.ports.map (fun e => e.1)).foldl (fun (t : State) n => t.sunExpire n) s

/-- FSL_SLOT_RX (R109, R113): one receive slot, and with it one transmit slot. A port that stops in good order still sends (R105). A radio port sends the TUNE that is due (R179). DESIGN CHOICE, safe: log entry 131. -/
def execFslSlotRx (n : Port) (commaOk codeOk : Bool) (chars : List Byte) (s : State) : Host.Outcome State Fault Refusal :=
  s.done (if s.afeHeard n.val then
      ((if slotGood commaOk codeOk chars then s.slotTaken n.val chars else s.slotDiscarded n.val).slotSend n.val).tuneAhead n.val
    else if (s.port n.val).ending.isSome then ((s.slotNext n.val).slotSend n.val).slotEnd n.val
    else s)

/-! ## Reception -/

/-- A 9-octet ACK or BUSY with its FCS (R180): the SEQ answered, the receiver, and STATUS or BACKOFF. -/
def ackBytes (type seq dst status : Nat) : List Byte := withFcs (be 2 (type * 4096) ++ be 4 seq ++ be 2 dst ++ be 1 status)

/-- BUSY to a frame (R188): counted, the first since back-pressure began with bit BUSY; withheld where it may not be sent (R174, R179). -/
def State.sunBusy (s : State) (n seq dst : Nat) (md : Bool) : State :=
  s.answerOffer n (s.answerFrame n .busy (ackBytes 7 seq dst (s.rdIn (F.FM_SUN_BUSY_EV n) 1 15)) dst md)

/-- A frame of a member counts for its supervision (R185). -/
def State.sunHeard (s : State) (n a : Nat) : State :=
  let u := s.sun n
  match SMap.find? u.conns a with
  | some c => s.setSun n { u with conns := SMap.set u.conns a { c with lastRx := s.raw } }
  | none => s

/-- The raw count at which the burst of a frame just received began (R88). -/
def State.sunStamp (s : State) (n : Nat) (f : List Byte) : Nat := s.raw - s.airUs n (f.length + 4) * 250

/-- Must a port hold a good frame (R188, R229): its queue is open, and back-pressure, XOFF or FREE keeps it from committing, or others are held before it? -/
def State.mustHold (s : State) (n : Nat) : Bool := s.domOn Dom.PKT && s.queueOpen n && (!s.portRoom n || !(s.port n).held.isEmpty)

/-- Has T1 answered later than the personality's deadline after the end of a frame (R152, R184)? Of a frame that is not the newest one received, yes. -/
def State.ackLate (s : State) (n stamp deadline : Nat) : Bool :=
  (s.port n).rxEnd.1 != stamp || decide ((s.port n).rxEnd.2 + deadline * 250 < s.raw)

/-- ACK_DEADLINE of a radio port as it acts: 20 µs to TIFS less 200 (R190). -/
def State.sunDeadline (s : State) (n : Nat) : Nat := s.rdIn (F.FM_SUN_ACK_DEADLINE n) 20 (s.tifs n - 200)

/-- The ACK of a frame that passed T1 or repeats one (R184), and the port's turn after it. One known too late gets none, uncounted. -/
def State.sunAck (s : State) (n seq src : Nat) (md inTime : Bool) (stamp : Nat) : State :=
  if !inTime || s.ackLate n stamp (s.sunDeadline n) then s
  else
    let x := s.answerFrame n .ack (ackBytes 3 seq src 0) src md
    s.answerOffer n { x with from_ := (s.port n).rxEnd.2 + s.tifs n * 250 }

/-- An EMPTY frame (R180, R184): it makes no packet; Gate checks its SEQ, and with AR = 1 it is acknowledged as any other. -/
def State.sunEmpty (s : State) (n : Nat) (f : List Byte) : State :=
  let fc := field f 0 2
  let src := field f 8 2
  if !s.domOn Dom.PKT then s
  else
    match s.linkCheck (s.snapT1 n src none) false (field f 2 4) (fc.testBit 9) f with
    | (o, t) => if (o = .accept || o = .dup) && fc.testBit 10 then t.sunAck n (field f 2 4) src (fc.testBit 11) true (s.port n).rxEnd.1 else t

/-- A DATA or COMMAND frame for this port (R180, R184, R188): received; a coordinator that must hold it answers one with AR = 1 by BUSY. -/
def State.sunData (s : State) (n : Nat) (f : List Byte) : State :=
  let fc := field f 0 2
  let stamp := s.sunStamp n f
  let r : RxFrame := { payload := f, stamp := stamp, qual := (s.convert stamp).2.2.toNat, blanked := false, held := false
                       short := field f 8 2, seq := field f 2 4, sec := fc.testBit 9, ar := fc.testBit 10 }
  if s.mustHold n && !(s.sun n).member then
    let s1 := s.portReceive n { r with ar := false }
    if r.ar then s1.sunBusy n r.seq r.short (fc.testBit 11) else s1
  else s.portReceive n r

/-- A member leaves its network for SCAN (R186): it tunes to the first beacon channel, unless it scans already. -/
def State.memberScan (s : State) (n : Nat) (fromStart refused : Bool) : State :=
  let u := s.sun n
  let s1 := (s.setSun n { u with conns := [], dwellCh := if fromStart then 0 else u.dwellCh
                                 noReqUntil := if refused then s.raw + 8 * 64 * s.esTicks n else u.noReqUntil }).wr (F.FM_SUN_MSTATE n) 1
  if fromStart then s1.tuneScan n else s1

/-- The event counter a beacon carries, against the port's own (R185): more than 2 slots away? -/
def ecFar (a b : Nat) : Bool :=
  let d := (a + 2 ^ 40 - b) % 2 ^ 40
  decide (2 < d) && decide (d < 2 ^ 40 - 2)

/-- A member adopts a beacon's counter and grid, and its map or the change it announces (R177, R185, R186). Later scans rotate over the beacon's channels. DEDUCED, unsafe: log entry 54. -/
def State.adoptBeacon (s : State) (n : Nat) (b : List Byte) : State :=
  let e := field b 4 5
  let es := min 60000 (max 5000 (field b 12 2))
  let pendBit := (field b 9 1).testBit 6
  let u := { s.sun n with
    es := es, hop := field b 14 2, seed := field b 16 2, nb := field b 18 1 % 4 + 1, net := field b 2 2
    bcnCh := field b 19 1 + 256 * field b 20 1 + 65536 * field b 21 1 + 16777216 * field b 22 1
    pend := if pendBit then some ⟨mapOfBytes ((b.drop 24).take 17), field b 23 1, field b 41 2 / 64⟩ else none }
  let s1 := (({ s with sunGrid := SMap.set s.sunGrid n ((s.sunStamp n b % (2 ^ 40 * (es * 250)) + (2 ^ 40 - e) * (es * 250)) % (2 ^ 40 * (es * 250))) }).setSun n u).wr (F.FM_SUN_HOP_EFF n) (field b 14 2)
  if pendBit then s1 else s1.mapPut n (mapOfBytes ((b.drop 24).take 17)) (field b 23 1)

/-- The last valid beacon in the registers (R187). -/
def State.noteBeacon (s : State) (n : Nat) (b : List Byte) : State :=
  ((((s.wr (F.FM_SUN_LAST_BCN_LO n) (s.sunStamp n b)).wr (F.FM_SUN_LAST_BCN_HI n) (s.sunStamp n b / 2 ^ 32)).wr (F.FM_SUN_LAST_BCN_T_LO n) (field b 43 8)).wr
    (F.FM_SUN_LAST_BCN_T_HI n) (field b 43 4)).wr (F.FM_SUN_LAST_BCN_Q n) (field b 51 1)

/-- A beacon reaches a member (R186). DEDUCED, unsafe: log entry 54. -/
def State.memberBeacon (s : State) (n : Nat) (b : List Byte) : State :=
  let u := s.sun n
  let st := s.rd (F.FM_SUN_MSTATE n)
  let net := field b 2 2
  let join := (field b 9 1).testBit 7
  let pendBit := (field b 9 1).testBit 6
  if !(u.netId == 0xFFFF || u.netId == net) || b.length != 52 then s
  else if st = 1 then
    let s1 := s.noteBeacon n b
    if join && !pendBit && u.noReqUntil ≤ s.raw then
      let s2 := s1.adoptBeacon n b
      (s2.setSun n { s2.sun n with sharedLeft := 4 }).wr (F.FM_SUN_MSTATE n) 2
    else s1
  else if st = 2 && net = u.net then s.noteBeacon n b
  else if st = 3 && net = u.net then
    let s1 := ((s.noteBeacon n b).wr (F.FM_SUN_MISSED n) 0).sunHeard n 0
    if ecFar (field b 4 5) (s.sunEc n) then s1.adoptBeacon n b
    else if pendBit then s1.setSun n { s1.sun n with pend := some ⟨mapOfBytes ((b.drop 24).take 17), field b 23 1, field b 41 2 / 64⟩ } else s1
  else if st = 4 && net = u.net then
    ((((s.noteBeacon n b).adoptBeacon n b).wr (F.FM_SUN_MISSED n) 0).wr (F.FM_SUN_MSTATE n) 3).sunHeard n 0
  else s

/-- A DATA, COMMAND or EMPTY frame is taken; one without AR ends its exchange, and the port's next turn follows (R183). -/
def State.sunTaken (s : State) (n type : Nat) (f : List Byte) : State :=
  let fc := field f 0 2
  let s1 := if type = 2 then s.sunEmpty n f else s.sunData n f
  if fc.testBit 10 then s1 else s1.nextTurn n (field f 8 2) (fc.testBit 11) s.raw

/-- A frame with a correct FCS (R180). -/
def State.sunFrame (s : State) (n : Nat) (f : List Byte) : State :=
  let fc := field f 0 2
  let type := fc / 4096
  let member := (s.sun n).member
  let src := field f 8 2
  let dst := field f 6 2
  if type = 4 then (if member then s.memberBeacon n f else s)
  else if type ≤ 2 then
    if dst != s.sunAddr n then s
    else if member then
      if src != 0 || s.rd (F.FM_SUN_MSTATE n) != 3 then s
      else
        (s.sunHeard n 0).sunTaken n type f
    else (s.sunHeard n src).sunTaken n type f
  else s

/-- SUN_FRAME_RX (R170). -/
def execSunFrameRx (n : Port) (phrOk fcsOk : Bool) (psdu : List Byte) (level : Byte) (s : State) : Host.Outcome State Fault Refusal :=
  s.done (if !s.sunUp n.val || s.modemTested n.val then s
    else if !phrOk || 255 < psdu.length + 4 then s.sat (F.FY_SUN_RX_PHR_ERR n.val)
    else
      let ch := if s.scanning n.val then s.beaconCh n.val (s.sun n.val).dwellCh else s.slotCh n.val (s.sunEc n.val)
      let s0 := s.setPort n.val { s.port n.val with rxEnd := (s.sunStamp n.val psdu, s.raw) }
      let s1 := (s0.wr (F.FY_SUN_LAST_RSSI n.val) level.toNat).wr (F.FY_SUN_LAST_CH n.val) ch
      if fcsOk then s1.sunFrame n.val psdu else (s1.countRewind).sat (F.FY_SUN_RX_ABORT n.val))

/-! ## Connections -/

/-- Do two connections share a slot (R182)? -/
def anchorsClash (a e : Nat) (c : Conn) : Bool := a % 2 ^ (min e c.e) == c.anchor % 2 ^ (min e c.e)

/-- An anchor of an exponent that no connection shares a slot with (R182): the lowest. DESIGN CHOICE, unsafe: log entry 57. -/
def State.freeAnchor (s : State) (n e : Nat) : Option Nat :=
  (List.range (2 ^ e)).find? (fun a => !isBeaconSlot a && !isSharedSlot a && !(s.sun n).conns.any (fun c => anchorsClash a e c.2))

/-- Sends a CONNECT_RSP TIFS after the request (R180, R182): to SRC 0xFFFE of the request. The credit is asked for as for any burst. -/
def State.connectRsp (s : State) (n result addr anchor e : Nat) : State :=
  match s.takePortSeq n with
  | (none, t) => t
  | (some seq, t) =>
    t.answerOffer n (t.answerFrame n .connectRsp
      (withFcs (t.sunHdr n 6 false false false 0 seq 0xFFFE 0 ++ be 1 result ++ be 2 addr ++ be 2 anchor ++ be 1 e)) 0 false)

/-- The journal record of a connection (R185): the port, the member, its anchor and exponent, and whether it stands. DESIGN CHOICE, unsafe: log entry 52. -/
def State.connJournal (s : State) (n addr anchor e : Nat) (live : Bool) : State :=
  s.journal 6 (be 3 (0x30000 + n) ++ be 1 (b2n live) ++ be 2 addr ++ be 2 anchor ++ be 1 e)

/-- A connection is made (R182, R185): its first event is at least 16 slots away. -/
def State.connect (s : State) (n addr anchor e : Nat) : State :=
  let u := s.sun n
  (s.setSun n { u with conns := SMap.set u.conns addr { addr := addr, anchor := anchor, e := e, lastRx := s.raw, start := s.sunEc n + 16 } }).connJournal n addr anchor e true

/-- A coordinator's answer to a CONNECT_REQ (R106, R182, R209). DESIGN CHOICE, unsafe: log entry 57. -/
def State.connectReq (s : State) (n eui : Nat) : State :=
  let u := s.sun n
  let refused (t : State) : State := ((t.sat (F.FP_JOIN_REFUSED n)).raise (Pg.FP n) 5).connectRsp n 1 0 0 0
  if !s.joinPermitted n || u.netId = 0xFFFF then s.connectRsp n 3 0 0 0
  else if !s.roomFor n eui then refused s
  else
    let have_ := match s.nbrByEui eui with
      | some i => if (s.nbr i).port = n then SMap.find? u.conns (s.nbr i).short else none
      | none => none
    match (match have_ with | some c => some (c.anchor, c.e) | none => (s.freeAnchor n u.ciExp).map (fun a => (a, u.ciExp))) with
    | none => ((s.sat (F.FM_SUN_SCHED_FULL n)).raise (Pg.FM n) 10).connectRsp n 2 0 0 0
    | some (a, e) =>
      match s.gateJoin n eui with
      | (.active i, t) =>
        let addr := (t.nbr i).short
        (t.connect n addr a e).connectRsp n 0 addr a e
      | (.defer, t) => t.tookFree.sunBusy n (t.freeVal (2 ^ 32)) 0xFFFE false
      | (.full, t) => refused t
      | (_, t) => t

/-- CONNECT_REQ (R182). -/
def execConnectReq (n : Port) (eui : BitVec 64) (s : State) : Host.Outcome State Fault Refusal :=
  s.done (if s.sunUp n.val && !(s.sun n.val).member && s.domOn Dom.PKT && isSharedSlot (s.sunEc n.val) then s.connectReq n.val eui.toNat else s)

/-- CONNECT_RSP (R186). -/
def execConnectRsp (n : Port) (result : Byte) (addr anchor : BitVec 16) (e : Byte) (s : State) : Host.Outcome State Fault Refusal :=
  s.done (if s.sunUp n.val && s.rd (F.FM_SUN_MSTATE n.val) = 2 then
      if result = 0 then
        let u := s.sun n.val
        ((s.setSun n.val { u with conns := [(0, { addr := 0, anchor := anchor.toNat, e := e.toNat, lastRx := s.raw, start := s.sunEc n.val + 16 })] }).wr (F.FM_SUN_MY_ADDR n.val) addr.toNat).wr (F.FM_SUN_MSTATE n.val) 3
          |>.wr (F.FM_SUN_MISSED n.val) 0
      else s.memberScan n.val true true
    else s)

/-- CONNECT_NO_ANSWER (R186). -/
def execConnectNoAnswer (n : Port) (s : State) : Host.Outcome State Fault Refusal :=
  s.done (if s.sunUp n.val && s.rd (F.FM_SUN_MSTATE n.val) = 2 then s.memberScan n.val true true else s)

/-- SUN_ACK_RX (R184): the frame is delivered. -/
def execSunAckRx (n : Port) (seq : Word) (s : State) : Host.Outcome State Fault Refusal :=
  s.done (match (s.sun n.val).tx with
    | some x =>
      if x.waitAck && x.seq = seq.toNat then
        let s1 := s.sunHeard n.val x.dst
        (s1.setSun n.val { s1.sun n.val with tx := none }).releasePacket x.cell
      else s
    | none => s)

/-- The frame being sent is discarded and its source told. -/
def State.sunFail (s : State) (n : Nat) : State :=
  match (s.sun n).tx with
  | some x => (((s.setSun n { s.sun n with tx := none }).releasePacket x.cell).emit (.txFailed n)).sat (F.FM_SUN_TX_FAIL n)
  | none => s

/-- SUN_ACK_MISSING (R184). -/
def execSunAckMissing (n : Port) (s : State) : Host.Outcome State Fault Refusal :=
  s.done (match (s.sun n.val).tx with
    | some x =>
      if !x.waitAck then s
      else if min 7 (s.rd (F.FM_SUN_RETRY n.val)) ≤ x.retries then s.sunFail n.val
      else s.setSun n.val { s.sun n.val with tx := some { x with waitAck := false, retries := x.retries + 1 } }
    | none => s)

/-- BUSY_RX (R188): the frame waits BACKOFF of the sender's own events; no retry is counted. -/
def execBusyRx (n : Port) (seq : Word) (backoff : BitVec 4) (s : State) : Host.Outcome State Fault Refusal :=
  s.done (match (s.sun n.val).tx with
    | some x =>
      if x.waitAck && x.seq = seq.toNat then
        let s0 := s.sunHeard n.val x.dst
        let s1 := s0.setSun n.val { s0.sun n.val with tx := some { x with waitAck := false, wait := backoff.toNat } }
        if (s.sun n.val).member then s1.sat (F.FM_SUN_BUSY_RCVD n.val) else s1
      else s
    | none => s)

/-- SUP_TO of a connection in raw ticks: at least 3 × 2^e × ES (R185). -/
def State.supTicks (s : State) (n : Nat) (c : Conn) : Nat := max (s.rd (F.FM_SUN_SUP_TO n) * 250000) (3 * 2 ^ c.e * s.esTicks n)

/-- Has a connection had no valid frame for SUP_TO? -/
def State.supOut (s : State) (n : Nat) (c : Conn) : Bool := decide (c.lastRx + s.supTicks n c ≤ s.raw)

/-- SUN_SUPERVISION_TIMEOUT (R185, R186): a connection without a valid frame for SUP_TO is lost; Gate keeps the neighbour. -/
def execSunSupervisionTimeout (n : Port) (addr : BitVec 16) (s : State) : Host.Outcome State Fault Refusal :=
  s.done (
    let u := s.sun n.val
    let st := s.rd (F.FM_SUN_MSTATE n.val)
    if u.member then
      match SMap.find? u.conns 0 with
      | some c => if (st = 3 || st = 4) && s.supOut n.val c then ((s.memberScan n.val (st == 3) false).sat (F.FM_SUN_CONN_LOST n.val)).raise (Pg.FM n.val) 8 else s
      | none => s
    else
      match SMap.find? u.conns addr.toNat with
      | some c =>
        if s.supOut n.val c then
          (((s.setSun n.val { u with conns := SMap.erase u.conns addr.toNat }).connJournal n.val addr.toNat c.anchor c.e false).sat (F.FM_SUN_CONN_LOST n.val)).raise (Pg.FM n.val) 8
        else s
      | none => s)

/-- BEACON_MISSED (R186): the third in succession enters RESYNC. -/
def execBeaconMissed (n : Port) (s : State) : Host.Outcome State Fault Refusal :=
  s.done (if s.sunUp n.val && s.rd (F.FM_SUN_MSTATE n.val) = 3 then
      let k := s.rd (F.FM_SUN_MISSED n.val) + 1
      let s1 := (s.wr (F.FM_SUN_MISSED n.val) (min 15 k)).sat (F.FM_SUN_MISSED_BCN n.val)
      if k = 3 then (((s1.wr (F.FM_SUN_MSTATE n.val) 4).sat (F.FM_SUN_RESYNC_CNT n.val)).raise (Pg.FM n.val) 9).tuneScan n.val else s1
    else s)

/-- SCAN_DWELL_END (R186): a scanning member turns to the next beacon channel. -/
def execScanDwellEnd (n : Port) (s : State) : Host.Outcome State Fault Refusal :=
  s.done (
    let st := s.rd (F.FM_SUN_MSTATE n.val)
    if s.sunUp n.val && (st = 1 || st = 4) then
      let u := s.sun n.val
      let k := (u.dwellCh + 1) % u.nb
      (s.setSun n.val { u with dwellCh := k }).tuneScan n.val
    else s)

/-! ## Credits withdrawn -/

/-- CREDIT_WITHDRAW (R122, R151): a request that has waited CRED_WAIT is withdrawn and handled as a busy medium, and a credit kept that long without a slot is given back. -/
def execCreditWithdraw (n : Port) (s : State) : Host.Outcome State Fault Refusal :=
  s.done (if s.credits.any (fun r => r.port == n.val) then
      let s1 := s.withdrawReq n.val
      if (s1.port n.val).pers = 2 then s1.ccaFail n.val else s1.deferTx n.val
    else s.dropCredit n.val)

/-! ## Settings that act at once (R115, R167, R189) -/

/-- The fields of a port that its CONFIG message carries. -/
def State.configFields (s : State) (n : Nat) : List Nat :=
  if (s.port n).pers = 2 then [s.rd (F.FY_SUN_ANT n), s.rd (F.FY_SUN_AGC n), s.rd (F.FY_SUN_RX_GAIN n), s.rd (F.FY_SUN_TX_ATT n)]
  else [s.phase n, s.rd (F.FY_RX_GAIN_AGC n), s.rd (F.FY_RX_GAIN_FIXED n), s.rd (F.FY_TX_ATT n)]

/-- The centre frequency of a port now, in Hz; 0 on a power-line port. -/
def State.centreHz (s : State) (n : Nat) : Nat :=
  if (s.port n).pers != 2 then 0
  else (s.plan n).1 + (if s.scanning n then s.beaconCh n (s.sun n).dwellCh else s.slotCh n (s.sunEc n)) * (s.plan n).2.1

/-- A port whose link is UP sends CONFIG when what it carries has changed since `old`. -/
def State.configFollow (s : State) (old : State) (n : Nat) : State :=
  if s.linkUp n && s.configFields n != old.configFields n then s.sendConfig n (s.restCoupling n) (s.centreHz n) else s

/-- Every port. -/
def State.configsFollow (s : State) (old : State) : State := (s.ports.map (fun e => e.1)).foldl (fun (t : State) n => t.configFollow old n) s

end Sys2Proof.Machine
end

