-- ==== Sys2Proof/Machine/Planish.lean ====
section
/-!
DEFINITION. Planish, the hardware scheduler (chapter 09): descriptors, pops, dispatch, completions, host queues, drains and observation. What a task of a chain does when it completes is in the families that follow.
-/
namespace Sys2Proof.Machine

/-! ## Descriptors -/

/-- The lowest key from `k` on that a rising map leaves free. DESIGN CHOICE, unsafe: log entry 16. -/
def firstGap {α : Type} : SMap α → Nat → Nat
  | [], k => k
  | (i, _) :: m, k => if i = k then firstGap m (k + 1) else if i < k then firstGap m k else k

/-- A descriptor in use. -/
def State.desc (s : State) (i : Nat) : Option Desc := SMap.find? s.pln.descs i

/-- Sets a descriptor. -/
def State.setDesc (s : State) (i : Nat) (d : Desc) : State := { s with pln := { s.pln with descs := SMap.set s.pln.descs i d } }

/-- A chain. -/
def State.chain (s : State) (c : Nat) : Chain := SMap.getD s.pln.chains c {}

/-- Sets a chain. -/
def State.setChain (s : State) (c : Nat) (x : Chain) : State := { s with pln := { s.pln with chains := SMap.set s.pln.chains c x } }

/-- Opens a chain under the next number. -/
def State.openChain (s : State) (c : Nat) (x : Chain) : State :=
  { s with pln := { s.pln with chains := SMap.set s.pln.chains c x, nextChain := c + 1 } }

/-- FREE descriptors (R258). -/
def State.descFree (s : State) : Nat := 16384 - s.pln.descs.length

/-- Descriptors reserved by chains and not yet written (R251). -/
def State.descResv (s : State) : Nat := (s.pln.chains.map (fun e => e.2.resv)).sum

/-- INT_RSV as it acts: 64 to 4,095 (R258). -/
def State.intRsv (s : State) : Nat := s.rdIn F.PLN_INT_RSV 64 4095

/-- DFREE (R251), signed. -/
def State.dfree (s : State) : Int := (s.descFree : Int) - s.descResv - s.intRsv

/-- The flows that hold a flow cache entry (R249): those with a live atomic descriptor. -/
def State.flows (s : State) : List Nat := ((s.pln.descs.filter (fun e => e.2.atomic)).map (fun e => e.2.flow)).eraseDups

/-- Has the flow cache an entry for a flow, or room for one (R249)? -/
def State.flowRoom (s : State) (atomic : Bool) (flow : Nat) : Bool :=
  !atomic || s.flows.contains flow || decide (s.flows.length < 8192)

/-- A wait for a flow cache entry is counted; the first after the cache was below full sets FLOW_FULL (R249, R258). -/
def State.flowWaits (s : State) : State :=
  let s1 := { s with pln := { s.pln with flowFull := true } }.sat F.PLN_FLOW_WAIT
  if s.pln.flowFull then s1 else s1.raise Pg.PLN 5

/-- A signed value as its register's 16 bits. -/
def signed16 (i : Int) : Nat := (i % 65536).toNat

/-- The descriptor back-pressures after DFREE has changed, one bit per class (R252). -/
def State.plnBpNext (s : State) : Nat :=
  ((List.range 5).map (fun c =>
    let th : Int := s.rd (F.PLN_DBP_TH c)
    let was := (s.rd F.PLN_BP_STAT_DESC).testBit c
    if decide (s.dfree < (if was then th + s.rd F.PLN_DBP_HYST else th)) then 2 ^ c else 0)).sum

/-- Brings what follows from DFREE up to date (R251, R252, R258): DESC_FREE, DFREE, DFREE_MIN, FLOW_USED and the back-pressures with their interrupts. -/
def State.plnLevels (s : State) : State :=
  let low : Int := (BitVec.ofNat 16 (s.rd F.PLN_DFREE_MIN)).toInt
  let s1 := ((s.wr F.PLN_DESC_FREE s.descFree).wr F.PLN_DFREE (signed16 s.dfree)).wr F.PLN_FLOW_USED s.flows.length
  let s2 := if s.dfree < low then s1.wr F.PLN_DFREE_MIN (signed16 s.dfree) else s1
  let was := BitVec.ofNat 5 (s.rd F.PLN_BP_STAT_DESC)
  let b := BitVec.ofNat 5 s.plnBpNext
  let s3 := (s2.wr F.PLN_BP_STAT_DESC b.toNat).wr F.PLN_BP_STAT_ANY (b.toNat ||| s.cru.bp.toNat)
  let s4 := if b &&& ~~~was != 0 then s3.raise Pg.PLN 0 else s3
  let s5 := if was &&& ~~~b != 0 then s4.raise Pg.PLN 1 else s4
  ({ s5 with pln := { s5.pln with flowFull := s5.pln.flowFull && decide (8192 ≤ s5.flows.length) } }).ethPause

/-- Writes a descriptor into the lowest FREE index (log entry 16); none where all are in use. A descriptor with COUNT 0 is READY (R242). A VALIDATE or PROFILE task stamped before the last completed drain is LATE (R255). DESIGN CHOICE, unsafe: log entry 16. -/
def State.newDesc (s : State) (d : Desc) : Option (Nat × State) :=
  let i := firstGap s.pln.descs 0
  if 16384 ≤ i then none
  else some (i, ({ s with pln := { s.pln with
    descs := SMap.set s.pln.descs i { d.markLate s.pln.lastDrain with st := if d.count = 0 then .ready else .waiting, order := s.pln.order }
    order := s.pln.order + 1 } }).wrap F.PLN_CREATED)

/-- May an internal creation take a descriptor (R246, R251)? It may use INT_RSV, but no descriptor that a chain has reserved. -/
def State.internalRoom (s : State) : Bool := decide (s.descResv < s.descFree)

/-- Writes the descriptor of an internal creation. -/
def State.newInternal (s : State) (d : Desc) : Option (Nat × State) := if s.internalRoom then s.newDesc d else none

/-- An internal creation (R246): where no descriptor can be given it waits and is counted. DEDUCED, unsafe: log entry 74. -/
def State.create (s : State) (d : Desc) : State :=
  if !s.pln.spill.isEmpty then ({ s with pln := { s.pln with spill := s.pln.spill ++ [d] } }).sat F.PLN_AGAIN
  else if !s.flowRoom d.atomic d.flow then ({ s with pln := { s.pln with spill := [d] } }).flowWaits
  else
    match s.newInternal d with
    | some (_, t) => t
    | none => ({ s with pln := { s.pln with spill := [d] } }).sat F.PLN_AGAIN

/-- Waiting creations take the descriptors that have come free, in order. -/
def State.unspill (s : State) : Nat → State
  | 0 => s
  | fuel + 1 =>
    match s.pln.spill with
    | [] => s
    | d :: ds =>
      if !s.flowRoom d.atomic d.flow then s
      else
        match s.newInternal d with
        | some (_, t) => ({ t with pln := { t.pln with spill := ds } }).unspill fuel
        | none => s

/-- After a change of the descriptors: waiting creations, then the levels. -/
def State.plnSync (s : State) : State := (s.unspill s.pln.spill.length).plnLevels

/-- A COUNT goes down by one; a task whose COUNT reaches 0 is READY (R242). -/
def State.decCount (s : State) (i : Nat) : State :=
  match s.desc i with
  | none => s
  | some d =>
    if d.count = 1 && d.st == .waiting then
      { s with pln := { s.pln with
          descs := SMap.set s.pln.descs i { d with count := 0, st := .ready, order := s.pln.order }
          order := s.pln.order + 1 } }
    else s.setDesc i { d with count := d.count - 1 }

/-- Frees a descriptor with the FAN descriptors it names (R241, R242). -/
def State.freeDesc (s : State) (i : Nat) : State :=
  let fans := ((s.desc i).map (fun d => d.fans)).getD []
  { s with pln := { s.pln with descs := (fans ++ [i]).foldl (fun m k => SMap.erase m k) s.pln.descs } }

/-! ## How a task ends -/

/-- The tasks cancelled when a task fails: its successors and theirs in turn, T8 excepted (R248). -/
def cancelSet (descs : SMap Desc) : Nat → List Nat → List Nat → List Nat
  | 0, _, seen => seen
  | _, [], seen => seen
  | fuel + 1, j :: js, seen =>
    match SMap.find? descs j with
    | none => cancelSet descs fuel js seen
    | some d => if d.kind = 7 || seen.contains j then cancelSet descs fuel js seen else cancelSet descs fuel (js ++ d.succ) (seen ++ [j])

/-- Is a descriptor a RETIRE task? -/
def State.isRetire (s : State) (j : Nat) : Bool := ((s.desc j).map (fun d => d.kind == 7)).getD false

/-- Cancels every successor of a failed task (R248): each cancelled task, and the failed one, that names RETIRE lowers its COUNT; the cancelled descriptors are freed and counted, and what the chain still reserves returns. -/
def State.cancelSucc (s : State) (d : Desc) : State :=
  let l := cancelSet s.pln.descs 32768 d.succ []
  let named := (d.succ ++ (l.map (fun j => ((s.desc j).map (fun x => x.succ)).getD [])).flatten).filter (fun j => s.isRetire j)
  let s1 := named.foldl (fun t j => t.decCount j) s
  let s2 := (l.foldl (fun t j => t.freeDesc j) s1).addSat F.PLN_CANCELLED l.length
  if (SMap.find? s2.pln.chains d.chain).isSome then s2.setChain d.chain { s2.chain d.chain with resv := 0 } else s2

/-- Records the end of a task in FAULT_LOG unless a record is held (R247, R248, R258). DEDUCED, unsafe: log entry 70. -/
def State.faultLog (s : State) (i : Nat) (d : Desc) (how : TaskEnd) : State :=
  let s1 := match how with
    | .poison => s.sat F.PLN_POISON
    | .timeout => s.sat F.PLN_TIMEOUT
    | _ => s
  if s1.on F.PLN_FAULT_LOG_VALID then s1
  else
    ((((s1.wr F.PLN_FAULT_LOG_VALID 1).wr F.PLN_FAULT_LOG_CAUSE (match how with | .timeout => 1 | .poison => 2 | _ => 3)).wr F.PLN_FAULT_LOG_CORE
      (if 11 ≤ d.exec && d.exec < 27 then d.exec - 11 else 0)).wr F.PLN_FAULT_LOG_DESC i).raise Pg.PLN 2

/-! ## Completion queues -/

/-- The entries of a queue pair's rings: 2 to the SIZE, 4 to 12; none while SIZE is 0 (R254, R258). -/
def State.ringSize (s : State) (k : Nat) : Nat := if s.rd (F.PLN_SQ_SIZE k) = 0 then 0 else 2 ^ (s.rdIn (F.PLN_SQ_SIZE k) 4 12)

/-- Completion entries written that the host has not read. -/
def State.cqOut (s : State) (k : Nat) : Nat := SMap.getD s.pln.cqTail k 0 - SMap.getD s.pln.cqHead k 0

/-- Is a completion queue full (R254)? -/
def State.cqIsFull (s : State) (k : Nat) : Bool := decide (s.ringSize k ≤ s.cqOut k)

/-- Brings vector 24 + k up to date: entries wait for the host (R61, R62, R254). -/
def State.cqVector (s : State) (k : Nat) : State := s.setCond (24 + k) (decide (0 < s.cqOut k))

/-- Writes a completion entry (R254). PHASE is inverted at each wrap and is 1 in the first lap (log entry 17). DESIGN CHOICE, unsafe: log entry 17. -/
def State.cqWrite (s : State) (k tag sqhd status result : Nat) : State :=
  let t := SMap.getD s.pln.cqTail k 0
  let n := s.ringSize k
  (({ s with pln := { s.pln with cqTail := SMap.set s.pln.cqTail k (t + 1) } }).emit
    (.completion k (t % n) tag sqhd status (1 - t / n % 2) result)).cqVector k

/-- The STATUS of a completion entry (R254). -/
def TaskEnd.status : TaskEnd → Nat
  | .ok => 0 | .fail => 1 | .poison => 2 | .timeout => 3

/-- A task of a submission queue has ended (R254): its entry is written, or the task holds its descriptor while the queue is full. -/
def State.hostEnd (s : State) (i : Nat) (d : Desc) (k sqhd status result : Nat) : State :=
  if s.ringSize k = 0 then s.freeDesc i
  else if s.cqIsFull k then
    ({ s with pln := { s.pln with
        descs := SMap.set s.pln.descs i { d with ended := some (status, result) }
        cqHeld := SMap.set s.pln.cqHeld k (SMap.getD s.pln.cqHeld k [] ++ [i]) } }).raise Pg.PLN 6
  else (s.cqWrite k d.stamp sqhd status result).freeDesc i

/-- Held completions go out while there is room. -/
def State.cqDrain (s : State) (k : Nat) : Nat → State
  | 0 => s
  | fuel + 1 =>
    match SMap.getD s.pln.cqHeld k [] with
    | [] => s
    | i :: is =>
      if s.cqIsFull k then s
      else
        let s1 := { s with pln := { s.pln with cqHeld := SMap.set s.pln.cqHeld k is } }
        match s1.desc i with
        | some d =>
          let (st, r) := d.ended.getD (0, 0)
          ((s1.cqWrite k d.stamp ((d.host.map (fun h => h.2)).getD 0) st r).freeDesc i).cqDrain k fuel
        | none => s1.cqDrain k fuel

/-- A write of CQk_HEAD (R254): the entries up to it have been read. -/
def State.cqHeadWrite (s : State) (k : Nat) (v : Word) : State :=
  let n := s.ringSize k
  let s1 := s.wr (F.PLN_CQ_HEAD k) (bits v 11 0)
  if n = 0 then s1
  else
    let h := SMap.getD s.pln.cqHead k 0
    let step := min ((bits v 11 0 + n - h % n) % n) (s.cqOut k)
    let s2 := { s1 with pln := { s1.pln with cqHead := SMap.set s1.pln.cqHead k (h + step) } }
    ((s2.cqDrain k n).cqVector k).plnSync

/-- A task ends (R242, R248, R254): its successors' counters, or their cancellation, then its completion entry, and its descriptor is freed. DEDUCED, unsafe: log entry 70. DESIGN CHOICE, safe: log entry 126. -/
def State.taskEnd (s : State) (i : Nat) (how : TaskEnd) (result : Nat) : State :=
  match s.desc i with
  | none => s
  | some d =>
    let s1 := match how with
      | .ok => d.succ.foldl (fun (t : State) j => t.decCount j) s
      | _ => (s.cancelSucc d).faultLog i d how
    let s2 := match d.host with
      | some (k, sqhd) => s1.hostEnd i d k sqhd how.status result
      | none => s1.freeDesc i
    s2.plnSync

/-! ## From packet to chain -/

/-- Does Planish consume a queue: its consumer is PLANISH and QMAP.EN is 1 (R243)? -/
def State.planishQueue (s : State) (q : Nat) : Bool := s.consumer q == 0 && s.on (F.PLN_QMAP_EN q)

/-- Does Planish pop a queue: it consumes it, a packet waits, and it is not in FAULT (R226, R243)? -/
def State.popReady (s : State) (q : Nat) : Bool := s.planishQueue q && (s.queue q).head != 0xFFFF && !(s.queue q).fault

/-- The queues with a packet waiting. -/
def State.popQueues (s : State) : List Nat := (s.cru.queues.map (fun e => e.1)).filter (fun q => s.popReady q)

/-- The queue Planish serves next (R243): the highest PRIO, and round-robin among equals. DEDUCED, unsafe: log entry 69. -/
def State.popNext (s : State) : Option Nat :=
  let l := s.popQueues
  let top := (l.map (fun q => s.rd (F.PLN_QMAP_PRIO q))).foldl max 0
  let e := l.filter (fun q => s.rd (F.PLN_QMAP_PRIO q) == top)
  match e.find? (fun q => decide (s.pln.rrQueue ≤ q)) with
  | some q => some q
  | none => e.head?

/-- FIELD_VMAX as it acts: 1 to 64. -/
def State.vmax (s : State) : Nat := s.rdIn F.PLN_FIELD_VMAX 1 64

/-- FAN descriptors a task with `n` successors needs (R241). -/
def fansFor (n : Nat) : Nat := if n ≤ 4 then 0 else (n - 3 + 10) / 11

/-- The descriptors a field frame reserves (R244). -/
def State.fieldResv (s : State) : Nat := 5 + 4 * s.vmax + fansFor s.vmax

/-- A fresh descriptor of a chain. -/
def Desc.make (prio kind : Nat) (atomic : Bool) (flow count cell stamp chain : Nat) (succ : List Nat) : Desc :=
  { st := .waiting, prio := prio, kind := kind, atomic := atomic, flow := flow, count := count, cell := cell, stamp := stamp, arg := 0, succ := succ, chain := chain }

/-- Writes a descriptor that a reservation covers. -/
def State.putDesc (s : State) (d : Desc) : Nat × State := (s.newDesc d).getD (0, s)

/-- Builds the first descriptors of a field chain (R244): T8, T2 and T1. -/
def State.buildField (s : State) (q c : Nat) : State :=
  let h := s.pktBytes c 0 32
  let ch := s.pln.nextChain
  let prio := s.rd (F.PLN_QMAP_PRIO q)
  let n := field h 3 1
  let stamp := field h 4 8
  let sec := (field h 30 1).testBit 0
  let orig := s.frameOrig n sec (s.pktPayload c)
  let atomic := orig.isSome
  let flow := field h 16 4 % 2 ^ 20
  let (t8, s1) := s.putDesc (Desc.make prio 7 atomic flow 1 c stamp ch [])
  let (t2, s2) := s1.putDesc (Desc.make prio 1 atomic flow 1 c stamp ch [t8])
  let (_, s3) := s2.putDesc (Desc.make prio 0 atomic flow 0 c stamp ch [t2])
  let x : Chain := { port := n, txSeq := field h 26 4, node := orig, retire := t8, resv := s.fieldResv - 3 }
  s3.openChain ch x

/-- Builds the CODE task of another queue's packet, and its RETIRE (R245). -/
def State.buildCode (s : State) (q c : Nat) : State :=
  let h := s.pktBytes c 0 32
  let ch := s.pln.nextChain
  let prio := s.rd (F.PLN_QMAP_PRIO q)
  let atomic := s.on (F.PLN_QMAP_ATOMIC q)
  let flow := if atomic then field h 16 4 % 2 ^ 20 else 0
  let (t8, s1) := s.putDesc (Desc.make prio 7 atomic flow 1 c (field h 4 8) ch [])
  let (_, s2) := s1.putDesc { Desc.make prio 9 atomic flow 0 c (field h 4 8) ch [t8] with entry := s.rd (F.PLN_QMAP_ENTRY q) }
  s2.openChain ch { retire := t8 }

/-- The flow that the packet at the head of a queue takes, and whether its tasks are atomic. -/
def State.headFlow (s : State) (q : Nat) : Bool × Nat :=
  let c := (s.queue q).head
  let h := s.pktBytes c 0 32
  (if q < 64 then (s.frameOrig (field h 3 1) ((field h 30 1).testBit 0) (s.pktPayload c)).isSome else s.on (F.PLN_QMAP_ATOMIC q), field h 16 4 % 2 ^ 20)

/-- Planish pops a packet whose whole chain it can reserve (R243 to R245, R249, R251). DEDUCED, unsafe: log entry 69. -/
def State.popPacket (s : State) (q : Nat) : State :=
  let need := if q < 64 then s.fieldResv else 2
  if s.popNext != some q || decide (s.dfree < (need : Int)) then s
  else if !s.flowRoom (s.headFlow q).1 (s.headFlow q).2 then
    if s.pln.flowWait.contains q then s else ({ s with pln := { s.pln with flowWait := q :: s.pln.flowWait } }).flowWaits
  else
    match s.popQueue q with
    | none => s
    | some (c, t) =>
      let t1 := { t with pln := { t.pln with rrQueue := q + 1, flowWait := t.pln.flowWait.filter (fun x => x != q) } }
      (if q < 64 then t1.buildField q c else t1.buildCode q c).plnSync

/-- PACKET_POP (R243); a planned handover stops it (R441). -/
def execPacketPop (q : Fin 1024) (s : State) : Host.Outcome State Fault Refusal :=
  s.done (if s.domOn Dom.PKT && s.pair.handover.isNone then s.popPacket q.val else s)

/-! ## Dispatch -/

/-- The executor class of a KIND (R240): none for FAN and the reserved kinds. DEDUCED, unsafe: log entry 72. -/
def kindClass (k : Nat) : Option Nat :=
  match k with
  | 0 => some 0 | 1 => some 1 | 2 => some 4 | 3 => some 7 | 4 => some 6 | 5 => some 2 | 6 => some 5 | 7 => some 8
  | 9 => some 7 | 10 => some 1 | 11 => some 2 | 12 => some 3 | 13 => some 8 | 14 => some 7 | 15 => some 8
  | _ => none

/-- The executors of a class: 0 Gate, 1 to 4 AES lanes, 5 and 6 SHA-384 engines, 7 ECDSA, 8 Assay, 9 Touchstone, 10 tariff engine, 11 to 26 TASK cores, 27 Planish. DEDUCED, unsafe: log entry 72. -/
def classLanes (c : Nat) : List Nat :=
  match c with
  | 0 => [0] | 1 => [1, 2, 3, 4] | 2 => [5, 6] | 3 => [7] | 4 => [8] | 5 => [9] | 6 => [10]
  | 7 => (List.range 16).map (fun k => 11 + k)
  | _ => [27]

/-- The in-flight limit of an executor (R28, R247); Gate and Planish itself have none. -/
def laneLimit (c : Nat) : Nat :=
  match c with
  | 1 => 64 | 2 => 32 | 3 => 8 | 4 => 256 | 5 => 256 | 6 => 128 | 7 => 4 | _ => 16384

/-- Tasks in flight at an executor. -/
def State.inFlight (s : State) (x : Nat) : Nat := (s.pln.descs.filter (fun e => e.2.st == .running && e.2.exec == x && e.2.ended.isNone)).length

/-- The self-test unit of an executor (R527); Planish has none. -/
def laneUnit (x : Nat) : Nat :=
  if x = 0 then 42 else if 11 ≤ x && x ≤ 26 then x + 5 else if x ≤ 10 then x + 31 else 107

/-- Does an executor receive tasks: enabled (R250), in service (R531), and its domain answering? ACCRUE tasks wait while the tariff engine is held, and complete without acting once LEGAL is halted (R294). -/
def State.laneOpen (s : State) (x : Nat) : Bool :=
  if x = 27 then true
  else if (s.pstUnit (laneUnit x)).held then false
  else if 11 ≤ x then (s.rd F.PLN_CORE_EN).testBit (x - 11) && s.domOn Dom.TSK
  else (s.rd F.PLN_ENG_EN).testBit x &&
    (if x = 7 then s.domOn Dom.SEC else if x = 8 || x = 9 then s.domOn Dom.TSK else if x = 10 then (s.domOn Dom.LGL && s.on F.LGL_STAT_RUN) || s.on F.LGL_STAT_HALTED else true)

/-- Is a READY task parked behind an earlier chain's live task of its kind and flow (R249)? -/
def State.parked (s : State) (d : Desc) : Bool :=
  d.atomic && s.pln.descs.any (fun e => e.2.atomic && e.2.kind == d.kind && e.2.flow == d.flow && decide (e.2.chain < d.chain))

/-- The READY tasks of a class that are not parked. -/
def State.readyOf (s : State) (c : Nat) : SMap Desc :=
  s.pln.descs.filter (fun e => e.2.st == .ready && kindClass e.2.kind == some c && !s.parked e.2)

/-- Which of two tasks goes first: the higher PRIO, then the older; or the older alone. -/
def taskBefore (any : Bool) (a b : Nat × Desc) : Bool :=
  if any || a.2.prio = b.2.prio then decide (a.2.order < b.2.order) else decide (b.2.prio < a.2.prio)

/-- The task a class takes next (R250). -/
def State.taskNext (s : State) (c : Nat) (any : Bool) : Option (Nat × Desc) :=
  (s.readyOf c).foldl (fun (best : Option (Nat × Desc)) (e : Nat × Desc) =>
    match best with
    | none => some e
    | some b => if taskBefore any e b then some e else some b) none

/-- The executor of a class for a task (R247, R250): enabled, below its limit, the fewest tasks in flight, the lowest number on a tie; a task that timed out goes to another core. -/
def State.laneFor (s : State) (c : Nat) (d : Desc) : Option Nat :=
  ((classLanes c).filter (fun x => s.laneOpen x && decide (s.inFlight x < laneLimit c) && !(d.tries == 1 && d.exec == x))).foldl
    (fun (best : Option Nat) (x : Nat) =>
      match best with
      | none => some x
      | some b => if s.inFlight x < s.inFlight b then some x else some b) none

/-- The entries whose records running T1 and T2 tasks have in use (R192). -/
def State.busyEntries (s : State) : List Nat :=
  s.pln.descs.filterMap (fun e => if e.2.st == .running then e.2.gate.bind (fun g => g.idx) else none)

/-- Gate takes what a task needs of an entry, through its record cache (R192, R204). -/
def State.takeGate (s : State) (i : Nat) (d : Desc) (g : GateSnap) : State :=
  let s1 := s.setDesc i { d with gate := some g }
  match g.idx with
  | some j => s1.cacheUse j s1.busyEntries
  | none => s1

/-- What a task takes on when its executor starts it: T1 and T2 the entry that Gate has for it (R192, R204, R210), a PK_OP the slot it names (R23). -/
def State.startTask (s : State) (i : Nat) (d : Desc) : State :=
  let h := s.pktBytes d.cell 0 32
  let n := field h 3 1
  let sec := (field h 30 1).testBit 0
  let frame := s.pktPayload d.cell
  match d.kind with
  | 0 => s.takeGate i d (s.snapT1 n (field h 24 2) (s.frameOrig n sec frame))
  | 1 => s.takeGate i d (s.snapT2 n (s.appPayload n sec frame))
  | 12 => s.setDesc i { d with slot := some (s.slot (d.arg / 2 ^ 48 % 256)) }
  | _ => s.setDesc i d

/-- Planish hands a class its next task (R250); every FAIR_N-th dispatch of a class takes the oldest of any priority. -/
def State.dispatch (s : State) (c : Nat) : State :=
  let n := SMap.getD s.pln.dispatches c 0 + 1
  match s.taskNext c (decide (n % s.rdIn F.PLN_CTL_FAIR_N 2 255 = 0)) with
  | none => s
  | some (i, d) =>
    match s.laneFor c d with
    | none => s
    | some x =>
      let s1 := s.startTask i { d with st := .running, exec := x }
      ({ s1 with pln := { s1.pln with dispatches := SMap.set s1.pln.dispatches c n } }).wrap F.PLN_DISPATCHED

/-- TASK_DISPATCH (R250). -/
def execTaskDispatch (cls : Fin 9) (s : State) : Host.Outcome State Fault Refusal :=
  s.done (if s.domOn Dom.PKT then s.dispatch cls.val else s)

/-- A running task of a kind, whose executor has not yet ended it. -/
def State.runningTask (s : State) (i k : Nat) : Option Desc :=
  match s.desc i with
  | some d => if d.st == .running && d.kind == k && d.ended.isNone then some d else none
  | none => none

/-- Is a task's packet poisoned (R230)? DEDUCED, unsafe: log entry 63. -/
def State.taskPoison (s : State) (d : Desc) : Bool := d.cell != 0xFFFF && s.pktPoison d.cell

/-! ## T1 and T8 -/

/-- Sends the acknowledgement of an accepted or repeated frame, or counts it withheld (R31, R152, R184); `stamp` names the frame. -/
def State.sendAck (s : State) (n seq src stamp : Nat) (frame : List Byte) (inTime : Bool) : State :=
  if (s.port n).pers = 2 then s.sunAck n seq src ((field frame 0 2).testBit 11) inTime stamp
  else
    match (if !inTime || s.ackLate n stamp (s.rdIn (F.FM_ACK_DEADLINE n) 20 180) then (false, s) else s.plcAck n src frame) with
    | (true, t) => t
    | (false, t) => t.sat (F.FM_ACK_WITHHELD n)

/-- T1 completes at Gate (R195 to R198): the window, the acknowledgement, and the chain's next task or its end. -/
def State.linkTask (s : State) (i : Nat) (d : Desc) (inTime : Bool) : State :=
  if s.taskPoison d then s.taskEnd i .poison 0
  else
    let h := s.pktBytes d.cell 0 32
    let n := field h 3 1
    let short := field h 24 2
    let seq := field h 26 4
    let flags := field h 30 1
    let sec := flags.testBit 0
    let frame := s.pktPayload d.cell
    let g := d.gate.getD (s.snapT1 n short (s.frameOrig n sec frame))
    match s.linkCheck g ((s.port n).pers = 0) seq sec frame with
    | (o, s1) =>
      let s2 := if (o = .accept || o = .dup) && flags.testBit 1 then s1.sendAck n seq short d.stamp frame inTime else s1
      if o = .accept then
        (s2.setChain d.chain { s2.chain d.chain with txNbr := g.idx.getD 0xFFFFFF, txSeq := seq }).taskEnd i .ok 0
      else s2.taskEnd i .fail 0

/-- LINK_CHECK (R198). -/
def execLinkCheck (d : Fin 16384) (inTime : Bool) (s : State) : Host.Outcome State Fault Refusal :=
  s.done (match s.runningTask d.val 0 with
    | some x => s.linkTask d.val x inTime
    | none => s)

/-- T8 frees the frame's cells and its chain (R221, R244, R248); a poisoned packet is counted (R230). -/
def State.retireTask (s : State) (i : Nat) (d : Desc) : State :=
  let s1 := if s.taskPoison d then s.sat F.CRU_POISON_DROP else s
  let s2 := if d.cell != 0xFFFF then s1.releasePacket d.cell else s1
  ({ s2 with pln := { s2.pln with chains := SMap.erase s2.pln.chains d.chain } }).taskEnd i .ok 0

/-- RETIRE (R248). -/
def execRetire (d : Fin 16384) (s : State) : Host.Outcome State Fault Refusal :=
  s.done (match s.runningTask d.val 7 with
    | some x => s.retireTask d.val x
    | none => s)

/-! ## TASK cores -/

/-- A task goes back to READY with COUNT 0, at its priority and in its flow position (R246). -/
def State.yieldTask (s : State) (i : Nat) (d : Desc) : State := s.setDesc i { d with st := .ready, count := 0 }

/-- Is a descriptor the item task of its chain (R244)? -/
def State.isItemTask (s : State) (i : Nat) (d : Desc) : Bool := d.kind == 9 && (s.chain d.chain).itemTask == some i

/-- Task code ends its task (R247): DONE, FAIL or YIELD. DESIGN CHOICE, safe: log entry 126. -/
def State.codeDone (s : State) (i : Nat) (d : Desc) (how result : Nat) : State :=
  if s.taskPoison d then s.taskEnd i .poison 0
  else
    match how with
    | 0 => s.taskEnd i .ok result
    | 1 => s.taskEnd i .fail result
    | _ => s.yieldTask i d

/-- CODE_TASK_DONE (R247). -/
def execCodeTaskDone (d : Fin 16384) (how : Fin 3) (result : Word) (s : State) : Host.Outcome State Fault Refusal :=
  s.done (match s.desc d.val with
    | some x =>
      if x.st == .running && x.ended.isNone && (x.kind == 9 || x.kind == 14) && !s.isItemTask d.val x then s.codeDone d.val x how.val result.toNat else s
    | none => s)

/-- A task still running after TASK_TO (R247): dispatched once more, to another core; a second timeout ends it. -/
def execTaskTimeout (d : Fin 16384) (s : State) : Host.Outcome State Fault Refusal :=
  s.done (match s.desc d.val with
    | some x =>
      if x.st == .running && x.ended.isNone && 11 ≤ x.exec && x.exec < 27 then
        if x.tries = 0 then s.setDesc d.val { x with st := .ready, tries := 1 } else s.taskEnd d.val .timeout 0
      else s
    | none => s)

/-- The successors that a descriptor image names, with the FAN descriptors that carry them (R239, R241). -/
def State.gatherSucc (s : State) : Nat → List Nat → List Nat × List Nat
  | 0, _ => ([], [])
  | _, [] => ([], [])
  | fuel + 1, e :: es =>
    if e = 0xFFFF then State.gatherSucc s fuel es
    else if 32768 ≤ e then
      let f := e % 16384
      let inner := ((s.desc f).map (fun x => (x.succ, x.fans))).getD ([], [])
      let rest := State.gatherSucc s fuel es
      (inner.1 ++ rest.1, (f :: inner.2) ++ rest.2)
    else
      let rest := State.gatherSucc s fuel es
      ((e % 16384) :: rest.1, rest.2)

/-- The descriptor that a 32-byte image spells (R239). -/
def State.descOfImage (s : State) (image : List Byte) : Desc :=
  let w0 := field image 0 4
  let kind := w0 / 2 ^ 21 % 32
  let cell := field image 6 2
  let entries := if kind = 8 then (List.range 12).map (fun j => field image (8 + 2 * j) 2) else (List.range 4).map (fun j => field image (24 + 2 * j) 2)
  let (succ, fans) := s.gatherSucc 64 entries
  { st := .waiting, prio := w0 / 2 ^ 26 % 16, kind := kind, atomic := w0.testBit 20, flow := w0 % 2 ^ 20, count := if kind = 8 then 1 else field image 4 2
    cell := cell, stamp := if cell = 0xFFFF then s.raw else s.pktStamp cell, arg := field image 16 8, succ := succ, fans := fans, chain := s.pln.nextChain }

/-- A submission window takes a descriptor image (R246): OK with the new index, AGAIN, or BAD_KIND for a reserved KIND. DEDUCED, unsafe: log entry 68. DEDUCED, unsafe: log entry 71. -/
def State.submit (s : State) (core : Nat) (image : List Byte) : State :=
  let d := s.descOfImage image
  if 16 ≤ d.kind then s.emit (.submitStatus core 2 0)
  else if !s.flowRoom d.atomic d.flow then (s.flowWaits).emit (.submitStatus core 1 0)
  else
    match s.newInternal d with
    | none => (s.sat F.PLN_AGAIN).emit (.submitStatus core 1 0)
    | some (i, t) => ({ t with pln := { t.pln with nextChain := t.pln.nextChain + 1 } }.emit (.submitStatus core 0 i)).plnSync

/-- TASK_SUBMIT (R246). -/
def execTaskSubmit (core : Fin 16) (image : List Byte) (s : State) : Host.Outcome State Fault Refusal :=
  s.done (if s.domOn Dom.PKT && s.domOn Dom.TSK then s.submit core.val image else s)

/-! ## XFER and AES_OP -/

/-- A packet that a host context holds leaves it. -/
def State.unhost (s : State) (c : Nat) : State :=
  let l := s.link c
  if l.host then
    let cells := s.pktCells c
    let links := cells.foldl (fun m x => SMap.modify m x {} (fun y => { y with host := false })) s.cru.links
    ({ s with cru := { s.cru with links := links } }).wr (F.CRU_HCTX_STAT_HELD l.hctx) (s.rd (F.CRU_HCTX_STAT_HELD l.hctx) - cells.length)
  else s

/-- An XFER task moves its packet to the queue in ARG[9:0] (R221, R240); the packet is no longer its chain's. A queue that takes no packets makes it FAIL. -/
def State.xferTask (s : State) (i : Nat) (d : Desc) : State :=
  if s.taskPoison d then s.taskEnd i .poison 0
  else if d.cell = 0xFFFF then s.taskEnd i .fail 0
  else
    match (s.unhost d.cell).movePacket d.cell (d.arg % 1024) with
    | none => s.taskEnd i .fail 0
    | some t =>
      ({ t with pln := { t.pln with descs := t.pln.descs.map (fun e : Nat × Desc => if e.2.cell = d.cell then (e.1, { e.2 with cell := 0xFFFF }) else e) } }).taskEnd i .ok 0

/-- XFER_DONE (R240). -/
def execXferDone (d : Fin 16384) (s : State) : Host.Outcome State Fault Refusal :=
  s.done (match s.runningTask d.val 15 with
    | some x => s.xferTask d.val x
    | none => s)

/-- AES_OP_DONE (R254): the lane's result and its completion entry. -/
def execAesOpDone (d : Fin 16384) (ok : Bool) (result : Word) (s : State) : Host.Outcome State Fault Refusal :=
  s.done (match s.runningTask d.val 10 with
    | some x => if s.taskPoison x then s.taskEnd d.val .poison 0 else s.taskEnd d.val (if ok then .ok else .fail) result.toNat
    | none => s)

/-! ## Host submission -/

/-- A write of SQk_TAIL (R254). -/
def State.sqDoorbell (s : State) (k : Nat) (v : Word) : State := s.wr (F.PLN_SQ_TAIL k) (bits v 11 0)

/-- SQ_DOORBELL (R254). -/
def execSqDoorbell (m : Master) (k : Fin 8) (v : Word) (s : State) : Host.Outcome State Fault Refusal :=
  s.done (s.guarded m Pg.PLN (0x314 + 0x20 * k.val) (fun s => s.sqDoorbell k.val v))

/-- May the host submit a KIND (R240)? -/
def hostKind (k : Nat) : Bool := k = 9 || k = 10 || k = 11 || k = 12 || k = 15

/-- Is a cell the first of a packet that a host context holds (R235, R254)? -/
def State.hostHeld (s : State) (c : Nat) : Bool :=
  let l := s.link c
  l.st == .held && l.host && !(s.cru.links.any (fun e => e.2.next == c))

/-- Planish fetches a submission entry (R254). DEDUCED, unsafe: log entry 68. -/
def State.sqFetch (s : State) (k : Nat) (entry : List Byte) : State :=
  let n := s.ringSize k
  let head := s.rd (F.PLN_SQ_HEAD k)
  if n = 0 || head % n = s.rd (F.PLN_SQ_TAIL k) % n || s.classBp 3 || s.cqIsFull k || decide (s.dfree < 1) then s
  else
    let head' := (head + 1) % n
    let d := s.descOfImage entry
    if !hostKind d.kind then (s.wr (F.PLN_SQ_HEAD k) head').cqWrite k (field entry 8 8) head' 4 0
    else if d.cell != 0xFFFF && !s.hostHeld d.cell then (s.wr (F.PLN_SQ_HEAD k) head').cqWrite k (field entry 8 8) head' 1 0
    else if !s.flowRoom d.atomic d.flow then s.flowWaits
    else
      match s.newDesc { d with count := 0, succ := [], fans := [], stamp := field entry 8 8, host := some (k, head') } with
      | none => s
      | some (_, t) => ({ t with pln := { t.pln with nextChain := t.pln.nextChain + 1 } }.wr (F.PLN_SQ_HEAD k) head').plnSync

/-- SQ_FETCH (R254). DESIGN CHOICE, safe: log entry 73. -/
def execSqFetch (k : Fin 8) (entry : List Byte) (s : State) : Host.Outcome State Fault Refusal :=
  s.done (if s.domOn Dom.PKT then s.sqFetch k.val entry else s)

/-! ## Boundary drains -/

/-- The first cells of a queue's packets, in order. -/
def State.queuePkts (s : State) : Nat → Nat → List Nat
  | 0, _ => []
  | fuel + 1, c => if c = 0xFFFF then [] else c :: State.queuePkts s fuel (s.link ((s.pktCells c).getLastD c)).next

/-- Does work with a stamp before a count remain (R255): a live task of T1 to T7, a packet in a Planish queue, or a frame a field port holds? -/
def State.workBefore (s : State) (c : Nat) : Bool :=
  s.pln.descs.any (fun e => decide (e.2.kind ≤ 6) && decide (e.2.stamp < c)) ||
  s.cru.queues.any (fun e => s.planishQueue e.1 && (s.queuePkts e.2.pkts e.2.head).any (fun x => decide (s.pktStamp x < c))) ||
  s.ports.any (fun e => e.2.held.any (fun r => decide (r.stamp < c)))

/-- BOUNDARY_DRAIN_COMPLETE (R255): BND_SETTLE after the oldest drain's firing, with no earlier work left. -/
def execBoundaryDrainComplete (s : State) : Host.Outcome State Fault Refusal :=
  s.done (match s.pln.drains with
    | [] => s
    | d :: _ => if s.workBefore d.c then s else s.completeDrain false)

/-- BOUNDARY_DRAIN_LATE (R255): BND_MAX after the oldest drain's firing with earlier work left. -/
def execBoundaryDrainLate (s : State) : Host.Outcome State Fault Refusal :=
  s.done (match s.pln.drains with
    | [] => s
    | d :: _ => if s.workBefore d.c then s.completeDrain true else s)

/-- A firing with DEST = 5 creates a CONTROL task (R256). -/
def State.controlEvent (s : State) (k prio : Nat) : State :=
  if !s.domOn Dom.PKT then s
  else
    (({ s with pln := { s.pln with nextChain := s.pln.nextChain + 1 } }).create
      { Desc.make prio 14 false 0 0 0xFFFF s.raw s.pln.nextChain [] with arg := k }).plnSync

/-! ## Observation -/

/-- OBS_WINDOW_END (R257): the figures of the window, by priority level and by core. DESIGN CHOICE, safe: log entry 73. -/
def execObsWindowEnd (waitMax waitAvg : List Word) (busy : List Nat) (s : State) : Host.Outcome State Fault Refusal :=
  s.done (
    let put := fun (l : List Word) => (List.range 16).map (fun j => (j, (l.getD j 0).toNat))
    (List.range 16).foldl (fun t k => t.wr (F.PLN_CORE_BUSY k) (min 1000 (busy.getD k 0)))
      { s with pln := { s.pln with obsMax := put waitMax, obsAvg := put waitAvg } })

/-- A read of OBS_READY (R257): the ready tasks of the level in OBS_SEL; the two figures of its last window go into the reading master's shadow. -/
def State.obsRead (s : State) (m : Master) : State :=
  let l := s.rd F.PLN_OBS_SEL
  ((s.setShadow m Pg.PLN 0x20C (BitVec.ofNat 32 (SMap.getD s.pln.obsMax l 0))).setShadow m Pg.PLN 0x210 (BitVec.ofNat 32 (SMap.getD s.pln.obsAvg l 0))).answer
    (BitVec.ofNat 32 (s.pln.descs.filter (fun e => e.2.st == .ready && e.2.prio == l)).length)

/-- The code of a descriptor's state (R239). -/
def TaskState.code : TaskState → Nat
  | .waiting => 1 | .ready => 2 | .running => 3

/-- `n` 16-bit entries, the unused ones 0xFFFF. -/
def entries16 (n : Nat) (l : List Nat) : List Byte := ((List.range n).map (fun j => be 2 (l.getD j 0xFFFF))).flatten

/-- The 32 bytes of a descriptor (R239, R241). -/
def Desc.image (d : Desc) : List Byte :=
  let head := be 4 (d.st.code * 2 ^ 30 + d.prio * 2 ^ 26 + d.kind * 2 ^ 21 + b2n d.atomic * 2 ^ 20 + d.flow) ++ be 2 d.count ++ be 2 d.cell
  if d.kind = 8 then head ++ entries16 11 d.succ ++ be 2 (match d.fans with | [] => 0xFFFF | f :: _ => 0x8000 + f)
  else
    let direct := if d.fans.isEmpty then d.succ.take 4 else d.succ.take 3 ++ [0x8000 + d.fans.headD 0]
    head ++ be 8 d.stamp ++ be 8 d.arg ++ entries16 4 direct

/-- A read of DESC_DATA0 (R257): the descriptor in DESC_SEL goes into the reading master's shadow; a FREE one reads 0. -/
def State.descRead (s : State) (m : Master) : State :=
  let im := ((s.desc (s.rd F.PLN_DESC_SEL)).map Desc.image).getD (be 32 0)
  ((List.range 7).foldl (fun t w => t.setShadow m Pg.PLN (0x1C8 + 4 * w) (BitVec.ofNat 32 (field im (4 * w + 4) 4))) s).answer (BitVec.ofNat 32 (field im 0 4))

/-- DESC_READ (R257). -/
def execDescRead (m : Master) (s : State) : Host.Outcome State Fault Refusal :=
  s.done (s.guardedRead m Pg.PLN 0x1C4 (fun s => s.descRead m))

end Sys2Proof.Machine
end

