-- ==== Sys2Proof/Machine/Records.lean ====
section
/-!
DEFINITION. Profile records, canonical records and T4 journal bodies as bytes (R269, R324, R382), the interval grid (R266), a channel's configuration, and which nodes and channels are configured.
-/
namespace Sys2Proof.Machine

/-! ## Status words (R16) -/

def St.VALID : Nat := 0x0001
def St.ESTIMATED : Nat := 0x0002
def St.EDITED : Nat := 0x0004
def St.GAP : Nat := 0x0008
def St.POWER_FAIL : Nat := 0x0010
def St.TIME_ADJ : Nat := 0x0020
def St.REPEATED : Nat := 0x0040
def St.SHORT : Nat := 0x0080
def St.LONG : Nat := 0x0100
def St.CLOCK_DEV : Nat := 0x0200
def St.DUP_SUPPRESSED : Nat := 0x0400
def St.OVERFLOW : Nat := 0x0800
def St.TAMPER : Nat := 0x1000
def St.PHASE_SUSPECT : Nat := 0x2000
def St.SEALED : Nat := 0x4000
def St.PROVISIONAL : Nat := 0x8000

/-- Has a status word a flag? -/
def stHas (st flag : Nat) : Bool := st &&& flag != 0

/-- A flag where a condition holds. -/
def stIf (b : Bool) (flag : Nat) : Nat := if b then flag else 0

/-! ## Records as bytes -/

/-- The 32 bytes of a profile record with a status word (R269). -/
def Rec.bytesWith (r : Rec) (status : Nat) : List Byte :=
  be 1 r.unit ++ be 2 r.node ++ be 1 (r.chan * 32 + r.kind * 8 + r.len) ++ be 4 r.istart ++ be 2 status ++ be 1 r.rules ++ be 1 r.mstat ++
    be 1 (r.rev * 16 + b2n r.late * 8 + b2n r.span * 4 + b2n r.noacc * 2 + b2n r.annex) ++ be 3 r.maxpos ++ beInt 8 r.value ++ beInt 8 r.delta

/-- The 32 bytes of a profile record, SEALED 0. -/
def Rec.bytes (r : Rec) : List Byte := r.bytesWith r.status

/-- The canonical record (R324). -/
def Rec.canonical (r : Rec) : List Byte :=
  r.bytes ++ be 8 r.lseq ++ be 8 r.stamp ++ be 1 r.qual ++ be 8 r.time ++ be 8 r.eui ++ be 4 r.ic ++ (r.item ++ be 16 0).take 16

/-- The body of a T4 journal record (R382). -/
def Rec.t4Body (r : Rec) : List Byte :=
  r.canonical ++ be 1 (r.gen + 2 * b2n r.prot + 4 * b2n (!r.frame)) ++ be 3 r.lidx ++ be 3 r.txNbr ++ be 4 r.txSeq ++ be 8 r.startC

/-- The record that a canonical record spells. -/
def recOfCanonical (b : List Byte) (frame : Bool) : Rec :=
  let k := field b 3 1
  let f := field b 12 1
  { unit := field b 0 1 % 64, node := field b 1 2, chan := k / 32, kind := k / 8 % 4, len := k % 8, istart := field b 4 4, status := field b 8 2
    rules := field b 10 1, mstat := field b 11 1, rev := f / 16, late := f.testBit 3, span := f.testBit 2, noacc := f.testBit 1, annex := f.testBit 0
    maxpos := field b 13 3, value := ofBeInt ((b.drop 16).take 8), delta := ofBeInt ((b.drop 24).take 8), lseq := field b 32 8, stamp := field b 40 8
    qual := field b 48 1, time := field b 49 8, eui := field b 57 8, ic := field b 65 4, item := if frame then (b.drop 69).take 16 else [], frame := frame }

/-- The record that a T4 journal body spells (R382). -/
def recOfT4 (b : List Byte) : Rec :=
  let f := field b 85 1
  { recOfCanonical b (!f.testBit 2) with
    gen := f % 2, prot := f.testBit 1, lidx := field b 86 3, txNbr := field b 89 3, txSeq := field b 92 4, startC := field b 96 8 }

/-- The rank of a record (R271). -/
def Rec.rank (r : Rec) : Nat :=
  if stHas r.status St.EDITED then 4 else if stHas r.status St.VALID then 3 else if stHas r.status St.ESTIMATED then 2
  else if stHas r.status St.GAP then 0 else 1

/-- The quantity of a record: DELTA for REGISTER, VALUE otherwise (R302). -/
def Rec.quantity (r : Rec) : Int := if r.kind = 1 then r.delta else r.value

/-! ## The interval grid -/

/-- Minutes of a LEN code; 6 and 7 act as 3 (R266). -/
def lenMin (code : Nat) : Nat :=
  match code with
  | 0 => 1 | 1 => 5 | 2 => 10 | 4 => 30 | 5 => 60 | _ => 15

/-- The node number of the unit's own records: its chain address (R269, R330). -/
def State.unitAddr (s : State) : Nat := if s.role = 1 then s.rd F.CHN_ADDR else 0

/-- The key of a channel: unit, channel and node; below 2^16 nodes it is PRF.CH_SEL for the own unit's channels. -/
def chanKey (unit node chan : Nat) : Nat := unit * 2 ^ 19 + chan * 2 ^ 16 + node

/-- The channel selector of an own channel (PRF.CH_SEL, R291). -/
def chanSel (node chan : Nat) : Nat := chan * 2 ^ 16 + node

/-- The key of a slot. -/
def slotKey (unit node chan istart : Nat) : Nat := chanKey unit node chan * 2 ^ 32 + istart

/-- The key of the slot of a record. -/
def Rec.slotKey (r : Rec) : Nat := Machine.slotKey r.unit r.node r.chan r.istart

/-- The state of an own channel. -/
def State.chanSt (s : State) (sel : Nat) : ChanSt := SMap.getD s.prf.chans sel {}

/-- Sets the state of an own channel. -/
def State.setChan (s : State) (sel : Nat) (c : ChanSt) : State := { s with prf := { s.prf with chans := SMap.set s.prf.chans sel c } }

/-- The LEN code that acts for the slots of a channel that start at a grid minute (R268). -/
def State.chanLen (s : State) (sel m : Nat) : Nat :=
  let c := s.chanSt sel
  if m < c.lenFrom then c.oldLen else s.rd (F.PRF_CH_CFG_LEN sel)

/-- The LEN code of the filing interval at a grid minute, and its minutes (R267, R268). -/
def State.fileCode (s : State) (m : Nat) : Nat := if m < s.prf.fileFrom then s.prf.oldFile else s.rd F.PRF_FILE_LEN
def State.fileLen (s : State) (m : Nat) : Nat := lenMin (s.fileCode m)

/-- The next grid minute from which a change of a length acts (R268). DEDUCED, unsafe: log entry 79. -/
def State.nextHour (s : State) : Nat := (s.gridNow / 60 + 1) * 60

/-- The start of the slot that contains a grid minute, on a channel's grid. -/
def State.slotOf (s : State) (sel m : Nat) : Nat := m / lenMin (s.chanLen sel m) * lenMin (s.chanLen sel m)

/-- The KIND of a channel: 3 acts as 0 (R291). -/
def State.chanKind (s : State) (sel : Nat) : Nat := if s.rd (F.PRF_CH_CFG_KIND sel) = 3 then 0 else s.rd (F.PRF_CH_CFG_KIND sel)

/-- The records of a slot, in ledger order. -/
def State.slotRecs (s : State) (key : Nat) : List Rec := SMap.getD s.prf.recs key []

/-- The current record among a slot's records: the last one that is no annex record (R271). -/
def currentOf (l : List Rec) : Option Rec := (l.filter (fun r => !r.annex)).getLast?

/-- The current record of a slot. -/
def State.current (s : State) (key : Nat) : Option Rec := currentOf (s.slotRecs key)

/-! ## What is configured -/

/-- The copies of a banked field that the store lists with a value other than its reset value. -/
def listedBanks (m : SMap Nat) (f : Nat → Fld) : List Nat :=
  (m.map (fun e => e.1 / 0x20000000 % 0x1000000)).eraseDups.filter (fun b => (SMap.find? m (f b).key).isSome)

/-- The own channels that are enabled, by selector. -/
def State.enabledChans (s : State) : List Nat := listedBanks s.regs F.PRF_CH_CFG_EN

/-- The balance groups that are enabled (R347). -/
def State.enabledGroups (s : State) : List Nat := listedBanks s.regs F.TCH_GRP_CFG_EN

/-- The members that are enabled: group times 1,024 plus member number (R349). -/
def State.enabledMembers (s : State) : List Nat := (listedBanks s.regs F.TCH_MBR_CFG_EN).filter (fun b => s.on (F.TCH_GRP_CFG_EN (b / 1024)))

/-- Is a node in a balance group: a reference or a member (R29)? -/
def State.balanced (s : State) (node : Nat) : Bool :=
  s.enabledGroups.any (fun g => s.rd (F.TCH_GRP_REF_NODE g) == node) || s.enabledMembers.any (fun b => s.rd (F.TCH_MBR_CFG_NODE b) == node)

/-- Is T5 made: not in RELAY (R29, R34)? -/
def State.accrues (s : State) : Bool := s.role != 1

/-! ## Time spans -/

/-- Does the slot [m, m + l) overlap a span of disciplined time [a, b)? DEDUCED, unsafe: log entry 77. -/
def State.slotOverlaps (s : State) (m l a b : Nat) : Bool := decide (s.minTime m < b) && decide (a < s.minTime (m + l))

/-- Does a slot overlap an outage span (R280)? -/
def State.inOutage (s : State) (m l : Nat) : Bool := s.prf.outages.any (fun x => s.slotOverlaps m l x.1 x.2)

/-- Does a slot overlap a live set-back span (R283)? -/
def State.inSetBack (s : State) (m l : Nat) : Bool := s.prf.spans.any (fun x => s.slotOverlaps m l x.from_ x.to_)

/-- Does a slot overlap a set-back span, live or retired (R305, R357)? -/
def State.everSetBack (s : State) (m l : Nat) : Bool := s.prf.setBacks.any (fun x => s.slotOverlaps m l x.1 x.2)

/-- Does a slot overlap time that a forward step skipped (R282)? DEDUCED, unsafe: log entry 77. -/
def State.inSkip (s : State) (m l : Nat) : Bool := s.prf.skips.any (fun x => s.slotOverlaps m l x.1 x.2)

/-- The live set-back span that makes a node value a REPEATED annex record (R283): its commit at or before the stamp, overlapping the slot, with a current record older than the TIME_CHG record. -/
def State.repeats (s : State) (stamp m l : Nat) (cur : Option Rec) : Bool :=
  match cur with
  | none => false
  | some c => s.prf.spans.any (fun x => decide (x.cw ≤ stamp) && s.slotOverlaps m l x.from_ x.to_ && decide (c.lseq < x.seq))

/-! ## The journal's room -/

/-- Bytes of a journal record: header and body (R380). -/
def JRec.size (r : JRec) : Nat := 16 + r.body.length

/-- Bytes of the journal tail (R383). -/
def State.tailBytes (s : State) : Nat := (s.jrn.tail.map JRec.size).sum

end Sys2Proof.Machine
end

