-- ==== Sys2Proof/Machine/Trees.lean ====
section
/-!
DEFINITION. Hallmark's trees (R325 to R328): leaf and node hashes, the Merkle tree hash and its audit path, leaf numbering, parts, and the closing of a tree.
-/
namespace Sys2Proof.Machine

/-- A leaf hash (R326). -/
def leafHash (input : List Byte) : List Byte := Config.sha384 (be 1 0 ++ input)

/-- An inner node (R326). -/
def nodeHash (l r : List Byte) : List Byte := Config.sha384 (be 1 1 ++ l ++ r)

/-- The largest power of two below `n`, for n > 1. -/
def splitPow (n : Nat) : Nat → Nat → Nat
  | 0, k => k
  | fuel + 1, k => if 2 * k < n then splitPow n fuel (2 * k) else k

/-- The Merkle tree hash of leaf hashes in order (R326). -/
def mth : Nat → List (List Byte) → List Byte
  | 0, _ => []
  | _ + 1, [] => Config.sha384 []
  | _ + 1, [h] => h
  | fuel + 1, h :: g :: l =>
    let all := h :: g :: l
    let k := splitPow all.length 21 1
    nodeHash (mth fuel (all.take k)) (mth fuel (all.drop k))

/-- The root over leaf hashes. -/
def treeRoot (l : List (List Byte)) : List Byte := mth 22 l

/-- The audit path of a leaf, the hash nearest the leaf first (R339). -/
def auditPath : Nat → Nat → List (List Byte) → List (List Byte)
  | 0, _, _ => []
  | fuel + 1, m, l =>
    if l.length ≤ 1 then []
    else
      let k := splitPow l.length 21 1
      if m < k then auditPath fuel m (l.take k) ++ [mth 22 (l.drop k)] else auditPath fuel (m - k) (l.drop k) ++ [mth 22 (l.take k)]

/-- Counts compressions of the sequencer and the header; how they fall on the two engines the spec leaves open (log entry 1). -/
def State.compress (s : State) (n : Nat) : State :=
  let k := s.freeVal (n + 1)
  ((s.tookFree).wr F.HSH_COMP0 (s.rd F.HSH_COMP0 + k)).wr F.HSH_COMP1 (s.rd F.HSH_COMP1 + (n - k))

/-- The tree still open, oldest first. -/
def State.openTree (s : State) : Option Tree := s.hlm.trees.find? (fun t => t.close.isNone)

/-- How many closed trees wait to be sealed (HLM.STAT.PEND). -/
def State.treesWaiting (s : State) : Nat := (s.hlm.trees.filter (fun t => t.close.isSome)).length

/-- Brings the figures of the trees up to date (R346). -/
def State.hlmSync (s : State) : State :=
  let o := s.openTree
  ((s.wr F.HLM_STAT_PEND (min 31 s.treesWaiting)).wr F.HLM_OPEN_NLEAF ((o.map (fun t => t.nleaf)).getD 0)).wr F.HLM_OPEN_PART ((o.map (fun t => t.part)).getD 0)

/-- Puts a tree in its place: by the start of its filing interval, then by part (R328). DESIGN CHOICE, unsafe: log entry 86. -/
def insertTree (x : Tree) : List Tree → List Tree
  | [] => [x]
  | y :: l => if x.fstartC < y.fstartC || x.fstartC = y.fstartC && x.part < y.part then x :: y :: l else y :: insertTree x l

/-- Opens a tree (R325, R327, R330). -/
def State.openTreeAt (s : State) (startC fstartC istart part flen : Nat) : State :=
  let (t, _, q) := s.convert startC
  let x : Tree := { startC := startC, fstartC := fstartC, istart := istart, part := part, flen := flen, qual := q.toNat, tstart := t, restart := s.rd F.TIME_EPOCH_RESTART }
  ({ s with hlm := { s.hlm with trees := insertTree x s.hlm.trees } }).hlmSync

/-- While more than 16 closed trees wait with their leaf tables, the oldest gives its table up (R328). -/
def dropTables (l : List Tree) : List Tree :=
  if 16 < (l.filter (fun t => t.close.isSome && !t.dropped)).length then
    match l.findIdx? (fun t => t.close.isSome && !t.dropped) with
    | some i => l.mapIdx (fun j (t : Tree) => if j = i then { t with dropped := true, leaves := [] } else t)
    | none => l
  else l

/-- Closes the open tree of a filing interval (R327, R328). -/
def State.closeTree (s : State) (fstartC : Nat) (c : TreeClose) : State :=
  ({ s with hlm := { s.hlm with trees := dropTables (s.hlm.trees.map (fun t : Tree => if t.fstartC = fstartC && t.close.isNone then { t with close := some c } else t)) } }).hlmSync

/-- PART_MAX as it acts (R346). -/
def State.partMax (s : State) : Nat := s.rdIn F.HLM_PART_MAX 65536 1048576

/-- Gives a record its leaf in the open tree of its filing interval (R325): the leaf index and the tree's START_C. A tree that is full closes as a part, and the next part opens at the same count (R327). -/
def State.takeLeaf (s : State) (fstartC lseq : Nat) : Nat × Nat × State :=
  match s.hlm.trees.find? (fun t => t.fstartC == fstartC && t.close.isNone) with
  | none => (0, fstartC, s)
  | some t =>
    let t1 := { t with nleaf := t.nleaf + 1, first := if t.nleaf = 0 then lseq else t.first, last := lseq, lastAt := s.raw }
    let s1 := { s with hlm := { s.hlm with trees := s.hlm.trees.map (fun x : Tree => if x.fstartC = fstartC && x.close.isNone then t1 else x) } }
    let s2 := if s.partMax ≤ t1.nleaf then
        (s1.closeTree fstartC ⟨0, 0xFF, s.raw, true⟩).openTreeAt s.raw fstartC t.istart (t.part + 1) t.flen
      else s1.hlmSync
    (t.nleaf, t.startC, s2)

/-- Places a leaf hash at its index (R325); a tree that gave up its table takes none. -/
def State.putLeaf (s : State) (startC lidx : Nat) (h : List Byte) : State :=
  { s with hlm := { s.hlm with trees := s.hlm.trees.map (fun t : Tree =>
      if t.startC = startC && !t.dropped && lidx < t.nleaf then { t with leaves := SMap.set t.leaves lidx h } else t) } }

/-- T6 computes a record's leaf hash and places it (R325, R326). -/
def State.leafTask (s : State) (i : Nat) (d : Desc) : State :=
  match d.record with
  | none => s.taskEnd i .ok 0
  | some r =>
    let s1 := s.putLeaf r.startC r.lidx (leafHash r.canonical)
    (if d.exec = 6 then s1.wrap F.HSH_COMP1 else s1.wrap F.HSH_COMP0).taskEnd i .ok 0

/-- MERKLE_LEAF (R325). -/
def execMerkleLeaf (d : Fin 16384) (s : State) : Host.Outcome State Fault Refusal :=
  s.done (match s.runningTask d.val 5 with
    | some x => if s.taskPoison x then s.taskEnd d.val .poison 0 else s.leafTask d.val x
    | none => s)

end Sys2Proof.Machine
end

