-- ==== Sys2Proof/Machine/Assay.lean ====
section
/-!
DEFINITION. Assay, T3 of a chain (R259 to R278): the checks, the status word, DELTA, gap estimates, and what a record does to its channel's state.
-/
namespace Sys2Proof.Machine

/-! ## A channel's state -/

/-- What a filed record does to its channel's LVAL, LSLOT and MONO_RUN (R261, R270, R278, R283); `rebase` is MONO_REBASE. Records that the device made do nothing. -/
def chanStep (rebase : Nat) (c : ChanSt) (r : Rec) : ChanSt :=
  let valid := stHas r.status St.VALID
  if !r.frame then c
  else if r.kind = 1 then
    match c.lslot with
    | none => { c with lval := r.value, lvSlot := some r.istart, lvalid := valid, lslot := some r.istart }
    | some l =>
      if stHas r.status St.REPEATED then { c with lval := r.value, lvSlot := some r.istart, lvalid := valid }
      else if r.istart ≤ l then c
      else if r.rules.testBit 2 then
        if rebase ≤ c.monoRun + 1 then { c with lval := r.value, lvSlot := some r.istart, lvalid := valid, monoRun := 0, lslot := some r.istart }
        else { c with monoRun := c.monoRun + 1, lslot := some r.istart }
      else { c with lval := r.value, lvSlot := some r.istart, lvalid := valid, monoRun := 0, lslot := some r.istart }
  else
    let l := if stHas r.status St.REPEATED then c.lslot else some (max (c.lslot.getD 0) r.istart)
    if valid && decide (c.lvSlot.getD 0 ≤ r.istart) then { c with lval := r.value, lvSlot := some r.istart, lvalid := true, lslot := l }
    else { c with lslot := l }

/-- MONO_REBASE as it acts: 1 to 15 (R290). -/
def State.monoRebase (s : State) : Nat := s.rdIn F.ASY_MONO_REBASE 1 15

/-- The records of a node that Assay has judged and T4 has not yet filed, in chain order. -/
def State.judged (s : State) (node : Nat) : List Rec :=
  ((s.pln.chains.filter (fun e => e.2.node == some node)).map (fun e => e.2.vals.filterMap (fun v => if v.filed then none else v.record))).flatten

/-- A channel's state with judged records counted in. -/
def State.chanWith (s : State) (sel : Nat) (l : List Rec) : ChanSt :=
  l.foldl (fun c r => if chanSel r.node r.chan = sel then chanStep s.monoRebase c r else c) (s.chanSt sel)

/-- The current record of a slot with judged records counted in (R271). -/
def State.currentWith (s : State) (key : Nat) (l : List Rec) : Option Rec :=
  l.foldl (fun (c : Option Rec) (r : Rec) =>
    if r.slotKey = key && !r.annex && decide (((c.map Rec.rank).getD 0) ≤ r.rank) then some r else c) (s.current key)

/-! ## REGISTER readings -/

/-- What Assay makes of a REGISTER reading (R270, R278, R283): DELTA, and whether it has NOACC, fails MONO, rolled over, or is the channel's first. -/
structure RegEval where
  delta : Int
  noacc : Bool := false
  mono : Bool := false
  ovf : Bool := false
  first : Bool := false
  deriving DecidableEq, Repr

/-- The modulus of a rule set; 0 where it has none, and exponents above 19 act as 19 (R262, R290). -/
def State.modulus (s : State) (rs : Nat) : Int :=
  let e := s.rd (F.ASY_RS_CTL_MOD_EXP rs)
  if e = 0 then 0 else ((10 ^ (min 19 e) : Nat) : Int)

/-- Judges a register reading `q` for a slot against its channel's state (R270, R278, R283). -/
def regEval (c : ChanSt) (m : Int) (q : Int) (slot : Nat) (rep roll : Bool) : RegEval :=
  match c.lslot with
  | none => { delta := 0, noacc := true, first := true }
  | some l =>
    let drop := decide (q < c.lval)
    let rolled := drop && (roll || (m != 0 && decide (2 * (q + m - c.lval) < m)))
    if rep then { delta := q - c.lval, mono := drop && !rolled }
    else if slot ≤ l then { delta := 0, noacc := true, mono := drop && !rolled }
    else if rolled then { delta := q + m - c.lval, ovf := true }
    else if drop then { delta := 0, noacc := true, mono := true }
    else { delta := q - c.lval }

/-! ## The checks -/

/-- A 64-bit value from its halves, signed. -/
def signed64 (lo hi : Nat) : Int := (BitVec.ofNat 64 (hi * 2 ^ 32 + lo)).toInt

/-- What a value is judged with: the chain's node and protection, stamp and quality, node time in hundredths of a second, LATE, and the judged records before it. -/
structure AssayCtx where
  node : Nat
  prot : Bool
  stamp : Nat
  qual : BitVec 8
  ntime : Option Nat
  late : Bool
  pend : List Rec
  /-- Channel, slot and quantity of each value of the frame (R263, SUM). -/
  sums : List (Nat × Nat × Int)

/-- Does a value fail CLOCK (R263, R265)? With no time source the conditions on T(capture stamp) do not apply. -/
def State.clockFails (s : State) (x : AssayCtx) (intEnd l : Nat) (mstat : Nat) : Bool :=
  let tol := s.rd F.ASY_CLK_TOL
  let t := (s.convert x.stamp).1
  let timed := qSource x.qual != 0
  let nodeBad := match x.ntime with
    | some h => decide (tol * 1000000 < (h * 10000000 - t) + (t - h * 10000000))
    | none => false
  let late := decide (t + tol * 1000000 < intEnd * 1000000000)
  let r := (intEnd - s.rd F.PRF_GRID_OFS) % (60 * l)
  let off := decide (tol < 1000 * min r (60 * l - r))
  timed && (nodeBad || late) || off || mstat.testBit 2

/-- Does a value fail SUM (R263)? Every masked channel of the node and slot must be in the frame. -/
def State.sumFails (s : State) (x : AssayCtx) (sel slot : Nat) (q : Int) : Bool :=
  let mask := s.rd (F.PRF_CH_CFG_SUM_MASK sel)
  let chans := (List.range 8).filter (fun c => mask.testBit c)
  let qs := chans.map (fun c => (x.sums.find? (fun (e : Nat × Nat × Int) => e.1 == c && e.2.1 == slot)).map (fun e => e.2.2))
  mask != 0 && qs.all (fun o => o.isSome) &&
    decide ((s.rd (F.ASY_RS_SUM_TOL (s.rd (F.PRF_CH_CFG_RS sel))) : Int) < (q - (qs.map (fun o => o.getD 0)).sum).natAbs)

/-- Does a value fail RATE (R263)? DEDUCED, unsafe: log entry 75. -/
def State.rateFails (s : State) (rs : Nat) (c : ChanSt) (kind slot l : Nat) (value : Int) (e : RegEval) : Bool :=
  let rate := s.rd (F.ASY_RS_RATE_LO rs) + 2 ^ 32 * s.rd (F.ASY_RS_RATE_HI rs)
  match c.lslot with
  | none => false
  | some ls =>
    rate != 0 &&
      (if kind = 1 then decide (ls < slot) && decide (rate * ((slot - ls) / l) < e.delta.natAbs)
       else c.lvSlot.isSome && slot == ls + l && decide (rate < (value - c.lval).natAbs))

/-- The estimates for a gap of `g` slots of `l` minutes between `a` and the slot of a VALID value, with the span's change `d` (R276): slot, VALUE and DELTA. DEDUCED, unsafe: log entry 76. -/
def gapEstimates (kind a l g : Nat) (qa d : Int) : List (Nat × Int × Int) :=
  let e := fun (k : Nat) => qa + d * k / ((g : Int) + 1)
  (List.range g).map (fun j => (a + (j + 1) * l, e (j + 1), if kind = 1 then e (j + 1) - e j else 0))

/-- A value as Assay has judged it: the record, the estimates before it, and the quantity the checks used. -/
structure Judged where
  record : Rec
  est : List (Nat × Int × Int)
  q : Int
  first : Bool

/-- T3 for one reading item (R260, R263 to R266, R270, R272, R276 to R278, R283). DEDUCED, unsafe: log entry 75. -/
def State.assess (s : State) (x : AssayCtx) (b : List Byte) : Judged :=
  let ch := field b 0 1 / 32
  let sel := chanSel x.node ch
  let mstat := field b 1 1
  let intEnd := field b 2 5
  let value := ofBeInt ((b.drop 8).take 8)
  let m := (intEnd - 1 - s.rd F.PRF_GRID_OFS) / 60
  let slot := s.slotOf sel m
  let code := s.chanLen sel m
  let l := lenMin code
  let kind := s.chanKind sel
  let rs := s.rd (F.PRF_CH_CFG_RS sel)
  let c := s.chanWith sel x.pend
  let cur := s.currentWith (slotKey s.unitAddr x.node ch slot) x.pend
  let rep := s.repeats x.stamp slot l cur
  let e := if kind = 1 then regEval c (s.modulus rs) value slot rep (mstat.testBit 3) else { delta := 0 }
  let q := if kind = 1 then e.delta else value
  let misfit := !s.on (F.PRF_CH_CFG_EN sel) || field b 7 1 ≥ 8 || lenMin (field b 7 1) != l
  let skip := kind == 1 && e.first
  let range := misfit || !skip && (decide (q < signed64 (s.rd (F.ASY_RS_MIN_LO rs)) (s.rd (F.ASY_RS_MIN_HI rs))) ||
    decide (signed64 (s.rd (F.ASY_RS_MAX_LO rs)) (s.rd (F.ASY_RS_MAX_HI rs)) < q))
  let clock := s.clockFails x intEnd l mstat
  let held := !rep && (cur.map Rec.rank) == some 3
  let dup := held && (cur.map (fun r => r.value)) == some value
  let conflict := held && !dup
  let rules := b2n range + 2 * b2n (s.rateFails rs c kind slot l value e) + 4 * b2n e.mono + 8 * b2n clock +
    16 * b2n (!skip && s.sumFails x sel slot q) + 32 * b2n (mstat.testBit 5) + 64 * b2n conflict + 128 * b2n (!x.prot)
  let valid := !misfit && !conflict && rules &&& s.rd (F.ASY_RS_CTL_STRICT rs) == 0 && !mstat.testBit 7
  let adj := s.inSetBack slot l || s.inSkip slot l
  let status := stIf valid St.VALID ||| stIf (mstat.testBit 7) St.ESTIMATED ||| stIf (mstat.testBit 1) St.POWER_FAIL |||
    stIf (mstat.testBit 4 || adj) St.TIME_ADJ ||| stIf rep St.REPEATED ||| stIf clock St.CLOCK_DEV ||| stIf dup St.DUP_SUPPRESSED |||
    stIf e.ovf St.OVERFLOW ||| stIf (mstat.testBit 0) St.TAMPER |||
    stIf (mstat.testBit 6 || qSource x.qual == 0 && s.on F.ASY_CTL_NOCLK_PROV) St.PROVISIONAL
  let a := c.lvSlot.getD 0
  let g := (slot - a) / l - 1
  let gap := valid && !rep && c.lvSlot.isSome && decide (a < slot) && decide (1 ≤ g) && !(kind == 1 && e.noacc)
  let fill := gap && c.lvalid && decide (g ≤ s.rd F.ASY_EST_MAX) && s.on F.ASY_CTL_EST_EN
  let d := if kind = 1 then e.delta else value - c.lval
  let est := if fill then gapEstimates kind a l g c.lval d else []
  let delta := if fill && kind == 1 then d - (d * g / ((g : Int) + 1)) else e.delta
  { record := { unit := s.unitAddr, node := x.node, chan := ch, kind := kind, len := code, istart := slot, status := status, rules := rules
                mstat := mstat, late := x.late, span := gap && !fill && kind == 1, noacc := e.noacc || held, annex := rep || held, value := value
                delta := delta, stamp := x.stamp, qual := x.qual.toNat, lseq := s.jrn.seq + 1, item := b, frame := true }
    est := est, q := q, first := skip }

/-- Judges the values of a frame in order, each with those before it (R263, R270). -/
def State.assessAll (s : State) (x : AssayCtx) : List ValItem → List Judged
  | [] => []
  | v :: vs =>
    let j := s.assess x v.bytes
    j :: State.assessAll s { x with pend := x.pend ++ [j.record] } vs

/-- Counts a judged value (R290). -/
def State.countJudged (s : State) (j : Judged) : State :=
  let r := j.record
  let s1 := (List.range 8).foldl (fun (t : State) k => if r.rules.testBit k then t.sat (F.ASY_RULE_CNT k) else t) (s.wrap F.ASY_VALUES)
  let s2 := if stHas r.status St.VALID then s1 else (s1.sat F.ASY_NOT_VALID).raise Pg.ASY 0
  let s3 := if r.rules.testBit 3 then s2.raise Pg.ASY 1 else s2
  let s4 := if r.rules.testBit 6 then s3.raise Pg.ASY 2 else s3
  if stHas r.status St.DUP_SUPPRESSED then s4.sat F.ASY_DUP_SUPP else s4

/-- T3 completes at Assay (R263): every value of the frame has its record, not yet filed. -/
def State.validateTask (s : State) (i : Nat) (d : Desc) : State :=
  if s.taskPoison d then s.taskEnd i .poison 0
  else
    let ch := s.chain d.chain
    let x : AssayCtx :=
      { node := ch.node.getD 0xFFFF, prot := ch.prot, stamp := d.stamp, qual := (s.pktBytes d.cell 12 1).headD 0, ntime := ch.ntime
        late := d.arg.testBit 63, pend := s.judged (ch.node.getD 0xFFFF), sums := [] }
    let q := s.assessAll x ch.vals
    let sums := (q.filter (fun j => !j.first)).map (fun j => (j.record.chan, j.record.istart, j.q))
    let js := s.assessAll { x with sums := sums } ch.vals
    let vals := (ch.vals.zip js).map (fun (e : ValItem × Judged) =>
      { e.1 with record := some { e.2.record with ic := if ch.prot then ch.ic else 0, gen := ch.gen, prot := ch.prot, txNbr := ch.txNbr, txSeq := ch.txSeq
                                                  eui := (s.nbr (ch.node.getD 0xFFFF)).eui }, est := e.2.est })
    ((js.foldl (fun (t : State) j => t.countJudged j) s).setChain d.chain { ch with vals := vals }).taskEnd i .ok 0

/-- VALIDATE (R263). -/
def execValidate (d : Fin 16384) (s : State) : Host.Outcome State Fault Refusal :=
  s.done (match s.runningTask d.val 2 with
    | some x => s.validateTask d.val x
    | none => s)

end Sys2Proof.Machine
end

