-- ==== Sys2Proof/Machine/Profile.lean ====
section
/-!
DEFINITION. Profile task code (chapter 10): filing a record, T4, filing intervals and close records, gaps, time changes, outages, segments, the fall-back, reading and editing.
-/
namespace Sys2Proof.Machine

/-! ## Filing intervals -/

/-- Is a drain's target a boundary of the filing interval (R267, R268)? -/
def State.fileBoundary (s : State) (target : Nat) : Bool := s.onRaster target && s.gridMin target % s.fileLen (s.gridMin target) == 0

/-- Opens a filing interval with its tree (R280, R282, R325). -/
def State.openFiling (s : State) (istart startC status : Nat) : State :=
  let f : Filing := ⟨istart, startC, s.fileLen istart, status⟩
  ({ s with prf := { s.prf with filings := s.prf.filings ++ [f] } }).openTreeAt startC startC istart 0 (s.fileCode istart)

/-- The nominal start of the filing interval that contains a grid minute. -/
def State.fileStart (s : State) (m : Nat) : Nat := m / s.fileLen m * s.fileLen m

/-- The filing interval of a record captured at a raw count (R267): the newest one that had begun by then. One whose boundary has fired and drains is opened at the firing count; a count before every open interval takes the oldest. -/
def State.filingFor (s : State) (c : Nat) : Filing × State :=
  let fired := (s.pln.drains.filter (fun d => decide (d.c ≤ c) && s.fileBoundary d.target)).getLast?
  let s1 := match fired with
    | some d => if s.prf.filings.any (fun f => decide (d.c ≤ f.startC)) then s else s.openFiling (s.gridMin d.target) d.c 0
    | none => s
  let s2 := if s1.prf.filings.isEmpty then s1.openFiling (s1.fileStart s1.gridNow) s1.raw 0 else s1
  match (s2.prf.filings.filter (fun f => decide (f.startC ≤ c))).getLast? with
  | some f => (f, s2)
  | none => (s2.prf.filings.headD ⟨0, 0, 15, 0⟩, s2)

/-- Raw counts as milliseconds. -/
def rawMs (n : Nat) : Nat := n * 4 / 1000000

/-- SHORT or LONG by a filing interval's duration (R279). -/
def State.durStatus (s : State) (f : Filing) (dur : Nat) : Nat :=
  let nominal := f.len * 60000
  let tol := s.rdIn F.PLN_BND_SETTLE 0 60000 + 1000
  if dur + tol < nominal then St.SHORT else if nominal + tol < dur then St.LONG else 0

/-- A close record (R279). -/
def closeRecord (kind istart status startC endC : Nat) : List Byte :=
  be 1 kind ++ be 3 0 ++ be 4 istart ++ be 2 status ++ be 2 0 ++ be 4 (rawMs (endC - startC)) ++ be 8 startC ++ be 8 endC

/-- SHORT or LONG of a STATUS (R17, R279): one that a rule has given stands, the measured one applies where no rule gave any, and where rules gave both, the duration against the nominal one decides. -/
def fitLength (st measured : Nat) (short : Bool) : Nat :=
  if stHas st St.SHORT && stHas st St.LONG then st - (if short then St.LONG else St.SHORT)
  else if stHas st St.SHORT || stHas st St.LONG then st else st ||| measured

/-- The STATUS of a filing interval that ends at a count (R279, R283). -/
def State.filingStatus (s : State) (f : Filing) (endC extra : Nat) : Nat :=
  let rep := s.prf.spans.any (fun x => decide (x.cw ≤ f.startC) && s.slotOverlaps f.istart f.len x.from_ x.to_)
  fitLength (f.status ||| extra) (s.durStatus f (rawMs (endC - f.startC))) (decide (rawMs (endC - f.startC) < f.len * 60000)) ||| stIf rep (St.REPEATED ||| St.TIME_ADJ)

/-- Closes a filing interval (R279, R328): its record, journaled unless the cut record carries it, and its tree. -/
def State.closeFiling (s : State) (f : Filing) (kind endC extra : Nat) (journaled : Bool) : List Byte × State :=
  let st := s.filingStatus f endC extra
  let body := closeRecord kind f.istart st f.startC endC
  let s1 := { s with prf := { s.prf with filings := s.prf.filings.filter (fun g => g.startC != f.startC || g.istart != f.istart) } }
  let s2 := if journaled then s1.journal 2 body else s1
  (body, s2.closeTree f.startC ⟨st, kind, endC, false⟩)

/-! ## Filing a record -/

/-- A list of segments with one more that has a record to be programmed; one that is listed keeps its place. -/
def addSeg (l : List (Nat × Nat)) (e : Nat × Nat) : List (Nat × Nat) := if l.any (fun x => x.1 == e.1) then l else l ++ [e]

/-- The segments held back in OUTAGE are asked for (R281). -/
def State.flushSegments (s : State) : State :=
  { s with prf := { s.prf with writes := s.prf.dirty.foldl addSeg s.prf.writes, dirty := [] } }

/-- Asks Ingot to write a record's segment, or in OUTAGE marks it dirty until OUT_BATCH MiB wait; in FALLBACK no segment is written (R281, R285, R288). DESIGN CHOICE, unsafe: log entry 78. -/
def State.touchSegment (s : State) (r : Rec) : State :=
  let e := (chanKey r.unit r.node r.chan * 2 ^ 32 + r.istart / (256 * lenMin r.len), r.lseq)
  if s.on F.PRF_STATE_FALLBACK then s
  else if s.mode = Md.OUTAGE then
    let t := { s with prf := { s.prf with dirty := addSeg s.prf.dirty e } }
    if s.rd F.PRF_OUT_BATCH * 1048576 ≤ t.prf.dirty.length * 2112 then t.flushSegments else t
  else { s with prf := { s.prf with writes := addSeg s.prf.writes e } }

/-- Is Ingot at its limit of 256 commands (R28, R386)? -/
def State.igtFull (s : State) : Bool := decide (256 ≤ s.prf.writes.length)

/-- The sequences of the first records that are in no programmed segment (R384); in FALLBACK all from its entry or its last SUMMARY on. -/
def State.segNeeds (s : State) : List Nat :=
  (s.prf.dirty ++ s.prf.writes).map (fun e => e.2) ++ (if s.on F.PRF_STATE_FALLBACK then [s.prf.progSeq + 1] else [])

/-- Counts a filed record (R273, R291). -/
def State.countFiled (s : State) (r : Rec) : State :=
  let s1 := s.wrap F.PRF_RECORDS
  let s2 := if stHas r.status St.GAP then (s1.sat F.PRF_GAPS).raise Pg.PRF 0 else s1
  let s3 := if r.late then (s2.sat F.PRF_LATE).raise Pg.PRF 5 else s2
  if stHas r.status St.REPEATED then s3.sat F.PRF_REPEATED else s3

/-- Lists a record in its slot. A SUMMARY stands apart, in no slot. -/
def State.keepRec (s : State) (r : Rec) : State :=
  if r.kind = 3 then { s with prf := { s.prf with sums := s.prf.sums ++ [r] } }
  else { s with prf := { s.prf with recs := SMap.set s.prf.recs r.slotKey (s.slotRecs r.slotKey ++ [r]) } }

/-- Files a record (R267, R269, R271, R273, R324, R325): its rank against the current record, its revision, its tree and leaf, its ledger sequence and its journal record. Answers the record as filed and the one it displaced. -/
def State.fileRec (s : State) (r : Rec) : Rec × Option Rec × State :=
  let cur := if r.kind = 3 then none else s.current r.slotKey
  let annex := r.annex || (match cur with | some c => decide (r.rank < c.rank) | none => false)
  let displaced := if annex then none else cur
  let rev := match displaced with | some c => min 15 (c.rev + 1) | none => 0
  let stamp := if r.frame then r.stamp else s.raw
  let (f, s1) := s.filingFor (if r.frame && !r.late then stamp else s.raw)
  let lseq := s1.jrn.seq + 1
  let (lidx, startC, s2) := s1.takeLeaf f.startC lseq
  let (t, _, q) := s2.convert stamp
  let r1 := { r with annex := annex, rev := rev, lseq := lseq, lidx := lidx, startC := startC, stamp := stamp, time := t
                     qual := if r.frame then r.qual else q.toNat, eui := (s2.nbr r.node).eui }
  let s3 := ((s2.journal 1 r1.t4Body).keepRec r1).countFiled r1
  (r1, displaced, s3.touchSegment r1)

/-- The descriptors of T5 to T7 that a record filed without a frame value takes, as internal creations in its node's flow (R275): no T5 in RELAY, no T7 outside balance groups, and a SUMMARY only its leaf (log entry 18). DEDUCED, unsafe: log entry 18. -/
def State.recordTasks (s : State) (r : Rec) (disp : Option Rec) (prio : Nat) : State :=
  let kinds := [5] ++ (if s.accrues && r.kind != 3 then [4] else []) ++ (if s.balanced r.node && r.kind != 3 then [6] else [])
  let c := s.pln.nextChain
  let s1 := { s with pln := { s.pln with nextChain := c + 1 } }
  kinds.foldl (fun (t : State) k => t.create { Desc.make prio k true (t.nbr r.node).flow 0 0xFFFF r.stamp c [] with record := some r, disp := disp }) s1

/-- Files a record that the device made, with its tasks (R275); after an export nothing is filed (R540). -/
def State.fileMade (s : State) (r : Rec) (prio : Nat) : State :=
  if s.on F.LDG_SUCC_STAT_EXPORTED then s else
  let (r1, disp, s1) := s.fileRec r
  (s1.recordTasks r1 disp prio).plnSync

/-! ## T4 -/

/-- Can a record be appended to the journal now: the tail is below its bound and the journal area has room (R383, R384, R392)? Without NAND the journal lives in DRAM only (R389). -/
def State.jrnRoom (s : State) : Bool :=
  s.rd F.IGT_STATE_MODE == 5 || (decide (s.tailBytes < s.rdIn F.IGT_JTAIL_MAX 1 16 * 1048576) && decide (s.rd F.IGT_JRNL_USED < s.nand.jrnlMib))

/-- An estimated record for a gap slot (R276). DEDUCED, unsafe: log entry 76. -/
def State.estimate (s : State) (r : Rec) (e : Nat × Int × Int) : Rec :=
  let l := lenMin r.len
  let adj := s.inSetBack e.1 l || s.inSkip e.1 l
  { unit := r.unit, node := r.node, chan := r.chan, kind := r.kind, len := r.len, istart := e.1
    status := St.ESTIMATED ||| stIf (s.inOutage e.1 l || r.mstat.testBit 1) St.POWER_FAIL ||| stIf adj St.TIME_ADJ
    value := e.2.1, delta := e.2.2, gen := 0, late := r.late }

/-- A filed value moves its channel's state on (R261, R270). -/
def State.moveChan (s : State) (r : Rec) : State :=
  let sel := chanSel r.node r.chan
  let c := s.chanSt sel
  let s1 := s.setChan sel (chanStep s.monoRebase c r)
  let newest := !stHas r.status St.REPEATED && c.lslot.any (fun l => decide (l < r.istart))
  if r.kind = 1 && r.rules.testBit 2 && newest && s.monoRebase ≤ c.monoRun + 1 then (s1.sat F.ASY_MONO_REBASED).raise Pg.ASY 3 else s1

/-- The value a T4 task handles in its chain. -/
def Chain.val (x : Chain) (i : Nat) : Option ValItem := x.vals[i]?

/-- T4 files the estimates of a gap and then its value (R269, R276), and hands the record to its T5 to T7 tasks. -/
def State.fileValue (s : State) (d : Desc) (v : ValItem) (r0 : Rec) : State :=
  let r := { r0 with late := r0.late || d.arg.testBit 63 }
  let s1 := v.est.foldl (fun (t : State) e => (t.fileMade (t.estimate r e) d.prio).sat F.ASY_ESTIMATES) s
  let (r1, disp, s2) := s1.fileRec r
  let s3 := s2.moveChan r1
  let ch := s3.chain d.chain
  let s4 := s3.setChain d.chain { ch with vals := ch.vals.mapIdx (fun j (x : ValItem) => if j = d.vi then { x with record := some r1, filed := true } else x) }
  d.succ.foldl (fun (t : State) j =>
    match t.desc j with
    | some y => if 4 ≤ y.kind && y.kind ≤ 6 then t.setDesc j { y with record := some r1, disp := disp } else t
    | none => t) s4

/-- Must an appender wait for its record's program (WT_ALL, R392)? -/
def State.writeThrough (s : State) : Bool := s.rd F.IGT_STATE_TIER == 2 && s.rd F.IGT_STATE_MODE != 5

/-- T4 completes (R269); while Ingot is at its command limit (R29) or the journal takes no record it waits (R383, R384), and in WT_ALL it waits for its record's program (R392). Where the role's work is not done nothing is filed (R503, R540). -/
def State.profileTask (s : State) (i : Nat) (d : Desc) : State :=
  if s.taskPoison d then s.taskEnd i .poison 0
  else
    match (s.chain d.chain).val d.vi with
    | none => s.taskEnd i .ok 0
    | some v =>
      match v.record with
      | none => s.taskEnd i .ok 0
      | some r =>
        if !s.working then s.taskEnd i .ok 0
        else if v.filed then (if s.writeThrough && s.jrn.tail.any (fun x => x.seq == r.lseq) then s else s.taskEnd i .ok 0)
        else if s.igtFull && !s.on F.PRF_STATE_FALLBACK then s
        else if !s.jrnRoom then s.sat F.IGT_JRNL_WAIT
        else if s.writeThrough then s.fileValue d v r
        else (s.fileValue d v r).taskEnd i .ok 0

/-! ## Closing slots -/

/-- CLOSE_LAG as it acts: 0 to 4. -/
def State.closeLag (s : State) : Nat := s.rdIn F.PRF_CLOSE_LAG 0 4

/-- A GAP record for a slot (R275). -/
def State.gapRec (s : State) (sel istart : Nat) : Rec :=
  let code := s.chanLen sel istart
  let l := lenMin code
  { unit := s.unitAddr, node := sel % 65536, chan := sel / 65536, kind := s.chanKind sel, len := code, istart := istart
    status := St.GAP ||| stIf (s.inOutage istart l) St.POWER_FAIL ||| stIf (s.inSetBack istart l || s.inSkip istart l) St.TIME_ADJ }

/-- The starts of the slots of length `l` whose closing point, `lag` minutes after their end, lies after `from_` and at or before `to_`, oldest first. -/
def closingStarts (l lag from_ to_ : Nat) : List Nat :=
  let first := (from_ - lag) / l * l
  let n := (to_ - first) / l + 1
  (((List.range n).map (fun j => first + j * l)).filter (fun a => decide (from_ < a + l + lag) && decide (a + l + lag ≤ to_)))

/-- The starts of a channel's slots whose closing point lies after `from_` and at or before `to_` (R275), oldest first; slots before a change of LEN keep the old length (R268). -/
def State.slotsClosing (s : State) (sel from_ to_ : Nat) : List Nat :=
  let c := s.chanSt sel
  let old := lenMin c.oldLen
  let new := lenMin (s.rd (F.PRF_CH_CFG_LEN sel))
  (if c.lenFrom = 0 then [] else (closingStarts old (s.closeLag * old) from_ to_).filter (fun a => decide (a < c.lenFrom))) ++
    (closingStarts new (s.closeLag * new) from_ to_).filter (fun a => decide (c.lenFrom ≤ a))

/-- Closes one slot (R275): a GAP record where the channel has no current record for it. -/
def State.closeSlot (s : State) (sel istart : Nat) : State :=
  let s1 := s.wrap F.PRF_SLOTS_CLOSED
  match s1.current (slotKey s1.unitAddr (sel % 65536) (sel / 65536) istart) with
  | some _ => s1
  | none => s1.fileMade (s1.gapRec sel istart) (s1.rd F.PLN_BND_PRIO)

/-- Is the port of a channel's node stopped in OUTAGE (R107, R281)? -/
def State.chanStopped (s : State) (sel : Nat) : Bool :=
  let p := (s.nbr (sel % 65536)).port
  s.mode == Md.OUTAGE && decide (p < 64) && !s.portRuns p

/-- Closes what a drain to grid minute `m` closes of one channel (R275, R281): the slots of a stopped port's nodes wait until CLOSE_LAG intervals after the OUTAGE exit. -/
def State.closeChan (s : State) (m sel : Nat) : State :=
  let c := s.chanSt sel
  let l := lenMin (s.chanLen sel m)
  if s.chanStopped sel then
    if c.heldFrom.isSome then s else s.setChan sel { c with heldFrom := some s.prf.lastTarget }
  else
    match c.heldFrom with
    | some h =>
      if s.minTime m < s.prf.outExit + s.closeLag * l * 60000000000 then s
      else (s.slotsClosing sel h m).foldl (fun (t : State) a => t.closeSlot sel a) (s.setChan sel { c with heldFrom := none })
    | none => (s.slotsClosing sel s.prf.lastTarget m).foldl (fun (t : State) a => t.closeSlot sel a) s

/-- Closes the slots a drain closes, channel by channel (R275). -/
def State.closeSlots (s : State) (m : Nat) : State :=
  let s1 := s.enabledChans.foldl (fun (t : State) sel => t.closeChan m sel) s
  { s1 with prf := { s1.prf with lastTarget := max s1.prf.lastTarget m } }

/-- Closes the filing intervals that a drain ends, and opens the next at the firing count (R279). -/
def State.closeFilings (s : State) (e : BndEvent) (m : Nat) : State :=
  let ending := s.prf.filings.filter (fun f => decide (f.istart + f.len ≤ m) && decide (f.startC ≤ e.c))
  let s1 := ending.foldl (fun (t : State) f =>
    let endC := ((t.prf.filings.filter (fun g => decide (f.startC < g.startC))).head?.map (fun g => g.startC)).getD e.c
    (t.closeFiling f 0 endC 0 true).2) s
  if ending.isEmpty || !s1.prf.filings.isEmpty then s1 else s1.openFiling (s1.fileStart m) e.c 0

/-! ## The fall-back -/

/-- The current records of a channel's slots in the day that starts at a grid minute. -/
def State.dayRecs (s : State) (sel day : Nat) : List Rec :=
  let lo := slotKey s.unitAddr (sel % 65536) (sel / 65536) day
  (s.prf.recs.filter (fun e => decide (lo ≤ e.1) && decide (e.1 < lo + 1440))).filterMap (fun e => currentOf e.2)

/-- The figures of a day's current records (R288): GAP records count as 0 and are no candidates for the maximum. -/
def figOf (l : List Rec) : FbFig :=
  let cand := l.filter (fun r => !stHas r.status St.GAP)
  { n := l.length, sum := (cand.map Rec.quantity).sum
    top := cand.foldl (fun (b : Option (Int × Nat)) (r : Rec) => match b with
      | none => some (r.quantity, r.istart)
      | some x => if x.1 < r.quantity then some (r.quantity, r.istart) else b) none
    flags := l.foldl (fun m r => m ||| r.status) 0, allValid := l.all (fun r => stHas r.status St.VALID) }

/-- The figures of two parts of a day, the earlier first. -/
def FbFig.merge (a b : FbFig) : FbFig :=
  { n := a.n + b.n, sum := a.sum + b.sum
    top := (match a.top, b.top with
      | some x, some y => if x.1 < y.1 then some y else some x
      | some x, none => some x
      | none, y => y)
    flags := a.flags ||| b.flags, allValid := a.allValid && b.allValid }

/-- The figures of a channel's day, with those that a succession brought (R541). -/
def State.dayFig (s : State) (sel day : Nat) : FbFig :=
  (if s.prf.figDay = day then SMap.getD s.prf.figs sel {} else {}).merge (figOf (s.dayRecs sel day))

/-- The STATUS of a SUMMARY record (R288): from the current records of the day's slots. -/
def summaryStatus (x : FbFig) (exit : Bool) : Nat :=
  let gap := stHas x.flags St.GAP
  let est := !gap && stHas x.flags St.ESTIMATED
  let edited := !gap && stHas x.flags St.EDITED
  let valid := !gap && !est && x.n != 0 && x.allValid
  let keep := x.flags &&& (St.POWER_FAIL ||| St.TIME_ADJ ||| St.REPEATED ||| St.CLOCK_DEV ||| St.DUP_SUPPRESSED ||| St.OVERFLOW ||| St.TAMPER ||| St.PHASE_SUSPECT ||| St.PROVISIONAL)
  keep ||| stIf gap St.GAP ||| stIf est St.ESTIMATED ||| stIf edited St.EDITED ||| stIf valid St.VALID ||| stIf exit St.SHORT

/-- The SUMMARY record of a channel's day (R269, R288). -/
def State.summaryRec (s : State) (sel day : Nat) (exit : Bool) : Rec :=
  let x := s.dayFig sel day
  { unit := s.unitAddr, node := sel % 65536, chan := sel / 65536, kind := 3, len := s.chanLen sel day, istart := day, status := summaryStatus x exit
    maxpos := (x.top.map (fun t => t.2 - day)).getD 0, value := (x.top.map (fun t => t.1)).getD 0, delta := x.sum }

/-- Files the SUMMARY records of a day, one per channel (R288). -/
def State.fileSummaries (s : State) (day : Nat) (exit : Bool) : State :=
  let s1 := s.enabledChans.foldl (fun (t : State) sel => t.fileMade (t.summaryRec sel day exit) (t.rd F.PLN_BND_PRIO)) s
  { s1 with prf := { s1.prf with progSeq := s1.jrn.seq } }

/-- Why profile task code must be in FALLBACK, if it must (R288): 1 SPACE, 2 UNAVAILABLE, 3 FORCED. DEDUCED, unsafe: log entry 80. -/
def State.fallbackCause (s : State) : Nat :=
  if s.on F.PRF_CTL_FB_FORCE then 3
  else if 4 ≤ s.rd F.IGT_STATE_MODE then 2
  else if s.rd F.IGT_FREE_PM < s.rd F.PRF_FB_TH then 1 else 0

/-- Enters FALLBACK (R288). -/
def State.enterFallback (s : State) (cause : Nat) : State :=
  let s1 := { s with prf := { s.prf with notKept := s.prf.notKept ++ [(s.gridNow, none)], fbDay := s.gridNow / 1440 * 1440, progSeq := s.jrn.seq } }
  (((s1.wr F.PRF_STATE_FALLBACK 1).wr F.PRF_STATE_CAUSE cause).sat F.PRF_FB_ENTRIES).raise Pg.PRF 1

/-- FALLBACK_ENTER (R288). -/
def execFallbackEnter (s : State) : Host.Outcome State Fault Refusal :=
  s.done (if s.on F.PRF_STATE_FALLBACK || s.fallbackCause = 0 then s else s.enterFallback s.fallbackCause)

/-- FALLBACK_EXIT (R288): free space has regained FB_TH + 10 with nothing forced; the SUMMARY records carry SHORT. -/
def execFallbackExit (s : State) : Host.Outcome State Fault Refusal :=
  s.done (if s.on F.PRF_STATE_FALLBACK && !s.on F.PRF_CTL_FB_FORCE && s.rd F.IGT_STATE_MODE < 4 && s.rd F.PRF_FB_TH + 10 ≤ s.rd F.IGT_FREE_PM then
      let s1 := s.fileSummaries s.prf.fbDay true
      let s2 := { s1 with prf := { s1.prf with notKept := s1.prf.notKept.map (fun x : Nat × Option Nat => (x.1, some (x.2.getD s.gridNow))) } }
      ((s2.wr F.PRF_STATE_FALLBACK 0).wr F.PRF_STATE_CAUSE 0).raise Pg.PRF 2
    else s)

/-- At a grid day's end in FALLBACK the day's SUMMARY records are filed (R288). -/
def State.fallbackDay (s : State) (m : Nat) : State :=
  if s.on F.PRF_STATE_FALLBACK && m % 1440 == 0 && decide (s.prf.fbDay + 1440 ≤ m) then
    let s1 := s.fileSummaries s.prf.fbDay false
    { s1 with prf := { s1.prf with fbDay := m } }
  else s

/-- The last slot whose retention counts for a record (R287): that of its segment, or an annex record's own. DESIGN CHOICE, unsafe: log entry 78. -/
def Rec.lastSlot (r : Rec) : Nat :=
  let l := lenMin r.len
  if r.annex then r.istart else (r.istart / (256 * l) + 1) * (256 * l) - l

/-- Segments and annex records whose last slot is past its retention are released (R287). -/
def State.releaseOld (s : State) (m : Nat) : State :=
  let days := s.rdIn F.PRF_RETAIN_D 1 4095
  { s with prf := { s.prf with
      recs := (s.prf.recs.map (fun e : Nat × List Rec => (e.1, e.2.filter (fun r => decide (m ≤ r.lastSlot + days * 1440))))).filter (fun e => !e.2.isEmpty)
      sums := s.prf.sums.filter (fun r => decide (m ≤ r.istart + days * 1440)) } }

/-! ## Time changes -/

/-- Profile task code acts on an OFFSET or STEP commit from `told` to `tnew` (R282 to R284). -/
def State.profileTimeChange (s : State) (told tnew : Nat) : State :=
  let mo := s.gridMin told
  let mn := s.gridMin tnew
  let back := decide (tnew < told)
  let dir := if back then St.LONG else St.SHORT
  let stays := s.fileStart mo == s.fileStart mn
  let s1 := match s.prf.filings.getLast? with
    | none => s
    | some f =>
      if stays then
        { s with prf := { s.prf with filings := s.prf.filings.map (fun g : Filing => if g.startC = f.startC then { g with status := g.status ||| St.TIME_ADJ ||| dir } else g) } }
      else
        let t := (s.closeFiling f 2 s.raw (St.TIME_ADJ ||| St.SHORT) true).2
        t.openFiling (t.fileStart mn) t.raw (St.TIME_ADJ ||| stIf (t.minTime (t.fileStart mn) != tnew) St.SHORT)
  if back then
    let x : SetBack := ⟨s1.raw, tnew, told, s1.jrn.seq⟩
    let s2 := if 4 ≤ s1.prf.spans.length then
        (({ s1 with prf := { s1.prf with spans := s1.prf.spans.drop 1 } }).sat F.PRF_SPAN_DROP).raise Pg.PRF 3
      else s1
    ({ s2 with prf := { s2.prf with spans := s2.prf.spans ++ [x], setBacks := s2.prf.setBacks ++ [(tnew, told)] } }).wr F.PRF_STATE_SPANS (s2.prf.spans.length + 1)
  else if told < tnew then { s1 with prf := { s1.prf with skips := s1.prf.skips ++ [(told, tnew)] } }
  else s1

/-- SETBACK_SPAN_RETIRE (R284): the spans retire whose end plus CLOSE_LAG filing intervals disciplined time has reached. -/
def execSetbackSpanRetire (s : State) : Host.Outcome State Fault Refusal :=
  let live := s.prf.spans.filter (fun x => decide (s.now < x.to_ + s.closeLag * s.fileLen s.gridNow * 60000000000))
  s.done (({ s with prf := { s.prf with spans := live } }).wr F.PRF_STATE_SPANS live.length)

/-! ## Power failure -/

/-- The close records of the cut record (R280, R309): a boundary close of each interval whose drain has not completed, and the KIND 1 close of the interval that contains the power-fail instant. Answers whether a boundary close is among them. -/
def State.cutCloses (s : State) (cpf : Nat) : List Byte × Bool × State :=
  let t := (s.convert cpf).1
  let s0 := match s.prf.filings.getLast? with
    | some f => if s.onRaster t && f.istart + f.len == s.gridMin t then s.openFiling (s.gridMin t) cpf 0 else s
    | none => s
  let s1 := (s0.filingFor cpf).2
  let fs := s1.prf.filings
  fs.foldl (fun (a : List Byte × Bool × State) f =>
    let next := (a.2.2.prf.filings.filter (fun g => decide (f.startC ≤ g.startC) && g.istart != f.istart)).head?
    match next with
    | some g =>
      let (b, u) := a.2.2.closeFiling f 0 g.startC 0 false
      (a.1 ++ b, true, u)
    | none =>
      let (b, u) := a.2.2.closeFiling f 1 cpf (St.POWER_FAIL ||| St.SHORT) false
      (a.1 ++ b, a.2.1, u)) ([], false, s1)

/-- Restoration (R280): the outage span's record, and the first filing interval with POWER_FAIL and SHORT. A first start, with no cut behind it, opens a plain interval. -/
def State.profileRestore (s : State) : State :=
  match s.prf.cutAt with
  | some c =>
    let a := (s.convert c).1
    let s1 := s.journal 2 (closeRecord 3 (s.fileStart (s.gridMin a)) St.POWER_FAIL c s.raw)
    let s2 := { s1 with prf := { s1.prf with cutAt := none, outages := s1.prf.outages ++ [(a, s1.now)] } }
    s2.openFiling (s2.fileStart s2.gridNow) s2.raw (St.POWER_FAIL ||| St.SHORT)
  | none => if s.prf.filings.isEmpty then s.openFiling (s.fileStart s.gridNow) s.raw 0 else s

/-! ## Segments (R285, R286) -/

/-- A quantity as a segment stores it: shifted by SCALE, or 0x8000_0000 where it does not fit. -/
def scaled (q : Int) (scale : Nat) : Option Nat :=
  let v := q / (2 ^ scale : Nat)
  if decide (-(2 ^ 31 : Int) ≤ v) && decide (v < 2 ^ 31) then some ((v % (2 ^ 32 : Nat)).toNat) else none

/-- A slot word (R285, R286): all ones where the slot is empty. -/
def slotWord (l : List Rec) (scale : Nat) : List Byte :=
  match currentOf l with
  | none => be 8 (2 ^ 64 - 1)
  | some r =>
    let flags := r.rev * 16 + b2n r.late * 8 + b2n r.span * 4 + b2n r.noacc * 2 + b2n (decide (1 < l.length))
    match scaled r.quantity scale with
    | some v => be 4 v ++ be 2 r.status ++ be 1 r.rules ++ be 1 flags
    | none => be 4 0x80000000 ++ be 2 (r.status ||| St.OVERFLOW) ++ be 1 r.rules ++ be 1 flags

/-- The register value before a slot (R286), by which the register value at a slot is the base plus the DELTAs up to it: from the reading of the oldest slot that holds one. 0 where no slot does. -/
def State.registerBase (s : State) (sel first : Nat) : Int :=
  let lo := slotKey s.unitAddr (sel % 65536) (sel / 65536) 0
  let l := (s.prf.recs.filter (fun e => decide (lo ≤ e.1) && decide (e.1 < lo + 2 ^ 32))).filterMap (fun e => currentOf e.2)
  let upTo := fun (m : Nat) => ((l.filter (fun r => decide (r.istart < m))).map (fun r => r.delta)).sum
  match l.find? (fun r => r.frame) with
  | none => 0
  | some r => r.value - r.delta - upTo r.istart + upTo first

/-- The 2,112 bytes of a segment whose first slot starts at a grid minute (R285). -/
def State.segmentBytes (s : State) (sel first : Nat) : List Byte :=
  let code := s.chanLen sel first
  let kind := s.chanKind sel
  let lists := (List.range 256).map (fun j => s.slotRecs (slotKey s.unitAddr (sel % 65536) (sel / 65536) (first + j * lenMin code)))
  let last := (lists.flatten.map (fun r => r.lseq)).foldl max 0
  let head := be 1 s.unitAddr ++ be 2 (sel % 65536) ++ be 1 (sel / 65536 * 32 + kind * 8 + code) ++ be 4 first ++
    beInt 8 (if kind = 1 then s.registerBase sel first else 0) ++ be 8 last ++ be 36 0
  let slots := (lists.map (fun l => slotWord l (s.rd (F.PRF_CH_CFG_SCALE sel)))).flatten
  head ++ be 4 (crc32 (head ++ slots)) ++ slots

/-! ## Reading and editing -/

/-- Does a seal cover a record (R333, R340): the same unit, the tree's START_C, and a LIDX among its leaves? -/
def sealCovers (bytes : List Byte) (r : Rec) : Bool :=
  field bytes 24 8 == r.startC && field bytes 4 1 % 64 == r.unit && decide (r.lidx < field bytes 52 4)

/-- Does a record read SEALED (R333): has its tree a journaled seal, or at a HEAD an accepted unit seal (R409)? -/
def State.isSealed (s : State) (r : Rec) : Bool := s.hlm.sealed.any (fun x => sealCovers x.bytes r) || s.hlm.unitKept.any (fun b => sealCovers b r)

/-- A record as every read path reports it (R333). -/
def State.reportBytes (s : State) (r : Rec) : List Byte := r.bytesWith (r.status ||| stIf (s.isSealed r) St.SEALED)

/-- Lies a slot in a FALLBACK span, so that it reads NOT_KEPT (R288)? -/
def State.notKept (s : State) (m : Nat) : Bool :=
  s.prf.notKept.any (fun x => decide (x.1 ≤ m) && (match x.2 with | some b => decide (m < b) | none => true))

/-- The record a request selects (R289): the current one, or the n-th annex record in ledger order; else the result code, 2 EMPTY, 3 NOT_KEPT or 4 NO_ANNEX. -/
def State.findRec (s : State) (key slot annex : Nat) : Rec ⊕ Nat :=
  let l := s.slotRecs (key * 2 ^ 32 + slot)
  if s.notKept slot then .inr 3
  else if annex = 0 then (match currentOf l with | some r => .inl r | none => .inr 2)
  else
    let others := match currentOf l with | some c => l.filter (fun r : Rec => r.lseq != c.lseq) | none => l
    match others[annex - 1]? with
    | some r => .inl r
    | none => .inr 4

/-- A write of PRF.Q_CTL (R289): a GO while BUSY is ignored. -/
def State.qCtlWrite (s : State) (v : Word) : State :=
  let s1 := s.wr F.PRF_Q_CTL_ANNEX (bits v 15 8)
  if bit v 31 && !s.on F.PRF_Q_CTL_BUSY then
    let key := chanKey (s.rd F.PRF_Q_KEY_UNIT) (s.rd F.PRF_Q_KEY_NODE) (s.rd F.PRF_Q_KEY_CH)
    ({ s1 with prf := { s1.prf with read := some ⟨key, s.rd F.PRF_Q_SLOT, bits v 15 8⟩ } }.wr F.PRF_Q_CTL_BUSY 1).wr F.PRF_Q_CTL_RES 0
  else s1

/-- PROFILE_READ (R289). -/
def execProfileRead (m : Master) (v : Word) (s : State) : Host.Outcome State Fault Refusal :=
  s.done (s.guarded m Pg.PRF 0xA8 (fun s => s.qCtlWrite v))

/-- Puts 32 record bytes into eight register words, byte 0 first. -/
def State.putWords (s : State) (f : Nat → Fld) (n : Nat) (b : List Byte) : State :=
  (List.range n).foldl (fun (t : State) w => t.wr (f w) (field b (4 * w) 4)) s

/-- A record read completes (R289); an uncorrectable read makes the slot NOT_KEPT (R376). -/
def State.readDone (s : State) (q : PrfRead) (unc : Bool) : State :=
  let s0 := ({ s with prf := { s.prf with read := none } }).wr F.PRF_Q_CTL_BUSY 0
  let s1 := if unc then s0.wr F.PRF_Q_CTL_RES 3
    else match s0.findRec q.key q.slot q.annex with
      | .inl r => (s0.putWords F.PRF_Q_DATA 8 (s0.reportBytes r)).wr F.PRF_Q_CTL_RES 1
      | .inr c => s0.wr F.PRF_Q_CTL_RES c
  s1.raise Pg.PRF 6

/-- PROFILE_READ_DONE (R289). -/
def execProfileReadDone (unc : Bool) (s : State) : Host.Outcome State Fault Refusal :=
  s.done (match s.prf.read with
    | some q => s.readDone q unc
    | none => s)

/-- The record of an edit (R289): for a REGISTER channel the value is the DELTA, and VALUE stays the current record's. DEDUCED, unsafe: log entry 80. -/
def State.editRec (s : State) (sel slot : Nat) (v : Int) : Rec :=
  let cur := s.current (slotKey s.unitAddr (sel % 65536) (sel / 65536) slot)
  let kind := s.chanKind sel
  { unit := s.unitAddr, node := sel % 65536, chan := sel / 65536, kind := kind, len := s.chanLen sel slot, istart := slot
    status := St.EDITED ||| stIf (s.inSetBack slot (lenMin (s.chanLen sel slot)) || s.inSkip slot (lenMin (s.chanLen sel slot))) St.TIME_ADJ
    value := if kind = 1 then (cur.map (fun r => r.value)).getD 0 else v, delta := if kind = 1 then v else 0 }

/-- A write of PRF.E_CTL (R289): refused for a chain unit's record at the HEAD, in FALLBACK, for a slot that is not on the channel's grid, and where nothing is filed any more (R540). -/
def State.eCtlWrite (s : State) (v : Word) : State :=
  if !bit v 31 then s
  else
    let sel := chanSel (s.rd F.PRF_Q_KEY_NODE) (s.rd F.PRF_Q_KEY_CH)
    let slot := s.rd F.PRF_Q_SLOT
    let done := fun (t : State) r => (t.wr F.PRF_E_CTL_RES r).raise Pg.PRF 6
    if s.rd F.PRF_Q_KEY_UNIT != s.unitAddr || s.on F.PRF_STATE_FALLBACK || s.on F.LDG_SUCC_STAT_EXPORTED || s.slotOf sel slot != slot then done s 3
    else if s.notKept slot then done s 2
    else done (s.fileMade (s.editRec sel slot (signed64 (s.rd F.PRF_E_VAL_LO) (s.rd F.PRF_E_VAL_HI))) (s.rd F.PLN_BND_PRIO)) 1

/-- PROFILE_EDIT (R289). -/
def execProfileEdit (m : Master) (v : Word) (s : State) : Host.Outcome State Fault Refusal :=
  s.done (s.guarded m Pg.PRF 0xD8 (fun s => s.eCtlWrite v))

/-! ## Channel registers -/

/-- A write of PRF.CH_CFG (R268, R291): a new LEN acts from the next boundary whose grid minute is a multiple of 60. DEDUCED, unsafe: log entry 79. -/
def State.chCfgWrite (s : State) (v : Word) : State :=
  let sel := s.rd F.PRF_CH_SEL
  let c := s.chanSt sel
  let s1 := if bits v 6 4 = s.rd (F.PRF_CH_CFG_LEN sel) then s
    else s.setChan sel { c with oldLen := s.chanLen sel s.gridNow, lenFrom := s.nextHour }
  [F.PRF_CH_CFG_EN sel, F.PRF_CH_CFG_KIND sel, F.PRF_CH_CFG_LEN sel, F.PRF_CH_CFG_RS sel, F.PRF_CH_CFG_SUM_MASK sel, F.PRF_CH_CFG_SCALE sel].foldl
    (fun (t : State) f => t.wr f (f.ofWord v)) s1

/-- A write of PRF.FILE_LEN (R268). -/
def State.fileLenWrite (s : State) (v : Word) : State :=
  if bits v 2 0 = s.rd F.PRF_FILE_LEN then s
  else ({ s with prf := { s.prf with oldFile := (if s.gridNow < s.prf.fileFrom then s.prf.oldFile else s.rd F.PRF_FILE_LEN), fileFrom := s.nextHour } }).wr F.PRF_FILE_LEN (bits v 2 0)

end Sys2Proof.Machine
end

