-- ==== Sys2Proof/Machine/SerialLink.lean ====
section
/-!
DEFINITION. The serial links (R396 to R401, R405, R419): frames with their MIC and FCS, sequence order, acknowledgement, credits, retransmission and messages, for CHN_UP (0), CHN_DN (1) and the mirror link (2).
-/
namespace Sys2Proof.Machine

/-- A serial link. -/
def State.slink (s : State) (l : Nat) : SLink := SMap.getD s.chn.links l {}

/-- Sets a serial link. -/
def State.setSlink (s : State) (l : Nat) (x : SLink) : State := { s with chn := { s.chn with links := SMap.set s.chn.links l x } }

/-- The status field of a link. -/
def linkStat (l : Nat) : Fld := if l = 0 then F.CHN_STAT_UP else if l = 1 then F.CHN_STAT_DN else F.MIR_STAT_LINK

/-- Is a link UP? -/
def State.linkIsUp (s : State) (l : Nat) : Bool := s.rd (linkStat l) == 2

/-- Is a link enabled (R396, R418, R443)? -/
def State.linkEn (s : State) (l : Nat) : Bool :=
  if l = 0 then s.on F.CHN_CTL_EN_UP else if l = 1 then s.on F.CHN_CTL_EN_DN else s.on F.MIR_CTL_EN

/-- Bytes of the longest frame of a link. -/
def State.linkMtu (s : State) (l : Nat) : Nat := if l = 2 then s.rdIn F.MIR_MTU 512 65472 else s.rdIn F.CHN_MTU 512 65472

/-- Credits that a receiver grants per class at UP (R400). -/
def State.linkCred (s : State) (l : Nat) : Nat := if l = 2 then s.rdIn F.MIR_RX_CRED 4 255 else s.rdIn F.CHN_RX_CRED 4 255

/-- The slot of the MIC key (R452). -/
def linkKeySlot (l : Nat) : Nat := if l = 2 then 9 else 8

/-- The number by which this unit names itself on a link: its chain address, or its pair slot (R397, R419). -/
def State.linkSelf (s : State) (l : Nat) : Nat :=
  if l = 2 then (if s.pins.pairSel = 2 then 1 else 0) else if s.role = 2 then 0 else s.rd F.CHN_ADDR

/-- The counter of a link's wrong MICs. -/
def linkMicFail (l : Nat) : Fld := if l = 2 then F.MIR_MIC_FAIL else F.CHN_MIC_FAIL

/-- Does a frame need a credit (R400, R419)? -/
def creditFrame (l typ : Nat) : Bool := if l = 2 then typ != 1 else typ == 0

/-- The credit class of a frame (R397, R400, R419). -/
def LinkFrame.cls (f : LinkFrame) (l : Nat) : Nat := if l = 2 then (if f.typ = 9 || f.typ = 10 then 1 else 0) else f.flags / 8 % 2

/-- The IV of a frame's MIC (R397, R419). -/
def linkIv (l tx down seq : Nat) : List Byte := be 1 (if l = 2 then 2 + tx else down) ++ be 1 tx ++ be 6 0 ++ be 4 seq

/-- A frame up to the end of its body (R397). -/
def LinkFrame.head (f : LinkFrame) (seq : Nat) : List Byte :=
  be 1 (16 + f.typ) ++ be 1 f.flags ++ be 1 f.src ++ be 1 f.dst ++ be 4 seq ++ be 2 (36 + f.body.length) ++ be 2 f.msgid ++ be 2 f.frag ++ be 2 0 ++ f.body

/-- Puts a frame on a lane with its SEQ, MIC and FCS (R397); a key slot that refuses counts as a MIC failure (R456). -/
def State.linkPut (s : State) (l seq : Nat) (f : LinkFrame) : State :=
  let (k, t) := s.invoke (linkKeySlot l) Mst.CHN false Use.LINK_MIC
  match k with
  | none => t.sat (linkMicFail l)
  | some key =>
    let h := f.head seq
    let m := h ++ (Config.gmac key (linkIv l (s.linkSelf l) (f.flags / 128) seq) h ++ be 16 0).take 16
    let t1 := t.emit (.lane l (m ++ be 4 (crc32 m)))
    if l = 2 then t1 else t1.wrap F.CHN_TX_FRAMES

/-- Sends a frame now, under the link's next SEQ; one that needs a credit is held until it is acknowledged (R399). -/
def State.linkNow (s : State) (l : Nat) (f : LinkFrame) : State :=
  let x := s.slink l
  let seq := (x.txSeq + 1) % 2 ^ 32
  let x1 := { x with txSeq := seq }
  let x2 := if creditFrame l f.typ then
      (if f.cls l = 0 then { x1 with sent := x1.sent ++ [(seq, f)], used0 := x1.used0 + 1 } else { x1 with sent := x1.sent ++ [(seq, f)], used1 := x1.used1 + 1 })
    else x1
  (s.setSlink l x2).linkPut l seq f

/-- Credits left of a class: what the peer has granted, mod 65,536, less what is used (R399, R400). -/
def SLink.credit (x : SLink) (c : Nat) : Nat :=
  if c = 0 then (x.cred0 + 65536 - x.used0 % 65536) % 65536 else (x.cred1 + 65536 - x.used1 % 65536) % 65536

/-- Sends the frames that wait while there are credits, class 0 first (R400). -/
def State.linkDrain (s : State) (l : Nat) : Nat → State
  | 0 => s
  | fuel + 1 =>
    let x := s.slink l
    match x.wait0, x.wait1 with
    | f :: r, w1 =>
      if 0 < x.credit 0 then ((s.setSlink l { x with wait0 := r }).linkNow l f).linkDrain l fuel
      else match w1 with
        | g :: r1 => if 0 < x.credit 1 then ((s.setSlink l { x with wait1 := r1 }).linkNow l g).linkDrain l fuel else s
        | [] => s
    | [], g :: r1 => if 0 < x.credit 1 then ((s.setSlink l { x with wait1 := r1 }).linkNow l g).linkDrain l fuel else s
    | [], [] => s

/-- Frames that wait on a link. -/
def SLink.waiting (x : SLink) : Nat := x.wait0.length + x.wait1.length

/-- Sends a frame on a link that is UP: at once, or as soon as a credit of its class is there (R400). -/
def State.linkSend (s : State) (l : Nat) (f : LinkFrame) : State :=
  if !s.linkIsUp l then s
  else if !creditFrame l f.typ then s.linkNow l f
  else
    let x := s.slink l
    let x1 := if f.cls l = 0 then { x with wait0 := x.wait0 ++ [f] } else { x with wait1 := x.wait1 ++ [f] }
    (s.setSlink l x1).linkDrain l x1.waiting

/-! ## Reception -/

/-- The frame that bytes spell, with its SEQ; none where the length or the FCS is wrong (R397, R398). -/
def linkParse (b : List Byte) : Option (Nat × LinkFrame) :=
  let n := b.length
  if n < 36 || field b 8 2 != n || field b (n - 4) 4 != crc32 (b.take (n - 4)) then none
  else some (field b 4 4, { typ := field b 0 1 % 16, flags := field b 1 1, src := field b 2 1, dst := field b 3 1, msgid := field b 10 2, frag := field b 12 2
                            body := (b.take (n - 20)).drop 16 })

/-- Is a SEQ the next in order (R398)? After a link has come UP the peer goes on from the value it last held, so the first frame sets the order (R401). -/
def SLink.inOrder (x : SLink) (seq : Nat) : Bool :=
  match x.rxSeq with
  | some r => seq == (r + 1) % 2 ^ 32
  | none => decide (x.rxHeld < seq)

/-- Commits a received frame to the link's queue (R222, R398); false where the Crucible takes none. -/
def State.linkCommit (s : State) (l : Nat) (b : List Byte) : Bool × State :=
  let w := if l = 2 then 68 else 64 + l
  let before := (s.queue w).pkts
  let t := s.packetStart w w
  if (SMap.find? t.cru.ctx w).isSome then
    let t1 := t.packetCommit w b s.raw s.tim.cur.qual.toNat 0 0 []
    (decide (before < (t1.queue w).pkts), t1)
  else (false, t.dropCtx w)

/-- Grants a credit for a committed frame, or withholds it under back-pressure (R400, R419). -/
def State.linkGrant (s : State) (l c : Nat) : State :=
  let x := s.slink l
  let held := s.classBp (writerClass (if l = 2 then 68 else 64)) && (l != 2 || c == 1)
  s.setSlink l (
    if c = 0 then (if held then { x with held0 := x.held0 + 1 } else { x with grant0 := (x.grant0 + 1) % 65536 })
    else (if held then { x with held1 := x.held1 + 1 } else { x with grant1 := (x.grant1 + 1) % 65536 }))

/-- Is the MIC of a frame right, under the link key as the link controller or, for DATA, the engine that acts for Gate invokes it (R398, R455)? DESIGN CHOICE, unsafe: log entry 97. -/
def State.linkMicOk (s : State) (l : Nat) (b : List Byte) (f : LinkFrame) (seq : Nat) : Bool × State :=
  let n := b.length
  let eng := l != 2 && f.typ == 0
  let (k, t) := s.invoke (linkKeySlot l) (if eng then Mst.ENG else Mst.CHN) eng Use.LINK_MIC
  -- the transmitter of this hop: on the mirror link and for a frame of the link's own types its SRC, for DATA the neighbour toward the side the frame comes from
  let self := s.linkSelf l
  let tx := if l = 2 || f.typ != 0 then f.src % 64 else if l = 0 then self - 1 else self + 1
  match k with
  | none => (false, t)
  | some key => ((Config.gmac key (linkIv l tx (f.flags / 128) seq) (b.take (n - 20)) ++ be 16 0).take 16 == (b.drop (n - 20)).take 16, t)

/-- A frame arrives on a link (R398, R399): dropped, or committed in order; then its MIC, and for DATA the window of the link entry (R191, R196). Answers the frame to act on. DESIGN CHOICE, unsafe: log entry 97. -/
def State.linkRx (s : State) (l : Nat) (b : List Byte) : Option LinkFrame × State :=
  let drop (t : State) : Option LinkFrame × State := (none, if l = 2 then t else t.sat F.CHN_RX_DROP)
  let dropped (t : State) : Option LinkFrame × State := drop (if creditFrame l (field b 0 1 % 16) && t.domOn Dom.PKT then t.countRewind else t)
  match linkParse b with
  | none => dropped s
  | some (seq, f) =>
    let x := s.slink l
    if !x.inOrder seq then dropped s
    else
      let (ok, s1) := if creditFrame l f.typ then s.linkCommit l b else (true, s)
      if !ok then drop s1
      else
        let y := s1.slink l
        let s2 := s1.setSlink l { y with rxSeq := some seq, rxHeld := seq, changed := true }
        let s3 := if creditFrame l f.typ then s2.linkGrant l (f.cls l) else s2
        let s4 := if l = 2 then s3 else s3.wrap F.CHN_RX_FRAMES
        let (good, s5) := s4.linkMicOk l b f seq
        if !good then (none, s5.sat (linkMicFail l))
        else if field b 0 1 / 16 != 1 then (none, s5)
        else if l != 2 && f.typ = 0 then
          (match s5.linkWindow (s5.snapOf l (some (0x10000 + l)) false) (0x10000 + l) seq with
            | (.accept, t) => (some f, t)
            | (_, t) => (none, t))
        else (some f, s5)

/-- An acknowledgement and the peer's credit counts (R399). -/
def State.linkCtl (s : State) (l ack c0 c1 : Nat) : State :=
  let x := s.slink l
  let x1 := { x with sent := x.sent.filter (fun e => decide (ack < e.1)), cred0 := c0 % 65536, cred1 := c1 % 65536 }
  (s.setSlink l x1).linkDrain l x1.waiting

/-- Sends a LINKCTL frame (R399). -/
def State.linkCtlSend (s : State) (l : Nat) : State :=
  let x := s.slink l
  let body := be 4 ((x.rxSeq).getD x.rxHeld) ++ be 2 x.grant0 ++ be 2 x.grant1
  (s.setSlink l { x with changed := false }).linkSend l { typ := 1, flags := if l = 1 then 128 else 0, src := s.linkSelf l, dst := 0, body := body }

/-- A link comes UP (R400, R401, R419): each receiver grants its initial credits. -/
def State.serialUp (s : State) (l : Nat) : State :=
  let x := s.slink l
  let c := s.linkCred l
  (s.setSlink l { x with rxSeq := none, sent := [], wait0 := [], wait1 := [], cred0 := 0, cred1 := 0, used0 := 0, used1 := 0, grant0 := c, grant1 := c
                         held0 := 0, held1 := 0, changed := true }).wr (linkStat l) 2

/-- A link goes DOWN: its held frames are released (R401). -/
def State.serialDown (s : State) (l : Nat) : State :=
  let x := s.slink l
  (s.setSlink l { x with sent := [], wait0 := [], wait1 := [] }).wr (linkStat l) 0

/-! ## Messages -/

/-- Sends frame bodies as one message (R405): FIRST and LAST, FRAG rising from 0, one MSGID. -/
def State.sendBodies (s : State) (l dst : Nat) (down bcast : Bool) (cls : Nat) (bodies : List (List Byte)) : State :=
  let id := s.chn.msgId
  let n := bodies.length
  let s1 := { s with chn := { s.chn with msgId := (id + 1) % 65536 } }
  (bodies.mapIdx (fun i b => (i, b))).foldl (fun (t : State) (e : Nat × List Byte) =>
    t.linkSend l { typ := 0, flags := 128 * b2n down + 64 * b2n (e.1 == 0) + 32 * b2n (e.1 + 1 == n) + 16 * b2n bcast + 8 * cls
                   src := s.linkSelf l, dst := dst, msgid := id, frag := e.1, body := e.2 }) s1

/-- Sends a message (R405): MTYPE, three zero bytes, the count, and the body. -/
def State.sendMsg (s : State) (l dst : Nat) (down bcast : Bool) (mtype cls count : Nat) (body : List Byte) : State :=
  s.sendBodies l dst down bcast cls (pieces (s.linkMtu l - 36) (body.length + 8) (be 1 mtype ++ be 3 0 ++ be 4 count ++ body))

/-- Sends a message from the HEAD to a unit. -/
def State.toUnit (s : State) (u mtype count : Nat) (body : List Byte) : State := s.sendMsg 1 u true false mtype (if mtype = 7 then 1 else 0) count body

/-- Sends a message from a unit to the HEAD. -/
def State.toHead (s : State) (mtype count : Nat) (body : List Byte) : State := s.sendMsg 0 0 false false mtype (if mtype = 7 || mtype = 1 then 1 else 0) count body

/-! ## The pair -/

/-- The APPLIED that MIR shows. -/
def State.mirApplied (s : State) : Nat := s.rd F.MIR_APPLIED_HI * 2 ^ 32 + s.rd F.MIR_APPLIED_LO

/-- Need the unit wait for the partner before what a record makes durable counts (R335, R384, R440)? -/
def State.partnerHas (s : State) (seq : Nat) : Bool := !s.partnered || s.on F.MIR_STAT_SOLO || decide (seq ≤ s.mirApplied)

end Sys2Proof.Machine
end

