-- ==== Sys2Proof/Machine/Hallmark.lean ====
section
/-!
DEFINITION. Hallmark (chapter 12): sealing an interval, releasing a seal, re-seals, inclusion proofs, and the hash and signature operations of host submissions.
-/
namespace Sys2Proof.Machine

/-! ## Seals -/

/-- The 64-bit value of a pair of register words. -/
def State.rd64 (s : State) (lo hi : Fld) : Nat := s.rd lo + 2 ^ 32 * s.rd hi

/-- Writes a 64-bit value into a pair of register words. -/
def State.wr64 (s : State) (lo hi : Fld) (v : Nat) : State := (s.wr lo v).wr hi (v / 2 ^ 32)

/-- HLM.SEQ: the next unit-seal SEQ. -/
def State.sealSeq (s : State) : Nat := s.rd64 F.HLM_SEQ_LO F.HLM_SEQ_HI

/-- The digest of the last journaled unit seal. -/
def State.lastDigest (s : State) : List Byte := (List.range 12).flatMap (fun w => be 4 (s.rd (F.HLM_LAST_DIGEST w)))

/-- What a seal header is made from (R330). -/
structure SealHead where
  kind : Nat
  flags : Nat
  unit : Nat
  flen : Nat
  part : Nat
  seq : Nat
  istart : Nat
  cstatus : Nat
  ckind : Nat
  qual : Nat
  startC : Nat
  endC : Nat
  tstart : Nat
  restart : Nat
  nleaf : Nat
  first : Nat
  last : Nat
  root : List Byte
  prev : List Byte
  keyId : List Byte
  fstartC : Nat
  deriving DecidableEq, Repr

/-- The 192-byte header of a seal (R330). -/
def SealHead.bytes (h : SealHead) : List Byte :=
  be 2 1 ++ be 1 h.kind ++ be 1 h.flags ++ be 1 h.unit ++ be 1 h.flen ++ be 2 h.part ++ be 8 h.seq ++ be 4 h.istart ++ be 2 h.cstatus ++ be 1 h.ckind ++
    be 1 h.qual ++ be 8 h.startC ++ be 8 h.endC ++ be 8 h.tstart ++ be 2 h.restart ++ be 2 0 ++ be 4 h.nleaf ++ be 8 h.first ++ be 8 h.last ++
    (h.root ++ be 48 0).take 48 ++ (h.prev ++ be 48 0).take 48 ++ (h.keyId ++ be 4 0).take 4 ++ be 8 h.fstartC ++ be 12 0

/-- The digest of a seal (R330): SHA-384 over its header. -/
def sealDigest (sealB : List Byte) : List Byte := Config.sha384 (sealB.take 192)

/-- The canonical records of a tree in the journal, in ledger order (R334): those whose START_C is the tree's. -/
def State.treeRecs (s : State) (startC : Nat) : List (List Byte) :=
  ((s.jrn.pages.flatten ++ s.jrn.tail).filter (fun j => j.kind == 1 && (s.role != 2 || field j.body 0 1 % 64 == 0) && field j.body 96 8 == startC)).map (fun j => j.body.take 85)

/-- The leaf hashes of a closed tree: its table, or the table rebuilt from the journal (R334); none while T6 tasks of the tree are still to end (R328). -/
def State.treeLeaves (s : State) (t : Tree) : Option (Bool × List (List Byte)) :=
  if !t.dropped && !t.rebuilt && t.leaves.length == t.nleaf then some (false, t.leaves.map (fun e => e.2))
  else if s.pln.descs.any (fun e => e.2.kind == 5 && (match e.2.record with | some r => r.startC == t.startC | none => false)) then none
  else some (true, (s.treeRecs t.startC).map leafHash)

/-- Makes the seal of a closed tree (R328, R330, R332). -/
def State.makeSeal (s : State) (t : Tree) (c : TreeClose) (rebuilt : Bool) (leaves : List (List Byte)) (key : List Byte) : State :=
  let n := leaves.length
  let h : SealHead := {
    kind := 0, flags := b2n c.more + 2 * b2n rebuilt + 16 * b2n (n == 0), unit := s.unitAddr, flen := t.flen, part := t.part, seq := s.sealSeq
    istart := t.istart, cstatus := c.cstatus, ckind := c.ckind, qual := t.qual, startC := t.startC, endC := c.endC, tstart := t.tstart, restart := t.restart
    nleaf := n, first := if n = 0 then 0 else t.first, last := if n = 0 then 0 else t.last, root := treeRoot leaves, prev := s.lastDigest
    keyId := keyId (Config.pubKey key), fstartC := t.fstartC }
  let sealB := h.bytes ++ (Config.ecdsaSign key h.bytes ++ be 96 0).take 96
  let s1 := s.compress ((if n = 0 then 0 else n - 1) + (if rebuilt then n else 0) + 2)
  let s2 := s1.journal 5 sealB
  let x : Sealed := { bytes := sealB, seq := s.sealSeq, startC := t.startC, istart := t.istart, leaves := leaves, jseq := s2.jrn.seq, released := false }
  let s3 := { s2 with hlm := { s2.hlm with
      trees := s2.hlm.trees.filter (fun u => !(u.startC == t.startC && u.close.isSome))
      sealed := s2.hlm.sealed ++ [x], due := if s2.role = 2 then s2.hlm.due ++ [sealB] else s2.hlm.due } }
  let s4 := ((s3.wr64 F.HLM_SEQ_LO F.HLM_SEQ_HI (s.sealSeq + 1)).putWords F.HLM_LAST_DIGEST 12 (sealDigest sealB)).wrap F.HLM_SEALS
  let s5 := if c.more then s4.sat F.HLM_PARTS else s4
  let s6 := if rebuilt then (s5.sat F.HLM_REBUILT).raise Pg.HLM 6 else s5
  ((s6.wrap F.PKE_SIGNS).raise Pg.HLM 0).hlmSync

/-- Frames that fill a batch (R407): the message header and the seal with as many whole records as fit, then whole records. -/
def batchBodies (room : Nat) (sealB : List Byte) (recs : List (List Byte)) : List (List Byte) :=
  let n0 := (room - 296) / 85
  let k := max 1 (room / 85)
  (be 1 1 ++ be 3 0 ++ be 4 recs.length ++ sealB ++ (recs.take n0).flatten) ::
    (if recs.length ≤ n0 then [] else pieces (85 * k) recs.length (recs.drop n0).flatten)

/-- The records of a released seal as its batch carries them (R407): in LIDX order, each with STATUS bit 14 at 1. -/
def State.batchRecs (s : State) (x : Sealed) : List (List Byte) :=
  (s.treeRecs x.startC).map (fun b => b.take 8 ++ be 2 (field b 8 2 ||| St.SEALED) ++ b.drop 10)

/-- Sends the batch of a seal to the HEAD (R407, R408). -/
def State.sendBatch (s : State) (seq : Nat) : State :=
  match s.hlm.sealed.find? (fun x => x.seq == seq) with
  | some x => s.sendBodies 0 0 false false 1 (batchBodies (s.linkMtu 0 - 36) x.bytes (s.batchRecs x))
  | none => s

/-- Sends released batches in SEQ order, at most BATCH_INFL unacknowledged (R408); none while the address is not accepted (R403). -/
def State.sendBatches (s : State) : Nat → State
  | 0 => s
  | fuel + 1 =>
    if s.role != 1 || !s.linkIsUp 0 || s.on F.CHN_STAT_ADDR_CHANGED || !s.chn.hasAddr then s
    else
      match s.chn.due with
      | [] => s
      | q :: r =>
        if s.chn.inFlight.length < s.rdIn F.CHN_BATCH_INFL 1 8 then
          (({ s with chn := { s.chn with due := r, inFlight := s.chn.inFlight ++ [q] } }).sendBatch q).sendBatches fuel
        else s

/-- Releases the oldest seal not yet released, once the partner has its record (R328, R335, R440). -/
def State.releaseSeal (s : State) : State :=
  match s.hlm.sealed.find? (fun x => !x.released) with
  | none => s
  | some x =>
    if !s.partnerHas x.jseq then s
    else
      let s1 := { s with hlm := { s.hlm with sealed := s.hlm.sealed.map (fun y : Sealed => if y.seq = x.seq then { y with released := true } else y) } }
      if s.role = 1 then ({ s1 with chn := { s1.chn with due := s1.chn.due ++ [x.seq] } }).sendBatches 8 else s1

/-- SEAL_INTERVAL (R328, R329): the oldest tree is sealed once it is closed, and none before it; none in HOLDUP (R334), without the key slot's leave, or while the journal takes no record. -/
def State.sealInterval (s : State) : State :=
  match s.hlm.trees.head? with
  | none => s
  | some t =>
    match t.close, s.treeLeaves t with
    | some c, some (rebuilt, leaves) =>
      if !s.jrnRoom then s
      else
        let (k, s1) := s.invoke (s.rd F.HLM_SIGN_SLOT) Mst.ENG true Use.SEAL_SIGN
        match k with
        | none => (s1.sat F.HLM_SIGN_DENY).raise Pg.HLM 1
        | some key =>
          let s2 := s1.makeSeal t c rebuilt leaves key
          if s2.partnered then s2 else s2.releaseSeal
    | _, _ => s

/-- SEAL_INTERVAL (R328). -/
def execSealInterval (s : State) : Host.Outcome State Fault Refusal :=
  s.done (if s.domOn Dom.PKT && s.domOn Dom.SEC && s.working then s.sealInterval else s)

/-- SEAL_RELEASE (R335). -/
def execSealRelease (s : State) : Host.Outcome State Fault Refusal := s.done s.releaseSeal

/-! ## Re-seals -/

/-- FSTART_C of a seal. -/
def sealFstart (b : List Byte) : Nat := field b 172 8

/-- The own seals of the oldest filing interval without a re-seal, once its last part is among them (R338). -/
def State.resealDue (s : State) : Option (List (List Byte) × List Byte) :=
  match s.hlm.due with
  | [] => none
  | b :: _ =>
    let parts := s.hlm.due.filter (fun x => sealFstart x == sealFstart b)
    (parts.find? (fun x => !(field x 3 1).testBit 0)).map (fun last => (parts, last))

/-- Has a unit delivered its last part for an interval (R35)? One whose batch failed three times and is marked GAP (R36) counts as having delivered it. DESIGN CHOICE, unsafe: log entry 86. -/
def State.unitDelivered (s : State) (istart u : Nat) : Bool :=
  s.hlm.unitSeals.any (fun x => x.unit == u && !x.late && field x.bytes 16 4 == istart && (x.bad || !(field x.bytes 3 1).testBit 0))

/-- The chain units that are enumerated, the HEAD left out. -/
def State.chainUnits (s : State) : List Nat := (List.range (s.rd F.CHN_UNITS - 1)).map (fun i => i + 1)

/-- A re-seal leaf (R338). -/
def resealLeaf (unit lflags istart part : Nat) (digest : List Byte) : List Byte := be 1 unit ++ be 1 lflags ++ be 4 istart ++ be 2 part ++ (digest ++ be 48 0).take 48

/-- The leaf of a unit seal. -/
def UnitSeal.leaf (x : UnitSeal) : List Byte :=
  resealLeaf x.unit (2 * b2n x.late + 4 * b2n x.bad) (field x.bytes 16 4) (field x.bytes 6 2) (if x.bad then be 48 0 else sealDigest x.bytes)

/-- Puts a leaf in its place, by unit address and then by part (R338). -/
def insertLeaf (l : List (List Byte)) (x : List Byte) : List (List Byte) :=
  match l with
  | [] => [x]
  | y :: r => if field x 0 1 * 65536 + field x 6 2 < field y 0 1 * 65536 + field y 6 2 then x :: y :: r else y :: insertLeaf r x

/-- Makes the re-seal of the oldest own interval without one (R338). DESIGN CHOICE, unsafe: log entry 86. -/
def State.makeReseal (s : State) (parts : List (List Byte)) (last : List Byte) (key : List Byte) : State :=
  let istart := field last 16 4
  let own := parts.map (fun b => resealLeaf 0 0 (field b 16 4) (field b 6 2) (sealDigest b))
  let missing := (s.chainUnits.filter (fun u => !s.hlm.unitSeals.any (fun x => x.unit == u && !x.late && field x.bytes 16 4 == istart))).map
    (fun u => resealLeaf u 1 istart 0 (be 48 0))
  let mine := s.hlm.unitSeals.filter (fun x => x.late || field x.bytes 16 4 == istart)
  let room := s.partMax - own.length - missing.length
  let taken := mine.take room
  let excess := (mine.drop room).map (fun x : UnitSeal => { x with late := true })
  let leaves := (own ++ missing ++ taken.map UnitSeal.leaf).foldl insertLeaf []
  let seq := s.rd64 F.HLM_RSEQ_LO F.HLM_RSEQ_HI
  let (t, _, q) := s.convert (field last 24 8)
  let h : SealHead := {
    kind := 1, flags := 4 * b2n (!missing.isEmpty) + 8 * b2n (taken.any (fun x => x.late)), unit := 0, flen := field last 5 1, part := 0, seq := seq
    istart := istart, cstatus := field last 20 2, ckind := field last 22 1, qual := q.toNat, startC := field last 24 8, endC := field last 32 8, tstart := t
    restart := field last 48 2, nleaf := leaves.length, first := s.freeVal (2 ^ 64), last := s.tookFree.freeVal (2 ^ 64), root := treeRoot (leaves.map leafHash)
    prev := s.hlm.resealDigest, keyId := keyId (Config.pubKey key), fstartC := sealFstart last }
  let sealB := h.bytes ++ (Config.ecdsaSign key h.bytes ++ be 96 0).take 96
  let s1 := (s.tookFree.tookFree.compress (2 * leaves.length + 1)).journal 5 sealB
  let made : ReSeal := ⟨sealB, istart, leaves⟩
  let rest := s1.hlm.unitSeals.filter (fun x => !(x.late || field x.bytes 16 4 == istart)) ++ excess
  let s2 := { s1 with hlm := { s1.hlm with
      due := s1.hlm.due.filter (fun x => sealFstart x != sealFstart last), unitSeals := rest
      resealDigest := sealDigest sealB, reseals := s1.hlm.reseals ++ [made] } }
  (((s2.wr64 F.HLM_RSEQ_LO F.HLM_RSEQ_HI (seq + 1)).wrap F.HLM_RESEALS).wrap F.PKE_SIGNS).raise Pg.HLM 4

/-- The re-seal of the oldest due interval, if it is due and may be signed (R329, R338). -/
def State.reseal (s : State) (graceOver : Bool) : State :=
  if s.role != 2 || !s.domOn Dom.PKT || !s.domOn Dom.SEC || !s.working || !s.jrnRoom then s
  else
    match s.resealDue with
    | none => s
    | some (parts, last) =>
      if graceOver || s.chainUnits.all (fun u => s.unitDelivered (field last 16 4) u) then
        let (k, s1) := s.invoke (s.rd F.HLM_SIGN_SLOT) Mst.ENG true Use.SEAL_SIGN
        match k with
        | none => (s1.sat F.HLM_SIGN_DENY).raise Pg.HLM 1
        | some key => s1.makeReseal parts last key
      else s

/-- RESEAL (R338): every enumerated unit has delivered its seal. -/
def execReseal (s : State) : Host.Outcome State Fault Refusal := s.done (s.reseal false)

/-- RESEAL_GRACE_EXPIRE (R338). -/
def execResealGraceExpire (s : State) : Host.Outcome State Fault Refusal := s.done (s.reseal true)

/-! ## Proofs -/

/-- A proof without its extension (R339), EXT in byte 3. -/
def proofBytes (r : Rec) (sealB : List Byte) (leaves : List (List Byte)) (ext : Bool) : List Byte :=
  let path := auditPath 22 r.lidx leaves
  be 2 1 ++ be 1 path.length ++ be 1 (b2n ext) ++ be 4 r.lidx ++ r.canonical ++ be 3 0 ++ sealB ++ path.flatten

/-- The re-seal extension of a seal (R339); none where no re-seal holds it yet. -/
def State.proofExt (s : State) (sealB : List Byte) : Option (List Byte) :=
  let d := sealDigest sealB
  (s.hlm.reseals.find? (fun x => x.leaves.any (fun l => l.drop 8 == d))).map (fun x =>
    let i := x.leaves.findIdx (fun l => l.drop 8 == d)
    let path := auditPath 22 i (x.leaves.map leafHash)
    (x.leaves.getD i []) ++ x.bytes ++ be 1 path.length ++ be 3 0 ++ path.flatten)

/-- Has the retention of an interval's tree ended (R340)? -/
def State.treeExpired (s : State) (istart flen : Nat) : Bool := decide (istart + lenMin flen + s.rdIn F.HLM_RETAIN_D 1 4095 * 1440 ≤ s.gridNow)

/-- The locator of a record (R340): SEQ [43:0] of the seal that covers it and its LIDX; none while no seal does. -/
def State.locator (s : State) (r : Rec) : Option Nat :=
  (s.hlm.sealed.find? (fun x => sealCovers x.bytes r)).map (fun x => x.seq % 2 ^ 44 * 2 ^ 20 + r.lidx)

/-- The seal that a locator names. -/
def State.located (s : State) (l : Nat) : Option Sealed := s.hlm.sealed.find? (fun x => x.seq % 2 ^ 44 == l / 2 ^ 20)

/-- The proof of an own record, or the result code of R346. -/
def State.ownProof (s : State) (key slot annex : Nat) (ext : Bool) : List Byte ⊕ Nat :=
  match s.findRec key slot annex with
  | .inr 2 => .inr 2
  | .inr 3 => .inr 5
  | .inr _ => .inr 6
  | .inl r =>
    match (s.locator r).bind s.located with
    | none => .inr 3
    | some x =>
      if s.treeExpired x.istart (field x.bytes 5 1) then .inr 4
      else if !ext then .inl (proofBytes r x.bytes x.leaves false)
      else match s.proofExt x.bytes with
        | some e => .inl (proofBytes r x.bytes x.leaves true ++ e)
        | none => .inr 3

/-- A proof request ends (R341). -/
def State.prqEnd (s : State) (res : Nat) : State :=
  ((({ s with hlm := { s.hlm with prq := none } }).wr F.HLM_PRQ_CTL_BUSY 0).wr F.HLM_PRQ_CTL_RES res).raise Pg.HLM 5

/-- Writes a proof into the output queue and ends the request (R223, R341). -/
def State.prqAnswer (s : State) (b : List Byte) : State :=
  let (ok, t) := s.outputPacket (s.rd F.HLM_PRQ_Q) b
  if ok then (t.wr F.HLM_PRQ_LEN b.length).prqEnd 1 else t.prqEnd 8

/-- A write of HLM.PRQ_CTL (R341): GO while BUSY is ignored; the queue is checked first (R223); a HEAD forwards the request for a chain unit's record. -/
def State.prqWrite (s : State) (v : Word) : State :=
  let ext := bit v 24
  let s1 := (s.wr F.HLM_PRQ_CTL_EXT (b2n ext)).wr F.HLM_PRQ_CTL_ANNEX (bits v 15 8)
  if !bit v 31 || s.hlm.prq.isSome then s1
  else if !queueNamed (s.rd F.HLM_PRQ_Q) then s1.prqEnd 8
  else
    let unit := s.rd F.HLM_PRQ_KEY_UNIT
    let key := chanKey unit (s.rd F.HLM_PRQ_KEY_NODE) (s.rd F.HLM_PRQ_KEY_CH)
    let far := s.role = 2 && unit != 0
    let p : ProofReq := { key := key, slot := s.rd F.HLM_PRQ_SLOT, annex := bits v 15 8, ext := ext && s.role = 2, unit := if far then unit else 0 }
    let s2 := (({ s1 with hlm := { s1.hlm with prq := some p } }).wr F.HLM_PRQ_CTL_BUSY 1).wr F.HLM_PRQ_CTL_RES 0
    if !far then s2
    else if !((SMap.getD s.chn.units unit {}).reachable && decide (unit < s.rd F.CHN_UNITS)) then s2.prqEnd 7
    else s2.toUnit unit 5 0 (be 4 key ++ be 4 p.slot ++ be 1 p.annex ++ be 3 0)

/-- PROOF_REQUEST (R341). -/
def execProofRequest (m : Master) (v : Word) (s : State) : Host.Outcome State Fault Refusal :=
  s.done (s.guarded m Pg.HLM 0x108 (fun s => s.prqWrite v))

/-- PROOF_DONE (R341): the proof of an own record. -/
def execProofDone (s : State) : Host.Outcome State Fault Refusal :=
  s.done (match s.hlm.prq with
    | some p =>
      if p.unit != 0 || !s.domOn Dom.PKT then s
      else match s.ownProof p.key p.slot p.annex p.ext with
        | .inl b => s.prqAnswer b
        | .inr c => s.prqEnd c
    | none => s)

/-! ## Verifying a proof (R342) -/

/-- The inner loop of the walk: while `fn` is even and not 0 both numbers are halved. -/
def halve : Nat → Nat → Nat → Nat × Nat
  | 0, fn, sn => (fn, sn)
  | fuel + 1, fn, sn => if fn % 2 = 0 && fn != 0 then halve fuel (fn / 2) (sn / 2) else (fn, sn)

/-- The walk of a proof over its path: the hash it ends with, none where it rejects. -/
def proofWalk : List (List Byte) → List Byte → Nat → Nat → Option (List Byte)
  | [], r, _, sn => if sn = 0 then some r else none
  | p :: ps, r, fn, sn =>
    if sn = 0 then none
    else if fn % 2 = 1 || fn = sn then
      let (f, n) := halve 21 fn sn
      proofWalk ps (nodeHash p r) (f / 2) (n / 2)
    else proofWalk ps (nodeHash r p) (fn / 2) (sn / 2)

/-- The hashes of a path. -/
def pathOf (n : Nat) (b : List Byte) : List (List Byte) := (List.range n).map (fun i => (b.drop (48 * i)).take 48)

/-- Does a seal verify under a public key (R332)? -/
def sealVerifies (pub sealB : List Byte) : Bool := Config.ecdsaVerifyDigest pub (Config.sha384 (sealB.take 192)) (sealB.drop 192)

/-- Does a verifier accept a proof under the public keys of its seal and of its re-seal (R342)? -/
def proofAccepted (pub pub2 b : List Byte) : Bool :=
  let n := field b 2 1
  let crec := (b.drop 8).take 85
  let sealB := (b.drop 96).take 288
  let stamp := field crec 40 8
  let ext := b.drop (384 + 48 * n)
  let leaf := ext.take 56
  let seal2 := (ext.drop 56).take 288
  let idx := field b 4 4
  field b 0 2 == 1 && decide (n ≤ 20) && decide (idx < field sealB 52 4) && !(field crec 8 2).testBit 14 && sealVerifies pub sealB &&
    proofWalk (pathOf n (b.drop 384)) (leafHash crec) idx (field sealB 52 4 - 1) == some ((sealB.drop 72).take 48) &&
    (decide (sealFstart sealB ≤ stamp) && decide (stamp < field sealB 32 8) || (field crec 12 1).testBit 3 || crec.drop 69 == be 16 0) &&
    (field b 3 1 != 1 ||
      leaf.drop 8 == sealDigest sealB && field leaf 0 1 == field sealB 4 1 && field leaf 6 2 == field sealB 6 2 && sealVerifies pub2 seal2 &&
        (List.range (field seal2 52 4)).any (fun i => proofWalk (pathOf (field ext 344 1) (ext.drop 348)) (leafHash leaf) i (field seal2 52 4 - 1) == some ((seal2.drop 72).take 48)))

/-! ## Host operations -/

/-- Compressions of a SHA-384 over n bytes. -/
def shaBlocks (n : Nat) : Nat := (n + 17 + 127) / 128

/-- Writes bytes into the payload of a held packet. -/
def State.pktPut (s : State) (c i : Nat) (b : List Byte) : State :=
  { s with cru := { s.cru with pool := poolWriteBytes (s.pktCells c) s.cru.pool (32 + i) b } }

/-- Counts compressions on the engine of a task: engine 0 or 1 (R344). -/
def State.engineComp (s : State) (exec n : Nat) : State :=
  if exec = 6 then s.wr F.HSH_COMP1 (s.rd F.HSH_COMP1 + n) else s.wr F.HSH_COMP0 (s.rd F.HSH_COMP0 + n)

/-- A SHA_OP task (R343): its digest is written into the packet that CELL names; any other operation, or one that the packet cannot hold, FAILs. -/
def State.shaOp (s : State) (i : Nat) (d : Desc) : State :=
  let op := d.arg / 2 ^ 60
  let put (inOfs n out : Nat) (pre : List Byte) : State :=
    if d.cell = 0xFFFF || s.pktLen d.cell < inOfs + n || s.pktLen d.cell < out + 48 then s.taskEnd i .fail 0
    else
      let h := Config.sha384 (pre ++ s.pktBytes d.cell (32 + inOfs) n)
      (((s.pktPut d.cell out h).engineComp d.exec (shaBlocks (pre.length + n))).wrap F.HSH_HOST_OPS).taskEnd i .ok 0
  match op with
  | 0 => if d.arg % 65536 = 0 || 65456 < d.arg % 65536 then s.taskEnd i .fail 0 else put 0 (d.arg % 65536) (d.arg / 65536 % 65536) []
  | 1 => if d.arg % 65536 = 85 then put 0 85 85 (be 1 0) else s.taskEnd i .fail 0
  | 2 => put 0 96 96 (be 1 1)
  | _ => s.taskEnd i .fail 0

/-- SHA_OP_DONE (R343). -/
def execShaOpDone (d : Fin 16384) (s : State) : Host.Outcome State Fault Refusal :=
  s.done (match s.runningTask d.val 11 with
    | some x => if s.taskPoison x then s.taskEnd d.val .poison 0 else s.shaOp d.val x
    | none => s)

/-- A PK_OP task (R343): a signature under a slot the submitter may use (R454), or a verification. DEDUCED, unsafe: log entry 71. -/
def State.pkOp (s : State) (i : Nat) (d : Desc) : State :=
  let p (a n : Nat) := s.pktBytes d.cell (32 + a) n
  match d.arg / 2 ^ 60 with
  | 1 =>
    if d.cell = 0xFFFF || s.pktLen d.cell < 144 then s.taskEnd i .fail 0
    else
      let slot := d.arg / 2 ^ 48 % 256
      let (k, t) := s.invokeWith (d.slot.getD (s.slot slot)) slot (if d.host.isSome then Mst.HOST else 1) false Use.SIGN
      match k with
      | none => ((t.sat F.PKE_SLOT_DENY).raise Pg.PKE 1).taskEnd i .ok 3
      | some key => ((t.pktPut d.cell 48 ((Config.ecdsaSignDigest key (p 0 48) ++ be 96 0).take 96)).wrap F.PKE_SIGNS).taskEnd i .ok 0
  | 2 =>
    if d.cell = 0xFFFF || s.pktLen d.cell < 241 then s.taskEnd i .fail 0
    else
      let s1 := s.wrap F.PKE_VERIFIES
      if !Config.onCurve (p 48 97) then ((s1.sat F.PKE_VERIFY_FAIL).raise Pg.PKE 0).taskEnd i .ok 2
      else if Config.ecdsaVerifyDigest (p 48 97) (p 0 48) (p 145 96) then s1.taskEnd i .ok 0
      else ((s1.sat F.PKE_VERIFY_FAIL).raise Pg.PKE 0).taskEnd i .ok 1
  | _ => s.taskEnd i .fail 0

/-- PK_OP_DONE (R343). -/
def execPkOpDone (d : Fin 16384) (s : State) : Host.Outcome State Fault Refusal :=
  s.done (match s.runningTask d.val 12 with
    | some x => if s.taskPoison x then s.taskEnd d.val .poison 0 else s.pkOp d.val x
    | none => s)

end Sys2Proof.Machine
end

