-- ==== Sys2Proof/Machine/Time.lean ====
section
/-!
DEFINITION. The timebase: epochs, commits, captures, the source monitor, the calendar and the compare units (chapter 03).
-/
namespace Sys2Proof.Machine

/-! ## Compare units -/

/-- Is a unit the one that drives PPS_OUT: the lowest-numbered with DEST = 1 and EN = 1 (R101)? -/
def State.drivesPps (s : State) (k : Nat) : Bool :=
  (List.range k).all (fun j => !(s.on (F.TIME_CMP_CTL_EN j) && s.rd (F.TIME_CMP_CTL_DEST j) == 1))

/-- The first raw count at which disciplined time reaches a target (R98). -/
def Epoch.rawOf (e : Epoch) (target : Nat) : Nat :=
  ((e.anchor : Int) - (((e.offset : Int) - (target : Int)) * 2 ^ 40) / (max 1 e.rate : Nat)).toNat

/-- Is a port in the mask of a unit (R102)? -/
def State.inMask (s : State) (k n : Nat) : Bool := (s.rd (F.TIME_CMP_PMASK_LO k) + 2 ^ 32 * s.rd (F.TIME_CMP_PMASK_HI k)).testBit n

/-- Sends the timed command of a target to every port of PMASK whose link is UP (R101, R117), late where the unit was armed less than 50 µs before its target. DEDUCED, unsafe: log entry 36. -/
def State.converterStart (s : State) (k target : Nat) (late : Bool) : State :=
  let c := s.tim.cur.rawOf target
  let t := ((List.range 64).filter (fun n => s.inMask k n && s.linkUp n)).foldl (fun (t : State) n => (t.auxStart n c).emit (.convStart n c late)) s
  t.setCmp k { t.cmpUnit k with sentFor := some target }

/-- An armed unit with DEST = 3 sends its command 50 µs before the target, or at once where it was armed later (R101). DEDUCED, unsafe: log entry 36. -/
def State.converterDue (s : State) (k : Nat) : State :=
  let u := s.cmpUnit k
  let c := s.tim.cur.rawOf u.next
  if s.on (F.TIME_CMP_CTL_EN k) && s.rd (F.TIME_CMP_CTL_DEST k) == 3 && u.sentFor != some u.next && decide (c ≤ s.raw + 12500) then
    s.converterStart k u.next (decide (c < u.armedAt + 12500))
  else s

/-- What every unit with DEST = 3 has to send now. -/
def State.convertersDue (s : State) : State := (List.range 16).foldl (fun (t : State) k => t.converterDue k) s

/-- Delivers a firing to the unit's destination (R101). -/
def State.cmpDeliver (s : State) (k target count : Nat) (rep : Bool) : State :=
  match s.rd (F.TIME_CMP_CTL_DEST k) with
  | 1 => if s.drivesPps k then ({ s with tim := { s.tim with ppsHigh := true } }).emit (.pps true) else s
  | 2 => s.boundaryFire target count rep
  | 3 => if (s.cmpUnit k).sentFor == some target then s else s.converterStart k target true
  | 4 => s.gpioCompare k
  | 5 => s.controlEvent k (s.rd (F.TIME_CMP_CTL_PRIO k))
  | _ => s

/-- One firing of a unit (R98, R99, R101): its interrupt bit, its counters and its delivery; a one-shot unit disarms itself. -/
def State.cmpFire (s : State) (k target count : Nat) (rep : Bool) : State :=
  let s1 := ((s.raise Pg.TIME (8 + k)).wrap (F.TIME_CMP_STAT_FIRED k)).addSat (F.TIME_CMP_STAT_SKIPPED k) (count - 1)
  let s2 := s1.cmpDeliver k target count rep
  if s.cmpPer k = 0 then s2.wr (F.TIME_CMP_CTL_EN k) 0
  else s2.setCmp k { s2.cmpUnit k with next := target + s.cmpPer k }

/-- What a commit from one time to another does to one unit (R99): forward, an armed unit fires once over the targets passed; back, the next target is found anew. DEDUCED, unsafe: log entry 35. -/
def State.cmpCommit (s : State) (told tnew : Nat) (k : Nat) : State :=
  let u := s.cmpUnit k
  if told ≤ tnew then
    let n := targetsPassed u.next (s.cmpPer k) tnew
    let last := u.next + (n - 1) * s.cmpPer k
    if n = 0 || !s.on (F.TIME_CMP_CTL_EN k) then s else s.cmpFire k last n (decide (last < u.repeatEnd))
  else s.setCmp k { u with next := nextTarget (s.cmpTgt k) (s.cmpPer k) tnew, repeatEnd := if s.on (F.TIME_CMP_CTL_EN k) then max told u.repeatEnd else 0 }

/-- What a commit does to every unit, in ascending unit number (R99, R101). -/
def State.cmpCommitAll (s : State) (told tnew : Nat) : State := (List.range 16).foldl (fun t k => t.cmpCommit told tnew k) s

/-- Every unit resumes at the first target above the current time, without catch-up (R100). -/
def State.cmpResume (s : State) : State :=
  (List.range 16).foldl (fun t k => t.setCmp k { t.cmpUnit k with
    next := nextTarget (t.cmpTgt k) (t.cmpPer k) t.now, stgTgt := t.rd (F.TIME_CMP_TGT_LO k), stgPer := t.rd (F.TIME_CMP_PER_LO k), repeatEnd := 0 }) s

/-- Periodic units resume at the first target above the current time when a domain restarts (R100). -/
def State.cmpSkip (s : State) : State :=
  (List.range 16).foldl (fun t k => if t.cmpPer k = 0 then t else t.setCmp k { t.cmpUnit k with next := nextTarget (t.cmpTgt k) (t.cmpPer k) t.now }) s

/-! ## Commits -/

/-- Is a commit too soon after the last accepted software commit (R83)? -/
def State.commitTooSoon (s : State) : Bool :=
  match s.tim.lastCommit with
  | some c => decide (s.raw < c + 25000000)
  | none => false

/-- A refused commit changes nothing and sets bit REFUSED (R83). -/
def State.commitRefused (s : State) : State := s.raise Pg.TIME 4

/-- Notes an accepted software commit for the spacing of R83. -/
def State.committed (s : State) : State := { s with tim := { s.tim with lastCommit := some s.raw } }

/-- Loads the calendar from disciplined time while SOURCE is not NONE (R96). -/
def State.loadCalendar (s : State) : State :=
  if qSource s.tim.cur.qual = 0 then s else { s with tim := { s.tim with cal := s.now * 32768 / 1000000000, calFrac := 0 } }

/-- A RATE commit (R82, R83, R92): time stays continuous, SOURCE is unchanged and STEPPED clears. -/
def State.rateCommit (s : State) (v : Word) : State :=
  let rate := s.tim.stgRate + 2 ^ 32 * bits v 15 0
  if s.commitTooSoon || rate * 1000 < 3996 * 2 ^ 40 || 4004 * 2 ^ 40 < rate * 1000 then s.commitRefused
  else (s.openEpoch s.raw s.now rate (qPut s.tim.cur.qual 5 false)).committed

/-- The quality byte after an OFFSET or STEP commit (R91, R92). -/
def State.qualAfterChange (s : State) : BitVec 8 :=
  qPut (qWithSource s.tim.cur.qual (if s.srcSel = 0 then 2 else s.srcSel)) 5 true

/-- A time change (R85, R96, R99): the epoch opens, the TIME_CHG record and bit follow, the calendar is loaded, and the compare units and set-back spans act on it. -/
def State.timeChange (s : State) (m : Master) (tnew : Nat) : State :=
  let told := s.now
  let s1 := (s.openEpoch s.raw tnew s.tim.cur.rate s.qualAfterChange).committed
  let ms : Int := ((told : Int) - (tnew : Int)).tdiv 1000000
  let s0 := (s1.journal 4 (be 8 s.raw ++ be 8 told ++ be 8 tnew)).raise Pg.TIME 3
  let s2 := s0.legalEvent 8 (eventSrc m) (s0.sessRole m) s0.jrn.seq (beInt 8 ms)
  ((s2.loadCalendar).cmpCommitAll told tnew).profileTimeChange told tnew

/-- An OFFSET commit (R82). -/
def State.offsetCommit (s : State) (m : Master) (v : Word) : State :=
  if s.commitTooSoon then s.commitRefused else s.timeChange m (s.tim.stgOffset + 2 ^ 32 * v.toNat)

/-- A STEP commit (R82, R83): signed; refused where it would make the time negative. -/
def State.stepCommit (s : State) (m : Master) (v : Word) : State :=
  let st : Int := (BitVec.ofNat 64 (s.tim.stgStep + 2 ^ 32 * v.toNat)).toInt
  if s.commitTooSoon || decide ((s.now : Int) + st < 0) then s.commitRefused
  else s.timeChange m ((s.now : Int) + st).toNat

/-- TIME_RATE_COMMIT (R82). -/
def execTimeRateCommit (m : Master) (v : Word) (s : State) : Host.Outcome State Fault Refusal :=
  s.done (s.guarded m Pg.TIME 0x64 (fun s => s.rateCommit v))

/-- TIME_OFFSET_COMMIT (R82). -/
def execTimeOffsetCommit (m : Master) (v : Word) (s : State) : Host.Outcome State Fault Refusal :=
  s.done (s.guarded m Pg.TIME 0x5C (fun s => s.offsetCommit m v))

/-- TIME_STEP_COMMIT (R82). -/
def execTimeStepCommit (m : Master) (v : Word) (s : State) : Host.Outcome State Fault Refusal :=
  s.done (s.guarded m Pg.TIME 0x6C (fun s => s.stepCommit m v))

/-! ## Reads and conversions -/

/-- A read of NOW_LO (R87): the count, the time, the epoch and the quality go into the master's shadow in one step. DESIGN CHOICE, unsafe: log entry 9. -/
def State.nowRead (s : State) (m : Master) : State :=
  let (t, e, q) := s.convert s.raw
  ((((s.setShadow m Pg.TIME 0x4C (BitVec.ofNat 32 (t / 2 ^ 32))).setShadow m Pg.TIME 0x50 (BitVec.ofNat 32 (e * 256 + q.toNat))).setShadow
    m Pg.TIME 0x40 (BitVec.ofNat 32 s.raw)).setShadow m Pg.TIME 0x44 (BitVec.ofNat 32 (s.raw / 2 ^ 32))).answer (BitVec.ofNat 32 t)

/-- TIME_NOW_READ (R87). -/
def execTimeNowRead (m : Master) (s : State) : Host.Outcome State Fault Refusal :=
  s.done (s.guardedRead m Pg.TIME 0x48 (fun s => s.nowRead m))

/-- A write of CONV_IN_HI converts the staged count (R86, R87). DESIGN CHOICE, safe: log entry 37. -/
def State.timeConvert (s : State) (v : Word) : State :=
  let (t, _, q) := s.convert (s.tim.stgConv + 2 ^ 32 * v.toNat)
  (((s.wr F.TIME_CONV_OUT_LO t).wr F.TIME_CONV_OUT_HI (t / 2 ^ 32)).wr F.TIME_CONV_Q_DONE 1).wr F.TIME_CONV_Q_QUAL q.toNat

/-- TIME_CONVERT (R87). -/
def execTimeConvert (m : Master) (v : Word) (s : State) : Host.Outcome State Fault Refusal :=
  s.done (s.guarded m Pg.TIME 0x7C (fun s => s.timeConvert v))

/-- A write of QCTL (R92): LOCK_SET sets LOCKED and clears HOLDOVER, LOCK_CLR clears LOCKED; where a write has both bits, LOCK_CLR acts last. DESIGN CHOICE, unsafe: log entry 133. -/
def State.qctlWrite (s : State) (v : Word) : State :=
  let q1 := if bit v 0 then qPut (qPut s.tim.cur.qual 3 true) 4 false else s.tim.cur.qual
  s.setQual (if bit v 1 then qPut q1 3 false else q1)

/-- LOCK_SET (R92). -/
def execLockSet (m : Master) (v : Word) (s : State) : Host.Outcome State Fault Refusal :=
  s.done (s.guarded m Pg.TIME 0xA0 (fun s => s.qctlWrite v))

/-- LOCK_CLR (R92). -/
def execLockClr (m : Master) (v : Word) (s : State) : Host.Outcome State Fault Refusal :=
  s.done (s.guarded m Pg.TIME 0xA0 (fun s => s.qctlWrite v))

/-! ## Captures and the source monitor -/

/-- A source event (R93): misses and SRC_LOST clear; SRC_BACK is set only after a miss or a declared loss. -/
def State.sourceEvent (s : State) : State :=
  let back := s.rd F.TIME_QSTAT_MISSED != 0 || s.on F.TIME_QSTAT_SRC_LOST
  let s1 := (s.wr F.TIME_QSTAT_MISSED 0).wr F.TIME_QSTAT_SRC_LOST 0
  if back then s1.raise Pg.TIME 2 else s1

/-- A capture latch takes an edge (R89). DESIGN CHOICE, safe: log entry 37. -/
def State.capture (s : State) (j : Nat) : State :=
  let had := s.on (F.TIME_CAP_FLAGS_VALID j)
  let s1 := ((s.wr (F.TIME_CAP_LO j) s.raw).wr (F.TIME_CAP_HI j) (s.raw / 2 ^ 32)).wr (F.TIME_CAP_FLAGS_VALID j) 1
  let s2 := (s1.wrap (F.TIME_CAP_FLAGS_SEQ j)).raise Pg.TIME 6
  if had then (s2.wr (F.TIME_CAP_FLAGS_OVF j) 1).raise Pg.TIME 7 else s2

/-- TIME_FEED (R93): a source event for HOST or PTP. -/
def State.timeFeed (s : State) : State := if s.srcSel = 2 || s.srcSel = 4 then s.sourceEvent else s

/-- TIME_FEED (R93). -/
def execTimeFeed (m : Master) (_v : Word) (s : State) : Host.Outcome State Fault Refusal :=
  s.done (s.guarded m Pg.TIME 0xA4 (fun s => s.timeFeed))

/-- PPS_IN_EDGE (R89, R93): capture 0 latches the count, and the edge is a source event for PPS. TIM takes no edge while it is gated. -/
def execPpsInEdge (s : State) : Host.Outcome State Fault Refusal :=
  s.done (if s.mode = Md.OFF || s.mode = Md.VAULT then s
    else if s.srcSel = 3 then (s.capture 0).sourceEvent else s.capture 0)

/-- SOURCE_MISS (R93): one more miss; the third clears LOCKED, sets HOLDOVER and its bit. -/
def execSourceMiss (s : State) : Host.Outcome State Fault Refusal :=
  s.done (if s.srcSel = 0 then s
    else
      let s1 := s.sat F.TIME_QSTAT_MISSED
      if s.rd F.TIME_QSTAT_MISSED = 2 then (s1.setQual (qPut (qPut s1.tim.cur.qual 3 false) 4 true)).raise Pg.TIME 0 else s1)

/-- SRC_LOST (R93). -/
def execSrcLost (s : State) : Host.Outcome State Fault Refusal :=
  s.done (if s.srcSel = 0 then s else (s.wr F.TIME_QSTAT_SRC_LOST 1).raise Pg.TIME 1)

/-- HOLD_DRIFT_TICK (R94): while LOCKED is 0, ERR_EST grows by HOLD_DRIFT. -/
def execHoldDriftTick (s : State) : Host.Outcome State Fault Refusal :=
  s.done (if s.tim.cur.qual.getLsbD 3 then s else (s.addSat F.TIME_ERR_EST (s.rd F.TIME_HOLD_DRIFT)).refreshUncertain)

/-- CALENDAR_LOAD (R96). -/
def execCalendarLoad (s : State) : Host.Outcome State Fault Refusal := s.done s.loadCalendar

/-- CALENDAR_TRIM (R96): while LOCKED is 1 the crystal's count over 600 s gives a new CAL_TRIM; the spec does not say how the value is rounded. DESIGN CHOICE, safe: log entry 5. -/
def execCalendarTrim (crystalTicks : Nat) (s : State) : Host.Outcome State Fault Refusal :=
  s.done (if s.tim.cur.qual.getLsbD 3 then s.wr F.TIME_CAL_TRIM (Config.calTrim crystalTicks).toNat else s)

/-- A read of CAPj_FLAGS (R89): the flags are answered, and VALID and OVF clear. -/
def State.capFlagsRead (s : State) (j : Nat) : State :=
  ((s.answer (BitVec.ofNat 32 (s.rd (F.TIME_CAP_FLAGS_VALID j) * 2 ^ 31 + s.rd (F.TIME_CAP_FLAGS_OVF j) * 2 ^ 30 +
    s.rd (F.TIME_CAP_FLAGS_SEQ j)))).wr (F.TIME_CAP_FLAGS_VALID j) 0).wr (F.TIME_CAP_FLAGS_OVF j) 0

/-- CAPTURE_FLAGS_READ (R89). -/
def execCaptureFlagsRead (m : Master) (j : Fin 3) (s : State) : Host.Outcome State Fault Refusal :=
  s.done (s.guardedRead m Pg.TIME (0x108 + 0x10 * j.val) (fun s => s.capFlagsRead j.val))

/-! ## Firings -/

/-- COMPARE_FIRE (R98, R101): an armed unit whose target disciplined time has reached fires. -/
def execCompareFire (k : Fin 16) (s : State) : Host.Outcome State Fault Refusal :=
  s.done (
    let u := s.cmpUnit k.val
    if s.on (F.TIME_CMP_CTL_EN k.val) && decide (u.next ≤ s.now) then s.cmpFire k.val u.next 1 (decide (u.next < u.repeatEnd)) else s)

/-- A write of CMPk_TGT_HI or CMPk_PER_HI (R98): the staged low word takes effect with it and the next target is computed again. DEDUCED, unsafe: log entry 36. -/
def State.cmpRetarget (s : State) (k : Nat) (perHi : Bool) (v : Word) : State :=
  let u := s.cmpUnit k
  let s1 := if perHi then (s.wr (F.TIME_CMP_PER_LO k) u.stgPer).wr (F.TIME_CMP_PER_HI k) v.toNat
    else (s.wr (F.TIME_CMP_TGT_LO k) u.stgTgt).wr (F.TIME_CMP_TGT_HI k) v.toNat
  (s1.setCmp k { u with next := nextTarget (s1.cmpTgt k) (s1.cmpPer k) s1.now, armedAt := s1.raw, sentFor := none }).converterDue k

/-- COMPARE_RETARGET (R98). -/
def execCompareRetarget (m : Master) (k : Fin 16) (perHi : Bool) (v : Word) (s : State) : Host.Outcome State Fault Refusal :=
  s.done (s.guarded m Pg.TIME (0x200 + 0x20 * k.val + (if perHi then 0x0C else 0x04)) (fun s => s.cmpRetarget k.val perHi v))

/-- PPS_OUT_END (R101). -/
def execPpsOutEnd (s : State) : Host.Outcome State Fault Refusal :=
  s.done (if s.tim.ppsHigh then ({ s with tim := { s.tim with ppsHigh := false } }).emit (.pps false) else s)

/-- A write of CMPk_CTL (R98): arming a unit leaves its next target as the last write of TGT_HI or PER_HI, commit, firing or BOOT left it, and starts no re-lived span. DEDUCED, unsafe: log entry 35. -/
def State.cmpCtlWrite (s : State) (k : Nat) (v : Word) : State :=
  let was := s.on (F.TIME_CMP_CTL_EN k)
  let s1 := ((s.wr (F.TIME_CMP_CTL_PRIO k) (bits v 19 16)).wr (F.TIME_CMP_CTL_DEST k) (bits v 10 8)).wr (F.TIME_CMP_CTL_EN k) (bits v 0 0)
  (if bit v 0 && !was then s1.setCmp k { s1.cmpUnit k with repeatEnd := 0, armedAt := s1.raw, sentFor := none } else s1).converterDue k

/-! ## VAULT -/

/-- The calendar now, in units of 1/32,768 s (R96): with the time in VAULT so far. -/
def State.calNow (s : State) : Nat := s.tim.cal + s.tim.vault * 32768 / 1000000000

/-- VAULT entry (R96, R97): the calendar is loaded, TIM is gated and the count is held. -/
def State.gateTim (s : State) : State :=
  let s1 := s.loadCalendar
  { s1 with tim := { s1.tim with held := s1.tim.raw, vault := 0 } }

/-- A wake from VAULT after `e` ns of calendar time (R97, R100). DEDUCED, unsafe: log entry 34. -/
def State.wakeTim (s : State) (e : Nat) : State :=
  let raw := s.tim.held + e / 4
  let cal := s.tim.cal + e * 32768 / 1000000000
  let s1 := { s with tim := { s.tim with raw := raw % 2 ^ 64, cal := cal, vault := 0 } }
  let s2 := s1.openEpoch raw (cal * 1000000000 / 32768) s.tim.cur.rate (qPut 0x31#8 7 (s.tim.cur.qual.getLsbD 7))
  let s3 := ((s2.addSat F.TIME_ERR_EST (e * s.rd F.TIME_CAL_TOL / 1000000)).wr F.TIME_QSTAT_MISSED 0).wr F.TIME_QSTAT_SRC_LOST 0
  s3.refreshUncertain.cmpResume

/-- A counter restart (R79): the count, the epochs, the calendar and the commit spacing start again; the restart number is one more. -/
def State.restartTim (s : State) : State :=
  ({ s with tim := {} }).wr F.TIME_EPOCH_RESTART (s.rd F.TIME_EPOCH_RESTART + 1)

/-- One tick of the calendar (R96): 4 ns of the crystal's cycles, corrected by CAL_TRIM in units of 2⁻²⁴. DESIGN CHOICE, unsafe: log entry 134. -/
def State.calTick (s : State) : State :=
  let a := s.tim.calFrac + 32768 * ((2 ^ 24 : Int) + (BitVec.ofNat 16 (s.rd F.TIME_CAL_TRIM)).toInt).toNat
  { s with tim := { s.tim with cal := s.tim.cal + a / (250000000 * 2 ^ 24), calFrac := a % (250000000 * 2 ^ 24) } }

/-- One tick of the raw counter (R78) and the calendar (R96), on which a unit with DEST = 3 may have its command to send; TIM does not run while it is gated (R97): in VAULT the time passes on the calendar alone. -/
def State.tick (s : State) : State :=
  if s.mode = Md.OFF then s
  else if s.mode = Md.VAULT then { s with tim := { s.tim with vault := s.tim.vault + 4 } }
  else ({ s with tim := { s.tim with raw := (s.tim.raw + 1) % 2 ^ 64 } }).calTick.convertersDue

end Sys2Proof.Machine
end

