-- ==== Sys2Proof/Machine/ChainLinks.lean ====
section
/-!
DEFINITION. The chain's links and walks (R396 to R406, R412): a frame's arrival and forwarding, acknowledgement and credit commands, the token walk, a changed address, chain time and the stamp FIFOs.
-/
namespace Sys2Proof.Machine

/-! ## Links -/

/-- Is a serial link in use: enabled, UPL on, not the HEAD's CHN_UP (R396), and not held idle by the mode (R500, R503)? -/
def State.linkUsed (s : State) (l : Nat) : Bool :=
  s.linkEn l && !s.dead && s.domOn Dom.UPL && !(l == 0 && s.role == 2) && !(if l = 2 then s.pwr.mirOff else s.pwr.portsOff)

/-- Marks the HEAD's enumerated units reachable or not (R411); a reachable unit that ceases to be one sets bit UNIT_LOST. -/
def State.setReach (s : State) (reach : Nat → Bool) : State :=
  let lost := s.chn.units.any (fun e : Nat × UnitInfo => e.2.reachable && !reach e.1)
  let known := s.chainUnits.foldl (fun (m : SMap UnitInfo) u => SMap.modify m u {} (fun x => x)) s.chn.units
  let s1 := { s with chn := { s.chn with units := known.map (fun e : Nat × UnitInfo => (e.1, { e.2 with reachable := reach e.1 })) } }
  if lost then s1.raise Pg.CHN 5 else s1

/-- Is a unit enumerated at the HEAD, the HEAD left out (R402)? -/
def State.enumerated (s : State) (u : Nat) : Bool := decide (1 ≤ u) && decide (u < s.rd F.CHN_UNITS)

/-- A RELAY's unacknowledged batches are sent again when CHN_UP is UP again (R408). -/
def State.resendBatches (s : State) : State :=
  ({ s with chn := { s.chn with due := s.chn.inFlight ++ s.chn.due, inFlight := [] } }).sendBatches 8

/-- Sends a frame of a link's own types on a link (R397): away from the HEAD on CHN_DN. -/
def State.linkCtlFrame (s : State) (l typ : Nat) (body : List Byte) : State :=
  s.linkSend l { typ := typ, flags := if l = 1 then 128 else 0, src := s.linkSelf l, dst := 0, body := body }

/-- The HEAD begins a walk (R402): at once, or as soon as CHN_DN is UP. DEDUCED, unsafe: log entry 98. -/
def State.startWalk (s : State) : State :=
  if s.linkIsUp 1 then ({ s with chn := { s.chn with walkDue := false } }).linkCtlFrame 1 2 (be 1 1)
  else { s with chn := { s.chn with walkDue := true } }

/-- An Ozsum link trains to UP (R400, R401). -/
def State.chainUp (s : State) (l : Nat) : State :=
  if !s.linkUsed l || s.linkIsUp l then s
  else
    let s1 := (s.serialUp l).raise Pg.CHN 0
    if s.role = 1 && l = 0 then s1.resendBatches
    else if s.role = 2 && l = 1 then (let s2 := s1.setReach s1.enumerated; if s2.chn.walkDue then s2.startWalk else s2)
    else s1

/-- CHN_LINK_UP (R401). -/
def execChnLinkUp (l : Fin 2) (s : State) : Host.Outcome State Fault Refusal := s.done (s.chainUp l.val)

/-- A link is DOWN, and retrains while it is in use (R401); a HEAD's units beyond it are UNREACHABLE (R411). -/
def State.chainDown (s : State) (l : Nat) : State :=
  let s1 := (s.serialDown l).wr (linkStat l) (if s.linkUsed l then 1 else 0)
  if s.role = 2 && l = 1 then s1.setReach (fun _ => false) else s1

/-- CHN_LINK_TIMEOUT (R401): LINK_TO without a valid frame. -/
def execChnLinkTimeout (l : Fin 2) (s : State) : Host.Outcome State Fault Refusal :=
  s.done (if s.linkIsUp l.val then ((s.chainDown l.val).sat F.CHN_LINK_DOWN_CNT).raise Pg.CHN 1 else s)

/-- The counter of a link's retransmissions. -/
def linkRtx (l : Nat) : Fld := if l = 2 then F.MIR_RTX else F.CHN_RTX

/-- CHN_RETRANSMIT (R399, R419): every frame not acknowledged goes out again under its SEQ, the oldest first. -/
def execChnRetransmit (l : Fin 3) (s : State) : Host.Outcome State Fault Refusal :=
  s.done (if s.linkIsUp l.val then
      (s.slink l.val).sent.foldl (fun (t : State) (e : Nat × LinkFrame) => (t.linkPut l.val e.1 e.2).sat (linkRtx l.val)) s
    else s)

/-- LINKCTL_SEND (R399). -/
def execLinkctlSend (l : Fin 3) (s : State) : Host.Outcome State Fault Refusal :=
  s.done (if s.linkIsUp l.val then s.linkCtlSend l.val else s)

/-- Grants the credits withheld under back-pressure once it has cleared (R400, R419). -/
def State.creditReturn (s : State) (l : Nat) : State :=
  let x := s.slink l
  if s.classBp (writerClass (if l = 2 then 68 else 64)) then s
  else s.setSlink l { x with
    grant0 := (x.grant0 + x.held0) % 65536, grant1 := (x.grant1 + x.held1) % 65536, held0 := 0, held1 := 0
    changed := x.changed || decide (0 < x.held0 + x.held1) }

/-- CREDIT_RETURN (R400). -/
def execCreditReturn (l : Fin 3) (s : State) : Host.Outcome State Fault Refusal := s.done (s.creditReturn l.val)

/-! ## The token walk -/

/-- Sends ENUM_END upstream (R402). -/
def State.enumEndUp (s : State) (last : Nat) (overflow : Bool) : State := s.linkCtlFrame 0 3 (be 1 last ++ be 1 (b2n overflow))

/-- A RELAY names itself to the HEAD (R404): its identity certificate, the owner's before the vendor's, and the certificate of its seal key. -/
def State.sendUnitId (s : State) : State :=
  let cert := (SMap.find? s.sec.certs 2).getD (SMap.getD s.sec.certs 1 [])
  s.toHead 4 cert.length (cert ++ SMap.getD s.sec.certs 4 [])

/-- A RELAY takes an address (R402 to R404). DEDUCED, unsafe: log entry 98. -/
def State.takeAddr (s : State) (a : Nat) : State :=
  let s1 := (({ s with chn := { s.chn with hasAddr := true } }).wr F.CHN_ADDR a).wr F.CHN_STAT_NOADDR 0
  let s2 := if a = s1.rd F.CHN_ADDR_PREV then s1.wr F.CHN_STAT_ADDR_CHANGED 0 else (s1.wr F.CHN_STAT_ADDR_CHANGED 1).raise Pg.CHN 3
  let s3 := if s2.linkIsUp 1 then ({ s2 with chn := { s2.chn with enumWait := true } }).linkCtlFrame 1 2 (be 1 (a + 1)) else s2.enumEndUp a false
  (s3.sendUnitId.portsFollow).sendBatches 8

/-- A RELAY finds no address left (R402). DEDUCED, unsafe: log entry 98. -/
def State.noAddr (s : State) : State :=
  (((({ s with chn := { s.chn with hasAddr := false } }).wr F.CHN_ADDR 0x3F).wr F.CHN_STAT_NOADDR 1).enumEndUp 63 true).portsFollow

/-- ENUM arrives on CHN_UP (R402): only a RELAY takes part. -/
def State.enumRx (s : State) (next : Nat) : State :=
  if s.role != 1 then s else if 64 ≤ next then s.noAddr else s.takeAddr next

/-- ENUM_END arrives on CHN_DN (R402): a RELAY passes it on; at the HEAD it ends the walk. -/
def State.enumEndRx (s : State) (last : Nat) (overflow : Bool) : State :=
  if s.role = 1 then ({ s with chn := { s.chn with enumWait := false } }).enumEndUp last overflow
  else if s.role = 2 then
    let s1 := s.wr F.CHN_UNITS (last + 1)
    (s1.setReach s1.enumerated).raise Pg.CHN 2
  else s

/-- JOIN_REQ arrives on CHN_DN (R402). -/
def State.joinReqRx (s : State) : State :=
  if s.role = 1 then s.linkCtlFrame 0 7 [] else if s.role = 2 then s.startWalk else s

/-- ENUM (R402). -/
def execEnum (next : Byte) (s : State) : Host.Outcome State Fault Refusal :=
  s.done (if s.linkIsUp 0 then s.enumRx next.toNat else s)

/-- ENUM_END (R402). -/
def execEnumEnd (last : Byte) (overflow : Bool) (s : State) : Host.Outcome State Fault Refusal :=
  s.done (if s.linkIsUp 1 then s.enumEndRx last.toNat overflow else s)

/-- ENUM_TIMEOUT (R402): a unit that forwarded ENUM ends the walk itself. -/
def execEnumTimeout (s : State) : Host.Outcome State Fault Refusal :=
  s.done (if s.role = 1 && s.chn.enumWait then
      ({ s with chn := { s.chn with enumWait := false } }).enumEndUp (s.rd F.CHN_ADDR) false
    else s)

/-- JOIN_REQ (R402). -/
def execJoinReq (s : State) : Host.Outcome State Fault Refusal :=
  s.done (if s.linkIsUp 1 then s.joinReqRx else s)

/-- JOIN_REQ_SEND (R402): a RELAY without an address, once per second. -/
def execJoinReqSend (s : State) : Host.Outcome State Fault Refusal :=
  s.done (if s.role = 1 && !s.chn.hasAddr && s.linkIsUp 0 then s.linkCtlFrame 0 7 [] else s)

/-- A changed address is accepted (R403): the ports run and the batches go. -/
def State.addrAccept (s : State) : State :=
  if !s.on F.CHN_STAT_ADDR_CHANGED then s
  else
    let a := s.rd F.CHN_ADDR
    let s1 := ((s.wr F.CHN_ADDR_PREV a).wr F.CHN_STAT_ADDR_CHANGED 0).journal 10 (be 1 0x50 ++ be 1 5 ++ be 1 a)
    s1.portsFollow.sendBatches 8

/-- A write of EN of a link (R396): the fall takes it DOWN, the rise begins its training. -/
def State.linkEnable (s : State) (l : Nat) (f : Fld) (on : Bool) : State :=
  let was := s.on f
  let s1 := s.wr f (b2n on)
  if was && !on then s1.chainDown l else if !was && on then s1.wr (linkStat l) (b2n (s1.linkUsed l)) else s1

/-- A write of CHN.CTL (R396, R403). -/
def State.chnCtlWrite (s : State) (v : Word) : State :=
  let s1 := (s.linkEnable 0 F.CHN_CTL_EN_UP (bit v 0)).linkEnable 1 F.CHN_CTL_EN_DN (bit v 1)
  if bit v 2 then s1.addrAccept else s1

/-- ADDR_ACCEPT (R403). -/
def execAddrAccept (m : Master) (v : Word) (s : State) : Host.Outcome State Fault Refusal :=
  s.done (s.guarded m Pg.CHN 0x40 (fun s => s.chnCtlWrite v))

/-! ## Chain time -/

/-- Queues a stamp in a FIFO of a depth (R412, R415): CHN j at j, Ethernet port p direction d at 4 + 2p + d. One that finds it full is lost. -/
def State.pushStamp (s : State) (j depth : Nat) (x : FifoStamp) : State :=
  let q := SMap.getD s.chn.stamps j []
  if depth ≤ q.length then s else { s with chn := { s.chn with stamps := SMap.set s.chn.stamps j (q ++ [x]) } }

/-- Sends a time frame and stamps it (R412). -/
def State.sendTime (s : State) (l typ : Nat) (extra : List Byte) : State :=
  let seq := ((s.slink l).txSeq + 1) % 2 ^ 32
  if s.linkIsUp l then
    (s.linkCtlFrame l typ (be 8 s.now ++ be 1 s.tim.cur.qual.toNat ++ extra)).pushStamp (2 * l + 1) 16 ⟨s.raw, typ, 0, seq⟩
  else s

/-- A TIME frame is received (R93, R412). -/
def State.timeRx (s : State) (l seq : Nat) : State :=
  let s1 := s.pushStamp (2 * l) 16 ⟨s.raw, 4, 0, seq⟩
  if l = 0 && s.srcSel = 5 then s1.sourceEvent else s1

/-- A TIME_REQ frame is received: its answer carries its receive time (R412). -/
def State.timeReqRx (s : State) (l seq : Nat) : State :=
  (s.pushStamp (2 * l) 16 ⟨s.raw, 5, 0, seq⟩).sendTime l 6 (be 8 s.now)

/-- TIME (R412). -/
def execTime (l : Fin 2) (seq : BitVec 32) (_time : BitVec 64) (_qual : Byte) (s : State) : Host.Outcome State Fault Refusal :=
  s.done (if s.linkIsUp l.val then s.timeRx l.val seq.toNat else s)

/-- TIME_REQ (R412). -/
def execTimeReq (l : Fin 2) (seq : BitVec 32) (s : State) : Host.Outcome State Fault Refusal :=
  s.done (if s.linkIsUp l.val then s.timeReqRx l.val seq.toNat else s)

/-- TIME_RSP (R412). -/
def execTimeRsp (l : Fin 2) (seq : BitVec 32) (s : State) : Host.Outcome State Fault Refusal :=
  s.done (if s.linkIsUp l.val then s.pushStamp (2 * l.val) 16 ⟨s.raw, 6, 0, seq.toNat⟩ else s)

/-- TIME_BEACON_SEND (R412). -/
def execTimeBeaconSend (s : State) : Host.Outcome State Fault Refusal :=
  s.done (if qSource s.tim.cur.qual != 0 then s.sendTime 1 4 [] else s)

/-- The registers of a chain stamp FIFO take an entry. -/
def State.latchChnStamp (s : State) (j : Nat) (x : Option FifoStamp) : State :=
  match x with
  | none => (((s.wr (F.CHN_TS_LO j) 0).wr (F.CHN_TS_HI j) 0).wr (F.CHN_TS_INFO_VALID j) 0).wr (F.CHN_TS_INFO_TYPE j) 0 |>.wr (F.CHN_TS_SEQ j) 0
  | some e => ((((s.wr (F.CHN_TS_LO j) e.count).wr (F.CHN_TS_HI j) (e.count / 2 ^ 32)).wr (F.CHN_TS_INFO_VALID j) 1).wr (F.CHN_TS_INFO_TYPE j) e.typ).wr (F.CHN_TS_SEQ j) e.seq

/-- The registers of an Ethernet stamp FIFO take an entry. -/
def State.latchEthStamp (s : State) (p d : Nat) (x : Option FifoStamp) : State :=
  let e := x.getD ⟨0, 0, 0, 0⟩
  (((((s.wr (F.ETH_TS_LO p d) e.count).wr (F.ETH_TS_HI p d) (e.count / 2 ^ 32)).wr (F.ETH_TS_INFO_VALID p d) (b2n x.isSome)).wr
    (F.ETH_TS_INFO_MSGTYPE p d) e.typ).wr (F.ETH_TS_INFO_DOMAIN p d) e.dom).wr (F.ETH_TS_INFO_SEQID p d) e.seq

/-- A read of the low word of a stamp FIFO (R416, R417): the oldest entry is popped, and the words beside it are latched. -/
def State.stampRead (s : State) (m : Master) (j : Nat) : State :=
  let q := SMap.getD s.chn.stamps j []
  let e := q.head?.getD ⟨0, 0, 0, 0⟩
  let has := b2n q.head?.isSome * 2 ^ 31
  let s1 := { s with chn := { s.chn with stamps := SMap.set s.chn.stamps j q.tail } }
  let s2 := if j < 4 then (s1.latchChnStamp j q.head?).setShadow m Pg.CHN (0x148 + 0x10 * j) (BitVec.ofNat 32 (has + e.typ * 2 ^ 24))
    else (s1.latchEthStamp ((j - 4) / 2) (j % 2) q.head?).setShadow m Pg.ETH (0x168 + 0x100 * ((j - 4) / 2) + 0x10 * (j % 2))
      (BitVec.ofNat 32 (has + e.typ * 2 ^ 24 + e.dom * 2 ^ 16 + e.seq))
  let hi := if j < 4 then s2.setShadow m Pg.CHN (0x144 + 0x10 * j) (BitVec.ofNat 32 (e.count / 2 ^ 32))
    else s2.setShadow m Pg.ETH (0x164 + 0x100 * ((j - 4) / 2) + 0x10 * (j % 2)) (BitVec.ofNat 32 (e.count / 2 ^ 32))
  hi.answer (BitVec.ofNat 32 e.count)

/-- STAMP_FIFO_READ (R415, R416). -/
def execStampFifoRead (m : Master) (j : Fin 8) (s : State) : Host.Outcome State Fault Refusal :=
  s.done (if j.val < 4 then s.guardedRead m Pg.CHN (0x140 + 0x10 * j.val) (fun s => s.stampRead m j.val)
    else s.guardedRead m Pg.ETH (0x160 + 0x100 * ((j.val - 4) / 2) + 0x10 * (j.val % 2)) (fun s => s.stampRead m j.val))

/-! ## A frame arrives -/

/-- A RELAY forwards a DATA frame (R406): everything from CHN_DN, and from CHN_UP what is meant for units beyond. -/
def State.forward (s : State) (l : Nat) (f : LinkFrame) : State :=
  if s.role != 1 then s
  else if l = 1 then s.linkSend 0 f
  else if (f.flags / 128 % 2 = 1 && s.rd F.CHN_ADDR < f.dst % 64) || f.flags / 16 % 2 = 1 then s.linkSend 1 f
  else s

/-- What a verified frame does besides its commit: it is forwarded, or it is one of the link's own (R399, R402, R406, R412). -/
def State.frameActs (s : State) (l seq : Nat) (f : LinkFrame) : State :=
  match f.typ with
  | 0 => s.forward l f
  | 1 => s.linkCtl l (field f.body 0 4) (field f.body 4 2) (field f.body 6 2)
  | 2 => if l = 0 then s.enumRx (field f.body 0 1) else s
  | 3 => if l = 1 then s.enumEndRx (field f.body 0 1) ((field f.body 1 1).testBit 0) else s
  | 4 => s.timeRx l seq
  | 5 => s.timeReqRx l seq
  | 6 => s.pushStamp (2 * l) 16 ⟨s.raw, 6, 0, seq⟩
  | 7 => if l = 1 then s.joinReqRx else s
  | _ => s

end Sys2Proof.Machine
end

