-- ==== Sys2Proof/Machine/Ethernet.lean ====
section
/-!
DEFINITION. The Ethernet uplinks (R88, R90, R413 to R415, R417): links, reception, filters and event stamps, PAUSE and PFC, and transmission; and the packets of CHN_TX queues.
-/
namespace Sys2Proof.Machine

/-- The speed code of a port's link (R413, R417): by its MODE, and under SGMII as negotiated. -/
def State.ethSpeed (s : State) (p negotiated : Nat) : Nat :=
  match s.rd (F.ETH_CTL_MODE p) with
  | 1 => 1
  | 2 => max 2 negotiated
  | _ => 0

/-- ETH_LINK_UP (R413, R417): a port's link comes up. -/
def execEthLinkUp (p : Fin 2) (speed : BitVec 2) (s : State) : Host.Outcome State Fault Refusal :=
  s.done (if s.on (F.ETH_CTL_EN p.val) && !s.dead && s.domOn Dom.UPL && s.rd (F.ETH_STAT_LINK p.val) != 1 then
      (((s.wr (F.ETH_STAT_LINK p.val) 1).wr (F.ETH_STAT_SPEED p.val) (s.ethSpeed p.val speed.toNat)).raise Pg.ETH (8 * p.val)).ethPause
    else s)

/-- A port's link goes down (R417): its peer's halts end with it. -/
def State.ethDown (s : State) (p : Nat) : State :=
  if s.rd (F.ETH_STAT_LINK p) != 1 then s
  else
    let s1 := { s with chn := { s.chn with halts := s.chn.halts.filter (fun h => h / 16 != p) } }
    ((s1.wr (F.ETH_STAT_LINK p) 0).raise Pg.ETH (1 + 8 * p)).ethPause

/-- ETH_LINK_DOWN (R417). -/
def execEthLinkDown (p : Fin 2) (s : State) : Host.Outcome State Fault Refusal := s.done (s.ethDown p.val)

/-- Does a port run: enabled, its domain on and its link up? -/
def State.ethRuns (s : State) (p : Nat) : Bool :=
  s.on (F.ETH_CTL_EN p) && s.domOn Dom.UPL && s.rd (F.ETH_STAT_LINK p) == 1 && s.mode != Md.STANDBY && s.mode != Md.TAKEOVER && !s.dead

/-! ## Event messages -/

/-- A frame without its 802.1Q tag (R413). -/
def untag (b : List Byte) : List Byte := if field b 12 2 = 0x8100 then b.take 12 ++ b.drop 16 else b

/-- The source data of a received frame (R215): whether it came tagged, and its tag control information. DESIGN CHOICE, unsafe: log entry 13. -/
def tagInfo (b : List Byte) : List Byte := if field b 12 2 = 0x8100 then be 1 0 ++ be 1 1 ++ be 2 (field b 14 2) ++ be 4 0 else be 8 0

/-- A frame with the 802.1Q tag that its packet's source data ask for (R413). DESIGN CHOICE, unsafe: log entry 13. -/
def withTag (info b : List Byte) : List Byte := if (info.getD 1 0).getLsbD 0 then b.take 12 ++ be 2 0x8100 ++ (info.drop 2).take 2 ++ b.drop 12 else b

/-- Where the PTP message begins in an untagged frame (R90): over Ethernet, over UDP and IPv4, or over UDP and IPv6, at the event port. PRESUMED, unsafe: log entry 132. -/
def ptpAt (b : List Byte) : Option Nat :=
  let et := field b 12 2
  if et = 0x88F7 then some 14
  else if et = 0x0800 && field b 23 1 = 17 then
    (let h := 14 + 4 * (field b 14 1 % 16)
     if field b (h + 2) 2 = 319 then some (h + 8) else none)
  else if et = 0x86DD && field b 20 1 = 17 && field b 56 2 = 319 then some 62
  else none

/-- The PTP message in a frame (R90). -/
def ptpBody (frame : List Byte) : Option (List Byte) := (ptpAt (untag frame)).map (fun i => (untag frame).drop i)

/-- The stamp of an event message (R90, R415): Sync, Delay_Req, Pdelay_Req and Pdelay_Resp. -/
def ptpStamp (frame : List Byte) (count : Nat) : Option FifoStamp :=
  (ptpBody frame).bind (fun m => if field m 0 1 % 16 < 4 && 32 ≤ m.length then some ⟨count, field m 0 1 % 16, field m 4 1, field m 30 2⟩ else none)

/-- Queues an event stamp of a port and direction (R415). -/
def State.ethStamp (s : State) (p d : Nat) (frame : List Byte) : State :=
  match ptpStamp frame s.raw with
  | none => s
  | some x =>
    let j := 4 + 2 * p + d
    if 64 ≤ (SMap.getD s.chn.stamps j []).length then (s.sat (F.ETH_STS_OVF p)).raise Pg.ETH (3 + 8 * p)
    else (s.pushStamp j 64 x).raise Pg.ETH (2 + 8 * p)

/-! ## Reception -/

/-- Does a port's filter pass a destination address: its own, broadcast, or multicast that hits the hash (R413)? The spec does not state the hash (log entry 22). DESIGN CHOICE, safe: log entry 22. -/
def State.ethPasses (s : State) (p : Nat) (b : List Byte) : Bool :=
  let da := b.take 6
  if field da 0 1 % 2 = 0 then field da 0 6 == s.rd (F.ETH_MAC_HI p) * 2 ^ 32 + s.rd (F.ETH_MAC_LO p)
  else if field da 0 6 = 0xFFFFFFFFFFFF then true
  else (s.rd (F.ETH_MC_HASH_HI p) * 2 ^ 32 + s.rd (F.ETH_MC_HASH_LO p)).testBit (Config.mcHash da % 64)

/-- An accepted frame is committed to the port's queue (R222, R413). DEDUCED, unsafe: log entry 100. -/
def State.ethCommit (s : State) (p : Nat) (b info : List Byte) : State :=
  let w := 66 + p
  let t := s.packetStart w w
  if (SMap.find? t.cru.ctx w).isSome then t.packetCommit w b s.raw s.tim.cur.qual.toNat 0 0 info else t.dropCtx w

/-- ETH_FRAME_RX (R413). -/
def execEthFrameRx (p : Fin 2) (bytes : List Byte) (fcsOk : Bool) (s : State) : Host.Outcome State Fault Refusal :=
  s.done (if !s.ethRuns p.val then s
    else if !fcsOk then s.sat (F.ETH_RX_FCS_ERR p.val)
    else if !s.ethPasses p.val bytes || s.rdIn (F.ETH_MAXLEN p.val) 64 9216 < bytes.length + 4 then s.sat (F.ETH_RX_FILTERED p.val)
    else
      let s1 := (s.wrap (F.ETH_RX_FRAMES p.val)).ethStamp p.val 0 bytes
      if s1.domOn Dom.PKT then s1.ethCommit p.val (untag bytes) (tagInfo bytes) else s1)

/-! ## PAUSE and PFC -/

/-- Halts, or with zero quanta releases, what a received frame names (R413). -/
def State.pauseRx (s : State) (p : Nat) (pfc : Bool) (prios quanta : Nat) : State :=
  let named := (if pfc then (List.range 8).filter (fun c => prios.testBit c) else [8]).map (fun c => 16 * p + c)
  let rest := s.chn.halts.filter (fun h => !named.contains h)
  ({ s with chn := { s.chn with halts := if quanta = 0 then rest else rest ++ named } }).sat (F.ETH_PAUSE_RX p)

/-- PAUSE_RX (R413). -/
def execPauseRx (p : Fin 2) (pfc : Bool) (prios : Byte) (quanta : BitVec 16) (s : State) : Host.Outcome State Fault Refusal :=
  s.done (if s.ethRuns p.val then s.pauseRx p.val pfc prios.toNat quanta.toNat else s)

/-- ETH_PAUSE_EXPIRE (R413): the quanta run out. -/
def execEthPauseExpire (p : Fin 2) (c : Fin 9) (s : State) : Host.Outcome State Fault Refusal :=
  s.done { s with chn := { s.chn with halts := s.chn.halts.filter (fun h => h != 16 * p.val + c.val) } }

/-- PAUSE_REFRESH (R414): the frame is repeated while the back-pressure lasts. -/
def execPauseRefresh (p : Fin 2) (s : State) : Host.Outcome State Fault Refusal :=
  s.done (if s.chn.pausing.getLsbD p.val && s.ethRuns p.val && s.classBp 2 then s.sendPause p.val (s.rd (F.ETH_PAUSE_Q p.val)) else s)

/-! ## Transmission -/

/-- May a class of a port transmit: enabled and not halted (R413)? -/
def State.ethClassOpen (s : State) (p c : Nat) : Bool :=
  s.on (F.ETH_TXQ_EN p c) && !s.chn.halts.contains (16 * p + 8) && !s.chn.halts.contains (16 * p + c)

/-- Bytes written into a frame at a place. -/
def putBytes (b : List Byte) (i : Nat) (x : List Byte) : List Byte := b.take i ++ x ++ b.drop (i + x.length)

/-- One-step operation (R90): a Sync or Pdelay_Resp over IEEE 802.3 or UDP/IPv4 whose twoStepFlag is 0 takes the egress time as its originTimestamp, and the IPv4 UDP checksum becomes 0. PRESUMED, unsafe: log entry 132. -/
def State.oneStep (s : State) (frame : List Byte) : List Byte :=
  let b := untag frame
  match ptpAt b with
  | none => frame
  | some i =>
    let ty := field b i 1 % 16
    if (ty = 0 || ty = 3) && !(b.getD (i + 6) 0).getLsbD 1 && i + 44 ≤ b.length && field b 12 2 != 0x86DD then
      let t := (s.convert s.raw).1
      let j := i + (frame.length - b.length)
      let f1 := putBytes frame (j + 34) (be 6 (t / 1000000000) ++ be 4 (t % 1000000000))
      if i = 14 then f1 else putBytes f1 (j - 2) [0, 0]
    else frame

/-- A packet taken from a queue goes out on a port in a traffic class (R413), its cells released. A poisoned one is discarded (R230). -/
def State.ethPut (s : State) (p cls cell : Nat) : State :=
  if s.pktPoison cell then (s.releasePacket cell).sat F.CRU_POISON_DROP
  else
    let b := s.oneStep (withTag ((s.pktBytes cell 0 32).drop 24) (s.pktPayload cell))
    (((s.releasePacket cell).emit (.eth p cls b)).wrap (F.ETH_TX_FRAMES p)).ethStamp p 1 b

/-- A port transmits its next packet (R413): the highest open class whose queue holds one. A poisoned packet is discarded (R230). -/
def State.ethSend (s : State) (p : Nat) : State :=
  if !s.ethRuns p || !s.domOn Dom.PKT then s
  else
    let c := ([7, 6, 5, 4, 3, 2, 1, 0].filter (fun c => s.ethClassOpen p c)).findSome? (fun c =>
      let q := s.rd (F.ETH_TXQ p c)
      if s.consumer q = 4 && s.rd (F.CRU_QCFG_IDX q) = p then (s.popQueue q).map (fun r => (c, r)) else none)
    match c with
    | none => s
    | some (cls, cell, t) => t.ethPut p cls cell

/-- A packet taken from a queue goes out on a chain link as a HOST message (R222, R405). -/
def State.chnPut (s : State) (l c : Nat) : State :=
  let d := field (s.pktBytes c 0 32) 24 1
  (s.sendMsg l (if l = 0 then 0 else d % 64) (l == 1) (l == 1 && d.testBit 7) 9 0 (s.pktLen c) (s.pktPayload c)).releasePacket c

/-- A CHN_TX queue's next packet goes out as a HOST message (R222, R405): on CHN_UP to the HEAD, on CHN_DN to the unit in byte 0 of its source data, bit 7 of which asks for a broadcast (log entry 13). -/
def State.chnSend (s : State) (l : Nat) : State :=
  if !s.linkIsUp l || !s.domOn Dom.PKT then s
  else
    match s.takeTx 3 l 1 with
    | (some c, t) => t.chnPut l c
    | (none, t) => t

/-- A MIR_TX queue's next packet goes out as one frame of the mirror link (R222, R419): its TYPE is in the low four bits of byte 0 of its source data, and a code that the link does not carry sends nothing. DESIGN CHOICE, unsafe: log entry 14. -/
def State.mirQueueSend (s : State) : State :=
  if !s.linkIsUp 2 || !s.domOn Dom.PKT then s
  else
    match s.takeTx 5 0 1 with
    | (some c, t) =>
      let ty := field (t.pktBytes c 0 32) 24 1 % 16
      (if 8 ≤ ty && ty ≤ 12 then t.linkSend 2 { typ := ty, flags := 0x60, src := t.linkSelf 2, dst := 1 - t.linkSelf 2, body := t.pktPayload c } else t).releasePacket c
    | (none, t) => t

/-- What the uplinks send in one tick: one packet a port and link. -/
def State.uplinksSend (s : State) : State := ((((s.ethSend 0).ethSend 1).chnSend 0).chnSend 1).mirQueueSend

end Sys2Proof.Machine
end

