-- ==== Sys2Proof/Machine/Tariff.lean ====
section
/-!
DEFINITION. The tariff engine (chapter 11): tariff set images and the rate of a slot, accounts and bindings, T5, demand windows, billing periods, checkpoints and replay, and a mismatch of the LEGAL cores.
-/
namespace Sys2Proof.Machine

/-! ## Dates (R299) -/

/-- A day number (1970-01-01 is 0) as year, month and day of the Gregorian calendar. -/
def civilOf (days : Int) : Nat × Nat × Nat :=
  let z := (days + 719468).toNat
  let era := z / 146097
  let doe := z % 146097
  let yoe := (doe - doe / 1460 + doe / 36524 - doe / 146096) / 365
  let doy := doe - (365 * yoe + yoe / 4 - yoe / 100)
  let mp := (5 * doy + 2) / 153
  let m := if mp < 10 then mp + 3 else mp - 9
  (yoe + era * 400 + (if m ≤ 2 then 1 else 0), m, doy - (153 * mp + 2) / 5 + 1)

/-- The day number of a date. -/
def daysOf (y m d : Nat) : Int :=
  let y1 := if m ≤ 2 then y - 1 else y
  let era := y1 / 400
  let yoe := y1 % 400
  let doy := (153 * (if 2 < m then m - 3 else m + 9) + 2) / 5 + d - 1
  let doe := yoe * 365 + yoe / 4 - yoe / 100 + doy
  ((era * 146097 + doe : Nat) : Int) - 719468

/-- The weekday of a day number, Monday 0: day 0 is a Thursday. -/
def weekdayOf (days : Int) : Nat := ((days + 3) % 7).toNat

/-- Days of a month. -/
def monthDays (y m : Nat) : Nat :=
  if m = 2 then (if y % 4 = 0 && (y % 100 != 0 || y % 400 == 0) then 29 else 28)
  else if m = 4 || m = 6 || m = 9 || m = 11 then 30 else 31

/-! ## The image of a tariff set (R296) -/

/-- Bytes of an image. -/
def tarSize : Nat := 8432

/-- Counts of the header. -/
def tarSeasons (b : List Byte) : Nat := field b 4 1
def tarWeeks (b : List Byte) : Nat := field b 5 1
def tarDays (b : List Byte) : Nat := field b 6 1
def tarTables (b : List Byte) : Nat := field b 7 1
def tarSpecials (b : List Byte) : Nat := field b 8 2

/-- Offset of a season, a week profile, a day profile, a special day and a table. -/
def tarSeasonAt (i : Nat) : Nat := 16 + 8 * i
def tarWeekAt (i : Nat) : Nat := 112 + 8 * i
def tarDayAt (i : Nat) : Nat := 240 + 72 * i
def tarSpecialAt (i : Nat) : Nat := 4848 + 8 * i
def tarTableAt (i : Nat) : Nat := 6896 + 24 * i

/-- The start of a season within a year, as one number that rises with the date and minute. -/
def seasonKey (b : List Byte) (i : Nat) : Nat :=
  (field b (tarSeasonAt i) 1 * 32 + field b (tarSeasonAt i + 1) 1) * 1440 + field b (tarSeasonAt i + 2) 2

/-- The place of a grid minute within its year, in the same numbers. -/
def minuteKey (m : Nat) : Nat :=
  let (_, mo, d) := civilOf (m / 1440 : Nat)
  (mo * 32 + d) * 1440 + m % 1440

/-- The season whose start was most recent at or before a grid minute, wrapping to the previous year (R299). -/
def seasonAt (b : List Byte) (m : Nat) : Nat :=
  let l := List.range (tarSeasons b)
  let pick := fun (c : List Nat) => c.foldl (fun (x : Option Nat) (i : Nat) => match x with
    | none => some i
    | some j => if seasonKey b j < seasonKey b i then some i else some j) none
  ((pick (l.filter (fun i => decide (seasonKey b i ≤ minuteKey m)))).orElse (fun _ => pick l)).getD 0

/-- The local offset of a season, in minutes. -/
def seasonOffset (b : List Byte) (i : Nat) : Int := ofBeInt ((b.drop (tarSeasonAt i + 4)).take 2)

/-- The local minute of a grid minute under a set. -/
def localMinute (b : List Byte) (m : Nat) : Int := (m : Int) + seasonOffset b (seasonAt b m)

/-- The day profile that applies to a local day (R299): the lowest-numbered special day that matches, else the week profile. -/
def dayProfile (b : List Byte) (table season : Nat) (day : Int) : Nat :=
  let (y, mo, d) := civilOf day
  let sp := (List.range (tarSpecials b)).find? (fun i =>
    let o := tarSpecialAt i
    (field b o 2 == 0 || field b o 2 == y) && field b (o + 2) 1 == mo && field b (o + 3) 1 == d &&
      (field b (o + 5) 1 &&& field b (tarTableAt table + 3) 1) != 0)
  match sp with
  | some i => field b (tarSpecialAt i + 4) 1
  | none => field b (tarWeekAt (field b (tarTableAt table + 4 + season) 1) + weekdayOf day) 1

/-- The used entries of a day profile: minute and rate. -/
def dayEntries (b : List Byte) (p : Nat) : List (Nat × Nat) :=
  ((List.range 24).map (fun j => (field b (tarDayAt p + 3 * j) 2, field b (tarDayAt p + 3 * j + 2) 1))).filter (fun e => e.1 != 0xFFFF)

/-- The rate of a grid minute under a set and a table (R299). An unused table has rate 1. -/
def rateIn (b : List Byte) (table m : Nat) : Nat :=
  if tarTables b ≤ table then 1
  else
    let sn := seasonAt b m
    let lm := localMinute b m
    let md := (lm % 1440).toNat
    let best := (dayEntries b (dayProfile b table sn (lm / 1440))).foldl (fun (x : Option (Nat × Nat)) e =>
      if e.1 ≤ md then (match x with
        | none => some e
        | some y => if y.1 < e.1 then some e else some y) else x) none
    (best.map (fun e => e.2)).getD 1

/-- The held sets in which a slot's set is looked for, newest first: the armed set counts from its ACT_MIN on (R298). -/
def Tar.heldSets (t : Tar) : List TarSet := (t.armed.map (fun a => [a])).getD [] ++ t.sets

/-- The set that governs a grid minute, and whether it is the oldest for want of another (R299). -/
def Tar.setAt (t : Tar) (m : Nat) : Option TarSet × Bool :=
  match t.heldSets.find? (fun x => decide (x.actMin ≤ m)) with
  | some x => (some x, false)
  | none => (t.heldSets.getLast?, !t.heldSets.isEmpty)

/-- The rate of a slot (R299): 1 while no set is held. -/
def State.rateOf (s : State) (table m : Nat) : Nat :=
  match (s.tar.setAt m).1 with
  | some x => rateIn x.image table m
  | none => 1

/-- The table entries of a demand window under the active set (R305): DEM_LEN in minutes and SLIDING. -/
def State.demandOf (s : State) (table : Nat) : Option (Nat × Bool) :=
  match s.tar.sets.head? with
  | some x => if table < tarTables x.image then some (lenMin (field x.image (tarTableAt table + 1) 1), field x.image (tarTableAt table + 2) 1 == 1) else none
  | none => none

/-! ## Accounts -/

/-- The kinds of billing register (R302). -/
def Reg.CUM_IMP : Nat := 0
def Reg.CUM_EXP : Nat := 1
def Reg.NET : Nat := 2
def Reg.CORR_IMP : Nat := 3
def Reg.CORR_EXP : Nat := 4
def Reg.EST_IMP : Nat := 5
def Reg.EST_EXP : Nat := 6

/-- A billing register of an account: kind and rate, 0 for the total. -/
def Acct.reg (a : Acct) (kind e : Nat) : Int := SMap.getD a.regs (kind * 17 + e) 0

/-- Adds to a billing register. -/
def Acct.add (a : Acct) (kind e : Nat) (v : Int) : Acct :=
  let x := a.reg kind e + v
  { a with regs := if x = 0 then SMap.erase a.regs (kind * 17 + e) else SMap.set a.regs (kind * 17 + e) x }

/-- An account at the start of a period (R308): its maxima empty and NET 0. -/
def Acct.fresh (a : Acct) : Acct := { a with regs := a.regs.filter (fun e => e.1 / 17 != Reg.NET), dem := [] }

/-- The account of a number. -/
def State.acct (s : State) (n : Nat) : Acct := SMap.getD s.tar.accts n {}

/-- An account as it stands in the open period: one that the sweep has not reached reads as at the period's start. -/
def State.acctNow (s : State) (n : Nat) : Acct := if s.tar.untouched.contains n then (s.acct n).fresh else s.acct n

/-- The register block of an account as bytes, in a snapshot journal record (R308). -/
def Acct.block (a : Acct) : List Byte :=
  be 1 (a.table) ++ be 1 (b2n a.net) ++ (a.regs.map (fun e => be 1 e.1 ++ beInt 8 e.2)).flatten ++
    (a.dem.map (fun e => (e.2.map (fun x => be 1 (128 + e.1) ++ beInt 8 x.1 ++ be 4 x.2)).flatten)).flatten

/-- Copies an account's register block into the newest stored period, and starts it anew (R308). -/
def State.touchAcct (s : State) (n : Nat) : State :=
  if s.tar.untouched.contains n then
    let a := s.acct n
    let hist := match s.tar.hist with
      | p :: ps => { p with accts := SMap.set p.accts n a } :: ps
      | [] => []
    let left := s.tar.untouched.filter (fun x => x != n)
    ((({ s with tar := { s.tar with accts := SMap.set s.tar.accts n a.fresh, hist := hist, untouched := left } }).wr F.TAR_SWEEP_LEFT left.length).journal 8
      (be 1 0x53 ++ be 4 (s.rd F.TAR_VZ) ++ be 3 n ++ a.block))
  else s

/-- The binding of a record's channel. -/
def State.bindingOf (s : State) (r : Rec) : Option Binding := SMap.find? s.tar.binds (chanKey r.unit r.node r.chan)

/-! ## T5 -/

/-- The import and export parts of a quantity under a binding's DIR (R302). -/
def split (dir : Nat) (x : Int) : Int × Int :=
  match dir with
  | 1 => (x, 0)
  | 2 => (0, x)
  | 3 => (max x 0, max (-x) 0)
  | _ => (0, 0)

/-- Adds a record's parts at one rate (R302). -/
def Acct.accrueAt (a : Acct) (e : Nat) (i x : Int) (valid : Bool) : Acct :=
  let a1 := a.add (if 0 ≤ i then Reg.CUM_IMP else Reg.CORR_IMP) e i
  let a2 := a1.add (if 0 ≤ x then Reg.CUM_EXP else Reg.CORR_EXP) e x
  let a3 := if valid then a2 else (a2.add Reg.EST_IMP e i).add Reg.EST_EXP e x
  if a.net then a3.add Reg.NET e (i - x) else a3

/-- The parts that a record adds: its own less those of the record it displaced, which count only where that record was accrued itself. -/
def accrualParts (dir : Nat) (r : Rec) (disp : Option Rec) : Int × Int :=
  let qd : Int := match disp with | some d => if d.noacc then 0 else d.quantity | none => 0
  ((split dir r.quantity).1 - (split dir qd).1, (split dir r.quantity).2 - (split dir qd).2)

/-- The tariff engine accrues (R292, R320): enabled, and not in RELAY. -/
def State.tarEnabled (s : State) : Bool := s.on F.TAR_CTL_EN && s.role != 1

/-- T5 acts on one record (R302 to R304). -/
def State.accrue (s : State) (r : Rec) (disp : Option Rec) : State :=
  if r.noacc || !s.tarEnabled then s
  else
    match s.bindingOf r with
    | none => (s.sat F.TAR_UNBOUND).raise Pg.TAR 5
    | some b =>
      if b.dir = 0 then (s.sat F.TAR_UNBOUND).raise Pg.TAR 5
      else if r.lseq ≤ b.last then s
      else
        let s1 := s.touchAcct b.acct
        let a := s1.acct b.acct
        let old := (s1.tar.setAt r.istart).2
        let e := s1.rateOf a.table r.istart
        let (i, x) := accrualParts b.dir r disp
        let valid := stHas r.status St.VALID
        let a1 := (a.accrueAt e i x valid).accrueAt 0 i x valid
        let late := decide (r.istart + lenMin r.len ≤ s1.tar.start)
        let b1 := { b with last := r.lseq }
        let s2 := ({ s1 with tar := { s1.tar with
            accts := SMap.set s1.tar.accts b.acct a1
            binds := SMap.set s1.tar.binds (chanKey r.unit r.node r.chan) b1
            lateNow := s1.tar.lateNow + b2n late } }).wrap F.TAR_ACCRUALS
        let s3 := s2.addSat F.TAR_CORR_NEG (b2n (decide (i < 0)) + b2n (decide (x < 0)))
        let s4 := if late then (s3.sat F.TAR_LATE_ACCR).raise Pg.TAR 3 else s3
        if old then (s4.sat F.TAR_OLD_SET).raise Pg.TAR 4 else s4

/-- The T5 task (R294, R302): while the LEGAL core is halted it completes without acting. -/
def State.tariffTask (s : State) (i : Nat) (d : Desc) : State :=
  if s.taskPoison d then s.taskEnd i .poison 0
  else
    match d.record with
    | none => s.taskEnd i .ok 0
    | some r => (if s.on F.LGL_STAT_HALTED then s else s.accrue r d.disp).taskEnd i .ok 0

/-- TARIFF_ACCRUAL (R302). -/
def execTariffAccrual (d : Fin 16384) (s : State) : Host.Outcome State Fault Refusal :=
  s.done (match s.runningTask d.val 4 with
    | some x => s.tariffTask d.val x
    | none => s)

/-! ## Demand (R305, R306) -/

/-- The unit, node and channel of a channel key. -/
def keyUnit (k : Nat) : Nat := k / 2 ^ 19
def keyChan (k : Nat) : Nat := k / 2 ^ 16 % 8
def keyNode (k : Nat) : Nat := k % 2 ^ 16

/-- LEN of a bound channel in minutes: by its configuration, or for a chain unit's channel by its newest record. -/
def State.boundLen (s : State) (k : Nat) : Nat :=
  if keyUnit k = s.unitAddr then lenMin (s.rd (F.PRF_CH_CFG_LEN (chanSel (keyNode k) (keyChan k))))
  else
    match (s.prf.recs.filter (fun e => e.1 / 2 ^ 32 == k)).getLast? with
    | some (_, r :: _) => lenMin r.len
    | _ => 15

/-- Is a bound channel awaited: enabled, or a chain unit's? -/
def State.boundOn (s : State) (k : Nat) : Bool :=
  keyUnit k != s.unitAddr || s.on (F.PRF_CH_CFG_EN (chanSel (keyNode k) (keyChan k)))

/-- The channels bound to an account that are awaited. -/
def State.boundChans (s : State) (n : Nat) : List Nat :=
  ((s.tar.binds.filter (fun e : Nat × Binding => e.2.acct == n && e.2.dir != 0)).map (fun e => e.1)).filter (fun k => s.boundOn k)

/-- The grid minute up to which a channel's slots have closed (R275); a chain unit's go by its newest record. -/
def State.closedTo (s : State) (k : Nat) : Nat :=
  let l := s.boundLen k
  if keyUnit k = s.unitAddr then
    let c := s.chanSt (chanSel (keyNode k) (keyChan k))
    (c.heldFrom.getD s.prf.lastTarget - s.closeLag * l) / l * l
  else
    match (s.prf.recs.filter (fun e => e.1 / 2 ^ 32 == k)).getLast? with
    | some (sl, _) => sl % 2 ^ 32 + l
    | none => 0

/-- The starts of the slots of a window. -/
def windowSlots (from_ len l : Nat) : List Nat := (List.range (len / l)).map (fun j => from_ + j * l)

/-- The current records of a window for one channel; none where a slot has none. -/
def State.windowRecs (s : State) (k from_ len l : Nat) : List (Option Rec) :=
  (windowSlots from_ len l).map (fun a => s.current (k * 2 ^ 32 + a))

/-- Does a record void its window? -/
def voids (r : Option Rec) : Bool :=
  match r with
  | none => true
  | some r => stHas r.status St.GAP || stHas r.status St.POWER_FAIL || stHas r.status St.REPEATED

/-- Enters a candidate into three maxima in descending order (R306): it must exceed the smallest of three; among equals the earlier window ranks higher. -/
def enterMax (l : List (Int × Nat)) (v : Int) (w : Nat) : List (Int × Nat) :=
  if l.length < 3 || (l.getLast?.map (fun x => decide (x.1 < v))).getD true then
    ((l.filter (fun x => decide (v ≤ x.1))) ++ [(v, w)] ++ l.filter (fun x => decide (x.1 < v))).take 3
  else l

/-- Enters a candidate at a rate, for one direction. -/
def Acct.enter (a : Acct) (dir e : Nat) (v : Int) (w : Nat) : Acct :=
  { a with dem := SMap.set a.dem (dir * 17 + e) (enterMax (SMap.getD a.dem (dir * 17 + e) []) v w) }

/-- Evaluates the window that ends at `w` (R305, R306); a record with NOACC gives no quantity (R269). -/
def State.demandWindow (s : State) (n w len l : Nat) : State :=
  let ks := s.boundChans n
  let lists := ks.map (fun k => (k, s.windowRecs k (w - len) len l))
  if lists.any (fun x => x.2.any voids) || s.inOutage (w - len) len || s.everSetBack (w - len) len then s.sat F.TAR_DEM_VOID
  else
    let parts := lists.flatMap (fun x => x.2.filterMap (fun o => o.map (fun r => split ((s.bindingOf r).map (fun b => b.dir) |>.getD 0) (if r.noacc then 0 else r.quantity))))
    let imp := (parts.map (fun p => p.1)).sum * 60 / (len : Int)
    let exp := (parts.map (fun p => p.2)).sum * 60 / (len : Int)
    let s1 := s.touchAcct n
    let a := s1.acct n
    let e := s1.rateOf a.table (w - l)
    let a1 := (((a.enter 0 e imp w).enter 0 0 imp w).enter 1 e exp w).enter 1 0 exp w
    { s1 with tar := { s1.tar with accts := SMap.set s1.tar.accts n a1 } }

/-- The ends of the windows after `from_` and up to `to_` (R305). -/
def windowEnds (from_ to_ step len : Nat) : List Nat :=
  let first := from_ / step * step + step
  ((List.range ((to_ - from_) / step + 1)).map (fun j => first + j * step)).filter (fun w => decide (w ≤ to_) && decide (len ≤ w))

/-- Evaluates the windows of an account whose last slots have closed for every bound channel (R305). -/
def State.demandAcct (s : State) (n : Nat) : State :=
  match s.demandOf (s.acct n).table, s.boundChans n with
  | some (len, sliding), k :: ks =>
    let l := s.boundLen k
    let upto := (ks.map (fun j => s.closedTo j)).foldl min (s.closedTo k)
    let from_ := SMap.getD s.tar.demDone n (upto - l)
    let s1 := (windowEnds from_ upto (if sliding then l else len) len).foldl (fun (t : State) w => t.demandWindow n w len l) s
    { s1 with tar := { s1.tar with demDone := SMap.set s1.tar.demDone n (max from_ upto) } }
  | _, _ => s

/-- The ACTIVE accounts. -/
def State.activeAccts (s : State) : List Nat := (s.tar.accts.filter (fun e : Nat × Acct => e.2.active)).map (fun e => e.1)

/-- Evaluates every account's windows. -/
def State.demandAll (s : State) : State :=
  if s.tarEnabled && s.domOn Dom.LGL && s.on F.LGL_STAT_RUN then s.activeAccts.foldl (fun (t : State) n => t.demandAcct n) s else s

/-! ## Billing periods (R307, R308) -/

/-- The next grid minute after `m` that is local minute BP.MIN of day BP.DAY of a month, local time under the season in force then (R307). A month in which that minute comes twice ends at the first; where it does not come, the season of the same grid minute gives the offset. DEDUCED, unsafe: log entry 84. -/
def State.monthlyEnd (s : State) (m : Nat) : Nat :=
  let img := (s.tar.sets.head?.map (fun x => x.image)).getD []
  let (y, mo, _) := civilOf ((localMinute img m) / 1440)
  let cand := (List.range 3).map (fun k =>
    let mm := mo - 1 + k
    let loc := daysOf (y + mm / 12) (mm % 12 + 1) (s.rdIn F.TAR_BP_DAY 1 28) * 1440 + (s.rdIn F.TAR_BP_MIN 0 1439 : Nat)
    let offs := ((List.range (tarSeasons img)).map (fun i => seasonOffset img i))
    let fits := offs.filter (fun o => localMinute img (loc - o).toNat == loc)
    ((fits.map (fun o => (loc - o).toNat)).min?).getD (loc - seasonOffset img (seasonAt img loc.toNat)).toNat)
  (cand.find? (fun g => decide (m < g))).getD 0

/-- The period end that is due: the earlier of the monthly end and an end asked for; 0 for none. -/
def State.periodEnd (s : State) (m : Nat) : Nat :=
  let monthly := if s.rd F.TAR_BP_MODE = 0 then s.monthlyEnd m else 0
  match s.tar.due with
  | some d => if monthly = 0 then d else min d monthly
  | none => monthly

/-- Writes the next period end after a grid minute to BP_END (R320). DEDUCED, unsafe: log entry 84. -/
def State.armPeriod (s : State) (m : Nat) : State := s.wr F.TAR_BP_END (s.periodEnd m)

/-- Arms the next period end anew, by the rule in BP; an end already reached that waits for its close stays (R307). DEDUCED, unsafe: log entry 84. -/
def State.rearmPeriod (s : State) : State :=
  if s.tar.start != 0 && s.rd F.TAR_BP_END != 0 && decide (s.rd F.TAR_BP_END ≤ s.gridNow) then s else s.armPeriod s.gridNow

/-- Arms the period end as the LEGAL core starts: from the open period's start, or before the first close from now, unless an end stands. -/
def State.startPeriod (s : State) : State :=
  if s.tar.start != 0 then s.armPeriod s.tar.start else if s.rd F.TAR_BP_END = 0 then s.armPeriod s.gridNow else s

/-- May a period that ends at `e` close (R35, R307): at a LEAF when every awaited bound channel has closed its last slot, at a HEAD when every enumerated unit has delivered its last interval; or the grace has passed? -/
def State.mayClose (s : State) (e : Nat) : Bool :=
  let grace := decide (s.minTime e + s.rd F.TAR_CLOSE_GRACE * 1000000000 ≤ s.now)
  let ready := if s.role = 2 then s.chainUnits.all (fun u => s.unitDelivered (s.fileStart (e - 1)) u || s.hlm.unitKept.any (fun b => field b 4 1 % 64 == u && field b 16 4 == s.fileStart (e - 1) && !(field b 3 1).testBit 0))
    else (s.tar.binds.filter (fun b : Nat × Binding => b.2.dir != 0)).all (fun b => !s.boundOn b.1 || decide (e ≤ s.closedTo b.1))
  decide (s.minTime e ≤ s.now) && (grace || ready)

/-- HIST_N as it acts: 1 to 24. -/
def State.histN (s : State) : Nat := s.rdIn F.TAR_HIST_N 1 24

/-- The close of a period once its record stands (R308): the counter, the stored period, and the accounts that wait for their copy. -/
def State.beginPeriod (s : State) (e vz : Nat) : State :=
  let p : Period := ⟨vz, e, s.now, s.tar.lateNow, []⟩
  let left := s.activeAccts
  ((({ s with tar := { s.tar with hist := p :: s.tar.hist, start := e, due := s.tar.due.filter (fun d => decide (e < d)), lateNow := 0, untouched := left } }).wr F.TAR_VZ vz).wr
    F.TAR_SWEEP_LEFT left.length).wr F.TAR_CLOSE_STAT_BUSY 1

/-- The LEGAL core closes the period (R308 step 1). -/
def State.periodClose (s : State) (e : Nat) : State :=
  let vz := (s.rd F.TAR_VZ + 1) % 2 ^ 32
  let s1 := s.journal 8 (be 1 0x43 ++ be 4 vz ++ be 4 e ++ be 8 (s.jrn.seq + 1))
  (s1.beginPeriod e vz).armPeriod e

/-- PERIOD_CLOSE (R307, R308): a close that falls due during a sweep waits. -/
def execPeriodClose (s : State) : Host.Outcome State Fault Refusal :=
  s.done (let e := s.rd F.TAR_BP_END
    if s.lglRuns && s.working && s.tarEnabled && e != 0 && !s.on F.TAR_CLOSE_STAT_BUSY && s.mayClose e then s.periodClose e else s)

/-- The sweep ends (R308 steps 3 to 5): the rest is copied, old periods are released, and the events are written. -/
def State.sweepDone (s : State) : State :=
  let s1 := s.tar.untouched.foldl (fun (t : State) n => t.touchAcct n) s
  let s2 := ({ s1 with tar := { s1.tar with hist := s1.tar.hist.take s1.histN } }.wr F.TAR_CLOSE_STAT_BUSY 0).raiseBits Pg.TAR (2 ^ 1 + 2 ^ 2)
  match s2.tar.hist with
  | p :: _ =>
    let s3 := s2.legalEvent 4 2 7 s2.jrn.seq (be 4 p.vz ++ be 4 p.e)
    if p.late = 0 then s3 else s3.legalEvent 6 2 7 s3.jrn.seq (be 4 p.vz ++ be 4 p.late)
  | [] => s2

/-- PERIOD_SWEEP_DONE (R308). -/
def execPeriodSweepDone (s : State) : Host.Outcome State Fault Refusal :=
  s.done (if s.on F.TAR_CLOSE_STAT_BUSY && s.lglRuns then s.sweepDone else s)

/-! ## Checkpoints, replay and lockstep (R294, R295) -/

/-- The ledger sequence up to which every record has been offered to T5: below those of the T5 tasks that still wait. DEDUCED, unsafe: log entry 85. -/
def State.accruedTo (s : State) : Nat :=
  let l := (s.pln.descs.map (fun e : Nat × Desc => e.2) ++ s.pln.spill).filter (fun d : Desc => d.kind == 4)
  -- a chain unit's record carries that unit's ledger sequence, so the last checkpoint's stands while one waits
  if l.any (fun d : Desc => match d.record with | some r => r.unit != s.unitAddr | none => false) then s.tar.ckpt.seq
  else (l.filterMap (fun d : Desc => d.record.map (fun r => r.lseq - 1))).foldl min s.jrn.seq

/-- Takes a register checkpoint (R295). DEDUCED, unsafe: log entry 20. DEDUCED, unsafe: log entry 85. -/
def State.tarCheckpoint (s : State) : State :=
  { s with tar := { s.tar with ckpt :=
      { seq := s.accruedTo, accts := s.tar.accts, lasts := s.tar.binds.map (fun e : Nat × Binding => (e.1, e.2.last)), hist := s.tar.hist
        start := s.tar.start, untouched := s.tar.untouched, vz := s.rd F.TAR_VZ, late := s.tar.lateNow, demDone := s.tar.demDone } } }

/-- TARIFF_CHECKPOINT (R295): CKPT_PERIOD has passed. -/
def execTariffCheckpoint (s : State) : Host.Outcome State Fault Refusal :=
  s.done (if s.lglRuns && s.rd F.IGT_STATE_MODE < 4 then s.tarCheckpoint else s)

/-- The record that a filed record displaced: the one that was current before it, unless it is an annex record itself. -/
def State.displacedBy (s : State) (r : Rec) : Option Rec :=
  if r.annex then none else ((s.slotRecs r.slotKey).filter (fun x : Rec => !x.annex && decide (x.lseq < r.lseq))).getLast?

/-- One journal record in the replay (R295): a T4 record accrues, a close record closes. -/
def State.replayTariff (s : State) (j : JRec) : State :=
  if j.kind = 1 then (let r := recOfT4 j.body; s.accrue r (s.displacedBy r))
  else if j.kind = 8 && field j.body 0 1 == 0x43 && decide (s.rd F.TAR_VZ < field j.body 1 4) then s.beginPeriod (field j.body 5 4) (field j.body 1 4)
  else s

/-- The journal's records, oldest first. -/
def State.journalRecs (s : State) : List JRec := s.jrn.pages.flatten ++ s.jrn.tail

/-- The LEGAL core starts (R294, R295): it loads the latest checkpoint, replays every later T4 record in ledger-sequence order, and writes a LOCKSTEP event that waits. DESIGN CHOICE, unsafe: log entry 67. -/
def State.legalStart (s : State) : State :=
  let c := s.tar.ckpt
  let s1 := ({ s with tar := { s.tar with
      accts := c.accts, hist := c.hist, start := c.start, untouched := c.untouched, lateNow := c.late, demDone := c.demDone
      binds := s.tar.binds.map (fun e : Nat × Binding => (e.1, { e.2 with last := SMap.getD c.lasts e.1 0 })) } }).wr F.TAR_VZ c.vz
  let s2 := (s1.journalRecs.filter (fun j => decide (c.seq < j.seq))).foldl (fun (t : State) j => t.replayTariff j) s1
  let s3 := ((s2.wr F.LGL_STAT_RUN (if s2.on F.LGL_STAT_HALTED then 0 else 1)).wr F.TAR_ACCOUNTS s2.activeAccts.length).wr F.TAR_SWEEP_LEFT s2.tar.untouched.length
  let s4 := ((s3.wr F.TAR_CLOSE_STAT_BUSY (b2n (!s3.tar.untouched.isEmpty))).wr F.TAR_GEN_ACT ((s3.tar.sets.head?.map (fun x => x.gen)).getD 0)).wr F.TAR_GEN_PEND ((s3.tar.armed.map (fun x => x.gen)).getD 0)
  let s5 := ((s4.wr F.LGL_LOG_NEAR (b2n (decide (960 ≤ s4.lgl.sinceAck)))).wr F.TAR_ACT_MIN ((s3.tar.armed.map (fun x => x.actMin)).getD 0)).startPeriod
  if s5.lgl.lockPend then
    ({ s5 with lgl := { s5.lgl with lockPend := false } }).legalEvent 10 2 7 s5.jrn.seq (be 4 s5.lgl.lockstep.length)
  else s5

/-- The LEGAL cores disagree (R294): the core halts, the domain is reset, and a third mismatch within an hour halts the core for good. -/
def State.lockstepMismatch (s : State) : State :=
  let hour := (s.raw :: s.lgl.lockstep).filter (fun t => decide (s.raw < t + 3600 * 250000000))
  let s1 := { s with
    lgl := { s.lgl with lockstep := hour, lockPend := true }
    rst := { s.rst with asked := s.rst.asked ++ [(Dom.LGL, 2)] } }
  let s2 := ((s1.wr F.LGL_STAT_RUN 0).sat F.LGL_LOCKSTEP_ERR).raise Pg.LGL 2
  if 3 ≤ hour.length then (s2.wr F.LGL_STAT_HALTED 1).raise Pg.LGL 5 else s2

end Sys2Proof.Machine
end

