-- ==== Sys2Proof/Machine/Aggregate.lean ====
section
/-!
DEFINITION. The HEAD's side of the chain and what a RELAY answers it (R35, R36, R337, R341, R404 to R411): registered keys, the node table, batches and their requests, and forwarded proofs.
-/
namespace Sys2Proof.Machine

/-- What the HEAD keeps of a unit. -/
def State.unit (s : State) (u : Nat) : UnitInfo := SMap.getD s.chn.units u {}

/-- Sets what the HEAD keeps of a unit. -/
def State.setUnit (s : State) (u : Nat) (x : UnitInfo) : State := { s with chn := { s.chn with units := SMap.set s.chn.units u x } }

/-! ## Keys and nodes -/

/-- Registers a unit's seal key after its certificate chain (R404, R468): the key used last first, two at most. -/
def State.registerUnit (s : State) (u : Nat) (cert sealCert : List Byte) : State :=
  let (k, s1) := s.invoke 10 Mst.SEC true Use.ANCHOR
  match k with
  | none => s1.sat F.CHN_MIC_FAIL
  | some anchor =>
    if Config.certVerify anchor cert && Config.certVerify (Config.certSubject cert) sealCert then
      let key := Config.certSubject sealCert
      let x := s1.unit u
      s1.setUnit u { x with keys := (key :: x.keys.filter (fun k => k != key)).take 2 }
    else s1.sat F.CHN_MIC_FAIL

/-- UNIT_ID (R404). -/
def execUnitId (unit : BitVec 6) (cert sealCert : List Byte) (s : State) : Host.Outcome State Fault Refusal :=
  s.done (if s.role = 2 && s.domOn Dom.SEC then s.registerUnit unit.toNat cert sealCert else s)

/-- UNIT_CMD REVOKE (R404): the key that UNIT_KEY names is no longer registered. -/
def State.unitRevoke (s : State) (u : Nat) : State :=
  let x := s.unit u
  s.setUnit u { x with keys := x.keys.filter (fun k => ofBe (keyId k) != s.rd F.CHN_UNIT_KEY) }

/-- Has a node a binding? -/
def State.nodeBound (s : State) (unit node : Nat) : Bool :=
  s.tar.binds.any (fun e : Nat × Binding => keyUnit e.1 == unit && keyNode e.1 == node && e.2.dir != 0)

/-- UNIT_CMD FORGET (R410): the unit's nodes without a binding leave the node table. -/
def State.unitForget (s : State) (u : Nat) : State :=
  let keep := s.chn.nodes.filter (fun e : Nat × Nat => e.1 / 65536 != u || s.nodeBound u (e.1 % 65536))
  ({ s with chn := { s.chn with nodes := keep } }).wr F.CHN_NODES_USED keep.length

/-- A write of CHN.UNIT_CMD (R416), which acts in HEAD. -/
def State.unitCmd (s : State) (v : Word) : State :=
  if s.role != 2 then s
  else
    let u := s.rd F.CHN_UNIT_SEL
    match bits v 1 0 with
    | 1 => s.unitRevoke u
    | 2 => s.unitForget u
    | _ => s

/-- UNIT_REVOKE (R404). -/
def execUnitRevoke (m : Master) (v : Word) (s : State) : Host.Outcome State Fault Refusal :=
  s.done (s.guarded m Pg.CHN 0x70 (fun s => s.unitCmd v))

/-- UNIT_FORGET (R410). -/
def execUnitForget (m : Master) (v : Word) (s : State) : Host.Outcome State Fault Refusal :=
  s.done (s.guarded m Pg.CHN 0x70 (fun s => s.unitCmd v))

/-! ## Requests and acknowledgements -/

/-- SEQ, ISTART and the end of the interval of a seal (R330). -/
def sealSeqOf (b : List Byte) : Nat := field b 8 8
def sealStart (b : List Byte) : Nat := field b 16 4
def sealEnd (b : List Byte) : Nat := sealStart b + lenMin (field b 5 1)

/-- Asks a unit for a batch (R408), unless that SEQ is asked for already: then REQ_TO decides. -/
def State.requestBatch (s : State) (u seq : Nat) : State :=
  let x := s.unit u
  match x.asked with
  | some (q, _) => if q = seq then s
    else ((s.setUnit u { x with asked := some (seq, 1) }).sat F.CHN_BATCH_REQ).toUnit u 3 0 (be 8 seq)
  | none => ((s.setUnit u { x with asked := some (seq, 1) }).sat F.CHN_BATCH_REQ).toUnit u 3 0 (be 8 seq)

/-- Is a batch durable: all its records and its seal journaled, and held by the partner (R408, R440)? -/
def State.ackReady (s : State) (a : BatchAck) : Bool := match a.jseq with | some j => s.partnerHas j | none => false

/-- Acknowledges the batches that are durable (R408). DEDUCED, unsafe: log entry 100. -/
def State.flushAcks (s : State) : State :=
  let s1 := { s with chn := { s.chn with acks := s.chn.acks.filter (fun a => !s.ackReady a) } }
  (s.chn.acks.filter (fun a => s.ackReady a)).foldl (fun (t : State) (a : BatchAck) => t.toUnit a.unit 2 0 (be 8 a.seq)) s1

/-- Journals the seals of the batches whose records are all filed (R408), evaluates the demand windows that their records complete, and acknowledges what is durable. DEDUCED, unsafe: log entry 99. -/
def State.settleBatches (s : State) : State :=
  let done := fun (a : BatchAck) => a.jseq.isNone && a.left == 0
  if !s.chn.acks.any done then s
  else
    let (l, s1) := s.chn.acks.foldl (fun (x : List BatchAck × State) a =>
      if done a then (let t := x.2.journal 5 a.sealB; (x.1 ++ [{ a with jseq := some t.jrn.seq }], t)) else (x.1 ++ [a], x.2)) ([], s)
    (({ s1 with chn := { s1.chn with acks := l } }).demandAll).flushAcks

/-- Has a batch lost PROFILE tasks, so that it cannot complete? -/
def State.batchLost (s : State) (a : BatchAck) : Bool :=
  let tasks := (s.pln.descs.map (fun e : Nat × Desc => e.2) ++ s.pln.spill).filter (fun d : Desc =>
    d.kind == 3 && (match d.record with | some r => r.unit == a.unit && r.startC == a.startC | none => false))
  a.jseq.isNone && decide (tasks.length < a.left)

/-- A unit's batches that cannot complete, and those after them, are taken back: their SEQ is due again. DEDUCED, unsafe: log entry 99. -/
def State.dropLost (s : State) (u : Nat) : State :=
  match s.chn.acks.find? (fun a => a.unit == u && s.batchLost a) with
  | none => s
  | some a =>
    let gone := fun (b : List Byte) => field b 4 1 == u && decide (a.seq ≤ field b 8 8)
    let s1 := { s with
      chn := { s.chn with acks := s.chn.acks.filter (fun x => !(x.unit == u && decide (a.seq ≤ x.seq))) }
      hlm := { s.hlm with unitKept := s.hlm.unitKept.filter (fun b => !gone b), unitSeals := s.hlm.unitSeals.filter (fun x => !gone x.bytes) } }
    s1.setUnit u { s1.unit u with lastSeq := some (a.seq - 1), digest := (a.sealB.drop 120).take 48 }

/-! ## Verification -/

/-- Steps 1 to 3 of R337: the format, the key registered for the address, and the signature. Answers the key. -/
def State.sealKey (s : State) (u : Nat) (b : List Byte) : Option (List Byte) :=
  if b.length != 288 || field b 0 2 != 1 || field b 2 1 != 0 || field b 4 1 != u then none
  else ((s.unit u).keys.find? (fun k => keyId k == (b.drop 168).take 4)).bind (fun k =>
    if Config.ecdsaVerify k (b.take 192) ((b.drop 192).take 96) then some k else none)

/-- A canonical record with bit 14 of STATUS at 0 (R409). -/
def clearSealed (b : List Byte) : List Byte := b.take 8 ++ be 2 (field b 8 2 % 0x4000 + field b 8 2 / 0x8000 * 0x8000) ++ b.drop 10

/-- Step 5 of R337: the records give the root, and their number is NLEAF. -/
def rootOk (b : List Byte) (recs : List (List Byte)) : Bool :=
  recs.all (fun r => r.length == 85) && recs.length == field b 52 4 && treeRoot (recs.map leafHash) == (b.drop 72).take 48

/-- A verification failure (R36, R337, R408): counted, written to the legal log, and the batch is asked for again. -/
def State.batchFail (s : State) (u : Nat) (b : List Byte) (want : Nat) : State :=
  let s1 := ((s.sat F.HLM_UNIT_FAIL).raise Pg.HLM 2).sat F.CHN_BATCH_FAIL |>.raise Pg.CHN 4
  let s2 := s1.legalEvent 12 3 7 s1.jrn.seq (be 1 u ++ be 4 (sealStart b))
  (s2.setUnit u { s2.unit u with bad := some b }).requestBatch u want

/-! ## Filing -/

/-- Files a chain unit's record as it was received (R274): its ledger sequence, tree and leaf are that unit's. -/
def State.fileChain (s : State) (r : Rec) : Option Rec × State :=
  let disp := if r.annex || r.kind = 3 then none else s.current r.slotKey
  (disp, (((s.journal 1 r.t4Body).keepRec r).countFiled r).touchSegment r)

/-- A record of a batch (R324, R409), as its unit filed it. -/
def batchRec (u startC lidx : Nat) (b : List Byte) : Rec :=
  { recOfCanonical b ((b.drop 69).take 16 != be 16 0) with unit := u, lidx := lidx, startC := startC }

/-- Makes a task of kind `k` for a chain unit's record, as an internal creation in its node's flow (R409, R410). -/
def State.chainTask (s : State) (k flow : Nat) (r : Rec) (disp : Option Rec) : State :=
  let c := s.pln.nextChain
  ({ s with pln := { s.pln with nextChain := c + 1 } }).create { Desc.make (s.rd F.PLN_BND_PRIO) k true flow 0 0xFFFF r.stamp c [] with record := some r, disp := disp }

/-- Makes the PROFILE task of one record of an accepted batch (R409, R410); a record whose node the full table does not name is counted. -/
def State.fileBatchRec (s : State) (r : Rec) : State :=
  let s1 := s.enterNode r.unit r.node
  match s1.nodeIndex r.unit r.node with
  | none => (s1.sat F.CHN_UNREG_REC).raise Pg.CHN 6
  | some flow => s1.chainTask 3 flow r none

/-- The PROFILE task of a chain unit's record ends (R409): its ACCRUE task is made, with the record that it displaced; a SUMMARY accrues nothing. -/
def State.batchFiled (s : State) (i : Nat) (d : Desc) (r : Rec) : State :=
  let s1 := (if r.kind = 3 then s else s.chainTask 4 d.flow r d.disp).taskEnd i .ok 0
  ({ s1 with chn := { s1.chn with acks := s1.chn.acks.map (fun a : BatchAck => if a.unit = r.unit && a.startC = r.startC && a.jseq.isNone then { a with left := a.left - 1 } else a) } }).settleBatches

/-- T4 of a chain unit's record (R274, R409): it waits as T4 waits, and files the record as it was received. -/
def State.batchTask (s : State) (i : Nat) (d : Desc) (r : Rec) : State :=
  if !s.working then s.taskEnd i .ok 0
  else if d.arg != 0 then (if s.writeThrough && s.jrn.tail.any (fun x => x.seq + 1 == d.arg) then s else s.batchFiled i d r)
  else if s.igtFull && !s.on F.PRF_STATE_FALLBACK then s
  else if !s.jrnRoom then s.sat F.IGT_JRNL_WAIT
  else
    let (disp, s1) := s.fileChain r
    let d1 := { d with arg := s1.jrn.seq + 1, disp := disp }
    let s2 := s1.setDesc i d1
    if s.writeThrough then s2 else s2.batchFiled i d1 r

/-- PROFILE_UPDATE (R269, R409): T4 of a frame's value, or of a record that a batch brought. -/
def execProfileUpdate (d : Fin 16384) (s : State) : Host.Outcome State Fault Refusal :=
  s.done (match s.runningTask d.val 3 with
    | some x => (match x.record with | some r => s.batchTask d.val x r | none => s.profileTask d.val x)
    | none => s)

/-- A unit seal is kept for the re-seals (R338): LATE where its interval has its re-seal already. DEDUCED, unsafe: log entry 99. -/
def State.keepUnitSeal (s : State) (u : Nat) (b : List Byte) (bad : Bool) : State :=
  let late := s.hlm.reseals.any (fun x => x.istart == sealStart b)
  let same := fun (x : UnitSeal) => x.unit == u && x.bad && sealStart x.bytes == sealStart b && field x.bytes 6 2 == field b 6 2
  let x : UnitSeal := ⟨u, b, bad, late⟩
  let s1 := { s with hlm := { s.hlm with unitSeals := s.hlm.unitSeals.filter (fun y => !same y) ++ [x] } }
  if late then s1.sat F.HLM_LATE_UNIT else s1

/-- A verified batch is accepted (R35, R337, R408, R409). DEDUCED, unsafe: log entry 99. -/
def State.acceptBatch (s : State) (u : Nat) (key b : List Byte) (recs : List (List Byte)) : State :=
  let rs := recs.mapIdx (fun i x => batchRec u (field b 24 8) i x)
  let s0 := (rs.foldl (fun (t : State) r => t.fileBatchRec r) s).plnSync
  let s1 := s0.keepUnitSeal u b false
  let s2 := ({ s1 with hlm := { s1.hlm with unitKept := s1.hlm.unitKept ++ [b] } }).wrap F.HLM_UNIT_OK
  let x := s2.unit u
  let s3 := s2.setUnit u { x with
    keys := key :: x.keys.filter (fun k => k != key), lastSeq := some (sealSeqOf b), digest := sealDigest b, bad := none
    asked := match x.asked with | some (q, n) => if q ≤ sealSeqOf b then none else some (q, n) | none => none }
  let s4 := if 0 < s3.tar.start && sealEnd b ≤ s3.tar.start then s3.legalEvent 5 3 7 s3.jrn.seq (be 1 u ++ be 4 (sealStart b)) else s3
  let a : BatchAck := { unit := u, seq := sealSeqOf b, startC := field b 24 8, left := (rs.filter (fun r => (s0.nodeIndex u r.node).isSome)).length, sealB := b }
  ({ s4 with chn := { s4.chn with acks := s4.chn.acks ++ [a] } }).settleBatches

/-- Holds a batch whose turn has not come, up to 16 per unit (R337). -/
def State.holdBatch (s : State) (u : Nat) (b : List Byte) (recs : List (List Byte)) : State :=
  let x := s.unit u
  if 16 ≤ x.held.length || x.held.any (fun h => sealSeqOf h.sealB == sealSeqOf b) then s
  else s.setUnit u { x with held := x.held ++ [⟨b, recs⟩] }

/-- A batch whose SEQ is due is judged under steps 4 and 5 (R337); false where it is not accepted. With no accepted seal before it, PREV is not checked. -/
def State.tryBatch (s : State) (u : Nat) (key b : List Byte) (recs : List (List Byte)) : Bool × State :=
  let x := s.unit u
  let plain := recs.map clearSealed
  let n := plain.length
  let s1 := s.compress ((if n = 0 then 0 else 2 * n - 1) + 2)
  if !x.digest.isEmpty && (b.drop 120).take 48 != x.digest then (false, (s1.setUnit u { x with bad := some b }).requestBatch u (sealSeqOf b))
  else if !rootOk b plain then (false, s1.batchFail u b (sealSeqOf b))
  else (true, s1.acceptBatch u key b plain)

/-- Takes the held batches whose turn has come, in SEQ order, and asks for the first that is missing (R337). -/
def State.takeHeld (s : State) (u : Nat) : Nat → State
  | 0 => s
  | fuel + 1 =>
    let x := s.unit u
    match x.lastSeq with
    | none => s
    | some q =>
      match x.held.find? (fun h => sealSeqOf h.sealB == q + 1) with
      | some h =>
        let s1 := s.setUnit u { x with held := x.held.filter (fun g => decide (q + 1 < sealSeqOf g.sealB)) }
        (match s1.sealKey u h.sealB with
          | none => s1.batchFail u h.sealB (q + 1)
          | some key =>
            match s1.tryBatch u key h.sealB h.recs with
            | (true, t) => t.takeHeld u fuel
            | (false, t) => t)
      | none => if x.held.isEmpty then s else s.requestBatch u (q + 1)

/-- A BATCH message arrives (R337): steps 1 to 3, then by its SEQ. A seal accepted before is acknowledged again once it is durable. -/
def State.batchIn (s00 : State) (u : Nat) (b : List Byte) (recs : List (List Byte)) : State :=
  let s := s00.dropLost u
  let x := s.unit u
  let want := (x.lastSeq.map (fun q => q + 1)).getD (sealSeqOf b)
  let s0 := s.wrap F.PKE_VERIFIES
  match s0.sealKey u b with
  | none => s0.batchFail u b want
  | some key =>
    if sealSeqOf b < want then (if s0.chn.acks.any (fun a => a.unit == u && a.seq == sealSeqOf b) then s0 else s0.toUnit u 2 0 (be 8 (sealSeqOf b)))
    else if want < sealSeqOf b then (s0.holdBatch u b recs).requestBatch u want
    else if !s0.jrnRoom then (s0.sat F.IGT_JRNL_WAIT).holdBatch u b recs
    else match s0.tryBatch u key b recs with
      | (true, t) => t.takeHeld u 16
      | (false, t) => t

/-- Does the HEAD aggregate: HEAD, with the domains that a batch needs? -/
def State.aggregates (s : State) : Bool := s.role == 2 && s.domOn Dom.PKT && s.domOn Dom.TSK && s.domOn Dom.UPL

/-- BATCH (R337, R409). -/
def execBatch (unit : BitVec 6) (sealB : List Byte) (recs : List (List Byte)) (s : State) : Host.Outcome State Fault Refusal :=
  s.done (if s.aggregates then s.batchIn unit.toNat sealB recs else s)

/-! ## Three failures -/

/-- The grid minute and length of the interval of a SEQ that did not come (R36): from the seal that failed, from the held seal after it, or from the last accepted one. -/
def State.missedInterval (s : State) (u q : Nat) : Option (Nat × Nat) :=
  let x := s.unit u
  match x.bad, x.held.find? (fun h => sealSeqOf h.sealB == q + 1), (s.hlm.unitKept.filter (fun b => field b 4 1 == u)).getLast? with
  | some b, _, _ => some (sealStart b, lenMin (field b 5 1))
  | none, _, some b => some (if (field b 3 1).testBit 0 then sealStart b else sealEnd b, lenMin (field b 5 1))
  | none, some h, none => some (sealStart h.sealB - lenMin (field h.sealB 5 1), lenMin (field h.sealB 5 1))
  | none, none, none => none

/-- The channels of a unit that the HEAD knows, with their newest record. -/
def State.unitChans (s : State) (u : Nat) : SMap Rec :=
  s.prf.recs.foldl (fun (m : SMap Rec) (e : Nat × List Rec) =>
    if keyUnit (e.1 / 2 ^ 32) = u then (match e.2.getLast? with | some r => SMap.set m (e.1 / 2 ^ 32) r | none => m) else m) []

/-- The GAP record of a chain unit's slot (R36). -/
def State.chainGap (s : State) (r : Rec) (a : Nat) : Rec :=
  let (t, _, q) := s.convert s.raw
  { unit := r.unit, node := r.node, chan := r.chan, kind := r.kind, len := r.len, istart := a, status := St.GAP
    lseq := s.jrn.seq + 1, stamp := s.raw, time := t, qual := q.toNat, eui := r.eui }

/-- Marks a unit's interval as GAP for every value the HEAD would have filed from it (R36). -/
def State.markGaps (s : State) (u from_ len : Nat) : State :=
  (s.unitChans u).foldl (fun (t : State) (e : Nat × Rec) =>
    let l := lenMin e.2.len
    ((List.range len).map (fun i => from_ + i)).foldl (fun (t : State) a =>
      if a % l = 0 && (t.current (e.1 * 2 ^ 32 + a)).isNone then (t.fileChain (t.chainGap e.2 a)).2 else t) t) s

/-- The third request for a SEQ has failed (R36, R337): the break is counted and logged, the interval marked, and the held seals are taken. -/
def State.chainBreak (s : State) (u q : Nat) : State :=
  let span := s.missedInterval u q
  let s1 := (s.sat F.HLM_CHAIN_BREAK).raise Pg.HLM 3
  let s2 := s1.legalEvent 12 3 7 s1.jrn.seq (be 1 u ++ be 4 ((span.map (fun x => x.1)).getD 0))
  let s3 := match span with | some (a, n) => s2.markGaps u a n | none => s2
  let s4 := match (s3.unit u).bad with | some b => s3.keepUnitSeal u b true | none => s3
  (s4.setUnit u { s4.unit u with lastSeq := some q, digest := [], asked := none, bad := none }).takeHeld u 16

/-- REQ_TO has passed since a request (R337, R408). -/
def State.requestTimer (s00 : State) (u : Nat) : State :=
  let s := s00.dropLost u
  let x := s.unit u
  match x.asked with
  | none => if x.lastSeq != (s00.unit u).lastSeq then s.requestBatch u (((x.lastSeq.map (fun q => q + 1)).getD 0)) else s.takeHeld u 16
  | some (q, n) =>
    if n < 3 then ((s.setUnit u { x with asked := some (q, n + 1) }).sat F.CHN_BATCH_REQ).toUnit u 3 0 (be 8 q)
    else s.chainBreak u q

/-- BATCH_REQ_TIMER (R408). -/
def execBatchReqTimer (unit : BitVec 6) (s : State) : Host.Outcome State Fault Refusal :=
  s.done (if s.aggregates then s.requestTimer unit.toNat else s)

/-! ## A RELAY is answered -/

/-- BATCH_ACK (R408). -/
def execBatchAck (seq : BitVec 64) (s : State) : Host.Outcome State Fault Refusal :=
  s.done (if s.role = 1 then
      ({ s with chn := { s.chn with inFlight := s.chn.inFlight.filter (fun q => q != seq.toNat) } }).sendBatches 8
    else s)

/-- BATCH_REQ (R408). -/
def execBatchReq (seq : BitVec 64) (s : State) : Host.Outcome State Fault Refusal :=
  s.done (if s.role = 1 && s.linkIsUp 0 && !s.on F.CHN_STAT_ADDR_CHANGED then s.sendBatch seq.toNat else s)

/-- PROOF_REQ (R341): the unit makes the proof and answers. -/
def execProofReq (body : List Byte) (s : State) : Host.Outcome State Fault Refusal :=
  s.done (if s.role = 1 && s.domOn Dom.PKT then
      (match s.ownProof (field body 0 4) (field body 4 4) (field body 8 1) false with
        | .inl b => s.toHead 6 1 b
        | .inr c => s.toHead 6 c [])
    else s)

/-- A forwarded proof comes back (R339, R341): the HEAD appends the re-seal extension where it is asked for. -/
def State.proofBack (s : State) (ext : Bool) (res : Nat) (proof : List Byte) : State :=
  if res != 1 then s.prqEnd res
  else if !ext then s.prqAnswer proof
  else match s.proofExt ((proof.drop 96).take 288) with
    | some e => s.prqAnswer (proof.take 3 ++ be 1 1 ++ proof.drop 4 ++ e)
    | none => s.prqEnd 3

/-- PROOF_RSP (R341). -/
def execProofRsp (unit : BitVec 6) (res : Fin 9) (proof : List Byte) (s : State) : Host.Outcome State Fault Refusal :=
  s.done (match s.hlm.prq with
    | some p => if p.unit = unit.toNat && p.unit != 0 then s.proofBack p.ext res.val proof else s
    | none => s)

/-- PROOF_UNREACHABLE (R341). -/
def execProofUnreachable (s : State) : Host.Outcome State Fault Refusal :=
  s.done (match s.hlm.prq with
    | some p => if p.unit != 0 then s.prqEnd 7 else s
    | none => s)

/-- CHN_EVENT (R405): the spec gives an EVENT message no effect beyond its delivery. -/
def execChnEvent (_unit : BitVec 6) (_body : List Byte) (s : State) : Host.Outcome State Fault Refusal := s.done s

/-- CHN_HOST (R405): the body is opaque; its frames reach host software through queue 64 or 65. -/
def execChnHost (_unit : BitVec 6) (_body : List Byte) (s : State) : Host.Outcome State Fault Refusal := s.done s

end Sys2Proof.Machine
end

