-- ==== Sys2Proof/Machine/Touchstone.lean ====
section
/-!
DEFINITION. Touchstone (chapter 13): group configurations, contributions, closes, the technical-loss model, the detectors and the reports.
-/
namespace Sys2Proof.Machine

/-! ## Rounding -/

/-- The quotient of two integers to the nearest, halves away from zero; the divisor is above 0. DESIGN CHOICE, unsafe: log entry 87. -/
def divNear (n d : Int) : Int := if 0 ≤ n then (2 * n + d) / (2 * d) else -((2 * -n + d) / (2 * d))

/-- The integer square root, rounded down, of a number below 2^256. -/
def isqrt (n : Nat) : Nat := (List.range 128).foldl (fun r i => let t := r + 2 ^ (127 - i); if t * t ≤ n then t else r) 0

/-- The square root of a quotient, to the nearest integer. -/
def sqrtNear (n d : Nat) : Nat := (isqrt (4 * n / d) + 1) / 2

/-! ## Configurations (R347 to R350) -/

/-- The key of a member in the banked registers. -/
def mbrKey (g i : Nat) : Nat := g * 1024 + i

/-- What is known of a member. -/
def State.tchMbr (s : State) (b : Nat) : TchMbr := SMap.getD s.tch.mbrs b {}

/-- Sets what is known of a member. -/
def State.setMbr (s : State) (b : Nat) (x : TchMbr) : State := { s with tch := { s.tch with mbrs := SMap.set s.tch.mbrs b x } }

/-- The members of a group that are enabled, by number. -/
def State.groupMembers (s : State) (g : Nat) : List Nat := ((listedBanks s.regs F.TCH_MBR_CFG_EN).filter (fun b => b / 1024 == g)).map (fun b => b % 1024)

/-- The phase a member's energy is added to (R365). -/
def State.effPhase (s : State) (b : Nat) : Nat :=
  match (s.tchMbr b).lph with
  | some p => if s.on F.TCH_CTL_PH_AUTO && s.rd (F.TCH_MBR_CFG_CPH b) != 3 then p else s.rd (F.TCH_MBR_CFG_CPH b)
  | none => s.rd (F.TCH_MBR_CFG_CPH b)

/-- A member as its registers give it: DIR 0 acts as 3. -/
def State.mbrCfg (s : State) (g i : Nat) : TchMbrCfg :=
  let b := mbrKey g i
  { idx := i, node := s.rd (F.TCH_MBR_CFG_NODE b), ch := s.rd (F.TCH_MBR_CFG_CH b)
    vch := if s.on (F.TCH_MBR_CFG_V_EN b) then some (s.rd (F.TCH_MBR_CFG_VCH b)) else none
    cph := s.rd (F.TCH_MBR_CFG_CPH b), dir := if s.rd (F.TCH_MBR_CFG_DIR b) = 0 then 3 else s.rd (F.TCH_MBR_CFG_DIR b), phase := s.effPhase b }

/-- A group's configuration as the registers give it, acting from a grid minute. -/
def State.groupCfg (s : State) (g from_ : Nat) : TchVer :=
  { from_ := from_, en := s.on (F.TCH_GRP_CFG_EN g), phases := s.rd (F.TCH_GRP_CFG_PHASES g), len := s.rd (F.TCH_GRP_CFG_LEN g), ref := s.rd (F.TCH_GRP_REF_NODE g)
    refE := [s.rd (F.TCH_GRP_REF_CH_E1 g), s.rd (F.TCH_GRP_REF_CH_E2 g), s.rd (F.TCH_GRP_REF_CH_E3 g)]
    refV := if s.on (F.TCH_GRP_REF_CH_V_EN g) then some [s.rd (F.TCH_GRP_REF_CH_V1 g), s.rd (F.TCH_GRP_REF_CH_V2 g), s.rd (F.TCH_GRP_REF_CH_V3 g)] else none
    members := (s.groupMembers g).map (fun i => s.mbrCfg g i) }

/-- The start of the next interval of a group. -/
def State.nextGroupStart (s : State) (g : Nat) : Nat :=
  let l := lenMin (s.rd (F.TCH_GRP_CFG_LEN g))
  (s.gridNow / l + 1) * l

/-- Lets a group's configuration act from the start of its next interval (R350). -/
def State.newVersion (s : State) (g : Nat) : State :=
  let c := s.groupCfg g (s.nextGroupStart g)
  let old := (SMap.getD s.tch.vers g []).filter (fun v : TchVer => decide (v.from_ < c.from_))
  let s1 := { s with tch := { s.tch with vers := SMap.set s.tch.vers g ((c :: old).take 12) } }
  (if (SMap.find? s.tch.closedTo g).isSome then s1 else { s1 with tch := { s1.tch with closedTo := SMap.set s1.tch.closedTo g c.from_ } }).wr F.TCH_GRP_USED s1.enabledGroups.length

/-- The configuration that acts for an interval: the newest one from at or before its start. -/
def State.verAt (s : State) (g a : Nat) : Option TchVer := ((SMap.getD s.tch.vers g []).find? (fun v : TchVer => decide (v.from_ ≤ a))).filter (fun v => v.en)

/-- The configurations as the registers give them, for every group, after the registers were loaded (R372). -/
def State.tchReload (s : State) : State :=
  let gs := s.enabledGroups
  let vers : SMap (List TchVer) := gs.map (fun g => (g, [s.groupCfg g 0]))
  let closed := gs.foldl (fun (m : SMap Nat) g => if (SMap.find? m g).isSome then m else SMap.set m g (s.nextGroupStart g)) s.tch.closedTo
  ({ s with tch := { s.tch with vers := gs.foldl (fun (m : SMap (List TchVer)) g => SMap.set m g (SMap.getD vers g [])) [], closedTo := closed } }).wr F.TCH_GRP_USED gs.length

/-! ## Contributions (R351, R352, R354) -/

/-- The key of a group interval. -/
def openKey (g a : Nat) : Nat := g * 2 ^ 32 + a

/-- An open group interval. -/
def State.tchOpen (s : State) (g a : Nat) : TchOpen := SMap.getD s.tch.opens (openKey g a) {}

/-- The sums of a phase. -/
def TchOpen.ph (x : TchOpen) (p : Nat) : TchSum := if p = 0 then x.l1 else if p = 1 then x.l2 else x.l3

/-- Changes the sums of a phase. -/
def TchOpen.modPh (x : TchOpen) (p : Nat) (f : TchSum → TchSum) : TchOpen :=
  if p = 0 then { x with l1 := f x.l1 } else if p = 1 then { x with l2 := f x.l2 } else { x with l3 := f x.l3 }

/-- The part of a POLY quantity that a phase takes: equal thirds, the remainder to L1. DESIGN CHOICE, unsafe: log entry 87. -/
def third (q : Int) (p : Nat) : Int := if p = 0 then q - 2 * Int.tdiv q 3 else Int.tdiv q 3

/-- The phases a member's quantity goes to. -/
def phasesOf (ph : Nat) : List Nat := if ph = 3 then [0, 1, 2] else [ph]

/-- Adds a member's record, less the record it displaced, to one phase. -/
def addMember (m : TchMbrCfg) (r : Rec) (disp : Option Rec) (p : Nat) (t : TchSum) : TchSum :=
  let part := fun (q : Int) => split m.dir (if m.phase = 3 then third q p else q)
  let qd : Int := match disp with | some d => if d.noacc then 0 else d.quantity | none => 0
  { t with imp := t.imp + (part r.quantity).1 - (part qd).1, exp := t.exp + (part r.quantity).2 - (part qd).2 }

/-- Adds a reference record to one phase. -/
def addRef (r : Rec) (disp : Option Rec) (t : TchSum) : TchSum :=
  { t with eref := t.eref + r.quantity - (match disp with | some d => if d.noacc then 0 else d.quantity | none => 0) }

/-- The phases in use whose reference energy channel a record belongs to. -/
def TchVer.refPhases (v : TchVer) (r : Rec) : List Nat :=
  (List.range 3).filter (fun p => v.phases.testBit p && v.ref == r.node && (v.refE[p]?).getD 8 == r.chan)

/-- The member whose energy channel a record belongs to. -/
def TchVer.memberOf (v : TchVer) (r : Rec) : List TchMbrCfg := v.members.filter (fun m => m.node == r.node && m.ch == r.chan)

/-- A record's part in a group interval: its sums, and itself as the channel's current record. -/
def TchOpen.contribute (x : TchOpen) (v : TchVer) (r : Rec) (disp : Option Rec) : TchOpen :=
  let x1 := (v.refPhases r).foldl (fun (y : TchOpen) p => y.modPh p (addRef r disp)) x
  let x2 := (v.memberOf r).foldl (fun (y : TchOpen) m => (phasesOf m.phase).foldl (fun (z : TchOpen) p => z.modPh p (addMember m r disp p)) y) x1
  if r.annex then x2 else { x2 with cur := SMap.set x2.cur (chanSel r.node r.chan) r }

/-- Is a record one of a voltage channel of a group: of its reference or of a member (R351)? The close reads the voltages as the current records of their slots. -/
def TchVer.voltage (v : TchVer) (r : Rec) : Bool :=
  v.ref == r.node && (v.refV.getD []).contains r.chan || v.members.any (fun m => m.node == r.node && m.vch == some r.chan)

/-- Has a record a part in a group, as an energy record or as a voltage record? -/
def TchVer.takes (v : TchVer) (r : Rec) : Bool := !(v.refPhases r).isEmpty || !(v.memberOf r).isEmpty || v.voltage r

/-- The start of the group interval of a record. -/
def TchVer.startOf (v : TchVer) (r : Rec) : Nat := r.istart / lenMin v.len * lenMin v.len

/-- The newest configuration of a group: for finding the interval of a record. -/
def State.groupsOf (s : State) (r : Rec) : List (Nat × TchVer) :=
  s.tch.vers.filterMap (fun e : Nat × List TchVer =>
    (s.verAt e.1 r.istart).bind (fun v => if v.takes r then some (e.1, v) else none))

/-- A BALANCE task adds its record (R351): a contribution of a closed interval is late and changes nothing (R354). -/
def State.balance (s : State) (r : Rec) (disp : Option Rec) : State :=
  if !s.on F.TCH_CTL_EN || r.noacc then s
  else (s.groupsOf r).foldl (fun (t : State) e =>
    let a := e.2.startOf r
    let t1 := t.wrap F.TCH_CONTRIB
    if a < SMap.getD t.tch.closedTo e.1 0 then (t1.sat F.TCH_LATE_CONTRIB).raise Pg.TCH 7
    else { t1 with tch := { t1.tch with opens := SMap.set t1.tch.opens (openKey e.1 a) ((t1.tchOpen e.1 a).contribute e.2 r disp) } }) s

/-- The T7 task (R351). -/
def State.balanceTask (s : State) (i : Nat) (d : Desc) : State :=
  if s.taskPoison d then s.taskEnd i .poison 0
  else
    match d.record with
    | none => s.taskEnd i .ok 0
    | some r => (s.balance r d.disp).taskEnd i .ok 0

/-- BALANCE_CONTRIBUTION (R351). -/
def execBalanceContribution (d : Fin 16384) (s : State) : Host.Outcome State Fault Refusal :=
  s.done (match s.runningTask d.val 6 with
    | some x => s.balanceTask d.val x
    | none => s)

/-! ## Reports (R370, R371) -/

/-- Journals a report with its own ledger sequence, and queues it (R371): `mid` is bytes 12 to 51, `extra` follows the report in the journal. -/
def State.tchReport (s : State) (kind b1 g istart status cov : Nat) (mid : List Byte) (pos neg : Nat) (extra : List Byte) : State :=
  let rep := be 1 kind ++ be 1 b1 ++ be 2 g ++ be 4 istart ++ be 2 status ++ be 2 cov ++ (mid ++ be 40 0).take 40 ++ be 2 pos ++ be 2 neg ++ be 8 (s.jrn.seq + 1)
  let s1 := s.journal 9 (rep ++ extra)
  if kind = 1 && !s1.on F.TCH_CTL_RES_RPT then s1
  else
    let (ok, t) := s1.outputPacket (s1.rd F.TCH_RPT_Q) rep
    if ok then t else t.sat F.TCH_RPT_LOST

/-! ## The loss model (R355, R358) -/

/-- The technical loss of a close: A·h/1,000 + B·G²/h·10^-12 with h = l/60, to the nearest. -/
def lossOf (a b : Nat) (gross : Int) (l : Nat) : Int :=
  divNear ((a * l * l * 10 ^ 12 : Nat) + (60 * b * 60000 : Nat) * (gross * gross)) ((60000 * l * 10 ^ 12 : Nat) : Int)

/-- Adds a clean close to a fit: u = l and w = G²·60/l stand for x1·60 and x2. -/
def TchFit.add (f : TchFit) (y gross : Int) (l : Nat) : TchFit :=
  let w := (gross * gross).toNat * (60 / l)
  { n := f.n + 1, uu := f.uu + l * l, uw := f.uw + l * w, ww := f.ww + w * w, uy := f.uy + l * y, wy := f.wy + w * y, yy := f.yy + (y * y).toNat }

/-- The coefficients of u and w as numerators over one denominator; none where the normal equations are singular. -/
def TchFit.solve (f : TchFit) : Option (Int × Int × Nat) :=
  let det : Int := (f.uu : Int) * f.ww - (f.uw : Int) * f.uw
  if det ≤ 0 then none
  else
    let p := f.uy * f.ww - f.wy * f.uw
    let r := f.wy * f.uu - f.uy * f.uw
    if p < 0 then some (0, max f.wy 0, f.ww)
    else if r < 0 then some (max f.uy 0, 0, f.uu)
    else some (p, r, det.toNat)

/-- σ in 1/256 units, at least 256 (R358). -/
def TchFit.sigma (f : TchFit) (p r : Int) (d : Nat) : Nat :=
  let e : Int := (d * d * f.yy : Nat) - 2 * (d : Int) * (p * f.uy + r * f.wy) + p * p * f.uu + 2 * p * r * f.uw + r * r * f.ww
  max 256 (sqrtNear (e.toNat * 65536) (d * d * (f.n - 2)))

/-- The model that a complete fit gives (R358): A, B and σ. -/
def TchFit.model (f : TchFit) : Option (Nat × Nat × Nat) :=
  f.solve.map (fun (p, r, d) => ((divNear (p * 60000) d).toNat, (divNear (r * 10 ^ 12) d).toNat, f.sigma p r d))

/-! ## Detectors (R359 to R362) -/

/-- The key of a group phase. -/
def detKey (g p : Nat) : Nat := g * 4 + p

/-- A group phase. -/
def State.det (s : State) (g p : Nat) : TchDet := SMap.getD s.tch.dets (detKey g p) {}

/-- Sets a group phase. -/
def State.setDet (s : State) (g p : Nat) (d : TchDet) : State := { s with tch := { s.tch with dets := SMap.set s.tch.dets (detKey g p) d } }

/-- A detector whose two sums and runs are cleared. -/
def TchDet.cleared (d : TchDet) : TchDet := { d with pos := 0, neg := 0, runP := {}, runN := {} }

/-- Clears both detector sums of every phase of a group (R350). -/
def State.clearSums (s : State) (g : Nat) : State := (List.range 3).foldl (fun (t : State) p => t.setDet g p (t.det g p).cleared) s

/-- One side's sum after a fed close (R360), in Q8.8, saturating. -/
def cusum (x : Nat) (z : Int) (k : Nat) : Nat := min 65535 (((x : Int) + z - k).toNat)

/-- A run with a fed close added: the close starts a run where the sum stood at 0. -/
def TchRun.add (r : TchRun) (before : Nat) (resid : Int) (cov istart : Nat) : TchRun :=
  if before = 0 then { sum := resid, cov := cov, starts := [istart] } else { sum := r.sum + resid, cov := min r.cov cov, starts := istart :: r.starts }

/-- The terms of the series of Φ from one on, in units of 2^-128: the term z^(2k+1)/(2^k k!) and the sign. -/
def phiTerms : Nat → Nat → Nat → Nat → Bool → Int → Int
  | 0, _, _, _, _, acc => acc
  | fuel + 1, k, zz, term, minus, acc =>
    let c : Int := (term / (2 * k + 1) : Nat)
    phiTerms fuel (k + 1) zz (term * zz / (2 ^ 128 * 2 * (k + 1))) (!minus) (if minus then acc - c else acc + c)

/-- ⌊1,000·Φ(z)·cov/1,000⌋ for z = n/d, the sum of the run in units of σ over the square root of its length, squared (R362): the series in steps of 2^-128, and one less than `cov` from z = 8 on, where Φ lies below 1 by less than 10^-15. -/
def confOf (num den cov : Nat) : Nat :=
  if 64 * den ≤ num then cov - 1
  else
    let z := isqrt (num * 2 ^ 128 / den)
    let zz := z * z
    let sum := phiTerms 200 0 zz (z * 2 ^ 64) false 0
    let phi : Int := 2 ^ 127 + sum * 398942280401432677939946059934 / 10 ^ 30
    (phi * cov / 2 ^ 128).toNat

/-- The bytes 12 to 51 of an ALARM or CLEAR report (R362, R370). -/
def alarmBytes (r : TchRun) (sigma l : Nat) : List Byte :=
  let n := r.starts.length
  let rate := Int.tdiv (r.sum * 60) ((n * l : Nat) : Int)
  let sq := (r.sum * r.sum).toNat
  let z : Int := sqrtNear (sq * 2 ^ 32) (sigma * sigma * n)
  let conf := confOf (sq * 65536) (sigma * sigma * n) r.cov
  beInt 8 r.sum ++ beInt 8 rate ++ beInt 2 (if r.sum < 0 then -z else z) ++ be 2 conf ++ be 4 n ++ be 8 ((r.starts.getLastD 0)) ++ be 8 0

/-- The state of a group phase as its close record carries it (R371). -/
def TchDet.bytes (d : TchDet) : List Byte :=
  be 1 d.st ++ be 1 d.msrc ++ be 4 d.a ++ be 4 d.b ++ be 4 d.sigma ++ be 2 d.pos ++ be 2 d.neg ++
    ([d.runP, d.runN].flatMap (fun r => be 4 r.starts.length ++ beInt 8 r.sum ++ be 2 r.cov ++ be 4 (r.starts.getLastD 0))) ++
    be 2 d.fit.n ++ be 8 d.fit.uu ++ be 20 d.fit.uw ++ be 36 d.fit.ww ++ beInt 12 d.fit.uy ++ beInt 28 d.fit.wy ++ be 20 d.fit.yy

/-- An alarm or its end is reported (R359, R361). -/
def State.alarmReport (s : State) (kind g p : Nat) (neg : Bool) (istart status : Nat) (r : TchRun) (d : TchDet) (l : Nat) : State :=
  s.tchReport kind (p + 4 * b2n neg) g istart status r.cov (alarmBytes r d.sigma l) d.pos d.neg []

/-- A detector's sums and runs after a fed close (R360), before an ended run is dropped. -/
def TchDet.sums (d : TchDet) (k cov istart : Nat) (resid : Int) : TchDet :=
  let z := divNear (resid * 65536) d.sigma
  { d with pos := cusum d.pos z k, neg := cusum d.neg (-z) k, runP := d.runP.add d.pos resid cov istart, runN := d.runN.add d.neg resid cov istart }

/-- A detector after a fed close (R359, R360). -/
def TchDet.fed (d : TchDet) (k h cov istart : Nat) (resid : Int) : TchDet :=
  let d1 := d.sums k cov istart resid
  { d1 with
    runP := if d1.pos = 0 then {} else d1.runP
    runN := if d1.neg = 0 then {} else d1.runN
    st := if d.st = 1 && h < d1.pos then 2 else if d.st = 1 && h < d1.neg then 3
          else if (d.st = 2 && d1.pos = 0) || (d.st = 3 && d1.neg = 0) then 1 else d.st }

/-- A detector in LEARN after a clean close (R358): with LEARN_N closes the model is solved and the phase watches, or the sums are cleared where it cannot be. -/
def TchDet.learned (d : TchDet) (need l : Nat) (y gross : Int) : TchDet :=
  let f := d.fit.add y gross l
  if f.n < need then { d with fit := f }
  else
    match f.model with
    | none => { d with fit := {} }
    | some (a, b, sg) => { d with fit := {}, st := 1, msrc := 1, a := a, b := b, sigma := sg }

/-- The ALARM and CLEAR reports of a fed close (R359, R361): from the detector before it, its sums with the close, and the state it leads to. -/
def State.feedReports (s : State) (g p l istart status : Nat) (d d1 : TchDet) (st : Nat) : State :=
  if d.st = 1 && st = 2 then
    let t := (s.alarmReport 2 g p false istart status d1.runP d1 l).sat F.TCH_ALARMS
    let x : TchAlarm := ⟨g, p, istart, status, Int.tdiv (d1.runP.sum * 60) ((d1.runP.starts.length * l : Nat) : Int), d1.runP.starts⟩
    ({ t with tch := { t.tch with alarms := t.tch.alarms ++ [x] } }).raise Pg.TCH 0
  else if d.st = 1 && st = 3 then ((s.alarmReport 2 g p true istart status d1.runN d1 l).sat F.TCH_ALARMS).raise Pg.TCH 0
  else if d.st = 2 && st = 1 then (s.alarmReport 3 g p false istart status d1.runP d1 l).raise Pg.TCH 1
  else if d.st = 3 && st = 1 then (s.alarmReport 3 g p true istart status d1.runN d1 l).raise Pg.TCH 1
  else s

/-! ## Closing a group interval (R353 to R357) -/

/-- The records that contributed to a phase: of the members on it and of its reference channel. -/
def phaseRecs (v : TchVer) (x : TchOpen) (p : Nat) : List Rec :=
  let ms := (v.members.filter (fun m => m.phase == p || m.phase == 3)).filterMap (fun m => SMap.find? x.cur (chanSel m.node m.ch))
  ms ++ (SMap.find? x.cur (chanSel v.ref ((v.refE[p]?).getD 8))).toList

/-- The flags that a residual takes over from its records (R356). -/
def tchMask : Nat := St.ESTIMATED ||| St.EDITED ||| St.POWER_FAIL ||| St.TIME_ADJ ||| St.REPEATED ||| St.SHORT ||| St.LONG ||| St.OVERFLOW ||| St.TAMPER

/-- The residual's status word (R356). -/
def State.closeStatus (s : State) (g p : Nat) (v : TchVer) (x : TchOpen) : Nat :=
  let l := phaseRecs v x p
  let any := l.foldl (fun m r => m ||| r.status) 0
  let suspect := v.members.any (fun m => (m.phase == p) && (match (s.tchMbr (mbrKey g m.idx)).lph with | some q => q != m.cph && m.cph != 3 | none => false))
  let noRef := (SMap.find? x.cur (chanSel v.ref ((v.refE[p]?).getD 8))).isNone
  let prov := (s.det g p).st == 0
  let st := (any &&& tchMask) ||| stIf suspect St.PHASE_SUSPECT ||| stIf prov St.PROVISIONAL ||| stIf noRef St.GAP
  st ||| stIf (l.all (fun r => stHas r.status St.VALID) && !stHas st (St.ESTIMATED ||| St.GAP ||| St.PROVISIONAL)) St.VALID

/-- The coverage of a close (R355). A phase without members has no stated coverage: a free value. -/
def State.coverage (s : State) (v : TchVer) (x : TchOpen) (p : Nat) : Nat × State :=
  let ms := v.members.filter (fun m => m.phase == p || m.phase == 3)
  let nval := (ms.filter (fun m => match SMap.find? x.cur (chanSel m.node m.ch) with | some r => stHas r.status St.VALID | none => false)).length
  if ms.isEmpty then (s.freeVal 1001, s.tookFree) else (1000 * nval / ms.length, s)

/-- Is a close clean: all of R357 except the state condition? -/
def State.cleanClose (s : State) (v : TchVer) (x : TchOpen) (p a cov status : Nat) : Bool :=
  let l := lenMin v.len
  (match SMap.find? x.cur (chanSel v.ref ((v.refE[p]?).getD 8)) with | some r => stHas r.status St.VALID | none => false) &&
    decide (s.rd F.TCH_COV_MIN ≤ cov) && !stHas status (St.POWER_FAIL ||| St.TIME_ADJ ||| St.REPEATED ||| St.GAP) && !s.inOutage a l && !s.everSetBack a l

/-- Closes one phase of a group interval (R355 to R360, R371). -/
def State.closePhase (s : State) (g a p : Nat) (v : TchVer) (x : TchOpen) : State :=
  let l := lenMin v.len
  let t := x.ph p
  let n := t.imp - t.exp
  let gross := t.imp + t.exp
  let d := s.det g p
  let loss := if d.st = 0 then 0 else lossOf d.a d.b gross l
  let resid := t.eref - n - loss
  let (cov, s1) := s.coverage v x p
  let status := s.closeStatus g p v x
  let clean := s.cleanClose v x p a cov status
  let fed := clean && (d.st = 1 || d.st = 2 || d.st = 3)
  let k := s.rd F.TCH_CUSUM_K
  let d1 := if fed then d.fed k (s.rd F.TCH_CUSUM_H) cov a resid
    else if clean && d.st = 0 then d.learned (s.rdIn F.TCH_LEARN_N 96 65535) l (t.eref - n) gross else d
  let d2 := { d1 with lastR := resid, lastStatus := status, lastCov := cov, lastIstart := a }
  let s2 := (s1.setDet g p d2).wrap F.TCH_CLOSES
  let s3 := if fed then s2 else s2.sat F.TCH_UNFED
  let sums := beInt 8 t.eref ++ beInt 8 n ++ beInt 8 gross
  let s4 := s3.tchReport 1 p g a status cov (sums ++ beInt 8 loss ++ beInt 8 resid) d2.pos d2.neg d2.bytes
  let s5 := if fed then s4.feedReports g p l a status d (d.sums k cov a resid) d2.st
    else if d.st = 0 && d2.st = 1 then (s4.tchReport 6 p g a status cov (sums ++ be 4 d2.a ++ be 4 d2.b ++ be 8 d2.sigma) d2.pos d2.neg []).raise Pg.TCH 2
    else s4
  { s5 with tch := { s5.tch with saved := SMap.set s5.tch.saved (detKey g p) d2 } }

end Sys2Proof.Machine
end

