-- ==== Sys2Proof/Machine/TouchMembers.lean ====
section
/-!
DEFINITION. Touchstone's members (R363 to R369), the closes of a drain, the model commands, the configuration writes, and durability (R350, R353, R359, R372).
-/
namespace Sys2Proof.Machine

/-! ## Member classes (R368) -/

/-- Bytes 12 to 51 of a CANDIDATE or MEMBER report (R370). -/
def memberBytes (m : TchMbrCfg) (x : TchMbr) (code share rank : Nat) (b u : Int) : List Byte :=
  be 2 m.node ++ be 1 m.ch ++ be 1 code ++ be 2 share ++ be 1 rank ++ be 1 0 ++ beInt 8 b ++ beInt 8 u ++ beInt 4 x.rOwn ++ beInt 4 x.rBest ++
    be 2 x.bestGrp ++ be 1 (x.lph.getD 0) ++ be 1 m.cph ++ be 4 0

/-- The phase that a member's report names: L1 for a POLY member. -/
def TchMbrCfg.reportPhase (m : TchMbrCfg) : Nat := if m.phase = 3 then 0 else m.phase

/-- A class of a member arises or goes (R368): each onset writes one MEMBER report. -/
def State.setClass (s : State) (g : Nat) (m : TchMbrCfg) (code : Nat) (holds : Bool) (istart status cov : Nat) : State :=
  let b := mbrKey g m.idx
  let x := s.tchMbr b
  if x.classes.testBit code == holds then s
  else if !holds then s.setMbr b { x with classes := x.classes - 2 ^ code }
  else
    let s1 := s.setMbr b { x with classes := x.classes + 2 ^ code }
    let d := s1.det g m.reportPhase
    let s2 := s1.tchReport 5 m.reportPhase g istart status cov (memberBytes m x code 0 0 0 0) d.pos d.neg []
    if code = 1 then s2.raise Pg.TCH 3 else if code = 2 then s2.raise Pg.TCH 4 else s2

/-- The classes that a close of the group judges (R368): ZERO_WITH_VOLTAGE and TAMPER. -/
def State.closeClasses (s : State) (g a : Nat) (x : TchOpen) (m : TchMbrCfg) : State :=
  let b := mbrKey g m.idx
  let r := SMap.find? x.cur (chanSel m.node m.ch)
  let v := m.vch.bind (fun c => s.current (slotKey s.unitAddr m.node c a))
  let zero := match r, v with
    | some r, some v => stHas r.status St.VALID && r.quantity == 0 && stHas v.status St.VALID && v.value != 0
    | _, _ => false
  let n := if zero then (s.tchMbr b).zero + 1 else 0
  let s1 := s.setMbr b { s.tchMbr b with zero := n }
  let d := s1.det g m.reportPhase
  let s2 := s1.setClass g m 4 (decide (s1.rdIn F.TCH_ZERO_N 1 1023 ≤ n)) a d.lastStatus d.lastCov
  s2.setClass g m 5 (match r with | some r => stHas r.status St.TAMPER | none => false) a d.lastStatus d.lastCov

/-! ## Phase identification (R363 to R365) -/

/-- A member's learned phase changes: PHASE_MISMATCH, and with PH_AUTO the phase of its energy from the group's next interval on. -/
def State.learnPhase (s : State) (g : Nat) (m : TchMbrCfg) (lph : Option Nat) : State :=
  let b := mbrKey g m.idx
  let s1 := s.setMbr b { s.tchMbr b with lph := lph }
  let s2 := s1.setClass g m 1 (match lph with | some p => p != m.cph && m.cph != 3 | none => false) (s1.det g m.reportPhase).lastIstart (s1.det g m.reportPhase).lastStatus (s1.det g m.reportPhase).lastCov
  if s2.on F.TCH_CTL_PH_AUTO && s.effPhase b != s2.effPhase b then s2.newVersion g else s2

/-- The phase that holds the quorum of a window; none where no phase does. -/
def quorumPhase (win : List Nat) (quorum : Nat) : Option Nat :=
  (List.range 3).find? (fun p => decide (quorum * win.length ≤ 1000 * (win.filter (fun q => q == p)).length))

/-- An accepted phase of a member (R365). -/
def State.takePhase (s : State) (g : Nat) (m : TchMbrCfg) (p : Nat) : State :=
  let b := mbrKey g m.idx
  let n := s.rdIn F.TCH_PH_WIN 4 32
  let win := (p :: (s.tchMbr b).win).take n
  let s1 := s.setMbr b { s.tchMbr b with win := win }
  if win.length < n then s1 else s1.learnPhase g m (quorumPhase win (s.rdIn F.TCH_PH_QUORUM 500 1000))

/-- The newest accepted entry of a zero-crossing ring at or before a count. -/
def State.zcBefore (s : State) (ph z : Nat) : Option Nat :=
  (((s.zcOf ph).ring.filter (fun e : Nat × ZcEntry => e.2.flags.testBit 0 && decide (e.2.count ≤ z))).map (fun e => e.2.count)).foldl (fun (b : Option Nat) c => match b with
    | none => some c
    | some d => some (max d c)) none

/-- A 16-bit number in two's complement. -/
def signed16Of (v : Nat) : Int := if v < 32768 then v else (v : Int) - 65536

/-- The phase of a crossing (R364): 0 L1, 1 L2, 2 L3; none where it is rejected. `z` is the crossing in raw ticks. -/
def State.phaseOf (s : State) (g z : Nat) : Option Nat :=
  match (List.range 3).find? (fun p => !s.on (F.GPIO_ZC_STAT_LOST p)) with
  | none => none
  | some w =>
    let per := (s.zcOf (w + 1)).period
    match s.zcBefore (w + 1) z with
    | none => none
    | some e =>
      if per = 0 || 4 * per < (z - e) * 4 * 65536 then none
      else
        let ofs : Int := signed16Of (s.rd (F.TCH_GRP_ZC_OFS g))
        let d := ((((z - e) * 4 * 65536 : Nat) : Int) - ofs * per / 3600 - (w * per / 3 : Nat)) % (per : Int)
        let x := 3 * d.toNat
        let k := (2 * x + per) / (2 * per)
        let dev := if x < k * per then k * per - x else x - k * per
        if s.rd F.TCH_PH_TOL * per < dev * 256 then none else some (k % 3)

/-- A phase item of a frame (R363, R364): the originator, O, the flags, the stamp, and whether the frame came straight from its originator or on a SUN port. -/
def State.phaseItem (s : State) (node o flags stamp : Nat) (direct : Bool) : State :=
  if !s.on F.TCH_CTL_EN || !direct || flags.testBit 0 then s
  else
    let z := (4 * stamp - o) / 4
    let ms := s.enabledGroups.flatMap (fun g => ((s.groupMembers g).map (fun i => (g, s.mbrCfg g i))).filter (fun e => e.2.node == node && e.2.cph != 3))
    ms.foldl (fun (t : State) e =>
      match t.phaseOf e.1 z with
      | some p => (t.wrap F.TCH_PH_OBS).takePhase e.1 e.2 p
      | none => t.sat F.TCH_PH_REJECT) s

/-! ## Voltage correlation (R366, R367) -/

/-- A pair takes two values with weight 2^-k; the first pair sets the sums. -/
def TchCorr.add (c : TchCorr) (k : Nat) (x y : Int) : TchCorr :=
  let step := fun (s v : Rat) => if c.n = 0 then v else s + (v - s) / (2 ^ k : Nat)
  { n := c.n + 1, sx := step c.sx x, sy := step c.sy y, sxx := step c.sxx (x * x : Int), syy := step c.syy (y * y : Int), sxy := step c.sxy (x * y : Int) }

/-- The correlation of a pair in per mille, to the nearest; 0 where a variance is 0. -/
def TchCorr.r (c : TchCorr) : Int :=
  let vx := c.sxx - c.sx * c.sx
  let vy := c.syy - c.sy * c.sy
  let cov := c.sxy - c.sx * c.sy
  if vx * vy ≤ 0 then 0
  else
    let q := cov * cov * 1000000 / (vx * vy)
    let a : Int := sqrtNear q.num.toNat q.den
    if cov < 0 then -a else a

/-- The neighbour groups of a group, 0xFFFF where there is none. -/
def State.neighbours (s : State) (g : Nat) : List Nat :=
  [s.rd (F.TCH_GRP_NBR01 g) % 65536, s.rd (F.TCH_GRP_NBR01 g) / 65536, s.rd (F.TCH_GRP_NBR23 g) % 65536, s.rd (F.TCH_GRP_NBR23 g) / 65536]

/-- The VALID reference voltage of a group on a phase in an interval. -/
def State.refVoltage (s : State) (g p a : Nat) : Option Rec :=
  ((s.verAt g a).bind (fun v => v.refV.bind (fun l => (l[p]?).bind (fun c => s.current (slotKey s.unitAddr v.ref c a))))).filter (fun r => stHas r.status St.VALID)

/-- A member's phase in the correlations: L1 for a POLY member. DEDUCED, unsafe: log entry 88. -/
def TchMbrCfg.corrPhase (m : TchMbrCfg) : Nat := m.reportPhase

/-- The correlation update of a member at a close (R366); none where the interval's status, that of its phase's close, carries TIME_ADJ or REPEATED. DEDUCED, unsafe: log entry 88. -/
def State.correlate (s : State) (g a : Nat) (m : TchMbrCfg) : State :=
  if stHas (s.det g m.corrPhase).lastStatus (St.TIME_ADJ ||| St.REPEATED) then s
  else match (m.vch.bind (fun c => s.current (slotKey s.unitAddr m.node c a))).filter (fun r => stHas r.status St.VALID && !stHas r.status (St.TIME_ADJ ||| St.REPEATED)) with
  | none => s
  | some v =>
    let b := mbrKey g m.idx
    let x := s.tchMbr b
    let k := s.rdIn F.TCH_CORR_K 4 10
    let own := (List.range 3).map (fun p => (p, s.refVoltage g p a))
    let nbr := (s.neighbours g).mapIdx (fun i h => (3 + i, if h = 0xFFFF then none else s.refVoltage h m.corrPhase a))
    let pairs := (own ++ nbr).filterMap (fun e => (e.2.filter (fun r => !stHas r.status (St.TIME_ADJ ||| St.REPEATED))).map (fun r => (e.1, r.value)))
    if pairs.isEmpty then s
    else s.setMbr b { x with upd := x.upd + 1, corr := pairs.foldl (fun (c : SMap TchCorr) e => SMap.set c e.1 ((SMap.getD c e.1 {}).add k v.value e.2)) x.corr }

/-- The correlation of a member's pair. -/
def TchMbr.pairR (x : TchMbr) (i : Nat) : Int := (SMap.getD x.corr i {}).r

/-- The neighbour with the highest correlation: its group and r. -/
def State.bestNbr (s : State) (g : Nat) (x : TchMbr) : Nat × Int :=
  ((s.neighbours g).mapIdx (fun i h => (h, x.pairR (3 + i)))).foldl (fun (b : Nat × Int) e => if e.1 = 0xFFFF then b else if b.1 = 0xFFFF || b.2 < e.2 then e else b) (0xFFFF, 0)

/-- The registers and the learned state of a move. -/
def State.applyMove (s : State) (b c : Nat) : State :=
  let t := [(F.TCH_MBR_CFG_NODE b, F.TCH_MBR_CFG_NODE c), (F.TCH_MBR_CFG_CH b, F.TCH_MBR_CFG_CH c), (F.TCH_MBR_CFG_VCH b, F.TCH_MBR_CFG_VCH c),
    (F.TCH_MBR_CFG_V_EN b, F.TCH_MBR_CFG_V_EN c), (F.TCH_MBR_CFG_CPH b, F.TCH_MBR_CFG_CPH c), (F.TCH_MBR_CFG_DIR b, F.TCH_MBR_CFG_DIR c), (F.TCH_MBR_CFG_EN b, F.TCH_MBR_CFG_EN c)].foldl
    (fun (t : State) e => t.wr e.2 (s.rd e.1)) s
  let x := s.tchMbr b
  let t1 := (t.wr (F.TCH_MBR_CFG_EN b) 0).setMbr c { x with corr := [], upd := 0, moveDays := 0, weakDays := 0, moved := true }
  let t2 := { t1 with tch := { t1.tch with mbrs := SMap.erase t1.tch.mbrs b, moves := t1.tch.moves ++ [(b, c)] } }
  ((t2.newVersion (b / 1024)).newVersion (c / 1024)).clearSums (b / 1024) |>.clearSums (c / 1024)

/-- Moves a member to a group at the start of that group's next interval (R367): journaled, counted, and its correlation sums restart. -/
def State.moveMember (s : State) (b g2 : Nat) : State :=
  match (List.range 1024).find? (fun i => !s.on (F.TCH_MBR_CFG_EN (mbrKey g2 i))) with
  | none => (s.sat F.TCH_CFG_REFUSED).raise Pg.TCH 6
  | some i => ((s.applyMove b (mbrKey g2 i)).journal 9 (be 1 0x4D ++ be 4 b ++ be 4 (mbrKey g2 i))).sat F.TCH_MOVES
/-- Evaluates a member at a grid day's end (R365, R367). -/
def State.evalMember (s : State) (g : Nat) (m : TchMbrCfg) : State :=
  let b := mbrKey g m.idx
  let x := s.tchMbr b
  if x.upd < 2 ^ s.rdIn F.TCH_CORR_K 4 10 then s
  else
    let min_ : Int := s.rd F.TCH_CORR_MIN
    let margin : Int := s.rd F.TCH_CORR_MARGIN
    let own := x.pairR m.corrPhase
    let (bg, best) := s.bestNbr g x
    let move := bg != 0xFFFF && decide (min_ ≤ best) && decide (margin ≤ best - own)
    let weak := decide (own < min_) && !move
    let days := s.rdIn F.TCH_CORR_DAYS 1 15
    let x1 := { x with rOwn := own, rBest := best, bestGrp := bg, moveDays := if move then x.moveDays + 1 else 0, weakDays := if weak then x.weakDays + 1 else 0 }
    let d := s.det g m.reportPhase
    let s1 := (s.setMbr b x1).setClass g m 2 (decide (days ≤ x1.moveDays)) d.lastIstart d.lastStatus d.lastCov
    let s2 := s1.setClass g m 3 (decide (days ≤ x1.weakDays)) d.lastIstart d.lastStatus d.lastCov
    let r := (List.range 3).map (fun p => (p, x.pairR p))
    let top := r.foldl (fun (c : Nat × Int) e => if c.2 < e.2 then e else c) (0, x.pairR 0)
    let clear := r.all (fun e => e.1 == top.1 || decide (margin ≤ top.2 - e.2))
    let s3 := if x.win.isEmpty && m.cph != 3 then s2.learnPhase g m (if decide (min_ ≤ top.2) && clear then some top.1 else none) else s2
    if s3.on F.TCH_CTL_MEM_AUTO && days ≤ x1.moveDays then s3.moveMember b bg else s3

/-- Evaluates every member. -/
def State.evalDay (s : State) : State :=
  let ms := s.enabledGroups.flatMap (fun g => (s.groupMembers g).map (fun i => (g, i)))
  let s1 := ms.foldl (fun (t : State) e => if t.on (F.TCH_MBR_CFG_EN (mbrKey e.1 e.2)) then t.evalMember e.1 (t.mbrCfg e.1 e.2) else t) s
  { s1 with tch := { s1.tch with dayDone := s.gridNow / 1440 } }

/-- TCH_DAY_EVAL (R367): a grid day has ended since the last evaluation. -/
def execTchDayEval (s : State) : Host.Outcome State Fault Refusal :=
  s.done (if s.on F.TCH_CTL_EN && s.domOn Dom.TSK && s.tch.dayDone < s.gridNow / 1440 then s.evalDay else s)

/-! ## The closes of a drain (R353, R354) -/

/-- Closes one group interval: its phases in order, then its members' classes and correlations. -/
def State.closeGroup (s : State) (g a : Nat) : State :=
  let s1 := match s.verAt g a with
    | none => s
    | some v =>
      let x := s.tchOpen g a
      let t := ((List.range 3).filter (fun p => v.phases.testBit p)).foldl (fun (t : State) p => t.closePhase g a p v x) s
      v.members.foldl (fun (u : State) m => (u.closeClasses g a x m).correlate g a m) t
  let l := lenMin (((s.verAt g a).map (fun v => v.len)).getD (s.rd (F.TCH_GRP_CFG_LEN g)))
  { s1 with tch := { s1.tch with opens := SMap.erase s1.tch.opens (openKey g a), closedTo := SMap.set s1.tch.closedTo g (a + l) } }

/-- The starts of the intervals of a group that a drain to grid minute `m` closes, oldest first. -/
def State.groupDue (s : State) (g m : Nat) : List Nat :=
  let from_ := SMap.getD s.tch.closedTo g 0
  let l := lenMin (((s.verAt g from_).map (fun v => v.len)).getD (s.rd (F.TCH_GRP_CFG_LEN g)))
  let lag := (s.closeLag + s.rdIn F.TCH_LAG 0 4) * l
  ((List.range ((m - from_) / l + 1)).map (fun j => from_ + j * l)).filter (fun a => decide (a + l + lag ≤ m))

/-- Is a BALANCE task still to complete whose record belongs to an interval that the drain closes? -/
def State.balanceWaits (s : State) (m : Nat) : Bool :=
  let rs := ((s.pln.descs.map (fun e : Nat × Desc => e.2) ++ s.pln.spill).filter (fun d : Desc => d.kind == 6)).filterMap (fun d : Desc => d.record)
  rs.any (fun r => (s.groupsOf r).any (fun e => (s.groupDue e.1 m).contains (e.2.startOf r)))

/-- Touchstone acts on a drain (R353): in ascending group number. -/
def State.tchDrain (s : State) (m : Nat) : State :=
  (s.tch.vers.map (fun e => e.1)).foldl (fun (t : State) g => (t.groupDue g m).foldl (fun (u : State) a => u.closeGroup g a) t) s

/-- TCH_GROUP_CLOSE (R353, R354): once profile task code has ended its slot closing for the drain and the BALANCE tasks of the closing intervals have completed; an event off the raster is ignored, and no close is made in HOLDUP. -/
def execTchGroupClose (s : State) : Host.Outcome State Fault Refusal :=
  s.done (match s.bndTch with
    | [] => s
    | e :: es =>
      let s1 := { s with bndTch := es }
      if !s.domOn Dom.TSK || s.mode = Md.HOLDUP || s.bndPrf.any (fun x => decide (x.c ≤ e.c)) then s
      else if !s.onRaster e.target || !s.on F.TCH_CTL_EN then s1
      else if s.balanceWaits (s.gridMin e.target) then s
      else s1.tchDrain (s.gridMin e.target))

/-! ## Localisation (R369) -/

/-- The quantities of a member's slots, of those that hold a record. -/
def State.memberSlots (s : State) (m : TchMbrCfg) (starts : List Nat) : List Int :=
  starts.filterMap (fun a => (s.current (slotKey s.unitAddr m.node m.ch a)).map Rec.quantity)

/-- The mean of quantities, rounded toward 0. -/
def meanOf (l : List Int) : Int := if l.isEmpty then 0 else Int.tdiv l.sum l.length

/-- A candidate: the member, its share, B and U, and whether its slots could not be read. -/
structure TchCand where
  m : TchMbrCfg
  share : Nat
  b : Int
  u : Int
  deriving DecidableEq, Repr

/-- Is a member a STEP_DROP candidate of an alarm? -/
def State.stepDrop (s : State) (x : TchAlarm) (l : Nat) (m : TchMbrCfg) : Option TchCand :=
  let first := x.starts.getLastD x.istart
  let before := ((List.range (s.rdIn F.TCH_STEP_W 4 1023)).map (fun j => first - (j + 1) * l))
  let bs := s.memberSlots m before
  let b := meanOf bs
  let u := meanOf (s.memberSlots m x.starts)
  if before.any s.notKept || bs.isEmpty || b ≤ 0 then none
  else if decide ((s.rd F.TCH_STEP_MIN : Int) * b ≤ (b - u) * 1000) && decide (x.rate * l ≤ (b - u) * 600) then
    let share : Int := if x.rate ≤ 0 then 1000 else min 1000 (1000 * ((b - u) * 60) / (x.rate * l))
    some ⟨m, share.toNat, b, u⟩
  else none

/-- Inserts a candidate by share, the highest first; equals keep the members' order. -/
def insertCand (c : TchCand) : List TchCand → List TchCand
  | [] => [c]
  | d :: l => if d.share < c.share then c :: d :: l else d :: insertCand c l

/-- Writes CANDIDATE reports, ranked from 1. -/
def State.candReports (s : State) (x : TchAlarm) (rank : Nat) : List (TchCand × Nat × Bool) → State
  | [] => s
  | (c, code, noProfile) :: l =>
    let d := s.det x.grp x.ph
    let t := s.tchReport 4 (x.ph + 8 * b2n noProfile) x.grp x.istart x.status d.runP.cov (memberBytes c.m (s.tchMbr (mbrKey x.grp c.m.idx)) code c.share rank c.b c.u) d.pos d.neg []
    t.candReports x (rank + 1) l

/-- Localises the loss behind an alarm (R369). -/
def State.localise (s : State) (x : TchAlarm) : State :=
  match s.verAt x.grp x.istart with
  | none => s
  | some v =>
    let l := lenMin v.len
    let ms := v.members.filter (fun m => m.phase == x.ph || m.phase == 3)
    let cands := (ms.filterMap (fun m => s.stepDrop x l m)).foldl (fun (a : List TchCand) c => insertCand c a) []
    let d := s.det x.grp x.ph
    let s1 := ms.foldl (fun (t : State) m => t.setClass x.grp m 6 (cands.any (fun c => c.m == m)) x.istart x.status d.lastCov) s
    let top := (cands.take (s.rdIn F.TCH_CAND_MAX 1 8)).map (fun c => (c, 6, false))
    let first := x.starts.getLastD x.istart
    let rest := ms.filterMap (fun m =>
      let k := (s1.tchMbr (mbrKey x.grp m.idx)).classes
      let c : TchCand := ⟨m, 0, 0, 0⟩
      let np := ((List.range (s.rdIn F.TCH_STEP_W 4 1023)).map (fun j => first - (j + 1) * l)).any s.notKept
      if k.testBit 4 then some (c, 4, np) else if k.testBit 5 then some (c, 5, np) else none)
    (s1.candReports x 1 (top ++ rest)).raise Pg.TCH 5

/-- TCH_LOCALISE (R369). -/
def execTchLocalise (s : State) : Host.Outcome State Fault Refusal :=
  s.done (match s.tch.alarms with
    | [] => s
    | x :: xs => if s.domOn Dom.TSK then ({ s with tch := { s.tch with alarms := xs } }).localise x else s)

/-! ## Model commands (R359) -/

/-- The group and phase selected; PH_SEL 3 acts as 0. -/
def State.selGrp (s : State) : Nat := s.rd F.TCH_GRP_SEL
def State.selPh (s : State) : Nat := if s.rd F.TCH_PH_SEL = 3 then 0 else s.rd F.TCH_PH_SEL

/-- WRITE: A, B and σ from the registers; both sums are cleared. -/
def State.modelWrite (s : State) : State :=
  let d := s.det s.selGrp s.selPh
  let s1 := s.setDet s.selGrp s.selPh { d.cleared with st := 1, msrc := 2, a := s.tch.stgA.getD d.a, b := s.tch.stgB.getD d.b, sigma := max 256 (s.tch.stgS.getD d.sigma) }
  { s1 with tch := { s1.tch with stgA := none, stgB := none, stgS := none } }

/-- RELEARN: the fit and both sums are cleared. -/
def State.modelRelearn (s : State) : State := s.setDet s.selGrp s.selPh { (s.det s.selGrp s.selPh).cleared with st := 0, fit := {} }

/-- HOLD. -/
def State.modelHold (s : State) : State := s.setDet s.selGrp s.selPh { s.det s.selGrp s.selPh with st := 4 }

/-- RESUME: from HOLD to WATCH where there is a model, else to LEARN; both sums are cleared. -/
def State.modelResume (s : State) : State :=
  let d := s.det s.selGrp s.selPh
  if d.st = 4 then s.setDet s.selGrp s.selPh { d.cleared with st := if d.msrc = 0 then 0 else 1 } else s

/-- A write of MODEL_CTL: its bits act in the order WRITE, RELEARN, HOLD, RESUME. -/
def State.modelCtl (s : State) (v : Word) : State :=
  let s1 := if bit v 0 then s.modelWrite else s
  let s2 := if bit v 1 then s1.modelRelearn else s1
  let s3 := if bit v 2 then s2.modelHold else s2
  if bit v 3 then s3.modelResume else s3

/-- MODEL_WRITE (R359). -/
def execModelWrite (m : Master) (v : Word) (s : State) : Host.Outcome State Fault Refusal := s.done (s.guarded m Pg.TCH 0xB8 (fun s => s.modelCtl v))
/-- MODEL_RELEARN (R359). -/
def execModelRelearn (m : Master) (v : Word) (s : State) : Host.Outcome State Fault Refusal := s.done (s.guarded m Pg.TCH 0xB8 (fun s => s.modelCtl v))
/-- MODEL_HOLD (R359). -/
def execModelHold (m : Master) (v : Word) (s : State) : Host.Outcome State Fault Refusal := s.done (s.guarded m Pg.TCH 0xB8 (fun s => s.modelCtl v))
/-- MODEL_RESUME (R359). -/
def execModelResume (m : Master) (v : Word) (s : State) : Host.Outcome State Fault Refusal := s.done (s.guarded m Pg.TCH 0xB8 (fun s => s.modelCtl v))

/-! ## Configuration writes (R350) -/

/-- The offset and the fields of a configuration register. -/
def tchRegOff : TchReg → Nat
  | .grpCfg => 0x84 | .refNode => 0x88 | .refCh => 0x8C | .nbr01 => 0x90 | .nbr23 => 0x94 | .zcOfs => 0x98 | .mbrCfg => 0xD4

/-- The fields that a write of a configuration register changes. -/
def tchRegFields (r : TchReg) (g b : Nat) : List Fld :=
  match r with
  | .grpCfg => [F.TCH_GRP_CFG_EN g, F.TCH_GRP_CFG_PHASES g, F.TCH_GRP_CFG_LEN g]
  | .refNode => [F.TCH_GRP_REF_NODE g]
  | .refCh => [F.TCH_GRP_REF_CH_E1 g, F.TCH_GRP_REF_CH_E2 g, F.TCH_GRP_REF_CH_E3 g, F.TCH_GRP_REF_CH_V1 g, F.TCH_GRP_REF_CH_V2 g, F.TCH_GRP_REF_CH_V3 g, F.TCH_GRP_REF_CH_V_EN g]
  | .nbr01 => [F.TCH_GRP_NBR01 g]
  | .nbr23 => [F.TCH_GRP_NBR23 g]
  | .zcOfs => [F.TCH_GRP_ZC_OFS g]
  | .mbrCfg => [F.TCH_MBR_CFG_NODE b, F.TCH_MBR_CFG_CH b, F.TCH_MBR_CFG_VCH b, F.TCH_MBR_CFG_V_EN b, F.TCH_MBR_CFG_CPH b, F.TCH_MBR_CFG_DIR b, F.TCH_MBR_CFG_EN b]

/-- Is a node a field node of the unit? -/
def State.ownNode (s : State) (n : Nat) : Bool := (s.nbr n).st != .free

/-- LEN of a channel in the registers. -/
def State.cfgLen (s : State) (node ch : Nat) : Nat := lenMin (s.rd (F.PRF_CH_CFG_LEN (chanSel node ch)))

/-- Is what a group's registers hold legal: its nodes in the unit, its channels of the group's LEN, and no member that is a reference channel or another group's member, nor a reference channel that is one? -/
def State.tchLegal (s : State) (g : Nat) : Bool :=
  let v := s.groupCfg g 0
  let refs := (List.range 3).filter (fun p => v.phases.testBit p) |>.map (fun p => (v.refE[p]?).getD 0)
  let l := lenMin v.len
  let elsewhere := (listedBanks s.regs F.TCH_MBR_CFG_EN).filter (fun b => b / 1024 != g)
  let otherRefs := (s.enabledGroups.filter (fun h => h != g)).flatMap (fun h =>
    let w := s.groupCfg h 0
    ((List.range 3).filter (fun p => w.phases.testBit p)).map (fun p => chanSel w.ref ((w.refE[p]?).getD 0)))
  (v.ref == 0xFFFF || (s.ownNode v.ref && (!v.en || (refs ++ v.refV.getD []).all (fun c => s.cfgLen v.ref c == l)))) && decide (v.members.length ≤ 1024) &&
    v.members.all (fun m => s.ownNode m.node && s.cfgLen m.node m.ch == l && (match m.vch with | some c => s.cfgLen m.node c == l | none => true) && !(m.node == v.ref && refs.contains m.ch) && !otherRefs.contains (chanSel m.node m.ch) &&
      !elsewhere.any (fun b => s.rd (F.TCH_MBR_CFG_NODE b) == m.node && s.rd (F.TCH_MBR_CFG_CH b) == m.ch)) &&
    (!v.en || refs.all (fun c => !elsewhere.any (fun b => s.rd (F.TCH_MBR_CFG_NODE b) == v.ref && s.rd (F.TCH_MBR_CFG_CH b) == c)))

/-- A configuration write (R350): a refused one leaves the field as it was; an accepted change of reference or members acts from the group's next interval and clears both sums of every phase. A group starts in LEARN when EN rises (R359). -/
def State.tchCfgWrite (s : State) (r : TchReg) (v : Word) : State :=
  let g := s.selGrp
  let t := (tchRegFields r g (mbrKey g (s.rd F.TCH_MBR_SEL))).foldl (fun (t : State) f => t.wr f (f.ofWord v)) s
  if !t.tchLegal g then (s.sat F.TCH_CFG_REFUSED).raise Pg.TCH 6
  else
    let t1 := t.newVersion g
    let rise := !s.on (F.TCH_GRP_CFG_EN g) && t1.on (F.TCH_GRP_CFG_EN g)
    let t2 := if rise then
        let u := (List.range 3).foldl (fun (u : State) p => u.setDet g p {}) t1
        { u with tch := { u.tch with closedTo := SMap.set u.tch.closedTo g (t.nextGroupStart g) } }
      else t1
    match r with
    | .refNode | .refCh | .mbrCfg => t2.clearSums g
    | _ => t2

/-- TCH_CONFIG_WRITE (R350). -/
def execTchConfigWrite (m : Master) (r : TchReg) (v : Word) (s : State) : Host.Outcome State Fault Refusal :=
  s.done (s.guarded m Pg.TCH (tchRegOff r) (fun s => s.tchCfgWrite r v))

/-! ## Durability (R372) -/

/-- Touchstone's phase windows and correlation sums are checkpointed (R372). -/
def State.tchCheckpoint (s : State) : State := { s with tch := { s.tch with ckpt := s.tch.mbrs } }

/-- TCH_CHECKPOINT (R372). -/
def execTchCheckpoint (s : State) : Host.Outcome State Fault Refusal :=
  s.done (if s.on F.TCH_CTL_EN && s.domOn Dom.TSK && decide (s.rd F.IGT_STATE_MODE < 4) then s.tchCheckpoint else s)

/-- The sums of an open interval are made again from the records of its slots (R372). DEDUCED, unsafe: log entry 89. -/
def State.rebuildOpen (s : State) (r : Rec) : State :=
  (s.groupsOf r).foldl (fun (t : State) e =>
    let a := e.2.startOf r
    if a < SMap.getD t.tch.closedTo e.1 0 || r.noacc then t
    else { t with tch := { t.tch with opens := SMap.set t.tch.opens (openKey e.1 a) ((t.tchOpen e.1 a).contribute e.2 r (t.displacedBy r)) } }) s

/-- Touchstone starts again (R367, R372): the detectors from their newest close records, the members from the checkpoint, the moves over the configuration, and the open sums from the journal. DEDUCED, unsafe: log entry 89. -/
def State.tchRestart (s : State) : State :=
  let moves := s.tch.moves
  let s1 := { s with tch := { s.tch with dets := s.tch.saved, mbrs := s.tch.ckpt, moves := [], opens := [], alarms := [] } }
  let s2 := (moves.foldl (fun (t : State) e => t.applyMove e.1 e.2) s1).tchReload
  (s2.journalRecs.filter (fun j => j.kind == 1)).foldl (fun (t : State) j => t.rebuildOpen (recOfT4 j.body)) s2

/-- A configuration commit takes the moves in (R367). -/
def State.tchCommitted (s : State) : State :=
  { s with tch := { s.tch with moves := [], mbrs := s.tch.mbrs.map (fun e : Nat × TchMbr => (e.1, { e.2 with moved := false })) } }

end Sys2Proof.Machine
end

