-- ==== Sys2Proof/Machine/Ingot.lean ====
section
/-!
DEFINITION. Ingot, the NAND store (chapter 14): geometry and areas, the map, the journal's pages and their release, collection, refresh, retirement, the write-through tiers and the capacitor test.
-/
namespace Sys2Proof

/-- KiB of a page. -/
def NandFit.pageKib (f : NandFit) : Nat := if f.page16 then 16 else 8

/-- Blocks of the fitted NAND. -/
def NandFit.blocks (f : NandFit) : Nat := f.channels * f.ces * f.luns * f.bpl

/-- AUs of 32 KiB in a block. -/
def NandFit.blockAus (f : NandFit) : Nat := f.ppb * f.pageKib / 32

/-- Raw capacity in MiB. -/
def NandFit.rawMib (f : NandFit) : Nat := f.blocks * f.ppb * f.pageKib / 1024

/-- Is a fit within the limits of R375? DESIGN CHOICE, unsafe: log entry 90. -/
def NandFit.legal (f : NandFit) : Bool :=
  f.present && 1 ≤ f.channels && f.channels ≤ 4 && 1 ≤ f.ces && f.ces ≤ 8 && 1 ≤ f.luns && f.luns ≤ 4 && f.planes ≤ 2 && 64 ≤ f.ppb && f.ppb ≤ 4096 &&
    1 ≤ f.bpl && f.rawMib ≤ 4194304 && f.tprog ≤ 3000 && 160 ≤ f.spare

/-- Does a physical AU number lie in the fitted devices (R378): channel times 8 plus chip enable, then LUN, then the AU within the LUN? -/
def NandFit.hasAu (f : NandFit) (p : Nat) : Bool :=
  let q := p / max 1 (f.bpl * f.blockAus) / max 1 f.luns
  decide (q / 8 < f.channels) && decide (q % 8 < f.ces)

end Sys2Proof

namespace Sys2Proof.Machine

/-! ## Geometry and areas (R375, R377, R378) -/

/-- The block of a physical AU. -/
def State.auBlock (s : State) (p : Nat) : Nat := p / max 1 s.pins.nand.blockAus

/-- A block's counts. -/
def State.nblock (s : State) (b : Nat) : NBlock := SMap.getD s.nand.blocks b {}

/-- Sets a block's counts. -/
def State.setBlock (s : State) (b : Nat) (x : NBlock) : State := { s with nand := { s.nand with blocks := SMap.set s.nand.blocks b x } }

/-- Spare blocks of a fit: SPARE_PM per mille of its blocks. -/
def State.spareTotal (s : State) : Nat := s.pins.nand.blocks * s.nand.sparePm / 1000

/-- The areas of R377 beside the spare blocks and the profile area. -/
inductive NandArea where
  | system
  | flush
  | journal
  | map
  deriving DecidableEq, Repr

/-- MiB of one copy of an area (R377): the map area is 1.5 times the map, which holds 4 bytes for each AU of the raw capacity (R378). -/
def State.areaMib (s : State) (a : NandArea) : Nat :=
  match a with
  | .system => 128
  | .flush => 64
  | .journal => s.nand.jrnlMib
  | .map => (3 * (s.pins.nand.rawMib * 32 * 4 / 1024) / 2 + 1023) / 1024

/-- Copies of an area. -/
def NandArea.copies (a : NandArea) : Nat :=
  match a with
  | .system => 2 | .flush => 1 | .journal => 2 | .map => 1

/-- Blocks of the profile area: what the other areas leave (R377). -/
def State.profileBlocks (s : State) : Nat :=
  let f := s.pins.nand
  let mib := f.rawMib - ([NandArea.system, .flush, .journal, .map].map (fun a => a.copies * s.areaMib a)).sum
  mib * 1024 / max 1 (f.ppb * f.pageKib) - s.spareTotal

/-- Logical AUs of the profile area. -/
def State.logicalAus (s : State) : Nat := s.profileBlocks * s.pins.nand.blockAus

/-- The blocks that hold a programmed AU. -/
def State.usedBlocks (s : State) : List Nat := (s.nand.aus.map (fun e => s.auBlock e.1)).eraseDups

/-- Erased profile-area blocks (IGT.FREE_BLK). -/
def State.erasedBlocks (s : State) : Nat := s.profileBlocks - s.usedBlocks.length

/-- Free profile space per mille (IGT.FREE_PM, R385). -/
def State.freePm (s : State) : Nat := if s.logicalAus = 0 then 0 else 1000 * (s.logicalAus - s.nand.map.length) / s.logicalAus

/-- GC thresholds as they act. -/
def State.bgTh (s : State) : Nat := s.rdIn F.IGT_GC_BG_TH 20 500
def State.fgTh (s : State) : Nat := s.rdIn F.IGT_GC_FG_TH 10 (s.bgTh - 10)

/-- The mode of the store (R385, R389): READ_ONLY and ABSENT stand; else by the erased blocks, the foreground being left at FG_TH + 10; the background pauses in OUTAGE (R394). -/
def State.gcMode (s : State) : Nat :=
  let m := s.rd F.IGT_STATE_MODE
  if m = 0 || 4 ≤ m then m
  else
    let pm := if s.profileBlocks = 0 then 0 else 1000 * s.erasedBlocks / s.profileBlocks
    if pm < s.fgTh || (m = 3 && pm < s.fgTh + 10) then 3
    else if pm < s.bgTh && s.on F.IGT_CTL_BG_EN && s.mode != Md.OUTAGE then 2
    else 1

/-- KiB of the dirty map: 16 KiB a page. -/
def State.dirtyKib (s : State) : Nat := 16 * s.nand.dirty.length

/-- Gate, the tariff engine and Touchstone checkpoint at once, each while it runs (R384). -/
def State.askCheckpoints (s : State) : State :=
  let s1 := if s.domOn Dom.PKT then s.gateCheckpoint else s
  let s2 := if s1.lglRuns then s1.tarCheckpoint else s1
  if s2.on F.TCH_CTL_EN && s2.domOn Dom.TSK then s2.tchCheckpoint else s2

/-- Brings the figures of the store up to date; at JRNL_HIGH the blocks are asked to checkpoint (R384). -/
def State.igtSync (s : State) : State :=
  if s.rd F.IGT_STATE_MODE = 5 || s.rd F.IGT_STATE_MODE = 0 then s.wr F.IGT_JTAIL_NOW (min 65535 (s.tailBytes / 1024))
  else
    let s1 := ((((s.wr F.IGT_FREE_BLK s.erasedBlocks).wr F.IGT_FREE_PM (min 1023 s.freePm)).wr F.IGT_DIRTY_NOW (min 65535 s.dirtyKib)).wr F.IGT_JTAIL_NOW
      (min 65535 (s.tailBytes / 1024))).wr F.IGT_JRNL_USED (min 65535 ((s.jrn.pages.length * s.pins.nand.pageKib + 1023) / 1024))
    let m := s1.gcMode
    let s2 := s1.wr F.IGT_STATE_MODE m
    let s3 := if m = 3 && s.rd F.IGT_STATE_MODE != 3 then s2.raise Pg.IGT 0 else s2
    let high := decide (s3.rdIn F.IGT_JRNL_HIGH 500 950 * s.nand.jrnlMib ≤ 1000 * s3.rd F.IGT_JRNL_USED)
    if high && !decide (s3.rdIn F.IGT_JRNL_HIGH 500 950 * s.nand.jrnlMib ≤ 1000 * s.rd F.IGT_JRNL_USED) then (s3.raise Pg.IGT 7).askCheckpoints else s3

/-! ## Tiers (R392) -/

/-- B of R392 in millionths of a MiB, signed. -/
def State.flushBudget (s : State) : Int :=
  ((s.rd F.IGT_CAP_T_HOLD * (1000 - s.rdIn F.IGT_CAP_MARGIN 100 500) : Nat) - (2 * s.pins.nand.tprog : Nat) : Int) * s.rd F.IGT_FLUSH_RATE

/-- Brings the tier and DIRTY_EFF up to date (R392, R393): WT_ALL is forced by FORCE_WT, in a capacitor test and in its recharge. -/
def State.tierUpdate (s : State) : State :=
  let jt := s.rdIn F.IGT_JTAIL_MAX 1 16
  let b := s.flushBudget
  let forced := s.on F.IGT_CTL_FORCE_WT || s.nand.capAt.isSome || s.nand.recharge
  let tier := if forced then 2 else if (jt + 1) * 1000000 ≤ b then 0 else if jt * 1000000 ≤ b then 1 else 2
  let eff := if tier = 0 then min (s.rdIn F.IGT_DIRTY_MAX 1 24) ((b / 1000000 - jt).toNat) else 0
  (s.wr F.IGT_STATE_TIER tier).wr F.IGT_DIRTY_EFF eff

/-! ## The map (R378, R379) -/

/-- The entries of a map page. -/
def State.mapPage (s : State) (p : Nat) : SMap Nat := s.nand.map.filter (fun e => e.1 / 4096 == p)

/-- Programs a map page; it carries the sequence of the newest MAP record it reflects. -/
def State.mapProgram (s : State) (p : Nat) : State :=
  { s with nand := { s.nand with stored := SMap.set s.nand.stored p ⟨s.jrn.seq, s.mapPage p⟩, dirty := s.nand.dirty.filter (fun q => q != p) } }

/-- Maps a logical AU: its page becomes dirty, or in WT_MAP and WT_ALL is programmed at once (R392). -/
def State.mapSet (s : State) (log phys : Nat) : State :=
  let p := log / 4096
  let s1 := { s with nand := { s.nand with map := SMap.set s.nand.map log phys, dirty := if s.nand.dirty.contains p then s.nand.dirty else p :: s.nand.dirty } }
  if s.rd F.IGT_STATE_TIER = 0 then s1 else s1.mapProgram p

/-- A MAP record of up to 64 pairs (R381). -/
def mapBody (l : List (Nat × Nat)) : List Byte := be 2 l.length ++ be 2 0 ++ l.flatMap (fun e => be 4 e.1 ++ be 4 e.2)

/-- Does the store take profile-area writes? -/
def State.igtWrites (s : State) : Bool := s.domOn Dom.NVM && s.on F.IGT_STATE_READY && 1 ≤ s.rd F.IGT_STATE_MODE && s.rd F.IGT_STATE_MODE ≤ 3 && s.mode != Md.HOLDUP

/-- The lowest erase count among the good profile-area blocks that hold no AU; a block that is not listed counts 0. -/
def State.leastErased (s : State) : Nat :=
  let used := s.usedBlocks
  let listed := s.nand.blocks.filter (fun e : Nat × NBlock => !used.contains e.1)
  if used.length + listed.length < s.profileBlocks then 0
  else ((listed.filter (fun e : Nat × NBlock => !e.2.bad)).map (fun e => e.2.erases)).min?.getD 0

/-- Can a physical AU be programmed: in a good block, erased, and with WL_EN in a block already begun or one of the lowest erase count (R389)? -/
def State.auErased (s : State) (p : Nat) : Bool :=
  s.pins.nand.hasAu p && !(s.nblock (s.auBlock p)).bad && (SMap.find? s.nand.aus p).isNone &&
    (!s.on F.IGT_CTL_WL_EN || s.usedBlocks.contains (s.auBlock p) || decide ((s.nblock (s.auBlock p)).erases ≤ s.leastErased))

/-- Programs an AU (R379 step 1). -/
def State.auProgram (s : State) (phys log : Nat) (data : List Byte) : State :=
  (({ s with nand := { s.nand with aus := SMap.set s.nand.aus phys ⟨log, data⟩ } }).wrap F.IGT_PROG_AU).ledgerAdd 17 1

/-- The oldest segment write that Ingot was asked for is done (R386). DESIGN CHOICE, unsafe: log entry 139. -/
def State.writeServed (s : State) : State := { s with prf := { s.prf with writes := s.prf.writes.drop 1 } }

/-- Writes an AU (R379): the program, the MAP record, the map entry. A write waits while the dirty map or the journal is at its bound. -/
def State.auWrite (s : State) (log phys : Nat) (data : List Byte) : State :=
  if !s.igtWrites || !s.auErased phys then s
  else if s.rd F.IGT_STATE_TIER = 0 && s.rd F.IGT_DIRTY_EFF * 1024 ≤ s.dirtyKib then s
  else if !s.jrnRoom then s.sat F.IGT_JRNL_WAIT
  else ((((s.auProgram phys log data).journalRec 11 true (mapBody [(log, phys)])).mapSet log phys).writeServed.igtSync)

/-- AU_WRITE (R379). -/
def execAuWrite (logical phys : BitVec 32) (data : List Byte) (s : State) : Host.Outcome State Fault Refusal :=
  s.done (if logical.toNat < s.logicalAus then s.auWrite logical.toNat phys.toNat data else s)

/-- MAP_PAGE_PROGRAM (R378, R379). -/
def execMapPageProgram (page : BitVec 20) (s : State) : Host.Outcome State Fault Refusal :=
  s.done (if s.domOn Dom.NVM && s.on F.IGT_STATE_READY && s.rd F.IGT_STATE_MODE != 5 && s.mode != Md.HOLDUP && s.nand.dirty.contains page.toNat then (s.mapProgram page.toNat).igtSync else s)

/-! ## The journal (R380 to R384) -/

/-- The KINDs of R381 that a block appends. -/
def jrnKind (k : Nat) : Bool := 1 ≤ k && k ≤ 12

/-- JOURNAL_APPEND (R380, R383): an append waits while the tail is at its bound, and the wait is counted. -/
def execJournalAppend (kind : Fin 16) (isLocal : Bool) (body : List Byte) (s : State) : Host.Outcome State Fault Refusal :=
  s.done (if !jrnKind kind.val || 65535 < body.length then s
    else if !s.jrnRoom then s.sat F.IGT_JRNL_WAIT
    else (s.journalRec kind.val isLocal body).igtSync)

/-- A journal record as it lies in a journal page (R380). -/
def JRec.bytes (r : JRec) : List Byte :=
  let h := be 8 r.seq ++ be 1 r.kind ++ be 1 (b2n r.isLocal) ++ be 2 r.body.length
  h ++ be 4 (crc32 (h ++ r.body)) ++ r.body

/-- A journal page (R383): the first LSEQ, the record count and the CRC, then the records; what is left of the page is not stated. -/
def journalPage (l : List JRec) : List Byte :=
  let h := be 8 ((l.head?.map (fun r => r.seq)).getD 0) ++ be 2 l.length ++ be 18 0
  let b := l.flatMap JRec.bytes
  h ++ be 4 (crc32 (h ++ b)) ++ b

/-- How many records of a list fit a page of `room` bytes, none spanning two pages; a record longer than a page takes one alone. -/
def fitPage : Nat → List JRec → Nat
  | _, [] => 0
  | room, r :: l => if r.size ≤ room then fitPage (room - r.size) l + 1 else 0

/-- Programs the oldest records of the tail as one page in both copies (R383). -/
def State.pageProgram (s : State) : State :=
  let n := max 1 (fitPage (s.pins.nand.pageKib * 1024 - 32) s.jrn.tail)
  if s.jrn.tail.isEmpty then s
  else { s with jrn := { s.jrn with pages := s.jrn.pages ++ [s.jrn.tail.take n], tail := s.jrn.tail.drop n } }

/-- Programs the whole tail. -/
def State.tailProgram (s : State) : Nat → State
  | 0 => s
  | n + 1 => if s.jrn.tail.isEmpty then s else s.pageProgram.tailProgram n

/-- Is the journal area written now: NAND fitted and ready? -/
def State.jrnStore (s : State) : Bool := s.domOn Dom.NVM && s.on F.IGT_STATE_READY && s.rd F.IGT_STATE_MODE != 5 && s.mode != Md.HOLDUP

/-- JOURNAL_PAGE_PROGRAM (R383). -/
def execJournalPageProgram (s : State) : Host.Outcome State Fault Refusal :=
  s.done (if s.jrnStore then s.pageProgram.igtSync else s)

/-- The lowest of a list of sequences. -/
def lowest (top : Nat) (l : List Nat) : Nat := l.foldl min top

/-- The latest GATE record of an entry in the journal, 0 where it has none. -/
def State.gateLast (s : State) (i : Nat) : Nat :=
  (s.journalRecs.filter (fun j => j.kind == 6 && field j.body 0 3 == i)).foldl (fun a j => max a j.seq) 0

/-- The sequence below which the Gate's checkpoints cover every record (R206, R384): of an entry changed since its latest GATE record, that record and the T4 records after it are still needed. -/
def State.gateNeeds (s : State) : Nat :=
  let ids := (s.gate.nbr.filter (fun e : Nat × Nbr => e.2.changed)).map (fun e => (e.1, s.gateLast e.1))
  lowest (s.jrn.seq + 1) ((s.journalRecs.filter (fun j =>
    (j.kind == 6 && ids.any (fun e => field j.body 0 3 == e.1 && j.seq == e.2)) ||
    (j.kind == 1 && (let r := recOfT4 j.body; ids.any (fun e => (r.txNbr == e.1 || r.node == e.1) && decide (e.2 < j.seq)))))).map (fun j => j.seq))

/-- The sequence of the newest record of a kind that makes a store slot current (R384), with a body that begins so. -/
def State.newestOf (s : State) (kind : Nat) (head : List Byte) : List Nat :=
  ((s.journalRecs.filter (fun j => j.kind == kind && j.body.take head.length == head)).getLast?.map (fun j => j.seq)).toList

/-- The release horizon (R384): the lowest sequence still needed. -/
def State.releaseHorizon (s : State) : Nat :=
  let top := s.jrn.seq + 1
  let open_ := s.hlm.trees.filterMap (fun t : Tree => if t.nleaf = 0 then none else some t.first)
  let dirty := s.nand.dirty.map (fun p => ((SMap.find? s.nand.stored p).map (fun m => if s.partnered then m.stamp else m.stamp + 1)).getD 1)
  let tch := if s.tch.opens.isEmpty then [] else (s.tch.opens.flatMap (fun e : Nat × TchOpen => e.2.cur.map (fun r => r.2.lseq)))
  lowest top ([s.gateNeeds, s.tar.ckpt.seq + 1] ++ s.segNeeds ++ open_ ++ dirty ++ tch ++ s.newestOf 7 [] ++ s.newestOf 8 (be 1 0x4D) ++
    (if s.partnered && s.pair.active && !s.on F.MIR_STAT_SOLO then [s.mirApplied + 1] else []))

/-- One record of a released page: a GATE record leaves its entry as it says; a FREE entry is not listed, but a link entry is. -/
def keepGate (m : SMap Nbr) (j : JRec) : SMap Nbr :=
  let i := field j.body 0 3
  if j.kind != 6 || 0x20000 ≤ i then m else putNbr m i (nbrOfGate j.body)

/-- Each entry as the GATE records of a released page leave it: the checkpoint that later BOOTs start from (R206). -/
def Gate.keepSaved (g : Gate) (p : List JRec) : Gate := { g with saved := p.foldl keepGate g.saved }

/-- JOURNAL_RELEASE (R384): the oldest page is released where all its records lie below the release horizon. -/
def execJournalRelease (s : State) : Host.Outcome State Fault Refusal :=
  s.done (match s.jrn.pages with
    | [] => s
    | p :: ps =>
      if s.jrnStore && p.all (fun j => decide (j.seq < s.releaseHorizon)) then ({ s with jrn := { s.jrn with pages := ps }, gate := s.gate.keepSaved p }).igtSync else s)

/-! ## Relocation (R385, R387 to R389) -/

/-- The valid AUs of a block: those that the map names. -/
def State.validAus (s : State) (b : Nat) : List (Nat × AuData) :=
  s.nand.aus.filter (fun e : Nat × AuData => s.auBlock e.1 == b && SMap.find? s.nand.map e.2.logical == some e.1)

/-- The stale AUs of a block. -/
def State.staleAus (s : State) (b : Nat) : Nat :=
  (s.nand.aus.filter (fun e : Nat × AuData => s.auBlock e.1 == b && SMap.find? s.nand.map e.2.logical != some e.1)).length

/-- The victim of collection: the block with the most stale AUs, among equals the one erased least (R385). -/
def State.victim (s : State) : Option Nat :=
  s.usedBlocks.foldl (fun (v : Option Nat) b => match v with
    | none => some b
    | some w =>
      if s.staleAus w < s.staleAus b || (s.staleAus w == s.staleAus b && ((s.nblock b).erases < (s.nblock w).erases || ((s.nblock b).erases == (s.nblock w).erases && b < w))) then some b else some w) none

/-- Does a block trail the highest erase count so far that wear levelling moves its data (R389)? -/
def State.trails (s : State) (b : Nat) : Bool :=
  let top := (s.nand.blocks.map (fun e => e.2.erases)).foldl max 0
  s.on F.IGT_CTL_WL_EN && s.mode != Md.OUTAGE && s.usedBlocks.contains b && decide ((s.nblock b).erases + s.rdIn F.IGT_WL_SPREAD 50 10000 < top)

/-- A block is retired (R389): counted, and a spare block takes its place; below 1 per mille of the raw blocks the store is READ_ONLY. -/
def State.retireBlock (s : State) (b : Nat) : State :=
  let s1 := ((s.setBlock b { s.nblock b with bad := true }).sat F.IGT_GROWN_BAD).raise Pg.IGT 3
  let left := s1.rd F.IGT_SPARE_NOW - 1
  let s2 := s1.wr F.IGT_SPARE_NOW left
  if left * 1000 < s2.pins.nand.blocks && s2.rd F.IGT_STATE_MODE < 4 then (s2.wr F.IGT_STATE_MODE 4).raise Pg.IGT 1 else s2

/-- Copies the valid AUs of a block in order, one attempt after the other (R387 steps 1 and 2): a copy that fails retires its target block. Answers the pairs copied, or none where the attempts do not suffice or a target is not erased. -/
def State.copyAus (s : State) : List (Nat × AuData) → List CopyTo → List (Nat × Nat) → Option (List (Nat × Nat) × State)
  | [], _, acc => some (acc, s)
  | _ :: _, [], _ => none
  | a :: l, d :: ds, acc =>
    if !s.auErased d.phys || s.auBlock d.phys == s.auBlock a.1 then none
    else
      let t := s.auProgram d.phys a.2.logical a.2.data
      if d.ok then t.copyAus l ds (acc ++ [(a.2.logical, d.phys)]) else (t.retireBlock (t.auBlock d.phys)).copyAus (a :: l) ds acc

/-- MAP records for copied AUs, 64 pairs a record. -/
def State.mapRecords (s : State) : Nat → List (Nat × Nat) → State
  | 0, _ => s
  | n + 1, l => if l.isEmpty then s else (s.journalRec 11 true (mapBody (l.take 64))).mapRecords n (l.drop 64)

/-- Erases a block. -/
def State.eraseBlock (s : State) (b : Nat) : State :=
  let x := s.nblock b
  ((({ s with nand := { s.nand with aus := s.nand.aus.filter (fun e => s.auBlock e.1 != b) } }).setBlock b { x with erases := x.erases + 1, reads := 0, weak := false }).wrap F.IGT_ERASES).ledgerAdd 18 1

/-- Relocates a block (R387): copies, verified; MAP records, programmed; the map; the erase. -/
def State.relocate (s : State) (b : Nat) (dst : List CopyTo) : Option State :=
  (s.copyAus (s.validAus b) dst []).map (fun (l, t) =>
    let t1 := t.mapRecords (l.length + 1) l
    let t2 := t1.tailProgram (t1.jrn.tail.length + 1)
    let t3 := l.foldl (fun (u : State) e => u.mapSet e.1 e.2) t2
    ((t3.eraseBlock b).wr F.IGT_GC_MOVED (s.rd F.IGT_GC_MOVED + l.length)).igtSync)

/-- GC_RELOCATE (R385 to R387, R389): of the victim while collection runs, or of a block that wear levelling moves. -/
def execGcRelocate (blk : Nat) (dst : List CopyTo) (s : State) : Host.Outcome State Fault Refusal :=
  s.done (let due := (s.victim == some blk && (s.gcMode == 2 || s.gcMode == 3)) || s.trails blk
    if s.jrnStore && due then (s.relocate blk dst).getD s else s)

/-- BLOCK_REFRESH (R388): a block whose read count has reached RD_LIMIT or that a read found weak. -/
def execBlockRefresh (blk : Nat) (dst : List CopyTo) (s : State) : Host.Outcome State Fault Refusal :=
  s.done (let x := s.nblock blk
    if s.jrnStore && (x.weak || s.rdIn F.IGT_RD_LIMIT 1000 10000000 ≤ x.reads) then
      (match s.relocate blk dst with | some t => t.sat F.IGT_REFRESHES | none => s)
    else s)

/-- What a read of a block leaves (R376, R388): its count, corrections, and whether it needs a refresh. -/
def State.readBlock (s : State) (b n bits : Nat) : State :=
  let x := s.nblock b
  let s1 := s.setBlock b { x with reads := x.reads + n, weak := x.weak || decide (s.rdIn F.IGT_REFRESH_BITS 8 72 ≤ bits) }
  if bits = 0 then s1 else s1.errCorr Pg.IGT

/-- PATROL_READ (R388, R394): every page of a mapped block; the patrol pauses in OUTAGE. -/
def execPatrolRead (blk bits : Nat) (s : State) : Host.Outcome State Fault Refusal :=
  s.done (if s.jrnStore && s.mode != Md.OUTAGE && !(s.validAus blk).isEmpty then s.readBlock blk s.pins.nand.ppb bits else s)

/-- NAND_READ (R376): read-retries up to RETRY_MAX, corrections, or an uncorrectable codeword. -/
def execNandRead (phys : BitVec 32) (bits retries : Nat) (unc : Bool) (s : State) : Host.Outcome State Fault Refusal :=
  s.done (if s.domOn Dom.NVM && s.rd F.IGT_STATE_MODE != 5 && s.pins.nand.hasAu phys.toNat then
      let s1 := (s.readBlock (s.auBlock phys.toNat) 1 bits).addSat F.IGT_RETRIES (min retries (s.rd F.IGT_RETRY_MAX))
      if unc then (s1.errUnc Pg.IGT).raise Pg.IGT 2 else s1
    else s)

/-! ## The capacitor test (R393) -/

/-- Flushes the tail and the dirty map into their own areas. -/
def State.flushAll (s : State) : State :=
  let s1 := s.tailProgram (s.jrn.tail.length + 1)
  (s1.nand.dirty.foldl (fun (t : State) p => t.mapProgram p) s1).igtSync

/-- Is a periodic test due (R393): PERIOD_D days after the last completed one, or 24 h after the BOOT that followed an aborted one? -/
def State.capDue (s : State) : Bool :=
  match s.nand.retryAt with
  | some none => false
  | some (some t) => decide (t ≤ s.ledgerTime)
  | none => decide (s.rd F.IGT_CAP_LAST + s.rdIn F.IGT_CAP_PERIOD_D 1 365 ≤ s.ledgerTime / 86400)

/-- A test starts: only with PF_N and MAINS_OK high, never in OUTAGE or HOLDUP. DESIGN CHOICE, unsafe: log entry 91. -/
def State.capStart (s : State) : State :=
  if s.nand.capAt.isSome || !s.jrnStore || !s.pins.pfN || !s.pins.mainsOk || s.mode = Md.OUTAGE || s.mode = Md.HOLDUP || !s.on F.IGT_CAP_CTL_EN then s
  else
    let s1 := (({ s with nand := { s.nand with capAt := some s.raw, retryAt := none } }).gpioFollow s).tierUpdate
    s1.flushAll.wr F.IGT_CAP_STAT_BUSY 1

/-- A write of CAP_CTL (R395). -/
def State.capCtlWrite (s : State) (v : Word) : State :=
  let s1 := (((s.wr F.IGT_CAP_CTL_EN (bits v 1 1)).wr F.IGT_CAP_CTL_PIN (bits v 11 8)).wr F.IGT_CAP_CTL_LOAD_MW (bits v 31 16)).gpioFollow s
  if bit v 0 then s1.capStart else s1

/-- CAP_TEST (R393): on GO, or when its period has passed. -/
def execCapTest (m : Master) (w : Option Word) (s : State) : Host.Outcome State Fault Refusal :=
  s.done (match w with
    | some v => s.guarded m Pg.IGT 0x94 (fun s => s.capCtlWrite v)
    | none => if s.capDue then s.capStart else s)

/-- A test ends with a result: the pin goes low, and the recharge begins. DESIGN CHOICE, unsafe: log entry 91. -/
def State.capEnd (s : State) (res tTest tHold : Nat) : State :=
  let s1 := ({ s with nand := { s.nand with capAt := none, recharge := true } }).gpioFollow s
  let s2 := ((s1.wr F.IGT_CAP_STAT_BUSY 0).wr F.IGT_CAP_STAT_RESULT res).wr F.IGT_CAP_STAT_T_TEST (min 65535 tTest)
  let s3 := (((s2.wr F.IGT_CAP_T_HOLD (min 65535 tHold)).wr F.IGT_CAP_LAST (s.ledgerTime / 86400)).raise Pg.IGT 4)
  (if res = 2 then s3.raise Pg.IGT 5 else s3).tierUpdate

/-- HOLD_V_FALL (R393): T_hold is the elapsed time scaled by the loads; below 50 ms it is LOW. With a draw of 0 the rule states no T_hold: a free value. -/
def execHoldVFall (s : State) : Host.Outcome State Fault Refusal :=
  s.done (match s.nand.capAt with
    | some c =>
      let t := (s.raw - c) / 250000
      let w := s.rd F.IGT_CAP_HOLDUP_MW
      let h := if w = 0 then s.freeVal 65536 else t * s.rd F.IGT_CAP_CTL_LOAD_MW / w
      (if w = 0 then s.tookFree else s).capEnd (if h < 50 then 2 else 1) t h
    | none => s)

/-- CAP_TEST_NO_FALL (R393). -/
def execCapTestNoFall (s : State) : Host.Outcome State Fault Refusal :=
  s.done (if s.nand.capAt.isSome then s.capEnd 4 500 500 else s)

/-- CAP_RECHARGE_END (R393): R392 applies again. -/
def execCapRechargeEnd (s : State) : Host.Outcome State Fault Refusal :=
  s.done (if s.nand.recharge then ({ s with nand := { s.nand with recharge := false } }).tierUpdate else s)

/-- PF_N during a test (R393): the pin goes low at once, and the result is ABORTED with T_hold unchanged; the test is retried 24 h after the next BOOT. -/
def State.capAbort (s : State) : State :=
  match s.nand.capAt with
  | some _ =>
    ((({ s with nand := { s.nand with capAt := none, retryAt := some none } }).gpioFollow s).wr F.IGT_CAP_STAT_BUSY 0).wr F.IGT_CAP_STAT_RESULT 3
  | none => s

end Sys2Proof.Machine
end

