-- ==== Sys2Proof/Machine/Firmware.lean ====
section
/-!
DEFINITION. Images and the boot record (R476, R477, R487, R489, R491): header fields, the slot that boots, its check and measurement.
-/
namespace Sys2Proof.Machine

/-! ## Images (R477) -/

/-- VERSION of a kept header. -/
def hdrVersion (h : List Byte) : Nat := field h 8 4

/-- SVN of a header. -/
def hdrSvn (h : List Byte) : Nat := field h 16 1 % 64

/-- FMT of a header. -/
def hdrFmt (h : List Byte) : Nat := field h 18 2

/-- PART of a header. -/
def hdrPart (h : List Byte) : Nat := field h 6 1

/-- TARGET_DIGEST of a header. -/
def hdrTarget (h : List Byte) : List Byte := (h.drop 80).take 48

/-- IMGID: the first 4 bytes of SHA-384 over the header. -/
def imgId (h : List Byte) : Nat := field (Config.sha384 h) 0 4

/-- The COMPAT entries of a header (R477): part, lowest and highest compatible version. -/
def hdrCompat (h : List Byte) : List (Nat × Nat × Nat) :=
  ((List.range 5).map (fun k => (field h (176 + 12 * k) 1, field h (180 + 12 * k) 4, field h (184 + 12 * k) 4))).filter (fun e => e.1 != 0)

/-- Does a header accept a version of another part (R487)? -/
def hdrAdmits (h : List Byte) (q v : Nat) : Bool :=
  match (hdrCompat h).find? (fun e => e.1 == q) with
  | some e => decide (e.2.1 ≤ v) && decide (v ≤ e.2.2)
  | none => true

/-! ## The boot record (R489) -/

/-- A part of the boot record. -/
def State.part (s : State) (p : Nat) : FwPart := SMap.getD s.upd.parts p {}

/-- A slot of a part: 0 A, 1 B. -/
def FwPart.slot (x : FwPart) (i : Nat) : FwSlot := if i = 0 then x.a else x.b

/-- Changes a slot of a part. -/
def FwPart.put (x : FwPart) (i : Nat) (w : FwSlot) : FwPart := if i = 0 then { x with a := w } else { x with b := w }

/-- The slot that is not active. -/
def FwPart.other (x : FwPart) : Nat := 1 - x.act

/-- Writes a part to the boot record, and its fields to the UPD page (R497). -/
def State.setPart (s : State) (p : Nat) (x : FwPart) : State :=
  let s1 := { s with upd := { s.upd with parts := SMap.set s.upd.parts p x } }
  let k := p - 1
  (((((s1.wr (F.UPD_PART_ACT k) x.act).wr (F.UPD_PART_STATE_A k) x.a.st).wr (F.UPD_PART_STATE_B k) x.b.st).wr (F.UPD_PART_TRIALS k) (min 3 x.trials)).wr
    (F.UPD_PART_VER_A k) (hdrVersion x.a.head)).wr (F.UPD_PART_VER_B k) (hdrVersion x.b.head)

/-- An update entry of the journal (R497). -/
def State.updJournal (s : State) (typ part slot img ver : Nat) : State :=
  s.journal 10 (be 1 0x55 ++ be 1 typ ++ be 1 part ++ be 1 slot ++ be 4 img ++ be 4 ver ++ be 8 s.raw)

/-- The slot that BOOT tries first (R489): the one in NEXT or TRIAL, else the active one. -/
def FwPart.first (x : FwPart) : Nat :=
  if x.a.st = 2 || x.a.st = 3 then 0 else if x.b.st = 2 || x.b.st = 3 then 1 else x.act

/-- The measurement of a slot's contents (R465, R491). -/
def FwSlot.digest (w : FwSlot) : List Byte := (Config.sha384 w.data ++ be 48 0).take 48

/-- The check of a slot before it runs (R491): the kept header's signature, and TARGET_DIGEST. The firmware that the unit was made with has no header of its own and passes. -/
def FwSlot.passes (w : FwSlot) (key : List Byte) : Bool :=
  w.head.isEmpty || (Config.ecdsaVerify key w.head w.sig && hdrTarget w.head == w.digest)

/-- The public key that signs a part (R476, R491). -/
def State.partKey (s : State) (p : Nat) : List Byte := if p = 1 then Config.vendorRoot else s.keyOf 11

/-- The measurements of the slots that BOOT will run (R465). -/
def State.fwMeasure (s : State) : State :=
  let meas := [1, 2, 3, 4, 5].foldl (fun (m : SMap (List Byte)) p =>
    match (s.part p).runs with
    | some i => SMap.set m p ((s.part p).slot i).digest
    | none => SMap.erase m p) s.sec.meas
  { s with sec := { s.sec with meas := meas } }

/-- Before anything is checked, BOOT means to run the slot it tries first. -/
def State.fwPrepare (s : State) : State :=
  (([1, 2, 3, 4, 5].foldl (fun (t : State) p => { t with upd := { t.upd with parts := SMap.set t.upd.parts p { t.part p with runs := some (t.part p).first } } }) s)).fwMeasure

/-- A slot that boots from NEXT or TRIAL is in trial, and the boot counts while its step is under way (R489, R491). -/
def FwPart.trialBoot (x : FwPart) (i : Nat) (underWay : Bool) : FwPart :=
  let w := x.slot i
  if w.st = 2 then { x.put i { w with st := 3 } with trials := 1, runs := some i }
  else if w.st = 3 then { x with trials := if underWay then x.trials + 1 else x.trials, runs := some i }
  else { x with runs := some i }

/-- Is a part the one whose step is under way: built, and not yet passed (R489, R491)? -/
def State.stepPart (s : State) (p : Nat) : Bool :=
  match s.upd.bundle with
  | some b => b.built && (b.images[b.step]?.map (fun x => hdrPart x.head)) == some p
  | none => false

/-- What a trial must not see (R491) has happened. -/
def State.trialBad (s : State) : State :=
  match s.upd.bundle with
  | some b => { s with upd := { s.upd with bundle := some { b with bad := true } } }
  | none => s

/-- Checks a part and chooses the slot that boots (R491): a slot that fails is FAILED, and the other boots. -/
def State.fwCheck (s : State) (p : Nat) : State :=
  let x := s.part p
  let i := x.first
  let key := s.partKey p
  if (x.slot i).passes key then
    let y := x.trialBoot i (s.stepPart p)
    (if s.stepPart p && 3 ≤ y.trials then s.trialBad else s).setPart p y
  else
    let y := x.put i { x.slot i with st := 6 }
    let j := 1 - i
    let s1 := s.trialBad
    if (y.slot j).st != 0 && (y.slot j).passes key then s1.setPart p { y with runs := some j, act := j }
    else s1.setPart p { y with runs := none }

/-- Does every part have a slot that passed (R491)? -/
def State.fwOk (s : State) : Bool := [1, 2, 3, 4, 5].all (fun p => (s.part p).runs.isSome)

/-- The slot a part runs from. -/
def State.running (s : State) (p : Nat) : FwSlot := (s.part p).slot ((s.part p).runs.getD (s.part p).act)

/-- The loaders check every part (R491): the slots that run, their measurements, the format of the running APP firmware, and the state of an update in trial. -/
def State.fwBoot (s : State) : State :=
  let s0 := match s.upd.bundle with
    | some b => { s with upd := { s.upd with bundle := some { b with reached := false } } }
    | none => s
  let s1 := ([1, 2, 3, 4, 5].foldl (fun (t : State) p => t.fwCheck p) s0).fwMeasure
  let s2 := s1.wr F.CFG_FMT_CUR (hdrFmt (s1.running 4).head)
  if s2.rd F.UPD_STAT_STATE = 2 then s2.wr F.UPD_STAT_STATE 3 else s2

/-- The domains that a part's trial watches (R476). -/
def partDomains (p : Nat) : List Nat :=
  match p with
  | 1 => [Dom.SEC] | 2 => [Dom.LGL] | 3 => [Dom.TSK, Dom.PKT] | 4 => [Dom.APP] | 5 => [Dom.FPA, Dom.FPB]
  | _ => []

/-- A DOM reset or a failed slice of a domain, seen by a trial that watches it (R491). -/
def State.trialSees (s : State) (d : Nat) : State :=
  if [1, 2, 3, 4, 5].any (fun p => ((s.part p).a.st == 3 || (s.part p).b.st == 3) && (partDomains p).contains d) then s.trialBad else s

/-- At BOOT the LEGAL part's check value is known (R316): FW_ID, CHECK, and a CHECK_CHANGE event where it differs from that of the BOOT before. -/
def State.legalCheck (s : State) : State :=
  let m := s.measure 2
  let s1 := { s with lgl := { s.lgl with check := m, checkPrev := m } }
  let s2 := ((s1.wr F.LGL_FW_ID (hdrVersion (s.running 2).head)).wr F.LGL_CHECK_SHORT_HI (field m 0 4)).wr F.LGL_CHECK_SHORT_LO (field m 4 2)
  if s.lgl.checkPrev.isEmpty || s.lgl.checkPrev == m then s2
  else s2.legalEvent 11 2 7 s2.jrn.seq (s.lgl.checkPrev.take 6 ++ m.take 6)

end Sys2Proof.Machine
end

