-- ==== Sys2Proof/Machine/Objects.lean ====
section
/-!
DEFINITION. The object model (R293, R297, R298, R301, R311 to R321): the legal commit, sessions, the objects with their rights, GET, SET and ACTION requests.
-/
namespace Sys2Proof.Machine

/-! ## The legal partition (R293) -/

/-- Is a field key in the legal partition: a P-class field of the TAR, OBJ or LGL page body (R55, R293)? -/
def legalKey (k : Nat) : Bool := keyClass k == 2 && (keyPage k == Pg.TAR || keyPage k == Pg.OBJ || keyPage k == Pg.LGL) && decide (0x40 ≤ k / 32 % 0x1000)

/-- The legal partition as it stands. -/
def State.legalImage (s : State) : SMap Nat := s.regs.filter (fun e => legalKey e.1)

/-- Can the partition be stored: Ingot takes writes? -/
def State.legalStore (s : State) : Bool := decide (s.rd F.IGT_STATE_MODE < 4) && s.domOn Dom.NVM

/-- Commits the legal partition (R293): the next generation in the slot that is not current, its journal record, and with it a register checkpoint (log entry 20). DEDUCED, unsafe: log entry 20. -/
def State.legalCommit (s : State) : State :=
  if !s.legalStore then (s.wr F.LGL_STAT_RESULT 3).raise Pg.LGL 4
  else
    let gen := (s.rd F.LGL_LGEN + 1) % 2 ^ 32
    let slot : LegalSlot := ⟨gen, s.legalImage, true, hdrFmt (s.running 2).head⟩
    let l := if gen % 2 = 0 then { s.lgl with slot0 := some slot, image := slot.image } else { s.lgl with slot1 := some slot, image := slot.image }
    (((({ s with lgl := l }.wr F.LGL_LGEN gen).journal 8 (be 1 0x4D ++ be 4 gen)).wr F.LGL_STAT_RESULT 1).raise Pg.LGL 4).tarCheckpoint

/-! ## Sessions (R314) -/

/-- A master's own session and request fields (R321): the page's OWNER does not count, its LOCK does. -/
def State.sessGuard (s : State) (m : Master) (off : Nat) (eff : State → State) : State :=
  if s.dead then s
  else if !s.pageOn Pg.OBJ then s.accErr m Cause.DOM_OFF (Pg.OBJ * 0x1000 + off)
  else if !(m == .smp || s.isMain m) then s.denyWrite m Cause.OWNER_DENY Pg.OBJ off
  else if s.locked Pg.OBJ then s.denyWrite m Cause.LOCKED Pg.OBJ off
  else eff s

/-- A read of SESS_CHAL_LO issues a fresh challenge and latches HI. -/
def State.sessChalRead (s : State) (m : Master) : State :=
  let b := masterCode m
  let x := s.freeVal (2 ^ 64)
  let t := { s.tookFree with lgl := { s.lgl with chal := SMap.set s.lgl.chal b x } }
  ((((t.wr (F.OBJ_SESS_CHAL_LO b) x).wr (F.OBJ_SESS_CHAL_HI b) (x / 2 ^ 32)).setShadow m Pg.OBJ 0x44 (BitVec.ofNat 32 (x / 2 ^ 32)))).answer (BitVec.ofNat 32 x)

/-- SESSION_CHALLENGE (R314). -/
def execSessionChallenge (m : Master) (s : State) : Host.Outcome State Fault Refusal :=
  s.done (s.guardedRead m Pg.OBJ 0x40 (fun s => s.sessChalRead m))

/-- The key slot of a role (R321). DEDUCED, unsafe: log entry 82. -/
def State.roleSlot (s : State) (r : Nat) : Nat := s.rd F.OBJ_ROLE_SLOT / 256 ^ (3 - r) % 256

/-- The response that a master has written (R314). -/
def State.sessResp (s : State) (b : Nat) : List Byte := (List.range 4).flatMap (fun w => be 4 (s.rd (F.OBJ_SESS_RESP w b)))

/-- Opens a session in a role (R314): SEC checks the response under the role's slot. A challenge serves one OPEN. DEDUCED, unsafe: log entry 82. -/
def State.sessOpen (s : State) (b r : Nat) : State :=
  if r = 4 then (s.endSession b).wr (F.OBJ_SESS_STAT_RES b) 1
  else if 4 < r || !s.domOn Dom.SEC || (s.slot (s.roleSlot r)).typ != 3 then s.wr (F.OBJ_SESS_STAT_RES b) 3
  else
    let t := { s with lgl := { s.lgl with chal := SMap.erase s.lgl.chal b } }
    match SMap.find? s.lgl.chal b with
    | none => t.wr (F.OBJ_SESS_STAT_RES b) 2
    | some c =>
      let (k, u) := t.invoke (t.roleSlot r) Mst.LGL true Use.HMAC
      match k with
      | none => u.wr (F.OBJ_SESS_STAT_RES b) 3
      | some key =>
        if (Config.hmac key (be 8 c ++ be 1 r)).take 16 == u.sessResp b then (u.wr (F.OBJ_SESS_STAT_ROLE b) r).wr (F.OBJ_SESS_STAT_RES b) 1
        else u.wr (F.OBJ_SESS_STAT_RES b) 2

/-- A write of SESS_CTL (R314, R321). -/
def State.sessCtl (s : State) (m : Master) (v : Word) : State :=
  let b := masterCode m
  if bit v 9 then s.endSession b else if bit v 8 then s.sessOpen b (bits v 2 0) else s

/-- SESSION_OPEN (R314). -/
def execSessionOpen (m : Master) (v : Word) (s : State) : Host.Outcome State Fault Refusal :=
  s.done (s.sessGuard m 0x58 (fun s => s.sessCtl m v))
/-- SESSION_CLOSE (R314). -/
def execSessionClose (m : Master) (v : Word) (s : State) : Host.Outcome State Fault Refusal :=
  s.done (s.sessGuard m 0x58 (fun s => s.sessCtl m v))
/-- SESSION_TIMEOUT (R314): 900 s without a request. -/
def execSessionTimeout (m : Master) (s : State) : Host.Outcome State Fault Refusal :=
  s.done (if s.domOn Dom.LGL then s.endSession (masterCode m) else s)

/-! ## Objects and rights (R311 to R313) -/

/-- The objects of R312. `f` is 255 for the current value, else the code of a stored period. -/
inductive Obj where
  | energy (kind e f : Nat)
  | demand (dir e f : Nat)
  | vz
  | closeTime (f : Nat)
  | tariff
  | specials
  | account
  | binding
  | fwId
  | check
  | log
  | evtCnt
  | clock
  deriving DecidableEq, Repr

/-- The billing register of an OBIS value group C (R312). -/
def energyKind (c : Nat) : Option Nat :=
  match c with
  | 1 => some Reg.CUM_IMP | 2 => some Reg.CUM_EXP | 16 => some Reg.NET
  | 128 => some Reg.CORR_IMP | 129 => some Reg.CORR_EXP | 130 => some Reg.EST_IMP | 131 => some Reg.EST_EXP
  | _ => none

/-- The object of an OBIS code A.B.C.D.E.F (R312). -/
def objOf (a b c d e f : Nat) : Option Obj :=
  if a = 1 && b = 0 then
    if c = 0 then
      (if d = 1 && e = 0 && f = 255 then some .vz
       else if d = 1 && e = 2 then some (.closeTime f)
       else if d = 2 && e = 0 && f = 255 then some .fwId
       else if d = 2 && e = 8 && f = 255 then some .check
       else none)
    else if d = 8 && e ≤ 16 then (energyKind c).map (fun k => .energy k e f)
    else if d = 6 && e ≤ 16 && (c = 1 || c = 2) then some (.demand (c - 1) e f)
    else none
  else if a = 0 && b = 0 && f = 255 then
    if c = 13 && d = 0 && e = 0 then some .tariff
    else if c = 11 && d = 0 && e = 0 then some .specials
    else if c = 128 && d = 0 && e = 0 then some .account
    else if c = 128 && d = 0 && e = 1 then some .binding
    else if c = 99 && d = 98 && e = 0 then some .log
    else if c = 96 && d = 15 && e = 0 then some .evtCnt
    else if c = 1 && d = 0 && e = 0 then some .clock
    else none
  else none

/-- The object that an OBIS number of six bytes names. -/
def objNamed (obis : Nat) : Option Obj :=
  objOf (obis / 2 ^ 40 % 256) (obis / 2 ^ 32 % 256) (obis / 2 ^ 24 % 256) (obis / 2 ^ 16 % 256) (obis / 2 ^ 8 % 256) (obis % 256)

/-- Does a RELAY serve an object (R292)? -/
def Obj.atRelay (o : Obj) : Bool :=
  match o with
  | .fwId | .check | .log | .evtCnt => true
  | _ => false

/-- RIGHTS of an object (R311, R313): three bits R, W and X for OPERATOR [14:12], BILLING [11:9], TECHNICIAN [8:6], AUDITOR [5:3] and PUBLIC [2:0]. -/
def Obj.rights (o : Obj) : Nat :=
  match o with
  | .energy k _ f => if f = 255 && k ≤ Reg.NET then 0b100100100100100 else 0b100100000100000
  | .demand _ _ f => if f = 255 then 0b100100100100100 else 0b100100000100000
  | .closeTime _ => 0b100100000100000
  | .tariff | .specials => 0b100111100100000
  | .account | .binding => 0b110100100100000
  | .log => 0b100100100101000
  | .vz => 0b100101100100100
  | .fwId | .check | .evtCnt | .clock => 0b100100100100100

/-- A right of a role, by its bit: 0 OPERATOR, 1 BILLING, 2 TECHNICIAN, 3 AUDITOR, 4 PUBLIC. -/
def Obj.right (o : Obj) (bit r : Nat) : Bool := decide (r ≤ 4) && o.rights.testBit (3 * (4 - r) + bit)

/-- The roles that may read an object, write it and act on it (R313). -/
def Obj.readable (o : Obj) (r : Nat) : Bool := o.right 2 r
def Obj.writable (o : Obj) (r : Nat) : Bool := o.right 1 r
def Obj.actable (o : Obj) (r : Nat) : Bool := o.right 0 r

/-- The CLASS of an object (R311, R312). -/
def Obj.class_ (o : Obj) : Nat :=
  match o with
  | .energy _ _ _ => 1 | .demand _ _ _ => 2 | .closeTime _ => 3 | .tariff => 4 | .specials => 5 | .fwId => 6 | .check => 6 | .log => 7
  | .clock => 8 | .binding => 9 | .account => 10 | .vz => 11 | .evtCnt => 11

/-- FLAGS of an object (R311): PER_ACCOUNT, PER_RATE, LEGAL, and CONTROL of the tariff sets, special days, bindings and ACTION CLOSE (R314). DESIGN CHOICE, unsafe: log entry 21. -/
def Obj.flags (o : Obj) : Nat :=
  match o with
  | .energy _ _ _ | .demand _ _ _ => 0xC0
  | .account => 0xA0
  | .tariff | .specials | .binding | .vz => 0x30
  | _ => 0

/-- Is a SET or ACTION on an object of the CONTROL class (R314)? -/
def Obj.control (o : Obj) : Bool := o.flags.testBit 4

/-- The 16-byte descriptor of an object (R311); the spec states no SCALE and no LOC of any object. -/
def Obj.descriptor (o : Obj) (obis : Nat) : List Byte :=
  be 6 obis ++ be 1 o.class_ ++ be 1 o.flags ++ be 2 o.rights ++ be 2 (Config.objScale obis).toNat ++ be 4 (Config.objLoc obis).toNat

/-- Holds the unit a CONTROL grant (R314, R438)? A SOLO unit does for good. -/
def State.controlGranted (s : State) : Bool := s.pins.pairSel == 0 || s.rd F.CLM_CTRL_STAT == 2

/-! ## GET (R312, R315) -/

/-- The stored period of a code F = (VZ - k) mod 100. -/
def State.periodOf (s : State) (f : Nat) : Option Period :=
  ((List.range s.tar.hist.length).find? (fun i => decide (((s.rd F.TAR_VZ : Int) - (i + 1 : Nat)) % 100 = (f : Int)))).bind (fun i => s.tar.hist[i]?)

/-- An account in the period of a code. -/
def State.acctIn (s : State) (n f : Nat) : Option Acct :=
  if f = 255 then (if (SMap.find? s.tar.accts n).isSome then some (s.acctNow n) else none)
  else
    match s.periodOf f with
    | none => none
    | some p =>
      match SMap.find? p.accts n with
      | some a => some a
      | none => if (s.tar.hist.head?.map (fun q => q.vz)) == some p.vz && s.tar.untouched.contains n then SMap.find? s.tar.accts n else none

/-- An account descriptor (R300). DESIGN CHOICE, unsafe: log entry 21. -/
def State.acctDesc (s : State) (n : Nat) : List Byte :=
  let a := s.acct n
  be 3 n ++ be 1 a.table ++ be 1 (b2n a.net) ++ be 1 (b2n a.active) ++ be 2 0

/-- A binding as its word (R300). -/
def Binding.word (b : Binding) : Nat := b.acct * 2 ^ 12 + b.dir * 2 ^ 10

/-- The data a GET answers (log entry 21 for the formats); none where the object has none. DESIGN CHOICE, unsafe: log entry 21. -/
def State.objData (s : State) (q : ObjReq) (o : Obj) (role : Nat) : Option (List Byte) :=
  match o with
  | .energy k e f => (s.acctIn q.acct f).map (fun a => beInt 8 (a.reg k e))
  | .demand dir e f =>
    if 2 ≤ q.attr && q.attr ≤ 4 then
      (s.acctIn q.acct f).map (fun a => let x := ((SMap.getD a.dem (dir * 17 + e) [])[q.attr - 2]?).getD (0, 0); beInt 8 x.1 ++ be 4 x.2)
    else none
  | .vz => some (be 4 (s.rd F.TAR_VZ))
  | .closeTime f => (if f = 255 then s.tar.hist.head? else s.periodOf f).map (fun p => be 4 p.e ++ be 8 p.closed)
  | .tariff => if q.attr = 3 then s.tar.passive.map (fun x => x.image) else s.tar.sets.head?.map (fun x => x.image)
  | .specials => s.tar.sets.head?.map (fun x => (x.image.drop (tarSpecialAt 0)).take (8 * tarSpecials x.image))
  | .account => some (s.acctDesc q.acct)
  | .binding => some (be 4 (((SMap.find? s.tar.binds (chanKey q.unit (q.acct % 65536) (q.acct / 65536 % 8))).map Binding.word).getD 0))
  | .fwId => some (be 4 (s.rd F.LGL_FW_ID))
  | .check => some (if q.attr = 3 && role = 3 then s.lgl.check else (s.lgl.check ++ be 6 0).take 6)
  | .log => some s.lgl.events.reverse.flatten
  | .evtCnt => some (be 4 (s.rd F.LGL_EVT_CNT))
  | .clock => some (be 8 s.now ++ be 1 s.tim.cur.qual.toNat)

/-- A request ends (R315, R321). -/
def State.reqEnd (s : State) (b res : Nat) : State :=
  let s1 := (s.wr (F.OBJ_REQ_STAT_RES b) res).wr (F.OBJ_REQ_STAT_BUSY b) 0
  if res = 2 then (s1.sat F.OBJ_DENIED).raiseBits Pg.OBJ (2 ^ 0 + 2 ^ 1) else s1.raise Pg.OBJ 0

/-- Answers a GET: up to 64 bytes in RSP_DATA, more in a packet (R223, R315). -/
def State.getAnswer (s : State) (b : Nat) (d : List Byte) : State :=
  let s1 := s.wr (F.OBJ_RSP_LEN b) d.length
  if d.length ≤ 64 then (s1.putWords (fun w => F.OBJ_RSP_DATA w b) 16 (d ++ be 64 0)).reqEnd b 1
  else if !queueNamed (s.rd F.OBJ_RSP_Q) then s.reqEnd b 9
  else
    match s1.outputPacket (s1.rd F.OBJ_RSP_Q) d with
    | (ok, t) => t.reqEnd b (if ok then 8 else 9)

/-- A GET (R312, R313). -/
def State.objGet (s : State) (b role : Nat) (q : ObjReq) : State :=
  match objNamed q.obis with
  | none => s.reqEnd b 3
  | some o =>
    if s.role = 1 && !o.atRelay then s.reqEnd b 3
    else if !o.readable role || (o == .check && q.attr == 3 && role != 3) then s.reqEnd b 2
    else match s.objData q o role with
      | some d => s.getAnswer b d
      | none => s.reqEnd b 3

/-! ## SET: tariff sets (R296, R297) -/

/-- Do a list's numbers rise strictly? -/
def risingNats : List Nat → Bool
  | a :: b :: l => decide (a < b) && risingNats (b :: l)
  | _ => true

/-- Is a used season legal: a possible date, minute and offset? -/
def seasonOk (b : List Byte) (i : Nat) : Bool :=
  let o := tarSeasonAt i
  let m := field b o 1
  let d := field b (o + 1) 1
  1 ≤ m && m ≤ 12 && 1 ≤ d && decide (d ≤ monthDays 2000 m) && decide (field b (o + 2) 2 ≤ 1439) &&
    decide (-720 ≤ seasonOffset b i) && decide (seasonOffset b i ≤ 840)

/-- Is a used day profile legal: rising minutes, and rates 1 to 16? -/
def dayOk (b : List Byte) (p : Nat) : Bool :=
  let l := dayEntries b p
  risingNats (l.map (fun e => e.1)) && l.all (fun e => decide (e.1 ≤ 1439) && 1 ≤ e.2 && e.2 ≤ 16)

/-- Is a used table legal: counts and codes in range, used references, and no rate above NRATES in a day profile it reaches? -/
def tableOk (b : List Byte) (t : Nat) : Bool :=
  let o := tarTableAt t
  let n := field b o 1
  let weeks := (List.range (tarSeasons b)).map (fun sn => field b (o + 4 + sn) 1)
  let special := (List.range (tarSpecials b)).filter (fun i => field b (tarSpecialAt i + 5) 1 &&& field b (o + 3) 1 != 0)
  let days := weeks.flatMap (fun w => (List.range 7).map (fun j => field b (tarWeekAt w + j) 1)) ++ special.map (fun i => field b (tarSpecialAt i + 4) 1)
  1 ≤ n && n ≤ 16 && field b (o + 1) 1 ≤ 7 && field b (o + 2) 1 ≤ 1 && weeks.all (fun w => decide (w < tarWeeks b)) &&
    days.all (fun p => (dayEntries b p).all (fun e => decide (e.2 ≤ n)))

/-- Are all references of week profiles and special days used? -/
def refsOk (b : List Byte) : Bool :=
  (List.range (tarWeeks b)).all (fun w => (List.range 7).all (fun j => decide (field b (tarWeekAt w + j) 1 < tarDays b))) &&
    (List.range (tarSpecials b)).all (fun i => decide (field b (tarSpecialAt i + 4) 1 < tarDays b))

/-- Is an image one that a passive SET takes, beside its generation (R296, R297)? -/
def tariffOk (b : List Byte) : Bool :=
  b.length == tarSize && field b 0 2 == 1 && 1 ≤ field b 2 2 && 1 ≤ tarSeasons b && tarSeasons b ≤ 12 && 1 ≤ tarWeeks b && tarWeeks b ≤ 16 &&
    1 ≤ tarDays b && tarDays b ≤ 64 && 1 ≤ tarTables b && tarTables b ≤ 64 && decide (tarSpecials b ≤ 256) &&
    (List.range (tarSeasons b)).all (seasonOk b) && decide (((List.range (tarSeasons b)).map (seasonKey b)).eraseDups.length = tarSeasons b) &&
    refsOk b && (List.range (tarDays b)).all (dayOk b) && (List.range (tarTables b)).all (tableOk b)

/-- Is a generation above every held one (R297)? -/
def Tar.newGen (t : Tar) (gen : Nat) : Bool :=
  (t.heldSets ++ (t.passive.map (fun p => [p])).getD []).all (fun x => decide (x.gen < gen))

/-- Disarms an activation before ACT_MIN (R298): the armed set is passive again. False after ACT_MIN. DEDUCED, unsafe: log entry 83. -/
def State.disarm (s : State) : Bool × State :=
  match s.tar.armed with
  | none => (true, s)
  | some a =>
    if a.actMin ≤ s.gridNow then (false, s)
    else (true, (({ s with tar := { s.tar with armed := none, passive := some a } }).wr F.TAR_GEN_PEND 0).wr F.TAR_ACT_MIN 0)

/-- The bytes a SET carries: the packet of REQ_CELL where a host context holds it, else REQ_ARG (R315). -/
def State.reqBytes (s : State) (q : ObjReq) : List Byte :=
  if q.cell = 0xFFFF then be 4 q.arg
  else if (s.link q.cell).st == .held && (s.link q.cell).host then s.pktPayload q.cell else []

/-- A SET of the passive tariff set (R297, R298): the state, or none where it is refused with BAD_DATA. -/
def State.setTariff (s : State) (b : List Byte) : Option State :=
  if !tariffOk b || !s.tar.newGen (field b 2 2) then none
  else
    let (ok, t) := s.disarm
    if ok then some { t with tar := { t.tar with passive := some ⟨field b 2 2, 0, b⟩ } } else none

/-- A SET of an account (R300); one that a sweep has not reached is copied first (R308). DEDUCED, unsafe: log entry 83. -/
def State.setAccount (s0 : State) (n : Nat) (b : List Byte) : Option State :=
  let s := s0.touchAcct n
  if b.length = 8 && field b 0 3 = n && (s.role = 2 || n < 65536) && field b 3 1 ≤ 63 && field b 4 1 ≤ 1 && field b 5 1 ≤ 1 && field b 6 2 = 0 then
    let net := field b 4 1 == 1
    let a := s.acct n
    let regs := if net then a.regs else a.regs.filter (fun e : Nat × Int => e.1 / 17 != Reg.NET)
    let x := { a with table := field b 3 1, net := net, active := field b 5 1 == 1, regs := regs }
    let t := { s with tar := { s.tar with accts := SMap.set s.tar.accts n x } }
    some (t.wr F.TAR_ACCOUNTS t.activeAccts.length)
  else none

/-- The KIND of a channel that a binding names: by configuration, or for a chain unit's channel by its newest record. -/
def State.boundKind (s : State) (k : Nat) : Nat :=
  if keyUnit k = s.unitAddr then s.chanKind (chanSel (keyNode k) (keyChan k))
  else
    match (s.prf.recs.filter (fun e => e.1 / 2 ^ 32 == k)).getLast? with
    | some (_, r :: _) => r.kind
    | _ => 0

/-- A SET of a binding (R300, R301). -/
def State.setBinding (s : State) (k word : Nat) : Option State :=
  let n := word / 2 ^ 12
  let dir := word / 2 ^ 10 % 4
  let l := s.boundLen k
  let others := s.tar.binds.filter (fun e : Nat × Binding => e.2.acct == n && e.2.dir != 0 && e.1 != k)
  let demOk := match s.demandOf (s.acct n).table with
    | some (len, _) => len % l == 0
    | none => true
  if word % 2 ^ 10 = 0 && s.boundKind k != 2 && (s.acct n).active && others.all (fun e => s.boundLen e.1 == l) && demOk then
    let last := ((SMap.find? s.tar.binds k).map (fun b => b.last)).getD 0
    some { s with tar := { s.tar with binds := SMap.set s.tar.binds k ⟨n, dir, last⟩ } }
  else none

/-! ## SET and ACTION (R298, R307, R314, R315, R319) -/

/-- The event of a request without a code of its own (R318): OBIS and result code. -/
def State.reqEvent (s : State) (b obis res : Nat) : State := s.legalEvent 13 b (s.eventRole b) s.jrn.seq (be 6 obis ++ be 1 res)

/-- A request is refused: nothing changes but its event and result (R315). -/
def State.reqRefuse (s : State) (b obis res : Nat) : State := (s.reqEvent b obis res).reqEnd b res

/-- What stands in the way of a SET or ACTION (R312 to R314, R319); 0 for nothing. -/
def State.changeBar (s : State) (role : Nat) (o : Obj) (right : Bool) : Nat :=
  if s.role = 1 && !o.atRelay then 3
  else if !right || (4 < role) then 2
  else if s.on F.LGL_LOG_FULL || s.rd F.LGL_EVT_CNT = 0xFFFFFFFF then 7
  else if o.control && !s.controlGranted then 5
  else 0

/-- The state a SET leads to, and its event: code and detail. None where the data are refused. -/
def State.setEffect (s : State) (q : ObjReq) (o : Obj) : Option (State × Nat × List Byte) :=
  let b := s.reqBytes q
  match o with
  | .tariff => if q.attr = 3 then (s.setTariff b).map (fun t => (t, 2, be 2 (field b 2 2))) else none
  | .account => (s.setAccount q.acct b).map (fun t => (t, 14, be 4 q.acct ++ be 1 (t.acct q.acct).table ++ be 1 (b2n (t.acct q.acct).net)))
  | .binding =>
    let node := q.acct % 65536
    let ch := q.acct / 65536 % 8
    let w := field b 0 4
    (s.setBinding (chanKey q.unit node ch) w).map (fun t => (t, 3, be 3 (w / 2 ^ 12) ++ be 1 q.unit ++ be 2 node ++ be 1 ch ++ be 1 (w / 2 ^ 10 % 4)))
  | _ => none

/-- A SET (R293, R315): it reports OK after its commit and its event. -/
def State.objSet (s : State) (b role : Nat) (q : ObjReq) : State :=
  match objNamed q.obis with
  | none => s.reqRefuse b q.obis 3
  | some o =>
    let bar := s.changeBar role o (o.writable role)
    if bar != 0 then s.reqRefuse b q.obis bar
    else match s.setEffect q o with
      | none => s.reqRefuse b q.obis 4
      | some (t, code, detail) =>
        if !s.legalStore then s.legalCommit.reqRefuse b q.obis 4
        else
          let t1 := t.legalCommit
          (t1.legalEvent code b (t1.eventRole b) t1.jrn.seq detail).reqEnd b 1

/-- ACTIVATE (R298). -/
def State.actActivate (s : State) (arg : Nat) : Option State :=
  match s.tar.passive with
  | some p =>
    if arg % 60 = 0 && s.gridNow + 15 ≤ arg && s.tar.armed.isNone then
      some ((({ s with tar := { s.tar with armed := some { p with actMin := arg }, passive := none } }).wr F.TAR_GEN_PEND p.gen).wr F.TAR_ACT_MIN arg)
    else none
  | none => none

/-- CANCEL (R298). -/
def State.actCancel (s : State) : Option State :=
  if s.tar.armed.isNone then none else if s.disarm.1 then some s.disarm.2 else none

/-- CLOSE (R307): the period end becomes the next filing boundary. -/
def State.actClose (s : State) : State :=
  let e := s.fileStart s.gridNow + s.fileLen s.gridNow
  let old := s.rd F.TAR_BP_END
  ({ s with tar := { s.tar with due := some (match s.tar.due with | some d => min d e | none => e) } }).wr F.TAR_BP_END (if old = 0 then e else min old e)

/-- ACK of the event log (R319). -/
def State.actAck (s : State) : State := ({ s with lgl := { s.lgl with sinceAck := 0 } }).wr F.LGL_LOG_NEAR 0

/-- What an ACTION does: the state it leads to and whether it changes the legal partition, or the result code that refuses it. -/
def State.actEffect (s : State) (q : ObjReq) (o : Obj) : (State × Bool) ⊕ Nat :=
  match o with
  | .tariff | .specials =>
    let r := if q.attr = 1 then s.actActivate q.arg else if q.attr = 2 then s.actCancel else none
    (match r with | some t => .inl (t, true) | none => .inr 4)
  | .vz => if s.on F.TAR_CLOSE_STAT_BUSY then .inr 6 else .inl (s.actClose, false)
  | .log => .inl (s.actAck, false)
  | _ => .inr 2

/-- An ACTION (R298, R307, R315, R319). -/
def State.objAction (s : State) (b role : Nat) (q : ObjReq) : State :=
  match objNamed q.obis with
  | none => s.reqRefuse b q.obis 3
  | some o =>
    let bar := s.changeBar role o (o.actable role)
    if bar != 0 then s.reqRefuse b q.obis bar
    else match s.actEffect q o with
      | .inr c => s.reqRefuse b q.obis c
      | .inl (t, part) =>
        if part && !s.legalStore then s.legalCommit.reqRefuse b q.obis 4
        else ((if part then t.legalCommit else t).reqEvent b q.obis 1).reqEnd b 1

/-- A write of REQ_CTL (R315, R321). -/
def State.reqCtl (s : State) (m : Master) (v : Word) : State :=
  let b := masterCode m
  let s1 := ((s.wr (F.OBJ_REQ_CTL_UNIT b) (bits v 21 16)).wr (F.OBJ_REQ_CTL_ATTR b) (bits v 15 8)).wr (F.OBJ_REQ_CTL_OP b) (bits v 1 0)
  if !bit v 31 || s.on (F.OBJ_REQ_STAT_BUSY b) || !s.lglRuns then s1
  else
    let q : ObjReq := { op := bits v 1 0, obis := s.rd (F.OBJ_REQ_OBIS_HI b) * 65536 + s.rd (F.OBJ_REQ_OBIS_LO b), acct := s.rd (F.OBJ_REQ_ACCT b),
                        unit := bits v 21 16, attr := bits v 15 8, cell := s.rd (F.OBJ_REQ_CELL b), arg := s.rd (F.OBJ_REQ_ARG b) }
    let s2 := s1.wrap F.OBJ_REQS
    let role := s.rd (F.OBJ_SESS_STAT_ROLE b)
    if q.op = 1 then s2.objSet b role q else if q.op = 2 then s2.objAction b role q else s2.objGet b role q

/-- OBJ_GET (R315). -/
def execObjGet (m : Master) (v : Word) (s : State) : Host.Outcome State Fault Refusal := s.done (s.sessGuard m 0x70 (fun s => s.reqCtl m v))
/-- OBJ_SET (R315). -/
def execObjSet (m : Master) (v : Word) (s : State) : Host.Outcome State Fault Refusal := s.done (s.sessGuard m 0x70 (fun s => s.reqCtl m v))
/-- ACTION_ACTIVATE (R298). -/
def execActionActivate (m : Master) (v : Word) (s : State) : Host.Outcome State Fault Refusal := s.done (s.sessGuard m 0x70 (fun s => s.reqCtl m v))
/-- ACTION_CANCEL (R298). -/
def execActionCancel (m : Master) (v : Word) (s : State) : Host.Outcome State Fault Refusal := s.done (s.sessGuard m 0x70 (fun s => s.reqCtl m v))
/-- ACTION_CLOSE (R307). -/
def execActionClose (m : Master) (v : Word) (s : State) : Host.Outcome State Fault Refusal := s.done (s.sessGuard m 0x70 (fun s => s.reqCtl m v))
/-- ACTION_ACK (R319). -/
def execActionAck (m : Master) (v : Word) (s : State) : Host.Outcome State Fault Refusal := s.done (s.sessGuard m 0x70 (fun s => s.reqCtl m v))

end Sys2Proof.Machine
end

