-- ==== Sys2Proof/Machine/Replay.lean ====
section
/-!
DEFINITION. What a restart and a standby make of journal records: Gate's restore (R206, R207), the map (R378, R391), what a short flush loses (R390, R391), and a record applied by a standby (R420).
-/
namespace Sys2Proof.Machine

/-! ## Gate (R206, R207) -/

/-- The link window and the application window of the entries that a T4 record names (R206): the accept rule of R196 in the generation the record names. What it moves a later checkpoint must cover. -/
def gateCounters (m : SMap Nbr) (r : Rec) : SMap Nbr :=
  let m1 := match SMap.find? m r.txNbr with
    | some x => (match window 64 x.ltop x.lmap r.txSeq with
      | (.accept, top, map) => SMap.set m r.txNbr { x with ltop := top, lmap := map, changed := true }
      | _ => m)
    | none => m
  match SMap.find? m1 r.node, r.prot with
  | some x, true =>
    (match x.appWindow r.gen r.ic with
      | (.accept, y) => SMap.set m1 r.node { y with changed := true }
      | _ => m1)
  | _, _ => m1

/-- One journal record in Gate's restore. -/
def gateReplay (m : SMap Nbr) (j : JRec) : SMap Nbr :=
  if j.kind = 6 && field j.body 0 3 < 0x20000 then putNbr m (field j.body 0 3) (nbrOfGate j.body)
  else if j.kind = 1 && field j.body 0 1 % 64 = 0 then gateCounters m (recOfT4 j.body)
  else m

/-- Gate loads its entries from their checkpoints and replays what came later (R206); downlink counters and the ports' link sequence numbers continue from their reservations (R207). DESIGN CHOICE, unsafe: log entry 67. -/
def State.gateRestore (s : State) : State :=
  let m := (s.journalRecs.foldl gateReplay s.gate.saved).map (fun e : Nat × Nbr => (e.1, { e.2 with dnext := e.2.drsv }))
  { s with gate := { s.gate with nbr := m, portSeq := s.gate.portRsv, inst := none, cache := [] } }

/-! ## The map (R378, R391) -/

/-- The pairs of a MAP record. -/
def mapPairs (b : List Byte) : List (Nat × Nat) := (List.range (field b 0 2)).map (fun k => (field b (4 + 8 * k) 4, field b (8 + 8 * k) 4))

/-- Each map page is its stored copy with every MAP record above its stamp (R391). A standby's own MAP records share the sequence of the record they follow, so those at the stamp are taken again, in order, which changes nothing where the page has them. -/
def State.mapRebuild (s : State) : State :=
  let base := s.nand.stored.foldl (fun (m : SMap Nat) (p : Nat × MapPage) => p.2.entries.foldl (fun (n : SMap Nat) (e : Nat × Nat) => SMap.set n e.1 e.2) m) []
  let stamp := fun (p : Nat) => ((SMap.find? s.nand.stored p).map (fun x => x.stamp)).getD 0
  let later := ((s.journalRecs.filter (fun j => j.kind == 11 && j.own)).flatMap (fun j => (mapPairs j.body).map (fun e => (j.seq, e)))).filter (fun x : Nat × Nat × Nat => decide (stamp (x.2.1 / 4096) ≤ x.1))
  let map := later.foldl (fun (m : SMap Nat) (x : Nat × Nat × Nat) => SMap.set m x.2.1 x.2.2) base
  { s with nand := { s.nand with map := map, dirty := (later.map (fun x => x.2.1 / 4096)).eraseDups } }

/-! ## What a short flush loses (R390, R391) -/

/-- Inserts a record in ledger order. -/
def insertRec (r : Rec) : List Rec → List Rec
  | [] => [r]
  | x :: l => if r.lseq < x.lseq then r :: x :: l else x :: insertRec r l

/-- The state of an own channel as its records leave it. -/
def State.refold (s : State) (sel : Nat) : State :=
  let c := s.chanSt sel
  let mine := (s.prf.recs.filter (fun e : Nat × List Rec => e.1 / 2 ^ 32 == chanKey s.unitAddr (sel % 65536) (sel / 65536))).flatMap (fun e => e.2)
  let l := (mine.filter (fun r : Rec => r.frame)).foldl (fun (a : List Rec) r => insertRec r a) []
  s.setChan sel (l.foldl (fun (x : ChanSt) r => chanStep s.monoRebase x r) { SMap.getD s.prf.base sel {} with oldLen := c.oldLen, lenFrom := c.lenFrom, heldFrom := c.heldFrom })

/-- The records of profile task code that a lost part of the journal takes with it. DESIGN CHOICE, unsafe: log entry 102. -/
def State.dropRecs (s : State) (lost : List (List Byte)) : State :=
  let gone := lost.map recOfT4
  let s1 := { s with prf := { s.prf with
      recs := (s.prf.recs.map (fun e : Nat × List Rec => (e.1, e.2.filter (fun r => !lost.contains r.t4Body)))).filter (fun e => !e.2.isEmpty)
      sums := s.prf.sums.filter (fun r => !lost.contains r.t4Body) } }
  (((gone.filter (fun r => r.unit == s.unitAddr && r.kind != 3)).map (fun r => chanSel r.node r.chan)).eraseDups).foldl (fun (t : State) sel => t.refold sel) s1

/-- Records above a ledger sequence are lost (R391): the profile records, the seals and the legal events that they carried go with them. DESIGN CHOICE, unsafe: log entry 102. -/
def State.truncateJournal (s : State) (q : Nat) : State :=
  let lost := s.journalRecs.filter (fun j => decide (q < j.seq))
  if lost.isEmpty then s
  else
    let bodies := fun (k : Nat) => (lost.filter (fun j => j.kind == k)).map (fun j => j.body)
    let s1 := { s with
      jrn := { seq := q, tail := s.jrn.tail.filter (fun j => decide (j.seq ≤ q))
               pages := (s.jrn.pages.map (fun p : List JRec => p.filter (fun j : JRec => decide (j.seq ≤ q)))).filter (fun p => !p.isEmpty) }
      hlm := { s.hlm with sealed := s.hlm.sealed.filter (fun x => decide (x.jseq ≤ q)) }
      lgl := { s.lgl with events := s.lgl.events.filter (fun e => !(bodies 8).contains (be 1 0x45 ++ e)) } }
    s1.dropRecs (bodies 1)

/-! ## Configuration records (R53) -/

/-- The body of a CFG record: generation, format, role, and the image with its key blobs. -/
def cfgBody (c : CfgSlot) : List Byte :=
  be 4 c.gen ++ be 2 c.fmt ++ be 1 c.role ++ be 4 c.image.length ++ (c.image.flatMap (fun e : Nat × Nat => be 8 e.1 ++ be 4 e.2)) ++
    c.keys.flatMap (fun e : Nat × KeyBlob => be 1 e.1 ++ be 1 e.2.typ ++ be 8 e.2.attr ++ be 1 e.2.origin ++ be 2 e.2.wrapped.length ++ e.2.wrapped)

/-- The key blobs that bytes spell. -/
def cfgBlobs : Nat → List Byte → SMap KeyBlob
  | 0, _ => []
  | _ + 1, [] => []
  | n + 1, b => let k := field b 11 2
    SMap.set (cfgBlobs n (b.drop (13 + k))) (field b 0 1) ⟨field b 1 1, field b 2 8, field b 10 1, (b.drop 13).take k⟩

/-- The slot that a CFG record spells. -/
def cfgOfBody (b : List Byte) : CfgSlot :=
  let n := field b 7 4
  { gen := field b 0 4, fmt := field b 4 2, role := field b 6 1
    image := (List.range n).map (fun k => (field b (11 + 12 * k) 8, field b (19 + 12 * k) 4))
    keys := cfgBlobs 256 (b.drop (11 + 12 * n)), good := true }

/-- Generations of a kind of commit that a durable record made current. -/
def State.commitGens (s : State) (kind : Nat) (head : List Byte) : List Nat :=
  (s.journalRecs.filter (fun j => j.kind == kind && j.body.take head.length == head)).map (fun j => field j.body head.length 4)

/-- The newest generation that a durable CFG record made current (R52). DEDUCED, unsafe: log entry 92. -/
def State.cfgNewest (s : State) : Nat := (s.commitGens 7 []).foldl max 0

/-- The newest generation that a durable LEGAL record made current (R293). -/
def State.legalNewest (s : State) : Nat := (s.commitGens 8 (be 1 0x4D)).foldl max 0

/-- Puts a committed image into the slot of its generation. -/
def Cfg.put (c : Cfg) (x : CfgSlot) : Cfg := if x.gen % 2 = 0 then { c with slot0 := some x } else { c with slot1 := some x }

/-! ## The standby applies a record (R420) -/

/-- Opens the filing interval that a record of the active unit names by its START_C, unless it is open. -/
def State.followFiling (s : State) (startC status : Nat) : State :=
  if s.prf.filings.any (fun f => f.startC == startC) || s.hlm.trees.any (fun t => t.startC == startC) then s
  else s.openFiling (s.fileStart (s.gridMin (s.convert startC).1)) startC status

/-- Applies a T4 record: the record, its channel, its leaf. -/
def State.applyT4 (s : State) (r : Rec) : State :=
  let own := r.unit = s.unitAddr || s.role != 2
  let s1 := s.keepRec r
  let s2 := if own && r.frame && r.kind != 3 then s1.setChan (chanSel r.node r.chan) (chanStep s1.monoRebase (s1.chanSt (chanSel r.node r.chan)) r) else s1
  let s3 := if own then
      let t := s2.followFiling r.startC 0
      { t with hlm := { t.hlm with trees := t.hlm.trees.map (fun x : Tree =>
          if x.startC = r.startC then { x with nleaf := x.nleaf + 1, first := if x.nleaf = 0 then r.lseq else x.first, last := r.lseq, dropped := true } else x) } }
    else s2.enterNode r.unit r.node
  { s3 with prf := { s3.prf with progSeq := s3.jrn.seq, dirty := [], writes := [] } }

/-- Applies a close record (R279, R280): the interval and its tree close, and the next begins. KIND 3 is the record of an outage span. -/
def State.applyClose (s : State) (b : List Byte) : State :=
  let k := field b 0 1
  let st := field b 8 2
  let startC := field b 16 8
  let endC := field b 24 8
  if k = 3 then
    let s1 := { s with prf := { s.prf with cutAt := none, outages := s.prf.outages ++ [((s.convert startC).1, (s.convert endC).1)] } }
    s1.followFiling endC (St.POWER_FAIL ||| St.SHORT)
  else
    let s1 := s.followFiling startC 0
    let s2 := { s1 with prf := { s1.prf with filings := s1.prf.filings.filter (fun f => f.startC != startC) } }
    let s3 := s2.closeTree startC ⟨st, k, endC, false⟩
    if k = 1 then { s3 with prf := { s3.prf with cutAt := some endC } }
    else s3.followFiling endC (if k = 2 then St.TIME_ADJ ||| stIf (s3.minTime (s3.fileStart (s3.gridMin (s3.convert endC).1)) != (s3.convert endC).1) St.SHORT else 0)

/-- Applies a cut record (R310): its close records, and the activation it carries. -/
def State.applyCut (s : State) (b : List Byte) : State :=
  let n := (b.length - 32) / 32
  let s1 := (List.range n).foldl (fun (t : State) i => t.applyClose ((b.drop (32 * i)).take 32)) s
  let tar := b.drop (32 * n)
  if (field tar 16 1).testBit 0 then
    match s1.tar.armed with
    | some a => ({ s1 with tar := { s1.tar with sets := (a :: s1.tar.sets).take 3, armed := none } }.wr F.TAR_GEN_ACT a.gen).wr F.TAR_GEN_PEND 0
    | none => s1
  else s1

/-- Applies a TIME_CHG record (R282, R283): the span it makes. -/
def State.applyTime (s : State) (b : List Byte) (seq : Nat) : State :=
  let told := field b 8 8
  let tnew := field b 16 8
  if tnew < told then
    let keep := if 4 ≤ s.prf.spans.length then s.prf.spans.drop 1 else s.prf.spans
    { s with prf := { s.prf with spans := keep ++ [⟨field b 0 8, tnew, told, seq⟩], setBacks := s.prf.setBacks ++ [(tnew, told)] } }
  else { s with prf := { s.prf with skips := s.prf.skips ++ [(told, tnew)] } }

/-- Applies a seal (R335): an own seal moves the chain on, a re-seal the chain of re-seals, and at a HEAD a unit seal is kept. -/
def State.applySeal (s : State) (b : List Byte) (jseq : Nat) : State :=
  if field b 2 1 = 1 then
    let s1 := { s with hlm := { s.hlm with
        resealDigest := sealDigest b, reseals := s.hlm.reseals ++ [({ bytes := b, istart := sealStart b, leaves := [] } : ReSeal)], unitSeals := [], due := s.hlm.due.filter (fun x => sealFstart x != sealFstart b) } }
    s1.wr64 F.HLM_RSEQ_LO F.HLM_RSEQ_HI (sealSeqOf b + 1)
  else if s.role = 2 && field b 4 1 != 0 then
    let u := field b 4 1 % 64
    let s1 := s.keepUnitSeal u b false
    let s2 := { s1 with hlm := { s1.hlm with unitKept := s1.hlm.unitKept ++ [b] } }
    s2.setUnit u { s2.unit u with lastSeq := some (sealSeqOf b), digest := sealDigest b }
  else
    let x : Sealed := { bytes := b, seq := sealSeqOf b, startC := field b 24 8, istart := sealStart b, leaves := (s.treeRecs (field b 24 8)).map leafHash, jseq := jseq, released := true }
    let s1 := { s with hlm := { s.hlm with
        trees := s.hlm.trees.filter (fun t => t.startC != field b 24 8), sealed := s.hlm.sealed ++ [x], due := if s.role = 2 then s.hlm.due ++ [b] else s.hlm.due } }
    let s2 := ((s1.wr64 F.HLM_SEQ_LO F.HLM_SEQ_HI (sealSeqOf b + 1)).putWords F.HLM_LAST_DIGEST 12 (sealDigest b)).hlmSync
    if (field b 3 1).testBit 0 then s2.openTreeAt (field b 32 8) (sealFstart b) (sealStart b) (field b 6 2 + 1) (field b 5 1) else s2

/-- The tariff state that a legal commit brings (R293, R421). -/
def State.applyLegal (s : State) (gen : Nat) (x : LegalImage) : State :=
  let set := fun (y : SetImage) => ({ gen := y.gen, actMin := y.actMin, image := y.image } : TarSet)
  let accts := x.accts.foldl (fun (m : SMap Acct) e => SMap.modify m e.1 {} (fun a => { a with table := e.2.1, net := e.2.2.1, active := e.2.2.2 })) s.tar.accts
  let binds := x.binds.foldl (fun (m : SMap Binding) (e : Nat × Nat × Nat) => SMap.set m e.1 { acct := e.2.1, dir := e.2.2, last := ((SMap.find? s.tar.binds e.1).map (fun b : Binding => b.last)).getD 0 }) []
  let slot : LegalSlot := { gen := gen, image := x.fields, good := true, fmt := hdrFmt (s.running 2).head }
  let l := if gen % 2 = 0 then { s.lgl with slot0 := some slot, image := slot.image } else { s.lgl with slot1 := some slot, image := slot.image }
  ({ s with
    lgl := l
    tar := { s.tar with sets := x.sets.map set, passive := x.passive.map set, armed := x.armed.map set, accts := accts, binds := binds } }).wr F.LGL_LGEN gen

/-- Applies a LEGAL record: an event, an activation, or a commit with what its STORE transfers brought; closes and snapshots are replayed when the LEGAL core starts (R295). -/
def State.applyLegalRec (s : State) (b : List Byte) (c : Carried) : State :=
  match field b 0 1 with
  | 0x45 =>
    let e := b.drop 1
    (({ s with lgl := { s.lgl with events := (e :: s.lgl.events).take 1024, sinceAck := s.lgl.sinceAck + 1 } }).wr F.LGL_EVT_CNT (field e 0 4)).wr F.LGL_EVT_HEAD ((s.rd F.LGL_EVT_HEAD + 1) % 1024)
  | 0x41 =>
    (match s.tar.armed with
      | some a => if a.gen = field b 1 2 then { s with tar := { s.tar with sets := (a :: s.tar.sets).take 3, armed := none } } else s
      | none => s)
  | 0x4D => (match c with | .legal x => s.applyLegal (field b 1 4) x | _ => s.wr F.LGL_LGEN (field b 1 4))
  | _ => s

/-- The state of a group phase that a close record spells (R371). -/
def detOfBytes (b : List Byte) (l : Nat) : TchDet :=
  let run := fun (o : Nat) => ({ sum := ofBeInt ((b.drop (o + 4)).take 8), cov := field b (o + 12) 2, starts := ((List.range (field b o 4)).map (fun j => field b (o + 14) 4 + j * l)).reverse } : TchRun)
  { st := field b 0 1, msrc := field b 1 1, a := field b 2 4, b := field b 6 4, sigma := field b 10 4, pos := field b 14 2, neg := field b 16 2, runP := run 18, runN := run 36
    fit := { n := field b 54 2, uu := field b 56 8, uw := field b 64 20, ww := field b 84 36, uy := ofBeInt ((b.drop 120).take 12), wy := ofBeInt ((b.drop 132).take 28), yy := field b 160 20 } }

/-- Applies a TCH record (R371, R367): the state a close carries, or a move. DEDUCED, unsafe: log entry 107. -/
def State.applyTch (s : State) (b : List Byte) : State :=
  if field b 0 1 = 0x4D then { s with tch := { s.tch with moves := s.tch.moves ++ [(field b 1 4, field b 5 4)] } }
  else if field b 0 1 = 1 then
    let g := field b 2 2
    let l := lenMin (s.rd (F.TCH_GRP_CFG_LEN g))
    let d := { detOfBytes (b.drop 64) l with lastR := ofBeInt ((b.drop 44).take 8), lastStatus := field b 8 2, lastCov := field b 10 2, lastIstart := field b 4 4 }
    { s with tch := { s.tch with saved := SMap.set s.tch.saved (detKey g (field b 1 1 % 4)) d, closedTo := SMap.set s.tch.closedTo g (field b 4 4 + l) } }
  else s

/-- The words of a checkpoint in the body of a LIFE record (R538). -/
def ledgerOfBody (b : List Byte) : List Nat := (List.range 116).map (fun i => field b (1 + 4 * i) 4)

/-- Applies an update entry (R497): an image stored with what its STORE transfers brought, an image deleted, or the images of a pair bundle, one entry each with the number still to come, to run (R496). -/
def State.applyUpd (s : State) (b : List Byte) (c : Carried) : State :=
  match field b 1 1, c with
  | 6, _ => { s with upd := { s.upd with store := s.upd.store.filter (fun e : Nat × Image => imgId e.2.head != field b 4 4) } }
  | 1, .image x =>
    let n := (s.upd.store.map (fun e => e.1)).foldl (fun a k => max a (k + 1)) 0
    let free := ((List.range 8).find? (fun k => (SMap.find? s.upd.store k).isNone)).getD n
    { s with upd := { s.upd with store := SMap.set s.upd.store free x } }
  | 7, _ =>
    let l := (s.upd.pairWait.getD []) ++ [field b 4 4]
    if field b 3 1 = 0 then { s with upd := { s.upd with pairWait := none, pairNext := some l } } else { s with upd := { s.upd with pairWait := some l } }
  | _, _ => s

/-- Applies a pair entry (R434, R436, R438): a TAKEOVER that is applied leaves no fork, and the epoch known is the highest; the model's own entries tell the chain address (5) and a pin's level (6). -/
def State.applyPair (s : State) (b : List Byte) : State :=
  match field b 1 1 with
  | 5 => s.wr F.CHN_ADDR_PREV (field b 2 1)
  | 6 => { s with pair := { s.pair with pinLevels := SMap.set s.pair.pinLevels (field b 2 1) (field b 3 1 == 1) } }
  | k =>
    let s1 := s.wr F.CLM_EPOCH (max (s.rd F.CLM_EPOCH) (field b 2 2))
    if k = 2 then { s1 with pair := { s1.pair with fork := none } } else s1

/-- Applies a LIFE record: the partner's ledger (R541), a pair entry or an update entry. -/
def State.applyLife (s : State) (b : List Byte) (c : Carried) : State :=
  match field b 0 1 with
  | 0x4C => { s with ldg := { s.ldg with partner := some (ledgerOfBody b) } }
  | 0x50 => s.applyPair b
  | 0x55 => s.applyUpd b c
  | _ => s

/-- A connection that a GATE record carries (R185), at the standby. -/
def State.applyConn (s : State) (n : Nat) (b : List Byte) : State :=
  let u := s.sun n
  let a := field b 4 2
  s.setSun n { u with conns := if field b 3 1 = 1 then SMap.set u.conns a { addr := a, anchor := field b 6 2, e := field b 8 1, lastRx := s.raw } else SMap.erase u.conns a }

/-- Applies a GATE record (R420), by its index: an entry, with a key it carries where this unit can unwrap it; a port's reserved link sequence numbers; a port's group key; a connection. DESIGN CHOICE, unsafe: log entry 52. -/
def State.applyGate (s : State) (b : List Byte) : State :=
  let i := field b 0 3
  if 0x30000 ≤ i then s.applyConn (i - 0x30000) b
  else if 0x20040 ≤ i then
    match Config.unwrap s.sec.kek (b.drop 3) with
    | some key => { s with gate := { s.gate with groupKeys := SMap.set s.gate.groupKeys (i - 0x20040) key } }
    | none => s
  else if 0x20000 ≤ i then { s with gate := { s.gate with portRsv := SMap.set s.gate.portRsv (i - 0x20000) (field b 3 5) } }
  else
    let s1 := { s with gate := { s.gate with nbr := putNbr s.gate.nbr i (nbrOfGate b) } }
    match Config.unwrap s.sec.kek (b.drop 77) with
    | some key => s1.setNbrKeys i ((s1.nbrKeys i).put (field b 76 1) key)
    | none => s1

/-- What a record that the standby takes into its journal does there, by its KIND (R381, R420). A LOCAL record is recorded and not applied. -/
def State.applyEffect (s : State) (j : JRec) (c : Carried) : State :=
  if j.isLocal then s
  else
    match j.kind with
    | 1 => s.applyT4 (recOfT4 j.body)
    | 2 => s.applyClose j.body
    | 3 => s.applyCut j.body
    | 4 => s.applyTime j.body j.seq
    | 5 => s.applySeal j.body j.seq
    | 6 => s.applyGate j.body
    | 7 => let x := cfgOfBody j.body
      ({ s with cfg := { (s.cfg.put x) with cur := x.image, curKeys := x.keys, curRole := x.role } }).wr F.CFG_GEN x.gen
    | 8 => s.applyLegalRec j.body c
    | 9 => s.applyTch j.body
    | 10 => s.applyLife j.body c
    | _ => s

/-- The standby applies a record (R420): it stands in its journal tail under the number it has, and acts. DEDUCED, unsafe: log entry 101. -/
def State.applyJ (s : State) (j : JRec) (c : Carried) : State :=
  ({ s with jrn := { s.jrn with seq := j.seq, tail := s.jrn.tail ++ [{ j with own := !j.isLocal }] } }).applyEffect j c

end Sys2Proof.Machine
end

