-- ==== Sys2Proof/Machine/Slices.lean ====
section
/-!
DEFINITION. The units of periodic self-test (R527 to R532): where each lies, how it is taken out of service and put back, the abort of a slice, and coverage.
-/
namespace Sys2Proof.Machine

/-- The domain of a unit (R527). -/
def unitDomain (u : Nat) : Nat :=
  if u < 16 then Dom.PKT else if u < 32 then Dom.TSK else if u < 38 then Dom.PKT else if u = 38 then Dom.SEC
  else if u < 41 then Dom.TSK else if u = 41 then Dom.LGL else if u = 42 then Dom.PKT else portDom (u - 43)

/-- The executor that a unit is, in Planish's numbering (R527). -/
def unitLane (u : Nat) : Option Nat :=
  if u < 16 then none else if u < 32 then some (u - 5) else if u < 42 then some (u - 31) else if u = 42 then some 0 else none

/-- The register and the bit that isolate an executor (R527). -/
def unitEnable (u : Nat) : Fld × Nat := if u < 32 then (F.PLN_CORE_EN, u - 16) else if u < 42 then (F.PLN_ENG_EN, u - 31) else (F.PLN_ENG_EN, 0)

/-- Is a unit masked (R528)? -/
def State.pstMasked (s : State) (u : Nat) : Bool := (s.rd (F.PST_MASK (u / 32))).testBit (u % 32)

/-- Sets a unit. -/
def State.setPstUnit (s : State) (u : Nat) (x : PstUnit) : State := { s with pst := { s.pst with units := SMap.set s.pst.units u x } }

/-- PST.OUTw shows the units kept out (R531, R543). -/
def State.pstShow (s : State) : State :=
  (List.range 4).foldl (fun (t : State) w =>
    t.wr (F.PST_OUT w) (((List.range 32).filter (fun k => (t.pstUnit (32 * w + k)).st == 1)).map (fun k => 2 ^ k)).sum) s

/-- Clears an executor's enable bit: it finishes the tasks it holds and gets no more (R250, R527). -/
def State.unitHold (s : State) (u : Nat) : State :=
  let (f, b) := unitEnable u
  if (s.rd f).testBit b then (s.wr f (s.rd f - 2 ^ b)).setPstUnit u { s.pstUnit u with held := true } else s

/-- Puts a unit back into service (R530): the enable bit that isolation cleared is set again, and a port whose modem was stopped starts. -/
def State.unitFree (s : State) (u : Nat) : State :=
  if (s.pstUnit u).held then
    let s1 := s.setPstUnit u { s.pstUnit u with held := false }
    match unitLane u with
    | some _ => let (f, b) := unitEnable u; s1.wr f (s1.rd f ||| 2 ^ b)
    | none => s1.portsFollow
  else s

/-- After PKT has restarted, the enable bits of the executors that self-test holds are cleared again (R531). -/
def State.heldBits (s : State) : State :=
  (List.range 43).foldl (fun (t : State) u => if 16 ≤ u && (t.pstUnit u).held then
    (let (f, b) := unitEnable u; t.wr f (t.rd f &&& (0xFFFF ^^^ 2 ^ b))) else t) s

/-- A bank under drain or isolated for a slice reopens (R237, R530). -/
def State.bankReopen (s : State) (k : Nat) : State :=
  let s1 := if s.cru.drain = some k then (({ s with cru := { s.cru with drain := none } }).drainEnd 4).cruSync else s
  if s1.cru.isolated = some k then s1.drainRelease else s1

/-- Ends a slice's hold on its unit without a verdict (R529, R530): a unit that was in service returns to it, one that had failed stays out. -/
def State.unitReturn (s : State) (u : Nat) : State :=
  if u < 16 then s.bankReopen u
  else if (s.pstUnit u).failed && (s.pstUnit u).st != 2 then s
  else s.unitFree u

/-- PF_N, a mode change or a reset of the unit's domain aborts a slice (R530). -/
def State.pstAbort (s : State) : State :=
  match s.pst.slice with
  | none => s
  | some x =>
    let s1 := ({ s with pst := { s.pst with slice := none } }).sat F.PST_ABORTS
    (s1.setPstUnit x.unit { s1.pstUnit x.unit with last := 3 }).unitReturn x.unit

/-- A mode change ends a slice, and a full run that has not tested every unit (R530, R533). -/
def State.pstModeChange (s : State) : State :=
  let s1 := s.pstAbort
  if s1.pst.full.isSome then
    ((({ s1 with pst := { s1.pst with full := none } }).wr F.PST_FULL_CTL_BUSY 0).wr F.PST_FULL_CTL_RES 2).raise Pg.PST 2
  else s1

/-- A reset of a domain aborts a slice of its units (R530). -/
def State.pstDomain (s : State) (d : Nat) : State :=
  match s.pst.slice with
  | some x => if unitDomain x.unit = d || d = Dom.IOX then s.pstAbort else s
  | none => s

/-- A unit kept out or FAULTY is tested again after a reset of its domain (R531). -/
def State.pstAgain (s : State) (d : Nat) : State :=
  { s with pst := { s.pst with units := s.pst.units.map (fun e : Nat × PstUnit => if unitDomain e.1 = d && e.2.st != 0 then (e.1, { e.2 with retest := true }) else e) } }

/-- What the sequencer keeps over a restart of IOX: the units that have failed (R531). -/
def Pst.lost (p : Pst) : Pst :=
  { units := (p.units.filter (fun e : Nat × PstUnit => e.2.failed || e.2.st != 0)).map (fun e => (e.1, ({ st := e.2.st, failed := e.2.failed, retest := true, held := e.2.held } : PstUnit))) }

/-- The units that coverage counts (R532): unmasked, in a powered domain. -/
def State.pstCounted (s : State) : List Nat := (List.range 107).filter (fun u => !s.pstMasked u && s.domPowered (unitDomain u))

/-- Did a unit pass within the last 24 h of ledger time? -/
def State.pstRecent (s : State) (u : Nat) : Bool :=
  match (s.pstUnit u).passAt with
  | some t => decide (s.ledgerTime ≤ t + 86400)
  | none => false

/-- PST.COVERAGE follows (R532); of no unit at all it has no value, which is left free. COVERAGE_LOW is set where it falls below 1,000 in a role mode (R543). -/
def State.pstCoverage (s : State) : State :=
  if !s.domOn Dom.IOX then s
  else
    let l := s.pstCounted
    let c := if l.isEmpty then s.freeVal 1024 else 1000 * (l.filter (fun u => s.pstRecent u)).length / l.length
    let s1 := { s with fresh := if l.isEmpty then s.fresh + 1 else s.fresh }.wr F.PST_COVERAGE c
    if c < 1000 && 1000 ≤ s.rd F.PST_COVERAGE && isRole s.mode then s1.raise Pg.PST 3 else s1

end Sys2Proof.Machine
end

