-- ==== Sys2Proof/Machine/Modes.lean ====
section
/-!
DEFINITION. Modes, domains and BOOT (R498 to R521): what a domain loses and how it restarts, the sequencing of a mode change, the NVM stage of BOOT with the configuration it loads, and the giving up of a pair unit.
-/
namespace Sys2Proof.Machine

/-! ## Domains (R499, R500, R504, R505) -/

/-- The credit of a domain in mW (R505). -/
def domCredit (d : Nat) : Nat := [30, 600, 300, 4500, 3200, 3600, 1400, 1400, 1900, 1400, 500, 170].getD d 0

/-- The order in which domains power up (R504). -/
def powerOrder : List Nat := [Dom.SEC, Dom.MEM, Dom.NVM, Dom.LGL, Dom.TSK, Dom.PKT, Dom.APP, Dom.UPL, Dom.IOX, Dom.FPA, Dom.FPB]

/-- The islands of a domain, as bits of CLK.LOCK (R20, R525). -/
def domIslands (d : Nat) : Nat := [0x3, 0x4, 0x8, 0x10, 0x20, 0x40, 0x80, 0x100, 0x600, 0x800, 0x1000, 0x2000].getD d 0

/-- Does a half of the ports hold a port kept in OUTAGE (R107, R500)? -/
def State.halfKept (s : State) (d : Nat) : Bool := s.keptPorts.any (fun n => portDom n == d)

/-- The domains that a mode powers (R500). -/
def State.modeDomains (s : State) (m : Nat) : List Nat :=
  let all := List.range 12
  if m = Md.OFF then []
  else if m = Md.VAULT then [Dom.AON]
  else if m = Md.PROVISION then all.filter (fun d => d != Dom.FPA && d != Dom.FPB)
  else if m = Md.STANDBY then all.filter (fun d => d != Dom.LGL && d != Dom.FPA && d != Dom.FPB && (d != Dom.APP || s.appMain))
  else if m = Md.HOLDUP then [Dom.AON, Dom.SEC, Dom.PKT, Dom.UPL, Dom.MEM, Dom.NVM, Dom.IOX]
  else if m = Md.OUTAGE then all.filter (fun d => (d != Dom.APP || s.appMain) && ((d != Dom.FPA && d != Dom.FPB) || s.halfKept d))
  else all

/-- Does the domain set of a mode fit ARB.DOM_BUDGET (R502, R505)? -/
def State.modeFits (s : State) (m : Nat) : Bool := decide (((s.modeDomains m).map domCredit).sum ≤ s.rd F.ARB_DOM_BUDGET)

/-! ## Fields (R519) -/

/-- The domain of the page of a key. -/
def keyDomain (k : Nat) : Option Nat := pageDomain (keyPage k)

/-- The committed image that is applied (R3, R52): none while its role is not the strapped one. -/
def State.cfgActs (s : State) : SMap Nat := if s.cfg.curRole = s.role then s.cfg.cur else []

/-- The condition of every vector that pages share is brought up to date (R62); those of the completion queues go by their queues. -/
def State.irqSync (s : State) : State := ((List.range 64).filter (fun v => !(24 ≤ v && v < 32))).foldl (fun (t : State) v => t.setCond v (t.vectorCond v)) s

/-- Registers with a list of committed values put in. -/
def putValues (m : SMap Nat) (l : SMap Nat) : SMap Nat := l.foldl (fun (a : SMap Nat) (e : Nat × Nat) => SMap.set a e.1 e.2) m

/-- The fields of a domain's pages reload (R519): class V takes its reset value, class P its committed value; S and A stay. -/
def State.reloadPages (s : State) (d : Nat) : State :=
  let keep := s.regs.filter (fun e : Nat × Nat => !(keyDomain e.1 == some d && decide (2 ≤ keyClass e.1)))
  let src := (if d = Dom.LGL then s.lgl.image else s.cfgActs).filter (fun e : Nat × Nat => keyDomain e.1 == some d)
  ({ s with regs := putValues keep src }).irqSync

/-- Every P-class field outside the legal partition takes its committed value (R52); CFG.ROLE, which a committed image never overrides, reads as the strap (R3, R57). -/
def State.reloadCommitted (s : State) : State :=
  let keep := s.regs.filter (fun e : Nat × Nat => !(keyClass e.1 == 2 && keyDomain e.1 != some Dom.LGL))
  ({ s with regs := putValues keep (s.cfgActs.filter (fun e : Nat × Nat => keyDomain e.1 != some Dom.LGL)) }).wr F.CFG_ROLE s.role

/-! ## What a domain loses -/

/-- SEC (R459): every slot but the vault slots, and the challenges. Key blobs not committed are lost with them (R458). -/
def State.loseSec (s : State) : State :=
  ({ s with sec := { s.sec with slots := s.sec.slots.filter (fun e : Nat × KeySlot => decide (240 ≤ e.1)), blobs := s.cfg.curKeys, lifeChal := none, dbgChal := none } })

/-- Tasks dispatched to executors of a domain end TIMEOUT (R257, R517). -/
def State.endTasks (s : State) (p : Nat → Bool) : State :=
  ((s.pln.descs.filter (fun e : Nat × Desc => e.2.st == .running && p e.2.exec)).map (fun e => e.1)).foldl (fun (t : State) i => t.taskEnd i .timeout 0) s

/-- TSK: tasks on Assay, Touchstone and the TASK cores, and BOUNDARY events not yet acted on. -/
def State.loseTsk (s : State) : State :=
  let t := s.endTasks (fun e => e == 8 || e == 9 || (11 ≤ e && e ≤ 26))
  { t with bndPrf := [], bndTch := [], prf := { t.prf with read := none } }

/-- A port after the loss of the packets it was sending or held for a route (R214); its own MAC frames stand. -/
def Port_.losePackets (x : Port_) : Port_ :=
  let own (t : NplTx) : Bool := t.cell.isNone
  { x with
    tx := x.tx.filter own, mac := x.mac.filter own, routeHeld := x.routeHeld.filter own, held := []
    sun := { x.sun with tx := none, busySent := false } }

/-- PKT (R214, R257, R334): the Crucible, Planish, an installation in progress, leaf tables and proofs. -/
def State.losePkt (s : State) : State :=
  { s with
    cru := {}
    pln := {}
    gate := { s.gate with inst := none }
    hlm := { s.hlm with trees := s.hlm.trees.map (fun t : Tree => { t with leaves := [], dropped := true }), prq := none }
    ports := s.ports.map (fun e : Nat × Port_ => (e.1, e.2.losePackets)) }

/-- FPA or FPB: the modems; credits held stay until they are released (R124), connections with their members (R182), and the slot length the grid counts on with (R175). DEDUCED, unsafe: log entry 61. -/
def State.losePorts (s : State) (d : Nat) : State :=
  ((s.ports.map (fun e => e.1)).filter (fun n => portDom n == d)).foldl (fun (t0 : State) n =>
    let t := ((t0.dropReq n).dropTx n).loseBursts n
    t.setPort n { pers := (t.port n).pers, bursts := (t.port n).bursts, tag := (t.port n).tag, sun := { conns := (t.port n).sun.conns, es := (t.port n).sun.es, air := (t.port n).sun.air } }) s

/-- UPL: the links with what they carry, but for the sequence numbers last held (R401), the address, the stamps and the halts; what waits for an acknowledgement is sent again. -/
def State.loseUpl (s : State) : State :=
  { s with
    chn := { s.chn with
      links := s.chn.links.map (fun e : Nat × SLink => (e.1, { txSeq := e.2.txSeq, rxHeld := e.2.rxHeld })), enumWait := false, stamps := [], halts := [], hasAddr := false, pausing := 0
      units := s.chn.units.map (fun e : Nat × UnitInfo => (e.1, { e.2 with reachable := false })) }
    pair := { s.pair with hb := none, issuing := false, stores := [], behind := [], linkLost := false, soloTo := false } }

/-- What a domain holds beside its fields is lost at its reset and at its power-down. -/
def State.domClear (s : State) (d : Nat) : State :=
  match d with
  | 1 => s.loseSec.endTasks (fun e => e == 7)
  | 2 => ({ s with lgl := { s.lgl with chal := [] } }).endTasks (fun e => e == 10)
  | 3 => { s with upd := { s.upd with load := [] } }
  | 4 => s.loseTsk
  | 5 => s.losePkt
  | 6 => s.losePorts 6
  | 7 => s.losePorts 7
  | 8 => s.loseUpl
  | 9 => { s with mem := [] }
  | 11 => { s with dsp := {}, gpioCmp := 0, zc := [], pst := s.pst.lost }
  | _ => s

/-- A domain is powered down (R504, R519). -/
def State.domOff (s : State) (d : Nat) : State :=
  if !s.domPowered d then s
  else
    let t := (s.domClear d).reloadPages d
    (({ (if s.rst.inReset.any (fun x => x.1 == d) && s.ovr.dom == some d then t.ovrEnd .reset 2 else t) with rst := { t.rst with inReset := t.rst.inReset.filter (fun x => x.1 != d) } }.wr F.PWR_DOM_ON (t.rd F.PWR_DOM_ON - 2 ^ d)).wr
      F.ARB_DOM_USED (t.rd F.ARB_DOM_USED - domCredit d)).wr F.CLK_LOCK (t.rd F.CLK_LOCK &&& (0x3FFF ^^^ domIslands d))

/-- Every domain that a mode does not power goes down, in the reverse of the order of R504; IOX in HOLDUP goes down once Bezel has discharged (R500). -/
def State.powerDownTo (s : State) (keep : List Nat) : State :=
  (powerOrder.reverse.filter (fun d => !keep.contains d)).foldl (fun (t : State) d => t.domOff d) s

/-! ## The configuration store at BOOT (R52, R493) -/

/-- The slot to load for a format: the valid one of the highest generation a durable record made current, the reserve counting as a slot. Answers also whether it is the reserve. -/
def State.cfgPick (s : State) (fmt : Nat) : Option (CfgSlot × Bool) :=
  let ok := fun (c : CfgSlot) => c.good && decide (c.gen ≤ s.cfgNewest) && c.fmt == fmt
  let l := (s.cfg.slot0.toList ++ s.cfg.slot1.toList).map (fun c => (c, false)) ++ s.cfg.reserve.toList.map (fun c => (c, true))
  (l.filter (fun c => ok c.1)).foldl (fun (b : Option (CfgSlot × Bool)) c => match b with
    | none => some c
    | some x => if x.1.gen < c.1.gen then some c else some x) none

/-- A slot in force: its image, the keys stored with it, its generation, and whether its role is the strapped one (R3, R57). -/
def State.cfgApply (s : State) (c : CfgSlot) : State :=
  let s1 := { s with cfg := { s.cfg with cur := c.image, curKeys := c.keys, curRole := c.role } }
  let s2 := (s1.wr F.CFG_GEN c.gen).wr F.CFG_CSTAT_ROLE_MISMATCH (b2n (c.role != s.role))
  if c.role = s.role then s2 else s2.alert 1

/-- An image is committed as the next generation (R53 step 4, R493). -/
def State.cfgCommitSlot (s : State) (c : CfgSlot) : State :=
  (({ s with cfg := s.cfg.put c }).journal 7 (cfgBody c)).cfgApply c

/-- The key blobs live again as the committed image holds them (R458). -/
def State.blobsLoad (s : State) : State := { s with sec := { s.sec with blobs := s.cfg.curKeys } }

/-- The committed configuration is loaded for a format (R52, R54, R493). A reserve found with newer commits in another format stands for a fall-back: it is committed again and the later changes are lost; a format without a slot while a reserve is kept means the first BOOT of new firmware, which converts the image. -/
def State.cfgLoad (s : State) (fmt : Nat) : State :=
  let s0 := if s.cfg.interrupted then ({ s with cfg := { s.cfg with interrupted := false } }).wr F.CFG_CSTAT_RESULT 2 else s
  let next := s0.cfgNewest + 1
  let newer := fun (g : Nat) => (s0.cfg.slot0.toList ++ s0.cfg.slot1.toList).any (fun c => c.good && decide (c.gen ≤ s0.cfgNewest) && decide (g < c.gen) && c.fmt != fmt)
  let drop := fun (t : State) => ({ t with cfg := { t.cfg with reserve := none } }).wr F.CFG_FMT_OLD 0
  if s0.rd F.IGT_STATE_MODE = 5 then { s0 with cfg := { s0.cfg with cur := [], curKeys := [] }, sec := { s0.sec with blobs := [] } }.wr F.CFG_CSTAT_ROLE_MISMATCH 0
  else match s0.cfgPick fmt with
    | some (c, _) =>
      if newer c.gen then (drop (s0.cfgCommitSlot { c with gen := next }).blobsLoad).wr F.UPD_STAT_CFG_LOST 1 else (s0.cfgApply c).blobsLoad
    | none =>
      match s0.cfg.reserve with
      | some r => (s0.cfgCommitSlot { r with gen := next, fmt := fmt }).blobsLoad
      | none => { s0 with cfg := { s0.cfg with cur := [], curKeys := [] }, sec := { s0.sec with blobs := [] } }.wr F.CFG_CSTAT_ROLE_MISMATCH 0

/-- The legal partition is loaded by the same rule under LGL.LGEN (R293, R493). -/
def State.legalLoad (s : State) (fmt : Nat) : State :=
  let ok := fun (c : LegalSlot) => c.good && decide (c.gen ≤ s.legalNewest) && c.fmt == fmt
  let slots := s.lgl.slot0.toList ++ s.lgl.slot1.toList
  let best := ((slots ++ s.lgl.reserve.toList).filter ok).foldl (fun (b : Option LegalSlot) c => match b with
    | none => some c
    | some x => if x.gen < c.gen then some c else some x) none
  let newer := fun (g : Nat) => slots.any (fun c => c.good && decide (c.gen ≤ s.legalNewest) && decide (g < c.gen) && c.fmt != fmt)
  let next := s.legalNewest + 1
  let put := fun (t : State) (c : LegalSlot) =>
    let l := if c.gen % 2 = 0 then { t.lgl with slot0 := some c, image := c.image } else { t.lgl with slot1 := some c, image := c.image }
    ({ t with lgl := l }.wr F.LGL_LGEN c.gen).journal 8 (be 1 0x4D ++ be 4 c.gen)
  if s.rd F.IGT_STATE_MODE = 5 then { s with lgl := { s.lgl with image := [] } }
  else match best with
    | some c => if newer c.gen then put { s with lgl := { s.lgl with reserve := none } } { c with gen := next }
      else ({ s with lgl := { s.lgl with image := c.image } }).wr F.LGL_LGEN c.gen
    | none => match s.lgl.reserve with
      | some r => put s { r with gen := next, fmt := fmt }
      | none => { s with lgl := { s.lgl with image := [] } }

/-! ## The NVM stage of BOOT (R375, R391, R515, R518) -/

/-- The geometry that the parameter pages give (R375). DESIGN CHOICE, unsafe: log entry 90. -/
def State.nandGeometry (s : State) : State :=
  let f := s.pins.nand
  if !f.legal then (s.wr F.IGT_CE_REJECT f.rejects).wr F.IGT_STATE_MODE 5
  else
    let s1 := ((((s.wr F.IGT_GEOM_CH (f.channels - 1)).wr F.IGT_GEOM_CE (f.ces - 1)).wr F.IGT_GEOM_LUN (f.luns - 1)).wr F.IGT_GEOM_PLANE f.planes).wr F.IGT_GEOM_PAGE (b2n f.page16)
    ((((s1.wr F.IGT_GEOM_PPB f.ppb).wr F.IGT_BPL f.bpl).wr F.IGT_RAW_MIB f.rawMib).wr F.IGT_FLUSH_RATE f.rate).wr F.IGT_CE_REJECT f.rejects

/-- The flush area is read, copied and erased (R391): with FLUSH_DONE the pages and map pages take their own places; without it the flush was short. -/
def State.flushCopy (s : State) : State :=
  match s.nand.flush with
  | none => s
  | some f =>
    let s1 := { s with
      nand := { s.nand with flush := none, stored := if f.complete then f.maps.foldl (fun (m : SMap MapPage) (e : Nat × MapPage) => SMap.set m e.1 e.2) s.nand.stored else s.nand.stored }
      jrn := { s.jrn with tail := f.recs ++ s.jrn.tail } }
    if f.complete then s1.sat F.IGT_FLUSH_OK else (s1.sat F.IGT_FLUSH_SHORT).raise Pg.IGT 6

/-- After a BOOT without FLUSH_DONE every block's read count is raised by RD_LIMIT ÷ 4 (R388). -/
def State.raiseReads (s : State) : State :=
  let n := s.rdIn F.IGT_RD_LIMIT 1000 10000000 / 4
  (s.usedBlocks ++ s.nand.blocks.map (fun e => e.1)).eraseDups.foldl (fun (t : State) b => t.setBlock b { t.nblock b with reads := (t.nblock b).reads + n }) s

/-- The journal and spare sizes take effect, the map is made again, and the store's mode follows (R377, R389, R391, R392). -/
def State.storeReady (s : State) : State :=
  let s1 := { s with nand := { s.nand with jrnlMib := s.rdIn F.IGT_JRNL_MIB 256 32768, sparePm := s.rdIn F.IGT_SPARE_PM 5 100, capAt := none, recharge := false, orphans := 0, retryAt := s.nand.retryAt.map (fun _ => some (s.ledgerTime + 86400)) } }
  let s2 := s1.mapRebuild.addSat F.IGT_ORPHANS s.nand.orphans
  let s3 := s2.wr F.IGT_SPARE_NOW (s2.spareTotal - (s2.nand.blocks.filter (fun e : Nat × NBlock => e.2.bad)).length)
  let s4 := if s3.rd F.IGT_SPARE_NOW * 1000 < s3.pins.nand.blocks then (s3.wr F.IGT_STATE_MODE 4).raise Pg.IGT 1 else s3.wr F.IGT_STATE_MODE 1
  ((s4.tierUpdate).wr F.IGT_STATE_READY 1).igtSync

/-- May the unit enter its role mode (R448)? -/
def State.roleAdmitted (s : State) : Bool := (s.fuses.lc == 2 || s.fuses.lc == 3) && s.rd F.DBG_LEVEL == 0

/-- The regions of R521 in their order: the size in bytes of each, and the masters it is opened to. A role without a node table has none. -/
def State.regionSizes (s : State) : List (Nat × List MemMaster) :=
  let mib := 2 ^ 20
  let head := s.role == 2
  [(4 * mib, [.gate]), (16 * mib, [.gate]), (s.rd F.IGT_RAW_MIB * mib / 8192, [.ingot]), (64 * mib, [.ingot, .journal, .mirror]),
   ((if head then 1024 else 64) * mib, [.tariff, .legal]), (96 * mib, [.touchstone]), ((if head then 512 else 32) * mib, [.task]),
   (48 * s.rdIn F.HLM_PART_MAX 65536 1048576 * 17, [.hallmark, .sha])] ++ (if head then [(8 * mib, [.task])] else [])

/-- Regions placed one after another from an address upward, each aligned to 2 MiB (R521). -/
def placeRegions (at_ : Nat) : List (Nat × List MemMaster) → List Region
  | [] => []
  | (n, ms) :: rest => ⟨at_, n, ms⟩ :: placeRegions ((at_ + n + 2 ^ 21 - 1) / 2 ^ 21 * 2 ^ 21) rest

/-- The regions are placed and opened (R518, R521). DEDUCED, unsafe: log entry 140. -/
def State.openRegions (s : State) : State := { s with mem := placeRegions 0 s.regionSizes }

/-- The address after the last region (R521). -/
def State.regionsEnd (s : State) : Nat := (s.mem.map (fun r => r.base + r.size)).foldl max 0

/-- Is an address of DRAM open to a master (R521): by the region that holds it, or as the rest that belongs to the APP cluster? -/
def State.memOpen (s : State) (m : MemMaster) (a : Nat) : Bool :=
  match s.mem.find? (fun r => decide (r.base ≤ a) && decide (a < r.base + r.size)) with
  | some r => r.opened.contains m
  | none => m == .app && decide (s.regionsEnd ≤ a) && decide (a < s.pins.nand.dramMib * 2 ^ 20)

/-- Do the regions, and 512 MiB for the APP cluster beside them, fit the fitted DRAM, so far as its training brought it up (R518, R521)? DEDUCED, unsafe: log entry 140. -/
def State.dramFits (s : State) (trained : Nat) : Bool := decide (s.regionsEnd + 512 * 2 ^ 20 ≤ min s.pins.nand.dramMib trained * 2 ^ 20)

/-- The mode that BOOT ends in (R518). -/
def State.bootTarget (s : State) (trained : Nat) : Nat :=
  if s.dead then Md.BOOT
  else if !s.roleAdmitted || s.pwr.domFailed || !s.dramFits trained || !s.fwOk then Md.SERVICE
  else if s.partnered then Md.STANDBY
  else s.roleMode

/-- MODE.TGT shows the target; ports, chain links and the mirror link stay off where it is no role mode (R2, R448, R503). -/
def State.showTarget (s : State) : State :=
  let t := s.bootTarget s.pins.nand.dramMib
  ({ s with pwr := { s.pwr with portsOff := !isRole t, mirOff := !isRole t && t != Md.STANDBY } }).wr F.MODE_TGT t

/-- The keys of the configuration, and the loaders' checks under them (R458, R491): where a slot fails and the format in force changes with it, the configuration of that format is loaded. -/
def State.bootFirmware (s : State) : State :=
  let fmt := hdrFmt (s.running 4).head
  let s1 := (s.cfgLoad fmt).restoreKeys.fwBoot
  let s2 := if s1.rd F.CFG_FMT_CUR = fmt then s1 else (s1.cfgLoad (s1.rd F.CFG_FMT_CUR)).restoreKeys
  (if s2.sec.noFuse then s2 else s2.deriveSlots.issueCerts).legalLoad (hdrFmt (s2.running 2).head)

/-- The NVM stage (R518): initialisation, the flush area, a kept remainder, the configuration and the loaders' checks, then READY. DEDUCED, unsafe: log entry 115. -/
def State.nvmBoot (s : State) : State :=
  let s1 := (s.nandGeometry.flushCopy)
  let s2 := if s1.rd F.IGT_STATE_MODE = 5 then s1 else s1.tailProgram (s1.jrn.tail.length + 1)
  let s3 := ({ s2 with rst := { s2.rst with kept := false } }).bootFirmware.reloadCommitted.refreshUncertain.cmpResume
  let done := match s.nand.flush with | some f => f.complete | none => false
  let s4 := if s3.rd F.IGT_STATE_MODE = 5 then s3.wr F.IGT_STATE_READY 1 else (if done then s3 else s3.raiseReads).storeReady
  s4.openRegions.showTarget

/-! ## Restarts (R517, R518) -/

/-- SEC derives its slots; at BOOT it also carries out what a life-cycle state asks for (R447, R462, R517). DEDUCED, unsafe: log entry 115. -/
def State.startSec (s : State) : State :=
  if s.mode = Md.BOOT then
    let s1 := s.fwPrepare
    let s2 := if s1.on F.LIFE_STAT_DONE then s1 else s1.lcEffects
    if s2.sec.noFuse then s2 else s2.deriveSlots
  else s.bootKeys

/-- PKT starts empty; Gate is rebuilt at BOOT (R206), and firings that were held in TIM start their drains (R255). -/
def State.startPkt (s : State) : State :=
  let s1 := if s.mode = Md.BOOT then s.gateRestore else s
  let s2 := s1.heldFirings.foldl (fun (t : State) d => t.startDrain d) { s1 with heldFirings := [] }
  s2.heldBits.cruSync.plnSync

/-- Serial links begin to train where they are used, and go down where they are not (R396, R419). -/
def State.linksFollow (s : State) : State :=
  [0, 1, 2].foldl (fun (t : State) l =>
    let st := t.rd (linkStat l)
    if t.linkUsed l && st == 0 then t.wr (linkStat l) 1
    else if !t.linkUsed l && st != 0 then (if l = 2 then t.serialDown 2 else t.chainDown l)
    else t) s

/-- The APP cluster becomes main host (R63, R64), until the next BOOT. -/
def State.hostApp (s : State) : State := (({ s with pwr := { s.pwr with appHost := true } }).wr F.PCI_HOST_STAT 2).raise Pg.PCI 4

/-- UPL: the links train. At BOOT HOST_SEL may name the APP cluster; after a later restart of the domain HOST_STAT shows an APP cluster that is main host again (R63). -/
def State.startUpl (s : State) : State :=
  let s1 := (s.wr F.CLM_SLOT (if s.pins.pairSel = 3 then 0 else s.pins.pairSel.toNat)).linksFollow
  if s1.pwr.appHost then s1.wr F.PCI_HOST_STAT 2
  else if s1.mode = Md.BOOT && s1.rd F.CFG_HOST_SEL = 2 then s1.hostApp else s1

/-- What a domain does when its reset is released (R517, R518). -/
def State.startDom (s : State) (d : Nat) : State :=
  let s := s.pstAgain d
  match d with
  | 1 => s.startSec
  | 2 => if s.mode = Md.BOOT then s.legalCheck.legalStart else s.legalStart
  | 4 => s.tchRestart
  | 5 => s.startPkt
  | 6 => s.portsFollow
  | 7 => s.portsFollow
  | 8 => s.startUpl
  | 9 => s.openRegions
  | 10 => if s.mode = Md.BOOT then s.nvmBoot else s
  | 11 => s.panelUp.pstShow
  | _ => s

/-! ## Arrival in a mode (R501, R502) -/

/-- A completed change (R502, R522): MODE.PREV and CUR, the raw count of entry, the bit and the alert. -/
def State.enter (s : State) (m : Nat) : State :=
  let s1 := ({ s.pstModeChange with pwr := { s.pwr with change := none, ramping := none } }).wr F.MODE_PREV s.mode
  ((((s1.wr F.MODE_CUR m).wr64 F.MODE_ENTRY_LO F.MODE_ENTRY_HI s.raw).wr F.MODE_STAT_BUSY 0).raise Pg.MODE 0).alert 0

/-- Restoration (R280, R298, R309): the outage span and the first filing interval, and an activation whose minute has passed. -/
def State.restoration (s : State) : State :=
  let s1 := s.profileRestore
  match s1.tar.armed with
  | some a => if s1.minTime a.actMin ≤ s1.now then s1.tariffActivate s1.raw else s1
  | none => s1

/-- An outage report (R509) goes to the queue PWR.OUT_Q. -/
def State.outReport (s : State) (kind : Nat) : State :=
  let mask := (s.keptPorts.map (fun n => 2 ^ n)).sum
  if s.rd F.PWR_OUT_Q < 80 then s
  else (s.outputPacket (s.rd F.PWR_OUT_Q) (be 1 kind ++ be 7 0 ++ be 8 s.pwr.mainsEdge ++ be 8 mask ++ be 4 (s.rd F.PWR_OUTAGE_CNT) ++ be 4 0)).2

/-- A pair entry of the journal (R434): its type, cause or source, and fork point. -/
def State.pairEntry (s : State) (typ cause f : Nat) : State :=
  s.journal 10 (be 1 0x50 ++ be 1 typ ++ be 2 (s.rd F.CLM_EPOCH) ++ be 1 cause ++ be 8 f ++ be 8 s.raw)

/-- The level at which the lane switch selects this unit (R433): high for slot A. -/
def State.laneLevel (s : State) : Bool := s.pins.pairSel == 1

/-- A claim-arbitrated pin's level changes and is journaled (R432). -/
def State.setPinLevel (s : State) (k : Nat) (b : Bool) : State :=
  (({ s with pair := { s.pair with pinLevels := SMap.set s.pair.pinLevels k b } }).gpioFollow s).journal 10 (be 1 0x50 ++ be 1 6 ++ be 1 k ++ be 1 (b2n b))

/-- Step 7 of a takeover (R433, R436, R438): the chain lane switch selects this unit, and CONTROL is asked for. -/
def State.takeoverDone (s : State) : State :=
  let k := s.rd F.CLM_LANE_PIN
  let s1 := if k < 16 && s.pinArb k then s.setPinLevel k s.laneLevel else s
  ((s1.wr F.CLM_CTRL_STAT 1).raise Pg.CLM 2).alert 5

/-- A role mode begins (R280, R436, R503, R508). -/
def State.atRole (s : State) (from_ : Nat) : State :=
  let s0 := { s with pwr := { s.pwr with portsOff := false, mirOff := false } }
  let s1 := if from_ = Md.TAKEOVER then s0.takeoverDone else s0
  let s2 := if from_ = Md.OUTAGE then ({ s1 with prf := { s1.prf with outExit := s1.now } }).outReport 2 else s1
  let s3 := if from_ = Md.BOOT || from_ = Md.TAKEOVER || from_ = Md.HOLDUP then s2.restoration else s2
  s3.portsFollow.linksFollow

/-- A domain reset starts (R517): counted, its bridges closed, what it holds lost and its fields reloaded. DEDUCED, unsafe: log entry 110. -/
def State.domResetStart (s : State) (d by_ : Nat) : State :=
  let s1 := (((s.wr F.RST_LAST_CAUSE 5).wr F.RST_LAST_SRC 0).wr64 F.RST_LAST_C_LO F.RST_LAST_C_HI s.raw).sat (F.RST_CNT 4)
  let at_ := if d = Dom.PKT || d = Dom.TSK then (s.raw :: s.rst.domAt).filter (fun c => decide (s.raw < c + 60 * 250000000)) else s.rst.domAt
  let n := min (2 ^ 32 - 1) (SMap.getD s.rst.domCnt d 0 + 1)
  let s2 := ((s1.ledgerAdd 16 1).trialSees d).pstDomain d
  let s3 := (s2.domClear d).reloadPages d
  { s3 with
    rst := { s3.rst with asked := s3.rst.asked.filter (fun x => x.1 != d), inReset := s3.rst.inReset.filter (fun x => x.1 != d) ++ [(d, by_)], domCnt := SMap.set s3.rst.domCnt d n, domAt := at_ }
    pair := { s3.pair with found := if 4 ≤ at_.length && s3.pair.active && (d = Dom.PKT || d = Dom.TSK) then s3.pair.found ||| 16 else s3.pair.found } }

/-- Scan opens at an entry to SERVICE that asked for it (R471), once clearing has completed. DEDUCED, unsafe: log entry 95. DESIGN CHOICE, safe: log entry 129. -/
def State.scanOpens (s : State) : State :=
  if s.on F.DBG_SCAN_PEND && (s.fuses.lc == 1 || s.fuses.lc == 4) then
    let t := (s.clearing.wr F.DBG_SCAN_OPEN 1).raise Pg.DBG 1
    { t with sec := { t.sec with noFuse := true } }
  else s

/-- SERVICE begins (R471, R502, R503): HALTED clears, the LGL domain is reset, scan may open; ports and links are idle unless a SOLO unit came from its role mode. -/
def State.atService (s : State) (from_ : Nat) : State :=
  let solo := isRole from_ && !s.partnered
  let keepMir := solo || isRole from_ || from_ = Md.STANDBY
  let s1 := ({ s with pwr := { s.pwr with portsOff := !solo, mirOff := !keepMir } }).wr F.LGL_STAT_HALTED 0
  let s2 := if s1.domPowered Dom.LGL then s1.domResetStart Dom.LGL 2 else s1
  s2.scanOpens.portsFollow.linksFollow

/-- What a mode begins with. -/
def State.atMode (s : State) (from_ m : Nat) : State :=
  if isRole m then s.atRole from_
  else if m = Md.SERVICE then (if from_ = Md.HOLDUP then (if s.pwr.portsOff then s else s.restoration.portsFollow.linksFollow) else s.atService from_)
  else if m = Md.OUTAGE then (if from_ = Md.HOLDUP then s.restoration.portsFollow.linksFollow else s)
  else if m = Md.STANDBY then ({ s with pwr := { s.pwr with portsOff := true, mirOff := false } }).portsFollow.linksFollow
  else if m = Md.PROVISION then ({ s with pwr := { s.pwr with portsOff := true, mirOff := true } }).linksFollow
  else s

/-- An override that has done its work (R75). -/
def State.ovrDone (s : State) (f : OvrFn) : State :=
  s.ovrEnd f 1

/-- A mode change arrives (R501, R512): the segments held back in OUTAGE are written when the unit leaves it (R281), and from HOLDUP it counts as a return. -/
def State.arrive (s : State) (m : Nat) : State :=
  let s0 := if s.mode = Md.OUTAGE && m != Md.OUTAGE && m != Md.HOLDUP then s.flushSegments else s
  let s1 := (s0.enter m).atMode s.mode m
  let s2 := if s.mode = Md.HOLDUP then (s1.sat F.PWR_RESTORES).raise Pg.PWR 4 else s1
  (s2.ovrDone .mode).ovrDone .claim

/-! ## Sequencing (R504, R505) -/

/-- Does the credit of a domain fit the budget (R505)? -/
def State.creditFits (s : State) (d : Nat) : Bool := decide (s.rd F.ARB_DOM_USED + domCredit d ≤ s.rd F.ARB_DOM_BUDGET)

/-- A domain gets its credit, and its rail switch ramps. -/
def State.creditGive (s : State) (d : Nat) : State :=
  ({ s with pwr := { s.pwr with ramping := some d } }).wr F.ARB_DOM_USED (s.rd F.ARB_DOM_USED + domCredit d)

/-- The next domain of the change gets its credit, or waits for it; with none left the mode is reached. BOOT and TAKEOVER end by commands of their own (R436, R518). DEDUCED, unsafe: log entry 109. -/
def State.advance (s : State) : State :=
  match s.pwr.change with
  | none => s
  | some c =>
    match c.todo with
    | [] => if c.target = Md.BOOT || s.mode = Md.TAKEOVER then s else s.arrive c.target
    | d :: _ => if s.creditFits d then s.creditGive d else (s.sat F.ARB_DOM_DEFER).raise Pg.ARB 2

/-- A mode change begins (R504): domains the mode does not power go down, and those it powers come up in order. -/
def State.changeTo (s : State) (m : Nat) : State :=
  let want := s.modeDomains m
  let s1 := (s.pstModeChange.powerDownTo want).wr F.MODE_STAT_BUSY 1
  ({ s1 with pwr := { s1.pwr with change := some ⟨m, powerOrder.filter (fun d => want.contains d && !s1.domPowered d)⟩, ramping := none } }).advance

/-- The rest of a change after its first domain. -/
def ModeChange.next (c : ModeChange) : ModeChange := { c with todo := c.todo.tail }

/-- A domain that powers up is ready (R504): its clocks lock, its fields reload, and it starts. -/
def State.domUp (s : State) (d : Nat) : State :=
  let s1 := { s with pwr := { s.pwr with ramping := none, change := s.pwr.change.map ModeChange.next } }
  let s2 := (s1.wr F.PWR_DOM_ON (s1.rd F.PWR_DOM_ON ||| 2 ^ d)).wr F.CLK_LOCK (s1.rd F.CLK_LOCK ||| domIslands d ||| 2)
  ((s2.reloadPages d).startDom d).advance

/-- A domain override that named a domain has ended with a result (R75). -/
def State.ovrDom (s : State) (d r : Nat) : State := if s.ovr.dom = some d then s.ovrEnd .reset r else s

/-- A domain reset ends (R49, R100, R517): the restart, DOM_DONE, and for LGL the legal event that names the requester. DEDUCED, unsafe: log entry 110. -/
def State.domResetEnd (s : State) (d : Nat) : State :=
  let by_ := ((s.rst.inReset.find? (fun x => x.1 == d)).map (fun x => x.2)).getD 2
  let s1 := { s with rst := { s.rst with inReset := s.rst.inReset.filter (fun x => x.1 != d) } }
  let s2 := ((s1.startDom d).cmpSkip.raise Pg.RST 1).ovrDom d 1
  if d = Dom.LGL then s2.legalEvent 9 by_ 7 (s2.jrn.seq + 1) (be 8 5) else s2

/-! ## Giving up (R434, R439) -/

/-- The claim of a unit goes to 0 (R434): the causes, the count, the bit. -/
def State.claimDown (s : State) (causes : Nat) (req : Bool) : State :=
  let s1 := { s with pair := { s.pair with active := false, givenUp := true, handover := none, found := 0 } }
  let s2 := (((s1.wr F.CLM_GIVEUP_CAUSE causes).wr F.CLM_GIVEUP_CAUSE_REQ (b2n req)).sat F.CLM_GIVEUPS).wr F.CLM_CLAIM 0
  (s2.wr F.MIR_STAT_SOLO 0).raise Pg.CLM 6

/-- A unit of a pair gives up its claim (R434), with its journal entry; an update in trial sees it (R491). -/
def State.dropClaim (s : State) (causes : Nat) (req : Bool) : State := ((s.pairEntry 1 causes 0).claimDown causes req).trialBad

/-- Ports, chain links and Ethernet go idle (R439, R500). -/
def State.standDown (s : State) : State :=
  let s1 := ({ s with pwr := { s.pwr with portsOff := true } }).portsFollow.linksFollow
  (s1.ethDown 0).ethDown 1

/-- The unit gives up and goes to STANDBY (R434, R439, R501). -/
def State.giveUp (s : State) (causes : Nat) (req : Bool) : State := ((s.dropClaim causes req).standDown).changeTo Md.STANDBY

/-- May the unit give up: the active unit of a pair, in a mode that GIVE_UP leaves (R434, R501)? -/
def State.canGiveUp (s : State) : Bool := s.partnered && s.pair.active && (isRole s.mode || s.mode == Md.OUTAGE || s.mode == Md.TAKEOVER) && s.rst.seq.isNone

/-- The causes that self-diagnosis finds and GIVEUP_EN enables (R434): those found since, the store's state, and a halted LEGAL core. DEDUCED, unsafe: log entry 105. -/
def State.giveUpCauses (s : State) : Nat :=
  let store := if 4 ≤ s.rd F.IGT_STATE_MODE then 2 else 0
  let legal := if s.on F.LGL_STAT_HALTED then 32 else 0
  (s.pair.found ||| store ||| legal) &&& s.rd F.CLM_GIVEUP_EN

/-- Self-diagnosis (R434): the active unit gives up on an enabled cause. DEDUCED, unsafe: log entry 105. -/
def State.selfCheck (s : State) : State := if s.canGiveUp && s.giveUpCauses != 0 then s.giveUp s.giveUpCauses false else s

end Sys2Proof.Machine
end

