-- ==== Sys2Proof/Machine/Power.lean ====
section
/-!
DEFINITION. Supplies, resets and mode requests (R501 to R518): OFF and VAULT, the wake, full resets and domain resets, HOLDUP and its two ends, OUTAGE, and the end of BOOT.
-/
namespace Sys2Proof.Machine

/-! ## AON (R48, R515, R519) -/

/-- The key of a page's lock. -/
def isLockKey (k : Nat) : Bool := k == (F.LOCK_LOCKED (keyPage k)).key

/-- Credits of bursts are gone with the bursts. -/
def State.dropBursts (s : State) : State :=
  (({ s with credits := [], ports := s.ports.map (fun e : Nat × Port_ => (e.1, { e.2 with bursts := [] })) }.wr F.ARB_TX_USED 0).wr F.ARB_ACK_USED 0).wr F.ARB_WAITING 0

/-- What every full reset and every wake does to AON (R48, R450, R471, R519): locks clear, fields reload, the debug level asked for is latched, a scan session has closed for good, and overrides and interrupts end: a reset or a mode override is done with it, but for a mode override that a reset of another cause replaces. DESIGN CHOICE, unsafe: log entry 31. DEDUCED, unsafe: log entry 95. -/
def State.aonReset (s : State) : State :=
  let s1 := { s with regs := s.regs.filter (fun e : Nat × Nat => !isLockKey e.1) }
  let s2 := s1.dropBursts.reloadPages Dom.AON
  let s3 := (s2.wr F.CFG_ROLE s.role).wr F.DBG_LEVEL (s2.rd F.DBG_PEND)
  let s3 := if s.sec.noFuse then s3.wr F.DBG_SCAN_PEND 0 else s3
  let s4 := if s.ovr.running == some .reset || s.ovr.running == some .mode then s3.wr F.SMP_OVR_STAT_LAST (if s.ovr.running == some .mode && s.rst.seq.isSome && s.rst.seq != some (4, 4) then 3 else 1) else s3
  { s4 with
    irq := {}, bus := {}, ovr := {}
    tim := { s4.tim with stgStep := 0, stgConv := 0 }
    sec := { s4.sec with noFuse := false }
    cfg := { s4.cfg with job := none, interrupted := s4.cfg.interrupted || s4.cfg.job.isSome }
    rst := { s4.rst with seq := none, waiting := none, flushDone := false, asked := [], inReset := [], wdtRun := false, memLost := false }
    pair := { s4.pair with active := false, givenUp := false, barred := false, rounds := 0, sawActive := false, issuing := false, handover := none } }.refreshUncertain

/-- BOOT begins (R501, R518): the domains power up in order, and the compare units resume (R100). -/
def State.bootBegin (s : State) (from_ : Nat) : State :=
  let s1 := (s.enter Md.BOOT).wr F.MODE_PREV from_
  let s2 := { s1 with pwr := { s1.pwr with change := some ⟨Md.BOOT, powerOrder⟩, ramping := none, quench := false, vaultReq := false, vaultByReq := false, domFailed := false, portsOff := false, mirOff := false, appHost := false, hostPend := false } }
  ((s2.wr F.MODE_STAT_BUSY 1).cmpResume).advance

/-- Records a reset of a cause (R514, R526): 1 POR, 2 PIN, 3 WDT, 4 SWF. -/
def State.recordReset (s : State) (cause src : Nat) : State :=
  let s1 := ((s.wr F.RST_LAST_CAUSE cause).wr F.RST_LAST_SRC src).wr64 F.RST_LAST_C_LO F.RST_LAST_C_HI s.raw
  ((s1.wr F.RST_LAST_KEPT 0).sat (F.RST_CNT (cause - 1))).ledgerAdd (11 + cause) 1

/-! ## Full resets (R515) -/

/-- What DRAM held is lost (R513, R520). -/
def State.dramLost (s : State) : State :=
  { s with
    jrn := { s.jrn with tail := [] }
    nand := { s.nand with map := [], dirty := [], capAt := none, recharge := false }
    upd := { s.upd with load := [], arriving := none }
    ldg := { s.ldg with load := [] } }

/-- A remainder kept in DRAM is lost (R515). DEDUCED, unsafe: log entry 111. -/
def State.keptLost (s : State) : State :=
  if s.rst.kept then
    let q := match s.jrn.tail with | j :: _ => j.seq - 1 | [] => s.jrn.seq
    ({ (s.truncateJournal q) with rst := { s.rst with kept := false } }).sat F.RST_KEPT_LOST
  else s

/-- Steps 4 and 5 of R515, an escalated MEM reset losing what DRAM held (R520). -/
def State.finishReset (s : State) : State :=
  let s0 := if s.rd F.RST_LAST_CAUSE = 3 then s.trialBad else s
  let s1 := s0.powerDownTo [Dom.AON]
  let s2 := if s.rst.memLost then s1.keptLost.dramLost else s1
  (s2.aonReset).bootBegin s.mode

/-- The reset goes on once its pre-flush has ended (R515) and Bezel has discharged (R554). -/
def State.resetGo (s : State) : State :=
  if s.rst.seq.isSome && s.rst.flushDone && !s.bezelBusy then s.finishReset else s

/-- Has Ingot anything to program before a reset (R515 step 2)? -/
def State.preFlushDue (s : State) : Bool :=
  s.domPowered Dom.MEM && s.domPowered Dom.NVM && s.on F.IGT_STATE_READY && s.rd F.IGT_STATE_MODE != 5 && !(s.jrn.tail.isEmpty && s.nand.dirty.isEmpty)

/-- A full reset begins (R515 steps 1 and 2); one asked for in HOLDUP waits until Quench ends (R510), and one asked for while another runs is that one. -/
def State.startReset (s : State) (cause src : Nat) : State :=
  if s.rst.seq.isSome then s
  else if s.mode = Md.HOLDUP && s.pwr.quench then { s with rst := { s.rst with waiting := some (s.rst.waiting.getD (cause, src)) } }
  else
    let s1 := (s.recordReset cause src).bezelStop
    ({ s1 with rst := { s1.rst with seq := some (cause, src), flushDone := !s1.preFlushDue } }).resetGo

/-- The pre-flush ends (R515 steps 2 and 3): all is in its own area, or a remainder stays in DRAM. DEDUCED, unsafe: log entry 111. -/
def State.preFlushEnd (s : State) (kept : Bool) : State :=
  if s.rst.seq.isSome && !s.rst.flushDone then
    let s1 := if kept then ({ s with rst := { s.rst with kept := true } }).wr F.RST_LAST_KEPT 1 else s.flushAll
    ({ s1 with rst := { s1.rst with flushDone := true } }).resetGo
  else s

/-- PRE_FLUSH_END (R515). -/
def execPreFlushEnd (kept : Bool) (s : State) : Host.Outcome State Fault Refusal := s.done (s.preFlushEnd kept)

/-! ## VAULT and OFF (R501, R513, R520) -/

/-- What waits for Quench or for a mode change is dropped with the supply (R76): a full reset leaves no record. -/
def State.ovrDrop (s : State) : State :=
  if s.ovr.waitReset || s.ovr.waitMode.isSome || s.ovr.running.isSome then ({ s with ovr := {} }).wr F.SMP_OVR_STAT_BUSY 0 else s

/-- VAULT is entered (R97, R513): only AON stays powered, and TIM is gated. -/
def State.enterVault (s : State) (byReq : Bool) : State :=
  let s1 := ((s.powerDownTo [Dom.AON]).dramLost.dropBursts.enter Md.VAULT).gateTim
  ({ s1 with
    pwr := { s1.pwr with quench := false, vaultReq := false, vaultByReq := byReq }
    rst := { s1.rst with seq := none, waiting := none, flushDone := false, asked := [], inReset := [], wdtRun := false, memLost := false } }).wr F.CLK_GATE_STAT 2

/-- Both supplies are gone (R501). -/
def State.enterOff (s : State) : State :=
  let s1 := (s.powerDownTo [Dom.AON]).dramLost.dropBursts.enter Md.OFF
  (({ s1 with
    pwr := { s1.pwr with quench := false, vaultReq := false, vaultByReq := false }
    rst := { s1.rst with seq := none, waiting := none, flushDone := false, asked := [], inReset := [], wdtRun := false, memLost := false } }).wr F.PWR_DOM_ON 0).wr F.ARB_DOM_USED 0 |>.wr F.SMP_ALERT_STAT 0

/-- The main supply has gone: VAULT on VBAK, or OFF (R501). -/
def State.goDown (s : State) : State := if s.pins.vbak then s.ovrDrop.enterVault false else s.ovrDrop.enterOff

/-- The newest epoch that a pair entry of the journal holds (R426). -/
def State.journaledEpoch (s : State) : Nat :=
  ((s.journalRecs.filter (fun j => j.kind == 10 && field j.body 0 1 == 0x50 && field j.body 1 1 ≤ 4)).map (fun j => field j.body 2 2)).foldl max 0

/-- The counters after the loss of both supplies (R79, R538): the newest checkpoint of the system area, one second on; without one they start from 0. -/
def State.restoreLedger (s : State) : State :=
  match s.ldg.ckpt with
  | some w =>
    if s.pins.nand.legal then
      let s1 := (List.range 116).foldl (fun (t : State) i => t.wr (F.LDG_WORD i) (w.getD i 0)) s
      ((s1.ledgerAdd 0 1).wr F.LDG_STAT_TIME_GAP 1).raise Pg.LDG 3
    else s.wr F.LDG_STAT_NO_STORE 1
  | none => s.wr F.LDG_STAT_NO_STORE 1

/-- A radio port whose raw count starts anew: its connections stand, as their records do, and are taken as heard now; the air time used is forgotten. DEDUCED, unsafe: log entry 61. -/
def Sun.anew (u : Sun) : Sun := { u with conns := u.conns.map (fun e : Nat × Conn => (e.1, { e.2 with lastRx := 0, start := 0 })), air := [] }

/-- AON powers up after the loss of both supplies (R79, R519): every class A and S field starts from its reset value, the vault slots are empty, and what the NAND keeps comes back. DEDUCED, unsafe: log entry 113. -/
def State.aonFresh (s : State) : State :=
  let s1 := { s with
    regs := [], irq := {}, bus := {}, ovr := {}, gpioCmp := 0, sunGrid := [], retired := [], heldFirings := [], pst := {}
    sec := { s.sec with slots := [], lifeChal := none, dbgChal := none, noFuse := false }
    gate := { s.gate with nbr := [], portSeq := [], cache := [] }
    ports := s.ports.map (fun e : Nat × Port_ => (e.1, { e.2 with sun := e.2.sun.anew }))
    rst := { s.rst with domCnt := [], domAt := [] } }
  let s2 := ({ s1 with tim := {} }).restoreLedger
  let n := s2.ledger 30 + 1
  let s3 := (s2.setLedger 30 n).wr F.TIME_EPOCH_RESTART n
  let ev := s3.lgl.events.headD []
  let s4 := (s3.wr F.LGL_EVT_CNT (field ev 0 4)).wr F.LGL_EVT_HEAD (field ev 0 4 % 1024)
  let s5 := match s4.hlm.sealed.getLast? with
    | some x => (s4.wr64 F.HLM_SEQ_LO F.HLM_SEQ_HI (x.seq + 1)).putWords F.HLM_LAST_DIGEST 12 (Config.sha384 x.bytes)
    | none => s4
  let s6 := match s5.hlm.reseals.getLast? with
    | some x => s5.wr64 F.HLM_RSEQ_LO F.HLM_RSEQ_HI (field x.bytes 8 8 + 1)
    | none => s5
  s6.wr F.CLM_EPOCH s6.journaledEpoch

/-- A POR is recorded (R514, R535). -/
def State.recordPor (s : State) : State := (s.recordReset 1 0).ledgerAdd 10 1

/-- A wake from VAULT (R97, R501): TIM resumes after `e` ns, AON resets, and BOOT begins cold. -/
def State.wake (s : State) (e cause src : Nat) : State :=
  let s1 := (s.aonReset.wakeTim e)
  (if cause = 1 then s1.recordPor else s1.recordReset cause src).bootBegin Md.VAULT

/-- POWER_ON (R501): the main supply is good with PF_N high. From OFF, or where VBAK was lost too, the device starts anew; from VAULT it wakes, unless a request holds it there (R510). DESIGN CHOICE, safe: log entry 128. -/
def execPowerOn (vbakHeld : Bool) (straps pair : BitVec 2) (elapsed : Nat) (nand : NandFit) (s : State) : Host.Outcome State Fault Refusal :=
  s.done (if (s.mode != Md.OFF && s.mode != Md.VAULT) || (s.mode == Md.VAULT && s.pwr.vaultByReq) then s
    else
      let s1 := { s with pins := { s.pins with roleSel := straps, pairSel := pair, mainGood := true, pfN := true, vbak := vbakHeld || s.pins.vbak, nand := nand } }
      if s.mode = Md.OFF || !vbakHeld then ((s1.aonFresh.aonReset).recordPor).bootBegin Md.OFF else s1.wake elapsed 1 0)

/-- VBAK_RISE (R501): AON powers up from VBAK alone, into VAULT. -/
def execVbakRise (s : State) : Host.Outcome State Fault Refusal :=
  s.done (let s1 := { s with pins := { s.pins with vbak := true } }
    if s.mode = Md.OFF && !s.pins.mainGood then s1.aonFresh.enterVault false else s1)

/-- VBAK_LOST (R501): in VAULT without the main supply the unit is OFF. -/
def execVbakLost (s : State) : Host.Outcome State Fault Refusal :=
  s.done (let s1 := { s with pins := { s.pins with vbak := false } }
    if s.mode = Md.VAULT && !s.pins.mainGood then s1.enterOff else s1)

/-- A PIN reset (R501, R514): from VAULT with the main supply good it wakes the unit. -/
def State.pinReset (s : State) (src : Nat) : State :=
  if s.mode = Md.OFF then s
  else if s.mode = Md.VAULT then (if s.pins.mainGood && s.pins.pfN then s.wake s.tim.vault 2 src else s)
  else s.startReset 2 src

/-- RESET_PIN (R514, R576): from 1 µs it resets, up to 100 ns it is ignored, and between them either may happen. -/
def execResetPin (ns : Nat) (s : State) : Host.Outcome State Fault Refusal :=
  s.done (if 1000 ≤ ns then s.pinReset 0
    else if ns ≤ 100 then s
    else if s.freeVal 2 = 1 then s.tookFree.pinReset 0 else s.tookFree)

/-- A write of RST.SWF (R76, R526): refused while a reset override is in progress. -/
def State.swfWrite (s : State) (m : Master) (v : Word) : State :=
  if s.ovrHolds .reset && m != .smp then s.denyWrite m Cause.OWNER_DENY Pg.RST 0x6C
  else if bits v 31 16 = 0x5F0F && bit v 0 then s.startReset 4 0 else s

/-- SOFTWARE_RESET (R514). -/
def execSoftwareReset (m : Master) (v : Word) (s : State) : Host.Outcome State Fault Refusal :=
  s.done (s.guarded m Pg.RST 0x6C (fun s => s.swfWrite m v))

/-! ## The watchdog (R516) -/

/-- Does the watchdog run? -/
def State.wdtOn (s : State) : Bool := s.rst.wdtRun && s.rd F.RST_WDT_PERIOD != 0

/-- The watchdog's period begins anew (R516). -/
def State.wdtRestart (s : State) : State := { s with rst := { s.rst with wdtAt := s.raw } }

/-- A write of RST.WDT_KICK (R516): the key restarts the period. -/
def State.wdtKickWrite (s : State) (v : Word) : State := if v = 0xC1C10000 then s.wdtRestart else s

/-- Has a share of the watchdog's period passed since it began: 2 for half of it, 1 for all (R516, R526)? -/
def State.wdtPast (s : State) (part : Nat) : Bool :=
  s.wdtOn && decide (s.rst.wdtAt + s.rdIn F.RST_WDT_PERIOD 100 60000 * 250000 / part ≤ s.raw)

/-- WDT_KICK (R516). -/
def execWdtKick (m : Master) (v : Word) (s : State) : Host.Outcome State Fault Refusal :=
  s.done (s.guarded m Pg.RST 0x74 (fun s => s.wdtKickWrite v))

/-- WDT_WARN (R516): half the period has passed since the last kick. -/
def execWdtWarn (s : State) : Host.Outcome State Fault Refusal :=
  s.done (if s.wdtPast 2 then (s.raise Pg.RST 0).alert 10 else s)

/-- WATCHDOG_EXPIRE (R516): the full period has passed since the last kick. -/
def execWatchdogExpire (s : State) : Host.Outcome State Fault Refusal := s.done (if s.wdtPast 1 then s.startReset 3 0 else s)

/-! ## HOLDUP (R510, R511, R390) -/

/-- A change under way is given up; the credit of a domain that ramps returns. -/
def State.cancelChange (s : State) : State :=
  let s1 := match s.pwr.ramping with
    | some d => s.wr F.ARB_DOM_USED (s.rd F.ARB_DOM_USED - domCredit d)
    | none => s
  { s1 with pwr := { s1.pwr with change := none, ramping := none } }

/-- Is the period end at BP_END due at a time (R310)? -/
def State.periodDue (s : State) (t : Nat) : Bool := s.rd F.TAR_BP_END != 0 && decide (s.minTime (s.rd F.TAR_BP_END) ≤ t)

/-- The tariff part of the cut record (R309, R310): an armed set whose minute has come is active from it on. DEDUCED, unsafe: log entry 112. -/
def State.cutTariff (s : State) (t : Nat) (bnd : Bool) : List Byte × State :=
  let sw := match s.tar.armed with | some a => decide (s.minTime a.actMin ≤ t) | none => false
  let s1 := match s.tar.armed with
    | some a => if sw then (({ s with tar := { s.tar with sets := (a :: s.tar.sets).take 3, armed := none } }.wr F.TAR_GEN_ACT a.gen).wr F.TAR_GEN_PEND 0).wr F.TAR_ACT_MIN 0 else s
    | none => s
  let pend := s1.tar.armed
  (be 2 ((s1.tar.sets.head?.map (fun x => x.gen)).getD 0) ++ be 2 ((pend.map (fun a => a.gen)).getD 0) ++ be 4 ((pend.map (fun a => a.actMin)).getD 0) ++
    be 4 (s1.rd F.TAR_VZ) ++ be 4 (s1.rd F.TAR_BP_END) ++ be 1 (b2n sw + 2 * b2n bnd + 4 * b2n (s1.periodDue t)) ++ be 15 0, s1)

/-- Does the unit hold open filing intervals of its own that PF_N cuts? A standby's are the active unit's. -/
def State.filesNow (s : State) : Bool := s.mode != Md.STANDBY && (s.working || !s.prf.filings.isEmpty)

/-- Quench writes the cut record (R23, R280, R309, R310), with the event of an activation that it carries (R317). A unit that files nothing closes nothing in it, and a standby's stands in its own journal and changes nothing. DEDUCED, unsafe: log entry 112. -/
def State.cutRecord (s : State) : State :=
  let c := s.raw
  let old := (s.tar.sets.head?.map (fun x => x.gen)).getD 0
  let armed := s.tar.armed
  let (closes, bnd, s1) := if s.filesNow then s.cutCloses c else ([], false, s)
  let (part, t) := s1.cutTariff (s.convert c).1 bnd
  let s2 := if s.mode = Md.STANDBY then s1 else t
  let s3 := (if s.filesNow then { s2 with prf := { s2.prf with cutAt := some c } } else s2).journal 3 (closes ++ part)
  match armed with
  | some a => if s3.tar.armed.isNone then s3.legalEvent 1 4 7 s3.jrn.seq (be 2 old ++ be 2 a.gen ++ be 4 a.actMin) else s3
  | none => s3

/-- May the consumer that a last-gasp queue names send: a port or a chain link that runs (R511)? -/
def State.gaspOpen (s : State) (q : Nat) : Bool :=
  let i := s.rd (F.CRU_QCFG_IDX q)
  (s.consumer q == 4 && decide (i < 2) && s.ethRuns i) || (s.consumer q == 3 && decide (i < 2) && s.linkIsUp i)

/-- A last-gasp queue is sent (R511), packet after packet; the traffic class of an Ethernet frame is the one whose queue it is, else 7. DEDUCED, unsafe: log entry 112. -/
def State.gaspSend (s : State) (q : Nat) : Nat → State
  | 0 => s
  | n + 1 =>
    if !s.gaspOpen q then s
    else match s.popQueue q with
      | none => s
      | some (c, t) =>
        let i := s.rd (F.CRU_QCFG_IDX q)
        let cls := ((List.range 8).find? (fun k => s.on (F.ETH_TXQ_EN i k) && s.rd (F.ETH_TXQ i k) == q)).getD 7
        (if s.consumer q = 4 then t.ethPut i cls c
          else if t.pktPoison c then (t.releasePacket c).sat F.CRU_POISON_DROP
          else t.chnPut i c).gaspSend q n

/-- The last-gasp queues that LG.EN enables (R511). -/
def State.lastGasp (s : State) : State :=
  [(0, s.rd F.PWR_LG_Q0), (1, s.rd F.PWR_LG_Q1)].foldl (fun (t : State) e =>
    if (s.rd F.PWR_LG_EN).testBit e.1 && 80 ≤ e.2 then t.gaspSend e.2 1024 else t) s

/-- IOX goes down in HOLDUP once the panel is off (R500, R510). -/
def State.holdupIox (s : State) : State := if s.mode = Md.HOLDUP && s.dsp.typ = 0 then s.domOff Dom.IOX else s

/-- A commit in progress is given up (R54). -/
def State.abandonCommit (s : State) : State :=
  if s.cfg.job.isSome then ({ s with cfg := { s.cfg with job := none, interrupted := true } }).wr F.CFG_CSTAT_BUSY 0 else s

/-- A scan session is aborted at PF_N (R471). -/
def State.abortScan (s : State) : State := if s.on F.DBG_SCAN_OPEN then ((s.wr F.DBG_SCAN_OPEN 0).wr F.DBG_SCAN_ABORTED 1).raise Pg.DBG 2 else s

/-- A pair's active unit gives up with cause PF (R434). -/
def State.pfGiveUp (s : State) : State :=
  if s.partnered && s.pair.active && (s.rd F.CLM_GIVEUP_EN).testBit 3 then s.dropClaim 8 false else s

/-- HOLDUP begins (R510), for PF_N or for a request. -/
def State.holdup (s0 : State) (req : Bool) : State :=
  let s := s0.cancelChange
  let s1 := (((s.cutRecord.pfGiveUp).capAbort).abandonCommit).abortScan
  let left := if s1.pair.givenUp && s.pair.active then Md.STANDBY else s.mode
  let s2 := ((s1.sat F.PWR_HOLDUP_CNT).ledgerAdd 11 1).powerDownTo [Dom.AON, Dom.SEC, Dom.PKT, Dom.UPL, Dom.MEM, Dom.NVM, Dom.IOX]
  let s3 := s2.lastGasp.bezelStop.enter Md.HOLDUP
  (({ s3 with
    pwr := { s3.pwr with modeLeft := left, vaultReq := req, quench := true }
    rst := { s3.rst with wdtRun := false } }).wr F.MODE_STAT_BUSY 1).holdupIox

/-- PF_N falls (R89, R501, R510). In BOOT before READY nothing needs a flush. -/
def State.powerFail (s : State) : State :=
  let s1 := { s with pins := { s.pins with pfN := false } }
  if s.mode = Md.OFF || s.mode = Md.VAULT || !s.pins.pfN then s1
  else
    let s2 := ((s1.capture 1).raise Pg.PWR 2).alert 2
    if s.mode = Md.HOLDUP then s2
    else if s.mode = Md.BOOT && !s.on F.IGT_STATE_READY then s2.keptLost.goDown
    else s2.holdup false

/-- POWER_FAIL (R510). -/
def execPowerFail (s : State) : Host.Outcome State Fault Refusal := s.done s.powerFail

/-- The dirty map pages as they are flushed. -/
def State.dirtyPages (s : State) : SMap MapPage := s.nand.dirty.foldl (fun (m : SMap MapPage) p => SMap.set m p ⟨s.jrn.seq, s.mapPage p⟩) []

/-- How long the present HOLDUP has lasted, in ms. -/
def State.holdupMs (s : State) : Nat := min 65535 ((s.raw - s.rd64 F.MODE_ENTRY_LO F.MODE_ENTRY_HI) / 250000)

/-- Quench ends (R390, R510): FLUSH_DONE stands. A reset that waited goes on, and a request for VAULT is carried out. -/
def State.quenchEnd (s : State) : State :=
  let s1 := if s.rd F.IGT_STATE_MODE = 5 then s
    else (let cut := ((s.journalRecs.filter (fun j => j.kind == 3)).getLast?.map (fun j => j.seq)).getD 0
      let t := s.journalRec 12 true (be 8 cut ++ be 4 s.tailBytes ++ be 4 s.nand.dirty.length)
      { t with nand := { t.nand with flush := some ⟨t.jrn.tail, t.dirtyPages, true⟩ } })
  let s2 := { s1 with pwr := { s1.pwr with quench := false } }
  match s2.rst.waiting with
  | some (c, src) =>
    ({ s2 with rst := { s2.rst with waiting := none }, ovr := { s2.ovr with waitReset := false, running := if s2.ovr.waitReset then some .reset else s2.ovr.running } }.wr F.PWR_HOLDUP_MS s2.holdupMs).startReset c src
  | none => if s2.pwr.vaultReq then ((s2.wr F.PWR_HOLDUP_MS s2.holdupMs).enterVault true).ovrDone .mode else s2

/-- What a short flush leaves (R390, R391): a prefix of the tail, of as many records as stand in flush pages without a gap. The AUs of MAP records that are lost are orphans (R387). -/
def State.shortFlush (s : State) (kept : Nat) : State :=
  let recs := s.jrn.tail.take kept
  let q := match recs.getLast? with
    | some j => j.seq
    | none => (match s.jrn.tail with | j :: _ => j.seq - 1 | [] => s.jrn.seq)
  let t := s.truncateJournal q
  let orphans := ((s.jrn.tail.drop kept).map (fun j => if j.kind = 11 then (mapPairs j.body).length else 0)).sum
  if s.rd F.IGT_STATE_MODE = 5 then t else { t with nand := { t.nand with flush := some ⟨recs, [], false⟩, orphans := t.nand.orphans + orphans } }

/-- The supply collapses (R501, R512, R513). In HOLDUP before Quench has ended the flush is short; in another mode PF_N gave no warning and the tail is lost. DEDUCED, unsafe: log entry 113. -/
def State.collapse (s : State) (ms kept : Nat) : State :=
  let s1 := { s with pins := { s.pins with mainGood := false, pfN := false } }
  if s.mode = Md.OFF then s1
  else if s.mode = Md.VAULT then
    (let s2 := { s1 with pwr := { s1.pwr with vaultByReq := false } }
     if s.pins.vbak then s2 else s2.enterOff)
  else if s.mode = Md.HOLDUP then ((if s.pwr.quench then s1.shortFlush kept else s1).wr F.PWR_HOLDUP_MS ms).goDown
  else (s1.keptLost.shortFlush 0).cancelChange.goDown

/-- SUPPLY_COLLAPSE (R512). -/
def execSupplyCollapse (ms : BitVec 16) (kept : Nat) (s : State) : Host.Outcome State Fault Refusal := s.done (s.collapse ms.toNat kept)

/-- The unit goes back to the mode it left (R54, R471, R512): Ingot programs what the flush holds in its own areas and erases the flush area. After an aborted scan it resets instead; a BOOT goes on where it was. -/
def State.holdupReturn (s : State) (ms : Nat) : State :=
  let s1 := ({ s with pins := { s.pins with pfN := true } }).wr F.PWR_HOLDUP_MS ms
  if s1.on F.DBG_SCAN_ABORTED then s1.startReset 4 5
  else
    let s2 := if s1.rd F.IGT_STATE_MODE = 5 then s1 else { s1.flushAll with nand := { s1.flushAll.nand with flush := none } }
    let s3 := if s2.cfg.interrupted then ({ s2 with cfg := { s2.cfg with interrupted := false } }).wr F.CFG_CSTAT_RESULT 2 else s2
    let s4 := ({ s3 with rst := { s3.rst with wdtRun := s3.pwr.modeLeft != Md.BOOT, wdtAt := s3.raw } }).tierUpdate
    if s4.pwr.modeLeft = Md.BOOT then
      let s5 := ((s4.enter Md.BOOT).sat F.PWR_RESTORES).raise Pg.PWR 4
      (({ s5 with pwr := { s5.pwr with change := some ⟨Md.BOOT, powerOrder.filter (fun d => !s5.domPowered d)⟩ } }).wr F.MODE_STAT_BUSY 1).advance
    else s4.changeTo s4.pwr.modeLeft

/-! ## Mode requests (R501, R502) -/

/-- A refused mode request: 2 REFUSED_LC, 3 BUDGET, 4 BUSY, 5 BAD_MODE. -/
def State.modeRefuse (s : State) (r : Nat) : Bool × State := (false, (s.wr F.MODE_STAT_RES r).raise Pg.MODE 1)

/-- Is a mode admitted by the life-cycle state (R448)? -/
def State.modeAdmitted (s : State) (m : Nat) : Bool :=
  let closed := s.rd F.DBG_LEVEL == 0
  if isRole m || m = Md.STANDBY || m = Md.TAKEOVER || m = Md.OUTAGE then s.roleAdmitted
  else if m = Md.PROVISION then s.fuses.lc == 0 || s.fuses.lc == 1 || (s.fuses.lc == 2 && closed)
  else true

/-- Is a mode change under way (R502)? BOOT, HOLDUP and a full reset are one. DEDUCED, unsafe: log entry 108. -/
def State.modeBusy (s : State) : Bool := s.pwr.change.isSome || s.mode == Md.BOOT || s.mode == Md.HOLDUP || s.mode == Md.TAKEOVER || s.rst.seq.isSome

/-- A request for SERVICE; the active unit of a pair gives up first (R434, R502). -/
def State.toService (s : State) : State :=
  (if s.partnered && s.pair.active then (s.dropClaim 0 true).standDown else s).changeTo Md.SERVICE

/-- An accepted request with RES OK. -/
def State.modeTake (s : State) (t : State → State) : Bool × State := (true, t (s.wr F.MODE_STAT_RES 1))

/-- A mode request (R501, R502): refused in the order unused code, BUSY, life cycle, no row, budget. DEDUCED, unsafe: log entry 108. -/
def State.modeRequest (s : State) (m : Nat) : Bool × State :=
  if 12 ≤ m then s.modeRefuse 5
  else if s.modeBusy then s.modeRefuse 4
  else if !s.modeAdmitted m then s.modeRefuse 2
  else if s.mode = Md.VAULT then (if s.pins.mainGood && s.pins.pfN then s.modeTake (fun t => t.wake t.tim.vault 1 0) else s.modeRefuse 5)
  else if m = Md.SERVICE && (isRole s.mode || s.mode = Md.PROVISION || s.mode = Md.STANDBY) then
    (if s.modeFits m then s.modeTake (fun t => t.toService) else s.modeRefuse 3)
  else if m = Md.PROVISION && s.mode = Md.SERVICE then (if s.modeFits m then s.modeTake (fun t => t.changeTo m) else s.modeRefuse 3)
  else if isRole m && m = s.roleMode && (s.mode = Md.SERVICE || s.mode = Md.PROVISION) then
    (if s.modeFits m then s.modeTake (fun t => t.startReset 4 4) else s.modeRefuse 3)
  else if m = Md.VAULT && (isRole s.mode || s.mode = Md.PROVISION || s.mode = Md.SERVICE || s.mode = Md.STANDBY) then s.modeTake (fun t => t.holdup true)
  else s.modeRefuse 5

/-- A write of MODE.REQ (R76, R502): refused while an override changes the mode. -/
def State.modeReqWrite (s : State) (m : Master) (v : Word) : State :=
  if bits v 31 16 != 0x30DE then s
  else if m != .smp && s.ovrHolds .mode then ((s.denyWrite m Cause.OWNER_DENY Pg.MODE 0x44).modeRefuse 4).2
  else (s.modeRequest (bits v 3 0)).2

/-- MODE_REQUEST (R502). -/
def execModeRequest (m : Master) (v : Word) (s : State) : Host.Outcome State Fault Refusal :=
  s.done (s.guarded m Pg.MODE 0x44 (fun s => s.modeReqWrite m v))

/-- The mode override runs (R75): done at once, in progress, refused, or ended by the reset that it asked for. -/
def State.ovrModeRun (s : State) (m : Nat) : State :=
  let s0 := { s with ovr := { s.ovr with running := some .mode, waitMode := none } }
  let r := s0.modeRequest m
  if !r.1 then r.2.ovrEnd .mode 2
  else if r.2.ovr.running != some .mode then r.2
  else if r.2.modeBusy then r.2.wr F.SMP_OVR_STAT_BUSY 1 else r.2.ovrDone .mode

/-- An override that waits for a host's change starts after it (R76). -/
def State.ovrSettle (s : State) : State :=
  match s.ovr.waitMode with
  | some m => if s.pwr.change.isSome then s else s.ovrModeRun m
  | none => s

/-- QUENCH_END (R390). -/
def execQuenchEnd (s : State) : Host.Outcome State Fault Refusal :=
  s.done (if s.mode = Md.HOLDUP && s.pwr.quench then s.quenchEnd.ovrSettle else s)

/-- HOLDUP_RETURN (R512): PF_N has stayed high for PF_RESTORE, and Quench has ended. -/
def execHoldupReturn (ms : BitVec 16) (s : State) : Host.Outcome State Fault Refusal :=
  s.done (if s.mode = Md.HOLDUP && !s.pwr.quench && !s.pwr.vaultReq && s.pins.mainGood && s.rst.seq.isNone && s.pwr.change.isNone then (s.holdupReturn ms.toNat).ovrSettle else s)

/-! ## Mains and OUTAGE (R501, R508) -/

/-- FPA or FPB goes down in OUTAGE once its ports have released their credits, if it holds no kept port (R508). DEDUCED, unsafe: log entry 114. -/
def State.outSettle (s : State) : State :=
  if s.mode != Md.OUTAGE then s
  else [Dom.FPB, Dom.FPA].foldl (fun (t : State) d =>
    if t.domPowered d && !t.halfKept d && t.ports.all (fun e : Nat × Port_ => portDom e.1 != d || e.2.bursts.isEmpty) then t.domOff d else t) s

/-- OUTAGE begins (R508, R509). DEDUCED, unsafe: log entry 114. -/
def State.outageEnter (s : State) : State :=
  let s1 := ((s.enter Md.OUTAGE).sat F.PWR_OUTAGE_CNT).ledgerAdd 31 1
  let s2 := ({ s1 with pwr := { s1.pwr with outLeft := s.mode } }).portsFollow.outReport 1
  (if s2.appMain then s2 else s2.domOff Dom.APP).outSettle

/-- MAINS_OK_FALL (R72, R88). -/
def execMainsOkFall (s : State) : Host.Outcome State Fault Refusal :=
  s.done (if !s.pins.mainsOk then s
    else
      let s1 := { s with pins := { s.pins with mainsOk := false }, pwr := { s.pwr with mainsEdge := s.raw } }
      if s.mode = Md.OFF then s1
      else ((if s.mode = Md.VAULT then s1 else s1.capture 2).raise Pg.PWR 0).alert 3)

/-- OUTAGE_ENTER (R501): MAINS_OK has been low for OUT_DELAY. -/
def execOutageEnter (s : State) : Host.Outcome State Fault Refusal :=
  s.done (if isRole s.mode && !s.pins.mainsOk && s.pins.pfN && s.on F.PWR_CTL_OUT_EN && s.pwr.change.isNone && s.rst.seq.isNone && s.modeAdmitted Md.OUTAGE then s.outageEnter.ovrSettle else s)

/-- MAINS_OK_RISE (R523). -/
def execMainsOkRise (s : State) : Host.Outcome State Fault Refusal :=
  s.done (if s.pins.mainsOk then s
    else
      let s1 := { s with pins := { s.pins with mainsOk := true }, pwr := { s.pwr with mainsEdge := s.raw } }
      if s.mode = Md.OFF then s1 else s1.raise Pg.PWR 1)

/-- OUTAGE_EXIT (R501, R508): MAINS_OK has been high for MAINS_DEB. -/
def execOutageExit (s : State) : Host.Outcome State Fault Refusal :=
  s.done (if s.mode = Md.OUTAGE && s.pins.mainsOk && s.pwr.change.isNone && s.rst.seq.isNone then (s.changeTo s.pwr.outLeft).ovrSettle else s)

/-! ## Domains (R504, R505, R517) -/

/-- A domain reset that was asked for (R517, R471, R554): refused where the domain is off, escalated for MEM, NVM and a SEC whose scan is open or was aborted, held for Bezel's discharge. -/
def State.domReset (s : State) (d by_ : Nat) : State :=
  let s1 := { s with rst := { s.rst with asked := s.rst.asked.filter (fun x => x.1 != d) } }
  if d = Dom.AON || !s.domPowered d then s1.ovrDom d 2
  else if d = Dom.MEM || d = Dom.NVM || (d = Dom.SEC && (s.on F.DBG_SCAN_OPEN || s.on F.DBG_SCAN_ABORTED)) then { s1 with rst := { s1.rst with memLost := s1.rst.memLost || d == Dom.MEM } }.startReset 4 3
  else if d = Dom.IOX then (let s2 := s.bezelStop; if s2.bezelBusy then s2 else { s2 with rst := s1.rst }.domResetStart d by_)
  else s1.domResetStart d by_

/-- DOMAIN_RESET (R517). -/
def execDomainReset (d : Fin 12) (s : State) : Host.Outcome State Fault Refusal :=
  s.done (match s.rst.asked.find? (fun x => x.1 == d.val) with
    | some x => (s.domReset d.val x.2).selfCheck
    | none => s)

/-- DOMAIN_READY (R504, R517). -/
def execDomainReady (d : Fin 12) (s : State) : Host.Outcome State Fault Refusal :=
  s.done (if s.pwr.ramping = some d.val then (s.domUp d.val).ovrSettle
    else if s.rst.inReset.any (fun x => x.1 == d.val) then s.domResetEnd d.val
    else s)

/-- A domain without power-good (R504): BOOT goes on and will end in SERVICE; a takeover gives up; any other entry fails with BUDGET, and the mode stays. DEDUCED, unsafe: log entry 109. -/
def State.domFault (s : State) (d : Nat) : State :=
  let s1 := ((s.wr F.ARB_DOM_USED (s.rd F.ARB_DOM_USED - domCredit d)).wr F.PWR_DOM_FAULT (s.rd F.PWR_DOM_FAULT ||| 2 ^ d)).raise Pg.PWR 3
  if s.mode = Md.BOOT then
    ({ s1 with pwr := { s1.pwr with ramping := none, domFailed := true, change := s1.pwr.change.map ModeChange.next } }).advance
  else
    let s2 := (({ s1 with pwr := { s1.pwr with ramping := none, change := none } }).wr F.MODE_STAT_RES 3).wr F.MODE_STAT_BUSY (b2n (s.mode == Md.HOLDUP))
    let s3 := if s2.ovr.running == some .mode then (({ s2 with ovr := {} }).wr F.SMP_OVR_STAT_LAST 2).wr F.SMP_OVR_STAT_BUSY 0 else s2
    if s.mode = Md.TAKEOVER then s3.giveUp 0 false else s3.powerDownTo (s3.modeDomains s3.mode)

/-- DOMAIN_FAULT (R504). -/
def execDomainFault (d : Fin 12) (s : State) : Host.Outcome State Fault Refusal :=
  s.done (if s.pwr.ramping = some d.val then (s.domFault d.val).ovrSettle else s)

/-- DOMAIN_CREDIT_GRANT (R505): the domain that waits gets its credit once it fits. -/
def execDomainCreditGrant (d : Fin 12) (s : State) : Host.Outcome State Fault Refusal :=
  s.done (match s.pwr.change with
    | some c => if s.pwr.ramping.isNone && c.todo.head? == some d.val && s.creditFits d.val then s.creditGive d.val else s
    | none => s)

/-! ## The end of BOOT (R442, R518) -/

/-- What the end of BOOT finds and tells (R418, R424, R438, R442, R516, R522, R535, R552). -/
def State.bootDone (s : State) (ms : Nat) : State :=
  let s1 := ((s.wr F.MODE_BOOT_MS ms).raise Pg.MODE 2)
  let s2 := if s1.ledger 27 = 0 then s1.setLedger 27 s1.date else s1
  let s3 := if s2.domOn Dom.IOX then s2.bezelLegal (hdrVersion (s2.running 2).head) else s2
  let slot := s3.pins.pairSel == 1 || s3.pins.pairSel == 2
  let s4 := if s3.partnered then s3 else s3.wr F.CLM_CTRL_STAT 2
  let s5 := if slot && !s3.partnered then s4.wr F.CLM_GIVEUP_CAUSE 64 else s4
  ({ s5 with
    rst := { s5.rst with wdtRun := true, wdtAt := s5.raw }
    pair := { s5.pair with stale := s5.rd F.MIR_STAT_SYNC != 3, rounds := 0, sawActive := false } }).wr F.MIR_STAT_SYNC 0

/-- A bundle's trial sees that its mode is reached (R491). -/
def State.trialReached (s : State) : State :=
  match s.upd.bundle with
  | some b => if isRole s.mode || s.mode = Md.STANDBY then { s with upd := { s.upd with bundle := some { b with reached := true } } } else s
  | none => s

/-- The main host that CFG.HOST_SEL names as BOOT ends (R63): APP at once, and with AUTO the choice stands open for 200 ms. -/
def State.hostChoice (s : State) : State :=
  let sel := s.rd F.CFG_HOST_SEL
  if sel = 2 then (if s.pwr.appHost then s else s.hostApp)
  else { s with pwr := { s.pwr with hostPend := sel != 1 && !s.pwr.appHost } }

/-- BOOT ends in its target (R518). -/
def State.bootEnd (s : State) (ms trained : Nat) : State :=
  let t := s.bootTarget trained
  let s1 := (s.bootDone ms).wr F.MODE_TGT t
  if t = Md.BOOT then ({ s1 with pwr := { s1.pwr with change := none } }).wr F.MODE_STAT_BUSY 0
  else
    let s1 := s1.hostChoice
    let s2 := if s.pwr.domFailed then s1.arrive t else s1.changeTo t
    let s3 := if s2.role = 2 && s2.working then s2.startWalk else s2
    s3.trialReached

/-- BOOT_END (R518), with the time BOOT took and how much of the fitted DRAM its training brought up. -/
def execBootEnd (ms : BitVec 16) (trainedMib : Nat) (s : State) : Host.Outcome State Fault Refusal :=
  s.done (if s.mode = Md.BOOT && s.pwr.ramping.isNone && s.pwr.change == some ⟨Md.BOOT, []⟩ then (s.bootEnd ms.toNat trainedMib).ovrSettle else s)

/-! ## The panel's supplies (R546, R553) -/

/-- PANEL_RAIL_STEP (R546). -/
def execPanelRailStep (s : State) : Host.Outcome State Fault Refusal :=
  s.done (if s.domOn Dom.IOX then s.railStep.holdupIox.resetGo else s)

/-- DISCHARGE_END (R553). -/
def execDischargeEnd (s : State) : Host.Outcome State Fault Refusal :=
  s.done (if s.domOn Dom.IOX then s.dischargeEnd.holdupIox.resetGo else s)

end Sys2Proof.Machine
end

