-- ==== Sys2Proof/Machine/Alarms.lean ====
section
/-!
DEFINITION. Tamper causes and clock faults (R469, R525).
-/
namespace Sys2Proof.Machine

/-- An enabled tamper cause (R469): every slot is zeroised, the cause is recorded in AON and in Patina, and a reset of cause SWF is asked for where the mode has one (R501). DEDUCED, unsafe: log entry 116. -/
def State.tamper (s : State) (c : Nat) : State :=
  if s.mode = Md.OFF || !(s.rd F.SEC_TAMPER_EN).testBit c then s
  else
    let s1 := s.zeroiseAll
    let s2 := ((s1.wr F.SEC_TAMPER_STAT (s1.rd F.SEC_TAMPER_STAT ||| 2 ^ c)).ledgerAdd 21 1).alert 6
    let s3 := if s.domOn Dom.SEC then s2.raise Pg.SEC 1 else s2
    if s3.mode = Md.VAULT then s3 else s3.startReset 4 1

/-- TAMPER (R469). -/
def execTamper (cause : Fin 6) (s : State) : Host.Outcome State Fault Refusal := s.done (s.tamper cause.val)

/-- REF_FAULT (R525): a measurement of the reference clock in 0.1 ppm. CLK.REF.OK follows REF_TOL; an error beyond ten times REF_TOL is tamper cause 3. DEDUCED, unsafe: log entry 116. -/
def State.refMeasured (s : State) (err : Int) : State :=
  let tol := s.rd F.CLK_REF_TOL * 10
  let s1 := (s.wr F.CLK_REF_ERR (err % 65536).toNat).wr F.CLK_REF_OK (b2n (decide (err.natAbs ≤ tol)))
  let s2 := if tol < err.natAbs then s1.raise Pg.CLK 0 else s1
  if 10 * tol < err.natAbs then s2.tamper 3 else s2

/-- REF_FAULT (R525). -/
def execRefFault (err : BitVec 16) (s : State) : Host.Outcome State Fault Refusal :=
  s.done (if s.mode = Md.OFF || s.mode = Md.VAULT then s else s.refMeasured err.toInt)

/-- LOCK_LOST (R525): the PLL of an island loses lock. -/
def execLockLost (i : Fin 14) (s : State) : Host.Outcome State Fault Refusal :=
  s.done (if (s.rd F.CLK_LOCK).testBit i.val then (s.wr F.CLK_LOCK (s.rd F.CLK_LOCK - 2 ^ i.val)).raise Pg.CLK 1 else s)

end Sys2Proof.Machine
end

