-- ==== Sys2Proof/Machine/Update.lean ====
section
/-!
DEFINITION. Field update (chapter 18): the check and store of images, their way down the chain and to nodes, bundles with their order, the step of each part, trial, fall-back and confirmation.
-/
namespace Sys2Proof.Machine

/-! ## Images (R477 to R479) -/

/-- PART and largest target (R476). -/
def partLimit (p : Nat) : Nat :=
  match p with
  | 1 => 262144 | 2 => 458752 | 3 => 1048576 | 4 => 33554432 | 5 => 2097152 | 8 => 16777216
  | _ => 0

/-- Walks a record stream (R478): the number of records and the target's length; none where a record is ill-formed or the stream does not end at a record's end. -/
def walkRecs : Nat → List Byte → Option (Nat × Nat)
  | _, [] => some (0, 0)
  | 0, _ => none
  | n + 1, b =>
    let op := field b 0 1
    let len := field b 1 3
    let data := if op = 2 || op = 3 then len else 0
    if b.length < 8 + data || len = 0 || op = 0 || 4 < op then none
    else (walkRecs n (b.drop (8 + data))).map (fun r => (r.1 + 1, r.2 + len))

/-- Builds a target from a base (R478); none where a record reaches beyond the base. -/
def buildRecs (base : List Byte) : Nat → List Byte → Option (List Byte)
  | _, [] => some []
  | 0, _ => none
  | n + 1, b =>
    let op := field b 0 1
    let len := field b 1 3
    let arg := field b 4 4
    let data := (b.drop 8).take len
    let piece := match op with
      | 1 => if arg + len ≤ base.length then some ((base.drop arg).take len) else none
      | 2 => if arg + len ≤ base.length then some (List.zipWith (fun x y => x + y) ((base.drop arg).take len) data) else none
      | 3 => some data
      | _ => some (List.replicate len (BitVec.ofNat 8 arg))
    match piece, buildRecs base n (b.drop (8 + (if op = 2 || op = 3 then len else 0))) with
    | some x, some r => some (x ++ r)
    | _, _ => none

/-- Has the image no base (FLAGS.FULL)? -/
def hdrFull (h : List Byte) : Bool := (field h 7 1).testBit 0

/-- MODEL of a header. -/
def hdrModel (h : List Byte) : Nat := field h 240 8

/-- PAYLOAD_LEN of a header. -/
def hdrPayload (h : List Byte) : Nat := field h 28 4

/-- BASE_DIGEST of a header. -/
def hdrBase (h : List Byte) : List Byte := (h.drop 32).take 48

/-- An image as its bytes. -/
def imageBytes (x : Image) : List Byte := x.head ++ x.sig ++ x.stream

/-- The image that bytes spell. -/
def imageOf (b : List Byte) : Image := { head := b.take 256, sig := (b.drop 256).take 96, stream := b.drop 352 }

/-- The first check of R479: MAGIC, FORMAT, and a target within its part's limit. -/
def imageFormed (x : Image) : Bool := x.head.length == 256 && field x.head 0 4 == 0x474B5644 && field x.head 4 2 == 1 && partLimit (hdrPart x.head) != 0 && decide (field x.head 20 4 ≤ partLimit (hdrPart x.head))

/-- The third check of R479: PAYLOAD_DIGEST, and the stream by R478. Only an image with a base may copy or add. -/
def imageStreamOk (x : Image) : Bool :=
  x.stream.length == hdrPayload x.head && Config.sha384 x.stream == (x.head.drop 128).take 48 &&
    walkRecs x.stream.length x.stream == some (field x.head 24 4, field x.head 20 4) &&
    (!hdrFull x.head || (buildRecs [] x.stream.length x.stream).isSome)

/-- The fused minimum SVN of a part (R494). -/
def State.svnMin (s : State) (p : Nat) : Nat := if 1 ≤ p && p ≤ 5 then s.fuses.svnMin / 64 ^ (p - 1) % 64 else 0

/-- The checks of R479 in order: 2 VERIFIED, 3 BAD_SIG, 4 BAD_FORMAT, 5 SVN_LOW. -/
def State.checkImage (s : State) (x : Image) : Nat × State :=
  if !imageFormed x then (4, s)
  else
    let (k, t) := s.invoke (if hdrPart x.head = 1 then 13 else 11) Mst.SEC true Use.ANCHOR
    match k with
    | none => (3, t)
    | some key =>
      if (x.head.drop 236).take 4 != keyId key || !Config.ecdsaVerify key x.head x.sig then (3, t)
      else if !imageStreamOk x then (4, t)
      else if hdrPart x.head != 8 && hdrSvn x.head < t.svnMin (hdrPart x.head) then (5, t)
      else (2, t)

/-! ## The store (R480) -/

/-- Bytes in the staging store. -/
def State.storeBytes (s : State) : Nat := (s.upd.store.map (fun e : Nat × Image => (imageBytes e.2).length)).sum

/-- The entry that holds an IMGID. -/
def State.storeEntry (s : State) (img : Nat) : Option Nat := (List.find? (fun e : Nat × Image => imgId e.2.head == img) s.upd.store).map (fun e => e.1)

/-- Stores a verified image (R480); one that is held already stays. Answers the result: 2 VERIFIED or 6 NO_SPACE. DEDUCED, unsafe: log entry 117. -/
def State.storeImage (s : State) (x : Image) : Nat × State :=
  if (s.storeEntry (imgId x.head)).isSome then (2, s)
  else
    match (List.range 16).find? (fun k => (SMap.find? s.upd.store k).isNone) with
    | none => (6, s)
    | some k =>
      if s.rdIn F.UPD_STORE_MIB 64 4096 * 1048576 < s.storeBytes + (imageBytes x).length then (6, s)
      else (2, ({ s with upd := { s.upd with store := SMap.set s.upd.store k x } }).updJournal 1 (hdrPart x.head) k (imgId x.head) (hdrVersion x.head))

/-- An entry leaves the store (R480), with its update entry. -/
def State.dropImage (s : State) (k : Nat) : State :=
  match SMap.find? s.upd.store k with
  | some x => ({ s with upd := { s.upd with store := SMap.erase s.upd.store k } }).updJournal 6 (hdrPart x.head) k (imgId x.head) (hdrVersion x.head)
  | none => s

/-- Older images of a part, and of a model for node images, leave the store (R480). -/
def State.dropOlder (s : State) (x : Image) : State :=
  ((s.upd.store.filter (fun e : Nat × Image => hdrPart e.2.head == hdrPart x.head && hdrModel e.2.head == hdrModel x.head && decide (hdrVersion e.2.head < hdrVersion x.head))).map (fun e => e.1)).foldl
    (fun (t : State) k => t.dropImage k) s

/-! ## The chain (R482, R483) -/

/-- The update header of R482. -/
def updHead (op img arg : Nat) : List Byte := be 1 op ++ be 3 0 ++ be 4 img ++ be 4 arg

/-- Sends an image to the next unit as CHUNK messages of at most 1 MiB (R482, R483). -/
def State.sendImage (s : State) (x : Image) : State :=
  let l := pieces 1048576 64 (imageBytes x)
  (l.mapIdx (fun i b => (i, b))).foldl (fun (t : State) (e : Nat × List Byte) =>
    t.sendMsg 1 (t.linkSelf 1 + 1) true false 7 1 e.2.length (updHead 1 (imgId x.head) (1048576 * e.1) ++ e.2)) s

/-- Forwards an image by one hop (R483): only a stored one, where CHN_DN is UP. -/
def State.forwardImage (s : State) (x : Image) : State :=
  if !s.linkIsUp 1 || s.role = 0 then s else ({ s with upd := { s.upd with fwd := some (imgId x.head) } }).sendImage x

/-- Does the unit below hold an image, as it last reported? -/
def State.heldBelow (s : State) (img : Nat) : Bool :=
  match SMap.find? s.upd.units (s.linkSelf 1 + 1) with
  | some (r, i, _) => r == 2 && i == img
  | none => false

/-- A newly stored image goes on by itself while AUTO_FWD is set (R483). -/
def State.autoForward (s : State) (x : Image) : State :=
  if s.on F.UPD_CTL_AUTO_FWD && !s.heldBelow (imgId x.head) then s.forwardImage x else s

/-- A RELAY reports to the HEAD (R482): STORED or STATUS. -/
def State.reportUp (s : State) (op img arg : Nat) : State := if s.role = 1 && s.linkIsUp 0 then s.toHead 7 0 (updHead op img arg) else s

/-- UPD.STAT as a word (R497). -/
def State.updStat (s : State) : Nat :=
  s.rd F.UPD_STAT_STATE + 16 * s.rd F.UPD_STAT_STEP + 256 * s.rd F.UPD_STAT_STEPS + 4096 * s.rd F.UPD_STAT_CFG_LOST + 65536 * s.rd F.UPD_STAT_RES

/-- STATE changes, and the HEAD is told (R483). -/
def State.setUpd (s : State) (st : Nat) : State := let t := s.wr F.UPD_STAT_STATE st; t.reportUp 4 0 t.updStat

/-- An image is checked and stored (R479, R480): the counters and the bit of a failure. Answers the result. -/
def State.takeImage (s : State) (b : List Byte) : Nat × State :=
  let x := imageOf b
  let (r, s1) := s.checkImage x
  if r != 2 then (r, (s1.sat F.UPD_VERIFY_FAIL).raise Pg.UPD 1)
  else
    let (q, s2) := (s1.wrap F.UPD_IMG_RX).storeImage x
    (q, if q = 2 then s2.autoForward x else s2)

/-- Is the store there to be written (R480)? -/
def State.updStore (s : State) : Bool := s.domOn Dom.NVM && s.domOn Dom.SEC && s.on F.IGT_STATE_READY && s.rd F.IGT_STATE_MODE != 5

/-- UPDATE_CHUNK (R482, R483): a RELAY gathers the image, and checks it once its last byte is there. -/
def State.updateChunk (s : State) (img ofs : Nat) (b : List Byte) : State :=
  let got := if ofs = 0 then some b
    else match s.upd.arriving with
      | some (i, l) => if i = img && l.length = ofs then some (l ++ b) else none
      | none => none
  match got with
  | none => s
  | some l =>
    if 352 ≤ l.length && 352 + hdrPayload (l.take 256) ≤ l.length then
      let (r, s1) := ({ s with upd := { s.upd with arriving := none } }).takeImage l
      s1.reportUp 2 img r
    else { s with upd := { s.upd with arriving := some (img, l) } }

/-- UPDATE_CHUNK (R483). -/
def execUpdateChunk (img ofs : Word) (bytes : List Byte) (s : State) : Host.Outcome State Fault Refusal :=
  s.done (if s.role = 1 && s.linkIsUp 0 && s.updStore then s.updateChunk img.toNat ofs.toNat bytes else s)

/-- A unit's latest report (R483). -/
def State.unitReport (s : State) (u : Nat) : Nat × Nat × Nat := SMap.getD s.upd.units u (0, 0, 0)

/-- UPDATE_STORED (R483): the HEAD shows it, and the sender above sees that its image has arrived. -/
def execUpdateStored (unit : BitVec 6) (img : Word) (res : BitVec 4) (s : State) : Host.Outcome State Fault Refusal :=
  s.done (if !s.linkIsUp 1 || s.role = 0 then s
    else
      let u := unit.toNat
      let s1 := { s with upd := { s.upd with
          units := SMap.set s.upd.units u (res.toNat, img.toNat, (s.unitReport u).2.2)
          fwd := if s.upd.fwd = some img.toNat && u = s.linkSelf 1 + 1 then none else s.upd.fwd } }
      if s.role = 2 then s1.raise Pg.UPD 6 else s1)

/-- IMAGE_RESEND (R483): no STORED within FWD_TO. -/
def execImageResend (s : State) : Host.Outcome State Fault Refusal :=
  s.done (match s.upd.fwd with
    | some img => (match (s.storeEntry img).bind (fun k => SMap.find? s.upd.store k) with
      | some x => s.forwardImage x
      | none => { s with upd := { s.upd with fwd := none } })
    | none => s)

/-! ## The host's image (R481) -/

/-- The end of the host's image: the checks and their outcome (R479, R481). -/
def State.loadCheck (s : State) (b : List Byte) : State :=
  let (r, s1) := ({ s with upd := { s.upd with load := [] } }).takeImage b
  let s2 := s1.wr F.UPD_LOAD_RES r
  (if r = 2 then s2.wr F.UPD_LOAD_ID (imgId (b.take 256)) else s2).raise Pg.UPD 0

/-- A write of UPD.LOAD_CTL (R481): the chunk in the named packet is taken, and the final one starts the checks. A cell that names no packet of a host context is IGNORED. DEDUCED, unsafe: log entry 117. -/
def State.loadCtlWrite (s : State) (v : Word) : State :=
  if !bit v 31 then s
  else
    let c := s.rd F.UPD_LOAD_CELL
    if !s.hostHeld c then s.wr F.UPD_LOAD_RES 8
    else if s.rd F.UPD_LOAD_OFS != s.upd.load.length then s.wr F.UPD_LOAD_RES 7
    else
      let b := s.upd.load ++ s.pktPayload c
      let s1 := ({ s with upd := { s.upd with load := b } }.releasePacket c).wr F.UPD_LOAD_RES 1
      if bit v 0 then (if s1.updStore then s1.loadCheck b else (({ s1 with upd := { s1.upd with load := [] } }).wr F.UPD_LOAD_RES 6).raise Pg.UPD 0) else s1

/-- IMAGE_CHUNK (R481). -/
def execImageChunk (m : Master) (v : Word) (s : State) : Host.Outcome State Fault Refusal :=
  s.done (s.guarded m Pg.UPD 0x4C (fun s => s.loadCtlWrite v))

/-- IMAGE_VERIFY (R479). -/
def execImageVerify (m : Master) (v : Word) (s : State) : Host.Outcome State Fault Refusal :=
  s.done (s.guarded m Pg.UPD 0x4C (fun s => s.loadCtlWrite v))

/-! ## Node images (R484, R485) -/

/-- Does the unit hold the CONTROL grant (R438)? -/
def State.ctrlGranted (s : State) : Bool := s.rd F.CLM_CTRL_STAT == 2

/-- The IMG_BLOCK item of a block (R484). -/
def State.imgBlock (s : State) (x : Image) (k : Nat) : List Byte :=
  let n := s.rdIn F.UPD_NODE_BLK 32 192
  let b := ((imageBytes x).drop (n * k)).take n
  be 1 0x10 ++ be 1 (8 + b.length) ++ be 4 (imgId x.head) ++ be 4 k ++ b

/-- The lowest transmit queue of a field port (R222) that takes packets. -/
def State.txQueue (s : State) (port : Nat) : Option Nat :=
  (List.range 1024).find? (fun q => 80 ≤ q && s.consumer q == 2 && s.rd (F.CRU_QCFG_IDX q) == port && s.queueOpen q)

/-- Sends a node the block it asks for, in a packet of its port's transmit queue: at PRIO 0, with a link acknowledgement and under application protection (R199, R484). A port without a transmit queue sends nothing, and the block times out. DEDUCED, unsafe: log entry 117. -/
def State.sendBlock (s : State) (x : Image) (n : NodePush) : State :=
  let y := s.nbr n.nbr
  match s.txQueue y.port with
  | some q => (s.internalPacket q y.flow (be 1 12 ++ be 7 0) (s.imgBlock x n.block)).2
  | none => s

/-- Changes the push's record of a node. -/
def State.setPush (s : State) (n : NodePush) : State :=
  { s with upd := { s.upd with nodes := s.upd.nodes.map (fun y : NodePush => if y.nbr = n.nbr then n else y) } }

/-- The nodes served now: on each port the first NODE_PAR (R485). -/
def State.servedNodes (s : State) : List NodePush :=
  (s.upd.nodes.mapIdx (fun i y => (i, y))).filterMap (fun e : Nat × NodePush =>
    let before := (s.upd.nodes.take e.1).filter (fun y : NodePush => (s.nbr y.nbr).port == (s.nbr e.2.nbr).port)
    if before.length < s.rdIn F.UPD_NODE_PAR 1 64 then some e.2 else none)

/-- Every served node without a block on its way gets the one it asks for; pushes wait for the CONTROL grant (R485). A push without nodes has ended. -/
def State.pushServe (s : State) : State :=
  match s.upd.push with
  | none => s
  | some x =>
    if s.upd.nodes.isEmpty then ({ s with upd := { s.upd with push := none, pushed := imgId x.head :: s.upd.pushed } }).dropOlder x
    else if !s.ctrlGranted || !s.working then s
    else (s.servedNodes.filter (fun y => !y.sent)).foldl (fun (t : State) y => (t.sendBlock x y).setPush { y with sent := true }) s

/-- A node leaves the push. -/
def State.endPush (s : State) (i : Nat) : State := { s with upd := { s.upd with nodes := s.upd.nodes.filter (fun y : NodePush => y.nbr != i) } }

/-- A node's IMG_STAT (R484, R485). -/
def State.imgStat (s : State) (i img next st : Nat) : State :=
  match s.upd.push, s.upd.nodes.find? (fun y => y.nbr == i) with
  | some x, some y =>
    if imgId x.head != img then s
    else
      match st with
      | 0 => (s.setPush { y with block := next, tries := if next = y.block then y.tries else 0, sent := next == 0xFFFFFFFF }).pushServe
      | 1 => (((s.sat F.UPD_NODE_DONE).raise Pg.UPD 5).endPush i).pushServe
      | 2 => ((s.sat F.UPD_NODE_FAIL).endPush i).pushServe
      | 3 => ((s.sat F.UPD_NODE_FAIL).endPush i).pushServe
      | _ => s
  | _, _ => s

/-- IMG_STAT (R485). -/
def execImgStat (nbr : BitVec 16) (img next : Word) (st : Byte) (s : State) : Host.Outcome State Fault Refusal :=
  s.done (s.imgStat nbr.toNat img.toNat next.toNat st.toNat)

/-- NODE_BLOCK_TIMEOUT (R485): the block is sent again, or after NODE_RETRY repetitions the node is dropped. -/
def execNodeBlockTimeout (nbr : BitVec 16) (s : State) : Host.Outcome State Fault Refusal :=
  s.done (match s.upd.push, s.upd.nodes.find? (fun y => y.nbr == nbr.toNat) with
    | some x, some y =>
      if !y.sent || !s.ctrlGranted then s
      else if s.rdIn F.UPD_NODE_RETRY 1 15 ≤ y.tries then ((s.sat F.UPD_NODE_FAIL).endPush y.nbr).pushServe
      else (s.setPush { y with tries := y.tries + 1 }).sendBlock x y
    | _, _ => s)

/-- A push starts (R484): the selected node image, and the entries listed in the packet that NODE_LIST names. -/
def State.nodePush (s : State) (x : Image) : State :=
  let c := s.rd F.UPD_NODE_LIST
  if hdrPart x.head != 8 || !s.hostHeld c || s.upd.push.isSome then s
  else
    let b := s.pktPayload c
    let l := (List.range (b.length / 2)).map (fun k => field b (2 * k) 2)
    ((({ s with upd := { s.upd with push := some x, nodes := l.eraseDups.map (fun i => ({ nbr := i } : NodePush)) } }).releasePacket c)).pushServe

/-- A write of UPD.IMG_CMD (R480, R483, R484): 1 DELETE, 2 FORWARD, 3 NODE_PUSH, on the entry in IMG_SEL. -/
def State.imgCmd (s : State) (v : Word) : State :=
  match SMap.find? s.upd.store (s.rd F.UPD_IMG_SEL) with
  | none => s
  | some x =>
    match bits v 1 0 with
    | 1 => s.dropImage (s.rd F.UPD_IMG_SEL)
    | 2 => s.forwardImage x
    | 3 => s.nodePush x
    | _ => s

/-- IMAGE_DELETE (R480). -/
def execImageDelete (m : Master) (v : Word) (s : State) : Host.Outcome State Fault Refusal :=
  s.done (s.guarded m Pg.UPD 0x68 (fun s => s.imgCmd v))

/-- IMAGE_FORWARD (R483). -/
def execImageForward (m : Master) (v : Word) (s : State) : Host.Outcome State Fault Refusal :=
  s.done (s.guarded m Pg.UPD 0x68 (fun s => s.imgCmd v))

/-- NODE_PUSH (R484). -/
def execNodePush (m : Master) (v : Word) (s : State) : Host.Outcome State Fault Refusal :=
  s.done (s.guarded m Pg.UPD 0x68 (fun s => s.imgCmd v))

/-! ## Bundles and their order (R486 to R488) -/

/-- The header in effect for a part once some images have been switched (R487). -/
def State.effHead (s : State) (on : List Image) (p : Nat) : List Byte :=
  match on.find? (fun x => hdrPart x.head == p) with
  | some x => x.head
  | none => ((s.part p).slot (s.part p).act).head

/-- Is the set of versions with some images switched compatible (R487)? -/
def State.compatible (s : State) (on : List Image) : Bool :=
  [1, 2, 3, 4, 5].all (fun p => [1, 2, 3, 4, 5].all (fun q => p == q || hdrAdmits (s.effHead on p) q (hdrVersion (s.effHead on q))))

/-- The preference ranks of R488. -/
def partRank (p : Nat) : Nat := [9, 4, 3, 1, 2, 0].getD p 9

/-- The orders of some images, the preferred ones first. -/
def orders : Nat → List Image → List (List Image)
  | 0, _ => [[]]
  | n + 1, l => if l.isEmpty then [[]] else l.flatMap (fun x => (orders n (l.filter (fun y => hdrPart y.head != hdrPart x.head))).map (fun o => x :: o))

/-- Is each set that an order reaches compatible (R488)? -/
def State.orderOk (s : State) (o : List Image) : Bool := (List.range o.length).all (fun k => s.compatible (o.take (k + 1)))

/-- The order that the unit takes (R488). -/
def State.pickOrder (s : State) (l : List Image) : Option (List Image) :=
  let sorted := [5, 3, 4, 2, 1].flatMap (fun p => l.filter (fun x => hdrPart x.head == p))
  (orders sorted.length sorted).find? (fun o => s.orderOk o)

/-- UPD.ORDER (R488). -/
def orderWord (o : List Image) : Nat := ((o.mapIdx (fun k x => hdrPart x.head * 16 ^ k))).sum

/-- Are some images at most one per part, of the parts 1 to 5? -/
def isBundle (l : List Image) : Bool :=
  !l.isEmpty && l.all (fun x => 1 ≤ hdrPart x.head && hdrPart x.head ≤ 5) && l.all (fun x => (l.filter (fun y => hdrPart y.head == hdrPart x.head)).length == 1)

/-- Does an image apply against its part's active slot (R486)? -/
def State.baseMatches (s : State) (x : Image) : Bool := hdrFull x.head || hdrBase x.head == ((s.part (hdrPart x.head)).slot (s.part (hdrPart x.head)).act).digest

/-- A refused bundle (R486): 2 NO_ORDER, 3 BASE_MISMATCH, 4 NOT_GRANTED, 9 BUSY, 10 PRECOND. -/
def State.updRefuse (s : State) (r : Nat) : State := s.wr F.UPD_STAT_RES r

/-- The step of a bundle's next part begins (R489 step 1): its target slot is WRITING. -/
def State.beginStep (s : State) (x : Option Image) : State :=
  match x with
  | some x => (let p := hdrPart x.head; let y := s.part p; s.setPart p (y.put y.other { y.slot y.other with st := 1 }))
  | none => s

/-- A bundle starts (R486, R488); a standby that runs its pair's bundle needs no grant (R496). DEDUCED, unsafe: log entry 118. -/
def State.applyBundle (s : State) (l : List Image) (grant : Bool) : State :=
  let st := s.rd F.UPD_STAT_STATE
  if 1 ≤ st && st ≤ 5 then s.updRefuse 9
  else if grant && !s.ctrlGranted then s.updRefuse 4
  else if (s.mode != s.roleMode && s.mode != Md.STANDBY) || !s.on F.LIFE_STAT_DONE || !isBundle l then s.updRefuse 10
  else if l.any (fun x => !s.baseMatches x) then s.updRefuse 3
  else
    match s.pickOrder l with
    | none => s.updRefuse 2
    | some o =>
      let s1 := { s with upd := { s.upd with bundle := some { images := o } } }
      (((((s1.wr F.UPD_STAT_STEP 0).wr F.UPD_STAT_STEPS o.length).wr F.UPD_STAT_RES 0).wr F.UPD_ORDER (orderWord o)).beginStep o.head?).setUpd 1

/-- The images of a list of IMGIDs; none where one is not in the store. -/
def State.imagesOf (s : State) : List Nat → Option (List Image)
  | [] => some []
  | i :: l => match (s.storeEntry i).bind (fun k => SMap.find? s.upd.store k), s.imagesOf l with
    | some x, some r => some (x :: r)
    | _, _ => none

/-- The bundle that UPD.BUNDLE selects. -/
def State.selected (s : State) : List Image := (s.upd.store.filter (fun e : Nat × Image => (s.rd F.UPD_BUNDLE).testBit e.1)).map (fun e => e.2)

/-- The pair order (R496 step 1): on the active unit with an eligible, synchronised standby; the PAIR_APPLY entries name the images, each with the number still to come. DEDUCED, unsafe: log entry 118. -/
def State.pairApply (s : State) (l : List Image) : State :=
  let st := s.rd F.UPD_STAT_STATE
  let ready := s.on F.MIR_STAT_PARTNER_HB && (match s.pair.hb with | some h => h.flags.testBit 0 && h.flags.testBit 3 | none => false)
  if (1 ≤ st && st ≤ 5) || s.upd.pairWait.isSome then s.updRefuse 9
  else if !s.ctrlGranted then s.updRefuse 4
  else if !(s.partnered && s.pair.active) || s.mode != s.roleMode || !s.on F.LIFE_STAT_DONE || !ready || !isBundle l then s.updRefuse 10
  else if l.any (fun x => !s.baseMatches x) then s.updRefuse 3
  else if (s.pickOrder l).isNone then s.updRefuse 2
  else
    let s1 := (l.mapIdx (fun i x => (i, x))).foldl (fun (t : State) (e : Nat × Image) => t.updJournal 7 (hdrPart e.2.head) (l.length - 1 - e.1) (imgId e.2.head) (hdrVersion e.2.head)) s
    ({ s1 with upd := { s1.upd with pairWait := some (l.map (fun x : Image => imgId x.head)) } }).wr F.UPD_STAT_RES 0

/-- A write of UPD.APPLY (R486, R496). -/
def State.applyWrite (s : State) (v : Word) : State :=
  if bits v 31 16 != 0xA9B1 || !bit v 0 then s
  else if bit v 1 then s.pairApply s.selected
  else s.applyBundle s.selected true

/-- BUNDLE_APPLY (R486). -/
def execBundleApply (m : Master) (v : Word) (s : State) : Host.Outcome State Fault Refusal :=
  s.done (s.guarded m Pg.UPD 0x70 (fun s => s.applyWrite v))

/-- UPDATE_APPLY (R483): from address 0, it acts as a local APPLY. -/
def execUpdateApply (imgs : List Word) (s : State) : Host.Outcome State Fault Refusal :=
  s.done (if s.role = 1 && s.linkIsUp 0 then (match s.imagesOf (imgs.map (fun w => w.toNat)) with
      | some l => s.applyBundle l true
      | none => s.updRefuse 10)
    else s)

/-! ## The steps (R489 to R491) -/

/-- Changes the bundle. -/
def State.setBundle (s : State) (b : Option Bundle) : State := { s with upd := { s.upd with bundle := b } }

/-- What a fall-back leaves when nothing is left to revert (R492). -/
def State.fellBack (s : State) : State := ((s.setBundle none).setUpd 6).raise Pg.UPD 4

/-- A fall-back starts (R492) with a result: 6 TRIAL_FAIL, 7 CONFIRM_TIMEOUT, 8 REJECTED, and 5 DIGEST_FAIL where parts were switched before. -/
def State.fallBack (s : State) (b : Bundle) (res : Nat) : State :=
  let n := b.step + b2n b.built
  let s1 := ((s.sat F.UPD_FALLBACKS).wr F.UPD_STAT_RES res).setBundle (some { b with back := n })
  if n = 0 then s1.fellBack else s1.setUpd 5

/-- A target that does not verify ends the bundle with DIGEST_FAIL (R489): parts switched before are reverted. DEDUCED, unsafe: log entry 118. -/
def State.digestFail (s : State) (b : Bundle) : State :=
  if b.step = 0 then ((s.wr F.UPD_STAT_RES 5).setBundle none).setUpd 0 else s.fallBack b 5

/-- The configuration image in force is copied to the format reserve, and the legal partition to its own, before a step that changes the format (R493). -/
def State.formatReserve (s : State) (x : Image) : State :=
  if hdrPart x.head = 4 && hdrFmt x.head != s.rd F.CFG_FMT_CUR then
    (match s.cfgPick (s.rd F.CFG_FMT_CUR) with
      | some (c, _) => ({ s with cfg := { s.cfg with reserve := some c } }).wr F.CFG_FMT_OLD (s.rd F.CFG_FMT_CUR)
      | none => s)
  else if hdrPart x.head = 2 && hdrFmt x.head != hdrFmt (s.running 2).head then
    { s with lgl := { s.lgl with reserve := some { gen := s.rd F.LGL_LGEN, image := s.lgl.image, good := true, fmt := hdrFmt (s.running 2).head } } }
  else s

/-- Steps 1 to 4 of R489 for the part whose turn it is: the target is built into the slot not active, verified, and marked NEXT; a wrong digest ends the bundle. -/
def State.buildPart (s : State) (b : Bundle) (x : Image) (readbackOk : Bool) : State :=
  let p := hdrPart x.head
  let y := (s.formatReserve x).part p
  let base := if hdrFull x.head then [] else (y.slot y.act).data
  match buildRecs base x.stream.length x.stream with
  | some t =>
    if readbackOk && (Config.sha384 t ++ be 48 0).take 48 == hdrTarget x.head then
      let s1 := (s.formatReserve x).setPart p { y.put y.other { st := 2, head := x.head, sig := x.sig, data := t } with trials := 0 }
      ((s1.setBundle (some { b with built := true, reached := false, bad := false })).updJournal 2 p y.other (imgId x.head) (hdrVersion x.head)).setUpd 2
    else (s.setPart p (y.put y.other { st := 6, head := x.head, sig := x.sig, data := t })).digestFail b
  | none => (s.setPart p (y.put y.other { st := 6, head := x.head, sig := x.sig, data := [] })).digestFail b

/-- PART_BUILT (R489). -/
def execPartBuilt (readbackOk : Bool) (s : State) : Host.Outcome State Fault Refusal :=
  s.done (match s.upd.bundle with
    | some b => if s.rd F.UPD_STAT_STATE = 1 && !b.built && s.updStore then
        (match b.images[b.step]? with
          | some x => s.buildPart b x readbackOk
          | none => s)
      else s
    | none => s)

/-- Is the reset window open (R490)? -/
def State.resetWindow (s : State) : Bool :=
  let m := s.gridNow
  let a := s.minTime (s.fileStart m)
  let b := s.minTime (s.fileStart m + s.fileLen m)
  let g := s.rdIn F.UPD_GUARD 0 300 * 1000000000
  decide (a + g ≤ s.now) && decide (s.now + g ≤ b) && s.rd F.HLM_STAT_PEND == 0 && s.cfg.job.isNone && !s.on F.LGL_STAT_COMMIT_BUSY && !s.on F.TAR_CLOSE_STAT_BUSY &&
    (s.mode == s.roleMode || s.mode == Md.STANDBY)

/-- UPDATE_RESET (R490): the unit resets with cause SWF, for the update. -/
def execUpdateReset (s : State) : Host.Outcome State Fault Refusal :=
  s.done (if s.rd F.UPD_STAT_STATE = 2 && s.resetWindow then s.startReset 4 2 else s)

/-- Is every enabled port UP, as MODEM microcode in trial must bring about (R491)? -/
def State.portsUp (s : State) : Bool := (List.range 64).all (fun n => !s.portRuns n || s.rd (F.FP_FSL_STAT_STATE n) == 2)

/-- Has the part in trial done well so far (R491)? -/
def State.trialWell (s : State) (b : Bundle) : Bool := b.reached && !b.bad && ((b.images[b.step]?.map (fun x => hdrPart x.head)) != some 5 || s.portsUp)

/-- A part passes its trial (R491): the next step starts, or the bundle awaits confirmation. -/
def State.trialPass (s : State) (b : Bundle) : State :=
  let s1 := match b.images[b.step]? with
    | some x => s.updJournal 3 (hdrPart x.head) (s.part (hdrPart x.head)).other (imgId x.head) (hdrVersion x.head)
    | none => s
  let s2 := ((s1.setBundle (some { b with step := b.step + 1, built := false, reached := false })).wr F.UPD_STAT_STEP (b.step + 1)).raise Pg.UPD 2
  if b.images.length ≤ b.step + 1 then (s2.setUpd 4).raise Pg.UPD 3 else (s2.beginStep b.images[b.step + 1]?).setUpd 1

/-- TRIAL_PASS (R491). -/
def execTrialPass (s : State) : Host.Outcome State Fault Refusal :=
  s.done (match s.upd.bundle with
    | some b => if s.rd F.UPD_STAT_STATE = 3 && s.trialWell b then s.trialPass b else s
    | none => s)

/-- TRIAL_FAIL (R491, R492). -/
def execTrialFail (s : State) : Host.Outcome State Fault Refusal :=
  s.done (match s.upd.bundle with
    | some b => if s.rd F.UPD_STAT_STATE = 3 && !s.trialWell b then s.fallBack b 6 else s
    | none => s)

/-! ## Fall-back and confirmation (R492, R494) -/

/-- Reverts one part (R492): its new slot FAILED, its old one ACTIVE. -/
def State.revertPart (s : State) (x : Image) : State :=
  let p := hdrPart x.head
  let y := s.part p
  let z := (y.put y.other { y.slot y.other with st := 6 })
  (s.setPart p { z.put z.act { z.slot z.act with st := 4 } with trials := 0 }).updJournal 5 p y.other (imgId x.head) (hdrVersion x.head)

/-- FALLBACK_STEP (R492): in reverse order, one per reset, in the window of R490. -/
def execFallbackStep (s : State) : Host.Outcome State Fault Refusal :=
  s.done (match s.upd.bundle with
    | some b => if s.rd F.UPD_STAT_STATE = 5 && s.resetWindow && 0 < b.back then
        let s1 := match b.images[b.back - 1]? with
          | some x => s.revertPart x
          | none => s
        let s2 := s1.setBundle (some { b with back := b.back - 1 })
        (if b.back = 1 then s2.fellBack else s2).startReset 4 2
      else s
    | none => s)

/-- The fused minimum of a part rises to an SVN (R494); fuses only rise. -/
def State.raiseSvn (s : State) (p svn : Nat) : State :=
  if 1 ≤ p && p ≤ 5 && s.svnMin p < svn then { s with fuses := { s.fuses with svnMin := s.fuses.svnMin + (svn - s.svnMin p) * 64 ^ (p - 1) } } else s

/-- A part is confirmed (R494): its TRIAL slot becomes ACTIVE, and the predecessor OLD. -/
def State.confirmPart (s : State) (x : Image) : State :=
  let p := hdrPart x.head
  let y := s.part p
  let j := y.other
  let z := (y.put j { y.slot j with st := 4 }).put y.act { y.slot y.act with st := 5 }
  (((s.setPart p { z with act := j, trials := 0 }).raiseSvn p (hdrSvn x.head)).updJournal 4 p j (imgId x.head) (hdrVersion x.head)).dropOlder x

/-- CONFIRM (R494): the reserves are released too. -/
def State.confirmBundle (s : State) (b : Bundle) : State :=
  let s1 := b.images.foldl (fun (t : State) x => t.confirmPart x) s
  let s2 := ({ s1 with cfg := { s1.cfg with reserve := none }, lgl := { s1.lgl with reserve := none } }).wr F.CFG_FMT_OLD 0
  ((s2.setBundle none).wr F.UPD_STAT_RES 1).setUpd 0

/-- A write of UPD.CONFIRM (R492, R494): GO in AWAIT_CONFIRM, REJECT while the bundle is not yet falling back. -/
def State.confirmWrite (s : State) (v : Word) : State :=
  if bits v 31 16 != 0xC0F1 then s
  else
    match s.upd.bundle with
    | none => s
    | some b =>
      let st := s.rd F.UPD_STAT_STATE
      if bit v 1 then (if 1 ≤ st && st ≤ 4 then s.fallBack b 8 else s)
      else if bit v 0 && st = 4 then s.confirmBundle b
      else s

/-- UPDATE_CONFIRM (R494). -/
def execUpdateConfirm (m : Master) (v : Word) (s : State) : Host.Outcome State Fault Refusal :=
  s.done (s.guarded m Pg.UPD 0x74 (fun s => s.confirmWrite v))

/-- UPDATE_REJECT (R492). -/
def execUpdateReject (m : Master) (v : Word) (s : State) : Host.Outcome State Fault Refusal :=
  s.done (s.guarded m Pg.UPD 0x74 (fun s => s.confirmWrite v))

/-- CONFIRM_TIMEOUT (R492). -/
def execConfirmTimeout (s : State) : Host.Outcome State Fault Refusal :=
  s.done (match s.upd.bundle with
    | some b => if s.rd F.UPD_STAT_STATE = 4 && s.rd F.UPD_CONFIRM_TO != 0 then s.fallBack b 7 else s
    | none => s)

end Sys2Proof.Machine
end

