-- ==== Sys2Proof/Machine/Items.lean ====
section
/-!
DEFINITION. The item task of a frame (R244): what task code does with the items that are neither readings nor node times (R259).
-/
namespace Sys2Proof.Machine

/-- Was a frame received straight from its originator, or on a SUN port (R363)? -/
def State.directFrame (s : State) (c : Chain) : Bool := c.node == some c.txNbr || (s.port c.port).pers == 2

/-- Task code handles one item: a phase item goes to Touchstone with the packet's STAMP (R363), an image status to the push it answers (R484). Items of other types have no effect that the spec gives. DESIGN CHOICE, unsafe: log entry 127. -/
def State.takeItem (s : State) (c : Chain) (stamp : Nat) (e : Nat × List Byte) : State :=
  match c.node with
  | none => s
  | some n =>
    if e.1 = 0x03 && e.2.length = 6 then s.phaseItem n (field e.2 0 4) (field e.2 4 1) stamp (s.directFrame c)
    else if e.1 = 0x11 && e.2.length = 9 then s.imgStat n (field e.2 0 4) (field e.2 4 4) (field e.2 8 1)
    else s

/-- The item task completes (R244): every item in order, then the task ends OK; a poisoned packet ends it (R230). DESIGN CHOICE, unsafe: log entry 127. -/
def State.itemTask (s : State) (i : Nat) (d : Desc) : State :=
  if s.taskPoison d then s.taskEnd i .poison 0
  else
    let c := s.chain d.chain
    (c.others.foldl (fun (t : State) e => t.takeItem c d.stamp e) s).taskEnd i .ok 0

/-- ITEM_TASK (R244). -/
def execItemTask (d : Fin 16384) (s : State) : Host.Outcome State Fault Refusal :=
  s.done (match s.runningTask d.val 9 with
    | some x => if s.isItemTask d.val x then s.itemTask d.val x else s
    | none => s)

end Sys2Proof.Machine
end

