-- ==== Sys2Proof/Machine/SelfTest.lean ====
section
/-!
DEFINITION. Periodic self-test (R527 to R533): slices, skips, verdicts, retests and full runs.
-/
namespace Sys2Proof.Machine

/-! ## Choosing a unit (R528, R531, R533) -/

/-- Do slices run in the present state (R528)? A period in which BOUNDARY drains or seals are pending is postponed. -/
def State.pstRuns (s : State) : Bool :=
  (s.on F.PST_CTL_EN || s.pst.full.isSome) && s.domOn Dom.IOX && (isRole s.mode || s.mode == Md.STANDBY || s.mode == Md.SERVICE) && !s.dead &&
    s.pwr.change.isNone && s.pst.slice.isNone && s.rd F.PLN_BND_STAT_OUT == 0 && s.rd F.HLM_STAT_PEND == 0

/-- May a unit be taken out of service now: is its domain on? -/
def State.pstReach (s : State) (u : Nat) : Bool := s.domOn (unitDomain u)

/-- Does the normal order visit a unit (R528)? -/
def State.pstVisits (s : State) (u : Nat) : Bool := s.pstReach u && !s.pstMasked u && (s.pstUnit u).st == 0

/-- The next unit: of a full run its own next one, else a retest, else the normal order from PST.NEXT on. DEDUCED, unsafe: log entry 119. -/
def State.pstNext (s : State) : Option Nat :=
  match s.pst.full with
  | some (u :: _, _) => some u
  | _ =>
    match (List.range 107).find? (fun u => (s.pstUnit u).retest && s.pstReach u) with
    | some u => some u
    | none => ((List.range 107).map (fun j => (s.rd F.PST_NEXT + j) % 107)).find? (fun u => s.pstVisits u)

/-! ## Isolation (R527, R529) -/

/-- Does a beacon slot or a slot of the port's own connections begin within 3 ms? -/
def State.sunSlotNear (s : State) (n : Nat) : Bool :=
  let e := s.sunEc n + 1
  decide ((s.sun n).es ≤ s.sunOffset n + 3000) && (isBeaconSlot e || (s.sun n).conns.any (fun c : Nat × Conn => c.2.owns e))

/-- Is a modem's silent window open? A port that is disabled or whose link is not UP needs none. -/
def State.silentOpen (s : State) (n : Nat) : Bool :=
  let p := s.port n
  !s.on (F.FP_CTL_EN n) || !s.linkUp n ||
    (p.bursts.isEmpty && p.rxStamp.isNone && p.hdr.isNone && !p.energy &&
      (if p.pers = 2 then !s.sunSlotNear n
       else p.tx.isNone && p.mac.isEmpty && p.routeHeld.isEmpty && !p.beaconDue && (s.queuesOf 2 n).isEmpty))

/-- Is the unit of a slice isolated: the bank held for self-test, the executor empty, the silent window open? -/
def State.pstIsolated (s : State) (x : PstSlice) : Bool :=
  if x.unit < 16 then s.cru.isolated == some x.unit
  else match unitLane x.unit with
    | some e => s.inFlight e == 0
    | none => x.silent || s.silentOpen (x.unit - 43)

/-- A unit that cannot be isolated is skipped; the third skip in a row moves the sequencer on (R529). In a full run a unit passed over counts as not passed. -/
def State.pstSkip (s : State) (u : Nat) : State :=
  let x := s.pstUnit u
  let s1 := ({ s with pst := { s.pst with slice := none } }).sat F.PST_SKIPS
  if x.skips < 2 then s1.setPstUnit u { x with skips := x.skips + 1 }
  else
    let s2 := s1.setPstUnit u { x with skips := 0, retest := false }
    match s2.pst.full with
    | some (l, _) =>
      let rest := l.filter (fun v => v != u)
      if rest.isEmpty then ((({ s2 with pst := { s2.pst with full := none } }).wr F.PST_FULL_CTL_BUSY 0).wr F.PST_FULL_CTL_RES 2).raise Pg.PST 2
      else { s2 with pst := { s2.pst with full := some (rest, false) } }
    | none => if x.retest then s2 else s2.wr F.PST_NEXT ((u + 1) % 107)

/-- A slice starts on a unit: a bank drains, an executor's enable bit clears, a modem waits for its silent window. DEDUCED, unsafe: log entry 119. -/
def State.pstStart (s : State) (u : Nat) : State :=
  let s1 := { s with pst := { s.pst with slice := some ⟨u, decide (43 ≤ u) && s.silentOpen (u - 43)⟩ } }
  if u < 16 then
    let s2 := s1.drainGo u
    if s2.cru.drain = some u then s2 else s2.pstSkip u
  else if u < 43 then s1.unitHold u
  else s1

/-- PST_SLICE (R528): PST.PERIOD has passed. -/
def execPstSlice (s : State) : Host.Outcome State Fault Refusal :=
  s.done (if s.pstRuns then (match s.pstNext with | some u => s.pstStart u | none => s) else s)

/-- PST_ISOLATION_TIMEOUT (R529): ISO_WAIT or DRAIN_TO has passed, and the unit of the slice is not isolated. -/
def execPstIsolationTimeout (s : State) : Host.Outcome State Fault Refusal :=
  s.done (match s.pst.slice with
    | none => s
    | some x => if s.pstIsolated x then s else (s.pstSkip x.unit).unitReturn x.unit)

/-! ## Verdicts (R530, R531, R533) -/

/-- Has the standby a unit that has failed since its last pass (R425)? -/
def State.pairFailed (s : State) : State :=
  { s with pair := { s.pair with failedSlice := s.pst.units.any (fun e : Nat × PstUnit => e.2.failed) } }

/-- A unit passes: it returns to service, and AGE restarts. One kept out or FAULTY returns to normal only by a retest or a reset of its domain (R531), not by a full run that passes it. -/
def State.pstPass (s : State) (u : Nat) : State :=
  let x := s.pstUnit u
  (if x.st = 0 || x.retest then (s.unitFree u).setPstUnit u { st := 0, last := 1, passAt := some s.ledgerTime }
    else s.setPstUnit u { x with last := 1, skips := 0, passAt := some s.ledgerTime }).pairFailed

/-- Is a failed slice of a unit give-up cause PST (R434)? -/
def unitCritical (u : Nat) : Bool := unitDomain u == Dom.PKT || unitDomain u == Dom.TSK || u == 38

/-- A unit fails: logged, counted and reported; a first failure asks for a retest, a second keeps the unit out or marks it FAULTY. -/
def State.pstFail (s : State) (u : Nat) (code : Nat) : State :=
  let x := s.pstUnit u
  let s1 := (((((s.sat F.PST_FAILS).wr F.PST_FAIL_LOG_VALID 1).wr F.PST_FAIL_LOG_CODE code).wr F.PST_FAIL_LOG_UNIT u).ledgerAdd 24 1).raise Pg.PST 0
  let s2 := (s1.alert 7).trialSees (unitDomain u)
  let s3 := { s2 with pair := { s2.pair with found := if unitCritical u && s2.pair.active then s2.pair.found ||| 4 else s2.pair.found } }
  let spare := 16 ≤ u && (u < 38 || 43 ≤ u)
  let y := { s3.pstUnit u with last := 2, skips := 0, failed := true }
  let out := { y with held := spare || y.held }
  let again := x.failed || x.st != 0
  let s4 :=
    if !again then s3.setPstUnit u { out with retest := true }
    else if spare then ((s3.setPstUnit u { out with st := 1, retest := false }).pstShow).raise Pg.PST 1
    else ((s3.setPstUnit u { y with st := 2, retest := false }).unitFree u).raise Pg.PST 1
  (if 43 ≤ u then s4.portsFollow else s4).pairFailed

/-- A bank's failing cells are retired, and it reopens (R231, R530). DEDUCED, unsafe: log entry 121. -/
def State.bankTested (s : State) (k : Nat) (bad : List Nat) : State :=
  ((bad.filter (fun c => c % 16 == k)).foldl (fun (t : State) c => t.retireCell c) s).drainRelease

/-- A slice of a full run is over: with no unit left the run ends, and a PASS stamps the last-service date (R533, R535). DEDUCED, unsafe: log entry 120. -/
def State.fullNext (s : State) (u : Nat) (pass : Bool) : State :=
  match s.pst.full with
  | none => s
  | some (l, ok) =>
    let rest := l.filter (fun v => v != u)
    let good := ok && pass
    if !rest.isEmpty then { s with pst := { s.pst with full := some (rest, good) } }
    else
      let s1 := ((({ s with pst := { s.pst with full := none } }).wr F.PST_FULL_CTL_BUSY 0).wr F.PST_FULL_CTL_RES (if good then 1 else 2)).raise Pg.PST 2
      if good then s1.setLedger 29 s1.date else s1

/-- A slice ends with a verdict: of a bank its retired cells decide (R530). -/
def State.pstEnd (s : State) (u : Nat) (ok : Bool) (code : Nat) (bad : List Nat) : State :=
  let ordered := !(s.pstUnit u).retest && s.pst.full.isNone
  let s1 := (({ s with pst := { s.pst with slice := none } }).wrap F.PST_SLICES).ledgerAdd 23 1
  let s2 := if u < 16 then s1.bankTested u bad else s1
  let pass := if u < 16 then decide ((s2.retired.filter (fun c => c % 16 == u)).length ≤ s2.rdIn F.PST_CRU_RET_MAX 1 255) else ok
  let s3 := if pass then (s2.pstPass u).pstShow else s2.pstFail u code
  let s4 := if ordered then s3.wr F.PST_NEXT ((u + 1) % 107) else s3
  ((s4.fullNext u pass).pstCoverage).selfCheck

/-- PST_SLICE_END (R530): the test of the isolated unit is over, with its verdict, the step that failed and, of a bank, its failing cells. -/
def execPstSliceEnd (ok : Bool) (code : Byte) (bad : List (BitVec 16)) (s : State) : Host.Outcome State Fault Refusal :=
  s.done (match s.pst.slice with
    | none => s
    | some x => if s.pstIsolated x then s.pstEnd x.unit ok code.toNat (bad.map (fun c => c.toNat)) else s)

/-! ## Commands (R531, R533) -/

/-- PST.UNIT_CMD: RETEST tests the unit in UNIT_SEL at the next period. -/
def State.pstCmdWrite (s : State) (v : Word) : State :=
  if bit v 0 then
    let u := min 106 (s.rd F.PST_UNIT_SEL)
    s.setPstUnit u { s.pstUnit u with retest := true }
  else s

/-- PST.FULL_CTL: GO tests every powered unit, in SERVICE only; during a run it is ignored. DEDUCED, unsafe: log entry 120. -/
def State.fullCtlWrite (s : State) (v : Word) : State :=
  if !bit v 0 || s.pst.full.isSome then s
  else if s.mode != Md.SERVICE then s.wr F.PST_FULL_CTL_RES 3
  else
    let l := (List.range 107).filter (fun u => s.pstReach u)
    (({ s with pst := { s.pst with full := some (l, true) } }).wr F.PST_FULL_CTL_BUSY 1).wr F.PST_FULL_CTL_RES 0

/-- PST_RETEST (R531). -/
def execPstRetest (m : Master) (v : Word) (s : State) : Host.Outcome State Fault Refusal :=
  s.done (s.guarded m Pg.PST 0x98 (fun s => s.pstCmdWrite v))

/-- PST_FULL_RUN (R533). -/
def execPstFullRun (m : Master) (v : Word) (s : State) : Host.Outcome State Fault Refusal :=
  s.done (s.guarded m Pg.PST 0x9C (fun s => s.fullCtlWrite v))

end Sys2Proof.Machine
end

