-- ==== Sys2Proof/Machine/Pair.lean ====
section
/-!
DEFINITION. The redundant pair (chapter 16): the mirror link, heartbeats and health, shipping and applying records, synchronisation and eligibility, claim rounds, taking over, giving up, the CONTROL grant and planned handover.
-/
namespace Sys2Proof.Machine

/-! ## Standing (R418, R424 to R426) -/

/-- Is the unit the standby of a pair: partnered, in STANDBY, not active? -/
def State.isStandby (s : State) : Bool := s.partnered && s.mode == Md.STANDBY && !s.pair.active

/-- Is the unit the active one of a pair? -/
def State.isActive (s : State) : Bool := s.partnered && s.pair.active

/-- The partner's TOP as MIR shows it. -/
def State.mirTop (s : State) : Nat := s.rd64 F.MIR_TOP_LO F.MIR_TOP_HI

/-- The eligibility of a standby (R425): synchronised, no slice failed, the store writable; while the link is DOWN it keeps the value it had. The checkpoints' images are the state itself, so PRELOAD asks for nothing more. -/
def State.eligible (s : State) : Bool :=
  if s.pair.linkLost then s.on F.MIR_STAT_ELIG && !s.pair.soloTo
  else s.isStandby && s.rd F.MIR_STAT_SYNC == 3 && !s.pair.failedSlice && 1 ≤ s.rd F.IGT_STATE_MODE && s.rd F.IGT_STATE_MODE ≤ 3 && !s.pair.givenUp && !s.pair.barred

/-- The priority that the unit claims (R418, R426, R435, R442). -/
def State.claimPrio (s : State) : Nat :=
  if s.pair.givenUp || s.pair.barred then 0
  else if s.pair.active then s.rdIn F.CLM_PRIO_ACT 8 14
  else if s.mode != Md.STANDBY then 0
  else if s.pair.rounds < 3 then 0
  else if s.on F.MIR_STAT_ELIG then s.rdIn F.CLM_PRIO_SBY 2 7
  else if s.pair.sawActive then 0
  else if s.pair.stale then 1 else s.rdIn F.CLM_PRIO_SBY 2 7

/-- The claim number for the next round (R426). A unit without a partner claims as the active unit (R118). -/
def State.ownClaim (s : State) : Nat :=
  let p := if s.partnered then s.claimPrio else s.rdIn F.CLM_PRIO_ACT 8 14
  if p = 0 then 0 else p * 4096 + s.rd F.CLM_EPOCH

/-- CLM.CLAIM shows the claim for the next round. -/
def State.claimSync (s : State) : State := s.wr F.CLM_CLAIM s.ownClaim

/-- APPLIED of a standby, its lag, its SYNC state and its eligibility are brought up to date (R424, R425). -/
def State.syncUpdate (s : State) : State :=
  if !s.isStandby then s
  else
    let s1 := s.wr64 F.MIR_APPLIED_LO F.MIR_APPLIED_HI s.jrn.seq
    let behind := decide (s1.jrn.seq < s1.mirTop)
    let from_ := if behind then some (s1.pair.lagFrom.getD s1.raw) else none
    let lag := match from_ with | some c => min (2 ^ 24 - 1) ((s1.raw - c) / 250) | none => 0
    let s2 := ({ s1 with pair := { s1.pair with lagFrom := from_ } }).wr F.MIR_LAG lag
    let st := s2.rd F.MIR_STAT_SYNC
    let s3 := if st = 2 then s2.wr F.MIR_COPY_PM (if behind then 1000 * s2.jrn.seq / max 1 s2.mirTop else 1000) else s2
    let s4 := if (st = 1 || st = 2) && !behind && s3.on F.MIR_STAT_PARTNER_HB && s3.linkIsUp 2 then (s3.wr F.MIR_STAT_SYNC 3).raise Pg.MIR 4
      else if st = 3 && s3.rd F.MIR_SYNC_LAG < lag then s3.wr F.MIR_STAT_SYNC 1 else s3
    s4.wr F.MIR_STAT_ELIG (b2n s4.eligible)

/-- Straps that conflict (R418): the unit gives up and claims 0 until its next BOOT. -/
def State.pairConflict (s : State) : State :=
  if s.on F.MIR_STAT_PAIR_CFG then s
  else
    let s1 := (s.wr F.MIR_STAT_PAIR_CFG 1).raise Pg.MIR 7
    let s2 := { s1 with pair := { s1.pair with barred := true } }
    if s2.canGiveUp then s2.giveUp 128 false else (s2.claimDown 128 false).wr F.MIR_STAT_ELIG 0

/-! ## Shipping (R420, R421, R424) -/

/-- Sends bytes on the mirror link as frames of a type, from FIRST to LAST (R420). -/
def State.mirSend (s : State) (typ : Nat) (b : List Byte) : State :=
  let k := s.linkMtu 2 - 36
  let l := pieces k (b.length + 1) b
  (l.mapIdx (fun i p => (i, p))).foldl (fun (t : State) (e : Nat × List Byte) =>
    t.linkSend 2 { typ := typ, flags := 64 * b2n (e.1 == 0) + 32 * b2n (e.1 + 1 == l.length), src := t.linkSelf 2, dst := 1 - t.linkSelf 2, frag := e.1, body := e.2 }) s

/-- Ships an AU with the sequence of the MAP record that maps it (R421). DESIGN CHOICE, unsafe: log entry 104. -/
def State.shipAu (s : State) (log phys seq : Nat) : State :=
  match SMap.find? s.nand.aus phys with
  | some a => s.mirSend 10 (be 4 log ++ be 4 0 ++ be 8 seq ++ a.data)
  | none => s

/-- Ships a journal record, after the AUs that it maps (R420, R421). -/
def State.shipRec (s : State) (r : JRec) : State :=
  let s1 := if r.kind = 11 && r.own then (mapPairs r.body).foldl (fun (t : State) (e : Nat × Nat) => t.shipAu e.1 e.2 r.seq) s else s
  ((s1.mirSend 9 r.bytes).wrap F.MIR_TX_REC)

/-- The active unit ships what it has appended since (R420). -/
def State.ship (s : State) : State :=
  if !s.isActive || !s.linkIsUp 2 then s
  else
    let l := s.journalRecs.filter (fun j => decide (s.pair.shipped < j.seq))
    let t := l.foldl (fun (t : State) r => t.shipRec r) s
    { t with pair := { t.pair with shipped := s.jrn.seq } }

/-- Does the active unit still hold every record from a sequence on (R424)? -/
def State.holdsFrom (s : State) (seq : Nat) : Bool :=
  match s.journalRecs with
  | [] => decide (s.jrn.seq < seq)
  | j :: _ => decide (j.seq ≤ seq)

/-- Ships from a sequence on, or everything: every mapped AU, and the journal from its release horizon (R424). -/
def State.shipFrom (s : State) (seq : Nat) : State :=
  if s.holdsFrom seq then ({ s with pair := { s.pair with shipped := seq - 1 } }).ship
  else
    let s1 := s.nand.map.foldl (fun (t : State) (e : Nat × Nat) => t.shipAu e.1 e.2 0) s
    (({ s1 with pair := { s1.pair with shipped := (s1.journalRecs.head?.map (fun j : JRec => j.seq - 1)).getD s1.jrn.seq } }).ship).wr F.MIR_COPY_PM 1000

/-- SYNC_REQ (R424). -/
def execSyncReq (seq : BitVec 64) (s : State) : Host.Outcome State Fault Refusal :=
  s.done (if s.isActive && s.linkIsUp 2 then s.shipFrom seq.toNat else s)

/-! ## Synchronising (R424, R439) -/

/-- The standby asks for the records above its APPLIED. DESIGN CHOICE, unsafe: log entry 104. -/
def State.syncReqSend (s : State) : State := s.mirSend 11 (be 8 (s.jrn.seq + 1))

/-- Everything the unit holds is discarded (R439): the journal, the stores and what its records made. DEDUCED, unsafe: log entry 107. -/
def State.discardAll (s : State) : State :=
  { s with
    jrn := {}
    nand := { s.nand with map := [], dirty := [], stored := [], aus := [], flush := none }
    prf := {}
    hlm := {}
    tch := {}
    tar := {}
    gate := { s.gate with nbr := [], saved := [], portRsv := [], portSeq := [] }
    lgl := { s.lgl with events := [], sinceAck := 0 }
    pair := { s.pair with stores := [], behind := [] } }

/-- A standby begins to synchronise (R424, R439): records above the fork point are counted and everything is discarded; else INCREMENTAL while the active unit holds what is missing. -/
def State.syncStart (s : State) (held : Bool) : State :=
  let full := fun (t : State) => ((t.wr F.MIR_STAT_SYNC 2).sat F.MIR_FULL_COPIES).wr F.MIR_COPY_PM 0
  let s1 := match s.pair.fork with
    | some f =>
      if f < s.jrn.seq then full (((s.discardAll).addSat F.MIR_FORK_DROP (s.jrn.seq - f)).raise Pg.MIR 6)
      else if held then s.wr F.MIR_STAT_SYNC 1 else full s
    | none => if held then s.wr F.MIR_STAT_SYNC 1 else full s
  ({ s1 with pair := { s1.pair with fork := none, lagFrom := none, stores := [], behind := [] } }).syncReqSend.syncUpdate

/-- MIR_LINK_UP (R419, R424). -/
def execMirLinkUp (held : Bool) (fork : Option (BitVec 64)) (s : State) : Host.Outcome State Fault Refusal :=
  s.done (if !s.linkUsed 2 || s.linkIsUp 2 then s
    else
      let s1 := (s.serialUp 2).raise Pg.MIR 0
      let s2 := { s1 with pair := { s1.pair with linkLost := false, soloTo := false, fork := match fork with | some f => some f.toNat | none => s1.pair.fork } }
      if s2.isStandby && !s2.pair.givenUp && !s2.pair.barred then s2.syncStart held else s2)

/-- MIR_LINK_DOWN (R401, R419, R425): eligibility keeps its value. -/
def execMirLinkDown (s : State) : Host.Outcome State Fault Refusal :=
  s.done (if s.linkIsUp 2 then
      let s1 := ((s.serialDown 2).wr F.MIR_STAT_LINK (if s.linkUsed 2 then 1 else 0)).sat F.MIR_LINK_DOWN_CNT
      ({ s1 with pair := { s1.pair with linkLost := true, soloTo := false } }).raise Pg.MIR 1
    else s)

/-- The active unit goes on alone (R440): the link DOWN for SOLO_TO, and the partner's ELIG 0 in two valid frames in a row. -/
def State.soloCheck (s : State) : State :=
  if s.isActive && s.pair.soloTo && !s.linkIsUp 2 && 2 ≤ s.pair.partnerOut && !s.on F.MIR_STAT_SOLO then ((s.wr F.MIR_STAT_SOLO 1).raise Pg.MIR 3).flushAcks else s

/-- SOLO_TIMEOUT (R424, R425, R440). -/
def execSoloTimeout (s : State) : Host.Outcome State Fault Refusal :=
  s.done (if !s.partnered || s.linkIsUp 2 then s
    else
      let s1 := { s with pair := { s.pair with soloTo := true } }
      if s1.pair.active then s1.soloCheck else (s1.wr F.MIR_STAT_SYNC 0).wr F.MIR_STAT_ELIG 0)

/-- A standby that is synchronised runs the bundle that its pair's entries name (R496). -/
def State.pairRun (s : State) : State :=
  match s.upd.pairNext with
  | some l =>
    if s.isStandby && s.rd F.MIR_STAT_SYNC = 3 && !s.pair.givenUp then
      let s1 := { s with upd := { s.upd with pairNext := none } }
      (match s1.imagesOf l with
        | some x => s1.applyBundle x false
        | none => s1.updRefuse 10)
    else s
  | none => s

/-! ## Applying (R420, R421) -/

/-- May a record be applied, no transfer that it or an earlier one names being unprogrammed (R421)? -/
def State.canApply (s : State) (seq : Nat) : Bool := s.pair.stores.all (fun x => x.seq == 0 || decide (seq < x.seq))

/-- Applies the records that wait, as far as transfers allow. -/
def State.applyBehind (s : State) : Nat → State
  | 0 => s
  | n + 1 =>
    match s.pair.behind with
    | [] => s
    | (r, c) :: l => if s.canApply r.seq then (({ s with pair := { s.pair with behind := l } }).applyJ r c).applyBehind n else s

/-- The sequence up to which the standby has received. -/
def State.receivedTo (s : State) : Nat := (s.pair.behind.getLast?.map (fun x => x.1.seq)).getD s.jrn.seq

/-- A record arrives at the standby (R420): in sequence, without gaps; a gap means that the active unit ships from its release horizon (R424). -/
def State.jrecRx (s : State) (j : JRec) (c : Carried) : State :=
  let gap := decide (s.receivedTo + 1 < j.seq)
  let st := s.rd F.MIR_STAT_SYNC
  if j.seq ≤ s.receivedTo || st = 0 || (gap && st = 3) then s
  else if !s.jrnRoom then s.sat F.IGT_JRNL_WAIT
  else
    let s1 := if gap && st = 1 then ((s.wr F.MIR_STAT_SYNC 2).sat F.MIR_FULL_COPIES).wr F.MIR_COPY_PM 0 else s
    let s2 := { s1 with pair := { s1.pair with behind := s1.pair.behind ++ [(j, c)] } }
    (s2.applyBehind s2.pair.behind.length).igtSync.syncUpdate

/-- The fork point that a TAKEOVER entry tells (R434): noted by a unit that has given up, and so does not apply it. -/
def State.noteFork (s : State) (j : JRec) : State :=
  if j.kind = 10 && field j.body 0 1 == 0x50 && field j.body 1 1 == 2 then { s with pair := { s.pair with fork := some (field j.body 5 8) } } else s

/-- JREC (R420). -/
def execJrec (seq : BitVec 64) (kind : Fin 16) (isLocal : Bool) (body : List Byte) (carried : Carried) (s : State) : Host.Outcome State Fault Refusal :=
  s.done (let j : JRec := { seq := seq.toNat, kind := kind.val, isLocal := isLocal, body := body }
    if !s.isStandby || !s.linkIsUp 2 || !jrnKind kind.val then s
    else if s.pair.givenUp || s.pair.barred then s.noteFork j
    else (s.jrecRx j carried).pairRun)

/-- The standby programs a shipped AU under a MAP record of its own, which takes no sequence of the pair's journal (R421). DEDUCED, unsafe: log entry 101. -/
def State.storeProgram (s : State) (log phys : Nat) (data : List Byte) : State :=
  ((s.auProgram phys log data).journalRec 11 true (mapBody [(log, phys)])).mapSet log phys

/-- STORE (R421): programmed, or kept until an erased AU takes it; the records behind it then go on. -/
def execStore (logical phys : BitVec 32) (data : List Byte) (seq : BitVec 64) (s : State) : Host.Outcome State Fault Refusal :=
  s.done (if !s.isStandby || !s.linkIsUp 2 || s.pair.givenUp || s.pair.barred || s.rd F.MIR_STAT_SYNC = 0 then s
    else
      let x : StoreXfer := ⟨logical.toNat, data, seq.toNat⟩
      let rest := s.pair.stores.filter (fun y => !(y.logical == x.logical && y.seq == x.seq))
      if s.igtWrites && s.auErased phys.toNat then
        let s1 := ({ s with pair := { s.pair with stores := rest } }).storeProgram logical.toNat phys.toNat data
        (s1.applyBehind s1.pair.behind.length).igtSync.syncUpdate.pairRun
      else { s with pair := { s.pair with stores := rest ++ [x] } })

/-! ## Heartbeats (R418, R422) -/

/-- The body of this unit's HEARTBEAT (R422). -/
def State.heartbeatBody (s : State) : List Byte :=
  let flags := b2n (s.on F.MIR_STAT_ELIG) + 2 * b2n (s.rd F.CLM_CTRL_STAT == 2) + 4 * b2n s.pair.givenUp + 8 * b2n (s.isStandby && s.rd F.MIR_STAT_SYNC == 3)
  be 2 s.ownClaim ++ be 1 s.mode ++ be 1 flags ++ be 8 s.raw ++ be 8 s.jrn.seq ++ be 8 (if s.pair.active then 0 else s.jrn.seq) ++
    be 2 (s.rd F.CLM_EPOCH) ++ be 1 (s.pins.pairSel.toNat + 4 * s.pins.roleSel.toNat) ++ be 1 0

/-- HEARTBEAT_SEND (R422). Self-diagnosis comes first, and what is not yet shipped goes before it. -/
def execHeartbeatSend (s : State) : Host.Outcome State Fault Refusal :=
  s.done (if s.partnered && s.linkIsUp 2 then
      let s1 := (s.selfCheck.syncUpdate).ship
      s1.mirSend 8 s1.heartbeatBody
    else s)

/-- The heartbeat that a body holds. -/
def heartbeatOf (b : List Byte) : Heartbeat :=
  { claim := field b 0 2, mode := field b 2 1, flags := field b 3 1, top := field b 12 8, applied := field b 20 8, epoch := field b 28 2 % 4096 }

/-- A unit that has given up re-enters contention (R439), unless its straps conflict (R418). -/
def State.rejoin (s : State) : State :=
  if !s.isStandby || !(s.pair.givenUp || s.pair.barred) || s.on F.MIR_STAT_PAIR_CFG then s
  else
    let s1 := { s with pair := { s.pair with givenUp := false, barred := false, rounds := 0, sawActive := false, stale := s.rd F.MIR_STAT_SYNC != 3 } }
    if s1.linkIsUp 2 then s1.syncStart true else s1.wr F.MIR_STAT_SYNC 0

/-- Ends a planned handover (R441, step 5): the HANDOVER entry that the partner has applied stands for the entry of the give-up, so F equals TOP. In a pair order the unit rejoins by itself, to run the bundle (R496). DEDUCED, unsafe: log entry 106. -/
def State.handoverEnd (s : State) : State :=
  let s1 := ((((s.claimDown 0 true).wr F.CLM_STAT_HO_FAIL 0).raise Pg.CLM 7).ethPause.standDown).changeTo Md.STANDBY
  match s1.upd.pairWait with
  | some l => ({ s1 with upd := { s1.upd with pairWait := none, pairNext := some l } }).rejoin
  | none => s1

/-- The handover's entry has been applied (R441)? -/
def State.handoverCheck (s : State) : State :=
  if s.pair.handover == some .waiting && s.mirApplied = s.jrn.seq then s.handoverEnd else s

/-- What a valid heartbeat of the partner brings (R420, R422, R426, R440). -/
def State.heartbeatRx (s : State) (h : Heartbeat) : State :=
  let was := match s.pair.hb with | some x => s.on F.MIR_STAT_PARTNER_HB && 8 ≤ x.claim / 4096 | none => false
  let s1 := ((({ s with pair := { s.pair with hb := some h } }).wr F.MIR_STAT_PARTNER_HB 1).wr64 F.MIR_TOP_LO F.MIR_TOP_HI h.top).wr F.CLM_EPOCH (max (s.rd F.CLM_EPOCH) h.epoch)
  if s1.isActive then
    let s2 := s1.wr64 F.MIR_APPLIED_LO F.MIR_APPLIED_HI h.applied
    let s3 := if h.flags.testBit 3 then s2.wr F.MIR_STAT_SOLO 0 else s2
    s3.flushAcks.handoverCheck
  else if s1.isStandby && !s1.pair.givenUp && !was && 8 ≤ h.claim / 4096 && s1.rd F.MIR_STAT_SYNC != 0 && s1.rd F.MIR_STAT_SYNC != 3 then s1.syncUpdate.syncReqSend
  else s1.syncUpdate

/-- A verified HEARTBEAT (R418, R422). -/
def State.beatRx (s : State) (src : Nat) (body : List Byte) : State :=
  if !s.partnered || !s.linkIsUp 2 || body.length != 32 then s
  else if src = s.linkSelf 2 || field body 30 1 / 4 % 4 != s.role then s.pairConflict
  else ((s.heartbeatRx (heartbeatOf body)).claimSync).pairRun

/-- HEARTBEAT (R418, R422): a complete verified frame. -/
def execHeartbeat (src : Byte) (body : List Byte) (s : State) : Host.Outcome State Fault Refusal := s.done (s.beatRx src.toNat body)

/-- PARTNER_LOST (R422). -/
def execPartnerLost (s : State) : Host.Outcome State Fault Refusal :=
  s.done (if s.on F.MIR_STAT_PARTNER_HB then ((s.wr F.MIR_STAT_PARTNER_HB 0).sat F.MIR_HB_MISS).raise Pg.MIR 2 else s)

/-- A LINKCTL frame (R399); on the mirror link it also shows the sender's slot (R418), and what waits to be shipped goes on. -/
def State.linkctlRx (s : State) (l src ack c0 c1 : Nat) : State :=
  if !s.linkIsUp l then s
  else if l = 2 && src = s.linkSelf 2 then s.pairConflict
  else s.linkCtl l ack c0 c1

/-- LINKCTL (R399). -/
def execLinkctl (l : Fin 3) (src : Byte) (ack : BitVec 32) (c0 c1 : BitVec 16) (s : State) : Host.Outcome State Fault Refusal :=
  s.done (s.linkctlRx l.val src.toNat ack.toNat c0.toNat c1.toNat)

/-! ## Health (R423) -/

/-- The active unit latches a HEALTH report (R423). -/
def State.healthRx (s : State) (body : List Byte) : State :=
  if s.isActive && s.linkIsUp 2 && body.length = 32 then
    ((List.range 8).foldl (fun (t : State) w => t.wr (F.MIR_HEALTH w) (field body (4 * w) 4)) s).raise Pg.MIR 5
  else s

/-- HEALTH (R423). -/
def execHealth (body : List Byte) (s : State) : Host.Outcome State Fault Refusal := s.done (s.healthRx body)

/-- The standby's HEALTH report (R423). -/
def State.healthBody (s : State) : List Byte :=
  let spare := 1000 * s.rd F.IGT_SPARE_NOW / max 1 s.pins.nand.blocks
  be 2 (s.rd F.PST_COVERAGE) ++ be 2 (s.rd F.PST_FAILS) ++ be 1 (s.rd F.LDG_TJ) ++ be 1 (s.rd F.IGT_STATE_MODE) ++ be 2 spare ++ be 8 s.jrn.seq ++ be 4 (s.rd F.MIR_LAG) ++
    be 4 (min (s.ledger 26) (2 ^ 32 - 1)) ++ be 1 (b2n (s.on F.MIR_STAT_ELIG) + 2 * b2n (s.on F.MIR_CTL_PRELOAD) + 4 * b2n (s.rd F.IGT_CAP_STAT_RESULT == 2)) ++ be 7 0

/-! ## A frame arrives (R398, R419) -/

/-- A verified frame of the mirror link acts (R419, R422 to R424): the records and AUs that JREC and STORE frames bring act as the commands that carry them whole. -/
def State.mirFrameActs (s : State) (f : LinkFrame) : State :=
  match f.typ with
  | 1 => s.linkctlRx 2 f.src (field f.body 0 4) (field f.body 4 2) (field f.body 6 2)
  | 8 => s.beatRx f.src f.body
  | 11 => if s.isActive then s.shipFrom (field f.body 0 8) else s
  | 12 => s.healthRx f.body
  | _ => s

/-- CHN_FRAME_RX (R398, R419): a frame arrives on a link. -/
def execChnFrameRx (l : Fin 3) (bytes : List Byte) (s : State) : Host.Outcome State Fault Refusal :=
  s.done (if !s.linkIsUp l.val then s
    else match s.linkRx l.val bytes with
      | (some f, t) => if l.val = 2 then t.mirFrameActs f else t.frameActs l.val (field bytes 4 4) f
      | (none, t) => t)

/-- HEALTH_SEND (R423). -/
def execHealthSend (s : State) : Host.Outcome State Fault Refusal :=
  s.done (if s.isStandby && s.linkIsUp 2 then (let t := s.syncUpdate; t.mirSend 12 t.healthBody) else s)

/-! ## Claim rounds (R428 to R430, R435, R440, R442) -/

/-- This unit's pair slot as bit 17 names it: A is 1. -/
def State.slotBit (s : State) : Nat := if s.pins.pairSel = 2 then 0 else 1

/-- Does this unit win against the partner's claim (R428)? A tie goes to slot A. -/
def State.beats (s : State) (own : Nat) : Option Nat → Bool
  | none => true
  | some c => decide (c < own) || (c == own && s.slotBit == 1)

/-- What WIN changes (R430, R444): the bits and the alert; a lost round revokes the CONTROL grant. -/
def State.winChange (s : State) (win : Bool) : State :=
  let was := s.on F.CLM_WIN_STAT_WIN
  let s1 := s.wr F.CLM_WIN_STAT_WIN (b2n win)
  if win && !was then (s1.raise Pg.CLM 0).alert 4
  else if !win && was then ((s1.raise Pg.CLM 1).alert 4).wr F.CLM_CTRL_STAT 0
  else s1

/-- Outputs are issued only after a round won with a priority of 8 or above (R430); the claim-arbitrated pins are then driven at their journaled levels (R432). -/
def State.issueChange (s : State) (go : Bool) : State :=
  ({ s with pair := { s.pair with issuing := go } }).gpioFollow s

/-- Does the claim bus bear out a standby that won (R435)? -/
def State.winIsSound (s : State) (own : Nat) : Bool :=
  match s.pair.hb with
  | some h => !s.on F.MIR_STAT_PARTNER_HB || decide (h.claim < own)
  | none => true

/-- The bus is faulty (R430, R435). -/
def State.busFault (s : State) : State := (s.sat F.CLM_BUS_FAULT).raise Pg.CLM 5

/-- A takeover starts (R436, steps 1 to 6): TAKEOVER, the fork point, the epoch, the entry, the claim; the domains power up, and Gate and Touchstone restart on what the journal holds. -/
def State.takeOver (s : State) : State :=
  let f := s.jrn.seq
  let e := s.rd F.CLM_EPOCH
  let s1 := (s.enter Md.TAKEOVER).sat F.CLM_TAKEOVERS
  let s2 := if e < 4095 then s1.wr F.CLM_EPOCH (e + 1) else s1
  let s3 := if 4095 ≤ e + 1 then s2.wr F.CLM_STAT_EPOCH_SAT 1 else s2
  let s4 := { s3 with pair := { s3.pair with active := true, stores := [], behind := [], lagFrom := none, shipped := f, found := 0 } }
  let s5 := (((s4.pairEntry 2 0 f).wr F.MIR_STAT_ELIG 0).wr F.MIR_LAG 0).wr64 F.MIR_APPLIED_LO F.MIR_APPLIED_HI 0
  (s5.gateRestore.tchRestart).changeTo s5.roleMode

/-- A valid frame (R428, R429): the winning claim and slot, ROUND, the partner's ELIG, and what the unit does about it. -/
def State.frameValid (s : State) (own : Nat) (partner : Option Nat) (pround : Nat) : State :=
  let win := s.beats own partner
  let claim := if win then own else partner.getD 0
  let slot := if win then s.slotBit else 1 - s.slotBit
  let round := if win then (s.rd F.CLM_WIN_STAT_ROUND + 1) % 64 else pround
  let eligOwn := b2n (own != 0)
  let eligOther := b2n (partner.getD 0 != 0)
  let elig := if s.slotBit = 1 then eligOwn + 2 * eligOther else eligOther + 2 * eligOwn
  let s1 := ((((s.wr F.CLM_WIN_STAT_CLAIM claim).wr F.CLM_WIN_STAT_SLOT slot).wr F.CLM_WIN_STAT_ROUND round).wr F.CLM_WIN_STAT_ELIG elig).wrap F.CLM_ROUNDS
  let s2 := { s1 with pair := { s1.pair with
      rounds := min 3 (s1.pair.rounds + b2n (s1.mode == Md.STANDBY)), sawActive := s1.pair.sawActive || decide (8 ≤ claim / 4096)
      partnerOut := if eligOther = 0 then min 2 (s1.pair.partnerOut + 1) else 0 } }
  let s3 := ((s2.winChange win).issueChange (win && 8 ≤ claim / 4096)).soloCheck
  if win && own != 0 && s3.isStandby then
    (if s3.winIsSound own then s3.takeOver else ({ s3 with pair := { s3.pair with barred := true } }).busFault)
  else s3

/-- Uncorrectable DRAM errors are counted (R434): GIVEUP_UE_N of them within 1 s are a cause of a give-up. -/
def State.dramErrors (s : State) (n : Nat) : State :=
  let l := s.pair.ueAt.filter (fun c => decide (s.raw < c + 250000000)) ++ List.replicate n s.raw
  { s with pair := { s.pair with
      ueAt := l, found := if n != 0 && s.pair.active && s.rdIn F.CLM_GIVEUP_UE_N 1 255 ≤ l.length then s.pair.found ||| 1 else s.pair.found } }

/-- A round of a pair (R428 to R430): a line held low makes the frame invalid, and a wrong CRC changes nothing else. DEDUCED, unsafe: log entry 103. -/
def State.claimRound (s : State) (partner : Option Nat) (pround : Nat) (crcOk stuck : Bool) (dramUe : Nat) : State :=
  let s1 := (s.dramErrors dramUe).selfCheck.syncUpdate
  let s2 := if stuck then s1.busFault.issueChange false
    else if !crcOk then s1.sat F.CLM_CRC_ERR
    else s1.frameValid s1.ownClaim partner pround
  s2.claimSync.srcRounds

/-- A round of a unit without a partner (R118): it wins with its own claim, and ROUND advances; the CLM page shows it while UPL is on. -/
def State.soloRound (s : State) : State :=
  let k := (s.pair.soloRound + 1) % 64
  let s1 := ({ s with pair := { s.pair with soloRound := k } }).srcRounds
  if !s.domOn Dom.UPL then s1
  else ((((s1.wr F.CLM_WIN_STAT_CLAIM s1.ownClaim).wr F.CLM_WIN_STAT_WIN 1).wr F.CLM_WIN_STAT_ROUND k).wrap F.CLM_ROUNDS).claimSync

/-- CLAIM_ROUND (R428). A pair unit whose UPL domain is off takes no part. -/
def execClaimRound (partner : Option (BitVec 16)) (pround : BitVec 6) (crcOk stuck : Bool) (dramUe : Byte) (s : State) : Host.Outcome State Fault Refusal :=
  s.done (if s.dead || s.mode = Md.OFF || s.mode = Md.VAULT || (s.partnered && !s.domOn Dom.UPL) then s
    else if s.partnered then s.claimRound (partner.map (fun c => c.toNat)) pround.toNat crcOk stuck dramUe.toNat
    else s.soloRound)

/-- TAKEOVER_READY (R436, step 7): the state load ends, and the role mode begins. -/
def execTakeoverReady (s : State) : Host.Outcome State Fault Refusal :=
  s.done (if s.mode = Md.TAKEOVER && s.pwr.ramping.isNone && s.pwr.change == some ⟨s.roleMode, []⟩ then
      (let t := s.arrive s.roleMode
       (if t.role = 2 then t.startWalk else t).ovrSettle)
    else s)

/-! ## CLM.CTL (R434, R439, R441) -/

/-- A planned handover starts (R441): popping stops, and the sources are back-pressured. DEDUCED, unsafe: log entry 106. -/
def State.handoverStart (s : State) : State :=
  if s.canGiveUp && s.pair.handover.isNone && isRole s.mode then (({ s with pair := { s.pair with handover := some .draining } }).wr F.CLM_STAT_HO_FAIL 0).ethPause else s

/-- A write of CLM.CTL (R76, R444): refused while an override gives up. -/
def State.clmCtlWrite (s : State) (m : Master) (v : Word) : State :=
  if s.ovrHolds .claim && m != .smp then s.denyWrite m Cause.OWNER_DENY Pg.CLM 0x5C
  else if bit v 0 then (if s.canGiveUp then s.giveUp 0 true else s)
  else
    let s1 := if bit v 1 then s.handoverStart else s
    (if bit v 2 then s1.rejoin else s1).claimSync

/-- GIVE_UP (R434). -/
def execGiveUp (m : Master) (v : Word) (s : State) : Host.Outcome State Fault Refusal :=
  s.done (s.guarded m Pg.CLM 0x5C (fun s => s.clmCtlWrite m v))

/-- REJOIN (R439). -/
def execRejoin (m : Master) (v : Word) (s : State) : Host.Outcome State Fault Refusal :=
  s.done (s.guarded m Pg.CLM 0x5C (fun s => s.clmCtlWrite m v))

/-- HANDOVER (R441). -/
def execHandover (m : Master) (v : Word) (s : State) : Host.Outcome State Fault Refusal :=
  s.done (s.guarded m Pg.CLM 0x5C (fun s => s.clmCtlWrite m v))

/-- Is any work in flight (R441, step 2)? -/
def State.workInFlight (s : State) : Bool := s.pln.descs.any (fun e : Nat × Desc => e.2.st == .running || e.2.st == .ready)

/-- HANDOVER_COMPLETE (R441, steps 3 to 5): with the work done and APPLIED at TOP the HANDOVER entry is journaled and shipped; the unit gives up once it is applied. -/
def execHandoverComplete (s : State) : Host.Outcome State Fault Refusal :=
  s.done (if !s.isActive || s.mirApplied != s.jrn.seq then s
    else match s.pair.handover with
      | some .draining => if s.workInFlight then s
        else (({ s with pair := { s.pair with handover := some .waiting } }).pairEntry 4 0 0).ship
      | some .waiting => s.handoverEnd
      | _ => s)

/-- HANDOVER_TIMEOUT (R441): the handover is abandoned, and popping resumes. -/
def execHandoverTimeout (s : State) : Host.Outcome State Fault Refusal :=
  s.done (if s.pair.handover == some .draining then ((({ s with pair := { s.pair with handover := none } }).wr F.CLM_STAT_HO_FAIL 1).raise Pg.CLM 7).ethPause else s)

/-- The standby's progress in a pair order (R496): AWAIT_CONFIRM and eligible again, the active unit hands over; a fall-back ends the order. -/
def State.pairStatus (s : State) (state : Nat) : State :=
  if s.upd.pairWait.isNone || !s.pair.active then s
  else if state = 6 then ({ s with upd := { s.upd with pairWait := none } }).wr F.UPD_STAT_RES 6
  else if state = 4 && s.on F.MIR_STAT_PARTNER_HB && (match s.pair.hb with | some h => h.flags.testBit 0 | none => false) then s.handoverStart
  else s

/-- UPDATE_STATUS (R483): the HEAD shows a unit's state. For the pair's partner, whose state no frame of the spec carries, it is the procedure's own knowledge (R496). -/
def execUpdateStatus (unit : Option (BitVec 6)) (stat : Word) (s : State) : Host.Outcome State Fault Refusal :=
  s.done (match unit with
    | none => s.pairStatus (bits stat 3 0)
    | some u =>
      if s.role = 2 && s.linkIsUp 1 then
        let r := s.unitReport u.toNat
        ({ s with upd := { s.upd with units := SMap.set s.upd.units u.toNat (r.1, r.2.1, bits stat 3 0) } }).raise Pg.UPD 6
      else s)

/-! ## CONTROL (R438) -/

/-- The arbiter grants CONTROL work: the GRANT entry names the source, 0 the main host and 1 the SMP; node pushes that waited go on (R485). -/
def State.ctrlGrant (s : State) (src : Nat) : State :=
  if s.rd F.CLM_CTRL_STAT = 1 then (((s.wr F.CLM_CTRL_STAT 2).raise Pg.CLM 3).pairEntry 3 src 0).pushServe else s

/-- The arbiter denies CONTROL work. -/
def State.ctrlDeny (s : State) : State := if s.rd F.CLM_CTRL_STAT = 1 then (s.wr F.CLM_CTRL_STAT 3).raise Pg.CLM 4 else s

/-- A write of CLM.CTRL (R76, R438): it acts where the main host is the arbiter and names the current epoch; a write of both bits denies. -/
def State.clmCtrlWrite (s : State) (m : Master) (v : Word) : State :=
  if s.ovrHolds .claim && m != .smp then s.denyWrite m Cause.OWNER_DENY Pg.CLM 0x64
  else if s.on F.CLM_CTRL_ARB || bits v 27 16 != s.rd F.CLM_EPOCH then s
  else if bit v 1 then s.ctrlDeny
  else if bit v 0 then s.ctrlGrant 0 else s

/-- CTRL_GRANT (R438). -/
def execCtrlGrant (m : Master) (v : Word) (s : State) : Host.Outcome State Fault Refusal :=
  s.done (s.guarded m Pg.CLM 0x64 (fun s => s.clmCtrlWrite m v))

/-- CTRL_DENY (R438). -/
def execCtrlDeny (m : Master) (v : Word) (s : State) : Host.Outcome State Fault Refusal :=
  s.done (s.guarded m Pg.CLM 0x64 (fun s => s.clmCtrlWrite m v))

/-! ## Events elsewhere that are give-up causes (R434) -/

/-- LOCKSTEP_MISMATCH (R294); a LEGAL core that halts is a give-up cause. -/
def execLockstepMismatch (s : State) : Host.Outcome State Fault Refusal :=
  s.done (if s.lglRuns then s.lockstepMismatch.selfCheck else s)

/-- NAND_PROG_FAIL (R389); a store that becomes READ_ONLY is a give-up cause. -/
def execNandProgFail (blk : Nat) (s : State) : Host.Outcome State Fault Refusal :=
  s.done (if s.jrnStore && blk < s.pins.nand.blocks && !(s.nblock blk).bad then (s.retireBlock blk).selfCheck else s)

end Sys2Proof.Machine
end

