-- ==== Sys2Proof/Machine/BundleCode.lean ====
section
/-!
DEFINITION. How the sections of a succession bundle spell the machine's data (R541): a stream of integers, and what each section puts into it. The spec names what a section holds and leaves its layout open; this layout is the model's.
-/
namespace Sys2Proof.Machine

/-! ## Streams of integers -/

/-- A decoder takes a value off the front of a stream. -/
abbrev Dec (α : Type) := List Int → Option (α × List Int)

/-- An integer as bytes: its sign, the length of its magnitude, and the magnitude. DESIGN CHOICE, unsafe: log entry 122. -/
def intBytes (z : Int) : List Byte :=
  let n := Nat.log2 z.natAbs / 8 + 1
  be 1 (b2n (decide (z < 0))) ++ be 4 n ++ be n z.natAbs

/-- The integers that bytes spell; none where they end amid one. DESIGN CHOICE, unsafe: log entry 122. -/
def intsOf : Nat → List Byte → Option (List Int)
  | _, [] => some []
  | 0, _ :: _ => none
  | fuel + 1, b =>
    let n := field b 1 4
    if b.length < 5 + n || 1 < field b 0 1 then none
    else (intsOf fuel (b.drop (5 + n))).map (fun l => (if field b 0 1 = 1 then -(field b 5 n : Int) else (field b 5 n : Int)) :: l)

/-- A stream as bytes. -/
def streamBytes (l : List Int) : List Byte := l.flatMap intBytes

/-- Takes an integer. -/
def decInt : Dec Int
  | [] => none
  | z :: l => some (z, l)

/-- Takes a natural number. -/
def decNat : Dec Nat
  | [] => none
  | z :: l => if z < 0 then none else some (z.toNat, l)

/-- Takes a truth value. -/
def decBool : Dec Bool := fun l => (decNat l).map (fun x => (x.1 == 1, x.2))

/-- Takes a number of values. -/
def decMany {α : Type} (d : Dec α) : Nat → Dec (List α)
  | 0, l => some ([], l)
  | n + 1, l => do
    let (a, l1) ← d l
    let (as, l2) ← decMany d n l1
    pure (a :: as, l2)

/-- Takes a counted list. -/
def decList {α : Type} (d : Dec α) : Dec (List α) := fun l => do
  let (n, l1) ← decNat l
  if l1.length < n then none else decMany d n l1

/-- Takes what may be absent. -/
def decOpt {α : Type} (d : Dec α) : Dec (Option α) := fun l => do
  let (n, l1) ← decNat l
  if n = 0 then pure (none, l1) else do
    let (a, l2) ← d l1
    pure (some a, l2)

/-- Takes two values. -/
def decPair {α β : Type} (d : Dec α) (e : Dec β) : Dec (α × β) := fun l => do
  let (a, l1) ← d l
  let (b, l2) ← e l1
  pure ((a, b), l2)

/-- A natural number, a truth value, a counted list, what may be absent, bytes. -/
def encNat (n : Nat) : List Int := [(n : Int)]
def encBool (b : Bool) : List Int := [(b2n b : Int)]
def encList {α : Type} (f : α → List Int) (l : List α) : List Int := (l.length : Int) :: l.flatMap f
def encOpt {α : Type} (f : α → List Int) (x : Option α) : List Int := match x with | none => [0] | some a => 1 :: f a
def encPair {α β : Type} (f : α → List Int) (g : β → List Int) (x : α × β) : List Int := f x.1 ++ g x.2
def encBytes (b : List Byte) : List Int := [(b.length : Int), (ofBe b : Int)]

/-- Takes bytes. -/
def decBytes : Dec (List Byte) := fun l => do
  let (n, l1) ← decNat l
  let (v, l2) ← decNat l1
  if 2 ^ 20 < n then none else pure (be n v, l2)

/-! ## Billing registers, snapshots and the legal partition -/

/-- An account with its registers and demand maxima. -/
def encAcct (a : Acct) : List Int :=
  encNat a.table ++ encBool a.net ++ encBool a.active ++ encList (encPair encNat (fun z => [z])) a.regs ++
    encList (encPair encNat (encList (encPair (fun z => [z]) encNat))) a.dem

/-- Takes an account. -/
def decAcct : Dec Acct := fun l => do
  let (t, l) ← decNat l
  let (n, l) ← decBool l
  let (a, l) ← decBool l
  let (r, l) ← decList (decPair decNat decInt) l
  let (d, l) ← decList (decPair decNat (decList (decPair decInt decNat))) l
  pure ({ table := t, net := n, active := a, regs := r, dem := d }, l)

/-- A stored period. -/
def encPeriod (p : Period) : List Int := encNat p.vz ++ encNat p.e ++ encNat p.closed ++ encNat p.late ++ encList (encPair encNat encAcct) p.accts

/-- Takes a stored period. -/
def decPeriod : Dec Period := fun l => do
  let (v, l) ← decNat l
  let (e, l) ← decNat l
  let (c, l) ← decNat l
  let (t, l) ← decNat l
  let (a, l) ← decList (decPair decNat decAcct) l
  pure ({ vz := v, e := e, closed := c, late := t, accts := a }, l)

/-- A register checkpoint, but for the ledger sequences it holds, which count in the predecessor's ledger. -/
def encCkpt (c : TarCkpt) : List Int :=
  encList (encPair encNat encAcct) c.accts ++ encList encPeriod c.hist ++ encNat c.start ++ encList encNat c.untouched ++ encNat c.vz ++ encNat c.late ++ encList (encPair encNat encNat) c.demDone

/-- Takes a register checkpoint, as of a ledger sequence of this unit. -/
def decCkpt (seq : Nat) : Dec TarCkpt := fun l => do
  let (a, l) ← decList (decPair decNat decAcct) l
  let (h, l) ← decList decPeriod l
  let (s, l) ← decNat l
  let (u, l) ← decList decNat l
  let (v, l) ← decNat l
  let (t, l) ← decNat l
  let (d, l) ← decList (decPair decNat decNat) l
  pure ({ seq := seq, accts := a, hist := h, start := s, untouched := u, vz := v, late := t, demDone := d }, l)

/-- A tariff set. -/
def encSet (x : SetImage) : List Int := encNat x.gen ++ encNat x.actMin ++ encBytes x.image

/-- Takes a tariff set. -/
def decSet : Dec SetImage := fun l => do
  let (g, l) ← decNat l
  let (a, l) ← decNat l
  let (i, l) ← decBytes l
  pure ({ gen := g, actMin := a, image := i }, l)

/-- The legal partition. -/
def encLegal (x : LegalImage) : List Int :=
  encList encSet x.sets ++ encOpt encSet x.passive ++ encOpt encSet x.armed ++ encList (encPair encNat (encPair encNat (encPair encBool encBool))) x.accts ++
    encList (encPair encNat (encPair encNat encNat)) x.binds ++ encList (encPair encNat encNat) x.fields

/-- Takes the legal partition. -/
def decLegal : Dec LegalImage := fun l => do
  let (s, l) ← decList decSet l
  let (p, l) ← decOpt decSet l
  let (a, l) ← decOpt decSet l
  let (c, l) ← decList (decPair decNat (decPair decNat (decPair decBool decBool))) l
  let (b, l) ← decList (decPair decNat (decPair decNat decNat)) l
  let (f, l) ← decList (decPair decNat decNat) l
  pure ({ sets := s, passive := p, armed := a, accts := c, binds := b, fields := f }, l)

/-! ## Channels -/

/-- The state of a channel (R261), but for the spans that only this unit's drains know. -/
def encChan (c : ChanSt) : List Int := [c.lval] ++ encOpt encNat c.lvSlot ++ encBool c.lvalid ++ encOpt encNat c.lslot ++ encNat c.monoRun ++ encNat c.oldLen ++ encNat c.lenFrom

/-- Takes the state of a channel. -/
def decChan : Dec ChanSt := fun l => do
  let (v, l) ← decInt l
  let (s, l) ← decOpt decNat l
  let (b, l) ← decBool l
  let (t, l) ← decOpt decNat l
  let (m, l) ← decNat l
  let (o, l) ← decNat l
  let (f, l) ← decNat l
  pure ({ lval := v, lvSlot := s, lvalid := b, lslot := t, monoRun := m, oldLen := o, lenFrom := f }, l)

/-- The FALLBACK figures of a channel's day (R288). -/
def encFig (x : FbFig) : List Int :=
  encNat x.n ++ [x.sum] ++ encOpt (encPair (fun z => [z]) encNat) x.top ++ encNat x.flags ++ encBool x.allValid

/-- Takes the FALLBACK figures of a channel's day. -/
def decFig : Dec FbFig := fun l => do
  let (n, l) ← decNat l
  let (s, l) ← decInt l
  let (t, l) ← decOpt (decPair decInt decNat) l
  let (f, l) ← decNat l
  let (v, l) ← decBool l
  pure ({ n := n, sum := s, top := t, flags := f, allValid := v }, l)

/-! ## Seals of units -/

/-- A batch that the HEAD holds. -/
def encBatch (b : Batch) : List Int := encBytes b.sealB ++ encList encBytes b.recs

/-- Takes a batch. -/
def decBatch : Dec Batch := fun l => do
  let (s, l) ← decBytes l
  let (r, l) ← decList decBytes l
  pure ({ sealB := s, recs := r }, l)

/-- What the HEAD keeps of a unit (R411); its reachability is found again. -/
def encUnit (u : UnitInfo) : List Int := encList encBytes u.keys ++ encOpt encNat u.lastSeq ++ encBytes u.digest ++ encList encBatch u.held

/-- Takes what the HEAD keeps of a unit. -/
def decUnit : Dec UnitInfo := fun l => do
  let (k, l) ← decList decBytes l
  let (s, l) ← decOpt decNat l
  let (d, l) ← decBytes l
  let (h, l) ← decList decBatch l
  pure ({ keys := k, lastSeq := s, digest := d, held := h }, l)

/-! ## Touchstone -/

/-- A rational number. -/
def encRat (r : Rat) : List Int := [r.num, (r.den : Int)]

/-- Takes a rational number. -/
def decRat : Dec Rat := fun l => do
  let (n, l) ← decInt l
  let (d, l) ← decNat l
  if d = 0 then none else pure ((n : Rat) / (d : Rat), l)

/-- The sums of a pair (R366). -/
def encCorr (c : TchCorr) : List Int := encNat c.n ++ encRat c.sx ++ encRat c.sy ++ encRat c.sxx ++ encRat c.syy ++ encRat c.sxy

/-- Takes the sums of a pair. -/
def decCorr : Dec TchCorr := fun l => do
  let (n, l) ← decNat l
  let (x, l) ← decRat l
  let (y, l) ← decRat l
  let (xx, l) ← decRat l
  let (yy, l) ← decRat l
  let (xy, l) ← decRat l
  pure ({ n := n, sx := x, sy := y, sxx := xx, syy := yy, sxy := xy }, l)

/-- A member's learned state (R372). -/
def encMbr (m : TchMbr) : List Int :=
  encList encNat m.win ++ encOpt encNat m.lph ++ encList (encPair encNat encCorr) m.corr ++
    [(m.upd : Int), (m.moveDays : Int), (m.weakDays : Int), (m.classes : Int), (m.zero : Int), (b2n m.moved : Int), m.rOwn, m.rBest, (m.bestGrp : Int)]

/-- Takes a member's learned state. -/
def decMbr : Dec TchMbr := fun l => do
  let (w, l) ← decList decNat l
  let (p, l) ← decOpt decNat l
  let (c, l) ← decList (decPair decNat decCorr) l
  let (u, l) ← decNat l
  let (md, l) ← decNat l
  let (wd, l) ← decNat l
  let (k, l) ← decNat l
  let (z, l) ← decNat l
  let (mv, l) ← decBool l
  let (ro, l) ← decInt l
  let (rb, l) ← decInt l
  let (g, l) ← decNat l
  pure ({ win := w, lph := p, corr := c, upd := u, moveDays := md, weakDays := wd, classes := k, zero := z, moved := mv, rOwn := ro, rBest := rb, bestGrp := g }, l)

/-- A run of closes. -/
def encRun (r : TchRun) : List Int := [r.sum] ++ encNat r.cov ++ encList encNat r.starts

/-- Takes a run of closes. -/
def decRun : Dec TchRun := fun l => do
  let (s, l) ← decInt l
  let (c, l) ← decNat l
  let (t, l) ← decList decNat l
  pure ({ sum := s, cov := c, starts := t }, l)

/-- A group phase (R355 to R362). -/
def encDet (d : TchDet) : List Int :=
  [(d.st : Int), (d.msrc : Int), (d.a : Int), (d.b : Int), (d.sigma : Int), (d.fit.n : Int), (d.fit.uu : Int), (d.fit.uw : Int), (d.fit.ww : Int), d.fit.uy, d.fit.wy, (d.fit.yy : Int),
    (d.pos : Int), (d.neg : Int)] ++ encRun d.runP ++ encRun d.runN ++ [d.lastR, (d.lastStatus : Int), (d.lastCov : Int), (d.lastIstart : Int)]

/-- Takes a group phase. -/
def decDet : Dec TchDet := fun l => do
  let (st, l) ← decNat l
  let (ms, l) ← decNat l
  let (a, l) ← decNat l
  let (b, l) ← decNat l
  let (sg, l) ← decNat l
  let (n, l) ← decNat l
  let (uu, l) ← decNat l
  let (uw, l) ← decNat l
  let (ww, l) ← decNat l
  let (uy, l) ← decInt l
  let (wy, l) ← decInt l
  let (yy, l) ← decNat l
  let (p, l) ← decNat l
  let (q, l) ← decNat l
  let (rp, l) ← decRun l
  let (rn, l) ← decRun l
  let (lr, l) ← decInt l
  let (ls, l) ← decNat l
  let (lc, l) ← decNat l
  let (li, l) ← decNat l
  pure ({ st := st, msrc := ms, a := a, b := b, sigma := sg, fit := { n := n, uu := uu, uw := uw, ww := ww, uy := uy, wy := wy, yy := yy }, pos := p, neg := q, runP := rp, runN := rn
          lastR := lr, lastStatus := ls, lastCov := lc, lastIstart := li }, l)

/-- All of a stream by one decoder. -/
def decAll {α : Type} (d : Dec α) (b : List Byte) : Option α :=
  (intsOf b.length b).bind (fun l => match d l with | some (a, []) => some a | _ => none)

end Sys2Proof.Machine
end

