-- ==== Sys2Proof/Machine/Patina.lean ====
section
/-!
DEFINITION. Patina, the lifetime ledger (R534 to R539): ledger time, temperature bands, consumed life and the hourly checkpoint.
-/
namespace Sys2Proof.Machine

/-- Powered (R535): any mode other than OFF and VAULT. -/
def State.powered (s : State) : Bool := s.mode != Md.OFF && s.mode != Md.VAULT

/-! ## Time (R534, R535) -/

/-- LEDGER_SECOND (R534): LTIME advances while AON has power; POH advances at each 3,600 powered seconds. -/
def execLedgerSecond (s : State) : Host.Outcome State Fault Refusal :=
  s.done (if s.mode = Md.OFF then s
    else
      let s1 := s.ledgerAdd 0 1
      let p := s1.ldg.poh + 1
      let s2 := if !s1.powered then s1
        else if 3600 ≤ p then ({ s1 with ldg := { s1.ldg with poh := 0 } }).ledgerAdd 1 1
        else { s1 with ldg := { s1.ldg with poh := p } }
      s2.pstCoverage)

/-! ## Temperature (R536) -/

/-- The band of a junction temperature in °C; a band includes its lower edge. -/
def tjBand (t : Int) : Nat :=
  if t < 0 then 0 else if t < 25 then 1 else if t < 50 then 2 else if t < 70 then 3 else if t < 85 then 4 else if t < 100 then 5 else if t < 115 then 6 else 7

/-- The weight of a band, in 1/4,096 s of reference life. -/
def bandWeight (b : Nat) : Nat := [3, 31, 257, 1112, 2997, 7459, 17302, 29269].getD b 29269

/-- TJ_SAMPLE (R536, R550): once per powered second Tj is sampled, its band's weight adds to CONSUMED, and the band's hours count; the panel's temperature follows. -/
def execTjSample (tj : Byte) (s : State) : Host.Outcome State Fault Refusal :=
  s.done (if !s.powered then s
    else
      let b := tjBand tj.toInt
      let s0 := (s.wr F.LDG_TJ tj.toNat).wr F.LDG_BAND b
      let s1 := (if s.domOn Dom.IOX then s0.tempSync else s0).ledgerAdd 25 (bandWeight b)
      let n := SMap.getD s1.ldg.bands b 0 + 1
      if 3600 ≤ n then ({ s1 with ldg := { s1.ldg with bands := SMap.set s1.ldg.bands b 0 } }).ledgerAdd (2 + b) 1
      else { s1 with ldg := { s1.ldg with bands := SMap.set s1.ldg.bands b n } })

/-! ## Checkpoints (R47, R535, R537, R538) -/

/-- Every page that carries error counts. -/
def errorPages : List Nat := (List.range 0x6A).filter (fun p => (pageDomain p).isSome) ++ (List.range 192).map (fun k => 0x100 + k)

/-- The growth of a count since it was last seen: a smaller count contributes whole (R535). -/
def errGrowth (old now : Nat) : Nat := if now < old then now else now - old

/-- A page's error counts go into its domain's ledger counters. -/
def State.takeErrors (s : State) (p : Nat) : State :=
  match pageDomain p with
  | none => s
  | some d =>
    let c := s.rd (F.ERR_CORR p)
    let u := s.rd (F.ERR_UNC p)
    let gc := errGrowth (SMap.getD s.ldg.corr p 0) c
    let gu := errGrowth (SMap.getD s.ldg.unc p 0) u
    if gc = 0 && gu = 0 && SMap.getD s.ldg.corr p 0 == c && SMap.getD s.ldg.unc p 0 == u then s
    else (({ s with ldg := { s.ldg with corr := SMap.set s.ldg.corr p c, unc := SMap.set s.ldg.unc p u } }).ledgerAdd (32 + d) gc).ledgerAdd (44 + d) gu

/-- CONSUMED as it stood a number of seconds of ledger time ago, by the checkpoints; before the first it was 0. -/
def State.consumedBefore (s : State) (secs : Nat) : Nat :=
  match s.ldg.hist.find? (fun e : Nat × Nat => decide (e.1 + secs ≤ s.ledgerTime)) with
  | some e => e.2
  | none => 0

/-- The life budget in 1/4,096 s: 40 years at 90 °C (R537). -/
def lifeBudget : Nat := 1262304000 * 4096

/-- The remaining life in days, of a consumption and its growth over the last 30 days (R537). -/
def lifeLeft (consumed c : Nat) : Nat :=
  if lifeBudget < consumed then 0 else if c = 0 then 2 ^ 48 - 1 else (lifeBudget - consumed) * 30 / c

/-- The ledger's words (R535). -/
def State.ledgerWords (s : State) : List Nat := (List.range 116).map (fun w => s.rd (F.LDG_WORD w))

/-- REM_D is computed again, and LIFE_WARN follows. -/
def State.lifeUpdate (s : State) : State :=
  let c := s.ledger 25
  let s1 := s.setLedger 26 (lifeLeft c (c - s.consumedBefore (30 * 86400)))
  let s2 := { s1 with ldg := { s1.ldg with hist := ((s1.ledgerTime, c) :: s1.ldg.hist).take 721 } }
  if s2.ledger 26 < s2.rd F.LDG_WARN_D then (s2.raise Pg.LDG 0).alert 11 else s2

/-- A checkpoint: the error counts, REM_D, CKPTS, the journal record, and its place in the system area. -/
def State.ledgerCheckpoint (s : State) : State :=
  let s1 := ((errorPages.foldl (fun (t : State) p => t.takeErrors p) s).lifeUpdate).ledgerAdd 56 1
  let w := s1.ledgerWords
  let s2 := s1.journal 10 (be 1 0x4C ++ w.flatMap (fun x => be 4 x))
  ({ s2 with ldg := { s2.ldg with ckpt := if s2.rd F.IGT_STATE_MODE = 5 then s2.ldg.ckpt else some w } }).raise Pg.LDG 1

/-- LEDGER_CHECKPOINT (R538): at a whole multiple of 3,600 s of ledger time, where the journal is powered. -/
def execLedgerCheckpoint (s : State) : Host.Outcome State Fault Refusal :=
  s.done (if s.ledgerTime % 3600 = 0 && s.domOn Dom.MEM && s.powered then s.ledgerCheckpoint else s)

end Sys2Proof.Machine
end

