-- ==== Sys2Proof/Machine/Succession.lean ====
section
/-!
DEFINITION. Succession (R540 to R542): the bundle that a unit exports in SERVICE, and its import by the unit that replaces it.
-/
namespace Sys2Proof.Machine

/-! ## The bundle (R541) -/

/-- A section: TYPE, three zero bytes, LEN, data. -/
def bundleSection (typ : Nat) (data : List Byte) : List Byte := be 1 typ ++ be 3 0 ++ be 4 data.length ++ data

/-- The neighbour record that a bundle carries: LKEY, AG0, AG1 and AACT cleared. -/
def keyless (x : Nbr) : Nbr := { x with lkey := false, ag0 := false, ag1 := false, aact := 0 }

/-- The legal partition as it stands. -/
def State.legalOut (s : State) : LegalImage :=
  let set := fun (x : TarSet) => ({ gen := x.gen, actMin := x.actMin, image := x.image } : SetImage)
  { sets := s.tar.sets.map set, passive := s.tar.passive.map set, armed := s.tar.armed.map set
    accts := s.tar.accts.map (fun e : Nat × Acct => (e.1, e.2.table, e.2.net, e.2.active)), binds := s.tar.binds.map (fun e : Nat × Binding => (e.1, e.2.acct, e.2.dir)), fields := s.lgl.image }

/-- LEDGER. -/
def State.sectLedger (s : State) : List Byte := s.ledgerWords.flatMap (fun w => be 4 w)

/-- CONFIG: the committed image without key blobs. -/
def State.sectConfig (s : State) : List Byte :=
  cfgBody { gen := s.rd F.CFG_GEN, fmt := hdrFmt (s.running 4).head, role := s.role, image := s.cfg.cur, keys := [], good := true }

/-- LEGAL: the partition, the register checkpoint with the kept snapshots, the events and their counter. -/
def State.sectLegal (s : State) : List Byte :=
  streamBytes (encPair encLegal (encPair encCkpt (encPair (encList encBytes) encNat)) (s.legalOut, s.tar.ckpt, s.lgl.events, s.rd F.LGL_EVT_CNT))

/-- GATE: index and record of every entry that is not FREE. -/
def State.sectGate (s : State) : List Byte := (s.gate.nbr.filter (fun e => e.2.st != .free)).flatMap (fun e => be 4 e.1 ++ nbrRecord (keyless e.2))

/-- The FALLBACK figures of the present day, of every channel that has any. -/
def State.figsOut (s : State) : SMap FbFig :=
  if s.on F.PRF_STATE_FALLBACK then (s.enabledChans.map (fun c => (c, s.dayFig c s.prf.fbDay))).filter (fun e => e.2.n != 0) else []

/-- PROFILE: the channels' state, and the FALLBACK figures with their day. -/
def State.sectProfile (s : State) : List Byte :=
  streamBytes (encPair (encList (encPair encNat encChan)) (encPair (encList (encPair encNat encFig)) encNat) (s.prf.chans, s.figsOut, s.prf.fbDay))

/-- SEAL: the next SEQ and the last digest, and the re-seals' with what the HEAD keeps of its units. -/
def State.sectSeal (s : State) : List Byte :=
  streamBytes (encPair encNat (encPair encBytes (encPair encNat (encPair encBytes (encList (encPair encNat encUnit)))))
    (s.sealSeq, s.lastDigest, s.rd64 F.HLM_RSEQ_LO F.HLM_RSEQ_HI, s.hlm.resealDigest, s.chn.units))

/-- TOUCH: the group phases and the members. -/
def State.sectTouch (s : State) : List Byte := streamBytes (encPair (encList (encPair encNat encDet)) (encList (encPair encNat encMbr)) (s.tch.dets, s.tch.ckpt))

/-- CERTS: the owner certificate and the alias certificate. -/
def State.sectCerts (s : State) : List Byte := streamBytes (encPair encBytes encBytes (SMap.getD s.sec.certs 2 [], SMap.getD s.sec.certs 3 []))

/-- The header and the sections; the signature follows them. -/
def State.bundleBody (s : State) : List Byte :=
  let body := bundleSection 1 s.sectLedger ++ bundleSection 2 s.sectConfig ++ bundleSection 3 s.sectLegal ++ bundleSection 4 s.sectGate ++
    bundleSection 5 s.sectProfile ++ bundleSection 6 s.sectSeal ++ bundleSection 7 s.sectTouch ++ bundleSection 8 s.sectCerts
  be 4 0x474B5342 ++ be 2 1 ++ be 1 s.role ++ be 1 s.fuses.grade ++ be 8 s.fuses.serial ++ be 8 s.ledgerTime ++ be 8 (64 + body.length + 96) ++ be 1 8 ++ be 31 0 ++ body

/-- The whole bundle, signed with the attestation alias key. -/
def State.bundle (s : State) : List Byte := s.bundleBody ++ (Config.ecdsaSign (s.keyOf 2) s.bundleBody ++ be 96 0).take 96

/-! ## Export (R540) -/

/-- SUCC_STAT.RES, with bit SUCC_DONE. -/
def State.succEnd (s : State) (r : Nat) : State := (s.wr F.LDG_SUCC_STAT_RES r).raise Pg.LDG 2

/-- Step 1: field ports, chain and mirror link stop. -/
def State.succStop (s : State) : State := ({ s with pwr := { s.pwr with portsOff := true, mirOff := true } }).portsFollow.linksFollow

/-- Step 2: the open filing interval is closed, and every closed tree is sealed. -/
def State.succSeal (s : State) : State :=
  let s1 := s.prf.filings.foldl (fun (t : State) f => (t.closeFiling f 0 t.raw St.SHORT true).2) s
  let s2 := (List.range (s1.hlm.trees.length + 1)).foldl (fun (t : State) _ => t.sealInterval) s1
  { s2 with bndPrf := [], bndTch := [] }

/-- Step 3: the checkpoints of Gate, the tariff engine, Touchstone and Patina. -/
def State.succCheckpoints (s : State) : State :=
  let s1 := (s.gate.nbr.filter (fun e => e.2.changed)).foldl (fun (t : State) e => t.gateJournal e.1) s
  let s2 := { s1 with gate := { s1.gate with nbr := s1.gate.nbr.map (fun e : Nat × Nbr => (e.1, { e.2 with changed := false })) } }
  let s3 := s2.tarCheckpoint
  ({ s3 with tch := { s3.tch with ckpt := s3.tch.mbrs } }).ledgerCheckpoint

/-- Step 4: the bundle goes to SUCC_Q in packets of at most 64 KiB; answers whether every one got its cells. DEDUCED, unsafe: log entry 123. -/
def State.succPackets (s : State) (q : Nat) : List (List Byte) → Bool × State
  | [] => (true, s)
  | p :: ps =>
    match s.outputPacket q p with
    | (true, t) => t.succPackets q ps
    | (false, t) => (false, t)

/-- SUCC_CTL.EXPORT (R540), in SERVICE only. DEDUCED, unsafe: log entry 123. -/
def State.succExport (s : State) : State :=
  if !queueNamed (s.rd F.LDG_SUCC_Q) then s.succEnd 9
  else if s.mode != Md.SERVICE then s.succEnd 6
  else
    let s1 := s.succStop.succSeal.succCheckpoints
    let b := s1.bundle
    match s1.succPackets (s1.rd F.LDG_SUCC_Q) (pieces 65504 b.length b) with
    | (true, t) => (t.wr F.LDG_SUCC_STAT_EXPORTED 1).succEnd 1
    | (false, t) => t.succEnd 9

/-! ## Import (R542) -/

/-- The sections that bytes spell; none where they do not come out even. -/
def sectionsOf : Nat → List Byte → Option (SMap (List Byte))
  | 0, b => if b.isEmpty then some [] else none
  | n + 1, b =>
    let len := field b 4 4
    if b.length < 8 + len || field b 1 3 != 0 then none
    else (sectionsOf n (b.drop (8 + len))).bind (fun (m : SMap (List Byte)) =>
      if (SMap.find? m (field b 0 1)).isSome then none else some (SMap.set m (field b 0 1) ((b.drop 8).take len)))

/-- The entries of a GATE section. -/
def gateEntries : Nat → List Byte → Option (List (Nat × Nbr))
  | _, [] => some []
  | 0, _ :: _ => none
  | n + 1, b => if b.length < 68 then none else (gateEntries n (b.drop 68)).map (fun l => (field b 0 4, keyless (nbrOfRecord ((b.drop 4).take 64))) :: l)

/-- A bundle whose every section is sound. -/
structure SuccBundle where
  role : Nat
  grade : Nat
  ledger : List Nat
  cfg : CfgSlot
  legal : LegalImage
  ckpt : TarCkpt
  events : List (List Byte)
  evtCnt : Nat
  nbrs : List (Nat × Nbr)
  chans : SMap ChanSt
  figs : SMap FbFig
  figDay : Nat
  seq : Nat
  digest : List Byte
  rseq : Nat
  rdigest : List Byte
  units : SMap UnitInfo
  dets : SMap TchDet
  mbrs : SMap TchMbr
  owner : List Byte
  aliasC : List Byte
  deriving DecidableEq, Repr

/-- Reads a bundle (R541): MAGIC, FORMAT, its length, and every section; the register checkpoint counts as of a ledger sequence of this unit. -/
def bundleOf (seq : Nat) (b : List Byte) : Option SuccBundle := do
  if b.length < 160 || field b 0 4 != 0x474B5342 || field b 4 2 != 1 || field b 24 8 != b.length || field b 33 31 != 0 then none
  else do
    let m ← sectionsOf (field b 32 1) ((b.drop 64).take (b.length - 160))
    let l ← SMap.find? m 1
    if l.length != 464 then none else do
      let c ← SMap.find? m 2
      let g ← (SMap.find? m 3).bind (fun x => decAll (decPair decLegal (decPair (decCkpt seq) (decPair (decList decBytes) decNat))) x)
      let n ← (SMap.find? m 4).bind (fun x => gateEntries x.length x)
      let p ← (SMap.find? m 5).bind (fun x => decAll (decPair (decList (decPair decNat decChan)) (decPair (decList (decPair decNat decFig)) decNat)) x)
      let h ← (SMap.find? m 6).bind (fun x => decAll (decPair decNat (decPair decBytes (decPair decNat (decPair decBytes (decList (decPair decNat decUnit)))))) x)
      let t ← (SMap.find? m 7).bind (fun x => decAll (decPair (decList (decPair decNat decDet)) (decList (decPair decNat decMbr))) x)
      let e ← (SMap.find? m 8).bind (fun x => decAll (decPair decBytes decBytes) x)
      if c.length < 11 || c.length != 11 + 12 * field c 7 4 then none
      else
        let r : SuccBundle := {
          role := field b 6 1, grade := field b 7 1, ledger := (List.range 116).map (fun i => field l (4 * i) 4), cfg := cfgOfBody c,
          legal := g.1, ckpt := g.2.1, events := g.2.2.1, evtCnt := g.2.2.2, nbrs := n, chans := p.1, figs := p.2.1, figDay := p.2.2,
          seq := h.1, digest := h.2.1, rseq := h.2.2.1, rdigest := h.2.2.2.1, units := h.2.2.2.2, dets := t.1, mbrs := t.2, owner := e.1, aliasC := e.2 }
        some r

/-- Does the bundle's chain of certificates and its signature verify under slot 10? -/
def bundleSigned (anchor : Option (List Byte)) (b : List Byte) (x : SuccBundle) : Bool :=
  match anchor with
  | none => false
  | some a =>
    Config.certVerify a x.owner && Config.certVerify (Config.certSubject x.owner) x.aliasC &&
      Config.ecdsaVerify (Config.certSubject x.aliasC) (b.take (b.length - 96)) (b.drop (b.length - 96))

/-- May the unit take a bundle: PROVISION mode, life-cycle state PROVISIONED, and no seal released yet? -/
def State.mayImport (s : State) : Bool := s.mode == Md.PROVISION && s.fuses.lc == 2 && !s.hlm.sealed.any (fun x => x.released)

/-- The predecessor's ledger, kept apart; SUCCESSIONS advances. -/
def State.importLedger (s : State) (x : SuccBundle) : State :=
  let s1 := (List.range 116).foldl (fun (t : State) i => t.wr (F.LDG_PRED i) (x.ledger.getD i 0)) s
  (s1.wr F.LDG_STAT_PRED 1).ledgerAdd 57 1

/-- The configuration, as the next generation; persisted keys of the unit stay. -/
def State.importConfig (s : State) (x : SuccBundle) : State :=
  s.cfgCommitSlot { x.cfg with gen := s.cfgNewest + 1, fmt := hdrFmt (s.running 4).head, keys := s.cfg.curKeys, good := true }

/-- The legal partition with its registers, and the legal event counter; the commit's checkpoint makes them durable. -/
def State.importLegal (s : State) (x : SuccBundle) : State :=
  let t := s.applyLegal (s.rd F.LGL_LGEN) x.legal
  let accts := x.ckpt.accts.foldl (fun (m : SMap Acct) (e : Nat × Acct) => SMap.modify m e.1 {} (fun a => { a with regs := e.2.regs, dem := e.2.dem })) t.tar.accts
  let t1 := { t with
    regs := putValues (t.regs.filter (fun e => !legalKey e.1)) x.legal.fields
    tar := { t.tar with
      accts := accts, hist := x.ckpt.hist, start := x.ckpt.start, untouched := x.ckpt.untouched, lateNow := x.ckpt.late, demDone := x.ckpt.demDone
      binds := t.tar.binds.map (fun e : Nat × Binding => (e.1, { e.2 with last := 0 })) }
    lgl := { t.lgl with slot0 := s.lgl.slot0, slot1 := s.lgl.slot1, image := s.lgl.image, events := x.events } }
  let t2 := ((t1.wr F.TAR_VZ x.ckpt.vz).wr F.LGL_EVT_CNT x.evtCnt).wr F.LGL_EVT_HEAD (x.evtCnt % 1024)
  ((t2.wr F.TAR_ACCOUNTS t2.activeAccts.length).wr F.TAR_GEN_ACT ((t2.tar.sets.head?.map (fun y : TarSet => y.gen)).getD 0)).legalCommit

/-- Gate holds the carried entries without keys, each with its GATE record. -/
def State.importGate (s : State) (x : SuccBundle) : State :=
  x.nbrs.foldl (fun (t : State) (e : Nat × Nbr) => ({ t with gate := { t.gate with nbr := SMap.set t.gate.nbr e.1 e.2 } }).gateJournal e.1) s

/-- Channels, FALLBACK figures, the chains of seals and Touchstone go on from where the predecessor stood. -/
def State.importState (s : State) (x : SuccBundle) : State :=
  let s1 := { s with
    prf := { s.prf with chans := x.chans, base := x.chans, figs := x.figs, figDay := x.figDay, fbDay := x.figDay }
    hlm := { s.hlm with resealDigest := x.rdigest }
    chn := { s.chn with units := x.units }
    tch := { s.tch with dets := x.dets, saved := x.dets, mbrs := x.mbrs, ckpt := x.mbrs } }
  ((s1.wr64 F.HLM_SEQ_LO F.HLM_SEQ_HI x.seq).putWords F.HLM_LAST_DIGEST 12 x.digest).wr64 F.HLM_RSEQ_LO F.HLM_RSEQ_HI x.rseq

/-- The bundle is accepted: a unit in a pair slot takes the LEDGER section alone. -/
def State.importAll (s : State) (x : SuccBundle) : State :=
  if s.pins.pairSel = 3 then ((((s.importConfig x).importLegal x).importGate x).importState x).importLedger x else s.importLedger x

/-- The checks of R542, in their order. -/
def State.succImport (s : State) (b : List Byte) : State :=
  if !s.mayImport then s.succEnd 6
  else
    match bundleOf s.jrn.seq b with
    | none => s.succEnd 2
    | some x =>
      if x.role != s.role then s.succEnd 4
      else if s.fuses.grade < x.grade then s.succEnd 5
      else
        let (a, t) := s.invoke 10 Mst.SEC true Use.ANCHOR
        if !bundleSigned a b x then t.succEnd 3
        else if field (Config.certExt x.aliasC) 288 1 != 0 then t.succEnd 8
        else (t.importAll x).succEnd 1

/-- A chunk goes to the end of what has arrived, in the manner of R481; with LAST the bundle is checked. -/
def State.succChunk (s : State) (last : Bool) : State :=
  let c := s.rd F.LDG_SUCC_CELL
  if !s.hostHeld c then s.wr F.LDG_SUCC_STAT_RES 6
  else if s.rd F.LDG_SUCC_OFS != s.ldg.load.length then s.wr F.LDG_SUCC_STAT_RES 7
  else
    let b := s.ldg.load ++ s.pktPayload c
    let s1 := { s with ldg := { s.ldg with load := if last then [] else b } }.releasePacket c
    if last then s1.succImport b else s1.wr F.LDG_SUCC_STAT_RES 1

/-- A write of SUCC_CTL: without its key no bit acts. -/
def State.succCtlWrite (s : State) (v : Word) : State :=
  if bits v 31 16 != 0x5CCE then s
  else if bit v 0 then s.succExport
  else if bit v 1 then s.succChunk (bit v 2)
  else s

/-- SUCC_EXPORT (R540). -/
def execSuccExport (m : Master) (v : Word) (s : State) : Host.Outcome State Fault Refusal :=
  s.done (s.guarded m Pg.LDG 0x50 (fun s => s.succCtlWrite v))

/-- SUCC_CHUNK (R542). -/
def execSuccChunk (m : Master) (v : Word) (s : State) : Host.Outcome State Fault Refusal :=
  s.done (s.guarded m Pg.LDG 0x50 (fun s => s.succCtlWrite v))

/-- SUCC_IMPORT (R542). -/
def execSuccImport (m : Master) (v : Word) (s : State) : Host.Outcome State Fault Refusal :=
  s.done (s.guarded m Pg.LDG 0x50 (fun s => s.succCtlWrite v))

end Sys2Proof.Machine
end

