-- ==== Sys2Proof/Machine/RegMap.lean ====
section
/-!
DEFINITION. Which fields each page of the register window holds (R39, R45): the tables a generic read or write of a word goes by.
-/
namespace Sys2Proof.Machine

/-- The page header (R45) of a page. -/
def rowsHeader (p : Nat) : List Row :=
  [⟨F.PAGE_ID p, 0, 1, 0, 1, 0⟩,
   ⟨F.PAGE_VER p, 0, 1, 0, 1, 0⟩,
   ⟨F.CAP p, 0, 1, 0, 1, 0⟩,
   ⟨F.STATUS_PAGE p, 0, 1, 0, 1, 0⟩,
   ⟨F.STATUS_OWNER p, 0, 1, 0, 1, 0⟩,
   ⟨F.STATUS_LOCKED p, 0, 1, 0, 1, 0⟩,
   ⟨F.STATUS_BUSY p, 0, 1, 0, 1, 0⟩,
   ⟨F.STATUS_READY p, 0, 1, 0, 1, 0⟩,
   ⟨F.INT_STAT p, 0, 1, 0, 1, 0⟩,
   ⟨F.INT_EN p, 0, 1, 0, 1, 0⟩,
   ⟨F.INT_FORCE p, 0, 1, 0, 1, 0⟩,
   ⟨F.ERR_CORR p, 0, 1, 0, 1, 0⟩,
   ⟨F.ERR_UNC p, 0, 1, 0, 1, 0⟩,
   ⟨F.LOCK_LOCKED p, 0, 1, 0, 1, 0⟩,
   ⟨F.OWNER_SEIZED p, 0, 1, 0, 1, 0⟩,
   ⟨F.OWNER_OWNER p, 0, 1, 0, 1, 0⟩,
   ⟨F.DOM_RST_KEY p, 0, 1, 0, 1, 0⟩,
   ⟨F.DOM_RST_GO p, 0, 1, 0, 1, 0⟩]

/-- Fields of page CHIP. -/
def rowsCHIP (_ : Nat) : List Row :=
  [⟨F.CHIP_VENDOR, 0x0, 1, 0x0, 1, 0⟩,
   ⟨F.CHIP_DEVICE, 0x0, 1, 0x0, 1, 0⟩,
   ⟨F.CHIP_REV, 0x0, 1, 0x0, 1, 0⟩,
   ⟨F.CHIP_ACC_ERR_VALID, 0x0, 1, 0x0, 1, 0⟩,
   ⟨F.CHIP_ACC_ERR_MASTER, 0x0, 1, 0x0, 1, 0⟩,
   ⟨F.CHIP_ACC_ERR_CAUSE, 0x0, 1, 0x0, 1, 0⟩,
   ⟨F.CHIP_ACC_ERR_ADDR, 0x0, 1, 0x0, 1, 0⟩,
   ⟨F.CHIP_DENY_CNT, 0x0, 1, 0x0, 1, 0⟩,
   ⟨F.CHIP_GRADE, 0x0, 1, 0x0, 1, 0⟩]

/-- Fields of page CFG. -/
def rowsCFG (_ : Nat) : List Row :=
  [⟨F.CFG_COMMIT_KEY, 0x0, 1, 0x0, 1, 0⟩,
   ⟨F.CFG_COMMIT_FORCE_ROLE, 0x0, 1, 0x0, 1, 0⟩,
   ⟨F.CFG_COMMIT_GO, 0x0, 1, 0x0, 1, 0⟩,
   ⟨F.CFG_CSTAT_RESULT, 0x0, 1, 0x0, 1, 0⟩,
   ⟨F.CFG_CSTAT_ROLE_MISMATCH, 0x0, 1, 0x0, 1, 0⟩,
   ⟨F.CFG_CSTAT_DIRTY, 0x0, 1, 0x0, 1, 0⟩,
   ⟨F.CFG_CSTAT_BUSY, 0x0, 1, 0x0, 1, 0⟩,
   ⟨F.CFG_GEN, 0x0, 1, 0x0, 1, 0⟩,
   ⟨F.CFG_ROLE, 0x0, 1, 0x0, 1, 0⟩,
   ⟨F.CFG_HOST_SEL, 0x0, 1, 0x0, 1, 0⟩,
   ⟨F.CFG_DISCARD_KEY, 0x0, 1, 0x0, 1, 0⟩,
   ⟨F.CFG_DISCARD_GO, 0x0, 1, 0x0, 1, 0⟩,
   ⟨F.CFG_FMT_OLD, 0x0, 1, 0x0, 1, 0⟩,
   ⟨F.CFG_FMT_CUR, 0x0, 1, 0x0, 1, 0⟩]

/-- Fields of page PCI. -/
def rowsPCI (_ : Nat) : List Row :=
  [⟨F.PCI_LINK_UP, 0x0, 1, 0x0, 1, 0⟩,
   ⟨F.PCI_LINK_L1, 0x0, 1, 0x0, 1, 0⟩,
   ⟨F.PCI_LINK_WIDTH, 0x0, 1, 0x0, 1, 0⟩,
   ⟨F.PCI_LINK_SPEED, 0x0, 1, 0x0, 1, 0⟩,
   ⟨F.PCI_CFG_MAX_WIDTH, 0x0, 1, 0x0, 1, 0⟩,
   ⟨F.PCI_CFG_MAX_SPEED, 0x0, 1, 0x0, 1, 0⟩,
   ⟨F.PCI_CFG_ASPM_L1, 0x0, 1, 0x0, 1, 0⟩,
   ⟨F.PCI_SUB_VEN, 0x0, 1, 0x0, 1, 0⟩,
   ⟨F.PCI_SUB_DEV, 0x0, 1, 0x0, 1, 0⟩,
   ⟨F.PCI_HOST_STAT, 0x0, 1, 0x0, 1, 0⟩,
   ⟨F.PCI_CORR_ERR, 0x0, 1, 0x0, 1, 0⟩,
   ⟨F.PCI_UNCORR_ERR, 0x0, 1, 0x0, 1, 0⟩,
   ⟨F.PCI_LINK_DOWN_CNT, 0x0, 1, 0x0, 1, 0⟩,
   ⟨F.PCI_RETRAINS, 0x0, 1, 0x0, 1, 0⟩]

/-- Fields of page SMP. -/
def rowsSMP (_ : Nat) : List Row :=
  [⟨F.SMP_TSTAT_LAST, 0x0, 1, 0x0, 1, 0⟩,
   ⟨F.SMP_CRC_CNT, 0x0, 1, 0x0, 1, 0⟩,
   ⟨F.SMP_ABANDON_CNT, 0x0, 1, 0x0, 1, 0⟩,
   ⟨F.SMP_ALERT_STAT, 0x0, 1, 0x0, 1, 0⟩,
   ⟨F.SMP_ALERT_EN, 0x0, 1, 0x0, 1, 0⟩,
   ⟨F.SMP_HOST_RECLAIM, 0x0, 1, 0x0, 1, 0⟩,
   ⟨F.SMP_OVR_MODE_KEY, 0x0, 1, 0x0, 1, 0⟩,
   ⟨F.SMP_OVR_MODE_MODE, 0x0, 1, 0x0, 1, 0⟩,
   ⟨F.SMP_OVR_RESET_KEY, 0x0, 1, 0x0, 1, 0⟩,
   ⟨F.SMP_OVR_RESET_DOM, 0x0, 1, 0x0, 1, 0⟩,
   ⟨F.SMP_OVR_RESET_KIND, 0x0, 1, 0x0, 1, 0⟩,
   ⟨F.SMP_OVR_FAILOVER_KEY, 0x0, 1, 0x0, 1, 0⟩,
   ⟨F.SMP_OVR_FAILOVER_CTRL_DENY, 0x0, 1, 0x0, 1, 0⟩,
   ⟨F.SMP_OVR_FAILOVER_CTRL_GRANT, 0x0, 1, 0x0, 1, 0⟩,
   ⟨F.SMP_OVR_FAILOVER_GIVE_UP, 0x0, 1, 0x0, 1, 0⟩,
   ⟨F.SMP_OVR_LDG_SEL, 0x0, 1, 0x0, 1, 0⟩,
   ⟨F.SMP_OVR_LDG_DATA, 0x0, 1, 0x0, 1, 0⟩,
   ⟨F.SMP_OVR_LIFE_DBG, 0x0, 1, 0x0, 1, 0⟩,
   ⟨F.SMP_OVR_LIFE_LC, 0x0, 1, 0x0, 1, 0⟩,
   ⟨F.SMP_OVR_STAT_LAST, 0x0, 1, 0x0, 1, 0⟩,
   ⟨F.SMP_OVR_STAT_BUSY, 0x0, 1, 0x0, 1, 0⟩]

/-- Fields of page TIME. -/
def rowsTIME1 (_ : Nat) : List Row :=
  [⟨F.TIME_COUNT_LO, 0x0, 1, 0x0, 1, 0⟩,
   ⟨F.TIME_COUNT_HI, 0x0, 1, 0x0, 1, 0⟩,
   ⟨F.TIME_NOW_LO, 0x0, 1, 0x0, 1, 0⟩,
   ⟨F.TIME_NOW_HI, 0x0, 1, 0x0, 1, 0⟩,
   ⟨F.TIME_NOW_Q_EPOCH, 0x0, 1, 0x0, 1, 0⟩,
   ⟨F.TIME_NOW_Q_QUAL, 0x0, 1, 0x0, 1, 0⟩,
   ⟨F.TIME_EPOCH_RESTART, 0x0, 1, 0x0, 1, 0⟩,
   ⟨F.TIME_EPOCH_NUM, 0x0, 1, 0x0, 1, 0⟩,
   ⟨F.TIME_OFFSET_LO, 0x0, 1, 0x0, 1, 0⟩,
   ⟨F.TIME_OFFSET_HI, 0x0, 1, 0x0, 1, 0⟩,
   ⟨F.TIME_RATE_LO, 0x0, 1, 0x0, 1, 0⟩,
   ⟨F.TIME_RATE_HI, 0x0, 1, 0x0, 1, 0⟩,
   ⟨F.TIME_STEP_LO, 0x0, 1, 0x0, 1, 0⟩,
   ⟨F.TIME_STEP_HI, 0x0, 1, 0x0, 1, 0⟩,
   ⟨F.TIME_ANCHOR_LO, 0x0, 1, 0x0, 1, 0⟩,
   ⟨F.TIME_ANCHOR_HI, 0x0, 1, 0x0, 1, 0⟩,
   ⟨F.TIME_CONV_IN_LO, 0x0, 1, 0x0, 1, 0⟩,
   ⟨F.TIME_CONV_IN_HI, 0x0, 1, 0x0, 1, 0⟩,
   ⟨F.TIME_CONV_OUT_LO, 0x0, 1, 0x0, 1, 0⟩,
   ⟨F.TIME_CONV_OUT_HI, 0x0, 1, 0x0, 1, 0⟩,
   ⟨F.TIME_CONV_Q_DONE, 0x0, 1, 0x0, 1, 0⟩,
   ⟨F.TIME_CONV_Q_QUAL, 0x0, 1, 0x0, 1, 0⟩,
   ⟨F.TIME_SRC_SEL, 0x0, 1, 0x0, 1, 0⟩,
   ⟨F.TIME_SRC_PERIOD, 0x0, 1, 0x0, 1, 0⟩,
   ⟨F.TIME_SUP_TO, 0x0, 1, 0x0, 1, 0⟩,
   ⟨F.TIME_QSTAT_QUAL, 0x0, 1, 0x0, 1, 0⟩,
   ⟨F.TIME_QSTAT_SRC_LOST, 0x0, 1, 0x0, 1, 0⟩,
   ⟨F.TIME_QSTAT_MISSED, 0x0, 1, 0x0, 1, 0⟩,
   ⟨F.TIME_QCTL_LOCK_CLR, 0x0, 1, 0x0, 1, 0⟩,
   ⟨F.TIME_QCTL_LOCK_SET, 0x0, 1, 0x0, 1, 0⟩,
   ⟨F.TIME_FEED, 0x0, 1, 0x0, 1, 0⟩,
   ⟨F.TIME_ERR_EST, 0x0, 1, 0x0, 1, 0⟩,
   ⟨F.TIME_HOLD_DRIFT, 0x0, 1, 0x0, 1, 0⟩,
   ⟨F.TIME_QTHRESH, 0x0, 1, 0x0, 1, 0⟩,
   ⟨F.TIME_CAL_TRIM, 0x0, 1, 0x0, 1, 0⟩,
   ⟨F.TIME_CAL_TOL, 0x0, 1, 0x0, 1, 0⟩,
   ⟨F.TIME_PPS_W, 0x0, 1, 0x0, 1, 0⟩,
   ⟨F.TIME_CAL_SEC_LO, 0x0, 1, 0x0, 1, 0⟩,
   ⟨F.TIME_CAL_SEC_HI, 0x0, 1, 0x0, 1, 0⟩,
   ⟨F.TIME_CAL_SUB, 0x0, 1, 0x0, 1, 0⟩]

/-- Fields of page TIME. -/
def rowsTIME2 (_ : Nat) : List Row :=
  [⟨F.TIME_CAP_LO 0, 0x10, 3, 0x0, 1, 0⟩,
   ⟨F.TIME_CAP_HI 0, 0x10, 3, 0x0, 1, 0⟩,
   ⟨F.TIME_CAP_FLAGS_VALID 0, 0x10, 3, 0x0, 1, 0⟩,
   ⟨F.TIME_CAP_FLAGS_OVF 0, 0x10, 3, 0x0, 1, 0⟩,
   ⟨F.TIME_CAP_FLAGS_SEQ 0, 0x10, 3, 0x0, 1, 0⟩,
   ⟨F.TIME_CMP_TGT_LO 0, 0x20, 16, 0x0, 1, 0⟩,
   ⟨F.TIME_CMP_TGT_HI 0, 0x20, 16, 0x0, 1, 0⟩,
   ⟨F.TIME_CMP_PER_LO 0, 0x20, 16, 0x0, 1, 0⟩,
   ⟨F.TIME_CMP_PER_HI 0, 0x20, 16, 0x0, 1, 0⟩,
   ⟨F.TIME_CMP_CTL_PRIO 0, 0x20, 16, 0x0, 1, 0⟩,
   ⟨F.TIME_CMP_CTL_DEST 0, 0x20, 16, 0x0, 1, 0⟩,
   ⟨F.TIME_CMP_CTL_EN 0, 0x20, 16, 0x0, 1, 0⟩,
   ⟨F.TIME_CMP_STAT_SKIPPED 0, 0x20, 16, 0x0, 1, 0⟩,
   ⟨F.TIME_CMP_STAT_FIRED 0, 0x20, 16, 0x0, 1, 0⟩,
   ⟨F.TIME_CMP_PMASK_LO 0, 0x20, 16, 0x0, 1, 0⟩,
   ⟨F.TIME_CMP_PMASK_HI 0, 0x20, 16, 0x0, 1, 0⟩]

/-- Fields of page TIME. -/
def rowsTIME (b : Nat) : List Row := rowsTIME1 b ++ rowsTIME2 b

/-- Fields of page GPIO. -/
def rowsGPIO (_ : Nat) : List Row :=
  [⟨F.GPIO_ZC_CTL_EN, 0x0, 1, 0x0, 1, 0⟩,
   ⟨F.GPIO_ZC_CTL_DEGLITCH, 0x0, 1, 0x0, 1, 0⟩,
   ⟨F.GPIO_ZC_JIT_TH, 0x0, 1, 0x0, 1, 0⟩,
   ⟨F.GPIO_ZC_COMP 0, 0x20, 3, 0x0, 1, 0⟩,
   ⟨F.GPIO_ZC_LAST_LO 0, 0x20, 3, 0x0, 1, 0⟩,
   ⟨F.GPIO_ZC_LAST_HI 0, 0x20, 3, 0x0, 1, 0⟩,
   ⟨F.GPIO_ZC_PERIOD 0, 0x20, 3, 0x0, 1, 0⟩,
   ⟨F.GPIO_ZC_STAT_LOST 0, 0x20, 3, 0x0, 1, 0⟩,
   ⟨F.GPIO_ZC_STAT_HEAD 0, 0x20, 3, 0x0, 1, 0⟩,
   ⟨F.GPIO_ZC_DISCARD 0, 0x20, 3, 0x0, 1, 0⟩,
   ⟨F.GPIO_ZC_ACCEPT 0, 0x20, 3, 0x0, 1, 0⟩,
   ⟨F.GPIO_DIR, 0x0, 1, 0x0, 1, 0⟩,
   ⟨F.GPIO_OUT, 0x0, 1, 0x0, 1, 0⟩,
   ⟨F.GPIO_IN, 0x0, 1, 0x0, 1, 0⟩,
   ⟨F.GPIO_OD, 0x0, 1, 0x0, 1, 0⟩,
   ⟨F.GPIO_FUNC, 0x0, 1, 0x0, 1, 0⟩,
   ⟨F.GPIO_CMP_LO, 0x0, 1, 0x0, 1, 0⟩,
   ⟨F.GPIO_CMP_HI, 0x0, 1, 0x0, 1, 0⟩,
   ⟨F.GPIO_PULSE, 0x0, 1, 0x0, 1, 0⟩,
   ⟨F.GPIO_INT_RISE, 0x0, 1, 0x0, 1, 0⟩,
   ⟨F.GPIO_INT_FALL, 0x0, 1, 0x0, 1, 0⟩,
   ⟨F.GPIO_DRIVEN, 0x0, 1, 0x0, 1, 0⟩]

/-- Fields of page FPn. -/
def rowsFP (_ : Nat) : List Row :=
  [⟨F.FP_CTL_EN 0, 0x0, 1, 0x0, 1, 0⟩,
   ⟨F.FP_CTL_PERS 0, 0x0, 1, 0x0, 1, 0⟩,
   ⟨F.FP_CTL_OUTAGE_KEEP 0, 0x0, 1, 0x0, 1, 0⟩,
   ⟨F.FP_CTL_TX_INHIBIT 0, 0x0, 1, 0x0, 1, 0⟩,
   ⟨F.FP_FSL_STAT_STATE 0, 0x0, 1, 0x0, 1, 0⟩,
   ⟨F.FP_FSL_STAT_AFE_MISMATCH 0, 0x0, 1, 0x0, 1, 0⟩,
   ⟨F.FP_FSL_STAT_TX_ACTIVE 0, 0x0, 1, 0x0, 1, 0⟩,
   ⟨F.FP_FSL_STAT_SRC 0, 0x0, 1, 0x0, 1, 0⟩,
   ⟨F.FP_FSL_STAT_AFE_CLASS 0, 0x0, 1, 0x0, 1, 0⟩,
   ⟨F.FP_FSL_STAT_AFE_IFVER 0, 0x0, 1, 0x0, 1, 0⟩,
   ⟨F.FP_AFE_STAT_TEMP 0, 0x0, 1, 0x0, 1, 0⟩,
   ⟨F.FP_AFE_STAT_SUPPLY 0, 0x0, 1, 0x0, 1, 0⟩,
   ⟨F.FP_AFE_STAT_TX_CURR 0, 0x0, 1, 0x0, 1, 0⟩,
   ⟨F.FP_AFE_INFO_BANDS 0, 0x0, 1, 0x0, 1, 0⟩,
   ⟨F.FP_AFE_INFO_MAX_DRAW 0, 0x0, 1, 0x0, 1, 0⟩,
   ⟨F.FP_LAT_COMP 0, 0x0, 1, 0x0, 1, 0⟩,
   ⟨F.FP_LAT_EFF 0, 0x0, 1, 0x0, 1, 0⟩,
   ⟨F.FP_TX_DRAW 0, 0x0, 1, 0x0, 1, 0⟩,
   ⟨F.FP_CRED_WAIT 0, 0x0, 1, 0x0, 1, 0⟩,
   ⟨F.FP_NODE_LIMIT 0, 0x0, 1, 0x0, 1, 0⟩,
   ⟨F.FP_NODES 0, 0x0, 1, 0x0, 1, 0⟩,
   ⟨F.FP_FSL_CRC_ERR 0, 0x0, 1, 0x0, 1, 0⟩,
   ⟨F.FP_FSL_DOWN_CNT 0, 0x0, 1, 0x0, 1, 0⟩,
   ⟨F.FP_TX_BURSTS 0, 0x0, 1, 0x0, 1, 0⟩,
   ⟨F.FP_CRED_DEFER 0, 0x0, 1, 0x0, 1, 0⟩,
   ⟨F.FP_ILIM_CNT 0, 0x0, 1, 0x0, 1, 0⟩,
   ⟨F.FP_JOIN_REFUSED 0, 0x0, 1, 0x0, 1, 0⟩,
   ⟨F.FP_LATE_CMD 0, 0x0, 1, 0x0, 1, 0⟩]

/-- Fields of page FYn. -/
def rowsFY1 (_ : Nat) : List Row :=
  [⟨F.FY_BAND_SEL 0, 0x0, 1, 0x0, 1, 0⟩,
   ⟨F.FY_COUPLE_MODE 0, 0x0, 1, 0x0, 1, 0⟩,
   ⟨F.FY_COUPLE_PHASE 0, 0x0, 1, 0x0, 1, 0⟩,
   ⟨F.FY_COUPLE_EFF 0, 0x0, 1, 0x0, 1, 0⟩,
   ⟨F.FY_TX_ATT 0, 0x0, 1, 0x0, 1, 0⟩,
   ⟨F.FY_RX_GAIN_FIXED 0, 0x0, 1, 0x0, 1, 0⟩,
   ⟨F.FY_RX_GAIN_AGC 0, 0x0, 1, 0x0, 1, 0⟩,
   ⟨F.FY_CMASK 0 0, 0x4, 3, 0x0, 1, 0⟩,
   ⟨F.FY_IMP_TH 0, 0x0, 1, 0x0, 1, 0⟩,
   ⟨F.FY_IMP_MIN_RUN 0, 0x0, 1, 0x0, 1, 0⟩,
   ⟨F.FY_IMP_GUARD 0, 0x0, 1, 0x0, 1, 0⟩,
   ⟨F.FY_LOAD_MARGIN 0, 0x0, 1, 0x0, 1, 0⟩,
   ⟨F.FY_LOAD_MAX_MODE 0, 0x0, 1, 0x0, 1, 0⟩,
   ⟨F.FY_CS_TH 0, 0x0, 1, 0x0, 1, 0⟩,
   ⟨F.FY_IMP_ALARM 0, 0x0, 1, 0x0, 1, 0⟩,
   ⟨F.FY_LAST_SNR 0, 0x0, 1, 0x0, 1, 0⟩,
   ⟨F.FY_LAST_BLANKED 0, 0x0, 1, 0x0, 1, 0⟩,
   ⟨F.FY_LAST_MODE 0, 0x0, 1, 0x0, 1, 0⟩,
   ⟨F.FY_RX_PREAMBLE 0, 0x0, 1, 0x0, 1, 0⟩,
   ⟨F.FY_RX_OK 0, 0x0, 1, 0x0, 1, 0⟩,
   ⟨F.FY_RX_HDR_ERR 0, 0x0, 1, 0x0, 1, 0⟩,
   ⟨F.FY_RX_ABORT 0, 0x0, 1, 0x0, 1, 0⟩,
   ⟨F.FY_IMP_BLANK 0, 0x0, 1, 0x0, 1, 0⟩,
   ⟨F.FY_IMP_FRAMES 0, 0x0, 1, 0x0, 1, 0⟩,
   ⟨F.FY_OVR_SLOTS 0, 0x0, 1, 0x0, 1, 0⟩,
   ⟨F.FY_SUN_PROFILE 0, 0x0, 1, 0x0, 1, 0⟩,
   ⟨F.FY_SUN_PHY 0, 0x0, 1, 0x0, 1, 0⟩,
   ⟨F.FY_SUN_MCS 0, 0x0, 1, 0x0, 1, 0⟩,
   ⟨F.FY_SUN_FEC 0, 0x0, 1, 0x0, 1, 0⟩,
   ⟨F.FY_SUN_WHITEN 0, 0x0, 1, 0x0, 1, 0⟩,
   ⟨F.FY_SUN_PREAMBLE 0, 0x0, 1, 0x0, 1, 0⟩,
   ⟨F.FY_SUN_ANT 0, 0x0, 1, 0x0, 1, 0⟩,
   ⟨F.FY_SUN_TX_ATT 0, 0x0, 1, 0x0, 1, 0⟩,
   ⟨F.FY_SUN_RX_GAIN 0, 0x0, 1, 0x0, 1, 0⟩,
   ⟨F.FY_SUN_AGC 0, 0x0, 1, 0x0, 1, 0⟩,
   ⟨F.FY_SUN_LBT_TH 0, 0x0, 1, 0x0, 1, 0⟩,
   ⟨F.FY_SUN_LBT_TIME 0, 0x0, 1, 0x0, 1, 0⟩,
   ⟨F.FY_SUN_MIN_BE 0, 0x0, 1, 0x0, 1, 0⟩,
   ⟨F.FY_SUN_MAX_BE 0, 0x0, 1, 0x0, 1, 0⟩,
   ⟨F.FY_SUN_MAX_CCA 0, 0x0, 1, 0x0, 1, 0⟩]

/-- Fields of page FYn. -/
def rowsFY2 (_ : Nat) : List Row :=
  [⟨F.FY_SUN_BO_UNIT 0, 0x0, 1, 0x0, 1, 0⟩,
   ⟨F.FY_SUN_C_FIRST 0, 0x0, 1, 0x0, 1, 0⟩,
   ⟨F.FY_SUN_C_SPACING 0, 0x0, 1, 0x0, 1, 0⟩,
   ⟨F.FY_SUN_C_N 0, 0x0, 1, 0x0, 1, 0⟩,
   ⟨F.FY_SUN_C_MIN_CH 0, 0x0, 1, 0x0, 1, 0⟩,
   ⟨F.FY_SUN_C_BURST_MAX 0, 0x0, 1, 0x0, 1, 0⟩,
   ⟨F.FY_SUN_C_DWELL_MAX 0, 0x0, 1, 0x0, 1, 0⟩,
   ⟨F.FY_SUN_C_DWELL_WIN 0, 0x0, 1, 0x0, 1, 0⟩,
   ⟨F.FY_SUN_C_DUTY 0, 0x0, 1, 0x0, 1, 0⟩,
   ⟨F.FY_SUN_C_LBT_MIN 0, 0x0, 1, 0x0, 1, 0⟩,
   ⟨F.FY_SUN_C_CONT_EXEMPT 0, 0x0, 1, 0x0, 1, 0⟩,
   ⟨F.FY_SUN_N_EFF 0, 0x0, 1, 0x0, 1, 0⟩,
   ⟨F.FY_SUN_LAST_RSSI 0, 0x0, 1, 0x0, 1, 0⟩,
   ⟨F.FY_SUN_LAST_CH 0, 0x0, 1, 0x0, 1, 0⟩,
   ⟨F.FY_SUN_RX_OK 0, 0x0, 1, 0x0, 1, 0⟩,
   ⟨F.FY_SUN_RX_PHR_ERR 0, 0x0, 1, 0x0, 1, 0⟩,
   ⟨F.FY_SUN_RX_ABORT 0, 0x0, 1, 0x0, 1, 0⟩,
   ⟨F.FY_SUN_CCA_BUSY 0, 0x0, 1, 0x0, 1, 0⟩,
   ⟨F.FY_SUN_CCA_FAIL 0, 0x0, 1, 0x0, 1, 0⟩,
   ⟨F.FY_SUN_DWELL_SKIP 0, 0x0, 1, 0x0, 1, 0⟩,
   ⟨F.FY_SUN_DUTY_SKIP 0, 0x0, 1, 0x0, 1, 0⟩,
   ⟨F.FY_SUN_DUTY_USED 0, 0x0, 1, 0x0, 1, 0⟩]

/-- Fields of page FYn. -/
def rowsFY (b : Nat) : List Row := rowsFY1 b ++ rowsFY2 b

/-- Fields of page FMn. -/
def rowsFM1 (_ : Nat) : List Row :=
  [⟨F.FM_NET_ID 0, 0x0, 1, 0x0, 1, 0⟩,
   ⟨F.FM_CW_S3 0, 0x0, 1, 0x0, 1, 0⟩,
   ⟨F.FM_CW_S2 0, 0x0, 1, 0x0, 1, 0⟩,
   ⟨F.FM_CW_S1 0, 0x0, 1, 0x0, 1, 0⟩,
   ⟨F.FM_CW_S0 0, 0x0, 1, 0x0, 1, 0⟩,
   ⟨F.FM_RETRY_MAX 0, 0x0, 1, 0x0, 1, 0⟩,
   ⟨F.FM_RETRY_MAX_DEFER 0, 0x0, 1, 0x0, 1, 0⟩,
   ⟨F.FM_RETRY_RECOVER_N 0, 0x0, 1, 0x0, 1, 0⟩,
   ⟨F.FM_ACK_TO 0, 0x0, 1, 0x0, 1, 0⟩,
   ⟨F.FM_ACK_DEADLINE 0, 0x0, 1, 0x0, 1, 0⟩,
   ⟨F.FM_BCN_PERIOD 0, 0x0, 1, 0x0, 1, 0⟩,
   ⟨F.FM_ROUTE_MAX_HOPS 0, 0x0, 1, 0x0, 1, 0⟩,
   ⟨F.FM_ROUTE_HOP_COST 0, 0x0, 1, 0x0, 1, 0⟩,
   ⟨F.FM_ROUTE_PH_PEN 0, 0x0, 1, 0x0, 1, 0⟩,
   ⟨F.FM_ROUTE_HYST 0, 0x0, 1, 0x0, 1, 0⟩,
   ⟨F.FM_RT_LIFE 0, 0x0, 1, 0x0, 1, 0⟩,
   ⟨F.FM_RT_WAIT 0, 0x0, 1, 0x0, 1, 0⟩,
   ⟨F.FM_JOIN_PERMIT 0, 0x0, 1, 0x0, 1, 0⟩,
   ⟨F.FM_RT_CNT 0, 0x0, 1, 0x0, 1, 0⟩,
   ⟨F.FM_PIB_SEL_ID 0, 0x0, 1, 0x0, 1, 0⟩,
   ⟨F.FM_PIB_SEL_ADP 0, 0x0, 1, 0x0, 1, 0⟩,
   ⟨F.FM_PIB_SEL_IDX 0, 0x0, 1, 0x0, 1, 0⟩,
   ⟨F.FM_PIB_DATA 0, 0x0, 1, 0x0, 1, 0⟩,
   ⟨F.FM_PIB_STAT 0, 0x0, 1, 0x0, 1, 0⟩,
   ⟨F.FM_TX_FRAMES 0, 0x0, 1, 0x0, 1, 0⟩,
   ⟨F.FM_TX_RETRY 0, 0x0, 1, 0x0, 1, 0⟩,
   ⟨F.FM_TX_FAIL 0, 0x0, 1, 0x0, 1, 0⟩,
   ⟨F.FM_CA_FAIL 0, 0x0, 1, 0x0, 1, 0⟩,
   ⟨F.FM_ACK_WITHHELD 0, 0x0, 1, 0x0, 1, 0⟩,
   ⟨F.FM_RX_HOLD_DROP 0, 0x0, 1, 0x0, 1, 0⟩,
   ⟨F.FM_RT_MISS 0, 0x0, 1, 0x0, 1, 0⟩,
   ⟨F.FM_FALLBACK 0, 0x0, 1, 0x0, 1, 0⟩,
   ⟨F.FM_RT_SEL 0, 0x0, 1, 0x0, 1, 0⟩,
   ⟨F.FM_RT_DATA0 0, 0x0, 1, 0x0, 1, 0⟩,
   ⟨F.FM_RT_DATA1 0, 0x0, 1, 0x0, 1, 0⟩,
   ⟨F.FM_SUN_ROLE 0, 0x0, 1, 0x0, 1, 0⟩,
   ⟨F.FM_SUN_JOIN_PERMIT 0, 0x0, 1, 0x0, 1, 0⟩,
   ⟨F.FM_SUN_NET_ID 0, 0x0, 1, 0x0, 1, 0⟩,
   ⟨F.FM_SUN_ES 0, 0x0, 1, 0x0, 1, 0⟩,
   ⟨F.FM_SUN_CI_EXP 0, 0x0, 1, 0x0, 1, 0⟩]

/-- Fields of page FMn. -/
def rowsFM2 (_ : Nat) : List Row :=
  [⟨F.FM_SUN_HOP 0, 0x0, 1, 0x0, 1, 0⟩,
   ⟨F.FM_SUN_SEED 0, 0x0, 1, 0x0, 1, 0⟩,
   ⟨F.FM_SUN_HOP_EFF 0, 0x0, 1, 0x0, 1, 0⟩,
   ⟨F.FM_SUN_BCN_CHk 0, 0x0, 1, 0x0, 1, 0⟩,
   ⟨F.FM_SUN_BCN_NUM 0, 0x0, 1, 0x0, 1, 0⟩,
   ⟨F.FM_SUN_GUARD 0, 0x0, 1, 0x0, 1, 0⟩,
   ⟨F.FM_SUN_ANCHOR_WIN 0, 0x0, 1, 0x0, 1, 0⟩,
   ⟨F.FM_SUN_TIFS 0, 0x0, 1, 0x0, 1, 0⟩,
   ⟨F.FM_SUN_ACK_DEADLINE 0, 0x0, 1, 0x0, 1, 0⟩,
   ⟨F.FM_SUN_SUP_TO 0, 0x0, 1, 0x0, 1, 0⟩,
   ⟨F.FM_SUN_RETRY 0, 0x0, 1, 0x0, 1, 0⟩,
   ⟨F.FM_SUN_BUSY_EV 0, 0x0, 1, 0x0, 1, 0⟩,
   ⟨F.FM_SUN_CHMAP 0 0, 0x4, 5, 0x0, 1, 0⟩,
   ⟨F.FM_SUN_MAP_CTL_APPLY 0, 0x0, 1, 0x0, 1, 0⟩,
   ⟨F.FM_SUN_MAP_CTL_AUTO 0, 0x0, 1, 0x0, 1, 0⟩,
   ⟨F.FM_SUN_MAP_VER 0, 0x0, 1, 0x0, 1, 0⟩,
   ⟨F.FM_SUN_MAP_PEND 0, 0x0, 1, 0x0, 1, 0⟩,
   ⟨F.FM_SUN_CHMAP_EFF 0 0, 0x4, 5, 0x0, 1, 0⟩,
   ⟨F.FM_SUN_EC_LO 0, 0x0, 1, 0x0, 1, 0⟩,
   ⟨F.FM_SUN_EC_HI 0, 0x0, 1, 0x0, 1, 0⟩,
   ⟨F.FM_SUN_MSTATE 0, 0x0, 1, 0x0, 1, 0⟩,
   ⟨F.FM_SUN_MISSED 0, 0x0, 1, 0x0, 1, 0⟩,
   ⟨F.FM_SUN_MY_ADDR 0, 0x0, 1, 0x0, 1, 0⟩,
   ⟨F.FM_SUN_LAST_BCN_LO 0, 0x0, 1, 0x0, 1, 0⟩,
   ⟨F.FM_SUN_LAST_BCN_HI 0, 0x0, 1, 0x0, 1, 0⟩,
   ⟨F.FM_SUN_LAST_BCN_T_LO 0, 0x0, 1, 0x0, 1, 0⟩,
   ⟨F.FM_SUN_LAST_BCN_T_HI 0, 0x0, 1, 0x0, 1, 0⟩,
   ⟨F.FM_SUN_LAST_BCN_Q 0, 0x0, 1, 0x0, 1, 0⟩,
   ⟨F.FM_SUN_CONN_LOST 0, 0x0, 1, 0x0, 1, 0⟩,
   ⟨F.FM_SUN_SCHED_FULL 0, 0x0, 1, 0x0, 1, 0⟩,
   ⟨F.FM_SUN_MISSED_BCN 0, 0x0, 1, 0x0, 1, 0⟩,
   ⟨F.FM_SUN_RESYNC_CNT 0, 0x0, 1, 0x0, 1, 0⟩,
   ⟨F.FM_SUN_BUSY_SENT 0, 0x0, 1, 0x0, 1, 0⟩,
   ⟨F.FM_SUN_BUSY_RCVD 0, 0x0, 1, 0x0, 1, 0⟩,
   ⟨F.FM_SUN_HOLD_DROP 0, 0x0, 1, 0x0, 1, 0⟩,
   ⟨F.FM_SUN_TX_FAIL 0, 0x0, 1, 0x0, 1, 0⟩,
   ⟨F.FM_SUN_ACK_WITHHELD 0, 0x0, 1, 0x0, 1, 0⟩,
   ⟨F.FM_SUN_CONN_SEL 0, 0x0, 1, 0x0, 1, 0⟩,
   ⟨F.FM_SUN_CONN_DATA0 0, 0x0, 1, 0x0, 1, 0⟩,
   ⟨F.FM_SUN_CONN_DATA1 0, 0x0, 1, 0x0, 1, 0⟩]

/-- Fields of page FMn. -/
def rowsFM (b : Nat) : List Row := rowsFM1 b ++ rowsFM2 b

/-- Fields of page GTE. -/
def rowsGTE1 (_ : Nat) : List Row :=
  [⟨F.GTE_CTL_LINK_REQ, 0x0, 1, 0x0, 1, 0⟩,
   ⟨F.GTE_CTL_APP_REQ, 0x0, 1, 0x0, 1, 0⟩,
   ⟨F.GTE_NBR_USED, 0x0, 1, 0x0, 1, 0⟩,
   ⟨F.GTE_CKPT_PERIOD, 0x0, 1, 0x0, 1, 0⟩,
   ⟨F.GTE_ROLL_GRACE, 0x0, 1, 0x0, 1, 0⟩,
   ⟨F.GTE_JOIN_MAX, 0x0, 1, 0x0, 1, 0⟩,
   ⟨F.GTE_JOIN_TO, 0x0, 1, 0x0, 1, 0⟩,
   ⟨F.GTE_SEQ_WARN, 0x0, 1, 0x0, 1, 0⟩,
   ⟨F.GTE_NBR_SEL, 0x0, 1, 0x0, 1, 0⟩,
   ⟨F.GTE_NBR_CMD_OP, 0x0, 1, 0x0, 1, 0⟩,
   ⟨F.GTE_NBR_EUI_HI, 0x0, 1, 0x0, 1, 0⟩,
   ⟨F.GTE_NBR_EUI_LO, 0x0, 1, 0x0, 1, 0⟩,
   ⟨F.GTE_NBR_STAT_RES, 0x0, 1, 0x0, 1, 0⟩,
   ⟨F.GTE_NBR_STAT_IDX, 0x0, 1, 0x0, 1, 0⟩,
   ⟨F.GTE_NBR_DATA 0, 0x4, 16, 0x0, 1, 0⟩,
   ⟨F.GTE_INST_WRAP 0, 0x4, 10, 0x0, 1, 0⟩,
   ⟨F.GTE_INST_TGT_IDX, 0x0, 1, 0x0, 1, 0⟩,
   ⟨F.GTE_INST_TGT_KEY, 0x0, 1, 0x0, 1, 0⟩,
   ⟨F.GTE_INST_TGT_K256, 0x0, 1, 0x0, 1, 0⟩,
   ⟨F.GTE_INST_CTL_SLOT, 0x0, 1, 0x0, 1, 0⟩,
   ⟨F.GTE_INST_CTL_BUSY, 0x0, 1, 0x0, 1, 0⟩,
   ⟨F.GTE_INST_CTL_GO, 0x0, 1, 0x0, 1, 0⟩,
   ⟨F.GTE_INST_STAT, 0x0, 1, 0x0, 1, 0⟩,
   ⟨F.GTE_LINK_OK, 0x0, 1, 0x0, 1, 0⟩,
   ⟨F.GTE_DUP_RX, 0x0, 1, 0x0, 1, 0⟩,
   ⟨F.GTE_REPLAY, 0x0, 1, 0x0, 1, 0⟩,
   ⟨F.GTE_MIC_FAIL, 0x0, 1, 0x0, 1, 0⟩,
   ⟨F.GTE_UNKNOWN, 0x0, 1, 0x0, 1, 0⟩,
   ⟨F.GTE_WRONG_PORT, 0x0, 1, 0x0, 1, 0⟩,
   ⟨F.GTE_BLOCKED, 0x0, 1, 0x0, 1, 0⟩,
   ⟨F.GTE_APP_OK, 0x0, 1, 0x0, 1, 0⟩,
   ⟨F.GTE_APP_DUP, 0x0, 1, 0x0, 1, 0⟩,
   ⟨F.GTE_APP_REPLAY, 0x0, 1, 0x0, 1, 0⟩,
   ⟨F.GTE_APP_TAG_FAIL, 0x0, 1, 0x0, 1, 0⟩,
   ⟨F.GTE_APP_NO_KEY, 0x0, 1, 0x0, 1, 0⟩,
   ⟨F.GTE_APP_BAD_HDR, 0x0, 1, 0x0, 1, 0⟩,
   ⟨F.GTE_JOIN_TIMEOUT, 0x0, 1, 0x0, 1, 0⟩,
   ⟨F.GTE_JOIN_DEFER, 0x0, 1, 0x0, 1, 0⟩,
   ⟨F.GTE_REBIND, 0x0, 1, 0x0, 1, 0⟩,
   ⟨F.GTE_DN_EXHAUST, 0x0, 1, 0x0, 1, 0⟩]

/-- Fields of page GTE. -/
def rowsGTE2 (_ : Nat) : List Row :=
  [⟨F.GTE_CACHE_MISS, 0x0, 1, 0x0, 1, 0⟩]

/-- Fields of page GTE. -/
def rowsGTE (b : Nat) : List Row := rowsGTE1 b ++ rowsGTE2 b

/-- Fields of page CRU. -/
def rowsCRU1 (_ : Nat) : List Row :=
  [⟨F.CRU_CTL_SCRUB_EN, 0x0, 1, 0x0, 1, 0⟩,
   ⟨F.CRU_FREE, 0x0, 1, 0x0, 1, 0⟩,
   ⟨F.CRU_RESV, 0x0, 1, 0x0, 1, 0⟩,
   ⟨F.CRU_FREE_MIN, 0x0, 1, 0x0, 1, 0⟩,
   ⟨F.CRU_BP_TH 0, 0, 1, 0, 1, 0⟩,
   ⟨F.CRU_BP_TH 1, 0, 1, 0, 1, 0⟩,
   ⟨F.CRU_BP_TH 2, 0, 1, 0, 1, 0⟩,
   ⟨F.CRU_BP_TH 3, 0, 1, 0, 1, 0⟩,
   ⟨F.CRU_BP_TH 4, 0, 1, 0, 1, 0⟩,
   ⟨F.CRU_BP_HYST, 0x0, 1, 0x0, 1, 0⟩,
   ⟨F.CRU_BP_STAT, 0x0, 1, 0x0, 1, 0⟩,
   ⟨F.CRU_MAXC 0, 0, 1, 0, 1, 0⟩,
   ⟨F.CRU_MAXC 1, 0, 1, 0, 1, 0⟩,
   ⟨F.CRU_MAXC 2, 0, 1, 0, 1, 0⟩,
   ⟨F.CRU_MAXC 3, 0, 1, 0, 1, 0⟩,
   ⟨F.CRU_MAXC 4, 0, 1, 0, 1, 0⟩,
   ⟨F.CRU_HOST_LIM, 0x0, 1, 0x0, 1, 0⟩,
   ⟨F.CRU_SCRUB_PERIOD, 0x0, 1, 0x0, 1, 0⟩,
   ⟨F.CRU_SCRUB_PASSES, 0x0, 1, 0x0, 1, 0⟩,
   ⟨F.CRU_COMMIT_CNT, 0x0, 1, 0x0, 1, 0⟩,
   ⟨F.CRU_REWIND, 0x0, 1, 0x0, 1, 0⟩,
   ⟨F.CRU_OVERSIZE, 0x0, 1, 0x0, 1, 0⟩,
   ⟨F.CRU_POISON_DROP, 0x0, 1, 0x0, 1, 0⟩,
   ⟨F.CRU_FLUSHED, 0x0, 1, 0x0, 1, 0⟩,
   ⟨F.CRU_HWIN_ERR, 0x0, 1, 0x0, 1, 0⟩,
   ⟨F.CRU_QUAR_CNT, 0x0, 1, 0x0, 1, 0⟩,
   ⟨F.CRU_RETIRED, 0x0, 1, 0x0, 1, 0⟩,
   ⟨F.CRU_UE_LOG_VALID, 0x0, 1, 0x0, 1, 0⟩,
   ⟨F.CRU_UE_LOG_KIND, 0x0, 1, 0x0, 1, 0⟩,
   ⟨F.CRU_UE_LOG_WORD, 0x0, 1, 0x0, 1, 0⟩,
   ⟨F.CRU_UE_LOG_CELL, 0x0, 1, 0x0, 1, 0⟩,
   ⟨F.CRU_HWIN_LOG, 0x0, 1, 0x0, 1, 0⟩,
   ⟨F.CRU_BANK_CE 0, 0x4, 16, 0x0, 1, 0⟩,
   ⟨F.CRU_BANK_STAT_STATE 0, 0x4, 16, 0x0, 1, 0⟩,
   ⟨F.CRU_BANK_STAT_LIVE 0, 0x4, 16, 0x0, 1, 0⟩,
   ⟨F.CRU_BANK_STAT_QUAR 0, 0x4, 16, 0x0, 1, 0⟩,
   ⟨F.CRU_DRAIN_CTL_BANK, 0x0, 1, 0x0, 1, 0⟩,
   ⟨F.CRU_DRAIN_CTL_GO, 0x0, 1, 0x0, 1, 0⟩,
   ⟨F.CRU_DRAIN_CTL_RELEASE, 0x0, 1, 0x0, 1, 0⟩,
   ⟨F.CRU_DRAIN_STAT_RESULT, 0x0, 1, 0x0, 1, 0⟩]

/-- Fields of page CRU. -/
def rowsCRU2 (b : Nat) : List Row :=
  [⟨F.CRU_DRAIN_STAT_BUSY, 0x0, 1, 0x0, 1, 0⟩,
   ⟨F.CRU_DRAIN_STAT_MOVED, 0x0, 1, 0x0, 1, 0⟩,
   ⟨F.CRU_DRAIN_WAIT, 0x0, 1, 0x0, 1, 0⟩,
   ⟨F.CRU_DRAIN_TO, 0x0, 1, 0x0, 1, 0⟩,
   ⟨F.CRU_HCTX_ALLOC 0, 0x40, 4, 0x0, 1, 0⟩,
   ⟨F.CRU_HCTX_STAT_OPEN 0, 0x40, 4, 0x0, 1, 0⟩,
   ⟨F.CRU_HCTX_STAT_FAIL 0, 0x40, 4, 0x0, 1, 0⟩,
   ⟨F.CRU_HCTX_STAT_CELLS 0, 0x40, 4, 0x0, 1, 0⟩,
   ⟨F.CRU_HCTX_STAT_HELD 0, 0x40, 4, 0x0, 1, 0⟩,
   ⟨F.CRU_HCTX_CELL 0 0, 0x40, 4, 0x4, 8, 0⟩,
   ⟨F.CRU_HCTX_COMMIT_GO 0, 0x40, 4, 0x0, 1, 0⟩,
   ⟨F.CRU_HCTX_COMMIT_QUEUE 0, 0x40, 4, 0x0, 1, 0⟩,
   ⟨F.CRU_HCTX_COMMIT_USED 0, 0x40, 4, 0x0, 1, 0⟩,
   ⟨F.CRU_HCTX_ABORT 0, 0x40, 4, 0x0, 1, 0⟩,
   ⟨F.CRU_HCTX_POP_Q 0, 0x40, 4, 0x0, 1, 0⟩,
   ⟨F.CRU_HCTX_POP_RES_VALID 0, 0x40, 4, 0x0, 1, 0⟩,
   ⟨F.CRU_HCTX_POP_RES_CELL 0, 0x40, 4, 0x0, 1, 0⟩,
   ⟨F.CRU_HCTX_FREE_GO 0, 0x40, 4, 0x0, 1, 0⟩,
   ⟨F.CRU_HCTX_FREE_CELL 0, 0x40, 4, 0x0, 1, 0⟩,
   ⟨F.CRU_QSEL, 0x0, 1, 0x0, 1, 0⟩,
   ⟨F.CRU_QCFG_CONS b, 0x0, 1, 0x0, 1, 1⟩,
   ⟨F.CRU_QCFG_IDX b, 0x0, 1, 0x0, 1, 1⟩,
   ⟨F.CRU_QCFG_EN b, 0x0, 1, 0x0, 1, 1⟩,
   ⟨F.CRU_QWM_HIGH b, 0x0, 1, 0x0, 1, 1⟩,
   ⟨F.CRU_QWM_LOW b, 0x0, 1, 0x0, 1, 1⟩,
   ⟨F.CRU_QDEPTH_C, 0x0, 1, 0x0, 1, 0⟩,
   ⟨F.CRU_QDEPTH_P, 0x0, 1, 0x0, 1, 0⟩,
   ⟨F.CRU_QSTAT_XOFF, 0x0, 1, 0x0, 1, 0⟩,
   ⟨F.CRU_QSTAT_FAULT, 0x0, 1, 0x0, 1, 0⟩,
   ⟨F.CRU_QSEQ, 0x0, 1, 0x0, 1, 0⟩,
   ⟨F.CRU_QHT_HEAD, 0x0, 1, 0x0, 1, 0⟩,
   ⟨F.CRU_QHT_TAIL, 0x0, 1, 0x0, 1, 0⟩,
   ⟨F.CRU_QCMD_OP, 0x0, 1, 0x0, 1, 0⟩,
   ⟨F.CRU_LINK_SEL, 0x0, 1, 0x0, 1, 0⟩,
   ⟨F.CRU_LINK_DATA, 0x0, 1, 0x0, 1, 0⟩]

/-- Fields of page CRU. -/
def rowsCRU (b : Nat) : List Row := rowsCRU1 b ++ rowsCRU2 b

/-- Fields of page PLN. -/
def rowsPLN1 (b : Nat) : List Row :=
  [⟨F.PLN_CTL_FAIR_N, 0x0, 1, 0x0, 1, 0⟩,
   ⟨F.PLN_DESC_FREE, 0x0, 1, 0x0, 1, 0⟩,
   ⟨F.PLN_DFREE, 0x0, 1, 0x0, 1, 0⟩,
   ⟨F.PLN_DFREE_MIN, 0x0, 1, 0x0, 1, 0⟩,
   ⟨F.PLN_FLOW_USED, 0x0, 1, 0x0, 1, 0⟩,
   ⟨F.PLN_DBP_TH 0, 0, 1, 0, 1, 0⟩,
   ⟨F.PLN_DBP_TH 1, 0, 1, 0, 1, 0⟩,
   ⟨F.PLN_DBP_TH 2, 0, 1, 0, 1, 0⟩,
   ⟨F.PLN_DBP_TH 3, 0, 1, 0, 1, 0⟩,
   ⟨F.PLN_DBP_TH 4, 0, 1, 0, 1, 0⟩,
   ⟨F.PLN_DBP_HYST, 0x0, 1, 0x0, 1, 0⟩,
   ⟨F.PLN_INT_RSV, 0x0, 1, 0x0, 1, 0⟩,
   ⟨F.PLN_BP_STAT_DESC, 0x0, 1, 0x0, 1, 0⟩,
   ⟨F.PLN_BP_STAT_ANY, 0x0, 1, 0x0, 1, 0⟩,
   ⟨F.PLN_FIELD_VMAX, 0x0, 1, 0x0, 1, 0⟩,
   ⟨F.PLN_TASK_TO, 0x0, 1, 0x0, 1, 0⟩,
   ⟨F.PLN_ENG_EN, 0x0, 1, 0x0, 1, 0⟩,
   ⟨F.PLN_CORE_EN, 0x0, 1, 0x0, 1, 0⟩,
   ⟨F.PLN_BND_SETTLE, 0x0, 1, 0x0, 1, 0⟩,
   ⟨F.PLN_BND_MAX, 0x0, 1, 0x0, 1, 0⟩,
   ⟨F.PLN_BND_PRIO, 0x0, 1, 0x0, 1, 0⟩,
   ⟨F.PLN_BND_SUBS, 0x0, 1, 0x0, 1, 0⟩,
   ⟨F.PLN_BND_STAT_OUT, 0x0, 1, 0x0, 1, 0⟩,
   ⟨F.PLN_QSEL, 0x0, 1, 0x0, 1, 0⟩,
   ⟨F.PLN_QMAP_EN b, 0x0, 1, 0x0, 1, 2⟩,
   ⟨F.PLN_QMAP_ATOMIC b, 0x0, 1, 0x0, 1, 2⟩,
   ⟨F.PLN_QMAP_PRIO b, 0x0, 1, 0x0, 1, 2⟩,
   ⟨F.PLN_QMAP_ENTRY b, 0x0, 1, 0x0, 1, 2⟩,
   ⟨F.PLN_CREATED, 0x0, 1, 0x0, 1, 0⟩,
   ⟨F.PLN_DISPATCHED, 0x0, 1, 0x0, 1, 0⟩,
   ⟨F.PLN_CANCELLED, 0x0, 1, 0x0, 1, 0⟩,
   ⟨F.PLN_POISON, 0x0, 1, 0x0, 1, 0⟩,
   ⟨F.PLN_TIMEOUT, 0x0, 1, 0x0, 1, 0⟩,
   ⟨F.PLN_AGAIN, 0x0, 1, 0x0, 1, 0⟩,
   ⟨F.PLN_FLOW_WAIT, 0x0, 1, 0x0, 1, 0⟩,
   ⟨F.PLN_BND_LATE, 0x0, 1, 0x0, 1, 0⟩,
   ⟨F.PLN_BND_DONE, 0x0, 1, 0x0, 1, 0⟩,
   ⟨F.PLN_FAULT_LOG_VALID, 0x0, 1, 0x0, 1, 0⟩,
   ⟨F.PLN_FAULT_LOG_CAUSE, 0x0, 1, 0x0, 1, 0⟩,
   ⟨F.PLN_FAULT_LOG_CORE, 0x0, 1, 0x0, 1, 0⟩]

/-- Fields of page PLN. -/
def rowsPLN2 (_ : Nat) : List Row :=
  [⟨F.PLN_FAULT_LOG_DESC, 0x0, 1, 0x0, 1, 0⟩,
   ⟨F.PLN_DESC_SEL, 0x0, 1, 0x0, 1, 0⟩,
   ⟨F.PLN_DESC_DATA 0, 0x4, 8, 0x0, 1, 0⟩,
   ⟨F.PLN_OBS_WIN, 0x0, 1, 0x0, 1, 0⟩,
   ⟨F.PLN_OBS_SEL, 0x0, 1, 0x0, 1, 0⟩,
   ⟨F.PLN_OBS_READY, 0x0, 1, 0x0, 1, 0⟩,
   ⟨F.PLN_OBS_WAIT_MAX, 0x0, 1, 0x0, 1, 0⟩,
   ⟨F.PLN_OBS_WAIT_AVG, 0x0, 1, 0x0, 1, 0⟩,
   ⟨F.PLN_ENG_INFL 0, 0x4, 11, 0x0, 1, 0⟩,
   ⟨F.PLN_CORE_BUSY 0, 0x4, 16, 0x0, 1, 0⟩,
   ⟨F.PLN_SQ_BASE_LO 0, 0x20, 8, 0x0, 1, 0⟩,
   ⟨F.PLN_SQ_BASE_HI 0, 0x20, 8, 0x0, 1, 0⟩,
   ⟨F.PLN_CQ_BASE_LO 0, 0x20, 8, 0x0, 1, 0⟩,
   ⟨F.PLN_CQ_BASE_HI 0, 0x20, 8, 0x0, 1, 0⟩,
   ⟨F.PLN_SQ_SIZE 0, 0x20, 8, 0x0, 1, 0⟩,
   ⟨F.PLN_SQ_TAIL 0, 0x20, 8, 0x0, 1, 0⟩,
   ⟨F.PLN_SQ_HEAD 0, 0x20, 8, 0x0, 1, 0⟩,
   ⟨F.PLN_CQ_HEAD 0, 0x20, 8, 0x0, 1, 0⟩]

/-- Fields of page PLN. -/
def rowsPLN (b : Nat) : List Row := rowsPLN1 b ++ rowsPLN2 b

/-- Fields of page ASY. -/
def rowsASY (b : Nat) : List Row :=
  [⟨F.ASY_CTL_EST_EN, 0x0, 1, 0x0, 1, 0⟩,
   ⟨F.ASY_CTL_NOCLK_PROV, 0x0, 1, 0x0, 1, 0⟩,
   ⟨F.ASY_EST_MAX, 0x0, 1, 0x0, 1, 0⟩,
   ⟨F.ASY_MONO_REBASE, 0x0, 1, 0x0, 1, 0⟩,
   ⟨F.ASY_CLK_TOL, 0x0, 1, 0x0, 1, 0⟩,
   ⟨F.ASY_RS_SEL, 0x0, 1, 0x0, 1, 0⟩,
   ⟨F.ASY_RS_MIN_LO b, 0x0, 1, 0x0, 1, 3⟩,
   ⟨F.ASY_RS_MIN_HI b, 0x0, 1, 0x0, 1, 3⟩,
   ⟨F.ASY_RS_MAX_LO b, 0x0, 1, 0x0, 1, 3⟩,
   ⟨F.ASY_RS_MAX_HI b, 0x0, 1, 0x0, 1, 3⟩,
   ⟨F.ASY_RS_RATE_LO b, 0x0, 1, 0x0, 1, 3⟩,
   ⟨F.ASY_RS_RATE_HI b, 0x0, 1, 0x0, 1, 3⟩,
   ⟨F.ASY_RS_SUM_TOL b, 0x0, 1, 0x0, 1, 3⟩,
   ⟨F.ASY_RS_CTL_STRICT b, 0x0, 1, 0x0, 1, 3⟩,
   ⟨F.ASY_RS_CTL_MOD_EXP b, 0x0, 1, 0x0, 1, 3⟩,
   ⟨F.ASY_VALUES, 0x0, 1, 0x0, 1, 0⟩,
   ⟨F.ASY_NOT_VALID, 0x0, 1, 0x0, 1, 0⟩,
   ⟨F.ASY_ESTIMATES, 0x0, 1, 0x0, 1, 0⟩,
   ⟨F.ASY_DUP_SUPP, 0x0, 1, 0x0, 1, 0⟩,
   ⟨F.ASY_MONO_REBASED, 0x0, 1, 0x0, 1, 0⟩,
   ⟨F.ASY_RULE_CNT 0, 0x4, 8, 0x0, 1, 0⟩]

/-- Fields of page PRF. -/
def rowsPRF1 (b : Nat) : List Row :=
  [⟨F.PRF_CTL_FB_FORCE, 0x0, 1, 0x0, 1, 0⟩,
   ⟨F.PRF_FILE_LEN, 0x0, 1, 0x0, 1, 0⟩,
   ⟨F.PRF_GRID_OFS, 0x0, 1, 0x0, 1, 0⟩,
   ⟨F.PRF_CLOSE_LAG, 0x0, 1, 0x0, 1, 0⟩,
   ⟨F.PRF_RETAIN_D, 0x0, 1, 0x0, 1, 0⟩,
   ⟨F.PRF_FB_TH, 0x0, 1, 0x0, 1, 0⟩,
   ⟨F.PRF_STATE_FALLBACK, 0x0, 1, 0x0, 1, 0⟩,
   ⟨F.PRF_STATE_CAUSE, 0x0, 1, 0x0, 1, 0⟩,
   ⟨F.PRF_STATE_SPANS, 0x0, 1, 0x0, 1, 0⟩,
   ⟨F.PRF_OUT_BATCH, 0x0, 1, 0x0, 1, 0⟩,
   ⟨F.PRF_CH_SEL, 0x0, 1, 0x0, 1, 0⟩,
   ⟨F.PRF_CH_CFG_EN b, 0x0, 1, 0x0, 1, 4⟩,
   ⟨F.PRF_CH_CFG_KIND b, 0x0, 1, 0x0, 1, 4⟩,
   ⟨F.PRF_CH_CFG_LEN b, 0x0, 1, 0x0, 1, 4⟩,
   ⟨F.PRF_CH_CFG_RS b, 0x0, 1, 0x0, 1, 4⟩,
   ⟨F.PRF_CH_CFG_SUM_MASK b, 0x0, 1, 0x0, 1, 4⟩,
   ⟨F.PRF_CH_CFG_SCALE b, 0x0, 1, 0x0, 1, 4⟩,
   ⟨F.PRF_CH_LSLOT, 0x0, 1, 0x0, 1, 0⟩,
   ⟨F.PRF_CH_LVAL_LO, 0x0, 1, 0x0, 1, 0⟩,
   ⟨F.PRF_CH_LVAL_HI, 0x0, 1, 0x0, 1, 0⟩,
   ⟨F.PRF_Q_KEY_NODE, 0x0, 1, 0x0, 1, 0⟩,
   ⟨F.PRF_Q_KEY_UNIT, 0x0, 1, 0x0, 1, 0⟩,
   ⟨F.PRF_Q_KEY_CH, 0x0, 1, 0x0, 1, 0⟩,
   ⟨F.PRF_Q_SLOT, 0x0, 1, 0x0, 1, 0⟩,
   ⟨F.PRF_Q_CTL_GO, 0x0, 1, 0x0, 1, 0⟩,
   ⟨F.PRF_Q_CTL_BUSY, 0x0, 1, 0x0, 1, 0⟩,
   ⟨F.PRF_Q_CTL_ANNEX, 0x0, 1, 0x0, 1, 0⟩,
   ⟨F.PRF_Q_CTL_RES, 0x0, 1, 0x0, 1, 0⟩,
   ⟨F.PRF_Q_DATA 0, 0x4, 8, 0x0, 1, 0⟩,
   ⟨F.PRF_E_VAL_LO, 0x0, 1, 0x0, 1, 0⟩,
   ⟨F.PRF_E_VAL_HI, 0x0, 1, 0x0, 1, 0⟩,
   ⟨F.PRF_E_CTL_GO, 0x0, 1, 0x0, 1, 0⟩,
   ⟨F.PRF_E_CTL_RES, 0x0, 1, 0x0, 1, 0⟩,
   ⟨F.PRF_RECORDS, 0x0, 1, 0x0, 1, 0⟩,
   ⟨F.PRF_GAPS, 0x0, 1, 0x0, 1, 0⟩,
   ⟨F.PRF_LATE, 0x0, 1, 0x0, 1, 0⟩,
   ⟨F.PRF_REPEATED, 0x0, 1, 0x0, 1, 0⟩,
   ⟨F.PRF_BND_OFFGRID, 0x0, 1, 0x0, 1, 0⟩,
   ⟨F.PRF_SPAN_DROP, 0x0, 1, 0x0, 1, 0⟩,
   ⟨F.PRF_FB_ENTRIES, 0x0, 1, 0x0, 1, 0⟩]

/-- Fields of page PRF. -/
def rowsPRF2 (_ : Nat) : List Row :=
  [⟨F.PRF_SLOTS_CLOSED, 0x0, 1, 0x0, 1, 0⟩]

/-- Fields of page PRF. -/
def rowsPRF (b : Nat) : List Row := rowsPRF1 b ++ rowsPRF2 b

/-- Fields of page TAR. -/
def rowsTAR (_ : Nat) : List Row :=
  [⟨F.TAR_CTL_EN, 0x0, 1, 0x0, 1, 0⟩,
   ⟨F.TAR_GEN_ACT, 0x0, 1, 0x0, 1, 0⟩,
   ⟨F.TAR_GEN_PEND, 0x0, 1, 0x0, 1, 0⟩,
   ⟨F.TAR_ACT_MIN, 0x0, 1, 0x0, 1, 0⟩,
   ⟨F.TAR_BP_MODE, 0x0, 1, 0x0, 1, 0⟩,
   ⟨F.TAR_BP_DAY, 0x0, 1, 0x0, 1, 0⟩,
   ⟨F.TAR_BP_MIN, 0x0, 1, 0x0, 1, 0⟩,
   ⟨F.TAR_CLOSE_GRACE, 0x0, 1, 0x0, 1, 0⟩,
   ⟨F.TAR_HIST_N, 0x0, 1, 0x0, 1, 0⟩,
   ⟨F.TAR_CKPT_PERIOD, 0x0, 1, 0x0, 1, 0⟩,
   ⟨F.TAR_VZ, 0x0, 1, 0x0, 1, 0⟩,
   ⟨F.TAR_BP_END, 0x0, 1, 0x0, 1, 0⟩,
   ⟨F.TAR_CLOSE_STAT_BUSY, 0x0, 1, 0x0, 1, 0⟩,
   ⟨F.TAR_SWEEP_LEFT, 0x0, 1, 0x0, 1, 0⟩,
   ⟨F.TAR_ACCOUNTS, 0x0, 1, 0x0, 1, 0⟩,
   ⟨F.TAR_ACCRUALS, 0x0, 1, 0x0, 1, 0⟩,
   ⟨F.TAR_LATE_ACCR, 0x0, 1, 0x0, 1, 0⟩,
   ⟨F.TAR_UNBOUND, 0x0, 1, 0x0, 1, 0⟩,
   ⟨F.TAR_DEM_VOID, 0x0, 1, 0x0, 1, 0⟩,
   ⟨F.TAR_CORR_NEG, 0x0, 1, 0x0, 1, 0⟩,
   ⟨F.TAR_OLD_SET, 0x0, 1, 0x0, 1, 0⟩]

/-- Fields of page OBJ. -/
def rowsOBJ (b : Nat) : List Row :=
  [⟨F.OBJ_SESS_CHAL_LO b, 0x0, 1, 0x0, 1, 7⟩,
   ⟨F.OBJ_SESS_CHAL_HI b, 0x0, 1, 0x0, 1, 7⟩,
   ⟨F.OBJ_SESS_RESP 0 b, 0x4, 4, 0x0, 1, 7⟩,
   ⟨F.OBJ_SESS_CTL_ROLE b, 0x0, 1, 0x0, 1, 7⟩,
   ⟨F.OBJ_SESS_CTL_OPEN b, 0x0, 1, 0x0, 1, 7⟩,
   ⟨F.OBJ_SESS_CTL_CLOSE b, 0x0, 1, 0x0, 1, 7⟩,
   ⟨F.OBJ_SESS_STAT_ROLE b, 0x0, 1, 0x0, 1, 7⟩,
   ⟨F.OBJ_SESS_STAT_RES b, 0x0, 1, 0x0, 1, 7⟩,
   ⟨F.OBJ_ROLE_SLOT, 0x0, 1, 0x0, 1, 0⟩,
   ⟨F.OBJ_REQ_OBIS_HI b, 0x0, 1, 0x0, 1, 7⟩,
   ⟨F.OBJ_REQ_OBIS_LO b, 0x0, 1, 0x0, 1, 7⟩,
   ⟨F.OBJ_REQ_ACCT b, 0x0, 1, 0x0, 1, 7⟩,
   ⟨F.OBJ_REQ_CTL_GO b, 0x0, 1, 0x0, 1, 7⟩,
   ⟨F.OBJ_REQ_CTL_UNIT b, 0x0, 1, 0x0, 1, 7⟩,
   ⟨F.OBJ_REQ_CTL_ATTR b, 0x0, 1, 0x0, 1, 7⟩,
   ⟨F.OBJ_REQ_CTL_OP b, 0x0, 1, 0x0, 1, 7⟩,
   ⟨F.OBJ_REQ_CELL b, 0x0, 1, 0x0, 1, 7⟩,
   ⟨F.OBJ_REQ_ARG b, 0x0, 1, 0x0, 1, 7⟩,
   ⟨F.OBJ_REQ_STAT_BUSY b, 0x0, 1, 0x0, 1, 7⟩,
   ⟨F.OBJ_REQ_STAT_RES b, 0x0, 1, 0x0, 1, 7⟩,
   ⟨F.OBJ_RSP_DATA 0 b, 0x4, 16, 0x0, 1, 7⟩,
   ⟨F.OBJ_RSP_LEN b, 0x0, 1, 0x0, 1, 7⟩,
   ⟨F.OBJ_RSP_Q, 0x0, 1, 0x0, 1, 0⟩,
   ⟨F.OBJ_REQS, 0x0, 1, 0x0, 1, 0⟩,
   ⟨F.OBJ_DENIED, 0x0, 1, 0x0, 1, 0⟩]

/-- Fields of page LGL. -/
def rowsLGL (_ : Nat) : List Row :=
  [⟨F.LGL_CHECK_SHORT_HI, 0x0, 1, 0x0, 1, 0⟩,
   ⟨F.LGL_CHECK_SHORT_LO, 0x0, 1, 0x0, 1, 0⟩,
   ⟨F.LGL_FW_ID, 0x0, 1, 0x0, 1, 0⟩,
   ⟨F.LGL_EVT_CNT, 0x0, 1, 0x0, 1, 0⟩,
   ⟨F.LGL_EVT_HEAD, 0x0, 1, 0x0, 1, 0⟩,
   ⟨F.LGL_LOG_NEAR, 0x0, 1, 0x0, 1, 0⟩,
   ⟨F.LGL_LOG_FULL, 0x0, 1, 0x0, 1, 0⟩,
   ⟨F.LGL_STAT_RUN, 0x0, 1, 0x0, 1, 0⟩,
   ⟨F.LGL_STAT_HALTED, 0x0, 1, 0x0, 1, 0⟩,
   ⟨F.LGL_STAT_REPLAY, 0x0, 1, 0x0, 1, 0⟩,
   ⟨F.LGL_STAT_COMMIT_BUSY, 0x0, 1, 0x0, 1, 0⟩,
   ⟨F.LGL_STAT_RESULT, 0x0, 1, 0x0, 1, 0⟩,
   ⟨F.LGL_LGEN, 0x0, 1, 0x0, 1, 0⟩,
   ⟨F.LGL_LOCKSTEP_ERR, 0x0, 1, 0x0, 1, 0⟩]

/-- Fields of page HSH. -/
def rowsHSH (_ : Nat) : List Row :=
  [⟨F.HSH_COMP0, 0x0, 1, 0x0, 1, 0⟩,
   ⟨F.HSH_COMP1, 0x0, 1, 0x0, 1, 0⟩,
   ⟨F.HSH_INFL0, 0x0, 1, 0x0, 1, 0⟩,
   ⟨F.HSH_INFL1, 0x0, 1, 0x0, 1, 0⟩,
   ⟨F.HSH_HOST_OPS, 0x0, 1, 0x0, 1, 0⟩,
   ⟨F.HSH_BUSY0, 0x0, 1, 0x0, 1, 0⟩,
   ⟨F.HSH_BUSY1, 0x0, 1, 0x0, 1, 0⟩]

/-- Fields of page PKE. -/
def rowsPKE (_ : Nat) : List Row :=
  [⟨F.PKE_SIGNS, 0x0, 1, 0x0, 1, 0⟩,
   ⟨F.PKE_VERIFIES, 0x0, 1, 0x0, 1, 0⟩,
   ⟨F.PKE_VERIFY_FAIL, 0x0, 1, 0x0, 1, 0⟩,
   ⟨F.PKE_SLOT_DENY, 0x0, 1, 0x0, 1, 0⟩,
   ⟨F.PKE_INFL, 0x0, 1, 0x0, 1, 0⟩,
   ⟨F.PKE_QUEUED, 0x0, 1, 0x0, 1, 0⟩,
   ⟨F.PKE_BUSY, 0x0, 1, 0x0, 1, 0⟩]

/-- Fields of page HLM. -/
def rowsHLM (_ : Nat) : List Row :=
  [⟨F.HLM_SIGN_SLOT, 0x0, 1, 0x0, 1, 0⟩,
   ⟨F.HLM_PART_MAX, 0x0, 1, 0x0, 1, 0⟩,
   ⟨F.HLM_RETAIN_D, 0x0, 1, 0x0, 1, 0⟩,
   ⟨F.HLM_RESEAL_GRACE, 0x0, 1, 0x0, 1, 0⟩,
   ⟨F.HLM_STAT_SIGNER_OK, 0x0, 1, 0x0, 1, 0⟩,
   ⟨F.HLM_STAT_REBUILDING, 0x0, 1, 0x0, 1, 0⟩,
   ⟨F.HLM_STAT_PEND, 0x0, 1, 0x0, 1, 0⟩,
   ⟨F.HLM_SEQ_LO, 0x0, 1, 0x0, 1, 0⟩,
   ⟨F.HLM_SEQ_HI, 0x0, 1, 0x0, 1, 0⟩,
   ⟨F.HLM_RSEQ_LO, 0x0, 1, 0x0, 1, 0⟩,
   ⟨F.HLM_RSEQ_HI, 0x0, 1, 0x0, 1, 0⟩,
   ⟨F.HLM_KEYID, 0x0, 1, 0x0, 1, 0⟩,
   ⟨F.HLM_OPEN_NLEAF, 0x0, 1, 0x0, 1, 0⟩,
   ⟨F.HLM_OPEN_PART, 0x0, 1, 0x0, 1, 0⟩,
   ⟨F.HLM_LAST_DIGEST 0, 0x4, 12, 0x0, 1, 0⟩,
   ⟨F.HLM_SEALS, 0x0, 1, 0x0, 1, 0⟩,
   ⟨F.HLM_REBUILT, 0x0, 1, 0x0, 1, 0⟩,
   ⟨F.HLM_PARTS, 0x0, 1, 0x0, 1, 0⟩,
   ⟨F.HLM_RESEALS, 0x0, 1, 0x0, 1, 0⟩,
   ⟨F.HLM_UNIT_OK, 0x0, 1, 0x0, 1, 0⟩,
   ⟨F.HLM_UNIT_FAIL, 0x0, 1, 0x0, 1, 0⟩,
   ⟨F.HLM_CHAIN_BREAK, 0x0, 1, 0x0, 1, 0⟩,
   ⟨F.HLM_LATE_UNIT, 0x0, 1, 0x0, 1, 0⟩,
   ⟨F.HLM_SIGN_DENY, 0x0, 1, 0x0, 1, 0⟩,
   ⟨F.HLM_PRQ_KEY_NODE, 0x0, 1, 0x0, 1, 0⟩,
   ⟨F.HLM_PRQ_KEY_UNIT, 0x0, 1, 0x0, 1, 0⟩,
   ⟨F.HLM_PRQ_KEY_CH, 0x0, 1, 0x0, 1, 0⟩,
   ⟨F.HLM_PRQ_SLOT, 0x0, 1, 0x0, 1, 0⟩,
   ⟨F.HLM_PRQ_CTL_GO, 0x0, 1, 0x0, 1, 0⟩,
   ⟨F.HLM_PRQ_CTL_BUSY, 0x0, 1, 0x0, 1, 0⟩,
   ⟨F.HLM_PRQ_CTL_EXT, 0x0, 1, 0x0, 1, 0⟩,
   ⟨F.HLM_PRQ_CTL_ANNEX, 0x0, 1, 0x0, 1, 0⟩,
   ⟨F.HLM_PRQ_CTL_RES, 0x0, 1, 0x0, 1, 0⟩,
   ⟨F.HLM_PRQ_Q, 0x0, 1, 0x0, 1, 0⟩,
   ⟨F.HLM_PRQ_LEN, 0x0, 1, 0x0, 1, 0⟩]

/-- Fields of page TCH. -/
def rowsTCH1 (b : Nat) : List Row :=
  [⟨F.TCH_CTL_EN, 0x0, 1, 0x0, 1, 0⟩,
   ⟨F.TCH_CTL_PH_AUTO, 0x0, 1, 0x0, 1, 0⟩,
   ⟨F.TCH_CTL_MEM_AUTO, 0x0, 1, 0x0, 1, 0⟩,
   ⟨F.TCH_CTL_RES_RPT, 0x0, 1, 0x0, 1, 0⟩,
   ⟨F.TCH_LAG, 0x0, 1, 0x0, 1, 0⟩,
   ⟨F.TCH_COV_MIN, 0x0, 1, 0x0, 1, 0⟩,
   ⟨F.TCH_CUSUM_K, 0x0, 1, 0x0, 1, 0⟩,
   ⟨F.TCH_CUSUM_H, 0x0, 1, 0x0, 1, 0⟩,
   ⟨F.TCH_LEARN_N, 0x0, 1, 0x0, 1, 0⟩,
   ⟨F.TCH_PH_WIN, 0x0, 1, 0x0, 1, 0⟩,
   ⟨F.TCH_PH_QUORUM, 0x0, 1, 0x0, 1, 0⟩,
   ⟨F.TCH_PH_TOL, 0x0, 1, 0x0, 1, 0⟩,
   ⟨F.TCH_CORR_K, 0x0, 1, 0x0, 1, 0⟩,
   ⟨F.TCH_CORR_MIN, 0x0, 1, 0x0, 1, 0⟩,
   ⟨F.TCH_CORR_MARGIN, 0x0, 1, 0x0, 1, 0⟩,
   ⟨F.TCH_CORR_DAYS, 0x0, 1, 0x0, 1, 0⟩,
   ⟨F.TCH_STEP_W, 0x0, 1, 0x0, 1, 0⟩,
   ⟨F.TCH_STEP_MIN, 0x0, 1, 0x0, 1, 0⟩,
   ⟨F.TCH_ZERO_N, 0x0, 1, 0x0, 1, 0⟩,
   ⟨F.TCH_CAND_MAX, 0x0, 1, 0x0, 1, 0⟩,
   ⟨F.TCH_CKPT_PERIOD, 0x0, 1, 0x0, 1, 0⟩,
   ⟨F.TCH_RPT_Q, 0x0, 1, 0x0, 1, 0⟩,
   ⟨F.TCH_GRP_USED, 0x0, 1, 0x0, 1, 0⟩,
   ⟨F.TCH_GRP_SEL, 0x0, 1, 0x0, 1, 0⟩,
   ⟨F.TCH_GRP_CFG_EN b, 0x0, 1, 0x0, 1, 5⟩,
   ⟨F.TCH_GRP_CFG_PHASES b, 0x0, 1, 0x0, 1, 5⟩,
   ⟨F.TCH_GRP_CFG_LEN b, 0x0, 1, 0x0, 1, 5⟩,
   ⟨F.TCH_GRP_REF_NODE b, 0x0, 1, 0x0, 1, 5⟩,
   ⟨F.TCH_GRP_REF_CH_E1 b, 0x0, 1, 0x0, 1, 5⟩,
   ⟨F.TCH_GRP_REF_CH_E2 b, 0x0, 1, 0x0, 1, 5⟩,
   ⟨F.TCH_GRP_REF_CH_E3 b, 0x0, 1, 0x0, 1, 5⟩,
   ⟨F.TCH_GRP_REF_CH_V1 b, 0x0, 1, 0x0, 1, 5⟩,
   ⟨F.TCH_GRP_REF_CH_V2 b, 0x0, 1, 0x0, 1, 5⟩,
   ⟨F.TCH_GRP_REF_CH_V3 b, 0x0, 1, 0x0, 1, 5⟩,
   ⟨F.TCH_GRP_REF_CH_V_EN b, 0x0, 1, 0x0, 1, 5⟩,
   ⟨F.TCH_GRP_NBR01 b, 0x0, 1, 0x0, 1, 5⟩,
   ⟨F.TCH_GRP_NBR23 b, 0x0, 1, 0x0, 1, 5⟩,
   ⟨F.TCH_GRP_ZC_OFS b, 0x0, 1, 0x0, 1, 5⟩,
   ⟨F.TCH_GRP_MEMBERS, 0x0, 1, 0x0, 1, 0⟩,
   ⟨F.TCH_PH_SEL, 0x0, 1, 0x0, 1, 0⟩]

/-- Fields of page TCH. -/
def rowsTCH2 (b : Nat) : List Row :=
  [⟨F.TCH_MODEL_A, 0x0, 1, 0x0, 1, 0⟩,
   ⟨F.TCH_MODEL_B, 0x0, 1, 0x0, 1, 0⟩,
   ⟨F.TCH_SIGMA, 0x0, 1, 0x0, 1, 0⟩,
   ⟨F.TCH_DET_STATE, 0x0, 1, 0x0, 1, 0⟩,
   ⟨F.TCH_DET_MSRC, 0x0, 1, 0x0, 1, 0⟩,
   ⟨F.TCH_DET_LEARN_CNT, 0x0, 1, 0x0, 1, 0⟩,
   ⟨F.TCH_CUSUM_POS, 0x0, 1, 0x0, 1, 0⟩,
   ⟨F.TCH_CUSUM_NEG, 0x0, 1, 0x0, 1, 0⟩,
   ⟨F.TCH_MODEL_CTL_WRITE, 0x0, 1, 0x0, 1, 0⟩,
   ⟨F.TCH_MODEL_CTL_RELEARN, 0x0, 1, 0x0, 1, 0⟩,
   ⟨F.TCH_MODEL_CTL_HOLD, 0x0, 1, 0x0, 1, 0⟩,
   ⟨F.TCH_MODEL_CTL_RESUME, 0x0, 1, 0x0, 1, 0⟩,
   ⟨F.TCH_LAST_R, 0x0, 1, 0x0, 1, 0⟩,
   ⟨F.TCH_LAST_STATUS, 0x0, 1, 0x0, 1, 0⟩,
   ⟨F.TCH_LAST_COV, 0x0, 1, 0x0, 1, 0⟩,
   ⟨F.TCH_LAST_ISTART, 0x0, 1, 0x0, 1, 0⟩,
   ⟨F.TCH_MBR_SEL, 0x0, 1, 0x0, 1, 0⟩,
   ⟨F.TCH_MBR_CFG_NODE b, 0x0, 1, 0x0, 1, 6⟩,
   ⟨F.TCH_MBR_CFG_CH b, 0x0, 1, 0x0, 1, 6⟩,
   ⟨F.TCH_MBR_CFG_VCH b, 0x0, 1, 0x0, 1, 6⟩,
   ⟨F.TCH_MBR_CFG_V_EN b, 0x0, 1, 0x0, 1, 6⟩,
   ⟨F.TCH_MBR_CFG_CPH b, 0x0, 1, 0x0, 1, 6⟩,
   ⟨F.TCH_MBR_CFG_DIR b, 0x0, 1, 0x0, 1, 6⟩,
   ⟨F.TCH_MBR_CFG_EN b, 0x0, 1, 0x0, 1, 6⟩,
   ⟨F.TCH_MBR_STAT_LPH, 0x0, 1, 0x0, 1, 0⟩,
   ⟨F.TCH_MBR_STAT_LPH_VALID, 0x0, 1, 0x0, 1, 0⟩,
   ⟨F.TCH_MBR_STAT_MOVED, 0x0, 1, 0x0, 1, 0⟩,
   ⟨F.TCH_MBR_STAT_CLASS, 0x0, 1, 0x0, 1, 0⟩,
   ⟨F.TCH_MBR_STAT_OBS, 0x0, 1, 0x0, 1, 0⟩,
   ⟨F.TCH_MBR_CORR_R_OWN, 0x0, 1, 0x0, 1, 0⟩,
   ⟨F.TCH_MBR_CORR_R_BEST, 0x0, 1, 0x0, 1, 0⟩,
   ⟨F.TCH_MBR_BEST_GRP, 0x0, 1, 0x0, 1, 0⟩,
   ⟨F.TCH_CONTRIB, 0x0, 1, 0x0, 1, 0⟩,
   ⟨F.TCH_LATE_CONTRIB, 0x0, 1, 0x0, 1, 0⟩,
   ⟨F.TCH_CLOSES, 0x0, 1, 0x0, 1, 0⟩,
   ⟨F.TCH_UNFED, 0x0, 1, 0x0, 1, 0⟩,
   ⟨F.TCH_ALARMS, 0x0, 1, 0x0, 1, 0⟩,
   ⟨F.TCH_PH_OBS, 0x0, 1, 0x0, 1, 0⟩,
   ⟨F.TCH_PH_REJECT, 0x0, 1, 0x0, 1, 0⟩,
   ⟨F.TCH_MOVES, 0x0, 1, 0x0, 1, 0⟩]

/-- Fields of page TCH. -/
def rowsTCH3 (_ : Nat) : List Row :=
  [⟨F.TCH_CFG_REFUSED, 0x0, 1, 0x0, 1, 0⟩,
   ⟨F.TCH_RPT_LOST, 0x0, 1, 0x0, 1, 0⟩]

/-- Fields of page TCH. -/
def rowsTCH (b : Nat) : List Row := rowsTCH1 b ++ rowsTCH2 b ++ rowsTCH3 b

/-- Fields of page IGT. -/
def rowsIGT1 (_ : Nat) : List Row :=
  [⟨F.IGT_CTL_BG_EN, 0x0, 1, 0x0, 1, 0⟩,
   ⟨F.IGT_CTL_WL_EN, 0x0, 1, 0x0, 1, 0⟩,
   ⟨F.IGT_CTL_FORCE_WT, 0x0, 1, 0x0, 1, 0⟩,
   ⟨F.IGT_GEOM_CH, 0x0, 1, 0x0, 1, 0⟩,
   ⟨F.IGT_GEOM_CE, 0x0, 1, 0x0, 1, 0⟩,
   ⟨F.IGT_GEOM_LUN, 0x0, 1, 0x0, 1, 0⟩,
   ⟨F.IGT_GEOM_PLANE, 0x0, 1, 0x0, 1, 0⟩,
   ⟨F.IGT_GEOM_PAGE, 0x0, 1, 0x0, 1, 0⟩,
   ⟨F.IGT_GEOM_PPB, 0x0, 1, 0x0, 1, 0⟩,
   ⟨F.IGT_BPL, 0x0, 1, 0x0, 1, 0⟩,
   ⟨F.IGT_RAW_MIB, 0x0, 1, 0x0, 1, 0⟩,
   ⟨F.IGT_STATE_MODE, 0x0, 1, 0x0, 1, 0⟩,
   ⟨F.IGT_STATE_TIER, 0x0, 1, 0x0, 1, 0⟩,
   ⟨F.IGT_STATE_READY, 0x0, 1, 0x0, 1, 0⟩,
   ⟨F.IGT_FREE_PM, 0x0, 1, 0x0, 1, 0⟩,
   ⟨F.IGT_FREE_BLK, 0x0, 1, 0x0, 1, 0⟩,
   ⟨F.IGT_GC_BG_TH, 0x0, 1, 0x0, 1, 0⟩,
   ⟨F.IGT_GC_FG_TH, 0x0, 1, 0x0, 1, 0⟩,
   ⟨F.IGT_FG_SHARE, 0x0, 1, 0x0, 1, 0⟩,
   ⟨F.IGT_RD_LIMIT, 0x0, 1, 0x0, 1, 0⟩,
   ⟨F.IGT_REFRESH_BITS, 0x0, 1, 0x0, 1, 0⟩,
   ⟨F.IGT_VERIFY_BITS, 0x0, 1, 0x0, 1, 0⟩,
   ⟨F.IGT_RETRY_MAX, 0x0, 1, 0x0, 1, 0⟩,
   ⟨F.IGT_SCAN_DAYS, 0x0, 1, 0x0, 1, 0⟩,
   ⟨F.IGT_WL_SPREAD, 0x0, 1, 0x0, 1, 0⟩,
   ⟨F.IGT_JRNL_MIB, 0x0, 1, 0x0, 1, 0⟩,
   ⟨F.IGT_JRNL_HIGH, 0x0, 1, 0x0, 1, 0⟩,
   ⟨F.IGT_SPARE_PM, 0x0, 1, 0x0, 1, 0⟩,
   ⟨F.IGT_SPARE_NOW, 0x0, 1, 0x0, 1, 0⟩,
   ⟨F.IGT_DIRTY_MAX, 0x0, 1, 0x0, 1, 0⟩,
   ⟨F.IGT_JTAIL_MAX, 0x0, 1, 0x0, 1, 0⟩,
   ⟨F.IGT_DIRTY_EFF, 0x0, 1, 0x0, 1, 0⟩,
   ⟨F.IGT_DIRTY_NOW, 0x0, 1, 0x0, 1, 0⟩,
   ⟨F.IGT_JTAIL_NOW, 0x0, 1, 0x0, 1, 0⟩,
   ⟨F.IGT_CAP_MARGIN, 0x0, 1, 0x0, 1, 0⟩,
   ⟨F.IGT_CAP_T_HOLD, 0x0, 1, 0x0, 1, 0⟩,
   ⟨F.IGT_FLUSH_RATE, 0x0, 1, 0x0, 1, 0⟩,
   ⟨F.IGT_CAP_HOLDUP_MW, 0x0, 1, 0x0, 1, 0⟩,
   ⟨F.IGT_CAP_CTL_GO, 0x0, 1, 0x0, 1, 0⟩,
   ⟨F.IGT_CAP_CTL_EN, 0x0, 1, 0x0, 1, 0⟩]

/-- Fields of page IGT. -/
def rowsIGT2 (_ : Nat) : List Row :=
  [⟨F.IGT_CAP_CTL_PIN, 0x0, 1, 0x0, 1, 0⟩,
   ⟨F.IGT_CAP_CTL_LOAD_MW, 0x0, 1, 0x0, 1, 0⟩,
   ⟨F.IGT_CAP_PERIOD_D, 0x0, 1, 0x0, 1, 0⟩,
   ⟨F.IGT_CAP_RECHARGE_MS, 0x0, 1, 0x0, 1, 0⟩,
   ⟨F.IGT_CAP_STAT_RESULT, 0x0, 1, 0x0, 1, 0⟩,
   ⟨F.IGT_CAP_STAT_BUSY, 0x0, 1, 0x0, 1, 0⟩,
   ⟨F.IGT_CAP_STAT_T_TEST, 0x0, 1, 0x0, 1, 0⟩,
   ⟨F.IGT_CAP_LAST, 0x0, 1, 0x0, 1, 0⟩,
   ⟨F.IGT_PROG_AU, 0x0, 1, 0x0, 1, 0⟩,
   ⟨F.IGT_ERASES, 0x0, 1, 0x0, 1, 0⟩,
   ⟨F.IGT_GC_MOVED, 0x0, 1, 0x0, 1, 0⟩,
   ⟨F.IGT_REFRESHES, 0x0, 1, 0x0, 1, 0⟩,
   ⟨F.IGT_RETRIES, 0x0, 1, 0x0, 1, 0⟩,
   ⟨F.IGT_ORPHANS, 0x0, 1, 0x0, 1, 0⟩,
   ⟨F.IGT_GROWN_BAD, 0x0, 1, 0x0, 1, 0⟩,
   ⟨F.IGT_FLUSH_OK, 0x0, 1, 0x0, 1, 0⟩,
   ⟨F.IGT_FLUSH_SHORT, 0x0, 1, 0x0, 1, 0⟩,
   ⟨F.IGT_FG_MS, 0x0, 1, 0x0, 1, 0⟩,
   ⟨F.IGT_JRNL_WAIT, 0x0, 1, 0x0, 1, 0⟩,
   ⟨F.IGT_JRNL_USED, 0x0, 1, 0x0, 1, 0⟩,
   ⟨F.IGT_CE_REJECT, 0x0, 1, 0x0, 1, 0⟩]

/-- Fields of page IGT. -/
def rowsIGT (b : Nat) : List Row := rowsIGT1 b ++ rowsIGT2 b

/-- Fields of page CHN. -/
def rowsCHN (_ : Nat) : List Row :=
  [⟨F.CHN_CTL_EN_UP, 0x0, 1, 0x0, 1, 0⟩,
   ⟨F.CHN_CTL_EN_DN, 0x0, 1, 0x0, 1, 0⟩,
   ⟨F.CHN_CTL_ADDR_ACCEPT, 0x0, 1, 0x0, 1, 0⟩,
   ⟨F.CHN_ADDR, 0x0, 1, 0x0, 1, 0⟩,
   ⟨F.CHN_ADDR_PREV, 0x0, 1, 0x0, 1, 0⟩,
   ⟨F.CHN_STAT_UP, 0x0, 1, 0x0, 1, 0⟩,
   ⟨F.CHN_STAT_DN, 0x0, 1, 0x0, 1, 0⟩,
   ⟨F.CHN_STAT_NOADDR, 0x0, 1, 0x0, 1, 0⟩,
   ⟨F.CHN_STAT_ADDR_CHANGED, 0x0, 1, 0x0, 1, 0⟩,
   ⟨F.CHN_UNITS, 0x0, 1, 0x0, 1, 0⟩,
   ⟨F.CHN_MTU, 0x0, 1, 0x0, 1, 0⟩,
   ⟨F.CHN_RX_CRED, 0x0, 1, 0x0, 1, 0⟩,
   ⟨F.CHN_RTX_TO, 0x0, 1, 0x0, 1, 0⟩,
   ⟨F.CHN_LINK_TO, 0x0, 1, 0x0, 1, 0⟩,
   ⟨F.CHN_ENUM_TO, 0x0, 1, 0x0, 1, 0⟩,
   ⟨F.CHN_TBCN_PERIOD, 0x0, 1, 0x0, 1, 0⟩,
   ⟨F.CHN_BATCH_INFL, 0x0, 1, 0x0, 1, 0⟩,
   ⟨F.CHN_REQ_TO, 0x0, 1, 0x0, 1, 0⟩,
   ⟨F.CHN_UNIT_SEL, 0x0, 1, 0x0, 1, 0⟩,
   ⟨F.CHN_UNIT_STAT_STATE, 0x0, 1, 0x0, 1, 0⟩,
   ⟨F.CHN_UNIT_STAT_KEYS, 0x0, 1, 0x0, 1, 0⟩,
   ⟨F.CHN_UNIT_STAT_HELD, 0x0, 1, 0x0, 1, 0⟩,
   ⟨F.CHN_UNIT_SEQ, 0x0, 1, 0x0, 1, 0⟩,
   ⟨F.CHN_UNIT_CMD, 0x0, 1, 0x0, 1, 0⟩,
   ⟨F.CHN_UNIT_KEY, 0x0, 1, 0x0, 1, 0⟩,
   ⟨F.CHN_NODES_USED, 0x0, 1, 0x0, 1, 0⟩,
   ⟨F.CHN_TX_FRAMES, 0x0, 1, 0x0, 1, 0⟩,
   ⟨F.CHN_RX_FRAMES, 0x0, 1, 0x0, 1, 0⟩,
   ⟨F.CHN_RX_DROP, 0x0, 1, 0x0, 1, 0⟩,
   ⟨F.CHN_MIC_FAIL, 0x0, 1, 0x0, 1, 0⟩,
   ⟨F.CHN_RTX, 0x0, 1, 0x0, 1, 0⟩,
   ⟨F.CHN_LINK_DOWN_CNT, 0x0, 1, 0x0, 1, 0⟩,
   ⟨F.CHN_BATCH_REQ, 0x0, 1, 0x0, 1, 0⟩,
   ⟨F.CHN_BATCH_FAIL, 0x0, 1, 0x0, 1, 0⟩,
   ⟨F.CHN_UNREG_REC, 0x0, 1, 0x0, 1, 0⟩,
   ⟨F.CHN_TS_LO 0, 0x10, 4, 0x0, 1, 0⟩,
   ⟨F.CHN_TS_HI 0, 0x10, 4, 0x0, 1, 0⟩,
   ⟨F.CHN_TS_INFO_VALID 0, 0x10, 4, 0x0, 1, 0⟩,
   ⟨F.CHN_TS_INFO_TYPE 0, 0x10, 4, 0x0, 1, 0⟩,
   ⟨F.CHN_TS_SEQ 0, 0x10, 4, 0x0, 1, 0⟩]

/-- Fields of page ETH. -/
def rowsETH (_ : Nat) : List Row :=
  [⟨F.ETH_CTL_EN 0, 0x100, 2, 0x0, 1, 0⟩,
   ⟨F.ETH_CTL_MODE 0, 0x100, 2, 0x0, 1, 0⟩,
   ⟨F.ETH_MAC_LO 0, 0x100, 2, 0x0, 1, 0⟩,
   ⟨F.ETH_MAC_HI 0, 0x100, 2, 0x0, 1, 0⟩,
   ⟨F.ETH_MAXLEN 0, 0x100, 2, 0x0, 1, 0⟩,
   ⟨F.ETH_MC_HASH_LO 0, 0x100, 2, 0x0, 1, 0⟩,
   ⟨F.ETH_MC_HASH_HI 0, 0x100, 2, 0x0, 1, 0⟩,
   ⟨F.ETH_PAUSE_Q 0, 0x100, 2, 0x0, 1, 0⟩,
   ⟨F.ETH_PFC_EN 0, 0x100, 2, 0x0, 1, 0⟩,
   ⟨F.ETH_TXQ 0 0, 0x100, 2, 0x4, 8, 0⟩,
   ⟨F.ETH_TXQ_EN 0 0, 0x100, 2, 0x4, 8, 0⟩,
   ⟨F.ETH_STAT_LINK 0, 0x100, 2, 0x0, 1, 0⟩,
   ⟨F.ETH_STAT_SPEED 0, 0x100, 2, 0x0, 1, 0⟩,
   ⟨F.ETH_RX_FRAMES 0, 0x100, 2, 0x0, 1, 0⟩,
   ⟨F.ETH_TX_FRAMES 0, 0x100, 2, 0x0, 1, 0⟩,
   ⟨F.ETH_RX_FCS_ERR 0, 0x100, 2, 0x0, 1, 0⟩,
   ⟨F.ETH_RX_FILTERED 0, 0x100, 2, 0x0, 1, 0⟩,
   ⟨F.ETH_PAUSE_TX 0, 0x100, 2, 0x0, 1, 0⟩,
   ⟨F.ETH_PAUSE_RX 0, 0x100, 2, 0x0, 1, 0⟩,
   ⟨F.ETH_TS_LO 0 0, 0x100, 2, 0x10, 2, 0⟩,
   ⟨F.ETH_TS_HI 0 0, 0x100, 2, 0x10, 2, 0⟩,
   ⟨F.ETH_TS_INFO_VALID 0 0, 0x100, 2, 0x10, 2, 0⟩,
   ⟨F.ETH_TS_INFO_MSGTYPE 0 0, 0x100, 2, 0x10, 2, 0⟩,
   ⟨F.ETH_TS_INFO_DOMAIN 0 0, 0x100, 2, 0x10, 2, 0⟩,
   ⟨F.ETH_TS_INFO_SEQID 0 0, 0x100, 2, 0x10, 2, 0⟩,
   ⟨F.ETH_STS_OVF 0, 0x100, 2, 0x0, 1, 0⟩]

/-- Fields of page MIR. -/
def rowsMIR (_ : Nat) : List Row :=
  [⟨F.MIR_CTL_EN, 0x0, 1, 0x0, 1, 0⟩,
   ⟨F.MIR_CTL_PRELOAD, 0x0, 1, 0x0, 1, 0⟩,
   ⟨F.MIR_HB_PERIOD, 0x0, 1, 0x0, 1, 0⟩,
   ⟨F.MIR_HB_LOSS, 0x0, 1, 0x0, 1, 0⟩,
   ⟨F.MIR_SOLO_TO, 0x0, 1, 0x0, 1, 0⟩,
   ⟨F.MIR_SHIP_MAX, 0x0, 1, 0x0, 1, 0⟩,
   ⟨F.MIR_SYNC_LAG, 0x0, 1, 0x0, 1, 0⟩,
   ⟨F.MIR_HEALTH_PERIOD, 0x0, 1, 0x0, 1, 0⟩,
   ⟨F.MIR_COPY_RATE, 0x0, 1, 0x0, 1, 0⟩,
   ⟨F.MIR_MTU, 0x0, 1, 0x0, 1, 0⟩,
   ⟨F.MIR_RX_CRED, 0x0, 1, 0x0, 1, 0⟩,
   ⟨F.MIR_STAT_LINK, 0x0, 1, 0x0, 1, 0⟩,
   ⟨F.MIR_STAT_PARTNER_HB, 0x0, 1, 0x0, 1, 0⟩,
   ⟨F.MIR_STAT_SOLO, 0x0, 1, 0x0, 1, 0⟩,
   ⟨F.MIR_STAT_ELIG, 0x0, 1, 0x0, 1, 0⟩,
   ⟨F.MIR_STAT_SYNC, 0x0, 1, 0x0, 1, 0⟩,
   ⟨F.MIR_STAT_PAIR_CFG, 0x0, 1, 0x0, 1, 0⟩,
   ⟨F.MIR_TOP_LO, 0x0, 1, 0x0, 1, 0⟩,
   ⟨F.MIR_TOP_HI, 0x0, 1, 0x0, 1, 0⟩,
   ⟨F.MIR_APPLIED_LO, 0x0, 1, 0x0, 1, 0⟩,
   ⟨F.MIR_APPLIED_HI, 0x0, 1, 0x0, 1, 0⟩,
   ⟨F.MIR_LAG, 0x0, 1, 0x0, 1, 0⟩,
   ⟨F.MIR_COPY_PM, 0x0, 1, 0x0, 1, 0⟩,
   ⟨F.MIR_HEALTH 0, 0x4, 8, 0x0, 1, 0⟩,
   ⟨F.MIR_TX_REC, 0x0, 1, 0x0, 1, 0⟩,
   ⟨F.MIR_RTX, 0x0, 1, 0x0, 1, 0⟩,
   ⟨F.MIR_MIC_FAIL, 0x0, 1, 0x0, 1, 0⟩,
   ⟨F.MIR_LINK_DOWN_CNT, 0x0, 1, 0x0, 1, 0⟩,
   ⟨F.MIR_HB_MISS, 0x0, 1, 0x0, 1, 0⟩,
   ⟨F.MIR_FORK_DROP, 0x0, 1, 0x0, 1, 0⟩,
   ⟨F.MIR_FULL_COPIES, 0x0, 1, 0x0, 1, 0⟩]

/-- Fields of page CLM. -/
def rowsCLM (_ : Nat) : List Row :=
  [⟨F.CLM_SLOT, 0x0, 1, 0x0, 1, 0⟩,
   ⟨F.CLM_CLAIM, 0x0, 1, 0x0, 1, 0⟩,
   ⟨F.CLM_WIN_STAT_CLAIM, 0x0, 1, 0x0, 1, 0⟩,
   ⟨F.CLM_WIN_STAT_WIN, 0x0, 1, 0x0, 1, 0⟩,
   ⟨F.CLM_WIN_STAT_SLOT, 0x0, 1, 0x0, 1, 0⟩,
   ⟨F.CLM_WIN_STAT_ELIG, 0x0, 1, 0x0, 1, 0⟩,
   ⟨F.CLM_WIN_STAT_ROUND, 0x0, 1, 0x0, 1, 0⟩,
   ⟨F.CLM_EPOCH, 0x0, 1, 0x0, 1, 0⟩,
   ⟨F.CLM_STAT_EPOCH_SAT, 0x0, 1, 0x0, 1, 0⟩,
   ⟨F.CLM_STAT_HO_FAIL, 0x0, 1, 0x0, 1, 0⟩,
   ⟨F.CLM_PRIO_ACT, 0x0, 1, 0x0, 1, 0⟩,
   ⟨F.CLM_PRIO_SBY, 0x0, 1, 0x0, 1, 0⟩,
   ⟨F.CLM_GIVEUP_EN, 0x0, 1, 0x0, 1, 0⟩,
   ⟨F.CLM_GIVEUP_UE_N, 0x0, 1, 0x0, 1, 0⟩,
   ⟨F.CLM_GIVEUP_CAUSE, 0x0, 1, 0x0, 1, 0⟩,
   ⟨F.CLM_GIVEUP_CAUSE_REQ, 0x0, 1, 0x0, 1, 0⟩,
   ⟨F.CLM_CTL_GIVE_UP, 0x0, 1, 0x0, 1, 0⟩,
   ⟨F.CLM_CTL_HANDOVER, 0x0, 1, 0x0, 1, 0⟩,
   ⟨F.CLM_CTL_REJOIN, 0x0, 1, 0x0, 1, 0⟩,
   ⟨F.CLM_CTRL_ARB, 0x0, 1, 0x0, 1, 0⟩,
   ⟨F.CLM_CTRL_GRANT, 0x0, 1, 0x0, 1, 0⟩,
   ⟨F.CLM_CTRL_DENY, 0x0, 1, 0x0, 1, 0⟩,
   ⟨F.CLM_CTRL_EPOCH, 0x0, 1, 0x0, 1, 0⟩,
   ⟨F.CLM_CTRL_STAT, 0x0, 1, 0x0, 1, 0⟩,
   ⟨F.CLM_GPIO_ARB, 0x0, 1, 0x0, 1, 0⟩,
   ⟨F.CLM_GPIO_CTRL, 0x0, 1, 0x0, 1, 0⟩,
   ⟨F.CLM_HANDOVER_TO, 0x0, 1, 0x0, 1, 0⟩,
   ⟨F.CLM_LANE_PIN, 0x0, 1, 0x0, 1, 0⟩,
   ⟨F.CLM_ROUNDS, 0x0, 1, 0x0, 1, 0⟩,
   ⟨F.CLM_CRC_ERR, 0x0, 1, 0x0, 1, 0⟩,
   ⟨F.CLM_BUS_FAULT, 0x0, 1, 0x0, 1, 0⟩,
   ⟨F.CLM_TAKEOVERS, 0x0, 1, 0x0, 1, 0⟩,
   ⟨F.CLM_GIVEUPS, 0x0, 1, 0x0, 1, 0⟩]

/-- Fields of page SEC. -/
def rowsSEC (_ : Nat) : List Row :=
  [⟨F.SEC_ANNEAL_MS, 0x0, 1, 0x0, 1, 0⟩,
   ⟨F.SEC_ANNEAL_PASSES, 0x0, 1, 0x0, 1, 0⟩,
   ⟨F.SEC_STAT_DERIVED, 0x0, 1, 0x0, 1, 0⟩,
   ⟨F.SEC_STAT_TEST_ROOT, 0x0, 1, 0x0, 1, 0⟩,
   ⟨F.SEC_STAT_DICE, 0x0, 1, 0x0, 1, 0⟩,
   ⟨F.SEC_STAT_STK_FAIL, 0x0, 1, 0x0, 1, 0⟩,
   ⟨F.SEC_MEAS_SEL, 0x0, 1, 0x0, 1, 0⟩,
   ⟨F.SEC_MEAS 0, 0x4, 12, 0x0, 1, 0⟩,
   ⟨F.SEC_ATT_NONCE 0, 0x4, 8, 0x0, 1, 0⟩,
   ⟨F.SEC_ATT_CTL_GO, 0x0, 1, 0x0, 1, 0⟩,
   ⟨F.SEC_ATT_CTL_BUSY, 0x0, 1, 0x0, 1, 0⟩,
   ⟨F.SEC_ATT_CTL_INSTALL, 0x0, 1, 0x0, 1, 0⟩,
   ⟨F.SEC_ATT_CTL_RES, 0x0, 1, 0x0, 1, 0⟩,
   ⟨F.SEC_ATT_CTL_ITEM, 0x0, 1, 0x0, 1, 0⟩,
   ⟨F.SEC_OUT_Q, 0x0, 1, 0x0, 1, 0⟩,
   ⟨F.SEC_IN_CELL, 0x0, 1, 0x0, 1, 0⟩,
   ⟨F.SEC_TAMPER_EN, 0x0, 1, 0x0, 1, 0⟩,
   ⟨F.SEC_TAMPER_STAT, 0x0, 1, 0x0, 1, 0⟩]

/-- Fields of page KEYS. -/
def rowsKEYS (_ : Nat) : List Row :=
  [⟨F.KEYS_SEL, 0x0, 1, 0x0, 1, 0⟩,
   ⟨F.KEYS_ATTR_LO, 0x0, 1, 0x0, 1, 0⟩,
   ⟨F.KEYS_ATTR_HI, 0x0, 1, 0x0, 1, 0⟩,
   ⟨F.KEYS_INFO_TYPE, 0x0, 1, 0x0, 1, 0⟩,
   ⟨F.KEYS_INFO_ORIGIN, 0x0, 1, 0x0, 1, 0⟩,
   ⟨F.KEYS_INFO_PERSIST, 0x0, 1, 0x0, 1, 0⟩,
   ⟨F.KEYS_INFO_EXPIRED, 0x0, 1, 0x0, 1, 0⟩,
   ⟨F.KEYS_INFO_GEN, 0x0, 1, 0x0, 1, 0⟩,
   ⟨F.KEYS_IN 0, 0x4, 25, 0x0, 1, 0⟩,
   ⟨F.KEYS_CMD_GO, 0x0, 1, 0x0, 1, 0⟩,
   ⟨F.KEYS_CMD_BUSY, 0x0, 1, 0x0, 1, 0⟩,
   ⟨F.KEYS_CMD_OP, 0x0, 1, 0x0, 1, 0⟩,
   ⟨F.KEYS_CMD_KEK, 0x0, 1, 0x0, 1, 0⟩,
   ⟨F.KEYS_CMD_PERSIST, 0x0, 1, 0x0, 1, 0⟩,
   ⟨F.KEYS_CMD_TYPE, 0x0, 1, 0x0, 1, 0⟩,
   ⟨F.KEYS_RES, 0x0, 1, 0x0, 1, 0⟩,
   ⟨F.KEYS_USED, 0x0, 1, 0x0, 1, 0⟩,
   ⟨F.KEYS_DENY_CNT, 0x0, 1, 0x0, 1, 0⟩,
   ⟨F.KEYS_DENY_LOG_VALID, 0x0, 1, 0x0, 1, 0⟩,
   ⟨F.KEYS_DENY_LOG_USAGE, 0x0, 1, 0x0, 1, 0⟩,
   ⟨F.KEYS_DENY_LOG_MASTER, 0x0, 1, 0x0, 1, 0⟩,
   ⟨F.KEYS_DENY_LOG_SLOT, 0x0, 1, 0x0, 1, 0⟩]

/-- Fields of page LIFE. -/
def rowsLIFE (_ : Nat) : List Row :=
  [⟨F.LIFE_STATE, 0x0, 1, 0x0, 1, 0⟩,
   ⟨F.LIFE_SERIAL_HI, 0x0, 1, 0x0, 1, 0⟩,
   ⟨F.LIFE_SERIAL_LO, 0x0, 1, 0x0, 1, 0⟩,
   ⟨F.LIFE_CHAL_LO, 0x0, 1, 0x0, 1, 0⟩,
   ⟨F.LIFE_CHAL_HI, 0x0, 1, 0x0, 1, 0⟩,
   ⟨F.LIFE_TOKEN 0, 0x4, 24, 0x0, 1, 0⟩,
   ⟨F.LIFE_CMD_KEY, 0x0, 1, 0x0, 1, 0⟩,
   ⟨F.LIFE_CMD_TO, 0x0, 1, 0x0, 1, 0⟩,
   ⟨F.LIFE_STAT_RES, 0x0, 1, 0x0, 1, 0⟩,
   ⟨F.LIFE_STAT_BUSY, 0x0, 1, 0x0, 1, 0⟩,
   ⟨F.LIFE_STAT_DONE, 0x0, 1, 0x0, 1, 0⟩,
   ⟨F.LIFE_LAST_T, 0x0, 1, 0x0, 1, 0⟩]

/-- Fields of page DBG. -/
def rowsDBG (_ : Nat) : List Row :=
  [⟨F.DBG_LEVEL, 0x0, 1, 0x0, 1, 0⟩,
   ⟨F.DBG_PEND, 0x0, 1, 0x0, 1, 0⟩,
   ⟨F.DBG_SCAN_PEND, 0x0, 1, 0x0, 1, 0⟩,
   ⟨F.DBG_CHAL_LO, 0x0, 1, 0x0, 1, 0⟩,
   ⟨F.DBG_CHAL_HI, 0x0, 1, 0x0, 1, 0⟩,
   ⟨F.DBG_TOKEN 0, 0x4, 24, 0x0, 1, 0⟩,
   ⟨F.DBG_REQ_GO, 0x0, 1, 0x0, 1, 0⟩,
   ⟨F.DBG_REQ_SCAN, 0x0, 1, 0x0, 1, 0⟩,
   ⟨F.DBG_REQ_LEVEL, 0x0, 1, 0x0, 1, 0⟩,
   ⟨F.DBG_RES, 0x0, 1, 0x0, 1, 0⟩,
   ⟨F.DBG_SCAN_OPEN, 0x0, 1, 0x0, 1, 0⟩,
   ⟨F.DBG_SCAN_CLEARED, 0x0, 1, 0x0, 1, 0⟩,
   ⟨F.DBG_SCAN_ABORTED, 0x0, 1, 0x0, 1, 0⟩,
   ⟨F.DBG_UNLOCKS, 0x0, 1, 0x0, 1, 0⟩]

/-- Fields of page UPD. -/
def rowsUPD1 (_ : Nat) : List Row :=
  [⟨F.UPD_CTL_AUTO_FWD, 0x0, 1, 0x0, 1, 0⟩,
   ⟨F.UPD_LOAD_OFS, 0x0, 1, 0x0, 1, 0⟩,
   ⟨F.UPD_LOAD_CELL, 0x0, 1, 0x0, 1, 0⟩,
   ⟨F.UPD_LOAD_CTL_GO, 0x0, 1, 0x0, 1, 0⟩,
   ⟨F.UPD_LOAD_CTL_BUSY, 0x0, 1, 0x0, 1, 0⟩,
   ⟨F.UPD_LOAD_CTL_LAST, 0x0, 1, 0x0, 1, 0⟩,
   ⟨F.UPD_LOAD_RES, 0x0, 1, 0x0, 1, 0⟩,
   ⟨F.UPD_LOAD_ID, 0x0, 1, 0x0, 1, 0⟩,
   ⟨F.UPD_IMG_SEL, 0x0, 1, 0x0, 1, 0⟩,
   ⟨F.UPD_IMG_INFO_VALID, 0x0, 1, 0x0, 1, 0⟩,
   ⟨F.UPD_IMG_INFO_PART, 0x0, 1, 0x0, 1, 0⟩,
   ⟨F.UPD_IMG_INFO_SVN, 0x0, 1, 0x0, 1, 0⟩,
   ⟨F.UPD_IMG_VER, 0x0, 1, 0x0, 1, 0⟩,
   ⟨F.UPD_IMG_ID, 0x0, 1, 0x0, 1, 0⟩,
   ⟨F.UPD_IMG_CMD, 0x0, 1, 0x0, 1, 0⟩,
   ⟨F.UPD_BUNDLE, 0x0, 1, 0x0, 1, 0⟩,
   ⟨F.UPD_APPLY_KEY, 0x0, 1, 0x0, 1, 0⟩,
   ⟨F.UPD_APPLY_PAIR, 0x0, 1, 0x0, 1, 0⟩,
   ⟨F.UPD_APPLY_GO, 0x0, 1, 0x0, 1, 0⟩,
   ⟨F.UPD_CONFIRM_KEY, 0x0, 1, 0x0, 1, 0⟩,
   ⟨F.UPD_CONFIRM_REJECT, 0x0, 1, 0x0, 1, 0⟩,
   ⟨F.UPD_CONFIRM_GO, 0x0, 1, 0x0, 1, 0⟩,
   ⟨F.UPD_STAT_STATE, 0x0, 1, 0x0, 1, 0⟩,
   ⟨F.UPD_STAT_STEP, 0x0, 1, 0x0, 1, 0⟩,
   ⟨F.UPD_STAT_STEPS, 0x0, 1, 0x0, 1, 0⟩,
   ⟨F.UPD_STAT_CFG_LOST, 0x0, 1, 0x0, 1, 0⟩,
   ⟨F.UPD_STAT_RES, 0x0, 1, 0x0, 1, 0⟩,
   ⟨F.UPD_ORDER, 0x0, 1, 0x0, 1, 0⟩,
   ⟨F.UPD_TRIAL_TO, 0x0, 1, 0x0, 1, 0⟩,
   ⟨F.UPD_SETTLE, 0x0, 1, 0x0, 1, 0⟩,
   ⟨F.UPD_CONFIRM_TO, 0x0, 1, 0x0, 1, 0⟩,
   ⟨F.UPD_GUARD, 0x0, 1, 0x0, 1, 0⟩,
   ⟨F.UPD_STORE_MIB, 0x0, 1, 0x0, 1, 0⟩,
   ⟨F.UPD_FWD_TO, 0x0, 1, 0x0, 1, 0⟩,
   ⟨F.UPD_SVN_MIN, 0x0, 1, 0x0, 1, 0⟩,
   ⟨F.UPD_PART_ACT 0, 0x10, 5, 0x0, 1, 0⟩,
   ⟨F.UPD_PART_STATE_A 0, 0x10, 5, 0x0, 1, 0⟩,
   ⟨F.UPD_PART_STATE_B 0, 0x10, 5, 0x0, 1, 0⟩,
   ⟨F.UPD_PART_TRIALS 0, 0x10, 5, 0x0, 1, 0⟩,
   ⟨F.UPD_PART_VER_A 0, 0x10, 5, 0x0, 1, 0⟩]

/-- Fields of page UPD. -/
def rowsUPD2 (_ : Nat) : List Row :=
  [⟨F.UPD_PART_VER_B 0, 0x10, 5, 0x0, 1, 0⟩,
   ⟨F.UPD_NODE_LIST, 0x0, 1, 0x0, 1, 0⟩,
   ⟨F.UPD_NODE_BLK, 0x0, 1, 0x0, 1, 0⟩,
   ⟨F.UPD_NODE_PAR, 0x0, 1, 0x0, 1, 0⟩,
   ⟨F.UPD_NODE_TO, 0x0, 1, 0x0, 1, 0⟩,
   ⟨F.UPD_NODE_RETRY, 0x0, 1, 0x0, 1, 0⟩,
   ⟨F.UPD_NODE_DONE, 0x0, 1, 0x0, 1, 0⟩,
   ⟨F.UPD_NODE_FAIL, 0x0, 1, 0x0, 1, 0⟩,
   ⟨F.UPD_UNIT_SEL, 0x0, 1, 0x0, 1, 0⟩,
   ⟨F.UPD_UNIT_STAT_RES, 0x0, 1, 0x0, 1, 0⟩,
   ⟨F.UPD_UNIT_STAT_STATE, 0x0, 1, 0x0, 1, 0⟩,
   ⟨F.UPD_UNIT_ID, 0x0, 1, 0x0, 1, 0⟩,
   ⟨F.UPD_IMG_RX, 0x0, 1, 0x0, 1, 0⟩,
   ⟨F.UPD_VERIFY_FAIL, 0x0, 1, 0x0, 1, 0⟩,
   ⟨F.UPD_FALLBACKS, 0x0, 1, 0x0, 1, 0⟩]

/-- Fields of page UPD. -/
def rowsUPD (b : Nat) : List Row := rowsUPD1 b ++ rowsUPD2 b

/-- Fields of page MODE. -/
def rowsMODE (_ : Nat) : List Row :=
  [⟨F.MODE_CUR, 0x0, 1, 0x0, 1, 0⟩,
   ⟨F.MODE_PREV, 0x0, 1, 0x0, 1, 0⟩,
   ⟨F.MODE_TGT, 0x0, 1, 0x0, 1, 0⟩,
   ⟨F.MODE_REQ_KEY, 0x0, 1, 0x0, 1, 0⟩,
   ⟨F.MODE_REQ_MODE, 0x0, 1, 0x0, 1, 0⟩,
   ⟨F.MODE_STAT_RES, 0x0, 1, 0x0, 1, 0⟩,
   ⟨F.MODE_STAT_BUSY, 0x0, 1, 0x0, 1, 0⟩,
   ⟨F.MODE_ENTRY_LO, 0x0, 1, 0x0, 1, 0⟩,
   ⟨F.MODE_ENTRY_HI, 0x0, 1, 0x0, 1, 0⟩,
   ⟨F.MODE_BOOT_MS, 0x0, 1, 0x0, 1, 0⟩]

/-- Fields of page PWR. -/
def rowsPWR (_ : Nat) : List Row :=
  [⟨F.PWR_DOM_ON, 0x0, 1, 0x0, 1, 0⟩,
   ⟨F.PWR_DOM_FAULT, 0x0, 1, 0x0, 1, 0⟩,
   ⟨F.PWR_CTL_OUT_EN, 0x0, 1, 0x0, 1, 0⟩,
   ⟨F.PWR_OUT_DELAY, 0x0, 1, 0x0, 1, 0⟩,
   ⟨F.PWR_MAINS_DEB, 0x0, 1, 0x0, 1, 0⟩,
   ⟨F.PWR_PF_RESTORE, 0x0, 1, 0x0, 1, 0⟩,
   ⟨F.PWR_LG_Q0, 0x0, 1, 0x0, 1, 0⟩,
   ⟨F.PWR_LG_Q1, 0x0, 1, 0x0, 1, 0⟩,
   ⟨F.PWR_LG_EN, 0x0, 1, 0x0, 1, 0⟩,
   ⟨F.PWR_OUT_Q, 0x0, 1, 0x0, 1, 0⟩,
   ⟨F.PWR_MAINS_OK, 0x0, 1, 0x0, 1, 0⟩,
   ⟨F.PWR_MAINS_PF_N, 0x0, 1, 0x0, 1, 0⟩,
   ⟨F.PWR_HOLDUP_CNT, 0x0, 1, 0x0, 1, 0⟩,
   ⟨F.PWR_OUTAGE_CNT, 0x0, 1, 0x0, 1, 0⟩,
   ⟨F.PWR_HOLDUP_MS, 0x0, 1, 0x0, 1, 0⟩,
   ⟨F.PWR_RESTORES, 0x0, 1, 0x0, 1, 0⟩]

/-- Fields of page ARB. -/
def rowsARB (_ : Nat) : List Row :=
  [⟨F.ARB_DOM_BUDGET, 0x0, 1, 0x0, 1, 0⟩,
   ⟨F.ARB_DOM_USED, 0x0, 1, 0x0, 1, 0⟩,
   ⟨F.ARB_TX_BUDGET, 0x0, 1, 0x0, 1, 0⟩,
   ⟨F.ARB_TX_BUDGET_OUT, 0x0, 1, 0x0, 1, 0⟩,
   ⟨F.ARB_ACK_RSV, 0x0, 1, 0x0, 1, 0⟩,
   ⟨F.ARB_STARVE, 0x0, 1, 0x0, 1, 0⟩,
   ⟨F.ARB_TX_USED, 0x0, 1, 0x0, 1, 0⟩,
   ⟨F.ARB_ACK_USED, 0x0, 1, 0x0, 1, 0⟩,
   ⟨F.ARB_TX_PEAK, 0x0, 1, 0x0, 1, 0⟩,
   ⟨F.ARB_WAITING, 0x0, 1, 0x0, 1, 0⟩,
   ⟨F.ARB_GRANTS, 0x0, 1, 0x0, 1, 0⟩,
   ⟨F.ARB_WITHDRAWN, 0x0, 1, 0x0, 1, 0⟩,
   ⟨F.ARB_ACK_DENY, 0x0, 1, 0x0, 1, 0⟩,
   ⟨F.ARB_DOM_DEFER, 0x0, 1, 0x0, 1, 0⟩]

/-- Fields of page CLK. -/
def rowsCLK (_ : Nat) : List Row :=
  [⟨F.CLK_LOCK, 0x0, 1, 0x0, 1, 0⟩,
   ⟨F.CLK_REF_OK, 0x0, 1, 0x0, 1, 0⟩,
   ⟨F.CLK_REF_ERR, 0x0, 1, 0x0, 1, 0⟩,
   ⟨F.CLK_REF_TOL, 0x0, 1, 0x0, 1, 0⟩,
   ⟨F.CLK_GATE_STAT, 0x0, 1, 0x0, 1, 0⟩,
   ⟨F.CLK_APP_DIV, 0x0, 1, 0x0, 1, 0⟩]

/-- Fields of page RST. -/
def rowsRST (_ : Nat) : List Row :=
  [⟨F.RST_LAST_CAUSE, 0x0, 1, 0x0, 1, 0⟩,
   ⟨F.RST_LAST_SRC, 0x0, 1, 0x0, 1, 0⟩,
   ⟨F.RST_LAST_KEPT, 0x0, 1, 0x0, 1, 0⟩,
   ⟨F.RST_LAST_C_LO, 0x0, 1, 0x0, 1, 0⟩,
   ⟨F.RST_LAST_C_HI, 0x0, 1, 0x0, 1, 0⟩,
   ⟨F.RST_CNT 0, 0x4, 5, 0x0, 1, 0⟩,
   ⟨F.RST_DOM_SEL, 0x0, 1, 0x0, 1, 0⟩,
   ⟨F.RST_DOM_CNT, 0x0, 1, 0x0, 1, 0⟩,
   ⟨F.RST_SWF_KEY, 0x0, 1, 0x0, 1, 0⟩,
   ⟨F.RST_SWF_GO, 0x0, 1, 0x0, 1, 0⟩,
   ⟨F.RST_WDT_PERIOD, 0x0, 1, 0x0, 1, 0⟩,
   ⟨F.RST_WDT_KICK, 0x0, 1, 0x0, 1, 0⟩,
   ⟨F.RST_PRE_FLUSH, 0x0, 1, 0x0, 1, 0⟩,
   ⟨F.RST_KEPT_LOST, 0x0, 1, 0x0, 1, 0⟩]

/-- Fields of page PST. -/
def rowsPST (_ : Nat) : List Row :=
  [⟨F.PST_CTL_EN, 0x0, 1, 0x0, 1, 0⟩,
   ⟨F.PST_PERIOD, 0x0, 1, 0x0, 1, 0⟩,
   ⟨F.PST_ISO_WAIT, 0x0, 1, 0x0, 1, 0⟩,
   ⟨F.PST_CRU_RET_MAX, 0x0, 1, 0x0, 1, 0⟩,
   ⟨F.PST_MASK 0, 0x4, 4, 0x0, 1, 0⟩,
   ⟨F.PST_OUT 0, 0x4, 4, 0x0, 1, 0⟩,
   ⟨F.PST_COVERAGE, 0x0, 1, 0x0, 1, 0⟩,
   ⟨F.PST_NEXT, 0x0, 1, 0x0, 1, 0⟩,
   ⟨F.PST_SLICES, 0x0, 1, 0x0, 1, 0⟩,
   ⟨F.PST_SKIPS, 0x0, 1, 0x0, 1, 0⟩,
   ⟨F.PST_FAILS, 0x0, 1, 0x0, 1, 0⟩,
   ⟨F.PST_ABORTS, 0x0, 1, 0x0, 1, 0⟩,
   ⟨F.PST_FAIL_LOG_VALID, 0x0, 1, 0x0, 1, 0⟩,
   ⟨F.PST_FAIL_LOG_CODE, 0x0, 1, 0x0, 1, 0⟩,
   ⟨F.PST_FAIL_LOG_UNIT, 0x0, 1, 0x0, 1, 0⟩,
   ⟨F.PST_UNIT_SEL, 0x0, 1, 0x0, 1, 0⟩,
   ⟨F.PST_UNIT_STAT_STATE, 0x0, 1, 0x0, 1, 0⟩,
   ⟨F.PST_UNIT_STAT_LAST, 0x0, 1, 0x0, 1, 0⟩,
   ⟨F.PST_UNIT_STAT_AGE, 0x0, 1, 0x0, 1, 0⟩,
   ⟨F.PST_UNIT_CMD_RETEST, 0x0, 1, 0x0, 1, 0⟩,
   ⟨F.PST_FULL_CTL_GO, 0x0, 1, 0x0, 1, 0⟩,
   ⟨F.PST_FULL_CTL_RES, 0x0, 1, 0x0, 1, 0⟩,
   ⟨F.PST_FULL_CTL_BUSY, 0x0, 1, 0x0, 1, 0⟩]

/-- Fields of page LDG. -/
def rowsLDG (_ : Nat) : List Row :=
  [⟨F.LDG_WARN_D, 0x0, 1, 0x0, 1, 0⟩,
   ⟨F.LDG_TJ, 0x0, 1, 0x0, 1, 0⟩,
   ⟨F.LDG_BAND, 0x0, 1, 0x0, 1, 0⟩,
   ⟨F.LDG_STAT_TIME_GAP, 0x0, 1, 0x0, 1, 0⟩,
   ⟨F.LDG_STAT_NO_STORE, 0x0, 1, 0x0, 1, 0⟩,
   ⟨F.LDG_STAT_PRED, 0x0, 1, 0x0, 1, 0⟩,
   ⟨F.LDG_SUCC_CTL_KEY, 0x0, 1, 0x0, 1, 0⟩,
   ⟨F.LDG_SUCC_CTL_LAST, 0x0, 1, 0x0, 1, 0⟩,
   ⟨F.LDG_SUCC_CTL_GO, 0x0, 1, 0x0, 1, 0⟩,
   ⟨F.LDG_SUCC_CTL_EXPORT, 0x0, 1, 0x0, 1, 0⟩,
   ⟨F.LDG_SUCC_OFS, 0x0, 1, 0x0, 1, 0⟩,
   ⟨F.LDG_SUCC_CELL, 0x0, 1, 0x0, 1, 0⟩,
   ⟨F.LDG_SUCC_Q, 0x0, 1, 0x0, 1, 0⟩,
   ⟨F.LDG_SUCC_STAT_RES, 0x0, 1, 0x0, 1, 0⟩,
   ⟨F.LDG_SUCC_STAT_EXPORTED, 0x0, 1, 0x0, 1, 0⟩,
   ⟨F.LDG_SUCC_STAT_BUSY, 0x0, 1, 0x0, 1, 0⟩,
   ⟨F.LDG_WORD 0, 0x4, 116, 0x0, 1, 0⟩,
   ⟨F.LDG_PRED 0, 0x4, 116, 0x0, 1, 0⟩]

/-- Fields of page DSP. -/
def rowsDSP1 (_ : Nat) : List Row :=
  [⟨F.DSP_CTL_TYPE, 0x0, 1, 0x0, 1, 0⟩,
   ⟨F.DSP_CTL_COMS, 0x0, 1, 0x0, 1, 0⟩,
   ⟨F.DSP_CTL_INV, 0x0, 1, 0x0, 1, 0⟩,
   ⟨F.DSP_CTL_RAILS, 0x0, 1, 0x0, 1, 0⟩,
   ⟨F.DSP_FRAME_HZ, 0x0, 1, 0x0, 1, 0⟩,
   ⟨F.DSP_EPD_FRAME_MS, 0x0, 1, 0x0, 1, 0⟩,
   ⟨F.DSP_DISCH_MS, 0x0, 1, 0x0, 1, 0⟩,
   ⟨F.DSP_RAIL_DLY, 0x0, 1, 0x0, 1, 0⟩,
   ⟨F.DSP_FL_DUTY, 0x0, 1, 0x0, 1, 0⟩,
   ⟨F.DSP_FL_EN, 0x0, 1, 0x0, 1, 0⟩,
   ⟨F.DSP_TEMP_HOST, 0x0, 1, 0x0, 1, 0⟩,
   ⟨F.DSP_TEMP_SRC, 0x0, 1, 0x0, 1, 0⟩,
   ⟨F.DSP_TEMP_OFS, 0x0, 1, 0x0, 1, 0⟩,
   ⟨F.DSP_EPD_EDGE_LO, 0x0, 1, 0x0, 1, 0⟩,
   ⟨F.DSP_EPD_EDGE_HI, 0x0, 1, 0x0, 1, 0⟩,
   ⟨F.DSP_TEMP_STAT_BAND, 0x0, 1, 0x0, 1, 0⟩,
   ⟨F.DSP_TEMP_STAT_TEMP, 0x0, 1, 0x0, 1, 0⟩,
   ⟨F.DSP_TEMP_STAT_STALE, 0x0, 1, 0x0, 1, 0⟩,
   ⟨F.DSP_UPD_GO, 0x0, 1, 0x0, 1, 0⟩,
   ⟨F.DSP_UPD_CLEAR, 0x0, 1, 0x0, 1, 0⟩,
   ⟨F.DSP_UPD_CRC, 0x0, 1, 0x0, 1, 0⟩,
   ⟨F.DSP_UPD_STAT_RES, 0x0, 1, 0x0, 1, 0⟩,
   ⟨F.DSP_UPD_STAT_BUSY, 0x0, 1, 0x0, 1, 0⟩,
   ⟨F.DSP_UPD_STAT_CLEAR_PEND, 0x0, 1, 0x0, 1, 0⟩,
   ⟨F.DSP_UPD_STAT_LEGAL, 0x0, 1, 0x0, 1, 0⟩,
   ⟨F.DSP_AON_COMMITTED, 0x0, 1, 0x0, 1, 0⟩,
   ⟨F.DSP_AON_IMG_LO, 0x0, 1, 0x0, 1, 0⟩,
   ⟨F.DSP_AON_IMG_HI, 0x0, 1, 0x0, 1, 0⟩,
   ⟨F.DSP_FM_CRC, 0x0, 1, 0x0, 1, 0⟩,
   ⟨F.DSP_CRC_ERR, 0x0, 1, 0x0, 1, 0⟩,
   ⟨F.DSP_UPDATES, 0x0, 1, 0x0, 1, 0⟩,
   ⟨F.DSP_LEGAL_FW, 0x0, 1, 0x0, 1, 0⟩,
   ⟨F.DSP_LEGAL_CHK_HI, 0x0, 1, 0x0, 1, 0⟩,
   ⟨F.DSP_LEGAL_CHK_LO, 0x0, 1, 0x0, 1, 0⟩,
   ⟨F.DSP_DIGITS, 0x0, 1, 0x0, 1, 0⟩,
   ⟨F.DSP_LEGAL_SEG, 0x0, 1, 0x0, 1, 0⟩,
   ⟨F.DSP_LEGAL_S, 0x0, 1, 0x0, 1, 0⟩,
   ⟨F.DSP_BTN_CNT, 0x0, 1, 0x0, 1, 0⟩,
   ⟨F.DSP_FB 0, 0x4, 14, 0x0, 1, 0⟩,
   ⟨F.DSP_WAVE 0 0, 0x40, 8, 0x4, 16, 0⟩]

/-- Fields of page DSP. -/
def rowsDSP2 (_ : Nat) : List Row :=
  [⟨F.DSP_DIG 0 0, 0x10, 16, 0x4, 4, 0⟩]

/-- Fields of page DSP. -/
def rowsDSP (b : Nat) : List Row := rowsDSP1 b ++ rowsDSP2 b

/-- The fields of a page kind; port pages are named by their first page (R40). -/
def rowsOf (kind b : Nat) : List Row :=
  match kind with
  | 0x0 => rowsCHIP b
  | 0x1 => rowsMODE b
  | 0x2 => rowsPWR b
  | 0x3 => rowsARB b
  | 0x4 => rowsCLK b
  | 0x5 => rowsRST b
  | 0x6 => rowsCFG b
  | 0x8 => rowsTIME b
  | 0x10 => rowsSEC b
  | 0x11 => rowsKEYS b
  | 0x12 => rowsLIFE b
  | 0x13 => rowsDBG b
  | 0x20 => rowsCRU b
  | 0x21 => rowsPLN b
  | 0x22 => rowsGTE b
  | 0x28 => rowsASY b
  | 0x29 => rowsPRF b
  | 0x2A => rowsTAR b
  | 0x2B => rowsOBJ b
  | 0x2C => rowsLGL b
  | 0x30 => rowsHLM b
  | 0x31 => rowsPKE b
  | 0x32 => rowsHSH b
  | 0x38 => rowsTCH b
  | 0x40 => rowsIGT b
  | 0x48 => rowsCHN b
  | 0x49 => rowsETH b
  | 0x4A => rowsPCI b
  | 0x4B => rowsSMP b
  | 0x50 => rowsMIR b
  | 0x51 => rowsCLM b
  | 0x58 => rowsUPD b
  | 0x60 => rowsPST b
  | 0x61 => rowsLDG b
  | 0x68 => rowsDSP b
  | 0x69 => rowsGPIO b
  | 0x100 => rowsFP b
  | 0x140 => rowsFM b
  | 0x180 => rowsFY b
  | _ => []

end Sys2Proof.Machine
end

