-- ==== Sys2Proof/Machine/Views.lean ====
section
/-!
DEFINITION. The register fields that show something the machine holds elsewhere: what a read of them answers (the register tables of chapters 02 to 21). Every other field answers the value it stores.
-/
namespace Sys2Proof.Machine

/-- A signed value as the bits of a field of width w. -/
def asBits (w : Nat) (x : Int) : Nat := (x % (2 ^ w : Int)).toNat

/-- The letters of a page's mnemonic as PAGE_ID holds them: three, padded with a space (R45). -/
def pageMnem (p : Nat) : Nat :=
  if 0x100 ≤ p && p < 0x140 then 0x465020
  else if 0x140 ≤ p && p < 0x180 then 0x464D20
  else if 0x180 ≤ p && p < 0x1C0 then 0x465920
  else if p = Pg.CHIP then 0x434849 else if p = Pg.MODE then 0x4D4F44 else if p = Pg.PWR then 0x505752
  else if p = Pg.ARB then 0x415242 else if p = Pg.CLK then 0x434C4B else if p = Pg.RST then 0x525354
  else if p = Pg.CFG then 0x434647 else if p = Pg.TIME then 0x54494D else if p = Pg.SEC then 0x534543
  else if p = Pg.KEYS then 0x4B4559 else if p = Pg.LIFE then 0x4C4946 else if p = Pg.DBG then 0x444247
  else if p = Pg.CRU then 0x435255 else if p = Pg.PLN then 0x504C4E else if p = Pg.GTE then 0x475445
  else if p = Pg.ASY then 0x415359 else if p = Pg.PRF then 0x505246 else if p = Pg.TAR then 0x544152
  else if p = Pg.OBJ then 0x4F424A else if p = Pg.LGL then 0x4C474C else if p = Pg.HLM then 0x484C4D
  else if p = Pg.PKE then 0x504B45 else if p = Pg.HSH then 0x485348 else if p = Pg.TCH then 0x544348
  else if p = Pg.IGT then 0x494754 else if p = Pg.CHN then 0x43484E else if p = Pg.ETH then 0x455448
  else if p = Pg.PCI then 0x504349 else if p = Pg.SMP then 0x534D50 else if p = Pg.MIR then 0x4D4952
  else if p = Pg.CLM then 0x434C4D else if p = Pg.UPD then 0x555044 else if p = Pg.PST then 0x505354
  else if p = Pg.LDG then 0x4C4447 else if p = Pg.DSP then 0x445350 else if p = Pg.GPIO then 0x475049 else 0

/-- A page's capabilities: the port pages' (R132, R167), bit 0 of DSP (R556), and for the others a constant that the spec does not state (log entry 23). -/
def State.pageCap (s : State) (p : Nat) : Nat :=
  if 0x100 ≤ p && p < 0x1C0 then 7 else if p = Pg.DSP then b2n s.canShowLegal else (Config.pageCap p).toNat

/-- Is an operation of a page in progress: one that a BUSY field of the page shows (R45, log entry 24)? DEDUCED, unsafe: log entry 24. -/
def State.pageBusy (s : State) (p : Nat) : Bool :=
  if p = Pg.CFG then s.on F.CFG_CSTAT_BUSY else if p = Pg.SMP then s.on F.SMP_OVR_STAT_BUSY
  else if p = Pg.MODE then s.on F.MODE_STAT_BUSY else if p = Pg.GTE then s.on F.GTE_INST_CTL_BUSY
  else if p = Pg.CRU then s.on F.CRU_DRAIN_STAT_BUSY else if p = Pg.PRF then s.on F.PRF_Q_CTL_BUSY
  else if p = Pg.TAR then s.on F.TAR_CLOSE_STAT_BUSY else if p = Pg.OBJ then s.on (F.OBJ_REQ_STAT_BUSY 0) || s.on (F.OBJ_REQ_STAT_BUSY 1)
  else if p = Pg.LGL then s.on F.LGL_STAT_COMMIT_BUSY else if p = Pg.HLM then s.on F.HLM_PRQ_CTL_BUSY
  else if p = Pg.IGT then s.on F.IGT_CAP_STAT_BUSY else if p = Pg.LIFE then s.on F.LIFE_STAT_BUSY
  else if p = Pg.PST then s.on F.PST_FULL_CTL_BUSY else if p = Pg.DSP then s.on F.DSP_UPD_STAT_BUSY else false

/-- The computed fields of the page header (R45). STATUS.PAGE is not given a layout: a free value (log entry 1). DEDUCED, unsafe: log entry 24. -/
def State.viewsHeader (s : State) (p : Nat) : List (Fld × Nat) :=
  [(F.PAGE_ID p, pageMnem p * 256 + pageInst p), (F.CAP p, s.pageCap p), (F.STATUS_PAGE p, s.freeVal (2 ^ 24)),
   (F.STATUS_OWNER p, s.owner p), (F.STATUS_LOCKED p, b2n (s.locked p)), (F.STATUS_BUSY p, b2n (s.pageBusy p)), (F.STATUS_READY p, 1),
   (F.OWNER_OWNER p, s.owner p)]

/-- TIME (R95). -/
def State.viewsTIME (s : State) : List (Fld × Nat) :=
  let (t, e, q) := s.convert s.raw
  let c := s.tim.cur
  [(F.TIME_COUNT_LO, s.raw), (F.TIME_COUNT_HI, s.raw / 2 ^ 32), (F.TIME_NOW_LO, t), (F.TIME_NOW_HI, t / 2 ^ 32), (F.TIME_NOW_Q_EPOCH, e), (F.TIME_NOW_Q_QUAL, q.toNat),
   (F.TIME_EPOCH_NUM, c.num), (F.TIME_OFFSET_LO, c.offset), (F.TIME_OFFSET_HI, c.offset / 2 ^ 32), (F.TIME_RATE_LO, c.rate), (F.TIME_RATE_HI, c.rate / 2 ^ 32),
   (F.TIME_ANCHOR_LO, c.anchor), (F.TIME_ANCHOR_HI, c.anchor / 2 ^ 32), (F.TIME_QSTAT_QUAL, c.qual.toNat),
   (F.TIME_CAL_SEC_LO, s.calNow / 32768), (F.TIME_CAL_SEC_HI, s.calNow / 32768 / 2 ^ 32), (F.TIME_CAL_SUB, s.calNow % 32768)]

/-- GPIO (R131). -/
def State.viewsGPIO (s : State) : List (Fld × Nat) :=
  [(F.GPIO_OUT, ((List.range 16).map (fun k => if s.outLevel k then 2 ^ k else 0)).sum),
   (F.GPIO_IN, ((List.range 16).map (fun k => if s.pinIn k then 2 ^ k else 0)).sum),
   (F.GPIO_DRIVEN, ((List.range 16).map (fun k => if s.pinDriven k then 2 ^ k else 0)).sum)]

/-- FPn (R132): whether a credit is held, the latency compensation in effect, and the nodes admitted. -/
def State.viewsFP (s : State) (n : Nat) : List (Fld × Nat) :=
  [(F.FP_FSL_STAT_TX_ACTIVE n, b2n (!(s.port n).bursts.isEmpty)), (F.FP_LAT_EFF n, s.latEff n), (F.FP_NODES n, s.nodes n)]

/-- FMn: the route cache entry that RT_SEL names, in rising order of destinations (R168), the event counter, and the connection entry that CONN_SEL names, in rising order of addresses (R175). DEDUCED, unsafe: log entry 49. -/
def State.viewsFM (s : State) (n : Nat) : List (Fld × Nat) :=
  let r := (s.port n).routes[s.rd (F.FM_RT_SEL n)]?
  let c := (s.sun n).conns[s.rd (F.FM_SUN_CONN_SEL n)]?
  [(F.FM_RT_DATA0 n, match r with | some e => e.1 * 2 ^ 16 + e.2.next | none => 0),
   (F.FM_RT_DATA1 n, match r with
     | some e => e.2.cost * 2 ^ 16 + e.2.hops * 2 ^ 12 + e.2.tag * 2 ^ 10 + b2n e.2.valid * 2 ^ 9 + min 511 ((s.raw - e.2.stamp) / 15000000000) | none => 0),
   (F.FM_SUN_EC_LO n, s.sunEc n), (F.FM_SUN_EC_HI n, s.sunEc n / 2 ^ 32),
   (F.FM_SUN_CONN_DATA0 n, match c with | some e => e.2.addr * 2 ^ 16 + e.2.anchor | none => 0),
   (F.FM_SUN_CONN_DATA1 n, match c with | some e => 2 ^ 31 + e.2.e * 2 ^ 16 + min 65535 ((s.raw - e.2.lastRx) / 250000000) | none => 0)]

/-- The bits of a word of a mask of `n` bits: those beyond read 0. -/
def maskWord (n w v : Nat) : Nat := v % 2 ^ (min 32 (n - 32 * w))

/-- FMn.SUN.CHMAPw (R190): bits beyond the plan's channels read 0. -/
def State.viewsMap (s : State) (n : Nat) : List (Fld × Nat) :=
  (List.range 5).map (fun w => (F.FM_SUN_CHMAP n w, maskWord (s.sunN n) w (s.rd (F.FM_SUN_CHMAP n w))))

/-- FYn: CMASKw, whose bits beyond the band's 36 or 72 carriers read 0 (R167), and the air time used in the last hour (R189). -/
def State.viewsFY (s : State) (n : Nat) : List (Fld × Nat) :=
  let k := if s.on (F.FY_BAND_SEL n) then 72 else 36
  (List.range 3).map (fun w => (F.FY_CMASK n w, maskWord k w (s.rd (F.FY_CMASK n w)))) ++ [(F.FY_SUN_DUTY_USED n, s.dutyUsed n)]

/-- The link entry of a cell as R215 lays it out. -/
def Link.word (l : Link) : Nat :=
  (match l.st with | .free => 0 | .writing => 1 | .queued => 2 | .held => 3) * 2 ^ 30 + b2n l.host * 2 ^ 29 + l.hctx * 2 ^ 27 + b2n l.eop * 2 ^ 26 + b2n l.quar * 2 ^ 25 + l.used * 2 ^ 17 + l.next

/-- CRU (R237): the pool, the banks, the queue that QSEL names and the link entry that LINK_SEL names.  DEDUCED, unsafe: log entry 65. -/
def State.viewsCRU (s : State) : List (Fld × Nat) :=
  let q := s.queue (s.rd F.CRU_QSEL)
  [(F.CRU_FREE, s.cruFree), (F.CRU_RESV, s.cruResv), (F.CRU_BP_STAT, s.cru.bp.toNat), (F.CRU_QUAR_CNT, (s.cru.links.filter (fun e : Nat × Link => e.2.quar)).length),
   (F.CRU_HWIN_LOG, if s.rd F.CRU_HWIN_ERR = 0 then 0 else s.rd F.CRU_HWIN_LOG), (F.CRU_QDEPTH_C, q.cells), (F.CRU_QDEPTH_P, q.pkts), (F.CRU_QSTAT_XOFF, b2n q.xoff), (F.CRU_QSTAT_FAULT, b2n q.fault), (F.CRU_QSEQ, q.qseq),
   (F.CRU_QHT_HEAD, q.head), (F.CRU_QHT_TAIL, q.tail), (F.CRU_LINK_DATA, (s.link (s.rd F.CRU_LINK_SEL)).word)] ++
  (List.range 16).flatMap (fun k =>
    [(F.CRU_BANK_STAT_STATE k, if s.cru.drain = some k then 1 else if s.cru.isolated = some k then 2 else 0), (F.CRU_BANK_STAT_LIVE k, s.bankLive k),
     (F.CRU_BANK_STAT_QUAR k, (s.cru.links.filter (fun e : Nat × Link => e.1 % 16 == k && e.2.quar)).length + (s.retired.filter (fun c => c % 16 == k)).length)])

/-- PLN (R258): the tasks in flight at each engine. -/
def State.viewsPLN (s : State) : List (Fld × Nat) := (List.range 11).map (fun e => (F.PLN_ENG_INFL e, s.inFlight e))

/-- PRF (R289): the channel that CH_SEL names. -/
def State.viewsPRF (s : State) : List (Fld × Nat) :=
  let c := s.chanSt (s.rd F.PRF_CH_SEL)
  [(F.PRF_CH_LSLOT, c.lslot.getD 0), (F.PRF_CH_LVAL_LO, asBits 64 c.lval), (F.PRF_CH_LVAL_HI, asBits 64 c.lval / 2 ^ 32)]

/-- The kind of a PK_OP task (R242). -/
def kindPkOp : Nat := 12

/-- HSH and PKE (R323, R330): operations in flight and tasks that wait. How long an engine was busy is not modelled: a free value. -/
def State.viewsEng (s : State) : List (Fld × Nat) :=
  [(F.HSH_INFL0, s.inFlight 5), (F.HSH_INFL1, s.inFlight 6), (F.HSH_BUSY0, s.freeVal 1001), (F.HSH_BUSY1, Config.freeValue (s.fresh + 1) % 1001),
   (F.PKE_INFL, s.inFlight 7), (F.PKE_QUEUED, (s.pln.descs.filter (fun e : Nat × Desc => e.2.st == .ready && e.2.kind == kindPkOp)).length), (F.PKE_BUSY, s.freeVal 1001)]

/-- HLM (R346). A KEYID of a slot without a signing key is a free value. -/
def State.viewsHLM (s : State) : List (Fld × Nat) :=
  let i := s.rd F.HLM_SIGN_SLOT
  [(F.HLM_STAT_SIGNER_OK, b2n (s.keyAllows i Mst.ENG true Use.SEAL_SIGN)), (F.HLM_STAT_REBUILDING, 0),
   (F.HLM_KEYID, if (s.slot i).typ = 4 then ofBe (keyId (Config.pubKey (s.keyOf i))) else s.freeVal (2 ^ 32))]

/-- TCH (R373): the group and phase, and the member, that GRP_SEL, PH_SEL and MBR_SEL name. -/
def State.viewsTCH (s : State) : List (Fld × Nat) :=
  let g := s.selGrp
  let d := s.det g s.selPh
  let x := s.tchMbr (mbrKey g (s.rd F.TCH_MBR_SEL))
  [(F.TCH_GRP_MEMBERS, (s.groupMembers g).length), (F.TCH_MODEL_A, if d.st = 0 then 0 else d.a), (F.TCH_MODEL_B, if d.st = 0 then 0 else d.b), (F.TCH_SIGMA, d.sigma), (F.TCH_DET_STATE, d.st), (F.TCH_DET_MSRC, d.msrc),
   (F.TCH_DET_LEARN_CNT, d.fit.n), (F.TCH_CUSUM_POS, d.pos), (F.TCH_CUSUM_NEG, d.neg), (F.TCH_LAST_R, asBits 32 d.lastR), (F.TCH_LAST_STATUS, d.lastStatus),
   (F.TCH_LAST_COV, d.lastCov), (F.TCH_LAST_ISTART, d.lastIstart), (F.TCH_MBR_STAT_LPH, x.lph.getD 0), (F.TCH_MBR_STAT_LPH_VALID, b2n x.lph.isSome),
   (F.TCH_MBR_STAT_MOVED, b2n x.moved), (F.TCH_MBR_STAT_CLASS, x.classes / 2), (F.TCH_MBR_STAT_OBS, x.win.length), (F.TCH_MBR_CORR_R_OWN, asBits 16 x.rOwn),
   (F.TCH_MBR_CORR_R_BEST, asBits 16 x.rBest), (F.TCH_MBR_BEST_GRP, x.bestGrp)]

/-- CHN (R416): the unit that UNIT_SEL names. -/
def State.viewsCHN (s : State) : List (Fld × Nat) :=
  let u := s.rd F.CHN_UNIT_SEL
  let x := s.unit u
  (if s.role = 2 then [(F.CHN_ADDR, 0)] else []) ++ [(F.CHN_UNIT_STAT_STATE, if x.reachable then 1 else if (SMap.find? s.chn.units u).isSome then 2 else 0), (F.CHN_UNIT_STAT_KEYS, x.keys.length),
   (F.CHN_UNIT_STAT_HELD, x.held.length), (F.CHN_UNIT_SEQ, x.lastSeq.getD 0)]

/-- SEC (R475): the measurement of the stage that MEAS_SEL names, none reading 0. -/
def State.viewsSEC (s : State) : List (Fld × Nat) :=
  let m := SMap.getD s.sec.meas (s.rd F.SEC_MEAS_SEL) (be 48 0)
  (List.range 12).map (fun w => (F.SEC_MEAS w, field m (4 * w) 4))

/-- UPD (R497): the store entry that IMG_SEL names and the unit that UNIT_SEL names. -/
def State.viewsUPD (s : State) : List (Fld × Nat) :=
  let u := s.unitReport (s.rd F.UPD_UNIT_SEL)
  [(F.UPD_UNIT_STAT_RES, u.1), (F.UPD_UNIT_ID, u.2.1), (F.UPD_UNIT_STAT_STATE, u.2.2), (F.UPD_SVN_MIN, s.fuses.svnMin)] ++
  (match SMap.find? s.upd.store (s.rd F.UPD_IMG_SEL) with
    | some x => [(F.UPD_IMG_INFO_VALID, 1), (F.UPD_IMG_INFO_PART, hdrPart x.head), (F.UPD_IMG_INFO_SVN, hdrSvn x.head), (F.UPD_IMG_VER, hdrVersion x.head), (F.UPD_IMG_ID, imgId x.head)]
    | none => [])

/-- PST (R533): the unit that UNIT_SEL names. -/
def State.viewsPST (s : State) : List (Fld × Nat) :=
  let u := s.pstUnit (min 106 (s.rd F.PST_UNIT_SEL))
  [(F.PST_UNIT_STAT_STATE, u.st), (F.PST_UNIT_STAT_LAST, u.last), (F.PST_UNIT_STAT_AGE, match u.passAt with | some t => min 65535 ((s.ledgerTime - t) / 60) | none => 65535)]

/-- SMP (R75): the ledger word that OVR_LDG_SEL names, and the life-cycle state and debug level. -/
def State.viewsSMP (s : State) : List (Fld × Nat) :=
  let k := s.rd F.SMP_OVR_LDG_SEL
  [(F.SMP_OVR_LDG_DATA, if k < 116 then s.rd (F.LDG_WORD k) else 0), (F.SMP_OVR_LIFE_DBG, s.rd F.DBG_LEVEL), (F.SMP_OVR_LIFE_LC, s.fuses.lc)]

/-- The computed fields of a page. -/
def State.views (s : State) (p : Nat) : List (Fld × Nat) :=
  match pageKind p with
  | 0x000 => [(F.CHIP_VENDOR, Config.vendorId.toNat), (F.CHIP_GRADE, s.fuses.grade)]
  | 0x002 => [(F.PWR_MAINS_OK, b2n s.pins.mainsOk), (F.PWR_MAINS_PF_N, b2n s.pins.pfN)]
  | 0x004 => [(F.CLK_GATE_STAT, if s.mode = Md.VAULT then 2 else 0)]
  | 0x005 => [(F.RST_DOM_CNT, SMap.getD s.rst.domCnt (s.rd F.RST_DOM_SEL) 0)]
  | 0x006 => [(F.CFG_CSTAT_DIRTY, b2n s.cfgDirty)]
  | 0x008 => s.viewsTIME
  | 0x010 => s.viewsSEC
  | 0x012 => [(F.LIFE_STATE, s.fuses.lc), (F.LIFE_SERIAL_HI, s.fuses.serial / 2 ^ 32), (F.LIFE_SERIAL_LO, s.fuses.serial)]
  | 0x020 => s.viewsCRU
  | 0x021 => s.viewsPLN
  | 0x022 => [(F.GTE_NBR_USED, s.nbrUsed)]
  | 0x029 => s.viewsPRF
  | 0x02A => [(F.TAR_CTL_EN, b2n s.tarEnabled)]
  | 0x030 => s.viewsHLM
  | 0x031 => s.viewsEng
  | 0x032 => s.viewsEng
  | 0x038 => s.viewsTCH
  | 0x048 => s.viewsCHN
  | 0x04B => s.viewsSMP
  | 0x051 => [(F.CLM_CLAIM, s.ownClaim)]
  | 0x058 => s.viewsUPD
  | 0x060 => s.viewsPST
  | 0x069 => s.viewsGPIO
  | 0x100 => s.viewsFP (pageInst p)
  | 0x140 => s.viewsFM (pageInst p) ++ s.viewsMap (pageInst p)
  | 0x180 => s.viewsFY (pageInst p)
  | _ => []

/-- What a field shows: the computed value where there is one, else the stored value; a write-only field shows 0 (R13). -/
def State.show (s : State) (f : Fld) : Nat :=
  if f.acc == .WO then 0
  else
    let l := if f.off < 0x40 then s.viewsHeader f.page else s.views f.page
    match l.find? (fun e => e.1.key == f.key) with
    | some e => e.2
    | none => s.rd f

/-! ## The fields of a word -/

/-- Which copy of a field a selector register reaches: 1 CRU.QSEL, 2 PLN.QSEL, 3 ASY.RS_SEL, 4 PRF.CH_SEL, 5 TCH.GRP_SEL, 6 TCH.GRP_SEL with MBR_SEL, 7 the reading or writing master (R321). -/
def State.bankOf (s : State) (m : Master) (sel : Nat) : Nat :=
  match sel with
  | 1 => s.rd F.CRU_QSEL
  | 2 => s.rd F.PLN_QSEL
  | 3 => s.rd F.ASY_RS_SEL
  | 4 => s.rd F.PRF_CH_SEL
  | 5 => s.rd F.TCH_GRP_SEL
  | 6 => mbrKey (s.rd F.TCH_GRP_SEL) (s.rd F.TCH_MBR_SEL)
  | 7 => masterCode m
  | _ => 0

/-- Does a row of a register table place a field at a byte offset? -/
def Row.covers (r : Row) (off : Nat) : Bool :=
  (List.range r.count2).any (fun j =>
    let o := r.fld.off + r.stride2 * j
    if r.stride1 = 0 then o == off else o ≤ off && (off - o) % r.stride1 == 0 && decide ((off - o) / r.stride1 < r.count1))

/-- The fields of the word at an offset of a page, for a master. -/
def State.fieldsAt (s : State) (m : Master) (p off : Nat) : List Fld :=
  let rows := if off < 0x40 then rowsHeader p else rowsOf (pageKind p) 0
  (rows.filter (fun r => r.covers off)).map (fun r => { r.fld with page := p, off := off, bank := s.bankOf m r.sel })

/-- Is a field one of a master's own session and request fields (R73, R321)? -/
def perMaster (p off : Nat) : Bool := p == Pg.OBJ && decide (0x40 ≤ off) && (rowsOBJ 0).any (fun r => r.sel == 7 && r.covers off)

/-- The word that an offset of a page reads as: its fields in place, reserved bits 0 (R11). The MSI-X table and pending bits stand in the PCI page (R64), the zero-crossing rings in the GPIO page (R130). -/
def State.word (s : State) (m : Master) (p off : Nat) : Word :=
  if p = Pg.PCI && decide (0x400 ≤ off) && decide (off < 0x800) then BitVec.ofNat 32 (s.rd (F.MSIX_WORD ((off - 0x400) / 4)))
  else if p = Pg.PCI && off == 0x800 then BitVec.ofNat 32 s.irq.pba.toNat
  else if p = Pg.PCI && off == 0x804 then BitVec.ofNat 32 (s.irq.pba.toNat / 2 ^ 32)
  else if p = Pg.GPIO && decide (0x400 ≤ off) && decide (off < 0x700) then
    (let e := SMap.getD (s.zcOf ((off - 0x400) / 0x100 + 1)).ring (off % 0x100 / 0x10) ⟨0, 0⟩
     match off % 0x10 with
     | 0 => BitVec.ofNat 32 e.count
     | 4 => BitVec.ofNat 32 (e.count / 2 ^ 32)
     | 8 => BitVec.ofNat 32 e.flags
     | _ => 0)
  else BitVec.ofNat 32 (((s.fieldsAt m p off).map (fun f => s.show f % f.bound * 2 ^ f.lo)).sum)

end Sys2Proof.Machine
end

