-- ==== Sys2Proof/Machine/Access.lean ====
section
/-!
DEFINITION. Access to the register window (chapter 02): reads with their shadows, writes with ownership and lock, the page header, configuration commits, the PCIe link, SMP transactions and the override registers.
-/
namespace Sys2Proof.Machine

/-! ## Reads (R38, R41 to R43) -/

/-- How many words after a register its read latches into the reading master's shadow: the upper word of a pair (R43), or the words of a record that a read of its first word latches whole. DESIGN CHOICE, unsafe: log entry 9. -/
def latchedAfter (p off : Nat) : Nat :=
  if p = Pg.TIME then
    (if off = 0x40 || off = 0x58 || off = 0x60 || off = 0x70 || off = 0x80 || off = 0xC0 then 1
     else if 0x100 ≤ off && off < 0x130 && off % 0x10 == 0 then 1
     else if 0x200 ≤ off && off < 0x400 && (off % 0x20 == 0 || off % 0x20 == 8 || off % 0x20 == 0x18) then 1 else 0)
  else if p = Pg.GPIO then (if off = 0x314 || off = 0x334 || off = 0x354 || (0x400 ≤ off && off < 0x700 && off % 0x10 == 0) then 1 else 0)
  else if p = Pg.MODE then (if off = 0x4C then 1 else 0)
  else if p = Pg.RST then (if off = 0x44 then 1 else 0)
  else if p = Pg.PLN then (if 0x300 ≤ off && off < 0x400 && (off % 0x20 == 0 || off % 0x20 == 8) then 1 else 0)
  else if p = Pg.ASY then (if off = 0x54 || off = 0x5C || off = 0x64 then 1 else 0)
  else if p = Pg.PRF then (if off = 0x8C || off = 0xD0 then 1 else if off = 0xB0 then 7 else 0)
  else if p = Pg.OBJ then (if off = 0x80 then 15 else 0)
  else if p = Pg.HLM then (if off = 0x54 || off = 0x5C then 1 else if off = 0x70 then 11 else 0)
  else if p = Pg.TCH then (if off = 0xBC then 2 else 0)
  else if p = Pg.ETH then (if off % 0x100 == 4 || off % 0x100 == 0x10 then (if 0x100 ≤ off && off < 0x300 then 1 else 0) else 0)
  else if p = Pg.MIR then (if off = 0x60 then 3 else if off = 0x68 then 1 else if off = 0x80 then 7 else 0)
  else if p = Pg.SEC then (if off = 0x50 then 11 else 0)
  else if p = Pg.LDG then (if 0x200 ≤ off && off < 0x600 && off % 8 == 0 then 1 else 0)
  else if p = Pg.DSP then (if off = 0x70 then 1 else 0)
  else if 0x140 ≤ p && p < 0x180 then (if off = 0x264 then 1 else if off = 0x274 then 4 else 0)
  else 0

/-- Latches the words after a register into a master's shadow (R43). DESIGN CHOICE, unsafe: log entry 9. -/
def State.latchNext (s : State) (m : Master) (p off : Nat) : State :=
  (List.range (latchedAfter p off)).foldl (fun (t : State) w => t.setShadow m p (off + 4 * (w + 1)) (s.word m p (off + 4 * (w + 1)))) s

/-- What an RC field holds once it is read: 0 (R13), and for an extreme since the last read the value it starts from again. DEDUCED, unsafe: log entry 10. -/
def State.restartRc (s : State) (f : Fld) : Nat :=
  if f.key = F.CRU_FREE_MIN.key then s.cruFree
  else if f.key = F.PLN_DFREE_MIN.key then signed16 s.dfree
  else if f.key = F.ARB_TX_PEAK.key then s.rd F.ARB_TX_USED
  else 0

/-- A read of a word without an effect of its own: the shadow where one stands, which it uses up, else the word, with its pair latched and its RC fields cleared (R13, R43). DEDUCED, unsafe: log entry 10. -/
def State.plainRead (s : State) (m : Master) (p off : Nat) : State :=
  match SMap.find? s.bus.shadow (shadowKey m p off) with
  | some w => ({ s with bus := { s.bus with shadow := SMap.erase s.bus.shadow (shadowKey m p off) } }).answer w
  | none =>
    let w := s.word m p off
    let s1 := ((s.fieldsAt m p off).filter (fun f => f.acc == .RC)).foldl (fun (t : State) f => t.wr f (s.restartRc f)) s
    ((s1.latchNext m p off).tookFree).answer w

/-- A read of SMP.OVR_LDG_DATA (R75, R539): the ledger word that OVR_LDG_SEL names; an even word latches the odd one for the master; the selection advances. -/
def State.ldgDataRead (s : State) (m : Master) : State :=
  let k := s.rd F.SMP_OVR_LDG_SEL
  let off := 0x200 + 4 * k
  let s1 := if k < 116 then s.plainRead m Pg.LDG off else s.answer 0
  s1.wr F.SMP_OVR_LDG_SEL ((k + 1) % 65536)

/-- A read of one word of a page that answers. -/
def State.readWord (s : State) (m : Master) (p off : Nat) : State :=
  if p = Pg.TIME && off = 0x48 then s.nowRead m
  else if p = Pg.TIME && (off = 0x108 || off = 0x118 || off = 0x128) then s.capFlagsRead ((off - 0x108) / 0x10)
  else if p = Pg.GTE && off = 0x80 then s.nbrRead m
  else if p = Pg.PLN && off = 0x1C4 then s.descRead m
  else if p = Pg.PLN && off = 0x208 then s.obsRead m
  else if p = Pg.CRU && (off = 0x234 || off = 0x274 || off = 0x2B4 || off = 0x2F4) then s.hctxPop ((off - 0x234) / 0x40)
  else if p = Pg.LIFE && off = 0x4C then s.lifeChalRead m
  else if p = Pg.DBG && off = 0x44 then s.dbgChalRead m
  else if p = Pg.OBJ && off = 0x40 then s.sessChalRead m
  else if 0x140 ≤ p && p < 0x180 && off = 0x74 then s.pibRead (pageInst p)
  else if p = Pg.CHN && (off = 0x140 || off = 0x150 || off = 0x160 || off = 0x170) then s.stampRead m ((off - 0x140) / 0x10)
  else if p = Pg.ETH && (off = 0x160 || off = 0x170 || off = 0x260 || off = 0x270) then s.stampRead m (4 + (off - 0x160) / 0x100 * 2 + (off - 0x160) % 0x100 / 0x10)
  else if p = Pg.SMP && off = 0x110 then s.ldgDataRead m
  else s.plainRead m p off

/-- Is an offset of a page one of the override registers (R75)? -/
def isOverride (p off : Nat) : Bool := p == Pg.SMP && decide (0x100 ≤ off) && decide (off ≤ 0x118)

/-- Does a read or write get no answer because of the reserved strap value (R2)? The override registers answer the SMP. DEDUCED, unsafe: log entry 11. -/
def State.deaf (s : State) (m : Master) (p off : Nat) : Bool := s.dead && !(m == .smp && isOverride p off)

/-- A read of the word at a byte address (R38, R41, R42). -/
def State.registerRead (s : State) (m : Master) (addr : Nat) : State :=
  let p := addr / 0x1000
  let off := addr % 0x1000 / 4 * 4
  if s.deaf m p off then s.answer 0xFFFFFFFF#32
  else if (pageDomain p).isNone then s.answer 0
  else if !s.pageOn p then (s.accErr m Cause.DOM_OFF (p * 0x1000 + off)).answer 0xFFFFFFFF#32
  else s.readWord m p off

/-- REGISTER_READ (R42): one word is answered. -/
def execRegisterRead (m : Master) (addr : BitVec 24) (s : State) : Host.Outcome State Fault Refusal := s.done (s.registerRead m addr.toNat)

/-- PAIR_LATCH_READ (R43): a read of the lower register of a pair. -/
def execPairLatchRead (m : Master) (addr : BitVec 24) (s : State) : Host.Outcome State Fault Refusal := s.done (s.registerRead m addr.toNat)

/-- OVR_LDG_DATA_READ (R75, R539). -/
def execOvrLdgDataRead (m : Master) (s : State) : Host.Outcome State Fault Refusal := s.done (s.registerRead m 0x4B110)

/-! ## The page header (R45, R48, R49, R74) -/

/-- The bits of a word that a W1C write clears: a failed frame memory check stands while its copies differ (R552). -/
def State.clearable (s : State) (p : Nat) (v : Word) : Word := if p = Pg.DSP && s.dsp.crcBad then v &&& ~~~4#32 else v

/-- A W1C write to INT_STAT; the page's vector sends again if its condition is still 1 (R62). -/
def State.intStatClear (s : State) (p : Nat) (v : Word) : State :=
  let s1 := s.wr (F.INT_STAT p) (BitVec.ofNat 32 (s.rd (F.INT_STAT p)) &&& ~~~(s.clearable p v)).toNat
  match pageVector p with
  | none => s1
  | some k =>
    if s1.owner p = 1 then s1
    else if s1.vectorCond k then ({ s1 with irq := { s1.irq with cond := s1.irq.cond ||| BitVec.ofNat 64 (2 ^ k) } }).sendVector k
    else s1.setCond k false

/-- The pages that stand in a domain. -/
def pagesOf (d : Nat) : List Nat :=
  ((List.range 0x69).map (fun i => i + 1) ++ [0] ++ (List.range 0xC0).map (fun i => 0x100 + i)).filter (fun p => pageDomain p == some d)

/-- Does a domain hold a locked page (R48)? -/
def State.domLocked (s : State) (d : Nat) : Bool := (pagesOf d).any (fun p => s.locked p)

/-- A write to DOM_RST (R49): with the key, asks for a reset of the page's domain; refused over an override of the reset function (R76) and for a locked page of the domain (R48). -/
def State.domRstWrite (s : State) (m : Master) (p : Nat) (v : Word) : State :=
  match pageDomain p with
  | none => s
  | some d =>
    if bits v 31 16 != 0xD0E5 || !bit v 0 || d = Dom.AON then s
    else if m != .smp && s.ovrHolds .reset then s.denyWrite m Cause.OWNER_DENY p 0x2C
    else if s.domLocked d then s.denyWrite m Cause.LOCKED p 0x2C
    else { s with rst := { s.rst with asked := s.rst.asked ++ [(d, if m == .smp then 1 else 0)] } }

/-- A write to OWNER (R74): the main host hands a page over or, where HOST_RECLAIM lets it, takes it back; the SMP takes any unlocked page, one it already owns included (SEIZED), and returns one. A change of the OBJ page's owner ends the sessions (R314). -/
def State.ownerWrite (s : State) (m : Master) (p : Nat) (v : Word) : State :=
  let to_ := bits v 0 0
  let set := fun (t : State) (o z : Nat) =>
    (((if p = Pg.OBJ && o != s.owner p then (t.endSession 0).endSession 1 else t).wr (F.OWNER_OWNER p) o).wr (F.OWNER_SEIZED p) z).deliver p
  if s.dead then s
  else if (pageDomain p).isNone then s
  else if !s.pageOn p then s.accErr m Cause.DOM_OFF (p * 0x1000 + 0x28)
  else if p = Pg.SMP then
    (if m != .smp then s.denyWrite m Cause.OWNER_DENY p 0x28 else if s.locked p then s.denyWrite m Cause.LOCKED p 0x28 else s)
  else if !(m == .smp || (s.isMain m && (s.owner p == 0 || (to_ == 0 && s.on F.SMP_HOST_RECLAIM)))) || (m == .smp && s.owner p == 0 && to_ == 0) then
    s.denyWrite m Cause.OWNER_DENY p 0x28
  else if s.locked p then s.denyWrite m Cause.LOCKED p 0x28
  else if to_ = s.owner p && !(to_ = 1 && m == .smp) then s
  else set s to_ (if to_ = 1 && m == .smp then 1 else 0) |>.updPage p

/-! ## Configuration (R51 to R56) -/

/-- A write to CFG.COMMIT (R53, R56): a commit in progress ignores it; a role that differs from the straps is refused unless FORCE_ROLE; else the live fields are captured for the slot that is not current. -/
def State.cfgCommitWrite (s : State) (v : Word) : State :=
  if bits v 31 16 != 0xC0A7 || !bit v 0 then s
  else if s.on F.CFG_CSTAT_BUSY then s.wr F.CFG_CSTAT_RESULT 5
  else if s.rd F.CFG_ROLE != s.role && !bit v 1 then s.wr F.CFG_CSTAT_RESULT 4
  else
    let c : CfgSlot := { gen := s.rd F.CFG_GEN + 1, fmt := s.rd F.CFG_FMT_CUR, role := s.rd F.CFG_ROLE
                         image := SMap.set s.cfgImage F.CFG_ROLE.key (s.rd F.CFG_ROLE), keys := s.sec.blobs, good := true }
    ({ s with cfg := { s.cfg with job := some c, interrupted := false } }).wr F.CFG_CSTAT_BUSY 1

/-- What follows from a change of many P-class fields at once: ports, links, levels and budgets as the fields now say. -/
def State.fieldsFollow (s : State) : State := ((((s.portsFollow.linksFollow).queuesXoff.cruSync.plnSync).tchReload).tierUpdate).refreshUncertain

/-- A write to CFG.DISCARD (R53): reloads every live P-class field outside the legal partition from the image that is current now. DESIGN CHOICE, unsafe: log entry 32. -/
def State.cfgDiscardWrite (s : State) (v : Word) : State :=
  if bits v 31 16 != 0xC0A7 || !bit v 0 then s
  else (({ s with sec := { s.sec with blobs := s.cfg.curKeys } }).reloadCommitted).tchCommitted.fieldsFollow.configsFollow s

/-- CFG_COMMIT_DONE (R53, steps 2 to 4): the slot is written and read back; a good one is made current by the journal record. DESIGN CHOICE, unsafe: log entry 32. -/
def execCfgCommitDone (readbackOk : Bool) (s : State) : Host.Outcome State Fault Refusal :=
  s.done (match s.cfg.job with
    | none => s
    | some c =>
      let s1 := ({ s with cfg := { s.cfg with job := none } }).wr F.CFG_CSTAT_BUSY 0
      if !readbackOk then ({ s1 with cfg := s1.cfg.put { c with good := false } }).wr F.CFG_CSTAT_RESULT 3
      else ((s1.cfgCommitSlot c).tchCommitted).wr F.CFG_CSTAT_RESULT 1)

/-! ## Writes (R73) -/

/-- Stores a word in the fields it covers, each by its access type (R13). -/
def State.storeWord (s : State) (m : Master) (p off : Nat) (v : Word) : State :=
  (s.fieldsAt m p off).foldl (fun (t : State) f =>
    match f.acc with
    | .RW => t.wr f (f.ofWord v)
    | .WO => t.wr f (f.ofWord v)
    | .W1C => t.wr f (BitVec.ofNat 32 (t.rd f) &&& ~~~(BitVec.ofNat 32 (f.ofWord v))).toNat
    | .W1S => t.wr f (t.rd f ||| f.ofWord v)
    | .RO => t
    | .RC => t) s

/-- A write to GPIO.OUT (R131, R432, R433): a claim-arbitrated pin's change is journaled; a CONTROL-class pin changes only under the grant; the lane switch pin of a pair follows R433. -/
def State.gpioOutWrite (s : State) (v : Word) : State :=
  let s1 := (List.range 16).foldl (fun (t : State) k =>
    let b := bit v k
    if !s.pinArb k then t.wr F.GPIO_OUT (putBit16 (BitVec.ofNat 16 (t.rd F.GPIO_OUT)) k b).toNat
    else if b == s.outLevel k then t
    else if (s.rd F.CLM_GPIO_CTRL).testBit k && !s.ctrlGranted then t
    else if s.partnered && s.rd F.CLM_LANE_PIN == k then t
    else (t.wr F.GPIO_OUT (putBit16 (BitVec.ofNat 16 (t.rd F.GPIO_OUT)) k b).toNat).setPinLevel k b) s
  s1.gpioFollow s

/-- Writes to the TIME page (R82, R86, R92, R93, R95, R98). -/
def State.writeTIME (s : State) (m : Master) (off : Nat) (v : Word) : State :=
  let k := (off - 0x200) / 0x20
  match off with
  | 0x58 => { s with tim := { s.tim with stgOffset := v.toNat } }
  | 0x5C => s.offsetCommit m v
  | 0x60 => { s with tim := { s.tim with stgRate := v.toNat } }
  | 0x64 => s.rateCommit v
  | 0x68 => { s with tim := { s.tim with stgStep := v.toNat } }
  | 0x6C => s.stepCommit m v
  | 0x78 => { s with tim := { s.tim with stgConv := v.toNat } }
  | 0x7C => s.timeConvert v
  | 0xA0 => s.qctlWrite v
  | 0xA4 => s.timeFeed
  | 0xA8 => (s.storeWord m Pg.TIME off v).refreshUncertain
  | 0xB0 => (s.storeWord m Pg.TIME off v).refreshUncertain
  | _ =>
    if 0x200 ≤ off && off < 0x400 then
      (match off % 0x20 with
        | 0x00 => s.setCmp k { s.cmpUnit k with stgTgt := v.toNat }
        | 0x04 => s.cmpRetarget k false v
        | 0x08 => s.setCmp k { s.cmpUnit k with stgPer := v.toNat }
        | 0x0C => s.cmpRetarget k true v
        | 0x10 => s.cmpCtlWrite k v
        | _ => s.storeWord m Pg.TIME off v)
    else s.storeWord m Pg.TIME off v

/-- Writes to the CRU page (R219, R225, R229, R233, R235, R237). -/
def State.writeCRU (s : State) (m : Master) (off : Nat) (v : Word) : State :=
  let k := (off - 0x200) / 0x40
  if 0x200 ≤ off && off < 0x300 then
    (match off % 0x40 with
      | 0x00 => s.hctxAlloc k (bits v 4 0)
      | 0x28 => s.hctxCommit k v
      | 0x2C => s.hctxAbort k v
      | 0x38 => s.hctxFree k v
      | _ => s.storeWord m Pg.CRU off v)
  else
    match off with
    | 0x180 => s.drainCtlWrite v
    | 0x308 => (s.storeWord m Pg.CRU off v).queueXoff (s.rd F.CRU_QSEL)
    | 0x320 => s.qcmdWrite v
    | _ => if 0x50 ≤ off && off < 0x68 then (s.storeWord m Pg.CRU off v).cruSync else s.storeWord m Pg.CRU off v

/-- Writes to the PLN page (R251, R254, R258). -/
def State.writePLN (s : State) (m : Master) (off : Nat) (v : Word) : State :=
  let k := (off - 0x300) / 0x20
  if 0x300 ≤ off && off < 0x400 && off % 0x20 = 0x14 then s.sqDoorbell k v
  else if 0x300 ≤ off && off < 0x400 && off % 0x20 = 0x1C then s.cqHeadWrite k v
  else if 0x54 ≤ off && off < 0x70 then (s.storeWord m Pg.PLN off v).plnSync
  else s.storeWord m Pg.PLN off v

/-- Writes to the PRF page (R262, R267, R289). -/
def State.writePRF (s : State) (m : Master) (off : Nat) (v : Word) : State :=
  match off with
  | 0x44 => s.fileLenWrite v
  | 0x84 => s.chCfgWrite v
  | 0xA8 => s.qCtlWrite v
  | 0xD8 => s.eCtlWrite v
  | _ => s.storeWord m Pg.PRF off v

/-- Writes to the TCH page (R349, R350, R359). -/
def State.writeTCH (s : State) (m : Master) (off : Nat) (v : Word) : State :=
  match off with
  | 0x40 => let t := s.storeWord m Pg.TCH off v
            if t.rd F.TCH_CTL_PH_AUTO = s.rd F.TCH_CTL_PH_AUTO then t else t.enabledGroups.foldl (fun (u : State) g => u.newVersion g) t
  | 0x84 => s.tchCfgWrite .grpCfg v
  | 0x88 => s.tchCfgWrite .refNode v
  | 0x8C => s.tchCfgWrite .refCh v
  | 0x90 => s.tchCfgWrite .nbr01 v
  | 0x94 => s.tchCfgWrite .nbr23 v
  | 0x98 => s.tchCfgWrite .zcOfs v
  | 0xD4 => s.tchCfgWrite .mbrCfg v
  | 0xA4 => { s with tch := { s.tch with stgA := some v.toNat } }
  | 0xA8 => { s with tch := { s.tch with stgB := some v.toNat } }
  | 0xAC => { s with tch := { s.tch with stgS := some v.toNat } }
  | 0xB8 => s.modelCtl v
  | _ => s.storeWord m Pg.TCH off v

/-- Writes to the UPD page (R480, R484, R486, R490). -/
def State.writeUPD (s : State) (m : Master) (off : Nat) (v : Word) : State :=
  match off with
  | 0x4C => s.loadCtlWrite v
  | 0x68 => s.imgCmd v
  | 0x70 => s.applyWrite v
  | 0x74 => s.confirmWrite v
  | _ => s.storeWord m Pg.UPD off v

/-- Writes to the ETH page (R413, R414): a port that is disabled goes down. -/
def State.writeETH (s : State) (m : Master) (off : Nat) (v : Word) : State :=
  let t := s.storeWord m Pg.ETH off v
  if off = 0x100 || off = 0x200 then
    let p := (off - 0x100) / 0x100
    (if t.on (F.ETH_CTL_EN p) then t else t.ethDown p).ethPause
  else t

/-- Writes to the DSP page (R546, R550, R551, R556). A write of TEMP ends STALE. -/
def State.writeDSP (s : State) (m : Master) (off : Nat) (v : Word) : State :=
  match off with
  | 0x40 => (s.storeWord m Pg.DSP off v).dspCtlWrite
  | 0x4C => (s.storeWord m Pg.DSP off v).lightFollow
  | 0x50 => ((s.storeWord m Pg.DSP off v).wr F.DSP_TEMP_STAT_STALE 0).tempSync
  | 0x54 => (s.storeWord m Pg.DSP off v).tempSync
  | 0x58 => (s.storeWord m Pg.DSP off v).tempSync
  | 0x60 => s.dspUpdWrite v
  | _ => s.storeWord m Pg.DSP off v

/-- Writes to the GPIO page (R131). -/
def State.writeGPIO (s : State) (m : Master) (off : Nat) (v : Word) : State :=
  if off = 0x44 then s.gpioOutWrite v
  else if off = 0x40 || off = 0x4C || off = 0x50 then (s.storeWord m Pg.GPIO off v).gpioFollow s
  else s.storeWord m Pg.GPIO off v

/-- Writes to the CLM page (R430, R434, R438, R441). -/
def State.writeCLM (s : State) (m : Master) (off : Nat) (v : Word) : State :=
  match off with
  | 0x50 => (s.storeWord m Pg.CLM off v).claimSync
  | 0x5C => s.clmCtlWrite m v
  | 0x64 => s.clmCtrlWrite m v
  | 0x6C => (s.storeWord m Pg.CLM off v).gpioFollow s
  | _ => s.storeWord m Pg.CLM off v

/-- Writes to the PCI page: the MSI-X table as PCIe lays it out, an unmasked vector sending what is pending (R61, R62, R64). PRESUMED, unsafe: log entry 29. -/
def State.writePCI (s : State) (m : Master) (off : Nat) (v : Word) : State :=
  if 0x400 ≤ off && off < 0x800 then
    let k := (off - 0x400) / 4
    let w := if k % 4 = 3 then v.toNat % 2 else if k % 4 = 0 then v.toNat / 4 * 4 else v.toNat
    let t := s.wr (F.MSIX_WORD k) w
    if k % 4 = 3 && w = 0 && t.irq.pba.getLsbD (k / 4) then
      ({ t with irq := { t.irq with pba := t.irq.pba &&& ~~~(BitVec.ofNat 64 (2 ^ (k / 4))) } }).sendVector (k / 4)
    else t
  else if off = 0x800 || off = 0x804 then s
  else s.storeWord m Pg.PCI off v

/-- A write of a word of a page body that is let through, with the effect of its register. DESIGN CHOICE, unsafe: log entry 28. -/
def State.writeBody (s : State) (m : Master) (p off : Nat) (v : Word) : State :=
  match pageKind p with
  | 0x001 => if off = 0x44 then s.modeReqWrite m v else s.storeWord m p off v
  | 0x005 => if off = 0x6C then s.swfWrite m v else if off = 0x74 then s.wdtKickWrite v else
      let t := s.storeWord m p off v
      if off = 0x70 then t.wdtRestart else t
  | 0x006 => if off = 0x40 then s.cfgCommitWrite v else if off = 0x54 then s.cfgDiscardWrite v else s.storeWord m p off v
  | 0x008 => s.writeTIME m off v
  | 0x010 => if off = 0xA0 then s.attCtlWrite v else s.storeWord m p off v
  | 0x011 => if off = 0x40 then s.keySelect v else if off = 0xB4 then s.keyCmd m false v else s.storeWord m p off v
  | 0x012 => if off = 0xB4 then s.lifeCmd v else s.storeWord m p off v
  | 0x013 => if off = 0xAC then s.dbgReq v else s.storeWord m p off v
  | 0x020 => s.writeCRU m off v
  | 0x021 => s.writePLN m off v
  | 0x022 => if off = 0x64 then s.nbrCmd v else if off = 0xEC then s.instGo m false v else s.storeWord m p off v
  | 0x029 => s.writePRF m off v
  | 0x02A => let t := s.storeWord m p off v; if off = 0x4C || off = 0x40 && t.tar.start = 0 then t.rearmPeriod else t
  | 0x02B => if off = 0x58 then s.sessCtl m v else if off = 0x70 then s.reqCtl m v else s.storeWord m p off v
  | 0x030 => if off = 0x108 then s.prqWrite v else s.storeWord m p off v
  | 0x038 => s.writeTCH m off v
  | 0x040 => if off = 0x94 then s.capCtlWrite v else
      let t := s.storeWord m p off v
      if off = 0x40 || off = 0x80 || off = 0x8C then t.tierUpdate else t
  | 0x048 => if off = 0x40 then s.chnCtlWrite v else if off = 0x70 then s.unitCmd v else s.storeWord m p off v
  | 0x049 => s.writeETH m off v
  | 0x04A => s.writePCI m off v
  | 0x050 => let t := s.storeWord m p off v; if off = 0x40 then t.linksFollow else t
  | 0x051 => s.writeCLM m off v
  | 0x058 => s.writeUPD m off v
  | 0x060 => if off = 0x98 then s.pstCmdWrite v else if off = 0x9C then s.fullCtlWrite v else s.storeWord m p off v
  | 0x061 => if off = 0x50 then s.succCtlWrite v else s.storeWord m p off v
  | 0x068 => s.writeDSP m off v
  | 0x069 => s.writeGPIO m off v
  | 0x100 => if off = 0x40 then s.portCtlWrite (pageInst p) v else s.storeWord m p off v
  | 0x180 => (s.storeWord m p off v).configFollow s (pageInst p)
  | 0x140 => if off = 0x74 then s.pibWrite (pageInst p) v else if off = 0x244 then s.mapCtlWrite (pageInst p) v else s.storeWord m p off v
  | _ => s.storeWord m p off v

/-- A write of a word that is let through: the header's registers, else the page body's. -/
def State.writeOpen (s : State) (m : Master) (p off : Nat) (v : Word) : State :=
  match off with
  | 0x10 => s.intStatClear p v
  | 0x14 => (s.wr (F.INT_EN p) v.toNat).deliver p
  | 0x18 => s.raiseBits p v.toNat
  | 0x24 => if bit v 0 then s.wr (F.LOCK_LOCKED p) 1 else s
  | 0x2C => s.domRstWrite m p v
  | _ => if off < 0x40 then s else s.writeBody m p off v

/-- Does a word hold configuration of the legal partition, which the LEGAL core alone writes (R26, R293)? DEDUCED, unsafe: log entry 26. -/
def State.legalWord (s : State) (m : Master) (p off : Nat) : Bool :=
  (p == Pg.TAR || p == Pg.OBJ || p == Pg.LGL) && decide (0x40 ≤ off) && (s.fieldsAt m p off).any (fun f => f.ret == .P)

/-- A word write by a master to a page (R2, R26, R41, R42, R48, R73): configuration of the legal partition from any master but the LEGAL core is ignored, with a legal event, and with cause LEGAL where neither ownership nor the lock refuses it. DEDUCED, unsafe: log entry 26. -/
def State.writeWord (s : State) (m : Master) (p off : Nat) (v : Word) : State :=
  if off = 0x28 then s.ownerWrite m p v
  else if perMaster p off && m != .lgl then s.sessGuard m off (fun t => t.writeBody m p off v)
  else if s.legalWord m p off && m != .lgl then
    (match s.judge m p off with
      | .ownerDeny => (s.denyWrite m Cause.OWNER_DENY p off).deniedWrite m (p * 0x1000 + off)
      | .locked => (s.denyWrite m Cause.LOCKED p off).deniedWrite m (p * 0x1000 + off)
      | .open => (s.accErr m Cause.LEGAL (p * 0x1000 + off)).deniedWrite m (p * 0x1000 + off)
      | .domOff => s.accErr m Cause.DOM_OFF (p * 0x1000 + off)
      | .unanswered => s)
  else s.guarded m p off (fun t => t.writeOpen m p off v)

/-- A page header command: the write of one of its registers. -/
def headerWrite (m : Master) (p : Page) (off : Nat) (v : Word) (s : State) : State := s.writeWord m p.toNat off v

/-- INT_STAT_CLEAR (R45, R62). -/
def execIntStatClear (m : Master) (p : Page) (v : Word) (s : State) : Host.Outcome State Fault Refusal := s.done (headerWrite m p 0x10 v s)
/-- INT_FORCE (R45). -/
def execIntForce (m : Master) (p : Page) (v : Word) (s : State) : Host.Outcome State Fault Refusal := s.done (headerWrite m p 0x18 v s)
/-- LOCK_PAGE (R48). -/
def execLockPage (m : Master) (p : Page) (v : Word) (s : State) : Host.Outcome State Fault Refusal := s.done (headerWrite m p 0x24 v s)
/-- OWNER_WRITE (R74). -/
def execOwnerWrite (m : Master) (p : Page) (v : Word) (s : State) : Host.Outcome State Fault Refusal := s.done (headerWrite m p 0x28 v s)
/-- DOM_RST (R49). -/
def execDomRst (m : Master) (p : Page) (v : Word) (s : State) : Host.Outcome State Fault Refusal := s.done (headerWrite m p 0x2C v s)
/-- CFG_COMMIT (R53, R56). -/
def execCfgCommit (m : Master) (v : Word) (s : State) : Host.Outcome State Fault Refusal := s.done (s.writeWord m Pg.CFG 0x40 v)
/-- CFG_DISCARD (R53). -/
def execCfgDiscard (m : Master) (v : Word) (s : State) : Host.Outcome State Fault Refusal := s.done (s.writeWord m Pg.CFG 0x54 v)

/-! ## The PCIe link (R63, R64) -/

/-- The width a training ends with (R58, R64): 1, 2 or 4 lanes, and no more than MAX_WIDTH lets train. -/
def State.pciWidth (s : State) (w : Nat) : Nat :=
  let top := if s.rd F.PCI_CFG_MAX_WIDTH = 0 then 4 else if s.rd F.PCI_CFG_MAX_WIDTH = 1 then 2 else 1
  min (if 4 ≤ w then 4 else if 2 ≤ w then 2 else 1) top

/-- PCIE_LINK_UP: a training ends with the data link layer active, within the width and speed of PCI.CFG; of a link that was up it is a retraining; the external host is main host from then on unless the APP cluster is. DESIGN CHOICE, unsafe: log entry 30. -/
def execPcieLinkUp (width : BitVec 3) (speed : BitVec 2) (s : State) : Host.Outcome State Fault Refusal :=
  s.done (if !s.domOn Dom.UPL then s
    else
      let s1 := (s.wr F.PCI_LINK_WIDTH (s.pciWidth width.toNat)).wr F.PCI_LINK_SPEED (min (max speed.toNat 1) (s.rdIn F.PCI_CFG_MAX_SPEED 1 3))
      if s.on F.PCI_LINK_UP then (s1.wr F.PCI_LINK_L1 0).sat F.PCI_RETRAINS
      else
        let s2 := s1.wr F.PCI_LINK_UP 1
        (if s2.rd F.PCI_HOST_STAT = 0 then s2.wr F.PCI_HOST_STAT 1 else s2).raise Pg.PCI 0)

/-- PCIE_LINK_DOWN: the link leaves the active state. DESIGN CHOICE, unsafe: log entry 30. -/
def execPcieLinkDown (s : State) : Host.Outcome State Fault Refusal :=
  s.done (if !s.domOn Dom.UPL || !s.on F.PCI_LINK_UP then s
    else
      let s1 := (((s.wr F.PCI_LINK_UP 0).wr F.PCI_LINK_L1 0).wr F.PCI_LINK_WIDTH 0).wr F.PCI_LINK_SPEED 0
      ((s1.sat F.PCI_LINK_DOWN_CNT).raise Pg.PCI 1).alert 10)

/-- APP_HOST_SELECT (R63): 200 ms after BOOT has ended the choice is made, once: with HOST_SEL AUTO and the link not up, the APP cluster becomes main host. -/
def execAppHostSelect (s : State) : Host.Outcome State Fault Refusal :=
  s.done (if !s.pwr.hostPend then s
    else
      let s1 := { s with pwr := { s.pwr with hostPend := false } }
      if !s.pwr.appHost && !s.on F.PCI_LINK_UP && (s.rd F.CFG_HOST_SEL == 0 || s.rd F.CFG_HOST_SEL == 3) then s1.hostApp else s1)

/-! ## The override registers (R75, R76) -/

/-- The status bytes of R68. -/
def St8.OK : Nat := 0
def St8.CRC_ERR : Nat := 1
def St8.OWNER_DENY : Nat := 2
def St8.DOMAIN_OFF : Nat := 3
def St8.ALIGN : Nat := 4
def St8.LOCKED : Nat := 5
def St8.BAD_KEY : Nat := 6
def St8.OVR_BUSY : Nat := 7
def St8.BAD_CMD : Nat := 8

/-- The function of a keyed override register. -/
def ovrFn (off : Nat) : Option OvrFn := if off = 0x100 then some .mode else if off = 0x104 then some .reset else if off = 0x108 then some .claim else none

/-- What an override write would be answered: BAD_KEY, OVR_BUSY, or OK (R75, R76). -/
def State.ovrCheck (s : State) (off : Nat) (v : Word) : Nat :=
  match ovrFn off with
  | none => St8.OK
  | some f => if bits v 31 24 != 0x5A then St8.BAD_KEY else if s.ovr.running == some f then St8.OVR_BUSY else St8.OK

/-- Records the result of an override that ends at once. -/
def State.ovrResult (s : State) (r : Nat) : State := s.wr F.SMP_OVR_STAT_LAST r

/-- SMP.OVR_MODE (R76): a mode change that is under way, and a HOLDUP that a request for VAULT began, complete first; a second override replaces one that waits. -/
def State.ovrMode (s : State) (m : Nat) : State :=
  let s1 := if s.ovr.waitMode.isSome then s.ovrResult 3 else s
  if s.pwr.change.isSome && s.mode != Md.BOOT && s.mode != Md.HOLDUP || s.mode == Md.HOLDUP && s.pwr.vaultReq then
    ({ s1 with ovr := { s1.ovr with waitMode := some m } }).wr F.SMP_OVR_STAT_BUSY 1
  else s1.ovrModeRun m

/-- SMP.OVR_RESET with KIND 01 (R75, R76, R510): a full reset of cause PIN; it pre-empts what the host has under way. In HOLDUP it waits until Quench ends, and a second one replaces it. -/
def State.ovrResetFull (s : State) : State :=
  if s.mode = Md.OFF then s
  else if s.mode = Md.VAULT && !(s.pins.mainGood && s.pins.pfN) then s.ovrResult 2
  else if s.mode = Md.HOLDUP && s.pwr.quench then
    (({ (if s.ovr.waitReset then s.ovrResult 3 else s) with ovr := { s.ovr with waitReset := true } }).wr F.SMP_OVR_STAT_BUSY 1).startReset 2 1
  else (({ s with ovr := { s.ovr with running := some .reset } }).wr F.SMP_OVR_STAT_BUSY 1).pinReset 1

/-- SMP.OVR_RESET with KIND 10 (R48, R75, R517): refused for a domain that is off or holds a locked page; else in progress until the domain has restarted. A DOM that names AON or no domain ends with LAST = 2 too. DESIGN CHOICE, unsafe: log entry 31. -/
def State.ovrResetDomain (s : State) (d : Nat) : State :=
  if s.domLocked d then ((s.accErr .smp Cause.LOCKED 0x4B104).sat F.CHIP_DENY_CNT).ovrResult 2
  else if d = Dom.AON || 12 ≤ d || !s.domPowered d then s.ovrResult 2
  else ({ s with rst := { s.rst with asked := s.rst.asked ++ [(d, 1)] }, ovr := { s.ovr with running := some .reset, dom := some d } }).wr F.SMP_OVR_STAT_BUSY 1

/-- SMP.OVR_FAILOVER (R75, R434, R438): the claim is dropped, and a pending CONTROL grant refused or given where CTRL_ARB leaves it to the SMP. DESIGN CHOICE, unsafe: log entry 31. -/
def State.ovrFailover (s : State) (v : Word) : State :=
  let s1 := if s.on F.CLM_CTRL_ARB then (if bit v 2 then s.ctrlDeny else if bit v 1 then s.ctrlGrant 1 else s) else s
  if bit v 0 && s1.canGiveUp then
    (({ s1 with ovr := { s1.ovr with running := some .claim } }).wr F.SMP_OVR_STAT_BUSY 1).giveUp 0 true
  else s1.ovrResult 1

/-- Runs an override write that passed its check. DESIGN CHOICE, unsafe: log entry 31. -/
def State.ovrRun (s : State) (off : Nat) (v : Word) : State :=
  if off = 0x100 then s.ovrMode (bits v 3 0)
  else if off = 0x104 then (if bits v 1 0 = 1 then s.ovrResetFull else if bits v 1 0 = 2 then s.ovrResetDomain (bits v 11 8) else s)
  else if off = 0x108 then s.ovrFailover v
  else if off = 0x10C then s.wr F.SMP_OVR_LDG_SEL (bits v 15 0)
  else s

/-! ## SMP transactions (R65 to R70, R575) -/

/-- Ends a transaction with a status: TSTAT, and the bytes the device answers. -/
def State.smpEnd (s : State) (st : Nat) (data : List Byte) : State :=
  (s.wr F.SMP_TSTAT_LAST st).emit (.smp (be 1 st ++ (if data.isEmpty then [] else data ++ be 1 (crc8 (be 1 st ++ data)))))

/-- Counts a request with a wrong CRC (R72). -/
def State.smpBadCrc (s : State) : State := (s.sat F.SMP_CRC_CNT).alert 9

/-- Does a burst start unaligned or cross its page's end (R66)? -/
def smpMisaligned (addr n : Nat) : Bool := addr % 4 != 0 || decide (0x1000 < addr % 0x1000 + 4 * n)

/-- Is a page's domain off to the SMP (R2, R42)? -/
def State.smpOff (s : State) (p off n : Nat) : Bool :=
  (List.range n).any (fun i => s.deaf .smp p (off + 4 * i)) || ((pageDomain p).isSome && !s.pageOn p)

/-- The words of a READ in order: the state after the fetches, and their bytes. -/
def State.smpFetch (s : State) (addr : Nat) : Nat → State × List Byte
  | 0 => (s, [])
  | n + 1 =>
    let (t, l) := s.smpFetch addr n
    let u := t.registerRead .smp (addr + 4 * n)
    (u, l ++ be 4 ((u.bus.rdata.headD 0).toNat))

/-- The bytes of a request before its CRC (R66). -/
def smpRequest (op len addr : Nat) (data : List Word) : List Byte := be 1 (op * 64 + len) ++ be 3 addr ++ data.flatMap (fun w => be 4 w.toNat)

/-- A READ (R66, R68, R69). One answered ALIGN is padded to its length with ones. DESIGN CHOICE, unsafe: log entry 27. -/
def State.smpRead (s : State) (len addr : Nat) (crc : Byte) : State :=
  let n := len + 1
  let ones := List.replicate (4 * n) 0xFF#8
  if s.mode = Md.OFF then s
  else if crc8 (smpRequest 0 len addr []) != crc.toNat then s.smpBadCrc.smpEnd St8.CRC_ERR ones
  else if smpMisaligned addr n then s.smpEnd St8.ALIGN ones
  else
    let st := if s.smpOff (addr / 0x1000) (addr % 0x1000) n then St8.DOMAIN_OFF else St8.OK
    let (t, l) := s.smpFetch addr n
    t.smpEnd st l

/-- The status of a WRITE's words, in the order of R575 after CRC, opcode and alignment: ownership and lock as each word meets them, a word that writes OWNER changing it for those that follow. DESIGN CHOICE, unsafe: log entry 27. -/
def State.smpWords (s : State) (p : Nat) : Nat → Nat → Bool → List Word → Nat
  | _, st, _, [] => st
  | off, st, own, v :: vs =>
    if isOverride p off then
      (let o := s.ovrCheck off v
       s.smpWords p (off + 4) (if st = St8.OK then o else if o = St8.OK then st else min st o) own vs)
    else if off = 0x28 && p != Pg.SMP then
      (if !own && bits v 0 0 = 0 then St8.OWNER_DENY
       else if s.locked p then s.smpWords p (off + 4) St8.LOCKED own vs else s.smpWords p (off + 4) st (bit v 0) vs)
    else if !own && !perMaster p off then St8.OWNER_DENY
    else if s.locked p && !lockExempt off then s.smpWords p (off + 4) St8.LOCKED own vs
    else s.smpWords p (off + 4) st own vs

/-- Performs a WRITE's words in ascending order. -/
def State.smpPerform (s : State) (p : Nat) : Nat → List Word → State
  | _, [] => s
  | off, v :: vs => (if isOverride p off then s.ovrRun off v else s.writeWord .smp p off v).smpPerform p (off + 4) vs

/-- The legal events of the words of a refused burst that hold configuration of the legal partition (R26). -/
def State.legalDenials (s : State) (p off : Nat) (n : Nat) : State :=
  (List.range n).foldl (fun (t : State) i => if t.legalWord .smp p (off + 4 * i) then t.deniedWrite .smp (p * 0x1000 + off + 4 * i) else t) s

/-- A WRITE past its CRC and alignment: its status and the state after it (R68, R70, R575). DESIGN CHOICE, unsafe: log entry 27. -/
def State.smpWriteWords (s : State) (addr : Nat) (data : List Word) : Nat × State :=
  let p := addr / 0x1000
  let off := addr % 0x1000
  if s.smpOff p off data.length then (St8.DOMAIN_OFF, if s.dead then s else s.accErr .smp Cause.DOM_OFF addr)
  else if (pageDomain p).isNone then (St8.OK, s)
  else
    let st := s.smpWords p off St8.OK (s.owner p == 1) data
    if st = St8.OWNER_DENY then (st, (s.denyWrite .smp Cause.OWNER_DENY p off).legalDenials p off data.length)
    else if st = St8.BAD_KEY || st = St8.OVR_BUSY then (st, s)
    else (st, s.smpPerform p off data)

/-- The words that a WRITE of a length carries. -/
def smpData (len : Nat) (data : List Word) : List Word := (data ++ List.replicate 16 0).take (len + 1)

/-- A WRITE (R66, R68, R70). -/
def State.smpWrite (s : State) (len addr : Nat) (data : List Word) (crc : Byte) (answered : Bool) : State :=
  let d := smpData len data
  let fin := fun (t : State) st => if answered then t.smpEnd st [] else t.wr F.SMP_TSTAT_LAST st
  if s.mode = Md.OFF then s
  else if crc8 (smpRequest 1 len addr d) != crc.toNat then fin s.smpBadCrc St8.CRC_ERR
  else if smpMisaligned addr d.length then fin s St8.ALIGN
  else
    let r := s.smpWriteWords addr d
    fin r.2 r.1

/-- SMP_READ (R66). -/
def execSmpRead (len : BitVec 4) (addr : BitVec 24) (crc : Byte) (s : State) : Host.Outcome State Fault Refusal := s.done (s.smpRead len.toNat addr.toNat crc)

/-- SMP_WRITE (R70). -/
def execSmpWrite (len : BitVec 4) (addr : BitVec 24) (data : List Word) (crc : Byte) (s : State) : Host.Outcome State Fault Refusal :=
  s.done (s.smpWrite len.toNat addr.toNat data crc true)

/-- SMP_BAD_CMD (R66): a reserved opcode, answered with one status byte. -/
def execSmpBadCmd (cmd : Byte) (addr : BitVec 24) (crc : Byte) (s : State) : Host.Outcome State Fault Refusal :=
  s.done (if s.mode = Md.OFF || cmd.toNat < 128 then s
    else if crc8 (cmd :: be 3 addr.toNat) != crc.toNat then s.smpBadCrc.smpEnd St8.CRC_ERR [] else s.smpEnd St8.BAD_CMD [])

/-- The RC fields of the words that a READ had fetched when it was cut off: they are cleared, and nothing else is done (R69). -/
def State.smpCleared (s : State) (addr n : Nat) : State :=
  (List.range n).foldl (fun (t : State) i =>
    let p := (addr + 4 * i) / 0x1000
    let off := (addr + 4 * i) % 0x1000
    if t.deaf .smp p off || !t.pageOn p then t
    else ((t.fieldsAt .smp p off).filter (fun f => f.acc == .RC)).foldl (fun (u : State) f => u.wr f (t.restartRc f)) t) s

/-- SMP_ABANDON (R69): SMP_CS_N rises early. A WRITE whose request CRC came in full is performed; of a READ only the RC fields that were fetched are cleared. -/
def execSmpAbandon (op : SmpOp) (len : BitVec 4) (addr : BitVec 24) (data : List Word) (crc : Byte) (crcReceived : Bool) (fetched : Nat) (s : State) :
    Host.Outcome State Fault Refusal :=
  s.done (if s.mode = Md.OFF then s
    else
      let s1 := s.sat F.SMP_ABANDON_CNT
      match op with
      | .write => if crcReceived then s1.smpWrite len.toNat addr.toNat data crc false else s1
      | .read =>
        if crcReceived && crc8 (smpRequest 0 len.toNat addr.toNat []) == crc.toNat && !smpMisaligned addr.toNat (len.toNat + 1) then
          s1.smpCleared addr.toNat (min fetched (len.toNat + 1))
        else s1
      | .badCmd => s1)

/-- One override command of the SMP (R75): the write of an override register, with its status. -/
def State.ovrCommand (s : State) (off : Nat) (v : Word) : State :=
  if s.mode = Md.OFF then s
  else
    let st := s.ovrCheck off v
    (if st = St8.OK then s.ovrRun off v else s).smpEnd st []

/-- OVR_MODE (R75). -/
def execOvrMode (v : Word) (s : State) : Host.Outcome State Fault Refusal := s.done (s.ovrCommand 0x100 v)
/-- OVR_RESET_FULL (R75). -/
def execOvrResetFull (v : Word) (s : State) : Host.Outcome State Fault Refusal := s.done (s.ovrCommand 0x104 v)
/-- OVR_RESET_DOMAIN (R75). -/
def execOvrResetDomain (v : Word) (s : State) : Host.Outcome State Fault Refusal := s.done (s.ovrCommand 0x104 v)
/-- OVR_GIVE_UP (R75). -/
def execOvrGiveUp (v : Word) (s : State) : Host.Outcome State Fault Refusal := s.done (s.ovrCommand 0x108 v)
/-- OVR_CTRL_GRANT (R438). -/
def execOvrCtrlGrant (v : Word) (s : State) : Host.Outcome State Fault Refusal := s.done (s.ovrCommand 0x108 v)
/-- OVR_CTRL_DENY (R438). -/
def execOvrCtrlDeny (v : Word) (s : State) : Host.Outcome State Fault Refusal := s.done (s.ovrCommand 0x108 v)

/-- REGISTER_WRITE (R38, R73): a word write; a PCIe write without all byte enables is ignored and recorded with cause SIZE, whatever the page is. The SMP's writes of override registers run the override. DESIGN CHOICE, unsafe: log entry 28. -/
def execRegisterWrite (m : Master) (addr : BitVec 24) (be : BitVec 4) (v : Word) (s : State) : Host.Outcome State Fault Refusal :=
  s.done (
    let p := addr.toNat / 0x1000
    let off := addr.toNat % 0x1000 / 4 * 4
    if m == .smp && isOverride p off then (if s.mode = Md.OFF || s.ovrCheck off v != St8.OK then s else s.ovrRun off v)
    else if s.dead then s
    else if m == .pcie && be != 0xF#4 then s.accErr m Cause.SIZE (p * 0x1000 + off)
    else s.writeWord m p off v)

/-! ## Idle ticks -/

/-- FG_MS counts the milliseconds in foreground collection (R391). -/
def State.fgCount (s : State) : State := if s.rd F.IGT_STATE_MODE = 3 && s.raw % 250000 == 0 && s.powered then s.sat F.IGT_FG_MS else s

/-- What an idle step does (log entry 25): one tick of the counter, and the work that waits for no command: radio frames that can start no more (R179), queued uplink frames, journal records for the partner, domains that an OUTAGE sheds, and self-diagnosis. DESIGN CHOICE, safe: log entry 6. DESIGN CHOICE, unsafe: log entry 25. -/
def State.idle (s : State) : State := (((((s.tick).fgCount).sunExpires).uplinksSend.ship).outSettle).selfCheck

end Sys2Proof.Machine
end

