-- ==== Sys2Proof/Machine/Chains.lean ====
section
/-!
DEFINITION. T2 (R200, R244, R259): the items of a frame, and the expansion of its chain into T3 to T7 and the item task.
-/
namespace Sys2Proof.Machine

/-- The items of an application content (R259): readings, the node time in hundredths of a second, and the other items. -/
structure Items where
  vals : List (List Byte) := []
  ntime : Option Nat := none
  others : List (Nat × List Byte) := []
  deriving DecidableEq, Repr

/-- Parses items until the content or the parse ends (R259). -/
def parseItems : Nat → List Byte → Items → Items
  | 0, _, x => x
  | _, [], x => x
  | _, [_], x => x
  | fuel + 1, t :: l :: b, x =>
    let n := l.toNat
    if b.length < n then x
    else
      let body := b.take n
      if t = 1 then (if n != 16 then x else parseItems fuel (b.drop n) { x with vals := x.vals ++ [body] })
      else if t = 2 then (if n != 6 then x else parseItems fuel (b.drop n) { x with ntime := some (field body 0 5 * 100 + field body 5 1) })
      else parseItems fuel (b.drop n) { x with others := x.others ++ [(t.toNat, body)] }

/-- The channel of a reading item (R260). -/
def itemChan (b : List Byte) : Nat := field b 0 1 / 32

/-- The next reading item of the same channel after item `i` (R244). -/
def laterSame (vals : List (List Byte)) (i : Nat) : Option Nat :=
  let c := itemChan (vals.getD i [])
  ((vals.drop (i + 1)).findIdx? (fun b => itemChan b == c)).map (fun k => i + 1 + k)

/-- Has an earlier item of the frame the same channel? -/
def earlierSame (vals : List (List Byte)) (i : Nat) : Bool := (vals.take i).any (fun b => itemChan b == itemChan (vals.getD i []))

/-- Writes T5 to T7 of a value (R244): their indices. -/
def State.expandTail (s : State) (d : Desc) (t8 i : Nat) (t5 t7 : Bool) : List Nat × State :=
  let kinds := (if t5 then [4] else []) ++ [5] ++ (if t7 then [6] else [])
  kinds.foldl (fun (r : List Nat × State) k =>
    let (j, t) := r.2.putDesc { Desc.make d.prio k d.atomic d.flow 1 d.cell d.stamp d.chain [t8] with arg := d.arg, vi := i }
    (r.1 ++ [j], t)) ([], s)

/-- Writes T4 to T7 of the values from the last to the first (R244), so that a T4 can name a later T4 of its channel. Answers the T4 indices by value. -/
def State.expandVals (s : State) (d : Desc) (t8 : Nat) (vals : List (List Byte)) (t5 t7 : Bool) : Nat → SMap Nat → SMap Nat × State
  | 0, m => (m, s)
  | i + 1, m =>
    let (tail, s1) := s.expandTail d t8 i t5 t7
    let next := match laterSame vals i with
      | some k => (SMap.find? m k).toList
      | none => []
    let n := if earlierSame vals i then 2 else 1
    let (j, s2) := s1.putDesc { Desc.make d.prio 3 d.atomic d.flow n d.cell d.stamp d.chain (tail ++ next) with arg := d.arg, vi := i }
    s2.expandVals d t8 vals t5 t7 i (SMap.set m i j)

/-- Writes FAN descriptors (R241), the last one first: each carries up to 11 successors and names the next. -/
def State.putFans (s : State) (d : Desc) : List (List Nat) → List Nat × State
  | [] => ([], s)
  | l :: ls =>
    let (fans, t) := s.putFans d ls
    let (j, t1) := t.putDesc { Desc.make d.prio 8 false 0 1 0xFFFF d.stamp d.chain l with fans := fans.take 1 }
    (j :: fans, t1)

/-- The successors that a task's FAN descriptors carry: those after the third, by elevens (R241). -/
def fanLists (succ : List Nat) : List (List Nat) := (List.range (fansFor succ.length)).map (fun j => (succ.drop (3 + 11 * j)).take 11)

/-- The node whose readings a chain carries: the originator, or for a frame without the application header the transmitting neighbour. DEDUCED, unsafe: log entry 19. -/
def Chain.nodeOf (ch : Chain) (r : AppRes) : Option Nat :=
  match r.node with
  | some k => some k
  | none => if ch.txNbr < 65536 then some ch.txNbr else none

/-- The descriptors that the expansion of a chain needs (R244). -/
def State.expandNeed (s : State) (ch : Chain) (r : AppRes) (x : Items) : Nat :=
  let node := ch.nodeOf r
  let v := if node.isNone then 0 else x.vals.length
  let t7 := match node with | some k => s.balanced k | none => false
  (if v = 0 then 0 else 1 + v * (2 + b2n s.accrues + b2n t7) + fansFor v) + b2n (v = 0 || !x.others.isEmpty)

/-- Has the pool the descriptors, by the chain's reservation or beside all reservations (R242)? -/
def State.expandRoom (s : State) (ch : Chain) (need : Nat) : Bool := need ≤ ch.resv || s.descResv + need ≤ s.descFree + ch.resv

/-- The chain is expanded before T2's completion is counted (R244): T3 with T4 to T7 of each value, the item task, T2's successors and T8's COUNT. DEDUCED, unsafe: log entry 74. -/
def State.expandChain (s : State) (i : Nat) (d : Desc) (r : AppRes) (x : Items) : State :=
  let ch := s.chain d.chain
  let node := ch.nodeOf r
  let vals := if node.isNone then [] else x.vals
  let v := vals.length
  let t5 := s.accrues
  let t7 := match node with | some k => s.balanced k | none => false
  let item := v = 0 || !x.others.isEmpty
  let per := 2 + b2n t5 + b2n t7
  let (t4s, s1) := s.expandVals d ch.retire vals t5 t7 v []
  let (heads, s2) :=
    if v = 0 then (([] : List Nat), s1)
    else
      let succ := t4s.map (fun e => e.2)
      let (fans, t) := s1.putFans d (fanLists succ)
      let (t3, t') := t.putDesc { Desc.make d.prio 2 d.atomic d.flow 1 d.cell d.stamp d.chain succ with arg := d.arg, fans := fans }
      ([t3], t')
  let (itemIdx, s3) :=
    if item then
      let (j, t) := s2.putDesc { Desc.make d.prio 9 d.atomic d.flow 0 d.cell d.stamp d.chain [ch.retire] with entry := s.rd (F.PLN_QMAP_ENTRY ch.port) }
      (some j, t)
    else (none, s2)
  let vitems := vals.map (fun b => ({ bytes := b } : ValItem))
  let s4 := s3.setChain d.chain { ch with
    node := node, ic := r.ic, gen := r.gen, prot := r.prot, vals := vitems, ntime := x.ntime, others := x.others, itemTask := itemIdx, resv := 0 }
  let t8count := v * (per - 1) + b2n item
  let s5 := match s4.desc ch.retire with
    | some y => s4.setDesc ch.retire { y with count := t8count }
    | none => s4
  match s5.desc i with
  | some y => (s5.setDesc i { y with succ := heads ++ itemIdx.toList }).taskEnd i .ok 0
  | none => s5

/-- T2 completes (R200, R244): the application check and, where it passes, the chain's expansion. Where the pool cannot hold the expansion nothing has happened but AGAIN (R242), and the window has not moved. -/
def State.decryptTask (s : State) (i : Nat) (d : Desc) : State :=
  if s.taskPoison d then s.taskEnd i .poison 0
  else
    let h := s.pktBytes d.cell 0 32
    let n := field h 3 1
    let p := s.appPayload n ((field h 30 1).testBit 0) (s.pktPayload d.cell)
    let ch := s.chain d.chain
    match s.appCheck (d.gate.getD (s.snapT2 n p)) p (if ch.txNbr < 65536 then some ch.txNbr else none) with
    | (r, s1) =>
      let x := parseItems r.content.length r.content {}
      if r.out != .ok then s1.taskEnd i .fail 0
      else if s.expandRoom ch (s.expandNeed ch r x) then s1.expandChain i d r x
      else s.sat F.PLN_AGAIN

/-- DECRYPT (R200). -/
def execDecrypt (d : Fin 16384) (s : State) : Host.Outcome State Fault Refusal :=
  s.done (match s.runningTask d.val 1 with
    | some x => s.decryptTask d.val x
    | none => s)

end Sys2Proof.Machine
end

