-- ==== Sys2Proof/Machine/Closing.lean ====
section
/-!
DEFINITION. What profile task code does with a BOUNDARY event (R268, R275, R279, R288, R305): filing intervals, slots, demand windows, and the day's end in FALLBACK.
-/
namespace Sys2Proof.Machine

/-- Profile task code acts on a drain to grid minute `m`. The first drain of all closes what ends at it. -/
def State.profileBoundary (s : State) (e : BndEvent) (m : Nat) : State :=
  let s1 := if s.prf.lastTarget = 0 then { s with prf := { s.prf with lastTarget := m - 1 } } else s
  ((((s1.closeFilings e m).closeSlots m).demandAll).fallbackDay m).releaseOld m

/-- PROFILE_BOUNDARY (R268, R275): an event off the raster is counted and ignored; while the journal takes no record the event waits (R384). -/
def execProfileBoundary (s : State) : Host.Outcome State Fault Refusal :=
  s.done (match s.bndPrf with
    | [] => s
    | e :: es =>
      if !s.domOn Dom.TSK then s
      else
        let s1 := { s with bndPrf := es }
        if !s.onRaster e.target then (s1.sat F.PRF_BND_OFFGRID).raise Pg.PRF 4
        else if !s.jrnRoom then s.sat F.IGT_JRNL_WAIT
        else s1.profileBoundary e (s.gridMin e.target))

end Sys2Proof.Machine
end

