-- ==== Sys2Proof/Machine/Dispatch.lean ====
section
/-!
DEFINITION. Which meaning each command has: one arm per constructor.
-/
namespace Sys2Proof.Machine

def exec (i : Instr) (s : State) : Host.Outcome State Fault Refusal :=
  match i with
  | .registerWrite m addr be v => Sys2Proof.Machine.execRegisterWrite m addr be v s
  | .pairLatchRead m addr => Sys2Proof.Machine.execPairLatchRead m addr s
  | .intStatClear m p v => Sys2Proof.Machine.execIntStatClear m p v s
  | .intForce m p v => Sys2Proof.Machine.execIntForce m p v s
  | .lockPage m p v => Sys2Proof.Machine.execLockPage m p v s
  | .ownerWrite m p v => Sys2Proof.Machine.execOwnerWrite m p v s
  | .domRst m p v => Sys2Proof.Machine.execDomRst m p v s
  | .cfgCommit m v => Sys2Proof.Machine.execCfgCommit m v s
  | .cfgCommitDone readbackOk => Sys2Proof.Machine.execCfgCommitDone readbackOk s
  | .cfgDiscard m v => Sys2Proof.Machine.execCfgDiscard m v s
  | .pcieLinkUp width speed => Sys2Proof.Machine.execPcieLinkUp width speed s
  | .pcieLinkDown => Sys2Proof.Machine.execPcieLinkDown s
  | .appHostSelect => Sys2Proof.Machine.execAppHostSelect s
  | .smpRead len addr crc => Sys2Proof.Machine.execSmpRead len addr crc s
  | .smpWrite len addr data crc => Sys2Proof.Machine.execSmpWrite len addr data crc s
  | .smpBadCmd cmd addr crc => Sys2Proof.Machine.execSmpBadCmd cmd addr crc s
  | .smpAbandon op len addr data crc crcReceived fetched => Sys2Proof.Machine.execSmpAbandon op len addr data crc crcReceived fetched s
  | .ovrMode v => Sys2Proof.Machine.execOvrMode v s
  | .ovrResetFull v => Sys2Proof.Machine.execOvrResetFull v s
  | .ovrResetDomain v => Sys2Proof.Machine.execOvrResetDomain v s
  | .ovrGiveUp v => Sys2Proof.Machine.execOvrGiveUp v s
  | .ovrCtrlGrant v => Sys2Proof.Machine.execOvrCtrlGrant v s
  | .ovrCtrlDeny v => Sys2Proof.Machine.execOvrCtrlDeny v s
  | .ovrLdgDataRead m => Sys2Proof.Machine.execOvrLdgDataRead m s
  | .timeRateCommit m v => Sys2Proof.Machine.execTimeRateCommit m v s
  | .timeOffsetCommit m v => Sys2Proof.Machine.execTimeOffsetCommit m v s
  | .timeStepCommit m v => Sys2Proof.Machine.execTimeStepCommit m v s
  | .timeNowRead m => Sys2Proof.Machine.execTimeNowRead m s
  | .timeConvert m v => Sys2Proof.Machine.execTimeConvert m v s
  | .lockSet m v => Sys2Proof.Machine.execLockSet m v s
  | .lockClr m v => Sys2Proof.Machine.execLockClr m v s
  | .timeFeed m v => Sys2Proof.Machine.execTimeFeed m v s
  | .ppsInEdge => Sys2Proof.Machine.execPpsInEdge s
  | .sourceMiss => Sys2Proof.Machine.execSourceMiss s
  | .srcLost => Sys2Proof.Machine.execSrcLost s
  | .holdDriftTick => Sys2Proof.Machine.execHoldDriftTick s
  | .calendarLoad => Sys2Proof.Machine.execCalendarLoad s
  | .calendarTrim crystalTicks => Sys2Proof.Machine.execCalendarTrim crystalTicks s
  | .captureFlagsRead m j => Sys2Proof.Machine.execCaptureFlagsRead m j s
  | .compareFire k => Sys2Proof.Machine.execCompareFire k s
  | .compareRetarget m k perHi v => Sys2Proof.Machine.execCompareRetarget m k perHi v s
  | .ppsOutEnd => Sys2Proof.Machine.execPpsOutEnd s
  | .portEnable m n v => Sys2Proof.Machine.execPortEnable m n v s
  | .portDisable m n v => Sys2Proof.Machine.execPortDisable m n v s
  | .fslSlotRx n commaOk codeOk chars => Sys2Proof.Machine.execFslSlotRx n commaOk codeOk chars s
  | .fslCommaLoss n => Sys2Proof.Machine.execFslCommaLoss n s
  | .fslAlignTimeout n => Sys2Proof.Machine.execFslAlignTimeout n s
  | .sync n => Sys2Proof.Machine.execSync n s
  | .info n p => Sys2Proof.Machine.execInfo n p s
  | .status n p => Sys2Proof.Machine.execStatus n p s
  | .txEnd n p => Sys2Proof.Machine.execTxEnd n p s
  | .auxResult n p => Sys2Proof.Machine.execAuxResult n p s
  | .cmdAck n p => Sys2Proof.Machine.execCmdAck n p s
  | .creditRequest n len => Sys2Proof.Machine.execCreditRequest n len s
  | .ackCreditRequest n len => Sys2Proof.Machine.execAckCreditRequest n len s
  | .creditGrant n => Sys2Proof.Machine.execCreditGrant n s
  | .creditWithdraw n => Sys2Proof.Machine.execCreditWithdraw n s
  | .creditStarve n => Sys2Proof.Machine.execCreditStarve n s
  | .txEndTimeout n => Sys2Proof.Machine.execTxEndTimeout n s
  | .creditReleaseDown n => Sys2Proof.Machine.execCreditReleaseDown n s
  | .zcEdge p => Sys2Proof.Machine.execZcEdge p s
  | .zcLost p => Sys2Proof.Machine.execZcLost p s
  | .gpioEdge k rise => Sys2Proof.Machine.execGpioEdge k rise s
  | .gpioPulseEnd k => Sys2Proof.Machine.execGpioPulseEnd k s
  | .nplPreambleDetect n => Sys2Proof.Machine.execNplPreambleDetect n s
  | .nplHeaderDecode n hdr => Sys2Proof.Machine.execNplHeaderDecode n hdr s
  | .nplFrameEnd n rsOk frame snr groups blanked => Sys2Proof.Machine.execNplFrameEnd n rsOk frame snr groups blanked s
  | .nplAckRx n hdr => Sys2Proof.Machine.execNplAckRx n hdr s
  | .ackTimeout n => Sys2Proof.Machine.execAckTimeout n s
  | .contentionSlot n slot energy => Sys2Proof.Machine.execContentionSlot n slot energy s
  | .nplBeacon n => Sys2Proof.Machine.execNplBeacon n s
  | .toneMapRx n src idx map => Sys2Proof.Machine.execToneMapRx n src idx map s
  | .routeFrameRx n node via hops cost tag => Sys2Proof.Machine.execRouteFrameRx n node via hops cost tag s
  | .routeExpire n node => Sys2Proof.Machine.execRouteExpire n node s
  | .routeWaitExpire n => Sys2Proof.Machine.execRouteWaitExpire n s
  | .nplJoinRequest n eui => Sys2Proof.Machine.execNplJoinRequest n eui s
  | .g3Bootstrap n eui msg => Sys2Proof.Machine.execG3Bootstrap n eui msg s
  | .g3BeaconRequest n => Sys2Proof.Machine.execG3BeaconRequest n s
  | .pibWrite m n v => Sys2Proof.Machine.execPibWrite m n v s
  | .pibRead m n => Sys2Proof.Machine.execPibRead m n s
  | .heldFrameCommit n => Sys2Proof.Machine.execHeldFrameCommit n s
  | .sunSlotStart n busy => Sys2Proof.Machine.execSunSlotStart n busy s
  | .lbtBackoffEnd n busy => Sys2Proof.Machine.execLbtBackoffEnd n busy s
  | .sunFrameRx n phrOk fcsOk psdu level => Sys2Proof.Machine.execSunFrameRx n phrOk fcsOk psdu level s
  | .connectReq n eui => Sys2Proof.Machine.execConnectReq n eui s
  | .connectRsp n result addr anchor e => Sys2Proof.Machine.execConnectRsp n result addr anchor e s
  | .sunAckRx n seq => Sys2Proof.Machine.execSunAckRx n seq s
  | .sunAckMissing n => Sys2Proof.Machine.execSunAckMissing n s
  | .busyRx n seq backoff => Sys2Proof.Machine.execBusyRx n seq backoff s
  | .sunSupervisionTimeout n addr => Sys2Proof.Machine.execSunSupervisionTimeout n addr s
  | .beaconMissed n => Sys2Proof.Machine.execBeaconMissed n s
  | .scanDwellEnd n => Sys2Proof.Machine.execScanDwellEnd n s
  | .connectNoAnswer n => Sys2Proof.Machine.execConnectNoAnswer n s
  | .mapApply m n v => Sys2Proof.Machine.execMapApply m n v s
  | .nbrCreate m v => Sys2Proof.Machine.execNbrCreate m v s
  | .nbrUnbind m v => Sys2Proof.Machine.execNbrUnbind m v s
  | .nbrBlock m v => Sys2Proof.Machine.execNbrBlock m v s
  | .nbrUnblock m v => Sys2Proof.Machine.execNbrUnblock m v s
  | .nbrFree m v => Sys2Proof.Machine.execNbrFree m v s
  | .nbrFind m v => Sys2Proof.Machine.execNbrFind m v s
  | .nbrRead m => Sys2Proof.Machine.execNbrRead m s
  | .joinRequest n eui => Sys2Proof.Machine.execJoinRequest n eui s
  | .joinTimeout idx => Sys2Proof.Machine.execJoinTimeout idx s
  | .keyInstall m machine v => Sys2Proof.Machine.execKeyInstall m machine v s
  | .keyInstallDone => Sys2Proof.Machine.execKeyInstallDone s
  | .gateCheckpoint => Sys2Proof.Machine.execGateCheckpoint s
  | .rollGraceEnd idx => Sys2Proof.Machine.execRollGraceEnd idx s
  | .packetStart w q => Sys2Proof.Machine.execPacketStart w q s
  | .reservationWaitEnd w => Sys2Proof.Machine.execReservationWaitEnd w s
  | .packetCommit w payload stamp qual srcInfo => Sys2Proof.Machine.execPacketCommit w payload stamp qual srcInfo s
  | .packetRewind w => Sys2Proof.Machine.execPacketRewind w s
  | .packetRelease cell => Sys2Proof.Machine.execPacketRelease cell s
  | .queueFlush m v => Sys2Proof.Machine.execQueueFlush m v s
  | .queueRecover m v => Sys2Proof.Machine.execQueueRecover m v s
  | .scrubPass corrected ueData ueLink => Sys2Proof.Machine.execScrubPass corrected ueData ueLink s
  | .hctxAlloc m k v => Sys2Proof.Machine.execHctxAlloc m k v s
  | .hctxCommit m k v => Sys2Proof.Machine.execHctxCommit m k v s
  | .hctxAbort m k v => Sys2Proof.Machine.execHctxAbort m k v s
  | .hctxPop m k => Sys2Proof.Machine.execHctxPop m k s
  | .hctxFree m k v => Sys2Proof.Machine.execHctxFree m k v s
  | .bar2Access m off write v => Sys2Proof.Machine.execBar2Access m off write v s
  | .bankDrain m v => Sys2Proof.Machine.execBankDrain m v s
  | .drainRelocate => Sys2Proof.Machine.execDrainRelocate s
  | .drainEmpty => Sys2Proof.Machine.execDrainEmpty s
  | .drainTimeout => Sys2Proof.Machine.execDrainTimeout s
  | .bankRelease m v => Sys2Proof.Machine.execBankRelease m v s
  | .packetPop q => Sys2Proof.Machine.execPacketPop q s
  | .taskDispatch cls => Sys2Proof.Machine.execTaskDispatch cls s
  | .linkCheck d inTime => Sys2Proof.Machine.execLinkCheck d inTime s
  | .decrypt d => Sys2Proof.Machine.execDecrypt d s
  | .validate d => Sys2Proof.Machine.execValidate d s
  | .profileUpdate d => Sys2Proof.Machine.execProfileUpdate d s
  | .tariffAccrual d => Sys2Proof.Machine.execTariffAccrual d s
  | .merkleLeaf d => Sys2Proof.Machine.execMerkleLeaf d s
  | .balanceContribution d => Sys2Proof.Machine.execBalanceContribution d s
  | .retire d => Sys2Proof.Machine.execRetire d s
  | .itemTask d => Sys2Proof.Machine.execItemTask d s
  | .codeTaskDone d how result => Sys2Proof.Machine.execCodeTaskDone d how result s
  | .aesOpDone d ok result => Sys2Proof.Machine.execAesOpDone d ok result s
  | .shaOpDone d => Sys2Proof.Machine.execShaOpDone d s
  | .pkOpDone d => Sys2Proof.Machine.execPkOpDone d s
  | .xferDone d => Sys2Proof.Machine.execXferDone d s
  | .taskSubmit core image => Sys2Proof.Machine.execTaskSubmit core image s
  | .taskTimeout d => Sys2Proof.Machine.execTaskTimeout d s
  | .sqDoorbell m k v => Sys2Proof.Machine.execSqDoorbell m k v s
  | .sqFetch k entry => Sys2Proof.Machine.execSqFetch k entry s
  | .boundaryDrainComplete => Sys2Proof.Machine.execBoundaryDrainComplete s
  | .boundaryDrainLate => Sys2Proof.Machine.execBoundaryDrainLate s
  | .obsWindowEnd waitMax waitAvg busy => Sys2Proof.Machine.execObsWindowEnd waitMax waitAvg busy s
  | .descRead m => Sys2Proof.Machine.execDescRead m s
  | .profileBoundary => Sys2Proof.Machine.execProfileBoundary s
  | .setbackSpanRetire => Sys2Proof.Machine.execSetbackSpanRetire s
  | .fallbackEnter => Sys2Proof.Machine.execFallbackEnter s
  | .fallbackExit => Sys2Proof.Machine.execFallbackExit s
  | .profileRead m v => Sys2Proof.Machine.execProfileRead m v s
  | .profileReadDone unc => Sys2Proof.Machine.execProfileReadDone unc s
  | .profileEdit m v => Sys2Proof.Machine.execProfileEdit m v s
  | .lockstepMismatch => Sys2Proof.Machine.execLockstepMismatch s
  | .tariffCheckpoint => Sys2Proof.Machine.execTariffCheckpoint s
  | .periodClose => Sys2Proof.Machine.execPeriodClose s
  | .periodSweepDone => Sys2Proof.Machine.execPeriodSweepDone s
  | .sessionChallenge m => Sys2Proof.Machine.execSessionChallenge m s
  | .sessionOpen m v => Sys2Proof.Machine.execSessionOpen m v s
  | .sessionClose m v => Sys2Proof.Machine.execSessionClose m v s
  | .sessionTimeout m => Sys2Proof.Machine.execSessionTimeout m s
  | .objGet m v => Sys2Proof.Machine.execObjGet m v s
  | .objSet m v => Sys2Proof.Machine.execObjSet m v s
  | .actionActivate m v => Sys2Proof.Machine.execActionActivate m v s
  | .actionCancel m v => Sys2Proof.Machine.execActionCancel m v s
  | .actionClose m v => Sys2Proof.Machine.execActionClose m v s
  | .actionAck m v => Sys2Proof.Machine.execActionAck m v s
  | .sealInterval => Sys2Proof.Machine.execSealInterval s
  | .sealRelease => Sys2Proof.Machine.execSealRelease s
  | .reseal => Sys2Proof.Machine.execReseal s
  | .resealGraceExpire => Sys2Proof.Machine.execResealGraceExpire s
  | .proofRequest m v => Sys2Proof.Machine.execProofRequest m v s
  | .proofDone => Sys2Proof.Machine.execProofDone s
  | .tchGroupClose => Sys2Proof.Machine.execTchGroupClose s
  | .tchLocalise => Sys2Proof.Machine.execTchLocalise s
  | .modelWrite m v => Sys2Proof.Machine.execModelWrite m v s
  | .modelRelearn m v => Sys2Proof.Machine.execModelRelearn m v s
  | .modelHold m v => Sys2Proof.Machine.execModelHold m v s
  | .modelResume m v => Sys2Proof.Machine.execModelResume m v s
  | .tchConfigWrite m r v => Sys2Proof.Machine.execTchConfigWrite m r v s
  | .tchDayEval => Sys2Proof.Machine.execTchDayEval s
  | .tchCheckpoint => Sys2Proof.Machine.execTchCheckpoint s
  | .auWrite logical phys data => Sys2Proof.Machine.execAuWrite logical phys data s
  | .journalAppend kind isLocal body => Sys2Proof.Machine.execJournalAppend kind isLocal body s
  | .journalPageProgram => Sys2Proof.Machine.execJournalPageProgram s
  | .mapPageProgram page => Sys2Proof.Machine.execMapPageProgram page s
  | .journalRelease => Sys2Proof.Machine.execJournalRelease s
  | .gcRelocate blk dst => Sys2Proof.Machine.execGcRelocate blk dst s
  | .blockRefresh blk dst => Sys2Proof.Machine.execBlockRefresh blk dst s
  | .patrolRead blk bits => Sys2Proof.Machine.execPatrolRead blk bits s
  | .nandProgFail blk => Sys2Proof.Machine.execNandProgFail blk s
  | .nandRead phys bits retries unc => Sys2Proof.Machine.execNandRead phys bits retries unc s
  | .quenchEnd => Sys2Proof.Machine.execQuenchEnd s
  | .capTest m w => Sys2Proof.Machine.execCapTest m w s
  | .holdVFall => Sys2Proof.Machine.execHoldVFall s
  | .capTestNoFall => Sys2Proof.Machine.execCapTestNoFall s
  | .capRechargeEnd => Sys2Proof.Machine.execCapRechargeEnd s
  | .chnLinkUp l => Sys2Proof.Machine.execChnLinkUp l s
  | .chnFrameRx l bytes => Sys2Proof.Machine.execChnFrameRx l bytes s
  | .linkctl l src ack c0 c1 => Sys2Proof.Machine.execLinkctl l src ack c0 c1 s
  | .linkctlSend l => Sys2Proof.Machine.execLinkctlSend l s
  | .chnRetransmit l => Sys2Proof.Machine.execChnRetransmit l s
  | .chnLinkTimeout l => Sys2Proof.Machine.execChnLinkTimeout l s
  | .creditReturn l => Sys2Proof.Machine.execCreditReturn l s
  | .enum next => Sys2Proof.Machine.execEnum next s
  | .enumEnd last overflow => Sys2Proof.Machine.execEnumEnd last overflow s
  | .enumTimeout => Sys2Proof.Machine.execEnumTimeout s
  | .joinReq => Sys2Proof.Machine.execJoinReq s
  | .joinReqSend => Sys2Proof.Machine.execJoinReqSend s
  | .addrAccept m v => Sys2Proof.Machine.execAddrAccept m v s
  | .unitId unit cert sealCert => Sys2Proof.Machine.execUnitId unit cert sealCert s
  | .unitRevoke m v => Sys2Proof.Machine.execUnitRevoke m v s
  | .unitForget m v => Sys2Proof.Machine.execUnitForget m v s
  | .batch unit sealB recs => Sys2Proof.Machine.execBatch unit sealB recs s
  | .batchAck seq => Sys2Proof.Machine.execBatchAck seq s
  | .batchReq seq => Sys2Proof.Machine.execBatchReq seq s
  | .batchReqTimer unit => Sys2Proof.Machine.execBatchReqTimer unit s
  | .proofReq body => Sys2Proof.Machine.execProofReq body s
  | .proofRsp unit res proof => Sys2Proof.Machine.execProofRsp unit res proof s
  | .proofUnreachable => Sys2Proof.Machine.execProofUnreachable s
  | .chnEvent unit body => Sys2Proof.Machine.execChnEvent unit body s
  | .chnHost unit body => Sys2Proof.Machine.execChnHost unit body s
  | .time l seq time qual => Sys2Proof.Machine.execTime l seq time qual s
  | .timeReq l seq => Sys2Proof.Machine.execTimeReq l seq s
  | .timeRsp l seq => Sys2Proof.Machine.execTimeRsp l seq s
  | .timeBeaconSend => Sys2Proof.Machine.execTimeBeaconSend s
  | .stampFifoRead m j => Sys2Proof.Machine.execStampFifoRead m j s
  | .ethFrameRx p bytes fcsOk => Sys2Proof.Machine.execEthFrameRx p bytes fcsOk s
  | .pauseRx p pfc prios quanta => Sys2Proof.Machine.execPauseRx p pfc prios quanta s
  | .pauseRefresh p => Sys2Proof.Machine.execPauseRefresh p s
  | .heartbeat src body => Sys2Proof.Machine.execHeartbeat src body s
  | .heartbeatSend => Sys2Proof.Machine.execHeartbeatSend s
  | .partnerLost => Sys2Proof.Machine.execPartnerLost s
  | .jrec seq kind isLocal body carried => Sys2Proof.Machine.execJrec seq kind isLocal body carried s
  | .store logical phys data seq => Sys2Proof.Machine.execStore logical phys data seq s
  | .syncReq seq => Sys2Proof.Machine.execSyncReq seq s
  | .health body => Sys2Proof.Machine.execHealth body s
  | .healthSend => Sys2Proof.Machine.execHealthSend s
  | .mirLinkDown => Sys2Proof.Machine.execMirLinkDown s
  | .soloTimeout => Sys2Proof.Machine.execSoloTimeout s
  | .claimRound partner pround crcOk stuck dramUe => Sys2Proof.Machine.execClaimRound partner pround crcOk stuck dramUe s
  | .takeoverReady => Sys2Proof.Machine.execTakeoverReady s
  | .giveUp m v => Sys2Proof.Machine.execGiveUp m v s
  | .rejoin m v => Sys2Proof.Machine.execRejoin m v s
  | .handover m v => Sys2Proof.Machine.execHandover m v s
  | .handoverComplete => Sys2Proof.Machine.execHandoverComplete s
  | .handoverTimeout => Sys2Proof.Machine.execHandoverTimeout s
  | .ctrlGrant m v => Sys2Proof.Machine.execCtrlGrant m v s
  | .ctrlDeny m v => Sys2Proof.Machine.execCtrlDeny m v s
  | .lcToFactory m v => Sys2Proof.Machine.execLcToFactory m v s
  | .lcToProvisioned m v => Sys2Proof.Machine.execLcToProvisioned m v s
  | .lcToField m v => Sys2Proof.Machine.execLcToField m v s
  | .lcToReturn m v => Sys2Proof.Machine.execLcToReturn m v s
  | .lcToRetired m v => Sys2Proof.Machine.execLcToRetired m v s
  | .lifeChallenge m => Sys2Proof.Machine.execLifeChallenge m s
  | .debugChallenge m => Sys2Proof.Machine.execDebugChallenge m s
  | .debugRequest m v => Sys2Proof.Machine.execDebugRequest m v s
  | .keySelect m v => Sys2Proof.Machine.execKeySelect m v s
  | .keyImport m machine v => Sys2Proof.Machine.execKeyImport m machine v s
  | .keyImportPub m machine v => Sys2Proof.Machine.execKeyImportPub m machine v s
  | .keyGenerate m machine v => Sys2Proof.Machine.execKeyGenerate m machine v s
  | .keyZeroise m machine v => Sys2Proof.Machine.execKeyZeroise m machine v s
  | .keyNarrow m machine v => Sys2Proof.Machine.execKeyNarrow m machine v s
  | .keyExpire slot => Sys2Proof.Machine.execKeyExpire slot s
  | .annealPass => Sys2Proof.Machine.execAnnealPass s
  | .tamper cause => Sys2Proof.Machine.execTamper cause s
  | .attestReport m v => Sys2Proof.Machine.execAttestReport m v s
  | .attestItem m v => Sys2Proof.Machine.execAttestItem m v s
  | .certInstall m v => Sys2Proof.Machine.execCertInstall m v s
  | .imageChunk m v => Sys2Proof.Machine.execImageChunk m v s
  | .imageVerify m v => Sys2Proof.Machine.execImageVerify m v s
  | .imageDelete m v => Sys2Proof.Machine.execImageDelete m v s
  | .imageForward m v => Sys2Proof.Machine.execImageForward m v s
  | .nodePush m v => Sys2Proof.Machine.execNodePush m v s
  | .updateChunk img ofs bytes => Sys2Proof.Machine.execUpdateChunk img ofs bytes s
  | .updateStored unit img res => Sys2Proof.Machine.execUpdateStored unit img res s
  | .updateApply imgs => Sys2Proof.Machine.execUpdateApply imgs s
  | .updateStatus unit stat => Sys2Proof.Machine.execUpdateStatus unit stat s
  | .imageResend => Sys2Proof.Machine.execImageResend s
  | .imgStat nbr img next st => Sys2Proof.Machine.execImgStat nbr img next st s
  | .nodeBlockTimeout nbr => Sys2Proof.Machine.execNodeBlockTimeout nbr s
  | .bundleApply m v => Sys2Proof.Machine.execBundleApply m v s
  | .partBuilt readbackOk => Sys2Proof.Machine.execPartBuilt readbackOk s
  | .updateReset => Sys2Proof.Machine.execUpdateReset s
  | .trialPass => Sys2Proof.Machine.execTrialPass s
  | .trialFail => Sys2Proof.Machine.execTrialFail s
  | .fallbackStep => Sys2Proof.Machine.execFallbackStep s
  | .updateConfirm m v => Sys2Proof.Machine.execUpdateConfirm m v s
  | .updateReject m v => Sys2Proof.Machine.execUpdateReject m v s
  | .confirmTimeout => Sys2Proof.Machine.execConfirmTimeout s
  | .powerOn vbakHeld straps pair elapsed nand => Sys2Proof.Machine.execPowerOn vbakHeld straps pair elapsed nand s
  | .vbakRise => Sys2Proof.Machine.execVbakRise s
  | .vbakLost => Sys2Proof.Machine.execVbakLost s
  | .powerFail => Sys2Proof.Machine.execPowerFail s
  | .holdupReturn ms => Sys2Proof.Machine.execHoldupReturn ms s
  | .supplyCollapse ms kept => Sys2Proof.Machine.execSupplyCollapse ms kept s
  | .mainsOkFall => Sys2Proof.Machine.execMainsOkFall s
  | .outageEnter => Sys2Proof.Machine.execOutageEnter s
  | .mainsOkRise => Sys2Proof.Machine.execMainsOkRise s
  | .outageExit => Sys2Proof.Machine.execOutageExit s
  | .modeRequest m v => Sys2Proof.Machine.execModeRequest m v s
  | .resetPin ns => Sys2Proof.Machine.execResetPin ns s
  | .softwareReset m v => Sys2Proof.Machine.execSoftwareReset m v s
  | .wdtKick m v => Sys2Proof.Machine.execWdtKick m v s
  | .wdtWarn => Sys2Proof.Machine.execWdtWarn s
  | .watchdogExpire => Sys2Proof.Machine.execWatchdogExpire s
  | .preFlushEnd kept => Sys2Proof.Machine.execPreFlushEnd kept s
  | .domainReset d => Sys2Proof.Machine.execDomainReset d s
  | .domainReady d => Sys2Proof.Machine.execDomainReady d s
  | .domainFault d => Sys2Proof.Machine.execDomainFault d s
  | .domainCreditGrant d => Sys2Proof.Machine.execDomainCreditGrant d s
  | .bootEnd ms trainedMib => Sys2Proof.Machine.execBootEnd ms trainedMib s
  | .pstSlice => Sys2Proof.Machine.execPstSlice s
  | .pstSliceEnd ok code bad => Sys2Proof.Machine.execPstSliceEnd ok code bad s
  | .pstIsolationTimeout => Sys2Proof.Machine.execPstIsolationTimeout s
  | .pstRetest m v => Sys2Proof.Machine.execPstRetest m v s
  | .pstFullRun m v => Sys2Proof.Machine.execPstFullRun m v s
  | .tjSample tj => Sys2Proof.Machine.execTjSample tj s
  | .ledgerSecond => Sys2Proof.Machine.execLedgerSecond s
  | .ledgerCheckpoint => Sys2Proof.Machine.execLedgerCheckpoint s
  | .succExport m v => Sys2Proof.Machine.execSuccExport m v s
  | .succChunk m v => Sys2Proof.Machine.execSuccChunk m v s
  | .succImport m v => Sys2Proof.Machine.execSuccImport m v s
  | .displayUpdate m v => Sys2Proof.Machine.execDisplayUpdate m v s
  | .displayClear m v => Sys2Proof.Machine.execDisplayClear m v s
  | .epdFrame => Sys2Proof.Machine.execEpdFrame s
  | .lcdFrame => Sys2Proof.Machine.execLcdFrame s
  | .frameCrcCheck flip0 flip1 => Sys2Proof.Machine.execFrameCrcCheck flip0 flip1 s
  | .panelRailStep => Sys2Proof.Machine.execPanelRailStep s
  | .dischargeEnd => Sys2Proof.Machine.execDischargeEnd s
  | .tempStale => Sys2Proof.Machine.execTempStale s
  | .buttonPress ms => Sys2Proof.Machine.execButtonPress ms s
  | .legalViewNext => Sys2Proof.Machine.execLegalViewNext s
  | .registerRead m addr => Sys2Proof.Machine.execRegisterRead m addr s
  | .mirLinkUp held fork => Sys2Proof.Machine.execMirLinkUp held fork s
  | .ethLinkUp p speed => Sys2Proof.Machine.execEthLinkUp p speed s
  | .ethLinkDown p => Sys2Proof.Machine.execEthLinkDown p s
  | .ethPauseExpire p c => Sys2Proof.Machine.execEthPauseExpire p c s
  | .refFault err => Sys2Proof.Machine.execRefFault err s
  | .lockLost island => Sys2Proof.Machine.execLockLost island s

end Sys2Proof.Machine
end

