-- ==== Sys2Proof/Machine/Step.lean ====
section
/-!
DEFINITION. One step of the block: the command at the front of the queue, or an idle tick.
-/
namespace Sys2Proof.Machine

/-- One step: the front command's meaning on the state with the queue's rest; on an empty queue an idle tick (log entry 25). DESIGN CHOICE, safe: log entry 6. DESIGN CHOICE, unsafe: log entry 7. DESIGN CHOICE, unsafe: log entry 25. -/
def step (s : State) : Host.Outcome State Fault Refusal :=
  match s.pending with
  | [] => s.done s.idle
  | c :: rest => exec c { s with pending := rest }

/-- The state with the command that a word spells at the front of its queue. No row of the command table has bits, so no word spells a command. DESIGN CHOICE, unsafe: log entry 3. -/
def State.withFetchWord (s : State) (_nbits _w : Nat) : State := s

end Sys2Proof.Machine
end

