-- ==== Sys2Proof/Safety.lean ====
section
/-!
DEFINITION. What claims say of a state that is as it should be, of what a command leads to, and of what it leaves alone.
-/
namespace Sys2Proof.Safety
open Sys2Proof.Machine

/-- SMP_ALERT_N is driven low exactly while an enabled alert stands (R71). -/
def AlertDriven (s : State) : Prop := s.irq.alertN = s.alertLow

/-- The Crucible's memory and the register store are in their one canonical form: rising keys, and no memory byte listed that is 0. -/
def Canonical (s : State) : Prop := Memory.wf s = true ∧ SMap.rising s.regs = true

/-- A command at the front of the queue: the state a step takes it in. -/
def Front (s : State) (c : Instr) (rest : List Instr) : Prop := s.pending = c :: rest

/-! ## What a command leads to -/

/-- The command completes: it answers a next state, of which P holds. -/
def After (c : Instr) (s : State) (P : State → Prop) : Prop := ∃ t, exec c s = .next t ∧ P t

/-- Bit b of a page's INT_STAT stands (R45). -/
def Interrupt (t : State) (p b : Nat) : Prop := (t.rd (F.INT_STAT p)).testBit b = true

/-- Bit b of SMP.ALERT_STAT stands (R72). -/
def Alerted (t : State) (b : Nat) : Prop := (t.rd F.SMP_ALERT_STAT).testBit b = true

/-- A saturating counter has counted one more (R13). -/
def Counted (s t : State) (f : Fld) : Prop := t.rd f = min (s.rd f + 1) (f.bound - 1)

/-- A message is among the outputs. -/
def Sent (t : State) (m : OutMsg) : Prop := m ∈ t.out

/-- One record more stands in the journal, with the next ledger sequence (R32, R380), LOCAL in a pair unit that is not active (R420). -/
def Journaled (s t : State) (kind : Nat) (body : List Byte) : Prop := t.jrn = (s.journal kind body).jrn

/-- A master's own session and request registers take its write: the page's OWNER does not count, its LOCK does (R314, R321). -/
def SessionOpenTo (s : State) (m : Master) : Prop := s.dead = false ∧ s.pageOn Pg.OBJ = true ∧ (m = .smp ∨ s.isMain m = true) ∧ s.locked Pg.OBJ = false

/-- What a frame puts on a lane under a SEQ: its bytes, the MIC under the link key, and the FCS (R397). -/
def wire (s : State) (l seq : Nat) (f : LinkFrame) : OutMsg :=
  let h := f.head seq
  let m := h ++ (Config.gmac (s.keyOf (linkKeySlot l)) (linkIv l (s.linkSelf l) (f.flags / 128) seq) h ++ be 16 0).take 16
  .lane l (m ++ be 4 (crc32 m))

/-- A link is UP and its key slot allows its MIC (R452, R455). -/
def LinkOpen (s : State) (l : Nat) : Prop := s.linkIsUp l = true ∧ s.keyAllows (linkKeySlot l) Mst.CHN false Use.LINK_MIC = true

/-- A frame of a link's own types has gone out under the link's next SEQ (R397, R399). -/
def SentOn (s t : State) (l typ : Nat) (body : List Byte) : Prop :=
  let seq := ((s.slink l).txSeq + 1) % 2 ^ 32
  Sent t (wire s l seq { typ := typ, flags := if l = 1 then 128 else 0, src := s.linkSelf l, dst := 0, body := body }) ∧
    t.slink l = { s.slink l with txSeq := seq } ∧ (l ≠ 2 → t.rd F.CHN_TX_FRAMES = (s.rd F.CHN_TX_FRAMES + 1) % F.CHN_TX_FRAMES.bound)

/-- The stamp FIFO j of a depth has taken an entry, or was full and has lost it (R412, R415). -/
def Stamped (s t : State) (j depth : Nat) (x : FifoStamp) : Prop :=
  let q := SMap.getD s.chn.stamps j []
  SMap.getD t.chn.stamps j [] = if q.length < depth then q ++ [x] else q

/-! ## What a command leaves alone -/

/-- Every part of the state but the register store, interrupt delivery, the outputs and the queue is as it was. -/
def SameBody (s t : State) : Prop :=
    t.fresh = s.fresh ∧ t.bus = s.bus ∧ t.cfg = s.cfg ∧ t.ovr = s.ovr ∧ t.tim = s.tim ∧ t.ports = s.ports ∧
    t.credits = s.credits ∧ t.zc = s.zc ∧ t.gpioCmp = s.gpioCmp ∧ t.sunGrid = s.sunGrid ∧ t.pib = s.pib ∧ t.gate = s.gate ∧
    t.cru = s.cru ∧ t.retired = s.retired ∧ t.pln = s.pln ∧ t.heldFirings = s.heldFirings ∧ t.bndPrf = s.bndPrf ∧ t.bndTch = s.bndTch ∧
    t.prf = s.prf ∧ t.tar = s.tar ∧ t.lgl = s.lgl ∧ t.hlm = s.hlm ∧ t.tch = s.tch ∧ t.jrn = s.jrn ∧
    t.nand = s.nand ∧ t.chn = s.chn ∧ t.pair = s.pair ∧ t.sec = s.sec ∧ t.upd = s.upd ∧ t.pins = s.pins ∧
    t.pwr = s.pwr ∧ t.rst = s.rst ∧ t.mem = s.mem ∧ t.fuses = s.fuses ∧ t.pst = s.pst ∧ t.ldg = s.ldg ∧ t.dsp = s.dsp

/-- Every register field whose key is none of the listed fields' reads as before. -/
def SameRegs (s t : State) (fs : List Fld) : Prop := ∀ g : Fld, (∀ f ∈ fs, g.key ≠ f.key) → t.rd g = s.rd g

/-- The command changed no more than the listed register fields, and what its interrupts put out. -/
def Frame (s t : State) (fs : List Fld) : Prop := SameBody s t ∧ SameRegs s t fs

/-- The fields that raising an interrupt of a page may change: its INT_STAT, and SMP.ALERT_STAT where the SMP owns the page (R47). -/
def raised (p : Nat) : List Fld := [F.INT_STAT p, F.SMP_ALERT_STAT]

/-- The fields that follow from FREE cells in the Crucible (R227, R237, R253, R414). -/
def freeFields : List Fld := [F.CRU_FREE_MIN, F.PLN_BP_STAT_ANY, F.ETH_PAUSE_TX 0, F.ETH_PAUSE_TX 1, F.CRU_DRAIN_STAT_BUSY, F.CRU_DRAIN_STAT_RESULT] ++ raised Pg.CRU

/-- The fields that retiring a cell changes (R231): CRU.RETIRED and the ledger's counter 22. -/
def retireFields : List Fld := [F.CRU_RETIRED, F.LDG_WORD 44, F.LDG_WORD 45]

/-- The fields that follow from the descriptors in use (R246, R251, R252, R258, R414). -/
def plnFields : List Fld := [F.PLN_CREATED, F.PLN_DESC_FREE, F.PLN_DFREE, F.PLN_FLOW_USED, F.PLN_DFREE_MIN, F.PLN_BP_STAT_DESC, F.PLN_BP_STAT_ANY, F.ETH_PAUSE_TX 0, F.ETH_PAUSE_TX 1] ++ raised Pg.PLN

/-- The fields that a task's end other than OK changes beside them (R248, R258). -/
def failFields : List Fld := [F.PLN_CANCELLED, F.PLN_POISON, F.PLN_TIMEOUT, F.PLN_FAULT_LOG_VALID, F.PLN_FAULT_LOG_CAUSE, F.PLN_FAULT_LOG_CORE, F.PLN_FAULT_LOG_DESC] ++ plnFields

/-- The fields that a legal event changes (R317, R319). -/
def legalFields : List Fld := [F.LGL_EVT_CNT, F.LGL_EVT_HEAD, F.LGL_LOG_FULL, F.LGL_LOG_NEAR] ++ raised Pg.LGL

/-- The figures of the store that every command of it brings up to date (R385, R390, R395). -/
def igtFields : List Fld := [F.IGT_FREE_BLK, F.IGT_FREE_PM, F.IGT_DIRTY_NOW, F.IGT_JTAIL_NOW, F.IGT_JRNL_USED, F.IGT_STATE_MODE] ++ raised Pg.IGT

/-- The pages of u's journal come to JRNL_HIGH, which JRNL_USED of s lay below (R384). -/
def journalRises (s u : State) : Bool :=
  let h := s.rdIn F.IGT_JRNL_HIGH 500 950 * s.nand.jrnlMib
  decide (h ≤ 1000 * min 65535 ((u.jrn.pages.length * u.pins.nand.pageKib + 1023) / 1024)) && !decide (h ≤ 1000 * s.rd F.IGT_JRNL_USED)

/-- The fields of CHIP.ACC_ERR (R44). -/
def accErrFields : List Fld := [F.CHIP_ACC_ERR_VALID, F.CHIP_ACC_ERR_MASTER, F.CHIP_ACC_ERR_CAUSE, F.CHIP_ACC_ERR_ADDR]

/-! ## Words without an effect of their own -/

/-- A word whose write is the field rules of R13 and nothing else: no command, no converter, pool, link or port follows it. -/
def plainWord (p off : Nat) : Bool :=
  decide (0x40 ≤ off) && !perMaster p off && !isOverride p off &&
  match pageKind p with
  | 0x001 => off != 0x44
  | 0x005 => off != 0x6C && off != 0x70 && off != 0x74
  | 0x006 => off != 0x40 && off != 0x54
  | 0x010 => off != 0xA0
  | 0x011 => off != 0x40 && off != 0xB4
  | 0x012 => off != 0xB4
  | 0x013 => off != 0xAC
  | 0x022 => off != 0x64 && off != 0xEC
  | 0x02A => off != 0x40 && off != 0x4C
  | 0x030 => off != 0x108
  | 0x040 => off != 0x94 && off != 0x40 && off != 0x80 && off != 0x8C
  | 0x048 => off != 0x40 && off != 0x70
  | 0x050 => off != 0x40
  | 0x060 => off != 0x98 && off != 0x9C
  | 0x061 => off != 0x50
  | 0x100 => off != 0x40
  | 0x140 => off != 0x74 && off != 0x244
  | 0x008 | 0x020 | 0x021 | 0x029 | 0x02B | 0x038 | 0x049 | 0x04A | 0x051 | 0x058 | 0x068 | 0x069 | 0x180 => false
  | _ => true

/-- A word whose read is the field rules of R13, the shadow and the latch of R43 and nothing else. -/
def plainRead (p off : Nat) : Bool :=
  !((p == Pg.TIME && (off == 0x48 || off == 0x108 || off == 0x118 || off == 0x128)) || (p == Pg.GTE && off == 0x80) ||
    (p == Pg.PLN && (off == 0x1C4 || off == 0x208)) || (p == Pg.CRU && (off == 0x234 || off == 0x274 || off == 0x2B4 || off == 0x2F4)) ||
    (p == Pg.LIFE && off == 0x4C) || (p == Pg.DBG && off == 0x44) || (p == Pg.OBJ && off == 0x40) ||
    (decide (0x140 ≤ p) && decide (p < 0x180) && off == 0x74) ||
    (p == Pg.CHN && (off == 0x140 || off == 0x150 || off == 0x160 || off == 0x170)) ||
    (p == Pg.ETH && (off == 0x160 || off == 0x170 || off == 0x260 || off == 0x270)) || (p == Pg.SMP && off == 0x110))

/-- What a word write leaves in a field of the word, by the field's access type (R13). -/
def stored (s : State) (v : Word) (f : Fld) : Nat :=
  match f.acc with
  | .RW | .WO => f.ofWord v % f.bound
  | .W1C => (BitVec.ofNat 32 (s.rd f) &&& ~~~(BitVec.ofNat 32 (f.ofWord v))).toNat % f.bound
  | .W1S => (s.rd f ||| f.ofWord v) % f.bound
  | .RO | .RC => s.rd f

/-! ## Commands that are the write or the read of one register -/

/-- The commands that stand for a word write past ownership, lock and power (R73): the master, the page and the offset written. OWNER has a rule of its own (R74), and so have the per-master registers of the OBJ page (R314). -/
def gatedWrite : Instr → Option (Master × Nat × Nat)
  | .intStatClear m p _ => some (m, p.toNat, 0x10)
  | .intForce m p _ => some (m, p.toNat, 0x18)
  | .lockPage m p _ => some (m, p.toNat, 0x24)
  | .domRst m p _ => some (m, p.toNat, 0x2C)
  | .cfgCommit m _ => some (m, Pg.CFG, 0x40)
  | .cfgDiscard m _ => some (m, Pg.CFG, 0x54)
  | .timeRateCommit m _ => some (m, Pg.TIME, 0x64)
  | .timeOffsetCommit m _ => some (m, Pg.TIME, 0x5C)
  | .timeStepCommit m _ => some (m, Pg.TIME, 0x6C)
  | .timeConvert m _ => some (m, Pg.TIME, 0x7C)
  | .lockSet m _ => some (m, Pg.TIME, 0xA0)
  | .lockClr m _ => some (m, Pg.TIME, 0xA0)
  | .timeFeed m _ => some (m, Pg.TIME, 0xA4)
  | .compareRetarget m k perHi _ => some (m, Pg.TIME, (0x200 + 0x20 * k.val + (if perHi then 0x0C else 0x04)))
  | .portEnable m n _ => some (m, (Pg.FP n.val), 0x40)
  | .portDisable m n _ => some (m, (Pg.FP n.val), 0x40)
  | .pibWrite m n _ => some (m, (Pg.FM n.val), 0x74)
  | .mapApply m n _ => some (m, (Pg.FM n.val), 0x244)
  | .nbrCreate m _ => some (m, Pg.GTE, 0x64)
  | .nbrUnbind m _ => some (m, Pg.GTE, 0x64)
  | .nbrBlock m _ => some (m, Pg.GTE, 0x64)
  | .nbrUnblock m _ => some (m, Pg.GTE, 0x64)
  | .nbrFree m _ => some (m, Pg.GTE, 0x64)
  | .nbrFind m _ => some (m, Pg.GTE, 0x64)
  | .keyInstall m _ _ => some (m, Pg.GTE, 0xEC)
  | .queueFlush m _ => some (m, Pg.CRU, 0x320)
  | .queueRecover m _ => some (m, Pg.CRU, 0x320)
  | .hctxAlloc m k _ => some (m, Pg.CRU, (0x200 + 0x40 * k.val))
  | .hctxCommit m k _ => some (m, Pg.CRU, (0x228 + 0x40 * k.val))
  | .hctxAbort m k _ => some (m, Pg.CRU, (0x22C + 0x40 * k.val))
  | .hctxFree m k _ => some (m, Pg.CRU, (0x238 + 0x40 * k.val))
  | .bankDrain m _ => some (m, Pg.CRU, 0x180)
  | .bankRelease m _ => some (m, Pg.CRU, 0x180)
  | .sqDoorbell m k _ => some (m, Pg.PLN, (0x314 + 0x20 * k.val))
  | .profileRead m _ => some (m, Pg.PRF, 0xA8)
  | .profileEdit m _ => some (m, Pg.PRF, 0xD8)
  | .proofRequest m _ => some (m, Pg.HLM, 0x108)
  | .modelWrite m _ => some (m, Pg.TCH, 0xB8)
  | .modelRelearn m _ => some (m, Pg.TCH, 0xB8)
  | .modelHold m _ => some (m, Pg.TCH, 0xB8)
  | .modelResume m _ => some (m, Pg.TCH, 0xB8)
  | .tchConfigWrite m r _ => some (m, Pg.TCH, (tchRegOff r))
  | .addrAccept m _ => some (m, Pg.CHN, 0x40)
  | .unitRevoke m _ => some (m, Pg.CHN, 0x70)
  | .unitForget m _ => some (m, Pg.CHN, 0x70)
  | .giveUp m _ => some (m, Pg.CLM, 0x5C)
  | .rejoin m _ => some (m, Pg.CLM, 0x5C)
  | .handover m _ => some (m, Pg.CLM, 0x5C)
  | .ctrlGrant m _ => some (m, Pg.CLM, 0x64)
  | .ctrlDeny m _ => some (m, Pg.CLM, 0x64)
  | .lcToFactory m _ => some (m, Pg.LIFE, 0xB4)
  | .lcToProvisioned m _ => some (m, Pg.LIFE, 0xB4)
  | .lcToField m _ => some (m, Pg.LIFE, 0xB4)
  | .lcToReturn m _ => some (m, Pg.LIFE, 0xB4)
  | .lcToRetired m _ => some (m, Pg.LIFE, 0xB4)
  | .debugRequest m _ => some (m, Pg.DBG, 0xAC)
  | .keySelect m _ => some (m, Pg.KEYS, 0x40)
  | .keyImport m _ _ => some (m, Pg.KEYS, 0xB4)
  | .keyImportPub m _ _ => some (m, Pg.KEYS, 0xB4)
  | .keyGenerate m _ _ => some (m, Pg.KEYS, 0xB4)
  | .keyZeroise m _ _ => some (m, Pg.KEYS, 0xB4)
  | .keyNarrow m _ _ => some (m, Pg.KEYS, 0xB4)
  | .attestReport m _ => some (m, Pg.SEC, 0xA0)
  | .attestItem m _ => some (m, Pg.SEC, 0xA0)
  | .certInstall m _ => some (m, Pg.SEC, 0xA0)
  | .imageChunk m _ => some (m, Pg.UPD, 0x4C)
  | .imageVerify m _ => some (m, Pg.UPD, 0x4C)
  | .imageDelete m _ => some (m, Pg.UPD, 0x68)
  | .imageForward m _ => some (m, Pg.UPD, 0x68)
  | .nodePush m _ => some (m, Pg.UPD, 0x68)
  | .bundleApply m _ => some (m, Pg.UPD, 0x70)
  | .updateConfirm m _ => some (m, Pg.UPD, 0x74)
  | .updateReject m _ => some (m, Pg.UPD, 0x74)
  | .modeRequest m _ => some (m, Pg.MODE, 0x44)
  | .softwareReset m _ => some (m, Pg.RST, 0x6C)
  | .wdtKick m _ => some (m, Pg.RST, 0x74)
  | .pstRetest m _ => some (m, Pg.PST, 0x98)
  | .pstFullRun m _ => some (m, Pg.PST, 0x9C)
  | .succExport m _ => some (m, Pg.LDG, 0x50)
  | .succChunk m _ => some (m, Pg.LDG, 0x50)
  | .succImport m _ => some (m, Pg.LDG, 0x50)
  | .displayUpdate m _ => some (m, Pg.DSP, 0x60)
  | .displayClear m _ => some (m, Pg.DSP, 0x60)
  | _ => none

/-- The commands that stand for a word read with an effect of its own: the master, the page and the offset read. -/
def gatedRead : Instr → Option (Master × Nat × Nat)
  | .timeNowRead m => some (m, Pg.TIME, 0x48)
  | .captureFlagsRead m j => some (m, Pg.TIME, (0x108 + 0x10 * j.val))
  | .pibRead m n => some (m, (Pg.FM n.val), 0x74)
  | .nbrRead m => some (m, Pg.GTE, 0x80)
  | .hctxPop m k => some (m, Pg.CRU, (0x234 + 0x40 * k.val))
  | .descRead m => some (m, Pg.PLN, 0x1C4)
  | .sessionChallenge m => some (m, Pg.OBJ, 0x40)
  | .lifeChallenge m => some (m, Pg.LIFE, 0x4C)
  | .debugChallenge m => some (m, Pg.DBG, 0x44)
  | _ => none

end Sys2Proof.Safety
end

