-- ==== Sys2Proof/Certificates/Slice0/Obligations.lean ====
section
/-!
DEFINITION. The statements about the model, for the provers.
-/
section
open Sys2Proof Sys2Proof.Machine Sys2Proof.Safety

/-- For every state whose queue holds command c in front of the commands of rest, a step is exec of c on the state with the queue cut to rest. -/
def Obligations.StepRunsFrontCommand : Prop :=
  ∀ (s : State) (c : Instr) (rest : List Instr), Front s c rest → step s = exec c { s with pending := rest }

/-- MODEL'S CHOICE (log entry 25; the counter's advance by 1 each tick is R78): on an empty queue, outside OFF and VAULT, a step advances the raw counter by 1 (64 bits) and the calendar with it, starts the converters that are due, and then does the work that waits for no command: the foreground count, the air time that grows old, the uplinks, the shipping of journal records, the domains an OUTAGE sheds, and self-diagnosis. In VAULT the 4 ns are added to the time spent there, in OFF nothing counts. The queue stays empty. -/
def Obligations.EmptyQueueTicks : Prop :=
  ∀ s : State, s.pending = [] →
    let u := ({ s with tim := { s.tim with raw := (s.tim.raw + 1) % 2 ^ 64 } } : State)
    let v := ({ s with tim := { s.tim with vault := s.tim.vault + 4 } } : State)
    let rest := fun (x : State) => { (x.fgCount.sunExpires.uplinksSend.ship.outSettle.selfCheck).alertPin with pending := [] };
    (s.mode = Md.OFF → step s = .next (rest s)) ∧ (s.mode = Md.VAULT → step s = .next (rest v)) ∧ (s.mode ≠ Md.OFF → s.mode ≠ Md.VAULT → step s = .next (rest u.calTick.convertersDue))

/-- For every command and every state, exec answers a next state (it never faults and never refuses), and the queue of waiting commands is as it was. -/
def Obligations.EveryCommandAnswersAndKeepsQueue : Prop :=
  ∀ (c : Instr) (s : State), ∃ t, exec c s = .next t ∧ t.pending = s.pending

/-- For every state and every command in front of the queue, or none: after the step the level that SMP_ALERT_N is driven to is low (alertN) exactly when SMP.ALERT_STAT AND SMP.ALERT_EN is not 0. -/
def Obligations.AlertPinFollowsEveryStep : Prop :=
  ∀ s t : State, step s = .next t →
    t.irq.alertN = ((t.rd F.SMP_ALERT_STAT &&& t.rd F.SMP_ALERT_EN) != 0)

/-- In the state after reset: SMP_ALERT_N follows R71; the Crucible's memory lists nothing and is in canonical form, and so is the register store; the queue is empty; the mode is BOOT; CHIP.DEVICE reads 0x7064; every page's OWNER is the main host and no page is locked. Model's choices: log entries 2, 3, 62. -/
def Obligations.ResetStateHoldsItsInvariants : Prop :=
  AlertDriven State.reset ∧ Canonical State.reset ∧ State.reset.cru.pool = [] ∧ State.reset.pending = [] ∧ State.reset.mode = Md.BOOT ∧
    State.reset.rd F.CHIP_DEVICE = 0x7064 ∧ (∀ p, State.reset.rd (F.OWNER_OWNER p) = 0) ∧ (∀ p, State.reset.rd (F.LOCK_LOCKED p) = 0)

/-- For each of the 83 commands that stand for a gated word write (Safety.gatedWrite: master m, page p, offset), in every state: where the straps are reserved or the page is reserved, nothing changes; where the page's domain is off, at most CHIP.ACC_ERR changes, and a first fault is recorded with cause DOM_OFF, the master and the address; where the page is not the master's, the write is recorded with cause OWNER_DENY, CHIP.DENY_CNT counts it, and INT_STAT.DENY of the page is set; where the page is locked, the same with cause LOCKED; in each case nothing else of the state changes. A fault already recorded stands. -/
def Obligations.RefusedWritesHaveNoEffect : Prop :=
  ∀ (c : Instr) (x : Master × Nat × Nat), gatedWrite c = some x → ∀ s : State,
    let m := x.1
    let p := x.2.1
    let off := x.2.2;
    (s.judge m p off = .unanswered → After c s (fun t => Frame s t [])) ∧
    (s.judge m p off = .domOff → After c s (fun t => Frame s t accErrFields ∧
      (s.on F.CHIP_ACC_ERR_VALID = false → t.rd F.CHIP_ACC_ERR_VALID = 1 ∧ t.rd F.CHIP_ACC_ERR_CAUSE = Cause.DOM_OFF ∧
        t.rd F.CHIP_ACC_ERR_ADDR = (p * 0x1000 + off) % 2 ^ 24 ∧ t.rd F.CHIP_ACC_ERR_MASTER = masterCode m) ∧
      (s.on F.CHIP_ACC_ERR_VALID = true → Frame s t []))) ∧
    (s.judge m p off = .ownerDeny → After c s (fun t => Frame s t (F.CHIP_DENY_CNT :: accErrFields ++ raised p) ∧
      Counted s t F.CHIP_DENY_CNT ∧ Interrupt t p 30 ∧
      (s.on F.CHIP_ACC_ERR_VALID = false → t.rd F.CHIP_ACC_ERR_VALID = 1 ∧ t.rd F.CHIP_ACC_ERR_CAUSE = Cause.OWNER_DENY ∧
        t.rd F.CHIP_ACC_ERR_ADDR = (p * 0x1000 + off) % 2 ^ 24 ∧ t.rd F.CHIP_ACC_ERR_MASTER = masterCode m))) ∧
    (s.judge m p off = .locked → After c s (fun t => Frame s t (F.CHIP_DENY_CNT :: accErrFields ++ raised p) ∧
      Counted s t F.CHIP_DENY_CNT ∧ Interrupt t p 30 ∧
      (s.on F.CHIP_ACC_ERR_VALID = false → t.rd F.CHIP_ACC_ERR_VALID = 1 ∧ t.rd F.CHIP_ACC_ERR_CAUSE = Cause.LOCKED ∧
        t.rd F.CHIP_ACC_ERR_ADDR = (p * 0x1000 + off) % 2 ^ 24 ∧ t.rd F.CHIP_ACC_ERR_MASTER = masterCode m)))

/-- For REGISTER_READ and PAIR_LATCH_READ at any address, and each of the 9 commands that stand for one register's read (Safety.gatedRead): in a unit whose straps are not reserved, where the page has a domain and it is off, the read answers 0xFFFFFFFF, and nothing changes but CHIP.ACC_ERR, which takes a first fault with cause DOM_OFF. Model's choices: log entry 11. -/
def Obligations.OffDomainReadsAllOnes : Prop :=
  (∀ (c : Instr) (x : Master × Nat × Nat), gatedRead c = some x → ∀ s : State, s.dead = false → s.pageOn x.2.1 = false →
    After c s (fun t => t.bus.rdata = [0xFFFFFFFF#32] ∧ t.bus.shadow = s.bus.shadow ∧ Frame s { t with bus := s.bus } accErrFields ∧
      (s.on F.CHIP_ACC_ERR_VALID = false → t.rd F.CHIP_ACC_ERR_VALID = 1 ∧ t.rd F.CHIP_ACC_ERR_CAUSE = Cause.DOM_OFF))) ∧
  (∀ (m : Master) (addr : BitVec 24) (s : State), s.dead = false → (pageDomain (addr.toNat / 0x1000)).isSome = true → s.pageOn (addr.toNat / 0x1000) = false →
    After (.registerRead m addr) s (fun t => t.bus.rdata = [0xFFFFFFFF#32] ∧ Frame s { t with bus := s.bus } accErrFields) ∧
    After (.pairLatchRead m addr) s (fun t => t.bus.rdata = [0xFFFFFFFF#32] ∧ Frame s { t with bus := s.bus } accErrFields))

/-- For every page number absent from the page table, every offset of it, every master and every unit whose straps are not reserved: a read answers 0 and changes nothing else; a word write, with all byte enables, changes nothing at all. -/
def Obligations.ReservedPagesReadZeroAndIgnoreWrites : Prop :=
  ∀ (m : Master) (addr : BitVec 24) (s : State), pageDomain (addr.toNat / 0x1000) = none → s.dead = false →
    After (.registerRead m addr) s (fun t => t.bus.rdata = [0#32] ∧ t.bus.shadow = s.bus.shadow ∧ Frame s { t with bus := s.bus } []) ∧
    (∀ v, After (.registerWrite m addr 0xF#4 v) s (fun t => Frame s t []))

/-- REGISTER_READ and PAIR_LATCH_READ, at any address of a page that answers, of a word whose read has no effect of its own (Safety.plainRead): where the master's shadow holds the word, they answer it and use it up, changing nothing else; otherwise they answer the word's fields, clear its RC fields (a running minimum or maximum restarts at the present value), latch the words that R43 pairs with it into the master's shadow, and change nothing else but the model's count of free values. REGISTER_WRITE by the page's owner, with all byte enables, of a word whose write has no effect of its own (Safety.plainWord) and that is not legal configuration, stores each field by its type, and nothing else changes: RW and WO fields take their bits, W1C fields lose the bits written as 1, W1S fields gain them, RO and RC fields stay; a write to an interrupt enable, PCI.SUB_VEN and SUB_DEV store their bits. A PCIe write without all byte enables changes nothing but CHIP.ACC_ERR, which takes a first fault with cause SIZE. Model's choices: log entries 9, 10, 28. -/
def Obligations.RegisterReadAndWriteOfAWord : Prop :=
  (∀ (m : Master) (addr : BitVec 24) (s : State), s.dead = false → (pageDomain (addr.toNat / 0x1000)).isSome = true → s.pageOn (addr.toNat / 0x1000) = true →
    plainRead (addr.toNat / 0x1000) (addr.toNat % 0x1000 / 4 * 4) = true →
    let p := addr.toNat / 0x1000
    let off := addr.toNat % 0x1000 / 4 * 4
    (∀ w, SMap.find? s.bus.shadow (shadowKey m p off) = some w →
      After (.registerRead m addr) s (fun t => t.bus.rdata = [w] ∧ SMap.find? t.bus.shadow (shadowKey m p off) = none ∧ Frame s { t with bus := s.bus } []) ∧
      After (.pairLatchRead m addr) s (fun t => t.bus.rdata = [w] ∧ SMap.find? t.bus.shadow (shadowKey m p off) = none ∧ Frame s { t with bus := s.bus } [])) ∧
    (SMap.find? s.bus.shadow (shadowKey m p off) = none →
      After (.registerRead m addr) s (fun t => t.bus.rdata = [s.word m p off] ∧
        (∀ i ∈ List.range (latchedAfter p off), SMap.find? t.bus.shadow (shadowKey m p (off + 4 * (i + 1))) = some (s.word m p (off + 4 * (i + 1)))) ∧
        (∀ f ∈ s.fieldsAt m p off, f.acc = .RC → t.rd f = s.restartRc f % f.bound) ∧
        Frame s { t with bus := s.bus, fresh := s.fresh } ((s.fieldsAt m p off).filter (fun f => f.acc == .RC))) ∧
      After (.pairLatchRead m addr) s (fun t => t.bus.rdata = [s.word m p off] ∧
        (∀ i ∈ List.range (latchedAfter p off), SMap.find? t.bus.shadow (shadowKey m p (off + 4 * (i + 1))) = some (s.word m p (off + 4 * (i + 1)))) ∧
        (∀ f ∈ s.fieldsAt m p off, f.acc = .RC → t.rd f = s.restartRc f % f.bound) ∧
        Frame s { t with bus := s.bus, fresh := s.fresh } ((s.fieldsAt m p off).filter (fun f => f.acc == .RC))))) ∧
  (∀ (m : Master) (addr : BitVec 24) (v : Word) (s : State), s.judge m (addr.toNat / 0x1000) (addr.toNat % 0x1000 / 4 * 4) = .open →
    (plainWord (addr.toNat / 0x1000) (addr.toNat % 0x1000 / 4 * 4) = true →
      (s.legalWord m (addr.toNat / 0x1000) (addr.toNat % 0x1000 / 4 * 4) = false ∨ m = .lgl) →
      After (.registerWrite m addr 0xF#4 v) s (fun t =>
        (∀ f ∈ s.fieldsAt m (addr.toNat / 0x1000) (addr.toNat % 0x1000 / 4 * 4), t.rd f = stored s v f) ∧
        Frame s t (s.fieldsAt m (addr.toNat / 0x1000) (addr.toNat % 0x1000 / 4 * 4)))) ∧
    (addr.toNat % 0x1000 / 4 * 4 = 0x14 → After (.registerWrite m addr 0xF#4 v) s (fun t => t.rd (F.INT_EN (addr.toNat / 0x1000)) = v.toNat ∧
      Frame s t [F.INT_EN (addr.toNat / 0x1000), F.SMP_ALERT_STAT]))) ∧
  (∀ (m : Master) (v : Word) (s : State), s.judge m Pg.PCI 0x48 = .open →
    After (.registerWrite m 0x04A048#24 0xF#4 v) s (fun t => t.rd F.PCI_SUB_VEN = v.toNat % 2 ^ 16 ∧ t.rd F.PCI_SUB_DEV = v.toNat / 2 ^ 16 ∧
      Frame s t [F.PCI_SUB_VEN, F.PCI_SUB_DEV])) ∧
  (∀ (addr : BitVec 24) (be : BitVec 4) (v : Word) (s : State), s.dead = false → be ≠ 0xF#4 →
    After (.registerWrite .pcie addr be v) s (fun t => Frame s t accErrFields ∧
      (s.on F.CHIP_ACC_ERR_VALID = false → t.rd F.CHIP_ACC_ERR_VALID = 1 ∧ t.rd F.CHIP_ACC_ERR_CAUSE = Cause.SIZE ∧
        t.rd F.CHIP_ACC_ERR_ADDR = addr.toNat / 4 * 4) ∧ (s.on F.CHIP_ACC_ERR_VALID = true → Frame s t [])))

/-- Where the write is let through: INT_STAT_CLEAR clears exactly the INT_STAT bits written as 1 (DSP's CRC_ERR bit stays while the frame copies differ); INT_FORCE sets exactly those written as 1; LOCK_PAGE with bit 0 locks the page; DOM_RST with its key and GO, for a page of a domain other than AON that holds no locked page, by the SMP or while no override of the reset function is in progress, asks for a reset of the page's domain (source 1 for the SMP, 0 for the host). Nothing else changes. -/
def Obligations.HeaderCommandsDoWhatTheHeaderSays : Prop :=
  ∀ (m : Master) (p : Page) (v : Word) (s : State),
    (s.judge m p.toNat 0x10 = .open → After (.intStatClear m p v) s (fun t =>
      t.rd (F.INT_STAT p.toNat) = (BitVec.ofNat 32 (s.rd (F.INT_STAT p.toNat)) &&& ~~~(if p.toNat = Pg.DSP ∧ s.dsp.crcBad = true then v &&& ~~~4#32 else v)).toNat ∧
      Frame s t [F.INT_STAT p.toNat])) ∧
    (s.judge m p.toNat 0x18 = .open → After (.intForce m p v) s (fun t =>
      t.rd (F.INT_STAT p.toNat) = (s.rd (F.INT_STAT p.toNat) ||| v.toNat) % 2 ^ 32 ∧ Frame s t (raised p.toNat))) ∧
    (s.judge m p.toNat 0x24 = .open → bit v 0 = true → After (.lockPage m p v) s (fun t => t.locked p.toNat = true ∧ Frame s t [F.LOCK_LOCKED p.toNat])) ∧
    (∀ d, s.judge m p.toNat 0x2C = .open → bits v 31 16 = 0xD0E5 → bit v 0 = true → pageDomain p.toNat = some d → d ≠ Dom.AON →
      (m = .smp ∨ s.ovrHolds .reset = false) → s.domLocked d = false → After (.domRst m p v) s (fun t =>
        t.rst.asked = s.rst.asked ++ [(d, if m = .smp then 1 else 0)] ∧ { t.rst with asked := s.rst.asked } = s.rst ∧ Frame s { t with rst := s.rst } []))

/-- For every page that answers, but the SMP page, and is not locked, in a unit whose straps are not reserved: the main host hands a page it owns to the SMP (OWNER 1, SEIZED 0); the SMP takes any page, its own too (OWNER 1, SEIZED 1); the SMP returns a page (OWNER 0, SEIZED 0); the main host takes a page back while HOST_RECLAIM = 1 (OWNER 0, SEIZED 0), and is refused while it is 0, OWNER and SEIZED unchanged. The SMP may not take a locked page. Nothing else changes but what the page's pending interrupts then raise, and, for the OBJ page, its sessions, which end. -/
def Obligations.OwnershipChangesHands : Prop :=
  ∀ (m : Master) (p : Page) (v : Word) (s : State), s.dead = false → (pageDomain p.toNat).isSome = true → s.pageOn p.toNat = true → p.toNat ≠ Pg.SMP →
    let fs := [F.OWNER_OWNER p.toNat, F.OWNER_SEIZED p.toNat, F.SMP_ALERT_STAT] ++
      (if p.toNat = Pg.OBJ then [F.OBJ_SESS_STAT_ROLE 0, F.OBJ_SESS_STAT_ROLE 1, F.INT_STAT Pg.OBJ] else [])
    (s.locked p.toNat = false →
      (s.isMain m = true → s.owner p.toNat = 0 → bit v 0 = true →
        After (.ownerWrite m p v) s (fun t => t.owner p.toNat = 1 ∧ t.rd (F.OWNER_SEIZED p.toNat) = 0 ∧ Frame s t fs)) ∧
      (m = .smp → bit v 0 = true →
        After (.ownerWrite m p v) s (fun t => t.owner p.toNat = 1 ∧ t.rd (F.OWNER_SEIZED p.toNat) = 1 ∧ Frame s t fs)) ∧
      (m = .smp → s.owner p.toNat = 1 → bit v 0 = false →
        After (.ownerWrite m p v) s (fun t => t.owner p.toNat = 0 ∧ t.rd (F.OWNER_SEIZED p.toNat) = 0 ∧ Frame s t fs)) ∧
      (s.isMain m = true → s.owner p.toNat = 1 → bit v 0 = false → s.on F.SMP_HOST_RECLAIM = true →
        After (.ownerWrite m p v) s (fun t => t.owner p.toNat = 0 ∧ t.rd (F.OWNER_SEIZED p.toNat) = 0 ∧ Frame s t fs))) ∧
    (s.isMain m = true → s.owner p.toNat = 1 → s.on F.SMP_HOST_RECLAIM = false →
      After (.ownerWrite m p v) s (fun t => t.owner p.toNat = 1 ∧ t.rd (F.OWNER_SEIZED p.toNat) = s.rd (F.OWNER_SEIZED p.toNat) ∧
        Frame s t (F.CHIP_DENY_CNT :: accErrFields ++ raised p.toNat))) ∧
    (m = .smp → s.owner p.toNat = 0 → s.locked p.toNat = true → bit v 0 = true →
      After (.ownerWrite m p v) s (fun t => t.owner p.toNat = 0 ∧ Frame s t (F.CHIP_DENY_CNT :: accErrFields ++ raised p.toNat)))

/-- CFG_COMMIT, let through, without its key or GO changes nothing; with them and none in progress: a role that differs from the straps is refused with RESULT = ROLE_CONFLICT unless FORCE_ROLE; else the live image is captured with the next generation, its role and the installed keys, and BUSY is set; while one is in progress RESULT = BUSY (5) and nothing else changes. CFG_COMMIT_DONE of a commit in progress: a failed read-back ends with RESULT 3 and BUSY 0, and the image in force stays; a good one ends with RESULT 1 and BUSY 0, the captured image, keys and role are in force, GEN is its generation, ROLE_MISMATCH and its alert follow the role, one CONFIG record is journaled, and Touchstone's uncommitted moves are settled. CFG_DISCARD without its key or GO changes nothing; with them, where the committed image is a map of P-class fields with rising keys (as every commit writes it), every P-class field outside the legal partition, but ROLE, which takes the straps' value, reads from the committed image, every other class as before, and the ports, links, queues, levels and budgets then follow the fields. Model's choices: log entries 32, 92. -/
def Obligations.ConfigurationCommits : Prop :=
  (∀ (m : Master) (v : Word) (s : State), s.judge m Pg.CFG 0x40 = .open →
    (bits v 31 16 ≠ 0xC0A7 ∨ bit v 0 = false → After (.cfgCommit m v) s (fun t => Frame s t [])) ∧
    (bits v 31 16 = 0xC0A7 → bit v 0 = true →
      (s.on F.CFG_CSTAT_BUSY = true → After (.cfgCommit m v) s (fun t => t.rd F.CFG_CSTAT_RESULT = 5 ∧ Frame s t [F.CFG_CSTAT_RESULT])) ∧
      (s.on F.CFG_CSTAT_BUSY = false → s.rd F.CFG_ROLE ≠ s.role → bit v 1 = false →
        After (.cfgCommit m v) s (fun t => t.rd F.CFG_CSTAT_RESULT = 4 ∧ Frame s t [F.CFG_CSTAT_RESULT])) ∧
      (s.on F.CFG_CSTAT_BUSY = false → (s.rd F.CFG_ROLE = s.role ∨ bit v 1 = true) →
        After (.cfgCommit m v) s (fun t => t.rd F.CFG_CSTAT_BUSY = 1 ∧
          t.cfg = { s.cfg with interrupted := false, job := some { gen := s.rd F.CFG_GEN + 1, fmt := s.rd F.CFG_FMT_CUR, role := s.rd F.CFG_ROLE, image := SMap.set s.cfgImage F.CFG_ROLE.key (s.rd F.CFG_ROLE), keys := s.sec.blobs, good := true } } ∧
          Frame s { t with cfg := s.cfg } [F.CFG_CSTAT_BUSY])))) ∧
  (∀ (s : State) (c : CfgSlot), s.cfg.job = some c →
    After (.cfgCommitDone false) s (fun t => t.rd F.CFG_CSTAT_RESULT = 3 ∧ t.rd F.CFG_CSTAT_BUSY = 0 ∧ t.cfg.job = none ∧
      t.cfg.cur = s.cfg.cur ∧ t.cfg.curKeys = s.cfg.curKeys ∧ t.cfg.curRole = s.cfg.curRole ∧
      Frame s { t with cfg := s.cfg } [F.CFG_CSTAT_BUSY, F.CFG_CSTAT_RESULT]) ∧
    After (.cfgCommitDone true) s (fun t => t.rd F.CFG_CSTAT_RESULT = 1 ∧ t.rd F.CFG_CSTAT_BUSY = 0 ∧ t.rd F.CFG_GEN = c.gen % 2 ^ 32 ∧
      t.cfg = { s.cfg.put c with job := none, cur := c.image, curKeys := c.keys, curRole := c.role } ∧
      t.rd F.CFG_CSTAT_ROLE_MISMATCH = (if c.role = s.role then 0 else 1) ∧ (c.role ≠ s.role → Alerted t 1) ∧
      Journaled s t 7 (cfgBody c) ∧ t.tch = s.tchCommitted.tch ∧
      Frame s { t with cfg := s.cfg, jrn := s.jrn, tch := s.tch }
        [F.CFG_CSTAT_BUSY, F.CFG_CSTAT_RESULT, F.CFG_GEN, F.CFG_CSTAT_ROLE_MISMATCH, F.SMP_ALERT_STAT])) ∧
  (∀ (m : Master) (v : Word) (s : State), s.judge m Pg.CFG 0x54 = .open →
    (bits v 31 16 ≠ 0xC0A7 ∨ bit v 0 = false → After (.cfgDiscard m v) s (fun t => Frame s t [])) ∧
    (bits v 31 16 = 0xC0A7 → bit v 0 = true →
      let u := ({ s with sec := { s.sec with blobs := s.cfg.curKeys } }).reloadCommitted
      exec (.cfgDiscard m v) s = s.done (u.tchCommitted.fieldsFollow.configsFollow s) ∧ u.sec.blobs = s.cfg.curKeys ∧ u.rd F.CFG_ROLE = s.role ∧
      (∀ f : Fld, keyClass f.key ≠ 2 → u.rd f = s.rd f) ∧
      (SMap.rising s.cfgActs = true → (∀ e, e ∈ s.cfgActs → keyClass e.1 = 2) →
        ∀ f : Fld, keyClass f.key = 2 → keyDomain f.key ≠ some Dom.LGL → f.key ≠ F.CFG_ROLE.key → u.rd f = SMap.getD s.cfgActs f.key f.reset)))

/-- With UPL powered, for every width and speed: PCIE_LINK_UP sets LINK.WIDTH to the width within CFG.MAX_WIDTH and SPEED to the speed within CFG.MAX_SPEED; on a link that is down it sets LINK.UP, makes the external host main host where none was chosen, and sets INT_STAT bit 0 of PCI; on a link that is up it is a retraining: RETRAINS counts it and L1 is 0. PCIE_LINK_DOWN on a link that is up clears UP, L1, WIDTH and SPEED, counts, sets INT_STAT bit 1 and the HOST_DOWN alert. Without UPL, or with no link to lose, nothing changes. APP_HOST_SELECT, while the choice of R63 is still to be made and no main host has been taken by a link: with HOST_SEL AUTO (or its reserved value, which acts as AUTO) and no link it makes the APP cluster main host and sets INT_STAT bit 4 of PCI; otherwise it only ends the wait. Nothing else changes. Model's choices: log entry 30. -/
def Obligations.HostLinkCommands : Prop :=
  (∀ (w : BitVec 3) (sp : BitVec 2) (s : State),
    (s.domOn Dom.UPL = true →
      let fs := [F.PCI_LINK_WIDTH, F.PCI_LINK_SPEED]
      (s.on F.PCI_LINK_UP = false →
        After (.pcieLinkUp w sp) s (fun t => t.rd F.PCI_LINK_UP = 1 ∧ t.rd F.PCI_LINK_WIDTH = s.pciWidth w.toNat ∧
          t.rd F.PCI_LINK_SPEED = min (max sp.toNat 1) (s.rdIn F.PCI_CFG_MAX_SPEED 1 3) ∧ Interrupt t Pg.PCI 0 ∧
          t.rd F.PCI_HOST_STAT = (if s.rd F.PCI_HOST_STAT = 0 then 1 else s.rd F.PCI_HOST_STAT) ∧
          Frame s t (fs ++ [F.PCI_LINK_UP, F.PCI_HOST_STAT] ++ raised Pg.PCI))) ∧
      (s.on F.PCI_LINK_UP = true →
        After (.pcieLinkUp w sp) s (fun t => t.rd F.PCI_LINK_WIDTH = s.pciWidth w.toNat ∧
          t.rd F.PCI_LINK_SPEED = min (max sp.toNat 1) (s.rdIn F.PCI_CFG_MAX_SPEED 1 3) ∧ t.rd F.PCI_LINK_L1 = 0 ∧ Counted s t F.PCI_RETRAINS ∧
          Frame s t (fs ++ [F.PCI_LINK_L1, F.PCI_RETRAINS])))) ∧
    (s.domOn Dom.UPL = false → After (.pcieLinkUp w sp) s (fun t => Frame s t []))) ∧
  (∀ s : State,
    (s.domOn Dom.UPL = true → s.on F.PCI_LINK_UP = true →
      After (.pcieLinkDown) s (fun t => t.rd F.PCI_LINK_UP = 0 ∧ t.rd F.PCI_LINK_L1 = 0 ∧ t.rd F.PCI_LINK_WIDTH = 0 ∧ t.rd F.PCI_LINK_SPEED = 0 ∧
        Counted s t F.PCI_LINK_DOWN_CNT ∧ Interrupt t Pg.PCI 1 ∧ Alerted t 10 ∧
        Frame s t ([F.PCI_LINK_UP, F.PCI_LINK_L1, F.PCI_LINK_WIDTH, F.PCI_LINK_SPEED, F.PCI_LINK_DOWN_CNT] ++ raised Pg.PCI))) ∧
    (s.domOn Dom.UPL = false ∨ s.on F.PCI_LINK_UP = false → After (.pcieLinkDown) s (fun t => Frame s t []))) ∧
  (∀ s : State, s.pwr.hostPend = true →
    (s.pwr.appHost = false → s.on F.PCI_LINK_UP = false → (s.rd F.CFG_HOST_SEL = 0 ∨ s.rd F.CFG_HOST_SEL = 3) →
      After (.appHostSelect) s (fun t => t.rd F.PCI_HOST_STAT = 2 ∧ t.isMain .app = true ∧ t.isMain .pcie = false ∧ Interrupt t Pg.PCI 4 ∧
        t.pwr = { s.pwr with hostPend := false, appHost := true } ∧ Frame s { t with pwr := s.pwr } (F.PCI_HOST_STAT :: raised Pg.PCI))) ∧
    ((s.pwr.appHost = true ∨ s.on F.PCI_LINK_UP = true ∨ s.rd F.CFG_HOST_SEL = 1 ∨ s.rd F.CFG_HOST_SEL = 2) →
      After (.appHostSelect) s (fun t => t.pwr = { s.pwr with hostPend := false } ∧ Frame s { t with pwr := s.pwr } [])))

/-- In every mode but OFF: a READ, a WRITE or a reserved opcode whose CRC is wrong ends with status CRC_ERR, is counted in CRC_CNT, raises the CRC_ERR alert and changes nothing else; a reserved opcode with a good CRC ends with BAD_CMD, answered as one byte; a misaligned READ or WRITE with a good CRC ends with ALIGN and does nothing; an aligned READ of a page that answers ends with OK and fetches its words in turn as register reads do (a READ of one word sends its status, the four bytes and the response CRC), and of a page whose domain is off with DOMAIN_OFF; an aligned WRITE of one word, by the SMP as the page's owner, to INT_EN or to a word without an effect of its own that is no legal configuration, ends with OK and stores it. SMP_ABANDON counts in ABANDON_CNT; a READ cut off before its CRC and a reserved opcode do nothing else; a WRITE whose CRC had come is performed, without an answer. Model's choices: log entries 27, 28. -/
def Obligations.SmpTransactions : Prop :=
  (∀ (len : BitVec 4) (addr : BitVec 24) (crc : Byte) (s : State), s.mode ≠ Md.OFF → crc8 (smpRequest 0 len.toNat addr.toNat []) ≠ crc.toNat →
    After (.smpRead len addr crc) s (fun t => t.rd F.SMP_TSTAT_LAST = 1 ∧ Counted s t F.SMP_CRC_CNT ∧ Alerted t 9 ∧
      Frame s t [F.SMP_TSTAT_LAST, F.SMP_CRC_CNT, F.SMP_ALERT_STAT])) ∧
  (∀ (len : BitVec 4) (addr : BitVec 24) (data : List Word) (crc : Byte) (s : State), s.mode ≠ Md.OFF →
    crc8 (smpRequest 1 len.toNat addr.toNat (smpData len.toNat data)) ≠ crc.toNat →
    After (.smpWrite len addr data crc) s (fun t => t.rd F.SMP_TSTAT_LAST = 1 ∧ Sent t (.smp [1#8]) ∧ Counted s t F.SMP_CRC_CNT ∧ Alerted t 9 ∧
      Frame s t [F.SMP_TSTAT_LAST, F.SMP_CRC_CNT, F.SMP_ALERT_STAT])) ∧
  (∀ (cmd : Byte) (addr : BitVec 24) (crc : Byte) (s : State), s.mode ≠ Md.OFF → 128 ≤ cmd.toNat →
    (crc8 (cmd :: be 3 addr.toNat) ≠ crc.toNat → After (.smpBadCmd cmd addr crc) s (fun t => t.rd F.SMP_TSTAT_LAST = 1 ∧ Counted s t F.SMP_CRC_CNT ∧ Alerted t 9)) ∧
    (crc8 (cmd :: be 3 addr.toNat) = crc.toNat → After (.smpBadCmd cmd addr crc) s (fun t => t.rd F.SMP_TSTAT_LAST = 8 ∧ Sent t (.smp [8#8]) ∧ Frame s t [F.SMP_TSTAT_LAST]))) ∧
  (∀ (len : BitVec 4) (addr : BitVec 24) (data : List Word) (crc : Byte) (s : State), s.mode ≠ Md.OFF → smpMisaligned addr.toNat (len.toNat + 1) = true →
    (crc8 (smpRequest 0 len.toNat addr.toNat []) = crc.toNat →
      After (.smpRead len addr crc) s (fun t => t.rd F.SMP_TSTAT_LAST = 4 ∧ Frame s t [F.SMP_TSTAT_LAST])) ∧
    (crc8 (smpRequest 1 len.toNat addr.toNat (smpData len.toNat data)) = crc.toNat →
      After (.smpWrite len addr data crc) s (fun t => t.rd F.SMP_TSTAT_LAST = 4 ∧ Sent t (.smp [4#8]) ∧ Frame s t [F.SMP_TSTAT_LAST]))) ∧
  (∀ (len : BitVec 4) (addr : BitVec 24) (crc : Byte) (s : State), s.mode ≠ Md.OFF → crc8 (smpRequest 0 len.toNat addr.toNat []) = crc.toNat →
    smpMisaligned addr.toNat (len.toNat + 1) = false → s.dead = false →
    (s.pageOn (addr.toNat / 0x1000) = true →
      After (.smpRead len addr crc) s (fun t => t.rd F.SMP_TSTAT_LAST = 0) ∧
      exec (.smpRead len addr crc) s = s.done ((s.smpFetch addr.toNat (len.toNat + 1)).1.smpEnd 0 (s.smpFetch addr.toNat (len.toNat + 1)).2) ∧
      (len = 0#4 → plainRead (addr.toNat / 0x1000) (addr.toNat % 0x1000) = true → (pageDomain (addr.toNat / 0x1000)).isSome = true →
        SMap.find? s.bus.shadow (shadowKey .smp (addr.toNat / 0x1000) (addr.toNat % 0x1000)) = none →
        let w := be 4 (s.word .smp (addr.toNat / 0x1000) (addr.toNat % 0x1000)).toNat
        After (.smpRead len addr crc) s (fun t => Sent t (.smp ([0#8] ++ w ++ be 1 (crc8 ([0#8] ++ w))))))) ∧
    ((pageDomain (addr.toNat / 0x1000)).isSome = true → s.pageOn (addr.toNat / 0x1000) = false → isOverride (addr.toNat / 0x1000) (addr.toNat % 0x1000) = false →
      After (.smpRead len addr crc) s (fun t => t.rd F.SMP_TSTAT_LAST = 3 ∧ Frame s { t with bus := s.bus } (F.SMP_TSTAT_LAST :: accErrFields)))) ∧
  (∀ (p : Page) (v : Word) (crc : Byte) (s : State), s.mode ≠ Md.OFF → s.dead = false → (pageDomain p.toNat).isSome = true → s.pageOn p.toNat = true →
    s.owner p.toNat = 1 → p.toNat ≠ Pg.SMP → crc8 (smpRequest 1 0 (p.toNat * 0x1000 + 0x14) [v]) = crc.toNat →
    After (.smpWrite 0#4 (BitVec.ofNat 24 (p.toNat * 0x1000 + 0x14)) [v] crc) s (fun t =>
      t.rd F.SMP_TSTAT_LAST = 0 ∧ t.rd (F.INT_EN p.toNat) = v.toNat ∧ Sent t (.smp [0#8]) ∧
      Frame s t [F.SMP_TSTAT_LAST, F.INT_EN p.toNat, F.SMP_ALERT_STAT]) ∧
    After (.smpAbandon .write 0#4 (BitVec.ofNat 24 (p.toNat * 0x1000 + 0x14)) [v] crc true 0) s (fun t =>
      Counted s t F.SMP_ABANDON_CNT ∧ t.rd F.SMP_TSTAT_LAST = 0 ∧ t.rd (F.INT_EN p.toNat) = v.toNat ∧
      Frame s t [F.SMP_ABANDON_CNT, F.SMP_TSTAT_LAST, F.INT_EN p.toNat, F.SMP_ALERT_STAT])) ∧
  (∀ (p off : Nat) (v : Word) (crc : Byte) (s : State), p < 4096 → off < 4096 → off % 4 = 0 → s.mode ≠ Md.OFF → s.judge .smp p off = .open →
    plainWord p off = true → s.legalWord .smp p off = false → crc8 (smpRequest 1 0 (p * 0x1000 + off) [v]) = crc.toNat →
    After (.smpWrite 0#4 (BitVec.ofNat 24 (p * 0x1000 + off)) [v] crc) s (fun t => (p = Pg.SMP ∨ t.rd F.SMP_TSTAT_LAST = 0) ∧
      (∀ f ∈ s.fieldsAt .smp p off, t.rd f = stored s v f) ∧ Sent t (.smp [0#8]) ∧ Frame s t (F.SMP_TSTAT_LAST :: s.fieldsAt .smp p off))) ∧
  (∀ (op : SmpOp) (len : BitVec 4) (addr : BitVec 24) (data : List Word) (crc : Byte) (fetched : Nat) (s : State), s.mode ≠ Md.OFF →
    After (.smpAbandon op len addr data crc false fetched) s (fun t => Counted s t F.SMP_ABANDON_CNT ∧ Frame s t [F.SMP_ABANDON_CNT]))

/-- In every mode but OFF, each of the six override commands with a wrong key is answered BAD_KEY and changes nothing but TSTAT; with the key while its function runs, OVR_BUSY and nothing else; else OK. An OVR_MODE while a host's mode change is under way outside BOOT and HOLDUP waits, BUSY set (LAST 3 where it replaces one that waited); else it runs, and a mode number above 11 ends it with LAST 2. OVR_RESET_FULL outside OFF, VAULT and a quenching HOLDUP starts the full reset, BUSY set; in a quenching HOLDUP it waits, BUSY set; in VAULT without the main supply it ends with LAST 2. OVR_RESET_DOMAIN of a powered domain without a locked page asks for the domain's reset, BUSY set until it has restarted; of AON, of no domain or of one that is off, LAST 2; of one with a locked page, LAST 2 and a refusal recorded. OVR_GIVE_UP drops the claim of a unit that can give up, BUSY set, and ends with LAST 1 for one that cannot. With CTRL_ARB 1 OVR_CTRL_GRANT gives a pending grant (journaled, source 1) and changes nothing but LAST with none pending; a denial of a pending grant with CTRL_ARB 1 ends it. OVR_LDG_DATA_READ answers the selected ledger word and advances OVR_LDG_SEL by 1. Model's choices: log entries 28, 31, 110. -/
def Obligations.OverrideCommands : Prop :=
  (∀ (v : Word) (s : State), s.mode ≠ Md.OFF → bits v 31 24 ≠ 0x5A →
    After (.ovrMode v) s (fun t => t.rd F.SMP_TSTAT_LAST = 6 ∧ Sent t (.smp [6#8]) ∧ Frame s t [F.SMP_TSTAT_LAST]) ∧
    After (.ovrResetFull v) s (fun t => t.rd F.SMP_TSTAT_LAST = 6 ∧ Frame s t [F.SMP_TSTAT_LAST]) ∧
    After (.ovrResetDomain v) s (fun t => t.rd F.SMP_TSTAT_LAST = 6 ∧ Frame s t [F.SMP_TSTAT_LAST]) ∧
    After (.ovrGiveUp v) s (fun t => t.rd F.SMP_TSTAT_LAST = 6 ∧ Frame s t [F.SMP_TSTAT_LAST]) ∧
    After (.ovrCtrlGrant v) s (fun t => t.rd F.SMP_TSTAT_LAST = 6 ∧ Frame s t [F.SMP_TSTAT_LAST]) ∧
    After (.ovrCtrlDeny v) s (fun t => t.rd F.SMP_TSTAT_LAST = 6 ∧ Frame s t [F.SMP_TSTAT_LAST])) ∧
  (∀ (v : Word) (s : State), s.mode ≠ Md.OFF → bits v 31 24 = 0x5A →
    (s.ovr.running = some .mode → After (.ovrMode v) s (fun t => t.rd F.SMP_TSTAT_LAST = 7 ∧ Frame s t [F.SMP_TSTAT_LAST])) ∧
    (s.ovr.running ≠ some .mode → s.pwr.change.isSome = true → s.mode ≠ Md.BOOT → s.mode ≠ Md.HOLDUP →
      After (.ovrMode v) s (fun t => t.rd F.SMP_TSTAT_LAST = 0 ∧ t.ovr.waitMode = some (bits v 3 0) ∧ t.rd F.SMP_OVR_STAT_BUSY = 1 ∧
        (s.ovr.waitMode.isSome = true → t.rd F.SMP_OVR_STAT_LAST = 3) ∧
        Frame s { t with ovr := s.ovr } (F.SMP_TSTAT_LAST :: F.SMP_OVR_STAT_BUSY :: (if s.ovr.waitMode.isSome then [F.SMP_OVR_STAT_LAST] else [])))) ∧
    (s.ovr.running ≠ some .mode → s.ovr.waitMode = none → s.pwr.change = none → (s.mode ≠ Md.HOLDUP ∨ s.pwr.vaultReq = false) →
      exec (.ovrMode v) s = s.done ((s.ovrModeRun (bits v 3 0)).smpEnd 0 []) ∧ After (.ovrMode v) s (fun t => t.rd F.SMP_TSTAT_LAST = 0) ∧
      (12 ≤ bits v 3 0 → After (.ovrMode v) s (fun t => t.rd F.SMP_OVR_STAT_LAST = 2 ∧ t.rd F.MODE_STAT_RES = 5 ∧ Interrupt t Pg.MODE 1 ∧
        Frame s { t with ovr := s.ovr } ([F.SMP_TSTAT_LAST, F.SMP_OVR_STAT_LAST, F.SMP_OVR_STAT_BUSY, F.MODE_STAT_RES] ++ raised Pg.MODE)))) ∧
    (s.ovr.running ≠ some .reset → bits v 1 0 = 1 →
      (s.mode ≠ Md.VAULT → (s.mode ≠ Md.HOLDUP ∨ s.pwr.quench = false) →
        let u := ({ s with ovr := { s.ovr with running := some .reset } }).wr F.SMP_OVR_STAT_BUSY 1
        After (.ovrResetFull v) s (fun t => t.rd F.SMP_TSTAT_LAST = 0) ∧ exec (.ovrResetFull v) s = s.done ((u.startReset 2 1).smpEnd 0 [])) ∧
      (s.mode = Md.HOLDUP → s.pwr.quench = true → s.ovr.waitReset = false → s.rst.seq = none →
        After (.ovrResetFull v) s (fun t => t.rd F.SMP_TSTAT_LAST = 0 ∧ t.rd F.SMP_OVR_STAT_BUSY = 1 ∧ t.ovr = { s.ovr with waitReset := true } ∧
          t.rst = { s.rst with waiting := some (s.rst.waiting.getD (2, 1)) } ∧ Frame s { t with ovr := s.ovr, rst := s.rst } [F.SMP_TSTAT_LAST, F.SMP_OVR_STAT_BUSY])) ∧
      (s.mode = Md.VAULT → s.pins.mainGood = false →
        After (.ovrResetFull v) s (fun t => t.rd F.SMP_TSTAT_LAST = 0 ∧ t.rd F.SMP_OVR_STAT_LAST = 2 ∧ Frame s t [F.SMP_TSTAT_LAST, F.SMP_OVR_STAT_LAST]))) ∧
    (s.ovr.running ≠ some .reset → bits v 1 0 = 2 →
      (s.domLocked (bits v 11 8) = false → bits v 11 8 ≠ 0 → bits v 11 8 < 12 → s.domPowered (bits v 11 8) = true →
        After (.ovrResetDomain v) s (fun t => t.rd F.SMP_TSTAT_LAST = 0 ∧ t.rst = { s.rst with asked := s.rst.asked ++ [(bits v 11 8, 1)] } ∧
          t.ovr = { s.ovr with running := some .reset, dom := some (bits v 11 8) } ∧ t.rd F.SMP_OVR_STAT_BUSY = 1 ∧
          Frame s { t with rst := s.rst, ovr := s.ovr } [F.SMP_TSTAT_LAST, F.SMP_OVR_STAT_BUSY])) ∧
      (s.domLocked (bits v 11 8) = false → (bits v 11 8 = 0 ∨ 12 ≤ bits v 11 8 ∨ s.domPowered (bits v 11 8) = false) →
        After (.ovrResetDomain v) s (fun t => t.rd F.SMP_TSTAT_LAST = 0 ∧ t.rd F.SMP_OVR_STAT_LAST = 2 ∧ Frame s t [F.SMP_TSTAT_LAST, F.SMP_OVR_STAT_LAST])) ∧
      (s.domLocked (bits v 11 8) = true →
        After (.ovrResetDomain v) s (fun t => t.rd F.SMP_TSTAT_LAST = 0 ∧ t.rd F.SMP_OVR_STAT_LAST = 2 ∧ Counted s t F.CHIP_DENY_CNT ∧
          (s.on F.CHIP_ACC_ERR_VALID = false → t.rd F.CHIP_ACC_ERR_CAUSE = Cause.LOCKED) ∧
          Frame s t ([F.SMP_TSTAT_LAST, F.SMP_OVR_STAT_LAST, F.CHIP_DENY_CNT] ++ accErrFields)))) ∧
    (s.ovr.running ≠ some .claim → s.on F.CLM_CTRL_ARB = false → (bit v 0 = false ∨ s.canGiveUp = false) →
      After (.ovrGiveUp v) s (fun t => t.rd F.SMP_TSTAT_LAST = 0 ∧ t.rd F.SMP_OVR_STAT_LAST = 1 ∧ Frame s t [F.SMP_TSTAT_LAST, F.SMP_OVR_STAT_LAST])) ∧
    (s.ovr.running ≠ some .claim → s.on F.CLM_CTRL_ARB = false → bit v 0 = true → s.canGiveUp = true →
      exec (.ovrGiveUp v) s = s.done (((({ s with ovr := { s.ovr with running := some .claim } }).wr F.SMP_OVR_STAT_BUSY 1).giveUp 0 true).smpEnd 0 [])) ∧
    (s.ovr.running ≠ some .claim → s.on F.CLM_CTRL_ARB = true → s.rd F.CLM_CTRL_STAT = 1 → bit v 0 = false → bit v 1 = true → bit v 2 = false →
      exec (.ovrCtrlGrant v) s = s.done ((((((s.wr F.CLM_CTRL_STAT 2).raise Pg.CLM 3).pairEntry 3 1 0).pushServe).ovrResult 1).smpEnd 0 []) ∧
      (s.upd.push = none → After (.ovrCtrlGrant v) s (fun t => t.rd F.CLM_CTRL_STAT = 2 ∧ t.ctrlGranted = true ∧ Interrupt t Pg.CLM 3 ∧ t.rd F.SMP_OVR_STAT_LAST = 1 ∧
        t.jrn = (s.pairEntry 3 1 0).jrn ∧
        Frame s { t with jrn := s.jrn } ([F.SMP_TSTAT_LAST, F.SMP_OVR_STAT_LAST, F.CLM_CTRL_STAT] ++ raised Pg.CLM)))) ∧
    (s.ovr.running ≠ some .claim → s.on F.CLM_CTRL_ARB = true → s.rd F.CLM_CTRL_STAT ≠ 1 → bit v 0 = false →
      After (.ovrCtrlGrant v) s (fun t => t.rd F.SMP_TSTAT_LAST = 0 ∧ t.rd F.SMP_OVR_STAT_LAST = 1 ∧ Frame s t [F.SMP_TSTAT_LAST, F.SMP_OVR_STAT_LAST])) ∧
    (s.ovr.running ≠ some .claim → s.on F.CLM_CTRL_ARB = true → s.rd F.CLM_CTRL_STAT = 1 → bit v 0 = false → bit v 2 = true →
      After (.ovrCtrlDeny v) s (fun t => t.rd F.SMP_TSTAT_LAST = 0 ∧ t.rd F.SMP_OVR_STAT_LAST = 1 ∧ t.rd F.CLM_CTRL_STAT = 3 ∧ Interrupt t Pg.CLM 4 ∧
        Frame s t ([F.SMP_TSTAT_LAST, F.SMP_OVR_STAT_LAST, F.CLM_CTRL_STAT] ++ raised Pg.CLM)))) ∧
  (∀ (s : State), s.dead = false → s.rd F.SMP_OVR_LDG_SEL ≥ 116 →
    After (.ovrLdgDataRead .smp) s (fun t => t.bus.rdata = [0#32] ∧ t.rd F.SMP_OVR_LDG_SEL = (s.rd F.SMP_OVR_LDG_SEL + 1) % 2 ^ 16 ∧
      Frame s { t with bus := s.bus } [F.SMP_OVR_LDG_SEL])) ∧
  (∀ (s : State), s.dead = false → s.rd F.SMP_OVR_LDG_SEL < 116 →
    (∀ w, SMap.find? s.bus.shadow (shadowKey .smp Pg.LDG (0x200 + 4 * s.rd F.SMP_OVR_LDG_SEL)) = some w →
      After (.ovrLdgDataRead .smp) s (fun t => t.bus.rdata = [w] ∧ t.rd F.SMP_OVR_LDG_SEL = s.rd F.SMP_OVR_LDG_SEL + 1 ∧
        Frame s { t with bus := s.bus } [F.SMP_OVR_LDG_SEL])) ∧
    (SMap.find? s.bus.shadow (shadowKey .smp Pg.LDG (0x200 + 4 * s.rd F.SMP_OVR_LDG_SEL)) = none →
      After (.ovrLdgDataRead .smp) s (fun t => t.bus.rdata = [s.word .smp Pg.LDG (0x200 + 4 * s.rd F.SMP_OVR_LDG_SEL)] ∧
        t.rd F.SMP_OVR_LDG_SEL = s.rd F.SMP_OVR_LDG_SEL + 1 ∧ Frame s { t with bus := s.bus, fresh := s.fresh } [F.SMP_OVR_LDG_SEL])))

/-- Where the write is let through: within 25,000,000 ticks of the last commit, each of the three commits changes nothing but INT_STAT bit COMMIT_REJ. Otherwise TIME_RATE_COMMIT with a rate within 3.996 to 4.004 ns opens epoch number + 1 (16 bits) anchored at the raw count, with the time now as its offset and the new rate, and clears the quality bit RATE_DEFAULT (5); a rate outside the range is refused. TIME_OFFSET_COMMIT and TIME_STEP_COMMIT (of a sum that is not negative; a negative one is refused) open the next epoch at the raw count with the new time, the old rate and the source's quality, append a TIME_CHG record (raw count, old time, new time), set INT_STAT bit TIME_CHG, and then take effect on the legal event log, the calendar, the compare units and the profiles. Model's choices: log entry 33. -/
def Obligations.TimeCommits : Prop :=
  (∀ (m : Master) (v : Word) (s : State), s.commitTooSoon = true →
    (s.judge m Pg.TIME 0x64 = .open → After (.timeRateCommit m v) s (fun t => Interrupt t Pg.TIME 4 ∧ Frame s t (raised Pg.TIME))) ∧
    (s.judge m Pg.TIME 0x5C = .open → After (.timeOffsetCommit m v) s (fun t => Interrupt t Pg.TIME 4 ∧ Frame s t (raised Pg.TIME))) ∧
    (s.judge m Pg.TIME 0x6C = .open → After (.timeStepCommit m v) s (fun t => Interrupt t Pg.TIME 4 ∧ Frame s t (raised Pg.TIME)))) ∧
  (∀ (m : Master) (v : Word) (s : State), s.commitTooSoon = false → s.judge m Pg.TIME 0x64 = .open →
    (3996 * 2 ^ 40 ≤ (s.tim.stgRate + 2 ^ 32 * bits v 15 0) * 1000 → (s.tim.stgRate + 2 ^ 32 * bits v 15 0) * 1000 ≤ 4004 * 2 ^ 40 →
      After (.timeRateCommit m v) s (fun t =>
        t.tim.cur = ⟨(s.tim.cur.num + 1) % 2 ^ 16, s.raw, s.now % 2 ^ 64, s.tim.stgRate + 2 ^ 32 * bits v 15 0, s.tim.cur.qual &&& ~~~(BitVec.ofNat 8 32)⟩ ∧
        t.tim.lastCommit = some s.raw ∧ t.raw = s.raw ∧ Frame s { t with tim := s.tim } [])) ∧
    ((s.tim.stgRate + 2 ^ 32 * bits v 15 0) * 1000 < 3996 * 2 ^ 40 ∨ 4004 * 2 ^ 40 < (s.tim.stgRate + 2 ^ 32 * bits v 15 0) * 1000 →
      After (.timeRateCommit m v) s (fun t => Interrupt t Pg.TIME 4 ∧ Frame s t (raised Pg.TIME)))) ∧
  (∀ (m : Master) (v : Word) (s : State), s.commitTooSoon = false →
    let u := fun (new : Nat) => (((s.openEpoch s.raw new s.tim.cur.rate s.qualAfterChange).committed).journal 4 (be 8 s.raw ++ be 8 s.now ++ be 8 new)).raise Pg.TIME 3
    let opened := fun (new : Nat) =>
      (u new).tim.cur = ⟨(s.tim.cur.num + 1) % 2 ^ 16, s.raw, new % 2 ^ 64, s.tim.cur.rate, s.qualAfterChange⟩ ∧ (u new).tim.lastCommit = some s.raw ∧
      (u new).raw = s.raw ∧ (s.partnered = false → (u new).jrn.seq = s.jrn.seq + 1 ∧
        (u new).jrn.tail = s.jrn.tail ++ [{ seq := s.jrn.seq + 1, kind := 4, isLocal := false, body := be 8 s.raw ++ be 8 s.now ++ be 8 new }]) ∧
      Interrupt (u new) Pg.TIME 3 ∧ Frame s { u new with tim := s.tim, jrn := s.jrn } (raised Pg.TIME)
    let follows := fun (new : Nat) =>
      ((((u new).legalEvent 8 (eventSrc m) ((u new).sessRole m) (u new).jrn.seq (beInt 8 (((s.now : Int) - (new : Int)).tdiv 1000000))).loadCalendar).cmpCommitAll s.now new).profileTimeChange s.now new
    (s.judge m Pg.TIME 0x5C = .open → opened (s.tim.stgOffset + 2 ^ 32 * v.toNat) ∧
      exec (.timeOffsetCommit m v) s = s.done (follows (s.tim.stgOffset + 2 ^ 32 * v.toNat))) ∧
    (s.judge m Pg.TIME 0x6C = .open →
      (0 ≤ (s.now : Int) + (BitVec.ofNat 64 (s.tim.stgStep + 2 ^ 32 * v.toNat)).toInt →
        let new := ((s.now : Int) + (BitVec.ofNat 64 (s.tim.stgStep + 2 ^ 32 * v.toNat)).toInt).toNat
        opened new ∧ exec (.timeStepCommit m v) s = s.done (follows new)) ∧
      ((s.now : Int) + (BitVec.ofNat 64 (s.tim.stgStep + 2 ^ 32 * v.toNat)).toInt < 0 →
        After (.timeStepCommit m v) s (fun t => Interrupt t Pg.TIME 4 ∧ Frame s t (raised Pg.TIME)))))

/-- Where the access is let through: TIME_NOW_READ answers the low word of the time of the raw count and latches its upper word, number and quality; TIME_CONVERT writes the time of the count given, with DONE; LOCK_SET leaves HOLDOVER 0, and LOCKED 1 unless LOCK_CLR is written with it (log entry 133); LOCK_CLR leaves LOCKED 0; a feed for a source that software feeds, and a PPS edge with source 3, end what the monitor counted; CAPTURE_FLAGS_READ answers VALID, OVF and SEQ and clears VALID and OVF. A PPS edge outside OFF and VAULT latches the raw count in capture 0 with VALID, SEQ advanced, OVF where VALID stood, and INT_STAT bit 6. With a source selected, SOURCE_MISS counts a missed event, the third one clearing LOCKED and setting HOLDOVER with INT_STAT bit 0, and SRC_LOST sets its bit and INT_STAT bit 1. Nothing else changes. Model's choices: log entries 9, 33, 34, 37. -/
def Obligations.TimeReadsAndQuality : Prop :=
  (∀ (m : Master) (s : State), s.dead = false → s.pageOn Pg.TIME = true →
    After (.timeNowRead m) s (fun t => t.bus.rdata = [BitVec.ofNat 32 (s.convert s.raw).1] ∧
      SMap.find? t.bus.shadow (shadowKey m Pg.TIME 0x4C) = some (BitVec.ofNat 32 ((s.convert s.raw).1 / 2 ^ 32)) ∧
      SMap.find? t.bus.shadow (shadowKey m Pg.TIME 0x50) = some (BitVec.ofNat 32 ((s.convert s.raw).2.1 * 256 + (s.convert s.raw).2.2.toNat)) ∧
      Frame s { t with bus := s.bus } []) ∧
    (∀ j : Fin 3, After (.captureFlagsRead m j) s (fun t =>
      t.bus.rdata = [BitVec.ofNat 32 (s.rd (F.TIME_CAP_FLAGS_VALID j.val) * 2 ^ 31 + s.rd (F.TIME_CAP_FLAGS_OVF j.val) * 2 ^ 30 + s.rd (F.TIME_CAP_FLAGS_SEQ j.val))] ∧
      t.rd (F.TIME_CAP_FLAGS_VALID j.val) = 0 ∧ t.rd (F.TIME_CAP_FLAGS_OVF j.val) = 0 ∧
      Frame s { t with bus := s.bus } [F.TIME_CAP_FLAGS_VALID j.val, F.TIME_CAP_FLAGS_OVF j.val]))) ∧
  (∀ (m : Master) (v : Word) (s : State),
    (s.judge m Pg.TIME 0x7C = .open → After (.timeConvert m v) s (fun t =>
      t.rd F.TIME_CONV_OUT_LO = (s.convert (s.tim.stgConv + 2 ^ 32 * v.toNat)).1 % 2 ^ 32 ∧
      t.rd F.TIME_CONV_OUT_HI = (s.convert (s.tim.stgConv + 2 ^ 32 * v.toNat)).1 / 2 ^ 32 % 2 ^ 32 ∧ t.rd F.TIME_CONV_Q_DONE = 1 ∧
      Frame s t [F.TIME_CONV_OUT_LO, F.TIME_CONV_OUT_HI, F.TIME_CONV_Q_DONE, F.TIME_CONV_Q_QUAL])) ∧
    (s.judge m Pg.TIME 0xA0 = .open → bit v 0 = true → After (.lockSet m v) s (fun t =>
      t.tim.cur.qual = (if bit v 1 then s.tim.cur.qual &&& ~~~8#8 else s.tim.cur.qual ||| 8#8) &&& ~~~16#8 ∧ t.raw = s.raw ∧ Frame s { t with tim := s.tim } (raised Pg.TIME))) ∧
    (s.judge m Pg.TIME 0xA0 = .open → bit v 0 = false → bit v 1 = true → After (.lockClr m v) s (fun t =>
      t.tim.cur.qual = s.tim.cur.qual &&& ~~~8#8 ∧ t.raw = s.raw ∧ Frame s { t with tim := s.tim } (raised Pg.TIME))) ∧
    (s.judge m Pg.TIME 0xA4 = .open → (s.rd F.TIME_SRC_SEL = 2 ∨ s.rd F.TIME_SRC_SEL = 4) → After (.timeFeed m v) s (fun t =>
      t.rd F.TIME_QSTAT_MISSED = 0 ∧ t.rd F.TIME_QSTAT_SRC_LOST = 0 ∧ (s.rd F.TIME_QSTAT_MISSED ≠ 0 → Interrupt t Pg.TIME 2) ∧
      Frame s t ([F.TIME_QSTAT_MISSED, F.TIME_QSTAT_SRC_LOST] ++ raised Pg.TIME)))) ∧
  (∀ s : State, s.mode ≠ Md.OFF → s.mode ≠ Md.VAULT → After (.ppsInEdge) s (fun t =>
    t.rd (F.TIME_CAP_LO 0) = s.raw % 2 ^ 32 ∧ t.rd (F.TIME_CAP_HI 0) = s.raw / 2 ^ 32 % 2 ^ 32 ∧ t.rd (F.TIME_CAP_FLAGS_VALID 0) = 1 ∧ Interrupt t Pg.TIME 6 ∧
    t.rd (F.TIME_CAP_FLAGS_SEQ 0) = (s.rd (F.TIME_CAP_FLAGS_SEQ 0) + 1) % (F.TIME_CAP_FLAGS_SEQ 0).bound ∧
    (s.on (F.TIME_CAP_FLAGS_VALID 0) = true → t.rd (F.TIME_CAP_FLAGS_OVF 0) = 1 ∧ Interrupt t Pg.TIME 7) ∧
    (s.srcSel = 3 → t.rd F.TIME_QSTAT_MISSED = 0 ∧ t.rd F.TIME_QSTAT_SRC_LOST = 0) ∧
    Frame s t ([F.TIME_CAP_LO 0, F.TIME_CAP_HI 0, F.TIME_CAP_FLAGS_VALID 0, F.TIME_CAP_FLAGS_SEQ 0, F.TIME_CAP_FLAGS_OVF 0, F.TIME_QSTAT_MISSED, F.TIME_QSTAT_SRC_LOST] ++ raised Pg.TIME))) ∧
  (∀ s : State, s.srcSel ≠ 0 →
    After (.sourceMiss) s (fun t => Counted s t F.TIME_QSTAT_MISSED ∧
      (s.rd F.TIME_QSTAT_MISSED = 2 → Interrupt t Pg.TIME 0 ∧ t.tim.cur.qual = (s.tim.cur.qual &&& ~~~8#8) ||| 16#8) ∧
      (s.rd F.TIME_QSTAT_MISSED ≠ 2 → t.tim = s.tim) ∧ t.raw = s.raw ∧ Frame s { t with tim := s.tim } (F.TIME_QSTAT_MISSED :: raised Pg.TIME)) ∧
    After (.srcLost) s (fun t => t.rd F.TIME_QSTAT_SRC_LOST = 1 ∧ Interrupt t Pg.TIME 1 ∧ Frame s t (F.TIME_QSTAT_SRC_LOST :: raised Pg.TIME)))

/-- HOLD_DRIFT_TICK while LOCKED = 0 adds HOLD_DRIFT to ERR_EST, stopping at its greatest value. CALENDAR_LOAD with a source sets the calendar to the time now in units of 1/32768 s, and without one changes nothing; CALENDAR_TRIM while LOCKED = 1 sets CAL_TRIM to the free value of the crystal count (log entry 5). COMPARE_FIRE of an enabled unit whose target is reached: a one-shot unit counts the firing in FIRED, sets its INT_STAT bit, delivers to its destination and is disabled; a periodic one arms its next target one period on; with destination 0 nothing else changes, with destination 1 the unit that drives it raises PPS_OUT. COMPARE_RETARGET, let through, takes the staged low word and the high word as target (or period), the next target is the first one after now, and nothing else changes but the converter command that a unit with destination 3 may then owe. PPS_OUT_END ends a pulse. Model's choices: log entries 5, 35, 36. -/
def Obligations.HoldoverCalendarAndCompare : Prop :=
  (∀ s : State, s.tim.cur.qual.getLsbD 3 = false → After (.holdDriftTick) s (fun t =>
    t.rd F.TIME_ERR_EST = min (s.rd F.TIME_ERR_EST + s.rd F.TIME_HOLD_DRIFT) (F.TIME_ERR_EST.bound - 1) ∧ t.raw = s.raw ∧
    Frame s { t with tim := s.tim } (F.TIME_ERR_EST :: raised Pg.TIME))) ∧
  (∀ s : State, s.tim.cur.qual.toNat % 8 ≠ 0 → After (.calendarLoad) s (fun t =>
    t.tim = { s.tim with cal := s.now * 32768 / 1000000000, calFrac := 0 } ∧ Frame s { t with tim := s.tim } [])) ∧
  (∀ s : State, s.tim.cur.qual.toNat % 8 = 0 → After (.calendarLoad) s (fun t => Frame s t [])) ∧
  (∀ (ticks : Nat) (s : State), s.tim.cur.qual.getLsbD 3 = true → After (.calendarTrim ticks) s (fun t =>
    t.rd F.TIME_CAL_TRIM = (Config.calTrim ticks).toNat ∧ Frame s t [F.TIME_CAL_TRIM])) ∧
  (∀ (k : Fin 16) (s : State), s.on (F.TIME_CMP_CTL_EN k.val) = true → (s.cmpUnit k.val).next ≤ s.now →
    let fs := [F.TIME_CMP_STAT_FIRED k.val, F.TIME_CMP_STAT_SKIPPED k.val, F.TIME_CMP_CTL_EN k.val] ++ raised Pg.TIME
    let u := (s.raise Pg.TIME (8 + k.val)).wrap (F.TIME_CMP_STAT_FIRED k.val)
    (s.cmpPer k.val = 0 → After (.compareFire k) s (fun t => t.on (F.TIME_CMP_CTL_EN k.val) = false) ∧
      exec (.compareFire k) s = s.done ((u.addSat (F.TIME_CMP_STAT_SKIPPED k.val) 0).cmpDeliver k.val (s.cmpUnit k.val).next 1
        (decide ((s.cmpUnit k.val).next < (s.cmpUnit k.val).repeatEnd)) |>.wr (F.TIME_CMP_CTL_EN k.val) 0)) ∧
    (s.cmpPer k.val ≠ 0 → After (.compareFire k) s (fun t => (t.cmpUnit k.val).next = (s.cmpUnit k.val).next + s.cmpPer k.val)) ∧
    (s.rd (F.TIME_CMP_CTL_DEST k.val) = 0 → After (.compareFire k) s (fun t => Interrupt t Pg.TIME (8 + k.val) ∧
      t.rd (F.TIME_CMP_STAT_FIRED k.val) = (s.rd (F.TIME_CMP_STAT_FIRED k.val) + 1) % (F.TIME_CMP_STAT_FIRED k.val).bound ∧
      t.on (F.TIME_CMP_CTL_EN k.val) = (if s.cmpPer k.val = 0 then false else true) ∧
      t.rd (F.TIME_CMP_STAT_SKIPPED k.val) = min (s.rd (F.TIME_CMP_STAT_SKIPPED k.val)) ((F.TIME_CMP_STAT_SKIPPED k.val).bound - 1) ∧ Frame s { t with tim := s.tim } fs)) ∧
    (s.rd (F.TIME_CMP_CTL_DEST k.val) = 1 → s.drivesPps k.val = true → After (.compareFire k) s (fun t => t.tim.ppsHigh = true ∧ Sent t (.pps true) ∧
      Interrupt t Pg.TIME (8 + k.val) ∧ Frame s { t with tim := s.tim } fs))) ∧
  (∀ (m : Master) (k : Fin 16) (v : Word) (s : State),
    (s.judge m Pg.TIME (0x200 + 0x20 * k.val + 0x04) = .open →
      let w := (s.wr (F.TIME_CMP_TGT_LO k.val) (s.cmpUnit k.val).stgTgt).wr (F.TIME_CMP_TGT_HI k.val) v.toNat
      let u := w.setCmp k.val { s.cmpUnit k.val with next := nextTarget (w.cmpTgt k.val) (w.cmpPer k.val) w.now, armedAt := w.raw, sentFor := none }
      exec (.compareRetarget m k false v) s = s.done (u.converterDue k.val) ∧
      (s.rd (F.TIME_CMP_CTL_DEST k.val) ≠ 3 → After (.compareRetarget m k false v) s (fun t =>
        (t.cmpUnit k.val).next = nextTarget ((s.cmpUnit k.val).stgTgt % 2 ^ 32 + 2 ^ 32 * v.toNat) (s.cmpPer k.val) s.now ∧ (t.cmpUnit k.val).armedAt = s.raw ∧
        t.rd (F.TIME_CMP_TGT_HI k.val) = v.toNat ∧ Frame s { t with tim := s.tim } [F.TIME_CMP_TGT_LO k.val, F.TIME_CMP_TGT_HI k.val]))) ∧
    (s.judge m Pg.TIME (0x200 + 0x20 * k.val + 0x0C) = .open →
      let w := (s.wr (F.TIME_CMP_PER_LO k.val) (s.cmpUnit k.val).stgPer).wr (F.TIME_CMP_PER_HI k.val) v.toNat
      let u := w.setCmp k.val { s.cmpUnit k.val with next := nextTarget (w.cmpTgt k.val) (w.cmpPer k.val) w.now, armedAt := w.raw, sentFor := none }
      exec (.compareRetarget m k true v) s = s.done (u.converterDue k.val) ∧
      (s.rd (F.TIME_CMP_CTL_DEST k.val) ≠ 3 → After (.compareRetarget m k true v) s (fun t =>
        (t.cmpUnit k.val).next = nextTarget (s.cmpTgt k.val) ((s.cmpUnit k.val).stgPer % 2 ^ 32 + 2 ^ 32 * v.toNat) s.now ∧ (t.cmpUnit k.val).armedAt = s.raw ∧
        t.rd (F.TIME_CMP_PER_HI k.val) = v.toNat ∧ Frame s { t with tim := s.tim } [F.TIME_CMP_PER_LO k.val, F.TIME_CMP_PER_HI k.val])))) ∧
  (∀ s : State, s.tim.ppsHigh = true → After (.ppsOutEnd) s (fun t => t.tim.ppsHigh = false ∧ Sent t (.pps false) ∧
    { t.tim with ppsHigh := true } = s.tim ∧ Frame s { t with tim := s.tim } []))

/-- Where the write is let through: PORT_ENABLE of a disabled port stores EN, PERS, OUTAGE_KEEP and TX_INHIBIT, and outside OUTAGE a port that then runs and was down starts: link state ALIGN (1), personality and band latched, QUERY queued; a SUN port takes its member state from ROLE. A personality written to an enabled port is refused, with FPn bit 6, PERS unchanged. PORT_DISABLE, outside OUTAGE, of a port that is up stops it: link and member states 0, its transmission ending over the next slots. FSL_SLOT_RX on a power-line port: a good slot in the state UP without message or overrun counts the slot, ends a run of bad ones, takes its samples and its claim field, and the next slot goes out; a bad slot counts in FSL_CRC_ERR, ends a run of good ones and feeds the modem zeros, the eighth in a row on a link that is up taking it down. FSL_COMMA_LOSS on a link that is up takes it down: FPn bit 1, counted, state ALIGN or OFF as the port runs. FSL_ALIGN_TIMEOUT in ALIGN counts, queues AFE_RESET and QUERY and starts over. SYNC on a link that is up queues SYNC. Nothing else changes. Model's choices: log entry 38. -/
def Obligations.PortEnableAndLink : Prop :=
  (∀ (m : Master) (n : Port) (v : Word) (s : State), s.judge m (Pg.FP n.val) 0x40 = .open →
    let w := ((s.wr (F.FP_CTL_EN n.val) (bits v 0 0)).wr (F.FP_CTL_OUTAGE_KEEP n.val) (bits v 8 8)).wr (F.FP_CTL_TX_INHIBIT n.val) (bits v 9 9)
    let u := w.wr (F.FP_CTL_PERS n.val) (bits v 5 4)
    let fs := [F.FP_CTL_EN n.val, F.FP_CTL_PERS n.val, F.FP_CTL_OUTAGE_KEEP n.val, F.FP_CTL_TX_INHIBIT n.val]
    (s.on (F.FP_CTL_EN n.val) = false → bit v 0 = true →
      exec (.portEnable m n v) s = s.done (if s.mode = Md.OUTAGE then u.portsFollow else u.portFollow n.val) ∧
      (u.portRuns n.val = false → s.rd (F.FP_FSL_STAT_STATE n.val) = 0 → s.mode ≠ Md.OUTAGE → After (.portEnable m n v) s (fun t =>
        t.rd (F.FP_CTL_EN n.val) = 1 ∧ t.rd (F.FP_CTL_PERS n.val) = bits v 5 4 ∧ t.rd (F.FP_CTL_OUTAGE_KEEP n.val) = bits v 8 8 ∧
        t.rd (F.FP_CTL_TX_INHIBIT n.val) = bits v 9 9 ∧ Frame s t fs)) ∧
      (u.portRuns n.val = true → s.rd (F.FP_FSL_STAT_STATE n.val) = 0 → s.mode ≠ Md.OUTAGE →
        After (.portEnable m n v) s (fun t => t.rd (F.FP_FSL_STAT_STATE n.val) = 1 ∧ t.rd (F.FP_CTL_EN n.val) = 1 ∧ t.rd (F.FP_CTL_PERS n.val) = bits v 5 4 ∧
          (t.port n.val).pers = bits v 5 4 ∧ (t.port n.val).band = s.rd (F.FY_BAND_SEL n.val) ∧ (t.port n.val).msgs = [(7, 0)] ∧ (t.port n.val).ending = none ∧
          (bits v 5 4 ≠ 2 → Frame s { t with ports := s.ports } (F.FP_FSL_STAT_STATE n.val :: fs)) ∧
          (bits v 5 4 = 2 → t.rd (F.FM_SUN_MSTATE n.val) = (if s.on (F.FM_SUN_ROLE n.val) then 1 else 0))))) ∧
    (s.on (F.FP_CTL_EN n.val) = true → bit v 0 = true → bits v 5 4 ≠ s.rd (F.FP_CTL_PERS n.val) →
      s.mode ≠ Md.OUTAGE → s.portRuns n.val = true → s.rd (F.FP_FSL_STAT_STATE n.val) ≠ 0 →
      After (.portEnable m n v) s (fun t => Interrupt t (Pg.FP n.val) 6 ∧ t.rd (F.FP_CTL_PERS n.val) = s.rd (F.FP_CTL_PERS n.val) ∧
        t.rd (F.FP_CTL_OUTAGE_KEEP n.val) = bits v 8 8 ∧ t.rd (F.FP_CTL_TX_INHIBIT n.val) = bits v 9 9 ∧
        Frame s t ([F.FP_CTL_EN n.val, F.FP_CTL_OUTAGE_KEEP n.val, F.FP_CTL_TX_INHIBIT n.val] ++ raised (Pg.FP n.val)))) ∧
    (bit v 0 = false → s.mode ≠ Md.OUTAGE →
      (s.rd (F.FP_FSL_STAT_STATE n.val) ≠ 0 →
        exec (.portDisable m n v) s = s.done (u.portStop n.val) ∧
        After (.portDisable m n v) s (fun t => t.rd (F.FP_CTL_EN n.val) = 0 ∧ t.rd (F.FP_FSL_STAT_STATE n.val) = 0 ∧ t.rd (F.FM_SUN_MSTATE n.val) = 0 ∧
          (t.port n.val).ending = some 96 ∧ (t.port n.val).tx = none)) ∧
      (s.rd (F.FP_FSL_STAT_STATE n.val) = 0 →
        After (.portDisable m n v) s (fun t => t.rd (F.FP_CTL_EN n.val) = 0 ∧ t.rd (F.FP_CTL_PERS n.val) = bits v 5 4 ∧ Frame s t fs)))) ∧
  (∀ (n : Port) (chars : List Byte) (s : State), s.rd (F.FP_FSL_STAT_STATE n.val) = 2 → (s.port n.val).pers ≠ 2 → slotGood true true chars = true →
    (chars.getD 0 0).getLsbD 0 = false → (chars.getD 0 0).getLsbD 1 = false →
    let h := (chars.getD 0 0).toNat
    After (.fslSlotRx n true true chars) s (fun t => (t.port n.val).good = (s.port n.val).good + 1 ∧ (t.port n.val).bad = 0 ∧
      (t.port n.val).slot = ((s.port n.val).slot + 1) % 2 ^ 32 ∧ (t.port n.val).slotRaw = s.raw ∧ (t.port n.val).rxSlot = rxCount (s.port n.val).slot (h / 16) ∧
      (t.port n.val).samples = slotSamples (h / 4 % 4) ((chars.drop 1).take 48) ∧
      (t.port n.val).round = (chars.getD 58 0).toNat % 64 ∧ t.rd (F.FP_FSL_STAT_SRC n.val) = (chars.getD 58 0).toNat / 64 ∧
      (t.port n.val).msgs = (s.port n.val).msgs.tail ∧ t.out.length = s.out.length + 1 ∧
      Frame s { t with ports := s.ports, fresh := s.fresh } [F.FP_FSL_STAT_SRC n.val])) ∧
  (∀ (n : Port) (c k : Bool) (chars : List Byte) (s : State), s.afeHeard n.val = true → (s.port n.val).pers ≠ 2 → slotGood c k chars = false →
    (s.linkUp n.val = false ∨ (s.port n.val).bad < 7 →
      After (.fslSlotRx n c k chars) s (fun t => Counted s t (F.FP_FSL_CRC_ERR n.val) ∧ (t.port n.val).good = 0 ∧ (t.port n.val).bad = (s.port n.val).bad + 1 ∧
        (t.port n.val).samples = zeroSamples ∧ (t.port n.val).slot = ((s.port n.val).slot + 1) % 2 ^ 32 ∧ t.out.length = s.out.length + 1 ∧
        Frame s { t with ports := s.ports, fresh := s.fresh } [F.FP_FSL_CRC_ERR n.val])) ∧
    (s.linkUp n.val = true → 7 ≤ (s.port n.val).bad →
      After (.fslSlotRx n c k chars) s (fun t => t.rd (F.FP_FSL_STAT_STATE n.val) = (if s.portRuns n.val then 1 else 0) ∧
        Counted s t (F.FP_FSL_DOWN_CNT n.val) ∧ Interrupt t (Pg.FP n.val) 1))) ∧
  (∀ (n : Port) (s : State), s.linkUp n.val = true →
    After (.fslCommaLoss n) s (fun t => t.rd (F.FP_FSL_STAT_STATE n.val) = (if s.portRuns n.val then 1 else 0) ∧ Counted s t (F.FP_FSL_DOWN_CNT n.val) ∧
      Interrupt t (Pg.FP n.val) 1 ∧ (t.port n.val).msgs = [(7, 0)] ∧ (t.port n.val).info = none ∧ t.credits = s.credits.filter (fun r => r.port != n.val)) ∧
    After (.sync n) s (fun t => (t.port n.val).msgs = (s.port n.val).msgs ++ [(1, 0)] ∧ Frame s { t with ports := s.ports } [])) ∧
  (∀ (n : Port) (s : State), s.rd (F.FP_FSL_STAT_STATE n.val) = 1 →
    After (.fslAlignTimeout n) s (fun t => Counted s t (F.FP_FSL_DOWN_CNT n.val) ∧
      t.port n.val = { s.port n.val with good := 0, bad := 0, info := none, msgs := [(0x0E, 0), (7, 0)] } ∧
      Frame s { t with ports := s.ports } [F.FP_FSL_DOWN_CNT n.val]))

/-- With the front end heard: INFO is kept, and on a link that is up loads the AFE's class, interface version, draw, latency and bands, changing registers of the port only; STATUS stores temperature, supply and current, an alarm setting FPn bit 4; AUX_RESULT is put out; CMD_ACK with the code for late is counted in LATE_CMD, with any other nothing changes. TX_END of a burst under way releases it and its draw, and with ILIM counts in ILIM_CNT and sets FPn bit 2; of no burst under way it changes nothing. TX_END_TIMEOUT queues TX_OFF for every burst sent and not lost, and changes nothing else. -/
def Obligations.FrontEndMessages : Prop :=
  (∀ (n : Port) (p : BitVec 64) (s : State), s.afeHeard n.val = true →
    (s.linkUp n.val = false → After (.info n p) s (fun t => t.port n.val = { s.port n.val with info := some p } ∧ Frame s { t with ports := s.ports } [])) ∧
    (s.linkUp n.val = true → After (.info n p) s (fun t => t.port n.val = { s.port n.val with info := some p } ∧ t.rd (F.FP_FSL_STAT_AFE_CLASS n.val) = p.toNat / 2 ^ 56 ∧
      t.rd (F.FP_FSL_STAT_AFE_IFVER n.val) = p.toNat / 2 ^ 48 % 256 ∧
      t.rd (F.FP_AFE_INFO_MAX_DRAW n.val) = p.toNat / 2 ^ 16 % 2 ^ 16 ∧ t.rd (F.FP_AFE_INFO_BANDS n.val) = p.toNat % 2 ^ 16 ∧
      Frame s { t with ports := s.ports } [F.FP_FSL_STAT_AFE_CLASS n.val, F.FP_FSL_STAT_AFE_IFVER n.val, F.FP_AFE_INFO_MAX_DRAW n.val, F.FP_AFE_INFO_BANDS n.val,
        F.FP_LAT_EFF n.val, F.FP_FSL_STAT_AFE_MISMATCH n.val, F.FY_COUPLE_EFF n.val])) ∧
    After (.status n p) s (fun t => t.rd (F.FP_AFE_STAT_TEMP n.val) = p.toNat / 2 ^ 56 ∧ t.rd (F.FP_AFE_STAT_SUPPLY n.val) = p.toNat / 2 ^ 48 % 256 ∧
      t.rd (F.FP_AFE_STAT_TX_CURR n.val) = p.toNat / 2 ^ 32 % 2 ^ 16 ∧ (p.toNat % 256 ≠ 0 → Interrupt t (Pg.FP n.val) 4) ∧
      Frame s t ([F.FP_AFE_STAT_TEMP n.val, F.FP_AFE_STAT_SUPPLY n.val, F.FP_AFE_STAT_TX_CURR n.val] ++ raised (Pg.FP n.val))) ∧
    After (.auxResult n p) s (fun t => Sent t (.auxResult n.val p.toNat) ∧ Frame s t []) ∧
    (p.toNat / 2 ^ 48 % 256 = 1 → After (.cmdAck n p) s (fun t => Counted s t (F.FP_LATE_CMD n.val) ∧ Frame s t [F.FP_LATE_CMD n.val])) ∧
    (p.toNat / 2 ^ 48 % 256 ≠ 1 → After (.cmdAck n p) s (fun t => Frame s t []))) ∧
  (∀ (n : Port) (p : BitVec 64) (s : State),
    (∀ b, (s.port n.val).bursts.find? (fun b => b.tag == p.toNat % 256) = some b →
      After (.txEnd n p) s (fun t => (t.port n.val).bursts = (s.port n.val).bursts.filter (fun b => b.tag != p.toNat % 256) ∧
        t.rd F.ARB_TX_USED = (s.rd F.ARB_TX_USED - b.fromTx) % 2 ^ 16 ∧ t.rd F.ARB_ACK_USED = (s.rd F.ARB_ACK_USED - b.fromRsv) % 2 ^ 16 ∧
        (p.getLsbD 16 = true → Counted s t (F.FP_ILIM_CNT n.val) ∧ Interrupt t (Pg.FP n.val) 2) ∧
        Frame s { t with ports := s.ports, fresh := s.fresh } ([F.ARB_TX_USED, F.ARB_ACK_USED] ++ (if p.getLsbD 16 then F.FP_ILIM_CNT n.val :: raised (Pg.FP n.val) else [])))) ∧
    ((s.port n.val).bursts.find? (fun b => b.tag == p.toNat % 256) = none → After (.txEnd n p) s (fun t => Frame s t []))) ∧
  (∀ (n : Port) (s : State),
    After (.txEndTimeout n) s (fun t => (t.port n.val).msgs = (s.port n.val).msgs ++ ((s.port n.val).bursts.filter (fun b => b.sent && !b.lost)).map (fun b => (4, b.tag)) ∧
      (t.port n.val).bursts = (s.port n.val).bursts ∧ Frame s { t with ports := s.ports } []))

/-- A port that may transmit and has no request waiting joins the end of the queue with its draw; one that may not, or has one, changes nothing. An acknowledgement's draw that fits the reserve is taken from it, else from the budget where it fits, and its burst is sent; one that fits neither is denied: ACK_DENY counted, ARB bit 0. A grantable request whose draw fits the budget leaves the queue, and its draw is added to TX_USED; where it is for a burst to send at once, TX_ON is queued. A withdrawn request leaves the queue, counted in WITHDRAWN and CRED_DEFER, with FPn bit 3; on a SUN port it is a listen-before-talk failure, counted with FYn bit 8. CREDIT_STARVE marks the port's request starved, ARB bit 1. CREDIT_RELEASE_DOWN releases the draw of every burst that the link's loss cut off. Only the parts named change. Model's choices: log entries 38, 47. -/
def Obligations.TransmitCredits : Prop :=
  (∀ (n : Port) (len : BitVec 16) (s : State),
    (s.mayTransmit n.val = false ∨ s.credits.any (fun r => r.port == n.val) = true → After (.creditRequest n len) s (fun t => Frame s t [])) ∧
    (s.mayTransmit n.val = true →
      (s.credits.any (fun r => r.port == n.val) = false → After (.creditRequest n len) s (fun t =>
        t.credits = s.credits ++ [{ port := n.val, draw := s.draw n.val, len := len.toNat, att := s.txAtt n.val, atOnce := true, starved := false }] ∧
        t.rd F.ARB_WAITING = (s.credits.length + 1) % F.ARB_WAITING.bound ∧ Frame s { t with credits := s.credits } [F.ARB_WAITING])) ∧
      (s.modemTested n.val = false → s.rd F.ARB_ACK_USED + s.draw n.val ≤ s.rd F.ARB_ACK_RSV → s.rd F.ARB_ACK_RSV < 2 ^ 16 →
        After (.ackCreditRequest n len) s (fun t => t.rd F.ARB_ACK_USED = s.rd F.ARB_ACK_USED + s.draw n.val ∧ (t.port n.val).tag = ((s.port n.val).tag + 1) % 256 ∧
          t.rd F.ARB_GRANTS = (s.rd F.ARB_GRANTS + 1) % F.ARB_GRANTS.bound ∧ (t.port n.val).bursts.length = (s.port n.val).bursts.length + 1 ∧
          (t.port n.val).msgs.length = (s.port n.val).msgs.length + 1 ∧
          Frame s { t with ports := s.ports } [F.ARB_ACK_USED, F.ARB_GRANTS, F.FP_TX_BURSTS n.val])) ∧
      (s.modemTested n.val = false → s.rd F.ARB_ACK_RSV < s.rd F.ARB_ACK_USED + s.draw n.val →
        (s.rd F.ARB_TX_USED + s.draw n.val ≤ s.txBudget → s.txBudget < 2 ^ 16 →
          After (.ackCreditRequest n len) s (fun t => t.rd F.ARB_TX_USED = s.rd F.ARB_TX_USED + s.draw n.val ∧ (t.port n.val).tag = ((s.port n.val).tag + 1) % 256 ∧
            (t.port n.val).msgs.length = (s.port n.val).msgs.length + 1 ∧
            Frame s { t with ports := s.ports } [F.ARB_TX_USED, F.ARB_TX_PEAK, F.ARB_GRANTS, F.FP_TX_BURSTS n.val])) ∧
        (s.txBudget < s.rd F.ARB_TX_USED + s.draw n.val →
          After (.ackCreditRequest n len) s (fun t => Counted s t F.ARB_ACK_DENY ∧ Interrupt t Pg.ARB 0 ∧ Frame s t (F.ARB_ACK_DENY :: raised Pg.ARB)))))) ∧
  (∀ (n : Port) (s : State) (r : CreditReq), (grantable s.credits).find? (fun x => x.port == n.val) = some r → s.modemTested n.val = false → s.mayTransmit n.val = true →
    s.rd F.ARB_TX_USED + r.draw ≤ s.txBudget → s.txBudget < 2 ^ 16 → (s.sun n.val).lbt = none →
    After (.creditGrant n) s (fun t => t.credits = s.credits.filter (fun x => x.port != n.val) ∧ t.rd F.ARB_TX_USED = s.rd F.ARB_TX_USED + r.draw ∧
      (t.port n.val).tag = ((s.port n.val).tag + 1) % 256 ∧ (t.port n.val).bursts.length = (s.port n.val).bursts.length + 1 ∧
      (t.port n.val).msgs.length = (s.port n.val).msgs.length + (if r.atOnce then 1 else 0) ∧
      Frame s { t with credits := s.credits, ports := s.ports } [F.ARB_WAITING, F.ARB_TX_USED, F.ARB_TX_PEAK, F.ARB_GRANTS, F.FP_TX_BURSTS n.val])) ∧
  (∀ (n : Port) (s : State), s.credits.any (fun r => r.port == n.val) = true →
    let fs := [F.ARB_WAITING, F.ARB_WITHDRAWN, F.FP_CRED_DEFER n.val] ++ raised (Pg.FP n.val)
    ((s.port n.val).pers ≠ 2 → (s.port n.val).tx = none → After (.creditWithdraw n) s (fun t => t.credits = s.credits.filter (fun r => r.port != n.val) ∧
      Counted s t F.ARB_WITHDRAWN ∧ Counted s t (F.FP_CRED_DEFER n.val) ∧ Interrupt t (Pg.FP n.val) 3 ∧ Frame s { t with credits := s.credits } fs)) ∧
    (∀ x, (s.port n.val).tx = some x → (s.port n.val).pers ≠ 2 → x.defers + 1 < s.rdIn (F.FM_RETRY_MAX_DEFER n.val) 1 255 →
      After (.creditWithdraw n) s (fun t => t.credits = s.credits.filter (fun r => r.port != n.val) ∧ (t.port n.val).tx = some { x with defers := x.defers + 1, slot := none } ∧
        Frame s { t with credits := s.credits, ports := s.ports } fs)) ∧
    ((s.port n.val).pers = 2 → After (.creditWithdraw n) s (fun t => t.credits = s.credits.filter (fun r => r.port != n.val) ∧ (t.sun n.val).lbt = none ∧
      Counted s t (F.FY_SUN_CCA_FAIL n.val) ∧ Interrupt t (Pg.FY n.val) 8 ∧
      Frame s { t with credits := s.credits, ports := s.ports } (F.FY_SUN_CCA_FAIL n.val :: F.INT_STAT (Pg.FY n.val) :: fs)))) ∧
  (∀ (n : Port) (s : State), s.credits.any (fun r => r.port == n.val && !r.starved) = true →
    After (.creditStarve n) s (fun t => t.credits = s.credits.map (fun r => if r.port = n.val then { r with starved := true } else r) ∧ Interrupt t Pg.ARB 1 ∧
      Frame s { t with credits := s.credits } (raised Pg.ARB))) ∧
  (∀ (n : Port) (s : State),
    After (.creditReleaseDown n) s (fun t => (t.port n.val).bursts = (s.port n.val).bursts.filter (fun b => !(s.port n.val).bursts.any (fun x => x.lost && x.tag == b.tag)) ∧
      (∀ b, (s.port n.val).bursts.head? = some b → (s.port n.val).bursts.length = 1 → b.lost = true → t.rd F.ARB_TX_USED = (s.rd F.ARB_TX_USED - b.fromTx) % 2 ^ 16 ∧ t.rd F.ARB_ACK_USED = (s.rd F.ARB_ACK_USED - b.fromRsv) % 2 ^ 16) ∧
      Frame s { t with ports := s.ports } [F.ARB_TX_USED, F.ARB_ACK_USED]))

/-- With the IOX domain on and the input enabled, an edge is stamped with the raw count less deglitch and compensation, and takes its place in the ring: after LOST the first three edges are kept for the rebuild and the fourth clears LOST, each accepted and stored in ZC_LAST; an edge that strays from the prediction by more than JIT_TH is counted in DISCARD; one exactly a period after the last is accepted and leaves the period. ZC_LOST on an input that is not lost sets LOST and its interrupt and empties the rebuild. GPIO_EDGE of a pin that the device does not drive sets the pin's level, and with IOX on interrupts where it is a change whose edge is enabled. GPIO_PULSE_END ends a pulse that COMPARE began: the output level falls, and a pin that COMPARE drives goes low. Nothing else changes. Model's choices: log entries 39, 66. -/
def Obligations.ZeroCrossingsAndPins : Prop :=
  (∀ (p : Fin 3) (s : State), s.domOn Dom.IOX = true → (s.rd F.GPIO_ZC_CTL_EN).testBit p.val = true →
    let stamp := s.raw - (s.rdIn F.GPIO_ZC_CTL_DEGLITCH 10 255 * 250 + s.rd (F.GPIO_ZC_COMP p.val) / 4)
    let fs := [F.GPIO_ZC_LAST_LO p.val, F.GPIO_ZC_LAST_HI p.val, F.GPIO_ZC_PERIOD p.val, F.GPIO_ZC_ACCEPT p.val, F.GPIO_ZC_STAT_HEAD p.val]
    let counted := fun (t : State) => t.rd (F.GPIO_ZC_LAST_LO p.val) = stamp % 2 ^ 32 ∧ t.rd (F.GPIO_ZC_LAST_HI p.val) = stamp / 2 ^ 32 % 2 ^ 32 ∧
      t.rd (F.GPIO_ZC_ACCEPT p.val) = (s.rd (F.GPIO_ZC_ACCEPT p.val) + 1) % (F.GPIO_ZC_ACCEPT p.val).bound ∧ (t.zcOf (p.val + 1)).last = stamp
    (s.on (F.GPIO_ZC_STAT_LOST p.val) = true → (s.zcOf (p.val + 1)).rebuild.length < 3 → After (.zcEdge p) s (fun t => counted t ∧
      (t.zcOf (p.val + 1)).rebuild = (s.zcOf (p.val + 1)).rebuild ++ [stamp] ∧ t.on (F.GPIO_ZC_STAT_LOST p.val) = true ∧ Frame s { t with zc := s.zc } fs)) ∧
    (s.on (F.GPIO_ZC_STAT_LOST p.val) = true → 3 ≤ (s.zcOf (p.val + 1)).rebuild.length → After (.zcEdge p) s (fun t => counted t ∧
      t.rd (F.GPIO_ZC_STAT_LOST p.val) = 0 ∧ (t.zcOf (p.val + 1)).rebuild = [] ∧
      (t.zcOf (p.val + 1)).period = (stamp - (s.zcOf (p.val + 1)).rebuild.headD 0) * 4 * 65536 / 3 ∧ Frame s { t with zc := s.zc } (F.GPIO_ZC_STAT_LOST p.val :: fs))) ∧
    (s.on (F.GPIO_ZC_STAT_LOST p.val) = false → s.rd F.GPIO_ZC_JIT_TH * 65536 < (s.zcOf (p.val + 1)).period → stamp = (s.zcOf (p.val + 1)).last →
      After (.zcEdge p) s (fun t => Counted s t (F.GPIO_ZC_DISCARD p.val) ∧ Frame s { t with zc := s.zc } [F.GPIO_ZC_DISCARD p.val, F.GPIO_ZC_STAT_HEAD p.val])) ∧
    (s.on (F.GPIO_ZC_STAT_LOST p.val) = false → (stamp - (s.zcOf (p.val + 1)).last) * 4 * 65536 = (s.zcOf (p.val + 1)).period →
      15385000 * 65536 ≤ (s.zcOf (p.val + 1)).period → (s.zcOf (p.val + 1)).period ≤ 22222000 * 65536 →
      After (.zcEdge p) s (fun t => counted t ∧ (t.zcOf (p.val + 1)).period = (s.zcOf (p.val + 1)).period ∧ Frame s { t with zc := s.zc } fs)) ∧
    (s.on (F.GPIO_ZC_STAT_LOST p.val) = false → After (.zcLost p) s (fun t =>
      t.rd (F.GPIO_ZC_STAT_LOST p.val) = 1 ∧ Interrupt t Pg.GPIO (16 + p.val) ∧ (t.zcOf (p.val + 1)).rebuild = [] ∧
      Frame s { t with zc := s.zc } (F.GPIO_ZC_STAT_LOST p.val :: raised Pg.GPIO)))) ∧
  (∀ (k : Fin 16) (rise : Bool) (s : State), s.pinLevel k.val = none →
    After (.gpioEdge k rise) s (fun t => t.pinIn k.val = rise ∧ t.pins = { s.pins with gpio := putBit16 s.pins.gpio k.val rise } ∧
      (s.domOn Dom.IOX = true → s.pinIn k.val ≠ rise → (s.rd (if rise then F.GPIO_INT_RISE else F.GPIO_INT_FALL)).testBit k.val = true → Interrupt t Pg.GPIO k.val) ∧
      Frame s { t with pins := s.pins } (raised Pg.GPIO))) ∧
  (∀ (k : Fin 16) (s : State), s.gpioCmp.getLsbD k.val = true → s.rd F.GPIO_PULSE ≠ 0 →
    After (.gpioPulseEnd k) s (fun t => t.gpioCmp = s.gpioCmp &&& ~~~(BitVec.ofNat 16 (2 ^ k.val)) ∧
      (s.pinLevel k.val = some true → s.pinCompare k.val = true → s.pinArb k.val = false → s.pinCap k.val = false → Sent t (.gpio k.val false)) ∧
      Frame s { t with gpioCmp := s.gpioCmp } (raised Pg.GPIO)))

/-- On a PLC port that is up and not under test: a preamble stamps the raw count of its start, less the latency in effect, forgets any header and counts. A header after a preamble that is not good counts in RX_HDR_ERR, sets FYn bit 2 and ends the reception; with a good check sequence it reserves the medium for what it announces, else the reservation begins when the energy falls. A good one of an acknowledgement (FT 1) ends the reception; a good one of any other frame is kept with its stamp, and a data frame with no frame held and room in the queue begins a packet; each good one stores LAST_MODE and reserves the medium. NPL_FRAME_END of a kept header: a frame with a wrong code or FCS is aborted, counted, with FYn bit 0; a good one stores LAST_SNR, blanked symbols noted, and a beacon (FT 2) ends there while any other frame is taken with its stamp. TONE_MAP_RX keeps the map for its sender and lifts a link whose receiver asked for NA to NA mode where the map loads a group. HELD_FRAME_COMMIT with nothing held changes nothing but the readiness to send BUSY again; without room for a held frame nothing; with room it commits the oldest first. Model's choices: log entries 13, 42, 43, 44. -/
def Obligations.PlcReception : Prop :=
  (∀ (n : Port) (s : State), s.plcUp n.val = true → s.modemTested n.val = false →
    After (.nplPreambleDetect n) s (fun t => t.port n.val = { s.port n.val with rxStamp := some (s.raw - preambleTicks (s.fcc n.val) - s.latEff n.val / 4), hdr := none, ovrSeen := false } ∧
      t.rd (F.FY_RX_PREAMBLE n.val) = (s.rd (F.FY_RX_PREAMBLE n.val) + 1) % (F.FY_RX_PREAMBLE n.val).bound ∧ Frame s { t with ports := s.ports } [F.FY_RX_PREAMBLE n.val])) ∧
  (∀ (n : Port) (h : BitVec 48) (s : State), s.plcUp n.val = true → (s.port n.val).rxStamp.isSome = true →
    let x := nplHdrOf h
    (s.hdrGood n.val h = false → After (.nplHeaderDecode n h) s (fun t => Counted s t (F.FY_RX_HDR_ERR n.val) ∧ Interrupt t (Pg.FY n.val) 2 ∧
      t.port n.val = (if hcsOk h then { s.port n.val with rxStamp := none, hdr := none, reservedTo := s.raw + s.hdrResv n.val x }
        else { s.port n.val with rxStamp := none, hdr := none, hcsBad := true }) ∧ Frame s { t with ports := s.ports } (F.FY_RX_HDR_ERR n.val :: raised (Pg.FY n.val)))) ∧
    (s.hdrGood n.val h = true → x.ft = 1 → After (.nplHeaderDecode n h) s (fun t => t.rd (F.FY_LAST_MODE n.val) = x.mode ∧
      t.port n.val = { s.port n.val with rxStamp := none, hdr := none, reservedTo := s.raw + s.hdrResv n.val x } ∧ Frame s { t with ports := s.ports } [F.FY_LAST_MODE n.val])) ∧
    (s.hdrGood n.val h = true → x.ft ≠ 1 →
      let u := (s.setPort n.val { s.port n.val with hdr := some x, reservedTo := s.raw + s.hdrResv n.val x }).wr (F.FY_LAST_MODE n.val) x.mode
      (x.ft ≠ 0 ∨ (s.port n.val).held ≠ [] ∨ u.portRoom n.val = false → After (.nplHeaderDecode n h) s (fun t => t.rd (F.FY_LAST_MODE n.val) = x.mode ∧
        t.port n.val = { s.port n.val with hdr := some x, reservedTo := s.raw + s.hdrResv n.val x } ∧ Frame s { t with ports := s.ports } [F.FY_LAST_MODE n.val])) ∧
      (x.ft = 0 → (s.port n.val).held = [] → u.portRoom n.val = true → exec (.nplHeaderDecode n h) s = s.done (u.packetStart n.val n.val)))) ∧
  (∀ (n : Port) (ok : Bool) (frame : List Byte) (snr : Byte) (groups : List Byte) (blanked : Nat) (s : State) (x : NplHdr), (s.port n.val).hdr = some x →
    ∀ stamp, (s.port n.val).rxStamp = some stamp →
    let k := s.blankedNow n.val blanked
    let u := (s.setPort n.val { s.port n.val with hdr := none, rxStamp := none, rxEnd := (stamp, s.raw), ovrSeen := false }).noteBlanked n.val k
    (x.ft = 2 → (ok && s.plcFrameOk n.val frame) = true → After (.nplFrameEnd n ok frame snr groups blanked) s (fun t => (t.port n.val).hdr = none ∧ (t.port n.val).rxStamp = none ∧
      (t.port n.val).rxEnd = (stamp, s.raw) ∧ t.rd (F.FY_LAST_SNR n.val) = snr.toNat ∧ t.rd (F.FY_LAST_BLANKED n.val) = min 255 k ∧
      t.rd (F.FY_IMP_BLANK n.val) = min (s.rd (F.FY_IMP_BLANK n.val) + k) ((F.FY_IMP_BLANK n.val).bound - 1) ∧
      Frame s { t with ports := s.ports } ([F.FY_IMP_BLANK n.val, F.FY_LAST_BLANKED n.val, F.FY_LAST_SNR n.val] ++ raised (Pg.FY n.val)))) ∧
    ((ok && s.plcFrameOk n.val frame) = false → exec (.nplFrameEnd n ok frame snr groups blanked) s = s.done (((u.rewind n.val).sat (F.FY_RX_ABORT n.val)).raise (Pg.FY n.val) 0) ∧
      After (.nplFrameEnd n ok frame snr groups blanked) s (fun t => Counted s t (F.FY_RX_ABORT n.val) ∧ Interrupt t (Pg.FY n.val) 0 ∧ (t.port n.val).hdr = none ∧ (t.port n.val).rxStamp = none)) ∧
    (x.ft ≠ 2 → (ok && s.plcFrameOk n.val frame) = true →
      exec (.nplFrameEnd n ok frame snr groups blanked) s = s.done ((u.wr (F.FY_LAST_SNR n.val) snr.toNat).plcFrame n.val stamp x frame groups k))) ∧
  (∀ (n : Port) (src : BitVec 16) (i : BitVec 4) (map : List Nat) (s : State), s.plcUp n.val = true →
    After (.toneMapRx n src i map) s (fun t => (t.linkMode n.val src.toNat).map = map ∧ (t.linkMode n.val src.toNat).mapIdx = i.toNat ∧
      (t.linkMode n.val src.toNat).mode = (if (s.linkMode n.val src.toNat).ceiling = 5 ∧ map.any (fun b => b != 0) then 5 else (s.linkMode n.val src.toNat).mode) ∧
      (t.linkMode n.val src.toNat).ceiling = (s.linkMode n.val src.toNat).ceiling ∧ Frame s { t with ports := s.ports } [])) ∧
  (∀ (n : Port) (s : State),
    ((s.port n.val).held = [] → After (.heldFrameCommit n) s (fun t =>
      t.port n.val = { s.port n.val with sun := { (s.port n.val).sun with busySent := false } } ∧ Frame s { t with ports := s.ports } [])) ∧
    (∀ r, (s.port n.val).held.head? = some r →
      (s.portRoom n.val = false → After (.heldFrameCommit n) s (fun t => Frame s t [])) ∧
      (s.portRoom n.val = true →
        exec (.heldFrameCommit n) s = s.done ((((s.setPort n.val { s.port n.val with held := (s.port n.val).held.tail }).takeFrame n.val r).commitHeld n.val 3).busyRearm n.val))))

/-- An acknowledgement of the frame awaiting one adapts the link's mode: the receiver's MODE becomes the ceiling, the mode rises one level after RECOVER_N first-attempt successes and never above what the ceiling allows, and the transmission ends. ACK_TIMEOUT with retries left keeps the frame with one retry more and the fallen-back mode, counted in TX_RETRY (and FALLBACK where the mode was above ROBO); with none left the transmission fails, counted, with FMn bit 0. CONTENTION_SLOT on a port that is up notes the energy: before the frame's slot on an idle medium nothing else changes; in it, with credit held, the frame is sent, else it is deferred, as it is on a busy medium; slot 0 takes the next frame and sends a beacon that is due and holds its credit. NPL_BEACON makes the beacon due and asks for its credit; G3_BEACON_REQUEST queues the answer. ROUTE_WAIT_EXPIRE fails the oldest frame that waits for a route, with FMn bit 0. Model's choices: log entries 14, 15, 40, 41, 43, 45, 46, 47, 48. -/
def Obligations.PlcTransmission : Prop :=
  (∀ (n : Port) (hdr : BitVec 48) (s : State) (x : NplTx), (s.port n.val).tx = some x → s.plcUp n.val = true → hcsOk hdr = true → (nplHdrOf hdr).ft = 1 → x.waitAck = true →
    (nplHdrOf hdr).mode < 6 → (nplHdrOf hdr).info = field x.bytes (x.bytes.length - 2) 2 →
    let h := nplHdrOf hdr
    let l := s.linkMode n.val x.next
    let run := if x.retries = 0 then l.run + 1 else 0
    let rise := s.rdIn (F.FM_RETRY_RECOVER_N n.val) 1 255 ≤ run
    let m := min (s.modeCap n.val h.mode l) (if rise then s.modeUp n.val l else l.mode)
    let u := s.setLinkMode n.val x.next { l with mode := m, ceiling := h.mode, run := if rise then 0 else run }
    (h.mode < 5 → m ≤ h.mode) ∧ (x.retries ≠ 0 → m ≤ l.mode) ∧ (m ≤ l.mode + 1 ∨ m = 5) ∧
    exec (.nplAckRx n hdr) s = s.done ((u.endTx n.val).restorePhase n.val) ∧
    After (.nplAckRx n hdr) s (fun t => (t.port n.val).tx = none ∧ (t.linkMode n.val x.next).ceiling = h.mode ∧ (t.linkMode n.val x.next).mode = m)) ∧
  (∀ (n : Port) (s : State) (x : NplTx), (s.port n.val).tx = some x →
    (x.waitAck = true → x.retries < min 7 (s.rd (F.FM_RETRY_MAX n.val)) → After (.ackTimeout n) s (fun t =>
      (t.port n.val).tx = some { x with waitAck := false, slot := none, retries := x.retries + 1, mode := fallBack x.mode (s.linkMode n.val x.next).map } ∧
      (t.linkMode n.val x.next).run = 0 ∧ (t.linkMode n.val x.next).mode = fallBack x.mode (s.linkMode n.val x.next).map ∧ Counted s t (F.FM_TX_RETRY n.val) ∧
      (x.mode ≠ 0 → Counted s t (F.FM_FALLBACK n.val)) ∧ Frame s { t with ports := s.ports, fresh := s.fresh } (F.FM_TX_RETRY n.val :: (if x.mode ≠ 0 then [F.FM_FALLBACK n.val] else [])))) ∧
    (x.waitAck = true → min 7 (s.rd (F.FM_RETRY_MAX n.val)) ≤ x.retries →
      exec (.ackTimeout n) s = s.done ((((s.failTx n.val).restorePhase n.val).sat (F.FM_TX_FAIL n.val)).raise (Pg.FM n.val) 0) ∧
      After (.ackTimeout n) s (fun t => (t.port n.val).tx = none ∧ Counted s t (F.FM_TX_FAIL n.val) ∧ Interrupt t (Pg.FM n.val) 0 ∧ (x.cell.isSome = true → Sent t (.txFailed n.val)))) ∧
    (∀ (k slot : Nat) (energy : Bool), x.slot = some k → s.plcUp n.val = true → slot ≠ 0 →
      let u := s.energyNow n.val energy
      ((energy || u.mediumBusy n.val) = false → slot < k → After (.contentionSlot n slot energy) s (fun t => t.port n.val = u.port n.val ∧ Frame s { t with ports := s.ports } [])) ∧
      ((energy || u.mediumBusy n.val) = true → slot ≤ k → exec (.contentionSlot n slot energy) s = s.done (u.deferTx n.val)) ∧
      ((energy || u.mediumBusy n.val) = false → k ≤ slot → (u.heldTag n.val).isSome = true → u.mayTransmit n.val = true →
        exec (.contentionSlot n slot energy) s = s.done (u.transmit n.val x) ∧
        After (.contentionSlot n slot energy) s (fun t => Sent t (.frame n.val x.mode x.bytes))))) ∧
  (∀ (n : Port) (energy : Bool) (s : State), s.plcUp n.val = true →
    let u := ((s.energyNow n.val energy).nextTx n.val).drawSlot n.val
    exec (.contentionSlot n 0 energy) s = s.done ((s.energyNow n.val energy).slotZero n.val energy) ∧
    ((u.port n.val).beaconDue = true → energy = false → u.mediumBusy n.val = false → (u.heldTag n.val).isSome = true → u.mayTransmit n.val = true →
      exec (.contentionSlot n 0 energy) s = s.done ((u.sendBeacon n.val).yieldSlot n.val))) ∧
  (∀ (n : Port) (s : State),
    (∀ x, (s.port n.val).routeHeld.head? = some x → After (.routeWaitExpire n) s (fun t => (t.port n.val).routeHeld = (s.port n.val).routeHeld.tail ∧ Counted s t (F.FM_TX_FAIL n.val) ∧
      Interrupt t (Pg.FM n.val) 0 ∧ (x.cell = none → Frame s { t with ports := s.ports } (F.FM_TX_FAIL n.val :: raised (Pg.FM n.val))))) ∧
    ((s.port n.val).routeHeld = [] → After (.routeWaitExpire n) s (fun t => Frame s t []))) ∧
  (∀ (n : Port) (s : State), s.plcUp n.val = true → s.rd (F.FM_NET_ID n.val) ≠ 0xFFFF →
    ((s.port n.val).pers = 1 → s.mayTransmit n.val = true →
      (s.heldTag n.val = none → s.credits.any (fun r => r.port == n.val) = false → After (.nplBeacon n) s (fun t => t.port n.val = { s.port n.val with beaconDue := true } ∧
        t.credits = s.credits ++ [{ port := n.val, draw := s.draw n.val, len := s.beaconSlots n.val, att := s.txAtt n.val, atOnce := false, starved := false }] ∧
        Frame s { t with ports := s.ports, credits := s.credits } [F.ARB_WAITING])) ∧
      ((s.heldTag n.val).isSome = true → After (.nplBeacon n) s (fun t => t.port n.val = { s.port n.val with beaconDue := true } ∧ Frame s { t with ports := s.ports } []))) ∧
    ((s.port n.val).pers = 0 → After (.g3BeaconRequest n) s (fun t =>
      (t.port n.val).mac = (s.port n.val).mac ++ [{ typ := 5, prio := 3, payload := Config.g3Beacon (s.rd (F.FM_NET_ID n.val)) }] ∧ Frame s { t with ports := s.ports } [])))

/-- On a PLC port that is up: a route frame for a node with room in the cache stores next hop, cost, hops and tag, valid, stamped with the raw count, RT_CNT following; ROUTE_EXPIRE of a route whose lifetime is past ends its validity, and of one whose lifetime is not past changes nothing. A join request (NPL) or bootstrap message (G3) with the PKT domain on queues an answer with result 3 while joining is not permitted, and with result 1, counted in JOIN_REFUSED with FPn bit 5, where the port has no room; else Gate decides: a node that is active is enrolled, a table with no room refuses, a G3 node that is joining is answered with the coordinator's message, and any other result is Gate's own change alone. PIB_WRITE and PIB_READ, let through, act on the attribute that is selected: writable ones are stored (STAT 0), unknown ones give STAT 1, read-only ones STAT 2 on a write; a read answers the stored value or the standard's default. Model's choices: log entries 48, 49. -/
def Obligations.PlcNetworkTables : Prop :=
  (∀ (n : Port) (node via : BitVec 16) (hops : BitVec 4) (cost : BitVec 16) (tag : BitVec 2) (s : State), s.plcUp n.val = true →
    ((SMap.find? (s.port n.val).routes node.toNat).isSome = true ∨ (s.port n.val).routes.length < 1024) →
    After (.routeFrameRx n node via hops cost tag) s (fun t =>
      SMap.find? (t.port n.val).routes node.toNat = some ⟨via.toNat, cost.toNat, hops.toNat, tag.toNat, true, s.raw⟩ ∧
      (∀ a, a ≠ node.toNat → SMap.find? (t.port n.val).routes a = SMap.find? (s.port n.val).routes a) ∧
      t.rd (F.FM_RT_CNT n.val) = t.routeCount n.val % (F.FM_RT_CNT n.val).bound ∧ Frame s { t with ports := s.ports } [F.FM_RT_CNT n.val])) ∧
  (∀ (n : Port) (node : BitVec 16) (s : State) (r : Route), SMap.find? (s.port n.val).routes node.toNat = some r →
    (r.stamp + s.routeLife n.val * 15000000000 ≤ s.raw →
      After (.routeExpire n node) s (fun t => SMap.find? (t.port n.val).routes node.toNat = some { r with valid := false } ∧
        (∀ a, a ≠ node.toNat → SMap.find? (t.port n.val).routes a = SMap.find? (s.port n.val).routes a) ∧
        t.rd (F.FM_RT_CNT n.val) = t.routeCount n.val % (F.FM_RT_CNT n.val).bound ∧ Frame s { t with ports := s.ports } [F.FM_RT_CNT n.val])) ∧
    (s.raw < r.stamp + s.routeLife n.val * 15000000000 → After (.routeExpire n node) s (fun t => Frame s t []))) ∧
  (∀ (n : Port) (eui : BitVec 64) (msg : List Byte) (s : State), s.plcUp n.val = true → s.domOn Dom.PKT = true →
    let refused := F.FP_JOIN_REFUSED n.val :: raised (Pg.FP n.val)
    let queued := fun (u t : State) (b : List Byte) => (t.port n.val).mac = (u.port n.val).mac ++ [{ typ := 3, payload := b }]
    (s.joinPermitted n.val = false →
      ((s.port n.val).pers = 1 → After (.nplJoinRequest n eui) s (fun t => queued s t (Config.joinAnswer eui.toNat 3 0) ∧ Frame s { t with ports := s.ports } [])) ∧
      ((s.port n.val).pers = 0 → After (.g3Bootstrap n eui msg) s (fun t => queued s t (Config.bootstrapEnd eui.toNat 3 0) ∧ Frame s { t with ports := s.ports } []))) ∧
    (s.joinPermitted n.val = true → s.roomFor n.val eui.toNat = false →
      ((s.port n.val).pers = 1 → After (.nplJoinRequest n eui) s (fun t => queued s t (Config.joinAnswer eui.toNat 1 0) ∧ Counted s t (F.FP_JOIN_REFUSED n.val) ∧
        Interrupt t (Pg.FP n.val) 5 ∧ Frame s { t with ports := s.ports } refused)) ∧
      ((s.port n.val).pers = 0 → After (.g3Bootstrap n eui msg) s (fun t => queued s t (Config.bootstrapEnd eui.toNat 1 0) ∧ Counted s t (F.FP_JOIN_REFUSED n.val) ∧
        Interrupt t (Pg.FP n.val) 5 ∧ Frame s { t with ports := s.ports } refused))) ∧
    (s.joinPermitted n.val = true → s.roomFor n.val eui.toNat = true →
      let u := (s.gateJoin n.val eui.toNat).2
      ((s.port n.val).pers = 1 → exec (.nplJoinRequest n eui) s = s.done (match (s.gateJoin n.val eui.toNat).1 with
        | .active i => u.enrol n.val i
        | .full => u.joinRefused n.val eui.toNat
        | _ => u)) ∧
      ((s.port n.val).pers = 0 → exec (.g3Bootstrap n eui msg) s = s.done (
        let b := fun (i : Nat) => u.macQueue n.val { typ := 3, nbr := some i, payload := Config.bootstrapAnswer eui.toNat (u.nbrKeys i).link (SMap.find? u.gate.groupKeys n.val) msg }
        match (s.gateJoin n.val eui.toNat).1 with
        | .active i => if (s.nbr i).st = NbrState.active ∧ (s.nbr i).port = n.val then b i else (b i).enrol n.val i
        | .joining i => b i
        | .full => u.joinRefused n.val eui.toNat
        | _ => u)))) ∧
  (∀ (m : Master) (n : Port) (v : Word) (s : State), s.judge m (Pg.FM n.val) 0x74 = .open → After (.pibWrite m n v) s (fun t =>
    (Config.pibAccess (s.pibAttr n.val) = 0 → SMap.find? t.pib (s.pibKey n.val) = some v.toNat ∧ t.rd (F.FM_PIB_STAT n.val) = 0 ∧
      (∀ k, k ≠ s.pibKey n.val → SMap.find? t.pib k = SMap.find? s.pib k)) ∧
    (Config.pibAccess (s.pibAttr n.val) = 1 → t.rd (F.FM_PIB_STAT n.val) = 1 ∧ t.pib = s.pib) ∧
    (1 < Config.pibAccess (s.pibAttr n.val) → t.rd (F.FM_PIB_STAT n.val) = 2 ∧ t.pib = s.pib) ∧
    Frame s { t with pib := s.pib } [F.FM_PIB_DATA n.val, F.FM_PIB_STAT n.val])) ∧
  (∀ (m : Master) (n : Port) (s : State), s.dead = false → s.pageOn (Pg.FM n.val) = true → After (.pibRead m n) s (fun t =>
    (Config.pibAccess (s.pibAttr n.val) = 1 → t.bus.rdata = [0#32] ∧ t.rd (F.FM_PIB_STAT n.val) = 1) ∧
    (Config.pibAccess (s.pibAttr n.val) ≠ 1 → t.rd (F.FM_PIB_STAT n.val) = 0 ∧
      t.bus.rdata = [BitVec.ofNat 32 (SMap.getD s.pib (s.pibKey n.val) (Config.pibDefault (s.pibAttr n.val)))]) ∧ Frame s { t with bus := s.bus } [F.FM_PIB_STAT n.val]))

/-- On a SUN port: a slot start counts a beacon slot toward a pending map; with the link up it ends a wait to talk, tunes the front end to the slot's channel and then acts as member or coordinator; a coordinator does nothing more in a shared slot. A back-off that ends on a busy channel, where listening is required, counts CCA_BUSY and backs off again with a longer exponent, or after MAX_CCA attempts gives up with CCA_FAIL and FYn bit 8; on an idle channel the burst goes on. A frame with a bad PHR or above 255 octets counts in RX_PHR_ERR only; one with a bad FCS stores RSSI and channel and counts in RX_ABORT and CRU.REWIND; a good one is taken. An acknowledgement of the frame that waits for it ends it; a missing one leaves one retry more, or after RETRY retries fails it, counted; BUSY keeps the frame with its back-off. Model's choices: log entries 54, 55, 56, 58, 60. -/
def Obligations.SunSlotsAndReception : Prop :=
  (∀ (n : Port) (busy : Bool) (s : State), (s.port n.val).pers = 2 → s.rd (F.FP_FSL_STAT_STATE n.val) ≠ 0 →
    let e := s.sunEc n.val
    let b := if isBeaconSlot e then s.mapBeat n.val else s
    let g := b.sunGiveUp n.val
    let u := (g.setSun n.val { g.sun n.val with evt := false }).tuneSlot n.val e (g.slotAt n.val)
    exec (.sunSlotStart n busy) s = s.done (if b.sunUp n.val then (if (u.sun n.val).member then u.memberSlot n.val e busy else u.coordSlot n.val e busy) else b) ∧
    (s.linkUp n.val = false → isBeaconSlot e = false → After (.sunSlotStart n busy) s (fun t => Frame s t [])) ∧
    (s.linkUp n.val = true → (s.sun n.val).member = false → e % 16 = 8 → (s.port n.val).bursts = [] → s.credits = [] → After (.sunSlotStart n busy) s (fun t =>
      (t.sun n.val).lbt = none ∧ (t.sun n.val).evt = false ∧ (t.sun n.val).tuned = some e ∧
      (t.port n.val).msgs.length = (s.port n.val).msgs.length + (if (s.sun n.val).tuned = some e then 0 else 1) ∧ Frame s { t with ports := s.ports } []))) ∧
  (∀ (n : Port) (s : State) (x : SunLbt), (s.sun n.val).lbt = some x → s.sunUp n.val = true → x.clear = false →
    (s.sunLt n.val ≠ 0 → x.cca + 1 < s.rdIn (F.FY_SUN_MAX_CCA n.val) 1 16 → After (.lbtBackoffEnd n true) s (fun t => Counted s t (F.FY_SUN_CCA_BUSY n.val) ∧
      (t.sun n.val).lbt = some { x with cca := x.cca + 1, be := min (x.be + 1) (s.maxBe n.val) } ∧ Frame s { t with ports := s.ports } [F.FY_SUN_CCA_BUSY n.val])) ∧
    (s.sunLt n.val ≠ 0 → s.rdIn (F.FY_SUN_MAX_CCA n.val) 1 16 ≤ x.cca + 1 → s.credits = [] → (s.port n.val).bursts = [] →
      After (.lbtBackoffEnd n true) s (fun t => Counted s t (F.FY_SUN_CCA_BUSY n.val) ∧ Counted s t (F.FY_SUN_CCA_FAIL n.val) ∧
        (t.sun n.val).lbt = none ∧ Interrupt t (Pg.FY n.val) 8 ∧ Frame s { t with ports := s.ports } ([F.FY_SUN_CCA_BUSY n.val, F.FY_SUN_CCA_FAIL n.val] ++ raised (Pg.FY n.val)))) ∧
    exec (.lbtBackoffEnd n false) s = s.done ((if s.sunLt n.val = 0 then s else s.noteCca n.val x.ch false).sunGo n.val x)) ∧
  (∀ (n : Port) (fcs : Bool) (psdu : List Byte) (level : Byte) (s : State), s.sunUp n.val = true → s.modemTested n.val = false →
    let u := ((s.setPort n.val { s.port n.val with rxEnd := (s.sunStamp n.val psdu, s.raw) }).wr (F.FY_SUN_LAST_RSSI n.val) level.toNat).wr (F.FY_SUN_LAST_CH n.val)
      (if s.scanning n.val then s.beaconCh n.val (s.sun n.val).dwellCh else s.slotCh n.val (s.sunEc n.val))
    After (.sunFrameRx n false fcs psdu level) s (fun t => Counted s t (F.FY_SUN_RX_PHR_ERR n.val) ∧ Frame s t [F.FY_SUN_RX_PHR_ERR n.val]) ∧
    (251 < psdu.length → After (.sunFrameRx n true fcs psdu level) s (fun t => Counted s t (F.FY_SUN_RX_PHR_ERR n.val) ∧ Frame s t [F.FY_SUN_RX_PHR_ERR n.val])) ∧
    (psdu.length ≤ 251 → After (.sunFrameRx n true false psdu level) s (fun t => t.rd (F.FY_SUN_LAST_RSSI n.val) = level.toNat ∧ Counted s t (F.FY_SUN_RX_ABORT n.val) ∧
      Counted s t F.CRU_REWIND ∧ Frame s { t with ports := s.ports } [F.FY_SUN_LAST_RSSI n.val, F.FY_SUN_LAST_CH n.val, F.FY_SUN_RX_ABORT n.val, F.CRU_REWIND])) ∧
    (psdu.length ≤ 251 → exec (.sunFrameRx n true true psdu level) s = s.done (u.sunFrame n.val psdu))) ∧
  (∀ (n : Port) (seq : Word) (s : State) (x : SunTx), (s.sun n.val).tx = some x → x.waitAck = true →
    (x.seq = seq.toNat →
      let u := s.sunHeard n.val x.dst
      exec (.sunAckRx n seq) s = s.done ((u.setSun n.val { u.sun n.val with tx := none }).releasePacket x.cell) ∧
      After (.sunAckRx n seq) s (fun t => (t.sun n.val).tx = none)) ∧
    (x.seq ≠ seq.toNat → After (.sunAckRx n seq) s (fun t => Frame s t [])) ∧
    (x.retries < min 7 (s.rd (F.FM_SUN_RETRY n.val)) → After (.sunAckMissing n) s (fun t =>
      t.sun n.val = { s.sun n.val with tx := some { x with waitAck := false, retries := x.retries + 1 } } ∧ Frame s { t with ports := s.ports } [])) ∧
    (min 7 (s.rd (F.FM_SUN_RETRY n.val)) ≤ x.retries →
      exec (.sunAckMissing n) s = s.done ((((s.setSun n.val { s.sun n.val with tx := none }).releasePacket x.cell).emit (.txFailed n.val)).sat (F.FM_SUN_TX_FAIL n.val)) ∧
      After (.sunAckMissing n) s (fun t => (t.sun n.val).tx = none ∧ Sent t (.txFailed n.val) ∧ Counted s t (F.FM_SUN_TX_FAIL n.val))) ∧
    (∀ backoff : BitVec 4, x.seq = seq.toNat → After (.busyRx n seq backoff) s (fun t =>
      t.sun n.val = { (s.sunHeard n.val x.dst).sun n.val with tx := some { x with waitAck := false, wait := backoff.toNat } } ∧
      ((s.sun n.val).member = true → Counted s t (F.FM_SUN_BUSY_RCVD n.val)) ∧
      Frame s { t with ports := s.ports } (if (s.sun n.val).member then [F.FM_SUN_BUSY_RCVD n.val] else []))))

/-- On a SUN port that is up: a CONNECT_RSP with result 0 in state REQUEST (2) takes address and anchor, which begins 16 slots on, state CONNECTED (3), no beacon missed; any other result, and no answer, return the member to the scan (1) without connections, silent for 8 beacon intervals, tuned to the first beacon channel. BEACON_MISSED when connected counts, and the third in a row gives RESYNC (4) with FMn bit 9. A dwell that ends while scanning tunes to the next beacon channel. SUN_SUPERVISION_TIMEOUT of a connection whose supervision time is past: a member's starts the scan, a coordinator's is erased and journaled, each counted with FMn bit 8; of one whose time is not past, nothing changes. CONNECT_REQ in a shared slot of a coordinator is answered with result 3 where nobody is admitted, 1 where the port has no room (counted, FPn bit 5), 2 where no anchor is free (counted, FMn bit 10), and a node that is active is connected and answered with 0. MAP_APPLY, let through, stores AUTO; with APPLY at a coordinator a map with too few channels is refused with FMn bit 12, and another is pending with 4 beacons to go. Model's choices: log entries 47, 57, 59, 61. -/
def Obligations.SunMembershipAndMaps : Prop :=
  (∀ (n : Port) (result : Byte) (addr anchor : BitVec 16) (e : Byte) (s : State), s.sunUp n.val = true → s.rd (F.FM_SUN_MSTATE n.val) = 2 →
    (result = 0 → After (.connectRsp n result addr anchor e) s (fun t => t.rd (F.FM_SUN_MY_ADDR n.val) = addr.toNat ∧ t.rd (F.FM_SUN_MSTATE n.val) = 3 ∧ t.rd (F.FM_SUN_MISSED n.val) = 0 ∧
      (t.sun n.val).conns = [(0, ⟨0, anchor.toNat, e.toNat, s.raw, s.sunEc n.val + 16⟩)] ∧ Frame s { t with ports := s.ports } [F.FM_SUN_MY_ADDR n.val, F.FM_SUN_MSTATE n.val, F.FM_SUN_MISSED n.val])) ∧
    (let scans := fun (t : State) => t.rd (F.FM_SUN_MSTATE n.val) = 1 ∧ (t.sun n.val).conns = [] ∧ (t.sun n.val).dwellCh = 0 ∧
        (t.sun n.val).noReqUntil = s.raw + 8 * 64 * s.esTicks n.val ∧ (t.port n.val).msgs.length = (s.port n.val).msgs.length + 1 ∧
        Frame s { t with ports := s.ports } [F.FM_SUN_MSTATE n.val];
      (result ≠ 0 → After (.connectRsp n result addr anchor e) s (fun t => scans t)) ∧ After (.connectNoAnswer n) s (fun t => scans t))) ∧
  (∀ (n : Port) (s : State), s.sunUp n.val = true → s.rd (F.FM_SUN_MSTATE n.val) = 3 → After (.beaconMissed n) s (fun t =>
    t.rd (F.FM_SUN_MISSED n.val) = min 15 (s.rd (F.FM_SUN_MISSED n.val) + 1) ∧ Counted s t (F.FM_SUN_MISSED_BCN n.val) ∧
    (s.rd (F.FM_SUN_MISSED n.val) = 2 → t.rd (F.FM_SUN_MSTATE n.val) = 4 ∧ Counted s t (F.FM_SUN_RESYNC_CNT n.val) ∧ Interrupt t (Pg.FM n.val) 9) ∧
    (s.rd (F.FM_SUN_MISSED n.val) ≠ 2 → Frame s t [F.FM_SUN_MISSED n.val, F.FM_SUN_MISSED_BCN n.val]) ∧
    Frame s { t with ports := s.ports } ([F.FM_SUN_MISSED n.val, F.FM_SUN_MISSED_BCN n.val, F.FM_SUN_MSTATE n.val, F.FM_SUN_RESYNC_CNT n.val] ++ raised (Pg.FM n.val)))) ∧
  (∀ (n : Port) (s : State), s.sunUp n.val = true → (s.rd (F.FM_SUN_MSTATE n.val) = 1 ∨ s.rd (F.FM_SUN_MSTATE n.val) = 4) → After (.scanDwellEnd n) s (fun t =>
    t.sun n.val = { s.sun n.val with dwellCh := ((s.sun n.val).dwellCh + 1) % (s.sun n.val).nb } ∧
    (t.port n.val).msgs = (s.port n.val).msgs ++ [(5, (s.nextMsgSlot n.val + 3) % 2 ^ 32 * 2 ^ 32 + (s.plan n.val).1 + s.beaconCh n.val (((s.sun n.val).dwellCh + 1) % (s.sun n.val).nb) * (s.plan n.val).2.1)] ∧
    Frame s { t with ports := s.ports } [])) ∧
  (∀ (n : Port) (addr : BitVec 16) (s : State),
    (∀ c, SMap.find? (s.sun n.val).conns 0 = some c → (s.sun n.val).member = true → (s.rd (F.FM_SUN_MSTATE n.val) = 3 ∨ s.rd (F.FM_SUN_MSTATE n.val) = 4) →
      (s.supOut n.val c = true → After (.sunSupervisionTimeout n addr) s (fun t =>
        t.rd (F.FM_SUN_MSTATE n.val) = 1 ∧ (t.sun n.val).conns = [] ∧ Counted s t (F.FM_SUN_CONN_LOST n.val) ∧ Interrupt t (Pg.FM n.val) 8 ∧
        Frame s { t with ports := s.ports } ([F.FM_SUN_MSTATE n.val, F.FM_SUN_CONN_LOST n.val] ++ raised (Pg.FM n.val)))) ∧
      (s.supOut n.val c = false → After (.sunSupervisionTimeout n addr) s (fun t => Frame s t []))) ∧
    (∀ c, SMap.find? (s.sun n.val).conns addr.toNat = some c → (s.sun n.val).member = false →
      (s.supOut n.val c = true → After (.sunSupervisionTimeout n addr) s (fun t =>
        (t.sun n.val).conns = SMap.erase (s.sun n.val).conns addr.toNat ∧ Counted s t (F.FM_SUN_CONN_LOST n.val) ∧ Interrupt t (Pg.FM n.val) 8 ∧
        t.jrn = (s.connJournal n.val addr.toNat c.anchor c.e false).jrn ∧
        Frame s { t with ports := s.ports, jrn := s.jrn } (F.FM_SUN_CONN_LOST n.val :: raised (Pg.FM n.val)))) ∧
      (s.supOut n.val c = false → After (.sunSupervisionTimeout n addr) s (fun t => Frame s t [])))) ∧
  (∀ (n : Port) (eui : BitVec 64) (s : State), s.sunUp n.val = true → (s.sun n.val).member = false → s.domOn Dom.PKT = true → s.sunEc n.val % 16 = 8 →
    ((s.sun n.val).netId = 0xFFFF ∨ s.joinPermitted n.val = false → exec (.connectReq n eui) s = s.done (s.connectRsp n.val 3 0 0 0)) ∧
    ((s.sun n.val).netId ≠ 0xFFFF → s.joinPermitted n.val = true →
      (s.roomFor n.val eui.toNat = false →
        exec (.connectReq n eui) s = s.done (((s.sat (F.FP_JOIN_REFUSED n.val)).raise (Pg.FP n.val) 5).connectRsp n.val 1 0 0 0)) ∧
      (s.roomFor n.val eui.toNat = true → s.nbrByEui eui.toNat = none → s.freeAnchor n.val (s.sun n.val).ciExp = none →
        exec (.connectReq n eui) s = s.done (((s.sat (F.FM_SUN_SCHED_FULL n.val)).raise (Pg.FM n.val) 10).connectRsp n.val 2 0 0 0)) ∧
      (∀ i, s.nbrByEui eui.toNat = some i → (s.nbr i).st = .active → (s.nbr i).port = n.val → s.roomFor n.val eui.toNat = true → SMap.find? (s.sun n.val).conns (s.nbr i).short = none →
        ∀ a, s.freeAnchor n.val (s.sun n.val).ciExp = some a →
          exec (.connectReq n eui) s = s.done ((s.connect n.val (s.nbr i).short a (s.sun n.val).ciExp).connectRsp n.val 0 (s.nbr i).short a (s.sun n.val).ciExp)))) ∧
  (∀ (m : Master) (n : Port) (v : Word) (s : State), s.judge m (Pg.FM n.val) 0x244 = .open →
    (bit v 0 = false ∨ (s.port n.val).pers ≠ 2 ∨ (s.sun n.val).member = true ∨ s.rd (F.FP_FSL_STAT_STATE n.val) = 0 →
      After (.mapApply m n v) s (fun t => t.rd (F.FM_SUN_MAP_CTL_AUTO n.val) = bits v 1 1 ∧ Frame s t [F.FM_SUN_MAP_CTL_AUTO n.val])) ∧
    (bit v 0 = true → s.rd (F.FP_FSL_STAT_STATE n.val) ≠ 0 → (s.port n.val).pers = 2 → (s.sun n.val).member = false →
      (mapCount (s.trimMap n.val (s.mapWords (F.FM_SUN_CHMAP n.val))) < (s.sunLimits n.val).minCh → After (.mapApply m n v) s (fun t =>
        t.rd (F.FM_SUN_MAP_CTL_AUTO n.val) = bits v 1 1 ∧ Interrupt t (Pg.FM n.val) 12 ∧ Frame s t (F.FM_SUN_MAP_CTL_AUTO n.val :: raised (Pg.FM n.val)))) ∧
      ((s.sunLimits n.val).minCh ≤ mapCount (s.trimMap n.val (s.mapWords (F.FM_SUN_CHMAP n.val))) → After (.mapApply m n v) s (fun t =>
        t.rd (F.FM_SUN_MAP_CTL_AUTO n.val) = bits v 1 1 ∧ t.rd (F.FM_SUN_MAP_PEND n.val) = 1 ∧
        ((t.sun n.val).pend.map (fun p => (p.map, p.left))) = some (s.trimMap n.val (s.mapWords (F.FM_SUN_CHMAP n.val)), 4) ∧
        Frame s { t with ports := s.ports } [F.FM_SUN_MAP_CTL_AUTO n.val, F.FM_SUN_MAP_PEND n.val]))))

/-- A write of NBR_CMD that is let through. CREATE of an EUI that an entry holds ends with RES 3 and its index; with every entry in use with RES 2 and bit TABLE_FULL; else the lowest FREE index gets a PRESET entry made by CREATE, with no keys. FIND ends with RES 1 and the index, or RES 4. UNBIND of an ACTIVE entry makes it PRESET without port and short address; BLOCK of an entry that is not FREE makes it BLOCKED; UNBLOCK makes a BLOCKED entry ACTIVE where it is bound and holds a link key, else PRESET unbound; FREE erases entry and keys. Each writes a GATE journal record and ends with RES 1, and leaves every other entry alone; in the wrong state, or on a link entry, it ends with RES 5 and nothing else. A read of NBR_DATA0 answers the first word of the selected record and puts the other 15 into the master's shadow. Model's choices: log entries 51, 52. -/
def Obligations.NeighbourCommands : Prop :=
  (∀ (m : Master) (v : Word) (s : State), s.judge m Pg.GTE 0x64 = .open → bits v 2 0 = 1 →
    (∀ i, s.nbrByEui s.nbrEui = some i → After (.nbrCreate m v) s (fun t => t.rd F.GTE_NBR_STAT_RES = 3 ∧ t.rd F.GTE_NBR_STAT_IDX = i ∧ Frame s t [F.GTE_NBR_STAT_RES, F.GTE_NBR_STAT_IDX])) ∧
    (s.nbrByEui s.nbrEui = none → s.freeIdx = none → After (.nbrCreate m v) s (fun t => t.rd F.GTE_NBR_STAT_RES = 2 ∧ Interrupt t Pg.GTE 7 ∧ Frame s t (F.GTE_NBR_STAT_RES :: raised Pg.GTE))) ∧
    (∀ i, s.nbrByEui s.nbrEui = none → s.freeIdx = some i → After (.nbrCreate m v) s (fun t => t.rd F.GTE_NBR_STAT_RES = 1 ∧ t.rd F.GTE_NBR_STAT_IDX = i ∧
      t.nbr i = { eui := s.nbrEui, st := .preset, flow := (s.enterNode 0 i).flowOf i, created := true, changed := true } ∧ t.nbrKeys i = {} ∧
      (∀ j, j ≠ i → t.nbr j = s.nbr j ∧ t.nbrKeys j = s.nbrKeys j) ∧ Journaled s t 6 (gateBody i (t.nbr i)) ∧
      Frame s { t with gate := s.gate, chn := s.chn, jrn := s.jrn } [F.GTE_NBR_STAT_RES, F.GTE_NBR_STAT_IDX, F.CHN_NODES_USED]))) ∧
  (∀ (m : Master) (v : Word) (s : State), s.judge m Pg.GTE 0x64 = .open → bits v 2 0 = 6 →
    (∀ i, s.nbrByEui s.nbrEui = some i → After (.nbrFind m v) s (fun t => t.rd F.GTE_NBR_STAT_RES = 1 ∧ t.rd F.GTE_NBR_STAT_IDX = i ∧ Frame s t [F.GTE_NBR_STAT_RES, F.GTE_NBR_STAT_IDX])) ∧
    (s.nbrByEui s.nbrEui = none → After (.nbrFind m v) s (fun t => t.rd F.GTE_NBR_STAT_RES = 4 ∧ Frame s t [F.GTE_NBR_STAT_RES]))) ∧
  (∀ (m : Master) (v : Word) (s : State), s.judge m Pg.GTE 0x64 = .open →
    let i := s.rd F.GTE_NBR_SEL
    let x := s.nbr i
    let kept := fun (t : State) => t.rd F.GTE_NBR_STAT_RES = 1 ∧ t.gate.keys = s.gate.keys ∧ (∀ j, j ≠ i → t.nbr j = s.nbr j) ∧
      Journaled s t 6 (gateBody i (t.nbr i)) ∧ Frame s { t with gate := s.gate, jrn := s.jrn } [F.GTE_NBR_STAT_RES]
    let wrong := fun (t : State) => t.rd F.GTE_NBR_STAT_RES = 5 ∧ Frame s t [F.GTE_NBR_STAT_RES]
    let loose : Nbr := { x with st := .preset, port := 0xFF, short := 0xFFFF, changed := true }
    (bits v 2 0 = 2 → (i < 65536 ∧ x.st = .active → After (.nbrUnbind m v) s (fun t => t.nbr i = loose ∧ kept t)) ∧
      (65536 ≤ i ∨ x.st ≠ .active → After (.nbrUnbind m v) s wrong)) ∧
    (bits v 2 0 = 3 → (i < 65536 ∧ x.st ≠ .free → After (.nbrBlock m v) s (fun t => t.nbr i = { x with st := .blocked, changed := true } ∧ kept t)) ∧
      (65536 ≤ i ∨ x.st = .free → After (.nbrBlock m v) s wrong)) ∧
    (bits v 2 0 = 4 → (i < 65536 ∧ x.st = .blocked ∧ x.port ≠ 0xFF ∧ x.lkey = true → After (.nbrUnblock m v) s (fun t => t.nbr i = { x with st := .active, changed := true } ∧ kept t)) ∧
      (i < 65536 ∧ x.st = .blocked ∧ (x.port = 0xFF ∨ x.lkey = false) → After (.nbrUnblock m v) s (fun t => t.nbr i = loose ∧ kept t)) ∧
      (65536 ≤ i ∨ x.st ≠ .blocked → After (.nbrUnblock m v) s wrong)) ∧
    (bits v 2 0 = 5 → (i < 65536 ∧ x.st ≠ .free → After (.nbrFree m v) s (fun t => t.rd F.GTE_NBR_STAT_RES = 1 ∧ t.nbr i = {} ∧ t.nbrKeys i = {} ∧
        (∀ j, j ≠ i → t.nbr j = s.nbr j ∧ t.nbrKeys j = s.nbrKeys j) ∧ Journaled s t 6 (gateBody i {}) ∧
        Frame s { t with gate := s.gate, jrn := s.jrn } [F.GTE_NBR_STAT_RES])) ∧
      (65536 ≤ i ∨ x.st = .free → After (.nbrFree m v) s wrong))) ∧
  (∀ (m : Master) (s : State), s.dead = false → s.pageOn Pg.GTE = true →
    let r := nbrRecord (s.nbr (s.rd F.GTE_NBR_SEL))
    After (.nbrRead m) s (fun t => t.bus.rdata = [BitVec.ofNat 32 (field r 0 4)] ∧
      (∀ w, w < 15 → SMap.find? t.bus.shadow (shadowKey m Pg.GTE (0x84 + 4 * w)) = some (BitVec.ofNat 32 (field r (4 * w + 4) 4))) ∧ Frame s { t with bus := s.bus } []))

/-- With PKT on, a join request of an unknown EUI is answered with result 3 where the port permits none; refused (result 1, JOIN_REFUSED, FPn bit 5) without room or a FREE entry; deferred and counted beyond the join limits; else it takes the lowest FREE entry and short address, JOINING, with bit JOIN_KEY_REQ. An ACTIVE node on its power-line port is answered with its address and FMn bit 4; a BLOCKED one not at all. A join that times out goes back to PRESET where CREATE made it, else to FREE, is counted and refused with result 4. A checkpoint journals every changed entry and clears its mark. The end of grace erases the old generation's window and keys. KEY_INSTALL: GO while BUSY gives STAT 5; without GO only SLOT is stored; a bad target gives STAT 4; a refused key slot STAT 3; else the wrapped key is unwrapped and BUSY reads 1. Its end clears BUSY with bit 5: STAT 2 where the integrity value failed; else STAT 1, a group key stored, or a node's key stored and journaled, its window or counter as it sets; a link key makes a JOINING entry ACTIVE. Model's choices: log entries 52, 53, 94. -/
def Obligations.JoinsCheckpointsAndNodeKeys : Prop :=
  (∀ (n : Port) (eui : BitVec 64) (s : State), s.domOn Dom.PKT = true →
    (s.joinPermitted n.val = false → exec (.joinRequest n eui) s = s.done (s.answerJoin n.val eui.toNat 3 0)) ∧
    (s.joinPermitted n.val = true → s.roomFor n.val eui.toNat = false ∨ (s.nbrByEui eui.toNat = none ∧ s.freeIdx = none) → After (.joinRequest n eui) s (fun t =>
      t.ports = (s.answerJoin n.val eui.toNat 1 0).ports ∧ Counted s t (F.FP_JOIN_REFUSED n.val) ∧ Interrupt t (Pg.FP n.val) 5 ∧
      Frame s { t with ports := s.ports } (F.FP_JOIN_REFUSED n.val :: raised (Pg.FP n.val)))) ∧
    (s.joinPermitted n.val = true → s.roomFor n.val eui.toNat = true → s.nbrByEui eui.toNat = none →
      (∀ i, s.freeIdx = some i → (s.rdIn F.GTE_JOIN_MAX 1 64 ≤ s.joiningAll ∨ 8 ≤ s.boundIn n.val .joining) →
        After (.joinRequest n eui) s (fun t => Counted s t F.GTE_JOIN_DEFER ∧ Frame s t [F.GTE_JOIN_DEFER])) ∧
      (∀ i, s.freeIdx = some i → s.joiningAll < s.rdIn F.GTE_JOIN_MAX 1 64 → s.boundIn n.val .joining < 8 → (s.freeShort n.val).isSome = true →
        After (.joinRequest n eui) s (fun t => some (t.nbr i).short = s.freeShort n.val ∧
          t.nbr i = { eui := eui.toNat, st := .joining, port := n.val, short := (t.nbr i).short, flow := (s.enterNode 0 i).flowOf i, changed := true } ∧
          (∀ j, j ≠ i → t.nbr j = s.nbr j) ∧ t.gate.keys = s.gate.keys ∧ Interrupt t Pg.GTE 3 ∧ Journaled s t 6 (gateBody i (t.nbr i)) ∧
          Frame s { t with gate := s.gate, chn := s.chn, jrn := s.jrn } (F.CHN_NODES_USED :: raised Pg.GTE)))) ∧
    (∀ i, s.nbrByEui eui.toNat = some i → s.joinPermitted n.val = true → s.roomFor n.val eui.toNat = true →
      ((s.nbr i).st = .active → (s.nbr i).port = n.val → After (.joinRequest n eui) s (fun t =>
        ((s.port n.val).pers ≠ 2 → t.ports = (s.answerJoin n.val (s.nbr i).eui 0 (s.nbr i).short).ports ∧ Interrupt t (Pg.FM n.val) 4) ∧
        ((s.port n.val).pers = 2 → Frame s t []) ∧ Frame s { t with ports := s.ports } (raised (Pg.FM n.val)))) ∧
      ((s.nbr i).st = .blocked → After (.joinRequest n eui) s (fun t => Frame s t [])))) ∧
  (∀ (idx : BitVec 16) (s : State), (s.nbr idx.toNat).st = .joining →
    let x := s.nbr idx.toNat
    After (.joinTimeout idx) s (fun t => Counted s t F.GTE_JOIN_TIMEOUT ∧ Interrupt t Pg.GTE 4 ∧ t.ports = (s.answerJoin x.port x.eui 4 0).ports ∧
      (x.created = true → t.nbr idx.toNat = { x with st := .preset, changed := true } ∧ t.gate.keys = s.gate.keys) ∧
      (x.created = false → t.nbr idx.toNat = {} ∧ t.nbrKeys idx.toNat = {}) ∧ (∀ j, j ≠ idx.toNat → t.nbr j = s.nbr j ∧ t.nbrKeys j = s.nbrKeys j) ∧
      Journaled s t 6 (gateBody idx.toNat (t.nbr idx.toNat)) ∧
      Frame s { t with gate := s.gate, jrn := s.jrn, ports := s.ports } (F.GTE_JOIN_TIMEOUT :: raised Pg.GTE))) ∧
  (∀ s : State, s.domOn Dom.PKT = true → After .gateCheckpoint s (fun t => (∀ i, t.nbr i = { s.nbr i with changed := false }) ∧
    t.jrn = ((s.gate.nbr.filter (fun e => e.2.changed)).foldl (fun u e => u.gateJournal e.1) s).jrn ∧
    t.jrn.tail.length = s.jrn.tail.length + (s.gate.nbr.filter (fun e => e.2.changed)).length ∧ Frame s { t with gate := s.gate, jrn := s.jrn } [])) ∧
  (∀ (idx : BitVec 16) (s : State), (s.nbr idx.toNat).st ≠ .free →
    let x := s.nbr idx.toNat
    (x.grace = true → x.gen ≤ 1 → After (.rollGraceEnd idx) s (fun t =>
      t.nbr idx.toNat = { x with grace := false, oldTop := 0, oldMap := 0, ag0 := x.ag0 && decide (x.gen = 0), ag1 := x.ag1 && decide (x.gen = 1), changed := true } ∧
      (x.gen = 1 → t.nbrKeys idx.toNat = { s.nbrKeys idx.toNat with up0 := none, dn0 := none }) ∧ (x.gen = 0 → t.nbrKeys idx.toNat = { s.nbrKeys idx.toNat with up1 := none, dn1 := none }) ∧
      (∀ j, j ≠ idx.toNat → t.nbr j = s.nbr j ∧ t.nbrKeys j = s.nbrKeys j) ∧ Frame s { t with gate := s.gate } [])) ∧
    (x.grace = false → After (.rollGraceEnd idx) s (fun t => Frame s t []))) ∧
  (∀ (m : Master) (machine : Bool) (v : Word) (s : State), s.judge m Pg.GTE 0xEC = .open →
    (s.gate.inst.isSome = true → bit v 31 = true → After (.keyInstall m machine v) s (fun t => t.rd F.GTE_INST_STAT = 5 ∧ Frame s t [F.GTE_INST_STAT])) ∧
    (s.gate.inst = none → bit v 31 = false → After (.keyInstall m machine v) s (fun t => t.rd F.GTE_INST_CTL_SLOT = bits v 7 0 ∧ Frame s t [F.GTE_INST_CTL_SLOT])) ∧
    (s.gate.inst = none → bit v 31 = true → s.instTarget = false → After (.keyInstall m machine v) s (fun t => t.rd F.GTE_INST_CTL_SLOT = bits v 7 0 ∧ t.rd F.GTE_INST_STAT = 4 ∧
      Interrupt t Pg.GTE 5 ∧ Frame s t ([F.GTE_INST_CTL_SLOT, F.GTE_INST_STAT] ++ raised Pg.GTE))) ∧
    (s.gate.inst = none → bit v 31 = true → s.instTarget = true →
      let u := s.wr F.GTE_INST_CTL_SLOT (bits v 7 0)
      let d := u.keyDeny (bits v 7 0) (invoker m) Use.NODE_UNWRAP
      let i := s.rd F.GTE_INST_TGT_IDX
      (u.keyAllows (bits v 7 0) (invoker m) (secureWrite m machine) Use.NODE_UNWRAP = false → After (.keyInstall m machine v) s (fun t =>
        t.rd F.GTE_INST_STAT = 3 ∧ Interrupt t Pg.GTE 5 ∧ Frame d t (F.GTE_INST_STAT :: raised Pg.GTE))) ∧
      (u.keyAllows (bits v 7 0) (invoker m) (secureWrite m machine) Use.NODE_UNWRAP = true → After (.keyInstall m machine v) s (fun t =>
        t.rd F.GTE_INST_CTL_BUSY = 1 ∧ t.gate = { s.gate with inst := some ⟨if s.rd F.GTE_INST_TGT_KEY = 5 then i % 64 else i, s.rd F.GTE_INST_TGT_KEY,
          Config.unwrap (u.keyOf (bits v 7 0)) (((List.range 10).flatMap (fun j => be 4 (s.rd (F.GTE_INST_WRAP j)))).take (if s.on F.GTE_INST_TGT_K256 then 40 else 24))⟩ } ∧
        Frame s { t with gate := s.gate } [F.GTE_INST_CTL_SLOT, F.GTE_INST_CTL_BUSY])))) ∧
  (∀ (s : State) (x : Install), s.gate.inst = some x → After .keyInstallDone s (fun t => t.gate.inst = none ∧ t.rd F.GTE_INST_CTL_BUSY = 0 ∧ Interrupt t Pg.GTE 5 ∧
    (x.key = none → t.rd F.GTE_INST_STAT = 2 ∧ t.gate = { s.gate with inst := none } ∧ Frame s { t with gate := s.gate } ([F.GTE_INST_CTL_BUSY, F.GTE_INST_STAT] ++ raised Pg.GTE)) ∧
    (∀ key, x.key = some key → t.rd F.GTE_INST_STAT = 1 ∧
      (x.kind = 5 → t.gate = { s.gate with inst := none, groupKeys := SMap.set s.gate.groupKeys x.idx key } ∧
        Journaled s t 6 (be 3 (0x20040 + x.idx) ++ Config.wrap s.sec.kek key) ∧ Frame s { t with gate := s.gate, jrn := s.jrn } ([F.GTE_INST_CTL_BUSY, F.GTE_INST_STAT] ++ raised Pg.GTE)) ∧
      (x.kind ≠ 5 → ((s.nbr x.idx).st ≠ .free ∨ 65536 ≤ x.idx) → x.kind = 0 ∨ (s.nbr x.idx).grace = false →
        t.nbrKeys x.idx = (s.nbrKeys x.idx).put x.kind key ∧ t.nbr x.idx = { (s.nbr x.idx).keyed x.kind with changed := true } ∧
        (∀ j, j ≠ x.idx → t.nbr j = s.nbr j ∧ t.nbrKeys j = s.nbrKeys j) ∧
        Journaled s t 6 (gateBody x.idx (t.nbr x.idx) ++ be 1 x.kind ++ Config.wrap s.sec.kek key) ∧
        (x.kind = 0 → t.nbrKeys x.idx = { s.nbrKeys x.idx with link := some key } ∧
          t.nbr x.idx = { s.nbr x.idx with lkey := true, ltop := 0, lmap := 0, warned := false, st := if (s.nbr x.idx).st = .joining then .active else (s.nbr x.idx).st, changed := true }) ∧
        (x.kind = 0 → (s.nbr x.idx).st = .joining → (s.port (s.nbr x.idx).port).pers ≠ 2 →
          t.ports = (s.answerJoin (s.nbr x.idx).port (s.nbr x.idx).eui 0 (s.nbr x.idx).short).ports ∧ Interrupt t (Pg.FM (s.nbr x.idx).port) 4) ∧
        Frame s { t with gate := s.gate, jrn := s.jrn, ports := s.ports } ([F.GTE_INST_CTL_BUSY, F.GTE_INST_STAT] ++ raised Pg.GTE ++ raised (Pg.FM (s.nbr x.idx).port))))))

/-- With PKT on, a writer without an open packet: at a closed queue the rewind is counted and nothing waits; with XOFF, back-pressure of its class or too few FREE cells it waits, last in order; else it gets a context with its cells reserved: MAXC, or for an internal writer the FREE cells up to 256; at the first word or when it waited. A commit that needs more than 256 cells or its reservation counts OVERSIZE with bit 5 and rewinds; else header and payload are written into its cells, the packet follows its queue's tail (one packet and one QSEQ more), the context closes and COMMIT_CNT advances. A rewind closes the context, frees its cells, is counted and leaves the memory alone; one of a writer that waits ends the wait and is counted; a release frees the cells of a held packet. A freed cell that never held an uncorrectable word is FREE. Model's choices: log entries 12, 13. -/
def Obligations.PacketWriters : Prop :=
  (∀ (w : Fin 89) (q0 : Fin 1024) (s : State), s.domOn Dom.PKT = true → SMap.find? s.cru.ctx w.val = none → (w.val < 69 ∨ 72 ≤ q0.val) →
    let q := writerQueue w.val q0.val
    let c := writerClass w.val
    let out := s.cru.waiting.filter (fun x => x.1 != w.val)
    (s.queueOpen q = false → After (.packetStart w q0) s (fun t => Counted s t F.CRU_REWIND ∧ t.cru.waiting = out ∧ t.cru.links = s.cru.links ∧ t.cru.queues = s.cru.queues ∧
      t.cru.pool = s.cru.pool ∧ SMap.find? t.cru.ctx w.val = none ∧ Frame s { t with cru := s.cru } [F.CRU_REWIND])) ∧
    (s.queueOpen q = true → ((s.queue q).xoff = true ∨ s.heldBack c = true ∨ s.cruFree < s.resvFor c) → After (.packetStart w q0) s (fun t =>
      t.cru = { s.cru with waiting := out ++ [(w.val, q)] } ∧ Frame s { t with cru := s.cru } [])) ∧
    (s.queueOpen q = true → (s.queue q).xoff = false → s.heldBack c = false → s.resvFor c ≤ s.cruFree → After (.packetStart w q0) s (fun t =>
      t.cru = { s.cru with ctx := SMap.set s.cru.ctx w.val ⟨q, c, if c = 5 then max 1 (min 256 s.cruFree) else s.maxC c, []⟩, waiting := out, bp := t.cru.bp, drain := t.cru.drain } ∧
      Frame s { t with cru := s.cru, chn := { t.chn with pausing := s.chn.pausing } } freeFields))) ∧
  (∀ (w : Fin 89) (s : State) (e : Nat × Nat), s.cru.waiting.find? (fun x => x.1 == w.val) = some e → SMap.find? s.cru.ctx w.val = none → (w.val < 69 ∨ 72 ≤ e.2) →
    let q := writerQueue w.val e.2
    let c := writerClass w.val
    s.queueOpen q = true → (s.queue q).xoff = false → s.heldBack c = false → s.resvFor c ≤ s.cruFree → After (.reservationWaitEnd w) s (fun t =>
      t.cru = { s.cru with ctx := SMap.set s.cru.ctx w.val ⟨q, c, s.resvFor c, []⟩, waiting := s.cru.waiting.filter (fun x => x.1 != w.val), bp := t.cru.bp, drain := t.cru.drain } ∧
      Frame s { t with cru := s.cru, chn := { t.chn with pausing := s.chn.pausing } } freeFields)) ∧
  (∀ (w : Fin 89) (payload : List Byte) (stamp : Nat) (qual : Byte) (srcInfo : List Byte) (s : State) (c : WCtx), SMap.find? s.cru.ctx w.val = some c →
    let n := cellsFor payload.length
    (256 < n ∨ c.resv < n → After (.packetCommit w payload stamp qual srcInfo) s (fun t => Counted s t F.CRU_OVERSIZE ∧ Counted s t F.CRU_REWIND ∧ Interrupt t Pg.CRU 5 ∧
      SMap.find? t.cru.ctx w.val = none ∧ t.cru.pool = s.cru.pool ∧ t.cru.queues = s.cru.queues ∧
      Frame s { t with cru := s.cru, chn := { t.chn with pausing := s.chn.pausing }, retired := s.retired } ([F.CRU_OVERSIZE, F.CRU_REWIND] ++ freeFields ++ retireFields))) ∧
    (∀ r, s.takeCells (n - c.cells.length) c.cells = some r → n ≤ 256 → n ≤ c.resv → After (.packetCommit w payload stamp qual srcInfo) s (fun t =>
      t.cru.pool = poolWriteBytes r.1 s.cru.pool 0
        (headerBytes payload.length (writerSrc w.val) (writerSidx w.val) stamp qual.toNat 0 n (if w.val < 64 then s.frameFlow w.val ((field srcInfo 6 1).testBit 0) payload else 0)
          (s.queue c.queue).qseq srcInfo ++ payload) ∧
      SMap.find? t.cru.ctx w.val = none ∧ (t.queue c.queue).pkts = (s.queue c.queue).pkts + 1 ∧ (t.queue c.queue).qseq = ((s.queue c.queue).qseq + 1) % 2 ^ 32 ∧
      (t.queue c.queue).tail = r.1.getLastD 0xFFFF ∧ (t.queue c.queue).cells = (s.queue c.queue).cells + r.1.length ∧
      ((s.queue c.queue).head = 0xFFFF → (t.queue c.queue).head = r.1.headD 0xFFFF) ∧ ((s.queue c.queue).head ≠ 0xFFFF → (t.queue c.queue).head = (s.queue c.queue).head) ∧
      (∀ k, k ≠ c.queue → t.queue k = s.queue k) ∧ t.rd F.CRU_COMMIT_CNT = (s.rd F.CRU_COMMIT_CNT + 1) % F.CRU_COMMIT_CNT.bound ∧
      Frame s { t with cru := s.cru, chn := { t.chn with pausing := s.chn.pausing } } (F.CRU_COMMIT_CNT :: freeFields)))) ∧
  (∀ (w : Fin 89) (s : State),
    (∀ c, SMap.find? s.cru.ctx w.val = some c → After (.packetRewind w) s (fun t => Counted s t F.CRU_REWIND ∧ SMap.find? t.cru.ctx w.val = none ∧
      (∀ d ∈ c.cells, d ∉ s.cru.ue → t.link d = {}) ∧ t.cru.pool = s.cru.pool ∧ t.cru.queues = s.cru.queues ∧
      Frame s { t with cru := s.cru, chn := { t.chn with pausing := s.chn.pausing }, retired := s.retired } (F.CRU_REWIND :: freeFields ++ retireFields))) ∧
    (SMap.find? s.cru.ctx w.val = none → s.cru.waiting.any (fun x => x.1 == w.val) = true → After (.packetRewind w) s (fun t => Counted s t F.CRU_REWIND ∧
      t.cru.waiting = s.cru.waiting.filter (fun x => x.1 != w.val) ∧ t.cru.links = s.cru.links ∧ t.cru.pool = s.cru.pool ∧ t.cru.queues = s.cru.queues ∧
      Frame s { t with cru := s.cru } [F.CRU_REWIND]))) ∧
  (∀ (cell : BitVec 16) (s : State), ((s.link cell.toNat).st = .held → After (.packetRelease cell) s (fun t =>
      (∀ d ∈ s.pktCells cell.toNat, d ∉ s.cru.ue → t.link d = {}) ∧ t.cru.pool = s.cru.pool ∧ t.cru.queues = s.cru.queues ∧ t.cru.ctx = s.cru.ctx ∧
      Frame s { t with cru := s.cru, chn := { t.chn with pausing := s.chn.pausing }, retired := s.retired } (freeFields ++ retireFields))) ∧
    ((s.link cell.toNat).st ≠ .held → After (.packetRelease cell) s (fun t => Frame s t [])))

/-- FLUSH, let through, releases the packets of a disabled queue from its head, each counted in FLUSHED, and does nothing to an enabled one. RECOVER of a queue in FAULT keeps the whole packets before the break, counts the others in POISON_DROP and clears FAULT. A scrub pass, when enabled, advances SCRUB_PASSES; a corrected word counts in its bank and in ERR_CORR; an uncorrectable word of a live cell counts in ERR_UNC with bits 2 and 31, marks the cell and POISONs its packet's header; an uncorrectable link puts the queue that holds the cell into FAULT with bit 3. GO of a drain ends with RESULT 3 where another bank drains or is isolated or FREE would fall below the bound; else the bank drains, BUSY reads 1. A relocation copies a cell that is not pinned to a free cell elsewhere and counts it in MOVED. A drained bank without live cells is isolated with RESULT 1; a time-out with live cells reopens it with RESULT 2. RELEASE zeroes the isolated bank, frees its cells and ends with RESULT 5. Model's choices: log entries 62, 63, 65. -/
def Obligations.QueuesScrubbingAndBanks : Prop :=
  (∀ (m : Master) (v : Word) (s : State), s.judge m Pg.CRU 0x320 = .open →
    let q := s.rd F.CRU_QSEL
    (bits v 1 0 = 1 → s.on (F.CRU_QCFG_EN q) = true → After (.queueFlush m v) s (fun t => Frame s t [])) ∧
    (∀ r, s.popQueue q = some r → bits v 1 0 = 1 → s.on (F.CRU_QCFG_EN q) = false → 0 < (s.queue q).pkts →
      ((s.queue q).pkts = 1 → After (.queueFlush m v) s (fun t => Counted s t F.CRU_FLUSHED ∧ t.queue q = r.2.queue q ∧ (∀ d ∈ r.2.pktCells r.1, d ∉ s.cru.ue → t.link d = {}) ∧
        Frame s { t with cru := s.cru, chn := { t.chn with pausing := s.chn.pausing }, retired := s.retired } (F.CRU_FLUSHED :: freeFields ++ retireFields))) ∧
      exec (.queueFlush m v) s = s.done (((r.2.releasePacket r.1).sat F.CRU_FLUSHED).flushQueue q ((s.queue q).pkts - 1))) ∧
    (bits v 1 0 = 2 → (s.queue q).fault = false → After (.queueRecover m v) s (fun t => Frame s t [])) ∧
    (bits v 1 0 = 2 → (s.queue q).fault = true →
      let cells := wholePackets s.cru.links (queueCells s.cru.links 65536 (s.queue q).head)
      let kept := (cells.filter (fun c => (s.link c).eop)).length
      After (.queueRecover m v) s (fun t =>
        t.queue q = { s.queue q with head := cells.headD 0xFFFF, tail := cells.getLastD 0xFFFF, cells := cells.length, pkts := kept, fault := false, xoff := (t.queue q).xoff } ∧
        (s.rd (F.CRU_QWM_HIGH q) = 0 → (t.queue q).xoff = false) ∧
        (∀ j, j ≠ q → t.queue j = s.queue j) ∧ t.rd F.CRU_POISON_DROP = min (s.rd F.CRU_POISON_DROP + ((s.queue q).pkts - kept)) (F.CRU_POISON_DROP.bound - 1) ∧ t.cru.pool = s.cru.pool ∧
        Frame s { t with cru := s.cru, chn := { t.chn with pausing := s.chn.pausing }, retired := s.retired } (F.CRU_POISON_DROP :: freeFields ++ retireFields)))) ∧
  (∀ s : State, s.on F.CRU_CTL_SCRUB_EN = true → s.domOn Dom.PKT = true →
    let passed := fun (t : State) => t.rd F.CRU_SCRUB_PASSES = (s.rd F.CRU_SCRUB_PASSES + 1) % F.CRU_SCRUB_PASSES.bound
    (∀ k : Fin 16, After (.scrubPass [k] [] []) s (fun t => passed t ∧ Counted s t (F.CRU_BANK_CE k.val) ∧ Counted s t (F.ERR_CORR Pg.CRU) ∧
      Frame s t [F.CRU_SCRUB_PASSES, F.CRU_BANK_CE k.val, F.ERR_CORR Pg.CRU])) ∧
    (∀ c : BitVec 16, (s.link c.toNat).st ≠ .free → After (.scrubPass [] [c] []) s (fun t => passed t ∧ Counted s t (F.ERR_UNC Pg.CRU) ∧ Interrupt t Pg.CRU 2 ∧ Interrupt t Pg.CRU 31 ∧ c.toNat ∈ t.cru.ue ∧
      poolRead t.cru.pool (firstOf s.cru.links 256 c.toNat * 256 + 13) = poolRead s.cru.pool (firstOf s.cru.links 256 c.toNat * 256 + 13) ||| 1#8 ∧
      (∀ a, a ≠ firstOf s.cru.links 256 c.toNat * 256 + 13 → poolRead t.cru.pool a = poolRead s.cru.pool a) ∧ t.cru.links = s.cru.links ∧
      Frame s { t with cru := s.cru, fresh := s.fresh } ([F.CRU_SCRUB_PASSES, F.ERR_UNC Pg.CRU, F.CRU_UE_LOG_VALID, F.CRU_UE_LOG_KIND, F.CRU_UE_LOG_CELL, F.CRU_UE_LOG_WORD] ++ raised Pg.CRU))) ∧
    (∀ c : BitVec 16, ∀ e, List.find? (fun e : Nat × CQueue => (queueCells s.cru.links e.2.cells e.2.head).contains c.toNat) s.cru.queues = some e →
      After (.scrubPass [] [] [c]) s (fun t => passed t ∧ Counted s t (F.ERR_UNC Pg.CRU) ∧ Interrupt t Pg.CRU 2 ∧ Interrupt t Pg.CRU 3 ∧ t.link c.toNat = { s.link c.toNat with bad := true } ∧
      t.queue e.1 = { e.2 with fault := true } ∧ t.cru.pool = s.cru.pool ∧
      Frame s { t with cru := s.cru, fresh := s.fresh } ([F.CRU_SCRUB_PASSES, F.ERR_UNC Pg.CRU, F.CRU_UE_LOG_VALID, F.CRU_UE_LOG_KIND, F.CRU_UE_LOG_CELL, F.CRU_UE_LOG_WORD] ++ raised Pg.CRU)))) ∧
  (∀ (m : Master) (v : Word) (s : State), s.judge m Pg.CRU 0x180 = .open →
    let k := bits v 3 0
    (bit v 9 = false → bit v 8 = true → (s.cru.drain.isSome = true ∨ s.cru.isolated.isSome = true ∨ s.cruFree - s.bankFree k < s.drainBound) → After (.bankDrain m v) s (fun t =>
      t.rd F.CRU_DRAIN_STAT_RESULT = 3 ∧ t.rd F.CRU_DRAIN_STAT_BUSY = b2n s.cru.drain.isSome ∧ Interrupt t Pg.CRU 4 ∧
      Frame s t ([F.CRU_DRAIN_STAT_RESULT, F.CRU_DRAIN_STAT_BUSY] ++ raised Pg.CRU))) ∧
    (bit v 9 = false → bit v 8 = true → s.cru.drain = none → s.cru.isolated = none → s.drainBound ≤ s.cruFree - s.bankFree k →
      exec (.bankDrain m v) s = s.done ((((({ s with cru := { s.cru with drain := some k } }).wr F.CRU_DRAIN_STAT_BUSY 1).wr F.CRU_DRAIN_STAT_MOVED 0).wr F.CRU_DRAIN_STAT_RESULT 0).cruSync) ∧
      After (.bankDrain m v) s (fun t => t.rd F.CRU_DRAIN_STAT_MOVED = 0 ∧ t.cru = { s.cru with drain := t.cru.drain, bp := t.cru.bp } ∧
        Frame s { t with cru := s.cru, chn := { t.chn with pausing := s.chn.pausing } } (F.CRU_DRAIN_STAT_MOVED :: freeFields))) ∧
    (bit v 9 = true → bit v 8 = false → s.cru.isolated = none → After (.bankRelease m v) s (fun t => Frame s t [])) ∧
    (∀ b, bit v 9 = true → bit v 8 = false → s.cru.isolated = some b → s.cru.drain = none → After (.bankRelease m v) s (fun t => t.cru.isolated = none ∧ t.rd F.CRU_DRAIN_STAT_RESULT = 5 ∧
      t.rd F.CRU_DRAIN_STAT_BUSY = 0 ∧ Interrupt t Pg.CRU 4 ∧
      (∀ a, a / 256 % 16 = b → poolRead t.cru.pool a = 0) ∧ (∀ a, a / 256 % 16 ≠ b → poolRead t.cru.pool a = poolRead s.cru.pool a) ∧
      (∀ c, c % 16 = b → t.link c = {} ∧ c ∉ t.cru.ue) ∧ (∀ c, c % 16 ≠ b → t.link c = s.link c) ∧ t.cru.queues = s.cru.queues ∧
      Frame s { t with cru := s.cru, chn := { t.chn with pausing := s.chn.pausing } } freeFields))) ∧
  (∀ (s : State) (k : Nat), s.cru.drain = some k →
    (exec .drainRelocate s = s.done (((s.cru.links.filter (fun e => e.1 % 16 == k && e.2.st != .free)).map (fun e => e.1)).foldl (fun u c => match u.takeCell with | some r => (if u.cellPinned c then u else (r.2.moveCell c r.1).addSat F.CRU_DRAIN_STAT_MOVED 1) | none => u) s)) ∧
    ((∀ e ∈ s.cru.links, e.1 % 16 = k → e.2.st ≠ .free → s.cellPinned e.1 = true) → After .drainRelocate s (fun t => Frame s t [])) ∧
    (s.bankLive k = 0 → After .drainEmpty s (fun t => t.cru = { s.cru with drain := none, isolated := some k } ∧ t.rd F.CRU_DRAIN_STAT_RESULT = 1 ∧ t.rd F.CRU_DRAIN_STAT_BUSY = 0 ∧
      Interrupt t Pg.CRU 4 ∧ Frame s { t with cru := s.cru } ([F.CRU_DRAIN_STAT_RESULT, F.CRU_DRAIN_STAT_BUSY] ++ raised Pg.CRU))) ∧
    (s.bankLive k ≠ 0 → After .drainEmpty s (fun t => Frame s t []) ∧ After .drainTimeout s (fun t => t.cru = { s.cru with drain := none, bp := t.cru.bp } ∧ t.rd F.CRU_DRAIN_STAT_RESULT = 2 ∧
      t.rd F.CRU_DRAIN_STAT_BUSY = 0 ∧ Interrupt t Pg.CRU 4 ∧ Frame s { t with cru := s.cru, chn := { t.chn with pausing := s.chn.pausing } } freeFields)))

/-- ALLOC of cells that the rules refuse sets FAIL and nothing else; else the new cells join the context, every cell of which is a host cell of this context. COMMIT of an open packet to an open queue writes header bytes 0 to 15 and 20 to 23, links the packet at the queue's tail and closes the context; a closed queue rewinds it. ABORT rewinds. POP of a queue whose consumer is HOST makes its head packet the context's and answers its first cell with bit 31; an empty queue answers 0. FREE releases a held packet of the context. A BAR2 read of a host cell answers its four bytes, first byte lowest; a write stores them and no other byte; a read elsewhere answers 0, and a write elsewhere is counted with bit 6 and changes nothing in the pool; with PKT off a read answers all ones. Commits and BAR2 writes keep the pool in its canonical form. Model's choices: log entries 62, 64, 65. -/
def Obligations.HostContextsAndPoolAccess : Prop :=
  (∀ (m : Master) (k : Fin 4) (v : Word) (s : State), s.judge m Pg.CRU (0x200 + 0x40 * k.val) = .open →
    let n := bits v 4 0
    let had := match SMap.find? s.cru.ctx (69 + k.val) with | some c => c.cells | none => []
    let refused := n == 0 || decide (16 < n) || s.classBp 3 || decide (s.rdIn F.CRU_HOST_LIM 0 8191 < had.length + s.rd (F.CRU_HCTX_STAT_HELD k.val) + n) || decide (256 < had.length + n) || decide (s.cruFree < n)
    (refused = true → After (.hctxAlloc m k v) s (fun t => t.rd (F.CRU_HCTX_STAT_FAIL k.val) = 1 ∧ Frame s t [F.CRU_HCTX_STAT_FAIL k.val])) ∧
    (∀ r, s.takeCells n [] = some r → refused = false → After (.hctxAlloc m k v) s (fun t => t.rd (F.CRU_HCTX_STAT_FAIL k.val) = 0 ∧ t.rd (F.CRU_HCTX_STAT_OPEN k.val) = 1 ∧
      t.rd (F.CRU_HCTX_STAT_CELLS k.val) = (had ++ r.1).length % (F.CRU_HCTX_STAT_CELLS k.val).bound ∧
      SMap.find? t.cru.ctx (69 + k.val) = some ⟨0, 3, (had ++ r.1).length, had ++ r.1⟩ ∧ (∀ d ∈ had ++ r.1, (t.link d).host = true ∧ (t.link d).hctx = k.val) ∧
      (∀ w, w < 8 → t.rd (F.CRU_HCTX_CELL k.val w) = (r.1.getD (2 * w) 0xFFFF * 65536 + r.1.getD (2 * w + 1) 0xFFFF) % 2 ^ 32) ∧ t.cru.pool = s.cru.pool ∧ t.cru.queues = s.cru.queues ∧
      Frame s { t with cru := s.cru, chn := { t.chn with pausing := s.chn.pausing } } ([F.CRU_HCTX_STAT_FAIL k.val, F.CRU_HCTX_STAT_OPEN k.val, F.CRU_HCTX_STAT_CELLS k.val] ++ (List.range 8).map (fun w => F.CRU_HCTX_CELL k.val w) ++ freeFields)))) ∧
  (∀ (m : Master) (k : Fin 4) (v : Word) (s : State), s.judge m Pg.CRU (0x228 + 0x40 * k.val) = .open →
    let closed := [F.CRU_HCTX_STAT_OPEN k.val, F.CRU_HCTX_STAT_CELLS k.val] ++ (List.range 8).map (fun w => F.CRU_HCTX_CELL k.val w) ++ freeFields
    (bit v 31 = false → After (.hctxCommit m k v) s (fun t => Frame s t [])) ∧
    (∀ c, SMap.find? s.cru.ctx (69 + k.val) = some c → bit v 31 = true →
      let q := bits v 25 16
      (s.queueOpen q = true → 72 ≤ q → After (.hctxCommit m k v) s (fun t =>
        t.cru.pool = poolWriteBytes c.cells (poolWriteBytes c.cells s.cru.pool 0
          ((headerBytes ((c.cells.length - 1) * 256 + bits v 7 0 + 1 - 32) 5 k.val s.raw s.tim.cur.qual.toNat 0 c.cells.length 0 0 []).take 16)) 20 (be 4 (s.queue q).qseq) ∧
        (Memory.wf s = true → Memory.wf t = true) ∧ SMap.find? t.cru.ctx (69 + k.val) = none ∧ t.rd (F.CRU_HCTX_STAT_OPEN k.val) = 0 ∧ t.rd (F.CRU_HCTX_STAT_CELLS k.val) = 0 ∧
        (t.queue q).pkts = (s.queue q).pkts + 1 ∧ (t.queue q).qseq = ((s.queue q).qseq + 1) % 2 ^ 32 ∧ (t.queue q).tail = c.cells.getLastD 0xFFFF ∧ (∀ j, j ≠ q → t.queue j = s.queue j) ∧
        t.rd F.CRU_COMMIT_CNT = (s.rd F.CRU_COMMIT_CNT + 1) % F.CRU_COMMIT_CNT.bound ∧ Frame s { t with cru := s.cru, chn := { t.chn with pausing := s.chn.pausing } } (F.CRU_COMMIT_CNT :: closed))) ∧
      (s.queueOpen q = false ∨ q < 72 → After (.hctxCommit m k v) s (fun t => Counted s t F.CRU_REWIND ∧ SMap.find? t.cru.ctx (69 + k.val) = none ∧ t.rd (F.CRU_HCTX_STAT_OPEN k.val) = 0 ∧
        t.cru.pool = s.cru.pool ∧ t.cru.queues = s.cru.queues ∧ Frame s { t with cru := s.cru, chn := { t.chn with pausing := s.chn.pausing }, retired := s.retired } (F.CRU_REWIND :: closed ++ retireFields))))) ∧
  (∀ (m : Master) (k : Fin 4) (v : Word) (s : State) (c : WCtx), SMap.find? s.cru.ctx (69 + k.val) = some c → s.judge m Pg.CRU (0x22C + 0x40 * k.val) = .open → bit v 0 = true →
    After (.hctxAbort m k v) s (fun t => Counted s t F.CRU_REWIND ∧ SMap.find? t.cru.ctx (69 + k.val) = none ∧ t.rd (F.CRU_HCTX_STAT_OPEN k.val) = 0 ∧ t.rd (F.CRU_HCTX_STAT_CELLS k.val) = 0 ∧
      (∀ d ∈ c.cells, d ∉ s.cru.ue → t.link d = {}) ∧ t.cru.pool = s.cru.pool ∧ t.cru.queues = s.cru.queues ∧
      Frame s { t with cru := s.cru, chn := { t.chn with pausing := s.chn.pausing }, retired := s.retired }
        ([F.CRU_REWIND, F.CRU_HCTX_STAT_OPEN k.val, F.CRU_HCTX_STAT_CELLS k.val] ++ (List.range 8).map (fun w => F.CRU_HCTX_CELL k.val w) ++ freeFields ++ retireFields))) ∧
  (∀ (m : Master) (k : Fin 4) (s : State), s.dead = false → s.pageOn Pg.CRU = true →
    let q := s.rd (F.CRU_HCTX_POP_Q k.val)
    (s.rd (F.CRU_QCFG_CONS q) ≠ 1 ∨ (s.popQueue q).isNone = true → After (.hctxPop m k) s (fun t => t.bus.rdata = [0#32] ∧ Frame s { t with bus := s.bus } [])) ∧
    (∀ r, s.popQueue q = some r → s.rd (F.CRU_QCFG_CONS q) = 1 → After (.hctxPop m k) s (fun t => t.bus.rdata = [BitVec.ofNat 32 (2 ^ 31 + r.1)] ∧
      t.rd (F.CRU_HCTX_STAT_HELD k.val) = (s.rd (F.CRU_HCTX_STAT_HELD k.val) + (r.2.pktCells r.1).length) % (F.CRU_HCTX_STAT_HELD k.val).bound ∧
      (∀ d ∈ r.2.pktCells r.1, (t.link d).host = true ∧ (t.link d).hctx = k.val) ∧ t.queue q = r.2.queue q ∧ t.cru.pool = s.cru.pool ∧
      Frame s { t with cru := s.cru, bus := s.bus } [F.CRU_HCTX_STAT_HELD k.val]))) ∧
  (∀ (m : Master) (k : Fin 4) (v : Word) (s : State), s.judge m Pg.CRU (0x238 + 0x40 * k.val) = .open →
    let c := bits v 15 0
    let mine := bit v 31 && (s.link c).st == .held && (s.link c).host && (s.link c).hctx == k.val
    (mine = true → After (.hctxFree m k v) s (fun t => t.rd (F.CRU_HCTX_STAT_HELD k.val) = (s.rd (F.CRU_HCTX_STAT_HELD k.val) - (s.pktCells c).length) % (F.CRU_HCTX_STAT_HELD k.val).bound ∧
      (∀ d ∈ s.pktCells c, d ∉ s.cru.ue → t.link d = {}) ∧ t.cru.pool = s.cru.pool ∧
      Frame s { t with cru := s.cru, chn := { t.chn with pausing := s.chn.pausing }, retired := s.retired } (F.CRU_HCTX_STAT_HELD k.val :: freeFields ++ retireFields))) ∧
    (mine = false → After (.hctxFree m k v) s (fun t => Frame s t []))) ∧
  (∀ (m : Master) (off : BitVec 24) (v : Word) (s : State),
    let a := off.toNat / 4 * 4
    let may := s.owner Pg.CRU == 1 && m == .smp || s.owner Pg.CRU == 0 && s.isMain m
    (s.dead = true ∨ s.domOn Dom.PKT = false → After (.bar2Access m off false v) s (fun t => t.bus.rdata = [0xFFFFFFFF#32] ∧ Frame s { t with bus := s.bus } [])) ∧
    (s.dead = false → s.domOn Dom.PKT = true →
      ((s.link (a / 256)).host = true → After (.bar2Access m off false v) s (fun t =>
        t.bus.rdata = [poolRead s.cru.pool (a + 3) ++ poolRead s.cru.pool (a + 2) ++ poolRead s.cru.pool (a + 1) ++ poolRead s.cru.pool a] ∧ Frame s { t with bus := s.bus } [])) ∧
      ((s.link (a / 256)).host = false → After (.bar2Access m off false v) s (fun t => t.bus.rdata = [0#32] ∧ Frame s { t with bus := s.bus } [])) ∧
      (may = true → (s.link (a / 256)).host = true → After (.bar2Access m off true v) s (fun t => (Memory.wf s = true → ∀ i, i < 4 → poolRead t.cru.pool (a + i) = v.extractLsb' (8 * i) 8) ∧
        (∀ b, b < a ∨ a + 4 ≤ b → poolRead t.cru.pool b = poolRead s.cru.pool b) ∧ (Memory.wf s = true → Memory.wf t = true) ∧
        t.cru = { s.cru with pool := t.cru.pool } ∧ Frame s { t with cru := s.cru } [])) ∧
      (may = false ∨ (s.link (a / 256)).host = false → After (.bar2Access m off true v) s (fun t => Counted s t F.CRU_HWIN_ERR ∧ Interrupt t Pg.CRU 6 ∧
        (s.rd F.CRU_HWIN_ERR = 0 → t.rd F.CRU_HWIN_LOG = a) ∧ (s.rd F.CRU_HWIN_ERR ≠ 0 → t.rd F.CRU_HWIN_LOG = s.rd F.CRU_HWIN_LOG) ∧ Frame s t ([F.CRU_HWIN_ERR, F.CRU_HWIN_LOG] ++ raised Pg.CRU)))))

/-- A dispatch gives the class's next task to the least loaded open executor, RUNNING, counted in DISPATCHED; T1 and T2 take the entry Gate has for them. A submission of a reserved KIND answers status 2; one without room in the flow cache waits, counted, and one with no descriptor free counts AGAIN, both answering 1; else the lowest free descriptor holds the image's task and status 0 with its index is answered. The task's code ends it: DONE frees its descriptor, and a successor whose COUNT was 1 becomes READY; FAIL frees it, cancels its successor other than RETIRE and is recorded in FAULT_LOG with cause 3, unless a record is held; YIELD makes it READY again. A first timeout makes the task READY for another core; a second ends it, counted in TIMEOUT, with cause 1. An AES_OP ends OK or FAIL; a host's writes its completion entry (status 0 or 1, the ring's index and phase) and frees the descriptor. An XFER ends OK once its packet has moved, else FAIL. RETIRE frees the packet's cells, its chain and its descriptor; a poisoned packet is counted. None of them changes anything else. Model's choices: log entries 63, 68, 70, 71, 72, 74, 126. -/
def Obligations.TasksDispatchedAndEnded : Prop :=
  (∀ (cls : Fin 9) (s : State), s.domOn Dom.PKT = true →
    let n := SMap.getD s.pln.dispatches cls.val 0 + 1
    (∀ r, s.taskNext cls.val (decide (n % s.rdIn F.PLN_CTL_FAIR_N 2 255 = 0)) = some r → ∀ x, s.laneFor cls.val r.2 = some x → After (.taskDispatch cls) s (fun t =>
      (t.desc r.1).map (fun e => ({ e with gate := r.2.gate, slot := r.2.slot } : Desc)) = some { r.2 with st := .running, exec := x } ∧ (∀ j, j ≠ r.1 → t.desc j = s.desc j) ∧
      (r.2.kind = 12 → (t.desc r.1).map (fun e => e.slot) = some (some (s.slot (r.2.arg / 2 ^ 48 % 256)))) ∧
      (1 < r.2.kind → t.gate = s.gate ∧ t.rd F.GTE_CACHE_MISS = s.rd F.GTE_CACHE_MISS) ∧ t.gate = { s.gate with cache := t.gate.cache } ∧
      t.pln = { s.pln with descs := t.pln.descs, dispatches := SMap.set s.pln.dispatches cls.val n } ∧
      t.rd F.PLN_DISPATCHED = (s.rd F.PLN_DISPATCHED + 1) % F.PLN_DISPATCHED.bound ∧ Frame s { t with pln := s.pln, gate := s.gate } [F.PLN_DISPATCHED, F.GTE_CACHE_MISS])) ∧
    ((s.taskNext cls.val (decide (n % s.rdIn F.PLN_CTL_FAIR_N 2 255 = 0))).isNone = true → After (.taskDispatch cls) s (fun t => Frame s t []))) ∧
  (∀ (core : Fin 16) (image : List Byte) (s : State), s.domOn Dom.PKT = true → s.domOn Dom.TSK = true →
    let d := s.descOfImage image
    let i := firstGap s.pln.descs 0
    (16 ≤ d.kind → After (.taskSubmit core image) s (fun t => Sent t (.submitStatus core.val 2 0) ∧ Frame s t [])) ∧
    (d.kind < 16 → s.flowRoom d.atomic d.flow = false → After (.taskSubmit core image) s (fun t => Sent t (.submitStatus core.val 1 0) ∧ Counted s t F.PLN_FLOW_WAIT ∧
      t.pln = { s.pln with flowFull := true } ∧ Frame s { t with pln := s.pln } (F.PLN_FLOW_WAIT :: raised Pg.PLN))) ∧
    (d.kind < 16 → s.flowRoom d.atomic d.flow = true → (16384 ≤ i ∨ s.internalRoom = false) → After (.taskSubmit core image) s (fun t => Sent t (.submitStatus core.val 1 0) ∧ Counted s t F.PLN_AGAIN ∧ Frame s t [F.PLN_AGAIN])) ∧
    (d.kind < 16 → s.flowRoom d.atomic d.flow = true → s.internalRoom = true → i < 16384 → s.pln.spill = [] → After (.taskSubmit core image) s (fun t => Sent t (.submitStatus core.val 0 i) ∧
      t.desc i = some { d.markLate s.pln.lastDrain with st := if d.count = 0 then .ready else .waiting, order := s.pln.order } ∧ (∀ j, j ≠ i → t.desc j = s.desc j) ∧ t.pln.nextChain = s.pln.nextChain + 1 ∧
      t.rd F.PLN_CREATED = (s.rd F.PLN_CREATED + 1) % F.PLN_CREATED.bound ∧ Frame s { t with pln := s.pln, chn := { t.chn with pausing := s.chn.pausing } } plnFields))) ∧
  (∀ (d : Fin 16384) (result : Word) (s : State) (x : Desc), s.desc d.val = some x → x.st = .running → x.ended = none → (x.kind = 9 ∨ x.kind = 14) → s.isItemTask d.val x = false → s.taskPoison x = false →
    (x.host = none → s.pln.spill = [] → After (.codeTaskDone d 0 result) s (fun t => t.desc d.val = none ∧
      (∀ j, x.succ = [j] → j ≠ d.val → j ∉ x.fans → ∀ e, s.desc j = some e → e.count = 1 → e.st = .waiting → t.desc j = some { e with count := 0, st := .ready, order := s.pln.order }) ∧
      (∀ j, j ≠ d.val → j ∉ x.fans → j ∉ x.succ → t.desc j = s.desc j) ∧ t.pln.chains = s.pln.chains ∧ Frame s { t with pln := s.pln, chn := { t.chn with pausing := s.chn.pausing } } plnFields)) ∧
    (x.host = none → s.pln.spill = [] → After (.codeTaskDone d 1 result) s (fun t => t.desc d.val = none ∧
      (∀ j ∈ x.succ, s.isRetire j = false → t.desc j = none) ∧
      (s.on F.PLN_FAULT_LOG_VALID = false → t.rd F.PLN_FAULT_LOG_VALID = 1 ∧ t.rd F.PLN_FAULT_LOG_CAUSE = 3 ∧ t.rd F.PLN_FAULT_LOG_DESC = d.val ∧ Interrupt t Pg.PLN 2) ∧
      (s.on F.PLN_FAULT_LOG_VALID = true → t.rd F.PLN_FAULT_LOG_DESC = s.rd F.PLN_FAULT_LOG_DESC) ∧ Frame s { t with pln := s.pln, chn := { t.chn with pausing := s.chn.pausing } } failFields)) ∧
    exec (.codeTaskDone d 0 result) s = s.done (s.taskEnd d.val .ok result.toNat) ∧ exec (.codeTaskDone d 1 result) s = s.done (s.taskEnd d.val .fail result.toNat) ∧
    After (.codeTaskDone d 2 result) s (fun t => t.pln = { s.pln with descs := SMap.set s.pln.descs d.val { x with st := .ready, count := 0 } } ∧ Frame s { t with pln := s.pln } [])) ∧
  (∀ (d : Fin 16384) (s : State) (x : Desc), s.desc d.val = some x → x.st = .running → x.ended = none → 11 ≤ x.exec → x.exec < 27 →
    (x.tries = 0 → After (.taskTimeout d) s (fun t => t.pln = { s.pln with descs := SMap.set s.pln.descs d.val { x with st := .ready, tries := 1 } } ∧ Frame s { t with pln := s.pln } [])) ∧
    (x.tries ≠ 0 → exec (.taskTimeout d) s = s.done (s.taskEnd d.val .timeout 0) ∧ (x.host = none → s.pln.spill = [] → After (.taskTimeout d) s (fun t => t.desc d.val = none ∧ Counted s t F.PLN_TIMEOUT ∧
      (s.on F.PLN_FAULT_LOG_VALID = false → t.rd F.PLN_FAULT_LOG_CAUSE = 1 ∧ t.rd F.PLN_FAULT_LOG_CORE = x.exec - 11 ∧ t.rd F.PLN_FAULT_LOG_DESC = d.val) ∧
      Frame s { t with pln := s.pln, chn := { t.chn with pausing := s.chn.pausing } } failFields)))) ∧
  (∀ (d : Fin 16384) (ok : Bool) (result : Word) (s : State) (x : Desc), s.runningTask d.val 10 = some x → s.taskPoison x = false →
    exec (.aesOpDone d ok result) s = s.done (s.taskEnd d.val (if ok then .ok else .fail) result.toNat) ∧
    (∀ h, x.host = some h → x.succ = [] → s.ringSize h.1 ≠ 0 → s.cqIsFull h.1 = false → s.pln.spill = [] →
      let tail := SMap.getD s.pln.cqTail h.1 0
      After (.aesOpDone d ok result) s (fun t =>
        Sent t (.completion h.1 (tail % s.ringSize h.1) x.stamp h.2 (if ok then 0 else 1) (1 - tail / s.ringSize h.1 % 2) result.toNat) ∧
        t.desc d.val = none ∧ SMap.getD t.pln.cqTail h.1 0 = tail + 1 ∧ Frame s { t with pln := s.pln, chn := { t.chn with pausing := s.chn.pausing } } failFields))) ∧
  (∀ (d : Fin 16384) (s : State) (x : Desc), s.runningTask d.val 15 = some x → s.taskPoison x = false →
    (∀ u, (s.unhost x.cell).movePacket x.cell (x.arg % 1024) = some u → x.cell ≠ 0xFFFF →
      exec (.xferDone d) s = s.done (({ u with pln := { u.pln with descs := u.pln.descs.map (fun e : Nat × Desc => if e.2.cell = x.cell then (e.1, { e.2 with cell := 0xFFFF }) else e) } }).taskEnd d.val .ok 0) ∧
      (x.host = none → s.pln.spill = [] → After (.xferDone d) s (fun t => t.desc d.val = none ∧ (t.queue (x.arg % 1024)).pkts = (s.queue (x.arg % 1024)).pkts + 1 ∧ t.cru.queues = u.cru.queues ∧ t.cru.pool = u.cru.pool ∧
        Frame s { t with pln := s.pln, cru := s.cru, chn := { t.chn with pausing := s.chn.pausing } } (F.CRU_HCTX_STAT_HELD (s.link x.cell).hctx :: plnFields)))) ∧
    (x.cell = 0xFFFF ∨ ((s.unhost x.cell).movePacket x.cell (x.arg % 1024)).isNone = true → exec (.xferDone d) s = s.done (s.taskEnd d.val .fail 0))) ∧
  (∀ (d : Fin 16384) (s : State) (x : Desc), s.runningTask d.val 7 = some x → x.host = none → s.pln.spill = [] → After (.retire d) s (fun t => t.desc d.val = none ∧
    SMap.find? t.pln.chains x.chain = none ∧ (x.cell ≠ 0xFFFF → ∀ c ∈ s.pktCells x.cell, c ∉ s.cru.ue → t.link c = {}) ∧ t.cru.pool = s.cru.pool ∧
    (s.taskPoison x = true → Counted s t F.CRU_POISON_DROP) ∧
    Frame s { t with pln := s.pln, chn := { t.chn with pausing := s.chn.pausing }, cru := s.cru, retired := s.retired } (F.CRU_POISON_DROP :: freeFields ++ retireFields ++ plnFields)))

/-- A task of a chain whose packet is poisoned ends POISON: counted, FAULT_LOG cause 2, its descriptor freed, nothing else done. Otherwise: T1 takes the link check's outcome on what Gate had at dispatch, sends the ACK asked for, notes entry and SEQ and ends OK, or FAIL; a blocked entry's frame is counted and ends the chain. T2 ends FAIL where the application check refuses the payload; else the chain is expanded from its items. T3 judges every reading item of the chain, one record each, and counts VALUES. T4 files nothing where the record is missing or the unit does no role's work; waits while 256 writes are under way, or, counted, where the journal has no room; else files the record, and with write-through keeps the task until it is in NAND. T5 accrues the record unless LEGAL is halted. T6 puts the record's leaf hash into its tree and counts the compression. T7 adds the record to its groups. The item task takes the other items in order. A SHA operation writes its digest into the packet; a PK verification ends with result 0, 1 or 2; signing writes the signature, a refused slot ends with 3. Model's choices: log entries 19, 50, 63, 71, 74, 76, 80, 127. -/
def Obligations.TasksOfAChain : Prop :=
  (∀ (d : Fin 16384) (inTime : Bool) (s : State) (x : Desc), s.desc d.val = some x → s.taskPoison x = true → x.st = .running → x.ended = none → x.host = none → s.pln.spill = [] →
    let poisoned := fun (t : State) => t.desc d.val = none ∧ Counted s t F.PLN_POISON ∧ (s.on F.PLN_FAULT_LOG_VALID = false → t.rd F.PLN_FAULT_LOG_CAUSE = 2 ∧ t.rd F.PLN_FAULT_LOG_DESC = d.val) ∧
      Frame s { t with pln := s.pln, chn := { t.chn with pausing := s.chn.pausing } } failFields;
    (x.kind = 0 → After (.linkCheck d inTime) s (fun t => poisoned t)) ∧ (x.kind = 1 → After (.decrypt d) s (fun t => poisoned t)) ∧
    (x.kind = 2 → After (.validate d) s (fun t => poisoned t)) ∧ (x.kind = 3 → x.record = none → After (.profileUpdate d) s (fun t => poisoned t)) ∧
    (x.kind = 4 → After (.tariffAccrual d) s (fun t => poisoned t)) ∧ (x.kind = 5 → After (.merkleLeaf d) s (fun t => poisoned t)) ∧
    (x.kind = 6 → After (.balanceContribution d) s (fun t => poisoned t)) ∧ (x.kind = 9 → s.isItemTask d.val x = true → After (.itemTask d) s (fun t => poisoned t)) ∧
    (x.kind = 11 → After (.shaOpDone d) s (fun t => poisoned t)) ∧ (x.kind = 12 → After (.pkOpDone d) s (fun t => poisoned t))) ∧
  (∀ (d : Fin 16384) (inTime : Bool) (s : State) (x : Desc), s.desc d.val = some x → s.taskPoison x = false → x.st = .running → x.ended = none →
    let h := s.pktBytes x.cell 0 32
    let n := field h 3 1
    let flags := field h 30 1
    let frame := s.pktPayload x.cell
    let ch := s.chain x.chain
    let quiet := x.host = none ∧ s.pln.spill = []
    let plain := fun (t : State) => t.desc d.val = none ∧ Frame s { t with pln := s.pln, chn := { t.chn with pausing := s.chn.pausing } } plnFields;
    (x.kind = 0 →
      let g := x.gate.getD (s.snapT1 n (field h 24 2) (s.frameOrig n (flags.testBit 0) frame))
      let r := s.linkCheck g (decide ((s.port n).pers = 0)) (field h 26 4) (flags.testBit 0) frame
      let u := if flags.testBit 1 then r.2.sendAck n (field h 26 4) (field h 24 2) x.stamp frame inTime else r.2;
      (r.1 = .accept → exec (.linkCheck d inTime) s = s.done ((u.setChain x.chain { u.chain x.chain with txNbr := g.idx.getD 0xFFFFFF, txSeq := field h 26 4 }).taskEnd d.val .ok 0)) ∧
      (r.1 = .dup → exec (.linkCheck d inTime) s = s.done (u.taskEnd d.val .fail 0)) ∧
      (r.1 ≠ .accept → r.1 ≠ .dup → exec (.linkCheck d inTime) s = s.done (r.2.taskEnd d.val .fail 0)) ∧
      (g.idx.isSome = true → g.nbr.st = .blocked → quiet → After (.linkCheck d inTime) s (fun t => Counted s t F.GTE_BLOCKED ∧ t.desc d.val = none ∧
        Frame s { t with pln := s.pln, chn := { t.chn with pausing := s.chn.pausing } } (F.GTE_BLOCKED :: failFields)))) ∧
    (x.kind = 1 →
      let p := s.appPayload n (flags.testBit 0) frame
      let r := s.appCheck (x.gate.getD (s.snapT2 n p)) p (if ch.txNbr < 65536 then some ch.txNbr else none)
      let it := parseItems r.1.content.length r.1.content {};
      (r.1.out ≠ .ok → exec (.decrypt d) s = s.done (r.2.taskEnd d.val .fail 0)) ∧
      (r.1.out = .ok → s.expandRoom ch (s.expandNeed ch r.1 it) = true → exec (.decrypt d) s = s.done (r.2.expandChain d.val x r.1 it)) ∧
      (r.1.out = .ok → s.expandRoom ch (s.expandNeed ch r.1 it) = false → After (.decrypt d) s (fun t => Counted s t F.PLN_AGAIN ∧ Frame s t [F.PLN_AGAIN]))) ∧
    (x.kind = 2 → quiet → After (.validate d) s (fun t => t.desc d.val = none ∧ (t.chain x.chain).vals.length = (s.chain x.chain).vals.length ∧
      (∀ v ∈ (t.chain x.chain).vals, v.record.isSome = true) ∧ t.rd F.ASY_VALUES = (s.rd F.ASY_VALUES + (s.chain x.chain).vals.length) % F.ASY_VALUES.bound ∧
      Frame s { t with pln := s.pln, chn := { t.chn with pausing := s.chn.pausing } } ([F.ASY_VALUES, F.ASY_NOT_VALID, F.ASY_DUP_SUPP] ++ (List.range 8).map (fun k => F.ASY_RULE_CNT k) ++ raised Pg.ASY ++ plnFields))) ∧
    (x.kind = 3 → x.record = none →
      (∀ v, ch.val x.vi = some v → ∀ r, v.record = some r → s.working = true → v.filed = false →
        (s.igtFull = true → s.on F.PRF_STATE_FALLBACK = false → After (.profileUpdate d) s (fun t => Frame s t [])) ∧
        ((s.igtFull = false ∨ s.on F.PRF_STATE_FALLBACK = true) →
          (s.jrnRoom = false → After (.profileUpdate d) s (fun t => Counted s t F.IGT_JRNL_WAIT ∧ Frame s t [F.IGT_JRNL_WAIT])) ∧
          (s.jrnRoom = true → s.writeThrough = false → exec (.profileUpdate d) s = s.done ((s.fileValue x v r).taskEnd d.val .ok 0)) ∧
          (s.jrnRoom = true → s.writeThrough = true → exec (.profileUpdate d) s = s.done (s.fileValue x v r)))) ∧
      (quiet → s.working = false ∨ (ch.val x.vi).isNone = true → After (.profileUpdate d) s (fun t => plain t))) ∧
    (x.kind = 4 → (quiet → x.record.isNone = true ∨ s.on F.LGL_STAT_HALTED = true → After (.tariffAccrual d) s (fun t => plain t)) ∧
      (∀ r, x.record = some r → s.on F.LGL_STAT_HALTED = false → exec (.tariffAccrual d) s = s.done ((s.accrue r x.disp).taskEnd d.val .ok 0))) ∧
    (x.kind = 5 → quiet → ∀ r, x.record = some r → After (.merkleLeaf d) s (fun t => t.desc d.val = none ∧
      t.hlm = { s.hlm with trees := s.hlm.trees.map (fun e : Tree => if e.startC = r.startC && !e.dropped && r.lidx < e.nleaf then { e with leaves := SMap.set e.leaves r.lidx (leafHash r.canonical) } else e) } ∧
      (x.exec = 6 → t.rd F.HSH_COMP1 = (s.rd F.HSH_COMP1 + 1) % F.HSH_COMP1.bound ∧ t.rd F.HSH_COMP0 = s.rd F.HSH_COMP0) ∧
      (x.exec ≠ 6 → t.rd F.HSH_COMP0 = (s.rd F.HSH_COMP0 + 1) % F.HSH_COMP0.bound ∧ t.rd F.HSH_COMP1 = s.rd F.HSH_COMP1) ∧
      Frame s { t with pln := s.pln, chn := { t.chn with pausing := s.chn.pausing }, hlm := s.hlm } ([F.HSH_COMP0, F.HSH_COMP1] ++ plnFields))) ∧
    (x.kind = 6 → (quiet → x.record.isNone = true ∨ s.on F.TCH_CTL_EN = false → After (.balanceContribution d) s (fun t => plain t)) ∧
      (∀ r, x.record = some r → exec (.balanceContribution d) s = s.done ((s.balance r x.disp).taskEnd d.val .ok 0) ∧
        (∀ e, (s.groupsOf r).head? = some e → s.on F.TCH_CTL_EN = true → r.noacc = false → (s.groupsOf r).length = 1 → SMap.getD s.tch.closedTo e.1 0 ≤ e.2.startOf r → quiet → After (.balanceContribution d) s (fun t =>
          t.desc d.val = none ∧ t.rd F.TCH_CONTRIB = (s.rd F.TCH_CONTRIB + 1) % F.TCH_CONTRIB.bound ∧
          t.tch = { s.tch with opens := SMap.set s.tch.opens (openKey e.1 (e.2.startOf r)) ((s.tchOpen e.1 (e.2.startOf r)).contribute e.2 r x.disp) } ∧
          Frame s { t with pln := s.pln, chn := { t.chn with pausing := s.chn.pausing }, tch := s.tch } (F.TCH_CONTRIB :: plnFields))))) ∧
    (x.kind = 9 → s.isItemTask d.val x = true → (ch.others = [] → quiet → After (.itemTask d) s (fun t => plain t)) ∧
      exec (.itemTask d) s = s.done ((ch.others.foldl (fun (u : State) e => u.takeItem ch x.stamp e) s).taskEnd d.val .ok 0)) ∧
    (x.kind = 11 →
      let op := x.arg / 2 ^ 60
      let m := if op = 0 then x.arg % 65536 else if op = 1 then 85 else 96
      let o := if op = 0 then x.arg / 65536 % 65536 else m
      let pre := if op = 0 then [] else be 1 (op - 1)
      let fits := op < 3 ∧ (op = 0 → 0 < m ∧ m ≤ 65456) ∧ (op = 1 → x.arg % 65536 = 85) ∧ x.cell ≠ 0xFFFF ∧ (if op = 2 then 96 + m else m) ≤ s.pktLen x.cell ∧ o + 48 ≤ s.pktLen x.cell;
      (¬ fits → exec (.shaOpDone d) s = s.done (s.taskEnd d.val .fail 0)) ∧
      (fits → exec (.shaOpDone d) s = s.done ((((s.pktPut x.cell o (Config.sha384 (pre ++ s.pktBytes x.cell 32 m))).engineComp x.exec (shaBlocks (pre.length + m))).wrap F.HSH_HOST_OPS).taskEnd d.val .ok 0)) ∧
      (fits → quiet → x.succ = [] → After (.shaOpDone d) s (fun t => t.desc d.val = none ∧
        t.cru = { s.cru with pool := poolWriteBytes (s.pktCells x.cell) s.cru.pool (32 + o) (Config.sha384 (pre ++ s.pktBytes x.cell 32 m)) } ∧
        t.rd F.HSH_HOST_OPS = (s.rd F.HSH_HOST_OPS + 1) % F.HSH_HOST_OPS.bound ∧ (x.exec = 6 → t.rd F.HSH_COMP1 = (s.rd F.HSH_COMP1 + shaBlocks (pre.length + m)) % F.HSH_COMP1.bound) ∧
        (x.exec ≠ 6 → t.rd F.HSH_COMP0 = (s.rd F.HSH_COMP0 + shaBlocks (pre.length + m)) % F.HSH_COMP0.bound) ∧
        Frame s { t with cru := s.cru, pln := s.pln, chn := { t.chn with pausing := s.chn.pausing } } ([F.HSH_COMP0, F.HSH_COMP1, F.HSH_HOST_OPS] ++ plnFields)))) ∧
    (x.kind = 12 → x.arg / 2 ^ 60 = 1 →
      let i := x.arg / 2 ^ 48 % 256
      let k := x.slot.getD (s.slot i)
      let who := if x.host.isSome then Mst.HOST else 1;
      (x.cell = 0xFFFF ∨ s.pktLen x.cell < 144 → exec (.pkOpDone d) s = s.done (s.taskEnd d.val .fail 0)) ∧
      (x.cell ≠ 0xFFFF → 144 ≤ s.pktLen x.cell → (s.setSlot i k).keyAllows i who false Use.SIGN = false →
        exec (.pkOpDone d) s = s.done ((((s.keyDeny i who Use.SIGN).sat F.PKE_SLOT_DENY).raise Pg.PKE 1).taskEnd d.val .ok 3)) ∧
      (x.cell ≠ 0xFFFF → 144 ≤ s.pktLen x.cell → (s.setSlot i k).keyAllows i who false Use.SIGN = true → exec (.pkOpDone d) s = s.done
        (((s.pktPut x.cell 48 ((Config.ecdsaSignDigest k.key (s.pktBytes x.cell 32 48) ++ be 96 0).take 96)).wrap F.PKE_SIGNS).taskEnd d.val .ok 0))) ∧
    (x.kind = 12 → x.arg / 2 ^ 60 = 2 → x.cell ≠ 0xFFFF → 241 ≤ s.pktLen x.cell →
      let on := Config.onCurve (s.pktBytes x.cell 80 97)
      let good := Config.ecdsaVerifyDigest (s.pktBytes x.cell 80 97) (s.pktBytes x.cell 32 48) (s.pktBytes x.cell 177 96)
      let u := s.wrap F.PKE_VERIFIES
      let w := (u.sat F.PKE_VERIFY_FAIL).raise Pg.PKE 0;
      (on = true → good = true → exec (.pkOpDone d) s = s.done (u.taskEnd d.val .ok 0)) ∧
      (on = true → good = false → exec (.pkOpDone d) s = s.done (w.taskEnd d.val .ok 1)) ∧
      (on = false → exec (.pkOpDone d) s = s.done (w.taskEnd d.val .ok 2))) ∧
    (x.kind = 12 → (x.arg / 2 ^ 60 ≠ 1 ∧ (x.arg / 2 ^ 60 ≠ 2 ∨ x.cell = 0xFFFF ∨ s.pktLen x.cell < 241)) → exec (.pkOpDone d) s = s.done (s.taskEnd d.val .fail 0)))

/-- Planish pops the queue that is next where DFREE covers the whole chain and the flow cache has room: the head packet becomes a field chain (queues below 64) or a CODE task; otherwise, and during a planned handover, nothing changes, but a wait for a flow cache entry is noted. A doorbell stores SQk_TAIL. A fetched entry of a KIND the host may not submit gets a completion with status 4 and moves SQ_HEAD; one that names no held packet, status 1; a good one takes the lowest free descriptor, READY, with its TAG and head. The oldest drain completes when no earlier work is left, or late when some is: DONE counts, bit 3 (late: LATE too, and bit 4), and the subscribed engines get the BOUNDARY event. The end of an observation window sets the figures of each level and core; a descriptor read answers the first word of the selected descriptor, 0 where it is FREE, and shadows the others. Model's choices: log entries 16, 17, 68, 69, 73. -/
def Obligations.PopsHostQueuesAndDrains : Prop :=
  (∀ (q : Fin 1024) (s : State), s.domOn Dom.PKT = true →
    let need := if q.val < 64 then s.fieldResv else 2
    (s.pair.handover.isSome = true ∨ s.popNext ≠ some q.val ∨ s.dfree < (need : Int) → After (.packetPop q) s (fun t => Frame s t [])) ∧
    (s.pair.handover = none → s.popNext = some q.val → (need : Int) ≤ s.dfree → s.flowRoom (s.headFlow q.val).1 (s.headFlow q.val).2 = false → s.pln.flowWait.contains q.val = false → After (.packetPop q) s (fun t =>
      t.pln = { s.pln with flowWait := q.val :: s.pln.flowWait, flowFull := true } ∧ Counted s t F.PLN_FLOW_WAIT ∧ Frame s { t with pln := s.pln } (F.PLN_FLOW_WAIT :: raised Pg.PLN))) ∧
    (∀ r, s.popQueue q.val = some r → s.pair.handover = none → s.popNext = some q.val → (need : Int) ≤ s.dfree → s.flowRoom (s.headFlow q.val).1 (s.headFlow q.val).2 = true →
      let w := { r.2 with pln := { s.pln with rrQueue := q.val + 1, flowWait := s.pln.flowWait.filter (fun x => x != q.val) } };
      r.1 = (s.queue q.val).head ∧ Frame s { r.2 with cru := s.cru } [] ∧
        (q.val < 64 → exec (.packetPop q) s = s.done (w.buildField q.val r.1).plnSync) ∧ (64 ≤ q.val → exec (.packetPop q) s = s.done (w.buildCode q.val r.1).plnSync))) ∧
  (∀ (m : Master) (k : Fin 8) (v : Word) (s : State), s.judge m Pg.PLN (0x314 + 0x20 * k.val) = .open → After (.sqDoorbell m k v) s (fun t =>
    t.rd (F.PLN_SQ_TAIL k.val) = bits v 11 0 ∧ Frame s t [F.PLN_SQ_TAIL k.val])) ∧
  (∀ (k : Fin 8) (entry : List Byte) (s : State), s.domOn Dom.PKT = true →
    let n := s.ringSize k.val
    let head := s.rd (F.PLN_SQ_HEAD k.val)
    let tail := SMap.getD s.pln.cqTail k.val 0
    let d := s.descOfImage entry
    let stuck := n == 0 || head % n == s.rd (F.PLN_SQ_TAIL k.val) % n || s.classBp 3 || s.cqIsFull k.val || decide (s.dfree < 1)
    let answered := fun (st : Nat) (t : State) => t.rd (F.PLN_SQ_HEAD k.val) = (head + 1) % n ∧ Sent t (.completion k.val (tail % n) (field entry 8 8) ((head + 1) % n) st (1 - tail / n % 2) 0) ∧
      t.pln = { s.pln with cqTail := SMap.set s.pln.cqTail k.val (tail + 1) } ∧ Frame s { t with pln := s.pln } [F.PLN_SQ_HEAD k.val];
    (stuck = true → After (.sqFetch k entry) s (fun t => Frame s t [])) ∧
    (stuck = false → hostKind d.kind = false → After (.sqFetch k entry) s (fun t => answered 4 t)) ∧
    (stuck = false → hostKind d.kind = true → d.cell ≠ 0xFFFF → s.hostHeld d.cell = false → After (.sqFetch k entry) s (fun t => answered 1 t)) ∧
    (stuck = false → hostKind d.kind = true → (d.cell = 0xFFFF ∨ s.hostHeld d.cell = true) → s.flowRoom d.atomic d.flow = false → After (.sqFetch k entry) s (fun t => Counted s t F.PLN_FLOW_WAIT ∧
      t.pln = { s.pln with flowFull := true } ∧ Frame s { t with pln := s.pln } (F.PLN_FLOW_WAIT :: raised Pg.PLN))) ∧
    (stuck = false → hostKind d.kind = true → (d.cell = 0xFFFF ∨ s.hostHeld d.cell = true) → s.flowRoom d.atomic d.flow = true → firstGap s.pln.descs 0 < 16384 → s.pln.spill = [] →
      After (.sqFetch k entry) s (fun t => t.rd (F.PLN_SQ_HEAD k.val) = (head + 1) % n ∧
        t.desc (firstGap s.pln.descs 0) = some { ({ d with count := 0, succ := [], fans := [], stamp := field entry 8 8, host := some (k.val, (head + 1) % n) } : Desc).markLate s.pln.lastDrain with st := .ready, order := s.pln.order } ∧
        (∀ j, j ≠ firstGap s.pln.descs 0 → t.desc j = s.desc j) ∧ Frame s { t with pln := s.pln, chn := { t.chn with pausing := s.chn.pausing } } (F.PLN_SQ_HEAD k.val :: plnFields)))) ∧
  (∀ (s : State) (d : BndDrain), s.pln.drains.head? = some d →
    let ds := s.pln.drains.tail
    let m := if s.working then s.rd F.PLN_BND_SUBS else 0
    let done := fun (late : Bool) (t : State) => t.pln.drains = ds ∧ t.pln.lastDrain = max s.pln.lastDrain d.c ∧ t.rd F.PLN_BND_STAT_OUT = ds.length % F.PLN_BND_STAT_OUT.bound ∧
      t.rd F.PLN_BND_DONE = (s.rd F.PLN_BND_DONE + 1) % F.PLN_BND_DONE.bound ∧ Interrupt t Pg.PLN 3 ∧ (late = true → Counted s t F.PLN_BND_LATE ∧ Interrupt t Pg.PLN 4) ∧
      t.bndPrf = (if m.testBit 0 then s.bndPrf ++ [⟨d.c, d.target, d.fires, d.rep, late, s.rd F.PLN_BND_PRIO⟩] else s.bndPrf) ∧ t.bndTch = (if m.testBit 2 then s.bndTch ++ [⟨d.c, d.target, d.fires, d.rep, late, s.rd F.PLN_BND_PRIO⟩] else s.bndTch) ∧
      Frame s { t with pln := s.pln, bndPrf := s.bndPrf, bndTch := s.bndTch } ([F.PLN_BND_STAT_OUT, F.PLN_BND_DONE, F.PLN_BND_LATE] ++ raised Pg.PLN);
    ((m.testBit 3 = false ∨ s.tar.armed = none) → (s.workBefore d.c = false → After .boundaryDrainComplete s (fun t => done false t)) ∧ (s.workBefore d.c = true → After .boundaryDrainLate s (fun t => done true t))) ∧
    (s.workBefore d.c = false → exec .boundaryDrainComplete s = s.done (s.completeDrain false)) ∧ (s.workBefore d.c = true → exec .boundaryDrainLate s = s.done (s.completeDrain true)) ∧
    (s.workBefore d.c = true → After .boundaryDrainComplete s (fun t => Frame s t [])) ∧ (s.workBefore d.c = false → After .boundaryDrainLate s (fun t => Frame s t []))) ∧
  (∀ (waitMax waitAvg : List Word) (busy : List Nat) (s : State), After (.obsWindowEnd waitMax waitAvg busy) s (fun t =>
    (∀ j, j < 16 → SMap.getD t.pln.obsMax j 0 = (waitMax.getD j 0).toNat ∧ SMap.getD t.pln.obsAvg j 0 = (waitAvg.getD j 0).toNat ∧ t.rd (F.PLN_CORE_BUSY j) = min 1000 (busy.getD j 0)) ∧
    t.pln = { s.pln with obsMax := t.pln.obsMax, obsAvg := t.pln.obsAvg } ∧ Frame s { t with pln := s.pln } ((List.range 16).map (fun k => F.PLN_CORE_BUSY k)))) ∧
  (∀ (m : Master) (s : State), s.dead = false → s.pageOn Pg.PLN = true →
    let im := ((s.desc (s.rd F.PLN_DESC_SEL)).map Desc.image).getD (be 32 0)
    After (.descRead m) s (fun t => t.bus.rdata = [BitVec.ofNat 32 (field im 0 4)] ∧ ((s.desc (s.rd F.PLN_DESC_SEL)).isNone = true → t.bus.rdata = [0#32]) ∧
      (∀ w, w < 7 → SMap.find? t.bus.shadow (shadowKey m Pg.PLN (0x1C8 + 4 * w)) = some (BitVec.ofNat 32 (field im (4 * w + 4) 4))) ∧ Frame s { t with bus := s.bus } []))

/-- With TSK on, a BOUNDARY event off the grid raster is counted with bit 4 and taken; one on it waits, counted, for journal room, else is acted on. Every set-back span whose end is passed by the closing delay is dropped, no other. FALLBACK is entered for its cause with bit 1 and left, once space has come back with nothing forced, with bit 2 and every span closed. GO of a read takes key, slot and ANNEX, BUSY; its end clears BUSY with bit 6: the record in Q_DATA with RES 1, or RES 2 to 4. An edit with GO files an EDITED record with RES 1, or ends with RES 2 or 3. A register checkpoint keeps the accounts, periods and counters with the ledger sequence they cover. A period close that is due advances VZ, opens a stored period with its end and time, journals it and leaves every active account to the sweep; the sweep's end copies all of them and clears BUSY with bits 1 and 2. A lockstep mismatch stops LEGAL, asks for its reset, and halts it at the third within an hour. Model's choices: log entries 78, 79, 80, 84. -/
def Obligations.ProfilesAndPeriods : Prop :=
  (∀ (s : State) (e : BndEvent), s.bndPrf.head? = some e → s.domOn Dom.TSK = true →
    let es := s.bndPrf.tail;
    (s.onRaster e.target = false → After .profileBoundary s (fun t => t.bndPrf = es ∧ Counted s t F.PRF_BND_OFFGRID ∧ Interrupt t Pg.PRF 4 ∧
      Frame s { t with bndPrf := s.bndPrf } (F.PRF_BND_OFFGRID :: raised Pg.PRF))) ∧
    (s.onRaster e.target = true → s.jrnRoom = false → After .profileBoundary s (fun t => Counted s t F.IGT_JRNL_WAIT ∧ Frame s t [F.IGT_JRNL_WAIT])) ∧
    (s.onRaster e.target = true → s.jrnRoom = true → exec .profileBoundary s = s.done (({ s with bndPrf := es }).profileBoundary e (s.gridMin e.target)))) ∧
  (∀ s : State, After .setbackSpanRetire s (fun t => (∀ x ∈ s.prf.spans, s.now < x.to_ + s.closeLag * s.fileLen s.gridNow * 60000000000 → x ∈ t.prf.spans) ∧
    t.prf = { s.prf with spans := s.prf.spans.filter (fun x => decide (s.now < x.to_ + s.closeLag * s.fileLen s.gridNow * 60000000000)) } ∧
    t.rd F.PRF_STATE_SPANS = t.prf.spans.length % F.PRF_STATE_SPANS.bound ∧ Frame s { t with prf := s.prf } [F.PRF_STATE_SPANS])) ∧
  (∀ s : State, s.on F.PRF_STATE_FALLBACK = false → s.fallbackCause ≠ 0 → After .fallbackEnter s (fun t => t.rd F.PRF_STATE_FALLBACK = 1 ∧ t.rd F.PRF_STATE_CAUSE = s.fallbackCause ∧
    Counted s t F.PRF_FB_ENTRIES ∧ Interrupt t Pg.PRF 1 ∧ t.prf = { s.prf with notKept := s.prf.notKept ++ [(s.gridNow, none)], fbDay := s.gridNow / 1440 * 1440 } ∧
    Frame s { t with prf := s.prf } ([F.PRF_STATE_FALLBACK, F.PRF_STATE_CAUSE, F.PRF_FB_ENTRIES] ++ raised Pg.PRF))) ∧
  (∀ s : State, s.on F.PRF_STATE_FALLBACK = true → s.on F.PRF_CTL_FB_FORCE = false → s.rd F.IGT_STATE_MODE < 4 → s.rd F.PRF_FB_TH + 10 ≤ s.rd F.IGT_FREE_PM → After .fallbackExit s (fun t =>
    t.rd F.PRF_STATE_FALLBACK = 0 ∧ t.rd F.PRF_STATE_CAUSE = 0 ∧ Interrupt t Pg.PRF 2 ∧ (∀ x ∈ t.prf.notKept, x.2.isSome = true) ∧
    Frame (s.fileSummaries s.prf.fbDay true) { t with prf := (s.fileSummaries s.prf.fbDay true).prf } ([F.PRF_STATE_FALLBACK, F.PRF_STATE_CAUSE] ++ raised Pg.PRF))) ∧
  (∀ (m : Master) (v : Word) (s : State), s.judge m Pg.PRF 0xA8 = .open → After (.profileRead m v) s (fun t => t.rd F.PRF_Q_CTL_ANNEX = bits v 15 8 ∧
    (bit v 31 = true → s.on F.PRF_Q_CTL_BUSY = false →
      t.prf = { s.prf with read := some ⟨chanKey (s.rd F.PRF_Q_KEY_UNIT) (s.rd F.PRF_Q_KEY_NODE) (s.rd F.PRF_Q_KEY_CH), s.rd F.PRF_Q_SLOT, bits v 15 8⟩ } ∧
      t.rd F.PRF_Q_CTL_BUSY = 1 ∧ t.rd F.PRF_Q_CTL_RES = 0 ∧ Frame s { t with prf := s.prf } [F.PRF_Q_CTL_ANNEX, F.PRF_Q_CTL_BUSY, F.PRF_Q_CTL_RES]) ∧
    ((bit v 31 = false ∨ s.on F.PRF_Q_CTL_BUSY = true) → Frame s t [F.PRF_Q_CTL_ANNEX]))) ∧
  (∀ (unc : Bool) (s : State) (q : PrfRead), s.prf.read = some q → After (.profileReadDone unc) s (fun t => t.prf = { s.prf with read := none } ∧ t.rd F.PRF_Q_CTL_BUSY = 0 ∧ Interrupt t Pg.PRF 6 ∧
    (unc = true → t.rd F.PRF_Q_CTL_RES = 3) ∧
    (∀ r, (s.findRec q.key q.slot q.annex).getLeft? = some r → unc = false → t.rd F.PRF_Q_CTL_RES = 1 ∧ ∀ w, w < 8 → t.rd (F.PRF_Q_DATA w) = field (s.reportBytes r) (4 * w) 4) ∧
    (∀ c, (s.findRec q.key q.slot q.annex).getRight? = some c → unc = false → t.rd F.PRF_Q_CTL_RES = c ∧ 2 ≤ c ∧ c ≤ 4) ∧
    Frame s { t with prf := s.prf } ([F.PRF_Q_CTL_BUSY, F.PRF_Q_CTL_RES] ++ (List.range 8).map (fun w => F.PRF_Q_DATA w) ++ raised Pg.PRF))) ∧
  (∀ (m : Master) (v : Word) (s : State), s.judge m Pg.PRF 0xD8 = .open →
    let sel := chanSel (s.rd F.PRF_Q_KEY_NODE) (s.rd F.PRF_Q_KEY_CH)
    let slot := s.rd F.PRF_Q_SLOT
    let bad := s.rd F.PRF_Q_KEY_UNIT != s.unitAddr || s.on F.PRF_STATE_FALLBACK || s.slotOf sel slot != slot
    (bit v 31 = false → After (.profileEdit m v) s (fun t => Frame s t [])) ∧
    (bit v 31 = true → bad = true → After (.profileEdit m v) s (fun t => t.rd F.PRF_E_CTL_RES = 3 ∧ Interrupt t Pg.PRF 6 ∧ Frame s t (F.PRF_E_CTL_RES :: raised Pg.PRF))) ∧
    (bit v 31 = true → bad = false → s.notKept slot = true → After (.profileEdit m v) s (fun t => t.rd F.PRF_E_CTL_RES = 2 ∧ Interrupt t Pg.PRF 6 ∧ Frame s t (F.PRF_E_CTL_RES :: raised Pg.PRF))) ∧
    (bit v 31 = true → bad = false → s.notKept slot = false → After (.profileEdit m v) s (fun t => t.rd F.PRF_E_CTL_RES = 1 ∧ Interrupt t Pg.PRF 6 ∧
      Frame (s.fileMade (s.editRec sel slot (signed64 (s.rd F.PRF_E_VAL_LO) (s.rd F.PRF_E_VAL_HI))) (s.rd F.PLN_BND_PRIO)) t (F.PRF_E_CTL_RES :: raised Pg.PRF)))) ∧
  (∀ s : State, s.lglRuns = true → s.rd F.IGT_STATE_MODE < 4 → After .tariffCheckpoint s (fun t => t.tar = { s.tar with ckpt := t.tar.ckpt } ∧ t.tar.ckpt.seq = s.accruedTo ∧
    t.tar.ckpt.accts = s.tar.accts ∧ t.tar.ckpt.hist = s.tar.hist ∧ t.tar.ckpt.start = s.tar.start ∧ t.tar.ckpt.untouched = s.tar.untouched ∧ t.tar.ckpt.vz = s.rd F.TAR_VZ ∧
    Frame s { t with tar := s.tar } [])) ∧
  (∀ s : State,
    let e := s.rd F.TAR_BP_END
    let vz := (s.rd F.TAR_VZ + 1) % 2 ^ 32
    s.lglRuns = true → s.working = true → s.tarEnabled = true → e ≠ 0 → s.on F.TAR_CLOSE_STAT_BUSY = false →
    (s.mayClose e = true → After .periodClose s (fun t => t.rd F.TAR_VZ = vz ∧ t.rd F.TAR_CLOSE_STAT_BUSY = 1 ∧ t.tar.hist = ⟨vz, e, s.now, s.tar.lateNow, []⟩ :: s.tar.hist ∧ t.tar.start = e ∧ t.tar.due = none ∧
      t.tar.lateNow = 0 ∧ t.tar.untouched = s.activeAccts ∧ t.tar.accts = s.tar.accts ∧ Journaled s t 8 (be 1 0x43 ++ be 4 vz ++ be 4 e ++ be 8 (s.jrn.seq + 1)) ∧
      Frame s { t with tar := s.tar, jrn := s.jrn } [F.TAR_VZ, F.TAR_SWEEP_LEFT, F.TAR_CLOSE_STAT_BUSY, F.TAR_BP_END])) ∧
    (s.mayClose e = false → After .periodClose s (fun t => Frame s t []))) ∧
  (∀ s : State, s.on F.TAR_CLOSE_STAT_BUSY = true → s.lglRuns = true → After .periodSweepDone s (fun t => t.rd F.TAR_CLOSE_STAT_BUSY = 0 ∧ Interrupt t Pg.TAR 1 ∧ Interrupt t Pg.TAR 2 ∧
    t.tar.untouched = [] ∧ Frame s { t with tar := s.tar, lgl := s.lgl, jrn := s.jrn } ([F.TAR_CLOSE_STAT_BUSY, F.TAR_SWEEP_LEFT] ++ raised Pg.TAR ++ legalFields))) ∧
  (∀ s : State, s.lglRuns = true →
    let u := s.lockstepMismatch
    exec .lockstepMismatch s = s.done u.selfCheck ∧ (s.canGiveUp = false ∨ u.giveUpCauses = 0 → After .lockstepMismatch s (fun t => t = u)) ∧
    u.rd F.LGL_STAT_RUN = 0 ∧ Counted s u F.LGL_LOCKSTEP_ERR ∧ Interrupt u Pg.LGL 2 ∧ u.rst.asked = s.rst.asked ++ [(Dom.LGL, 2)] ∧ u.lgl.lockPend = true ∧
    (3 ≤ ((s.raw :: s.lgl.lockstep).filter (fun c => decide (s.raw < c + 3600 * 250000000))).length → u.rd F.LGL_STAT_HALTED = 1 ∧ Interrupt u Pg.LGL 5) ∧
    Frame s { u with lgl := s.lgl, rst := s.rst } ([F.LGL_STAT_RUN, F.LGL_LOCKSTEP_ERR, F.LGL_STAT_HALTED] ++ raised Pg.LGL))

/-- A master's write passes unless the page is off or locked or the master is not in effect. A read of SESS_CHAL issues a fresh challenge, its words the two halves. OPEN as PUBLIC ends the session; a role whose key slot holds no HMAC key gives RES 3; without a challenge RES 2; a right response gives the role and RES 1, a wrong one RES 2, and the challenge is spent. CLOSE and 900 s without request end it. A request with GO while LEGAL runs stores its fields and counts: an unknown object ends with 3, one not readable in the role with 2, counted in DENIED; data up to 64 bytes are in RSP_DATA with RES 1. A SET or ACTION that a right, the log or the grant bars writes an event and ends with that code. A SET that is taken commits the legal partition, writes its event and ends with 1. ACTIVATE arms the passive set, CANCEL makes it passive again before ACT_MIN, CLOSE moves the period end to the next filing boundary, ACK clears LOG_NEAR. Model's choices: log entries 21, 81, 82, 83. -/
def Obligations.SessionsAndObjectRequests : Prop :=
  (∀ (m : Master) (s : State), s.dead = false → s.pageOn Pg.OBJ = true → let x := s.freeVal (2 ^ 64)
    x < 2 ^ 64 ∧ After (.sessionChallenge m) s (fun t => t.bus.rdata = [BitVec.ofNat 32 x] ∧
    t.lgl = { s.lgl with chal := SMap.set s.lgl.chal (masterCode m) x } ∧ t.rd (F.OBJ_SESS_CHAL_LO (masterCode m)) = x % 2 ^ 32 ∧ t.rd (F.OBJ_SESS_CHAL_HI (masterCode m)) = x / 2 ^ 32 ∧
    SMap.find? t.bus.shadow (shadowKey m Pg.OBJ 0x44) = some (BitVec.ofNat 32 (x / 2 ^ 32)) ∧ t.fresh = s.fresh + 1 ∧
    Frame s { t with lgl := s.lgl, bus := s.bus, fresh := s.fresh } [F.OBJ_SESS_CHAL_LO (masterCode m), F.OBJ_SESS_CHAL_HI (masterCode m)])) ∧
  (∀ (m : Master) (v : Word) (s : State), SessionOpenTo s m →
    let b := masterCode m
    let r := bits v 2 0
    (bit v 9 = true → After (.sessionClose m v) s (fun t => t.rd (F.OBJ_SESS_STAT_ROLE b) = 4 ∧ (s.rd (F.OBJ_SESS_STAT_ROLE b) ≠ 4 → Interrupt t Pg.OBJ 2) ∧
      Frame s t (F.OBJ_SESS_STAT_ROLE b :: raised Pg.OBJ))) ∧
    (bit v 9 = false → bit v 8 = true →
      (r = 4 → After (.sessionOpen m v) s (fun t => t.rd (F.OBJ_SESS_STAT_ROLE b) = 4 ∧ t.rd (F.OBJ_SESS_STAT_RES b) = 1 ∧ Frame s t ([F.OBJ_SESS_STAT_ROLE b, F.OBJ_SESS_STAT_RES b] ++ raised Pg.OBJ))) ∧
      (r ≠ 4 → (4 < r ∨ s.domOn Dom.SEC = false ∨ (s.slot (s.roleSlot r)).typ ≠ 3) → After (.sessionOpen m v) s (fun t => t.rd (F.OBJ_SESS_STAT_RES b) = 3 ∧ Frame s t [F.OBJ_SESS_STAT_RES b])) ∧
      (r < 4 → s.domOn Dom.SEC = true → (s.slot (s.roleSlot r)).typ = 3 →
        (SMap.find? s.lgl.chal b = none → After (.sessionOpen m v) s (fun t => t.rd (F.OBJ_SESS_STAT_RES b) = 2 ∧ SMap.find? t.lgl.chal b = none ∧ Frame s { t with lgl := s.lgl } [F.OBJ_SESS_STAT_RES b])) ∧
        (∀ c, SMap.find? s.lgl.chal b = some c →
          let u := { s with lgl := { s.lgl with chal := SMap.erase s.lgl.chal b } }
          let good := (Config.hmac (s.keyOf (s.roleSlot r)) (be 8 c ++ be 1 r)).take 16 == s.sessResp b;
          (s.keyAllows (s.roleSlot r) Mst.LGL true Use.HMAC = false → After (.sessionOpen m v) s (fun t => t.rd (F.OBJ_SESS_STAT_RES b) = 3 ∧ Frame (u.keyDeny (s.roleSlot r) Mst.LGL Use.HMAC) t [F.OBJ_SESS_STAT_RES b])) ∧
          (s.keyAllows (s.roleSlot r) Mst.LGL true Use.HMAC = true → good = true → After (.sessionOpen m v) s (fun t => t.rd (F.OBJ_SESS_STAT_ROLE b) = r ∧ t.rd (F.OBJ_SESS_STAT_RES b) = 1 ∧
            t.lgl = u.lgl ∧ Frame s { t with lgl := s.lgl } [F.OBJ_SESS_STAT_ROLE b, F.OBJ_SESS_STAT_RES b])) ∧
          (s.keyAllows (s.roleSlot r) Mst.LGL true Use.HMAC = true → good = false → After (.sessionOpen m v) s (fun t => t.rd (F.OBJ_SESS_STAT_RES b) = 2 ∧
            t.lgl = u.lgl ∧ Frame s { t with lgl := s.lgl } [F.OBJ_SESS_STAT_RES b])))))) ∧
  (∀ (m : Master) (s : State), s.domOn Dom.LGL = true → After (.sessionTimeout m) s (fun t => t.rd (F.OBJ_SESS_STAT_ROLE (masterCode m)) = 4 ∧
    (s.rd (F.OBJ_SESS_STAT_ROLE (masterCode m)) ≠ 4 → Interrupt t Pg.OBJ 2) ∧ Frame s t (F.OBJ_SESS_STAT_ROLE (masterCode m) :: raised Pg.OBJ))) ∧
  (∀ (m : Master) (v : Word) (s : State), SessionOpenTo s m → bit v 31 = true → s.on (F.OBJ_REQ_STAT_BUSY (masterCode m)) = false → s.lglRuns = true →
    let b := masterCode m
    let q : ObjReq := { op := bits v 1 0, obis := s.rd (F.OBJ_REQ_OBIS_HI b) * 65536 + s.rd (F.OBJ_REQ_OBIS_LO b), acct := s.rd (F.OBJ_REQ_ACCT b), unit := bits v 21 16, attr := bits v 15 8,
                        cell := s.rd (F.OBJ_REQ_CELL b), arg := s.rd (F.OBJ_REQ_ARG b) }
    let role := s.rd (F.OBJ_SESS_STAT_ROLE b)
    let u := (((s.wr (F.OBJ_REQ_CTL_UNIT b) (bits v 21 16)).wr (F.OBJ_REQ_CTL_ATTR b) (bits v 15 8)).wr (F.OBJ_REQ_CTL_OP b) (bits v 1 0)).wrap F.OBJ_REQS
    let endFields := [F.OBJ_REQ_STAT_RES b, F.OBJ_REQ_STAT_BUSY b, F.OBJ_DENIED] ++ raised Pg.OBJ
    let ended := fun (r : Nat) (w t : State) => t.rd (F.OBJ_REQ_STAT_RES b) = r ∧ t.rd (F.OBJ_REQ_STAT_BUSY b) = 0 ∧ Interrupt t Pg.OBJ 0 ∧ (r = 2 → Interrupt t Pg.OBJ 1 ∧ Counted w t F.OBJ_DENIED)
    let barred := fun (r : Nat) (t : State) => ended r u t ∧ t.tar = s.tar ∧ Frame u { t with lgl := u.lgl, jrn := u.jrn } (endFields ++ legalFields);
    u.rd F.OBJ_REQS = (s.rd F.OBJ_REQS + 1) % F.OBJ_REQS.bound ∧ Frame s u [F.OBJ_REQ_CTL_UNIT b, F.OBJ_REQ_CTL_ATTR b, F.OBJ_REQ_CTL_OP b, F.OBJ_REQS] ∧
       (bits v 1 0 = 0 ∨ bits v 1 0 = 3 →
        (objNamed q.obis = none → After (.objGet m v) s (fun t => ended 3 u t ∧ Frame u t endFields)) ∧
        (∀ o, objNamed q.obis = some o → (s.role ≠ 1 ∨ o.atRelay = true) → o.readable role = false → After (.objGet m v) s (fun t => ended 2 u t ∧ Frame u t endFields)) ∧
        (∀ o, objNamed q.obis = some o → (s.role ≠ 1 ∨ o.atRelay = true) → o.readable role = true → (o = .check → q.attr = 3 → role = 3) → ∀ d, u.objData q o role = some d → d.length ≤ 64 →
          After (.objGet m v) s (fun t => ended 1 u t ∧ t.rd (F.OBJ_RSP_LEN b) = d.length ∧ (∀ w, w < 16 → t.rd (F.OBJ_RSP_DATA w b) = field (d ++ be 64 0) (4 * w) 4) ∧
            Frame u t ([F.OBJ_RSP_LEN b] ++ (List.range 16).map (fun w => F.OBJ_RSP_DATA w b) ++ endFields)))) ∧
       (bits v 1 0 = 1 →
        (objNamed q.obis = none → After (.objSet m v) s (fun t => barred 3 t)) ∧
        (∀ o, objNamed q.obis = some o → u.changeBar role o (o.writable role) ≠ 0 → After (.objSet m v) s (fun t => barred (u.changeBar role o (o.writable role)) t)) ∧
        (∀ o, objNamed q.obis = some o → u.changeBar role o (o.writable role) = 0 → (u.setEffect q o).isNone = true → After (.objSet m v) s (fun t => barred 4 t)) ∧
        (∀ o, objNamed q.obis = some o → ∀ w, u.setEffect q o = some w → u.changeBar role o (o.writable role) = 0 → u.legalStore = true → After (.objSet m v) s (fun t =>
          t.rd (F.OBJ_REQ_STAT_RES b) = 1 ∧ t.rd F.LGL_LGEN = (w.1.rd F.LGL_LGEN + 1) % 2 ^ 32 ∧ t.rd F.LGL_STAT_RESULT = 1 ∧ t.tar.accts = w.1.tar.accts ∧ t.tar.binds = w.1.tar.binds ∧ t.tar.passive = w.1.tar.passive ∧
          Frame w.1 { t with lgl := w.1.lgl, jrn := w.1.jrn, tar := w.1.tar } ([F.LGL_LGEN, F.LGL_STAT_RESULT] ++ endFields ++ legalFields)))) ∧
       (bits v 1 0 = 2 → u.changeBar role .tariff (Obj.tariff.actable role) ≠ 0 → objNamed q.obis = some .tariff → After (.actionActivate m v) s (fun t => barred (u.changeBar role .tariff (Obj.tariff.actable role)) t)) ∧
       (∀ p, s.tar.passive = some p → bits v 1 0 = 2 → bits v 15 8 = 1 → objNamed q.obis = some .tariff → u.changeBar role .tariff (Obj.tariff.actable role) = 0 → q.arg % 60 = 0 → u.gridNow + 15 ≤ q.arg →
        s.tar.armed = none → u.legalStore = true → After (.actionActivate m v) s (fun t => ended 1 u t ∧ t.tar.armed = some { p with actMin := q.arg } ∧ t.tar.passive = none ∧
          t.rd F.TAR_GEN_PEND = p.gen % F.TAR_GEN_PEND.bound ∧ t.rd F.TAR_ACT_MIN = q.arg % F.TAR_ACT_MIN.bound ∧ t.rd F.LGL_LGEN = (s.rd F.LGL_LGEN + 1) % 2 ^ 32 ∧
          Frame u { t with lgl := u.lgl, jrn := u.jrn, tar := u.tar } ([F.TAR_GEN_PEND, F.TAR_ACT_MIN, F.LGL_LGEN, F.LGL_STAT_RESULT] ++ endFields ++ legalFields))) ∧
       (∀ a, s.tar.armed = some a → bits v 1 0 = 2 → bits v 15 8 = 2 → objNamed q.obis = some .tariff → u.changeBar role .tariff (Obj.tariff.actable role) = 0 →
        (a.actMin ≤ u.gridNow → After (.actionCancel m v) s (fun t => barred 4 t)) ∧
        (u.gridNow < a.actMin → u.legalStore = true → After (.actionCancel m v) s (fun t => ended 1 u t ∧ t.tar.armed = none ∧ t.tar.passive = some a ∧ t.rd F.TAR_GEN_PEND = 0 ∧ t.rd F.TAR_ACT_MIN = 0 ∧
          Frame u { t with lgl := u.lgl, jrn := u.jrn, tar := u.tar } ([F.TAR_GEN_PEND, F.TAR_ACT_MIN, F.LGL_LGEN, F.LGL_STAT_RESULT] ++ endFields ++ legalFields)))) ∧
       (bits v 1 0 = 2 → objNamed q.obis = some .vz → u.changeBar role .vz (Obj.vz.actable role) = 0 →
        (s.on F.TAR_CLOSE_STAT_BUSY = true → After (.actionClose m v) s (fun t => barred 6 t)) ∧
        (s.on F.TAR_CLOSE_STAT_BUSY = false → s.tar.due = none → After (.actionClose m v) s (fun t => ended 1 u t ∧ t.tar = { s.tar with due := some (u.fileStart u.gridNow + u.fileLen u.gridNow) } ∧
          Frame u { t with lgl := u.lgl, jrn := u.jrn, tar := u.tar } (F.TAR_BP_END :: endFields ++ legalFields)))) ∧
       (bits v 1 0 = 2 → objNamed q.obis = some .log → u.changeBar role .log (Obj.log.actable role) = 0 → After (.actionAck m v) s (fun t => ended 1 u t ∧ t.lgl.sinceAck = 1 ∧ t.rd F.LGL_LOG_NEAR = 0 ∧ t.tar = s.tar ∧
          Frame u { t with lgl := u.lgl, jrn := u.jrn } (endFields ++ legalFields))))

/-- Where the unit works and the journal has room, the oldest closed tree whose leaves are complete is sealed: without the key slot's leave SIGN_DENY counts with bit 1; else a seal is made whose header holds the next SEQ, the tree's root and leaf count and the digest of the previous seal, signed with the slot's key, journaled as a SEAL record and kept with its leaves; SEQ, LAST_DIGEST and SEALS move on, bit 0 is set and the tree is gone. The oldest seal is released once the partner has its record; a RELAY then queues its batch. A HEAD re-seals the oldest own interval when every unit has delivered, or when the grace expires, under the same leave: a re-seal with the next RSEQ, the digest of the one before and the root of its leaves is journaled and kept, RSEQ and RESEALS advance, bit 4. A proof request without GO stores its fields; to a queue that is no output queue it ends with RES 8; for an own record it is BUSY until it is done: the proof goes to the queue with RES 1, or RES 2 to 6 with bit 5; for a unit out of reach RES 7. Model's choices: log entries 64, 86, 100. -/
def Obligations.SealsReSealsAndProofs : Prop :=
  (∀ (s : State) (tr : Tree), s.hlm.trees.head? = some tr → s.domOn Dom.PKT = true → s.domOn Dom.SEC = true → s.working = true → s.jrnRoom = true →
    let slot := s.rd F.HLM_SIGN_SLOT
    let key := s.keyOf slot
    (tr.close.isNone = true ∨ (s.treeLeaves tr).isNone = true → After .sealInterval s (fun t => Frame s t [])) ∧
    (∀ c, tr.close = some c → ∀ l, s.treeLeaves tr = some l →
      let n := l.2.length
      let h : SealHead := { kind := 0, flags := b2n c.more + 2 * b2n l.1 + 16 * b2n (n == 0), unit := s.unitAddr, flen := tr.flen, part := tr.part, seq := s.sealSeq, istart := tr.istart, cstatus := c.cstatus, ckind := c.ckind, qual := tr.qual, startC := tr.startC, endC := c.endC, tstart := tr.tstart, restart := tr.restart, nleaf := n, first := if n = 0 then 0 else tr.first, last := if n = 0 then 0 else tr.last, root := treeRoot l.2, prev := s.lastDigest, keyId := keyId (Config.pubKey key), fstartC := tr.fstartC }
      let b := h.bytes ++ (Config.ecdsaSign key h.bytes ++ be 96 0).take 96
      let w := s.makeSeal tr c l.1 l.2 key
      let x : Sealed := { bytes := b, seq := s.sealSeq, startC := tr.startC, istart := tr.istart, leaves := l.2, jseq := w.jrn.seq, released := false };
      (s.keyAllows slot Mst.ENG true Use.SEAL_SIGN = false → After .sealInterval s (fun t =>
        let u := s.keyDeny slot Mst.ENG Use.SEAL_SIGN
        Counted u t F.HLM_SIGN_DENY ∧ Interrupt t Pg.HLM 1 ∧ Frame u t (F.HLM_SIGN_DENY :: raised Pg.HLM))) ∧
      (s.keyAllows slot Mst.ENG true Use.SEAL_SIGN = true → exec .sealInterval s = s.done (if w.partnered then w else w.releaseSeal)) ∧
      w.hlm.sealed = s.hlm.sealed ++ [x] ∧ Journaled s w 5 b ∧ w.sealSeq = (s.sealSeq + 1) % 2 ^ 64 ∧
      (∀ i, i < 12 → w.rd (F.HLM_LAST_DIGEST i) = field (sealDigest b) (4 * i) 4) ∧ w.rd F.HLM_SEALS = (s.rd F.HLM_SEALS + 1) % F.HLM_SEALS.bound ∧ Interrupt w Pg.HLM 0 ∧
      w.hlm.trees = s.hlm.trees.filter (fun t => !(t.startC == tr.startC && t.close.isSome)) ∧ w.hlm.due = (if s.role = 2 then s.hlm.due ++ [b] else s.hlm.due) ∧
      (c.more = true → Counted s w F.HLM_PARTS) ∧ (l.1 = true → Counted s w F.HLM_REBUILT ∧ Interrupt w Pg.HLM 6) ∧
      Frame s { w with hlm := s.hlm, jrn := s.jrn, fresh := s.fresh } ([F.HLM_SEQ_LO, F.HLM_SEQ_HI, F.HLM_SEALS, F.HLM_PARTS, F.HLM_REBUILT, F.HLM_STAT_PEND, F.HLM_OPEN_NLEAF, F.HLM_OPEN_PART, F.HSH_COMP0, F.HSH_COMP1,
        F.PKE_SIGNS] ++ (List.range 12).map (fun i => F.HLM_LAST_DIGEST i) ++ raised Pg.HLM))) ∧
  (∀ s : State, s.domOn Dom.PKT = true → s.domOn Dom.SEC = true → s.working = true → s.jrnRoom = false → After .sealInterval s (fun t => Frame s t [])) ∧
  (∀ (s : State) (x : Sealed), s.hlm.sealed.find? (fun y => !y.released) = some x →
    let w := { s with hlm := { s.hlm with sealed := s.hlm.sealed.map (fun y : Sealed => if y.seq = x.seq then { y with released := true } else y) } };
    (s.partnerHas x.jseq = false → After .sealRelease s (fun t => Frame s t [])) ∧
    (s.partnerHas x.jseq = true → s.role ≠ 1 → After .sealRelease s (fun t => t.hlm = w.hlm ∧ Frame s { t with hlm := s.hlm } [])) ∧
    (s.partnerHas x.jseq = true → s.role = 1 → exec .sealRelease s = s.done (({ w with chn := { s.chn with due := s.chn.due ++ [x.seq] } }).sendBatches 8) ∧
      (s.linkIsUp 0 = false → After .sealRelease s (fun t => t.hlm = w.hlm ∧ t.chn = { s.chn with due := s.chn.due ++ [x.seq] } ∧ Frame s { t with hlm := s.hlm, chn := s.chn } [])))) ∧
  (∀ (s : State) (d : List (List Byte) × List Byte), s.resealDue = some d → s.role = 2 → s.domOn Dom.PKT = true → s.domOn Dom.SEC = true → s.working = true → s.jrnRoom = true →
    let slot := s.rd F.HLM_SIGN_SLOT
    let u := s.keyDeny slot Mst.ENG Use.SEAL_SIGN
    let r := s.makeReseal d.1 d.2 (s.keyOf slot)
    let all := s.chainUnits.all (fun i => s.unitDelivered (field d.2 16 4) i)
    let denied := fun (t : State) => Counted u t F.HLM_SIGN_DENY ∧ Interrupt t Pg.HLM 1 ∧ Frame u t (F.HLM_SIGN_DENY :: raised Pg.HLM);
    (all = false → After .reseal s (fun t => Frame s t [])) ∧
    (s.keyAllows slot Mst.ENG true Use.SEAL_SIGN = false → After .resealGraceExpire s (fun t => denied t) ∧ (all = true → After .reseal s (fun t => denied t))) ∧
    (s.keyAllows slot Mst.ENG true Use.SEAL_SIGN = true → exec .resealGraceExpire s = s.done r ∧ (all = true → exec .reseal s = s.done r)) ∧
    (∀ x, r.hlm.reseals.getLast? = some x → r.hlm.reseals = s.hlm.reseals ++ [x] ∧ x.istart = field d.2 16 4 ∧ Journaled s r 5 x.bytes ∧ r.hlm.resealDigest = sealDigest x.bytes ∧
      field x.bytes 2 1 = 1 ∧ field x.bytes 8 8 = s.rd64 F.HLM_RSEQ_LO F.HLM_RSEQ_HI % 2 ^ 64 ∧ field x.bytes 16 4 = x.istart ∧ field x.bytes 52 4 = x.leaves.length % 2 ^ 32 ∧
      (x.bytes.drop 72).take 48 = (treeRoot (x.leaves.map leafHash) ++ be 48 0).take 48 ∧ (x.bytes.drop 120).take 48 = (s.hlm.resealDigest ++ be 48 0).take 48) ∧
    r.hlm.reseals.length = s.hlm.reseals.length + 1 ∧
    r.hlm.due = s.hlm.due.filter (fun y => sealFstart y != sealFstart d.2) ∧ r.rd64 F.HLM_RSEQ_LO F.HLM_RSEQ_HI = (s.rd64 F.HLM_RSEQ_LO F.HLM_RSEQ_HI + 1) % 2 ^ 64 ∧
    r.rd F.HLM_RESEALS = (s.rd F.HLM_RESEALS + 1) % F.HLM_RESEALS.bound ∧ Interrupt r Pg.HLM 4 ∧
    Frame s { r with hlm := s.hlm, jrn := s.jrn, fresh := s.fresh } ([F.HLM_RSEQ_LO, F.HLM_RSEQ_HI, F.HLM_RESEALS, F.PKE_SIGNS, F.HSH_COMP0, F.HSH_COMP1] ++ raised Pg.HLM)) ∧
  (∀ (m : Master) (v : Word) (s : State), s.judge m Pg.HLM 0x108 = .open →
    let unit := s.rd F.HLM_PRQ_KEY_UNIT
    let asked := fun (t : State) => t.rd F.HLM_PRQ_CTL_EXT = b2n (bit v 24) ∧ t.rd F.HLM_PRQ_CTL_ANNEX = bits v 15 8
    let refused := fun (r : Nat) (t : State) => asked t ∧ t.rd F.HLM_PRQ_CTL_RES = r ∧ t.rd F.HLM_PRQ_CTL_BUSY = 0 ∧ t.hlm.prq = none ∧ Interrupt t Pg.HLM 5 ∧
      Frame s { t with hlm := s.hlm } ([F.HLM_PRQ_CTL_EXT, F.HLM_PRQ_CTL_ANNEX, F.HLM_PRQ_CTL_RES, F.HLM_PRQ_CTL_BUSY] ++ raised Pg.HLM);
    (bit v 31 = false ∨ s.hlm.prq.isSome = true → After (.proofRequest m v) s (fun t => asked t ∧ Frame s t [F.HLM_PRQ_CTL_EXT, F.HLM_PRQ_CTL_ANNEX])) ∧
    (bit v 31 = true → s.hlm.prq = none → queueNamed (s.rd F.HLM_PRQ_Q) = false → After (.proofRequest m v) s (fun t => refused 8 t)) ∧
    (bit v 31 = true → s.hlm.prq = none → queueNamed (s.rd F.HLM_PRQ_Q) = true → (s.role ≠ 2 ∨ unit = 0) → After (.proofRequest m v) s (fun t => asked t ∧ t.rd F.HLM_PRQ_CTL_BUSY = 1 ∧ t.rd F.HLM_PRQ_CTL_RES = 0 ∧
      t.hlm = { s.hlm with prq := some ⟨chanKey unit (s.rd F.HLM_PRQ_KEY_NODE) (s.rd F.HLM_PRQ_KEY_CH), s.rd F.HLM_PRQ_SLOT, bits v 15 8, bit v 24 && decide (s.role = 2), 0⟩ } ∧
      Frame s { t with hlm := s.hlm } [F.HLM_PRQ_CTL_EXT, F.HLM_PRQ_CTL_ANNEX, F.HLM_PRQ_CTL_RES, F.HLM_PRQ_CTL_BUSY])) ∧
    (bit v 31 = true → s.hlm.prq = none → queueNamed (s.rd F.HLM_PRQ_Q) = true → s.role = 2 → unit ≠ 0 → ((SMap.getD s.chn.units unit {}).reachable = false ∨ s.rd F.CHN_UNITS ≤ unit) → After (.proofRequest m v) s (fun t => refused 7 t))) ∧
  (∀ (s : State) (p : ProofReq), s.hlm.prq = some p → p.unit = 0 → s.domOn Dom.PKT = true →
    (∀ c, (s.ownProof p.key p.slot p.annex p.ext).getRight? = some c → 2 ≤ c ∧ c ≤ 6 ∧ After .proofDone s (fun t => t.hlm = { s.hlm with prq := none } ∧ t.rd F.HLM_PRQ_CTL_BUSY = 0 ∧ t.rd F.HLM_PRQ_CTL_RES = c ∧
      Interrupt t Pg.HLM 5 ∧ Frame s { t with hlm := s.hlm } ([F.HLM_PRQ_CTL_BUSY, F.HLM_PRQ_CTL_RES] ++ raised Pg.HLM))) ∧
    (∀ b, (s.ownProof p.key p.slot p.annex p.ext).getLeft? = some b →
      let r := s.outputPacket (s.rd F.HLM_PRQ_Q) b;
      After .proofDone s (fun t => t.hlm.prq = none ∧ t.rd F.HLM_PRQ_CTL_BUSY = 0 ∧ t.rd F.HLM_PRQ_CTL_RES = (if r.1 then 1 else 8) ∧
        (r.1 = true → t.rd F.HLM_PRQ_LEN = b.length % F.HLM_PRQ_LEN.bound) ∧ (r.1 = false → t.rd F.HLM_PRQ_LEN = r.2.rd F.HLM_PRQ_LEN) ∧ Interrupt t Pg.HLM 5 ∧
        Frame r.2 { t with hlm := r.2.hlm } ([F.HLM_PRQ_CTL_BUSY, F.HLM_PRQ_CTL_RES, F.HLM_PRQ_LEN] ++ raised Pg.HLM))))

/-- With TSK on, outside HOLDUP and once profile task code has acted on the drain, Touchstone takes the drain's event: off the raster or disabled it only drops it; with BALANCE tasks to wait for it keeps it; else each interval that is due is closed, its open sums dropped and the group closed up to its end. The oldest alarm is localised, ending with bit 5. MODEL_CTL acts on the selected detector and clears both sums, but for HOLD: WRITE takes A, B and sigma from the registers (state 1), RELEARN clears the fit (state 0), RESUME leaves HOLD to WATCH with a model, else to LEARN; HOLD sets state 4. A configuration write that makes the group's configuration illegal changes nothing, counts CFG_REFUSED and sets bit 6; a legal one stores its fields. A day evaluation notes the day; a checkpoint keeps the members' state. Model's choices: log entries 87, 88, 89. -/
def Obligations.LossDetectionCommands : Prop :=
  (∀ (s : State) (e : BndEvent), s.bndTch.head? = some e →
    let es := s.bndTch.tail
    let held := !s.domOn Dom.TSK || s.mode == Md.HOLDUP || s.bndPrf.any (fun x => decide (x.c ≤ e.c))
    let m := s.gridMin e.target
    (held = true → After .tchGroupClose s (fun t => Frame s t [])) ∧
    (held = false → (s.onRaster e.target = false ∨ s.on F.TCH_CTL_EN = false) → After .tchGroupClose s (fun t => t.bndTch = es ∧ Frame s { t with bndTch := s.bndTch } [])) ∧
    (held = false → s.onRaster e.target = true → s.on F.TCH_CTL_EN = true → s.balanceWaits m = true → After .tchGroupClose s (fun t => Frame s t [])) ∧
    (held = false → s.onRaster e.target = true → s.on F.TCH_CTL_EN = true → s.balanceWaits m = false →
      exec .tchGroupClose s = s.done (({ s with bndTch := es }).tchDrain m) ∧
      (∀ x, s.tch.vers.head? = some x → s.tch.vers.length = 1 → ∀ a, (s.groupDue x.1 m).head? = some a → (s.groupDue x.1 m).length = 1 →
        let g := x.1; After .tchGroupClose s (fun t => t.bndTch = es ∧ SMap.find? t.tch.opens (openKey g a) = none ∧
        SMap.find? t.tch.closedTo g = some (a + lenMin (((s.verAt g a).map (fun v => v.len)).getD (s.rd (F.TCH_GRP_CFG_LEN g)))))))) ∧
  (∀ (s : State) (x : TchAlarm), s.tch.alarms.head? = some x →
    let xs := s.tch.alarms.tail;
    (s.domOn Dom.TSK = false → After .tchLocalise s (fun t => Frame s t [])) ∧
    (s.domOn Dom.TSK = true → (s.verAt x.grp x.istart).isNone = true → After .tchLocalise s (fun t => t.tch = { s.tch with alarms := xs } ∧ Frame s { t with tch := s.tch } [])) ∧
    (s.domOn Dom.TSK = true → (s.verAt x.grp x.istart).isSome = true → After .tchLocalise s (fun t => t.tch.alarms = xs ∧ Interrupt t Pg.TCH 5))) ∧
  (∀ s : State,
    let day := s.gridNow / 1440
    (s.on F.TCH_CTL_EN = true → s.domOn Dom.TSK = true → s.tch.dayDone < day → After .tchDayEval s (fun t => t.tch.dayDone = day ∧
      (s.enabledGroups = [] → t.tch = { s.tch with dayDone := day } ∧ Frame s { t with tch := s.tch } []))) ∧
    (day ≤ s.tch.dayDone → After .tchDayEval s (fun t => Frame s t []))) ∧
  (∀ (m : Master) (v : Word) (s : State), s.judge m Pg.TCH 0xB8 = .open →
    let g := s.rd F.TCH_GRP_SEL
    let p := if s.rd F.TCH_PH_SEL = 3 then 0 else s.rd F.TCH_PH_SEL
    let d := s.det g p
    let only := fun (b : Nat) => (List.range 4).all (fun i => bit v i == decide (i = b))
    let became := fun (d' : TchDet) (t : State) => t.det g p = d' ∧ (∀ h q, detKey h q ≠ detKey g p → t.det h q = s.det h q) ∧ Frame s { t with tch := s.tch } [];
    (only 0 = true → After (.modelWrite m v) s (fun t => became { d.cleared with st := 1, msrc := 2, a := s.tch.stgA.getD d.a, b := s.tch.stgB.getD d.b, sigma := max 256 (s.tch.stgS.getD d.sigma) } t ∧
      t.tch.stgA = none ∧ t.tch.stgB = none ∧ t.tch.stgS = none)) ∧
    (only 1 = true → After (.modelRelearn m v) s (fun t => became { d.cleared with st := 0, fit := {} } t)) ∧
    (only 2 = true → After (.modelHold m v) s (fun t => became { d with st := 4 } t)) ∧
    (only 3 = true → d.st = 4 → After (.modelResume m v) s (fun t => became { d.cleared with st := if d.msrc = 0 then 0 else 1 } t)) ∧
    (only 3 = true → d.st ≠ 4 → After (.modelResume m v) s (fun t => Frame s t []))) ∧
  (∀ (m : Master) (r : TchReg) (v : Word) (s : State), s.judge m Pg.TCH (tchRegOff r) = .open →
    let g := s.rd F.TCH_GRP_SEL
    let fs := tchRegFields r g (mbrKey g (s.rd F.TCH_MBR_SEL))
    let u := fs.foldl (fun (t : State) f => t.wr f (f.ofWord v)) s
    (u.tchLegal g = false → After (.tchConfigWrite m r v) s (fun t => Counted s t F.TCH_CFG_REFUSED ∧ Interrupt t Pg.TCH 6 ∧ Frame s t (F.TCH_CFG_REFUSED :: raised Pg.TCH))) ∧
    (u.tchLegal g = true → After (.tchConfigWrite m r v) s (fun t => (∀ f ∈ fs, t.rd f = f.ofWord v) ∧
      ((r = .refNode ∨ r = .refCh ∨ r = .mbrCfg) → ∀ p, p < 3 → (t.det g p).pos = 0 ∧ (t.det g p).neg = 0) ∧ Frame s { t with tch := s.tch } (F.TCH_GRP_USED :: fs)))) ∧
  (∀ s : State, s.on F.TCH_CTL_EN = true → s.domOn Dom.TSK = true → s.rd F.IGT_STATE_MODE < 4 → After .tchCheckpoint s (fun t => t.tch = { s.tch with ckpt := s.tch.mbrs } ∧ Frame s { t with tch := s.tch } []))

/-- An AU write programs the physical AU with its logical number, appends a LOCAL MAP record, maps the logical AU and serves the oldest task's waiting write; its map page is dirty in WB, and programmed at once in the write-through tiers; it is left undone while the dirty map or the journal is at its bound. A map page is programmed as it stands with the last sequence, and is clean. An append takes the next sequence at the end of the tail, or waits and is counted. A page program moves the oldest records that fit to the end of the pages; the oldest page is released once all its records lie below the horizon, its GATE records being kept. After each the figures follow; where the journal comes to JRNL_HIGH bit 7 stands and Gate's checkpoint is taken. A read counts on its block, its corrections, retries up to RETRY_MAX and an uncorrectable codeword. A failed program retires the block, and too few spares make the store READ_ONLY. Model's choices: log entries 90, 103. -/
def Obligations.StoreWritesJournalAndReads : Prop :=
  (∀ (logical phys : BitVec 32) (data : List Byte) (s : State),
    let l := logical.toNat
    let p := phys.toNat
    let full := s.rd F.IGT_STATE_TIER = 0 ∧ s.rd F.IGT_DIRTY_EFF * 1024 ≤ s.dirtyKib
    let u := (((s.auProgram p l data).journalRec 11 true (be 2 1 ++ be 2 0 ++ be 4 l ++ be 4 p)).mapSet l p).writeServed
    (l < s.logicalAus → s.igtWrites = true → s.auErased p = true → ¬ full → s.jrnRoom = true →
      u.nand.aus = SMap.set s.nand.aus p ⟨l, data⟩ ∧ u.nand.map = SMap.set s.nand.map l p ∧ u.jrn = (s.journalRec 11 true (be 2 1 ++ be 2 0 ++ be 4 l ++ be 4 p)).jrn ∧
      u.prf = { s.prf with writes := s.prf.writes.drop 1 } ∧
      (s.rd F.IGT_STATE_TIER = 0 → l / 4096 ∈ u.nand.dirty ∧ u.nand.stored = s.nand.stored) ∧
      (s.rd F.IGT_STATE_TIER ≠ 0 → l / 4096 ∉ u.nand.dirty ∧ SMap.find? u.nand.stored (l / 4096) = some ⟨u.jrn.seq, u.mapPage (l / 4096)⟩) ∧
      u.rd F.IGT_PROG_AU = (s.rd F.IGT_PROG_AU + 1) % F.IGT_PROG_AU.bound ∧ u.ledger 17 = min (s.ledger 17 + 1) (2 ^ 48 - 1) ∧
      Frame s { u with nand := s.nand, jrn := s.jrn, prf := s.prf } [F.IGT_PROG_AU, F.LDG_WORD 34, F.LDG_WORD 35] ∧
      exec (.auWrite logical phys data) s = s.done u.igtSync ∧
      (journalRises s u = false → After (.auWrite logical phys data) s (fun t => t.nand = u.nand ∧ t.jrn = u.jrn ∧
        Frame s { t with nand := s.nand, jrn := s.jrn, prf := s.prf } ([F.IGT_PROG_AU, F.LDG_WORD 34, F.LDG_WORD 35] ++ igtFields)))) ∧
    (l < s.logicalAus → s.igtWrites = true → s.auErased p = true → full → After (.auWrite logical phys data) s (fun t => Frame s t [])) ∧
    (l < s.logicalAus → s.igtWrites = true → s.auErased p = true → ¬ full → s.jrnRoom = false → After (.auWrite logical phys data) s (fun t => Counted s t F.IGT_JRNL_WAIT ∧ Frame s t [F.IGT_JRNL_WAIT]))) ∧
  (∀ (page : BitVec 20) (s : State), s.jrnStore = true → page.toNat ∈ s.nand.dirty → journalRises s s = false → After (.mapPageProgram page) s (fun t =>
    t.nand = { s.nand with stored := SMap.set s.nand.stored page.toNat ⟨s.jrn.seq, s.mapPage page.toNat⟩, dirty := s.nand.dirty.filter (fun q => q != page.toNat) } ∧
    Frame s { t with nand := s.nand } igtFields)) ∧
  (∀ (kind : Fin 16) (loc : Bool) (body : List Byte) (s : State), 1 ≤ kind.val → kind.val ≤ 12 → body.length ≤ 65535 →
    (s.jrnRoom = true → (s.partnered = false ∨ s.pair.active = true) →
      let u := ({ s with jrn := { s.jrn with seq := s.jrn.seq + 1, tail := s.jrn.tail ++ [{ seq := s.jrn.seq + 1, kind := kind.val, isLocal := loc, body := body }] } } : State)
      exec (.journalAppend kind loc body) s = s.done u.igtSync ∧
      (journalRises s u = false → After (.journalAppend kind loc body) s (fun t => t.jrn = u.jrn ∧ Frame s { t with jrn := s.jrn } igtFields))) ∧
    (s.jrnRoom = false → After (.journalAppend kind loc body) s (fun t => Counted s t F.IGT_JRNL_WAIT ∧ Frame s t [F.IGT_JRNL_WAIT]))) ∧
  (∀ s : State, s.jrnStore = true → s.jrn.tail ≠ [] →
    let n := max 1 (fitPage (s.pins.nand.pageKib * 1024 - 32) s.jrn.tail)
    let u := ({ s with jrn := { s.jrn with pages := s.jrn.pages ++ [s.jrn.tail.take n], tail := s.jrn.tail.drop n } } : State)
    exec .journalPageProgram s = s.done u.igtSync ∧
    (journalRises s u = false → After .journalPageProgram s (fun t => t.jrn = u.jrn ∧ Frame s { t with jrn := s.jrn } igtFields)) ∧
    (journalRises s u = true → s.rd F.IGT_STATE_MODE ≠ 0 → After .journalPageProgram s (fun t => Interrupt t Pg.IGT 7 ∧ (s.domOn Dom.PKT = true → ∀ e ∈ t.gate.nbr, e.2.changed = false) ∧
      t.jrn.pages = u.jrn.pages ∧ t.jrn.tail.take u.jrn.tail.length = u.jrn.tail ∧ t.nand = s.nand))) ∧
  (∀ (s : State) (p : List JRec), s.jrn.pages.head? = some p → s.jrnStore = true →
    let u := ({ s with jrn := { s.jrn with pages := s.jrn.pages.tail }, gate := { s.gate with saved := p.foldl keepGate s.gate.saved } } : State)
    ((∀ j ∈ p, j.seq < s.releaseHorizon) → exec .journalRelease s = s.done u.igtSync ∧ (journalRises s u = false → After .journalRelease s (fun t => t.jrn = u.jrn ∧ t.gate = u.gate ∧
      Frame s { t with jrn := s.jrn, gate := s.gate } igtFields))) ∧
    ((∃ j ∈ p, s.releaseHorizon ≤ j.seq) → After .journalRelease s (fun t => Frame s t []))) ∧
  (∀ (blk bits : Nat) (s : State), s.jrnStore = true → s.mode ≠ Md.OUTAGE → s.validAus blk ≠ [] → After (.patrolRead blk bits) s (fun t =>
    t.nblock blk = { s.nblock blk with reads := (s.nblock blk).reads + s.pins.nand.ppb, weak := (s.nblock blk).weak || decide (s.rdIn F.IGT_REFRESH_BITS 8 72 ≤ bits) } ∧
    (∀ b, b ≠ blk → t.nblock b = s.nblock b) ∧ (0 < bits → Counted s t (F.ERR_CORR Pg.IGT)) ∧
    Frame s { t with nand := s.nand } (if 0 < bits then [F.ERR_CORR Pg.IGT] else []))) ∧
  (∀ (phys : BitVec 32) (bits retries : Nat) (unc : Bool) (s : State), s.domOn Dom.NVM = true → s.rd F.IGT_STATE_MODE ≠ 5 → s.pins.nand.hasAu phys.toNat = true →
    After (.nandRead phys bits retries unc) s (fun t =>
      (t.nblock (s.auBlock phys.toNat)).reads = (s.nblock (s.auBlock phys.toNat)).reads + 1 ∧ (0 < bits → Counted s t (F.ERR_CORR Pg.IGT)) ∧
      t.rd F.IGT_RETRIES = min (s.rd F.IGT_RETRIES + min retries (s.rd F.IGT_RETRY_MAX)) (F.IGT_RETRIES.bound - 1) ∧
      (unc = true → Counted s t (F.ERR_UNC Pg.IGT) ∧ Interrupt t Pg.IGT 31 ∧ Interrupt t Pg.IGT 2) ∧
      Frame s { t with nand := s.nand } ([F.IGT_RETRIES] ++ (if 0 < bits then [F.ERR_CORR Pg.IGT] else []) ++ (if unc then F.ERR_UNC Pg.IGT :: raised Pg.IGT else [])))) ∧
  (∀ (blk : Nat) (s : State), s.jrnStore = true → blk < s.pins.nand.blocks → (s.nblock blk).bad = false →
    let u := s.retireBlock blk
    (u.nblock blk).bad = true ∧ (∀ b, b ≠ blk → u.nblock b = s.nblock b) ∧ Counted s u F.IGT_GROWN_BAD ∧ Interrupt u Pg.IGT 3 ∧ u.rd F.IGT_SPARE_NOW = (s.rd F.IGT_SPARE_NOW - 1) % F.IGT_SPARE_NOW.bound ∧
    ((s.rd F.IGT_SPARE_NOW - 1) * 1000 < s.pins.nand.blocks → s.rd F.IGT_STATE_MODE < 4 → u.rd F.IGT_STATE_MODE = 4 ∧ Interrupt u Pg.IGT 1) ∧
    (s.pins.nand.blocks ≤ (s.rd F.IGT_SPARE_NOW - 1) * 1000 → u.rd F.IGT_STATE_MODE = s.rd F.IGT_STATE_MODE) ∧
    Frame s { u with nand := s.nand } ([F.IGT_GROWN_BAD, F.IGT_SPARE_NOW, F.IGT_STATE_MODE] ++ raised Pg.IGT) ∧ exec (.nandProgFail blk) s = s.done u.selfCheck)

/-- Where a block is collected, moved for wear levelling, or refreshed, its valid AUs are copied, each copy gets its MAP pair in the journal, programmed before the map names it, the block is erased with one erase more and its read count and weakness cleared, GC_MOVED grows by the copies, and a refresh counts in REFRESHES. A block that is not due, or whose copies do not fit, is left alone. A capacitor test starts with the supplies good and outside OUTAGE and HOLDUP: WT_ALL, the tail and the dirty map programmed, BUSY, the pin high; by itself only when a test is due. The fall of HOLD_V ends it: T_TEST the elapsed ms, T_HOLD scaled by the loads (with a draw of 0 a free value), result 1 or below 50 ms 2 with bit 5; no fall within its limit ends it 4 with 500 ms; the pin goes low, bit 4, and WT_ALL stays until the recharge ends, when tier and DIRTY_EFF follow B again. Model's choices: log entries 90, 91. -/
def Obligations.BlocksMovedAndCapacitorTested : Prop :=
  (∀ (blk : Nat) (dst : List CopyTo) (s : State), s.jrnStore = true →
    let due := (s.victim == some blk && (s.gcMode == 2 || s.gcMode == 3)) || s.trails blk
    let worn := (s.nblock blk).weak || decide (s.rdIn F.IGT_RD_LIMIT 1000 10000000 ≤ (s.nblock blk).reads)
    (due = false ∨ (s.copyAus (s.validAus blk) dst []).isNone = true → After (.gcRelocate blk dst) s (fun t => Frame s t [])) ∧
    (worn = false ∨ (s.copyAus (s.validAus blk) dst []).isNone = true → After (.blockRefresh blk dst) s (fun t => Frame s t [])) ∧
    (∀ x, s.copyAus (s.validAus blk) dst [] = some x →
      let l := x.1
      let u := x.2
      let r := u.mapRecords (l.length + 1) l
      let w := ((l.foldl (fun (v : State) e => v.mapSet e.1 e.2) (r.tailProgram (r.jrn.tail.length + 1))).eraseBlock blk).wr F.IGT_GC_MOVED (s.rd F.IGT_GC_MOVED + l.length)
      (∀ e ∈ w.nand.aus, w.auBlock e.1 ≠ blk) ∧ (∀ e ∈ u.nand.aus, u.auBlock e.1 ≠ blk → e ∈ w.nand.aus) ∧
      w.nblock blk = { u.nblock blk with erases := (u.nblock blk).erases + 1, reads := 0, weak := false } ∧ (∀ b, b ≠ blk → w.nblock b = u.nblock b) ∧
      w.nand.map = l.foldl (fun m e => SMap.set m e.1 e.2) u.nand.map ∧ w.jrn.tail = [] ∧ w.rd F.IGT_ERASES = (u.rd F.IGT_ERASES + 1) % F.IGT_ERASES.bound ∧
      w.rd F.IGT_GC_MOVED = (s.rd F.IGT_GC_MOVED + l.length) % F.IGT_GC_MOVED.bound ∧ w.ledger 18 = min (u.ledger 18 + 1) (2 ^ 48 - 1) ∧
      Frame u { w with nand := u.nand, jrn := u.jrn } [F.IGT_ERASES, F.IGT_GC_MOVED, F.LDG_WORD 36, F.LDG_WORD 37] ∧
      (due = true → exec (.gcRelocate blk dst) s = s.done w.igtSync) ∧
      (worn = true → exec (.blockRefresh blk dst) s = s.done (w.igtSync.sat F.IGT_REFRESHES)))) ∧
  (∀ (m : Master) (s : State),
    let under := fun (a : State) => ({ a with nand := { a.nand with capAt := some a.raw, retryAt := none } } : State)
    let moved := fun (a : State) => (((under a).gpioFollow a).tierUpdate.tailProgram (a.jrn.tail.length + 1))
    let begun := fun (a : State) => (moved a).nand.dirty.foldl (fun (t : State) p => t.mapProgram p) (moved a)
    let fs := [F.IGT_STATE_TIER, F.IGT_DIRTY_EFF] ++ raised Pg.GPIO;
    s.nand.capAt = none → s.jrnStore = true → s.pins.pfN = true → s.pins.mainsOk = true → s.mode ≠ Md.OUTAGE →
    (s.rd F.IGT_CAP_CTL_EN = 1 → s.capDue = true →
      let u := begun s;
      u.nand.dirty = [] ∧ u.jrn.tail = [] ∧ u.rd F.IGT_STATE_TIER = 2 ∧ u.rd F.IGT_DIRTY_EFF = 0 ∧ u.nand.capAt = some s.raw ∧ u.nand.map = s.nand.map ∧ u.nand.aus = s.nand.aus ∧
      (∀ k, k < 16 → s.pinCap k = true → s.domOn Dom.IOX = true → s.pinArb k = false → Sent u (.gpio k true)) ∧ Frame s { u with nand := s.nand, jrn := s.jrn } fs ∧
      exec (.capTest m none) s = s.done (u.igtSync.wr F.IGT_CAP_STAT_BUSY 1)) ∧
    (s.rd F.IGT_CAP_CTL_EN = 0 ∨ s.capDue = false → After (.capTest m none) s (fun t => Frame s t [])) ∧
    (∀ v : Word, s.judge m Pg.IGT 0x94 = .open →
      let a := (((s.wr F.IGT_CAP_CTL_EN (bits v 1 1)).wr F.IGT_CAP_CTL_PIN (bits v 11 8)).wr F.IGT_CAP_CTL_LOAD_MW (bits v 31 16)).gpioFollow s;
      a.rd F.IGT_CAP_CTL_EN = bits v 1 1 ∧ a.rd F.IGT_CAP_CTL_PIN = bits v 11 8 ∧ a.rd F.IGT_CAP_CTL_LOAD_MW = bits v 31 16 ∧
      (bit v 0 = false ∨ bit v 1 = false → After (.capTest m (some v)) s (fun t => t.rd F.IGT_CAP_CTL_EN = bits v 1 1 ∧ t.rd F.IGT_CAP_CTL_PIN = bits v 11 8 ∧ t.rd F.IGT_CAP_CTL_LOAD_MW = bits v 31 16 ∧
        Frame s t ([F.IGT_CAP_CTL_EN, F.IGT_CAP_CTL_PIN, F.IGT_CAP_CTL_LOAD_MW] ++ raised Pg.GPIO))) ∧
      (bit v 0 = true → bit v 1 = true →
        let u := begun a;
        u.nand.dirty = [] ∧ u.jrn.tail = [] ∧ u.rd F.IGT_STATE_TIER = 2 ∧ u.rd F.IGT_DIRTY_EFF = 0 ∧ u.nand.capAt = some s.raw ∧
        exec (.capTest m (some v)) s = s.done (u.igtSync.wr F.IGT_CAP_STAT_BUSY 1)))) ∧
  (∀ (c : Nat) (s : State), s.nand.capAt = some c →
    let ended := fun (res t1 t2 : Nat) (t : State) => t.nand = { s.nand with capAt := none, recharge := true } ∧ t.rd F.IGT_CAP_STAT_BUSY = 0 ∧
      (∀ k, k < 16 → s.pinCap k = true → s.domOn Dom.IOX = true → s.pinArb k = false → Sent t (.gpio k false)) ∧
      t.rd F.IGT_CAP_STAT_RESULT = res ∧ t.rd F.IGT_CAP_STAT_T_TEST = min 65535 t1 ∧ t.rd F.IGT_CAP_T_HOLD = min 65535 t2 ∧ t.rd F.IGT_CAP_LAST = s.ledgerTime / 86400 % F.IGT_CAP_LAST.bound ∧
      Interrupt t Pg.IGT 4 ∧ (res = 2 → Interrupt t Pg.IGT 5) ∧ t.rd F.IGT_STATE_TIER = 2 ∧ t.rd F.IGT_DIRTY_EFF = 0 ∧
      Frame s { t with nand := s.nand } ([F.IGT_CAP_STAT_BUSY, F.IGT_CAP_STAT_RESULT, F.IGT_CAP_STAT_T_TEST, F.IGT_CAP_T_HOLD, F.IGT_CAP_LAST, F.IGT_STATE_TIER, F.IGT_DIRTY_EFF] ++ raised Pg.IGT ++ raised Pg.GPIO)
    let ms := (s.raw - c) / 250000
    let hold := ms * s.rd F.IGT_CAP_CTL_LOAD_MW / s.rd F.IGT_CAP_HOLDUP_MW
    let free := s.freeVal 65536
    (s.rd F.IGT_CAP_HOLDUP_MW ≠ 0 → After .holdVFall s (fun t => ended (if hold < 50 then 2 else 1) ms hold t)) ∧
    (s.rd F.IGT_CAP_HOLDUP_MW = 0 → After .holdVFall s (fun t => ended (if free < 50 then 2 else 1) ms free { t with fresh := s.fresh })) ∧
    After .capTestNoFall s (fun t => ended 4 500 500 t)) ∧
  (∀ s : State, s.nand.recharge = true →
    let jt := s.rdIn F.IGT_JTAIL_MAX 1 16
    let b := s.flushBudget
    let forced := s.rd F.IGT_CTL_FORCE_WT = 1 ∨ s.nand.capAt.isSome = true
    After .capRechargeEnd s (fun t => t.nand = { s.nand with recharge := false } ∧
      (forced → t.rd F.IGT_STATE_TIER = 2 ∧ t.rd F.IGT_DIRTY_EFF = 0) ∧
      (¬ forced → ((jt + 1) * 1000000 : Nat) ≤ b → t.rd F.IGT_STATE_TIER = 0 ∧ t.rd F.IGT_DIRTY_EFF = min (s.rdIn F.IGT_DIRTY_MAX 1 24) ((b / 1000000 - jt).toNat)) ∧
      (¬ forced → b < ((jt + 1) * 1000000 : Nat) → (jt * 1000000 : Nat) ≤ b → t.rd F.IGT_STATE_TIER = 1 ∧ t.rd F.IGT_DIRTY_EFF = 0) ∧
      (¬ forced → b < (jt * 1000000 : Nat) → t.rd F.IGT_STATE_TIER = 2 ∧ t.rd F.IGT_DIRTY_EFF = 0) ∧
      Frame s { t with nand := s.nand } [F.IGT_STATE_TIER, F.IGT_DIRTY_EFF]))

/-- A used link that trains is UP with no frame held and its initial credits, bit 0; a RELAY then sends its batches again, a HEAD's enumerated units are reachable. A silent link is DOWN: counted, bit 1, its frames released, and it trains again while it is used; a HEAD's units beyond are unreachable, bit 5 where one was. A frame that does not parse or is out of order is dropped and counted; one in order sets the order and counts; a wrong MIC counts; a frame of the link's own types acts, and a DATA frame that is committed acts where the window of its link accepts it. A LINKCTL releases the frames it acknowledges and sets the peer's credits; sending one tells the order and the grants; withheld credits are granted once back-pressure ends. Retransmission sends every held frame again under its SEQ. EVENT and HOST messages have no further effect. Model's choices: log entry 97. -/
def Obligations.SerialLinksAndTheirFrames : Prop :=
  (∀ (l : Fin 2) (s : State), s.linkUsed l.val = true → s.linkIsUp l.val = false →
    let c := s.linkCred l.val
    let u := ((s.setSlink l.val { s.slink l.val with rxSeq := none, sent := [], wait0 := [], wait1 := [], cred0 := 0, cred1 := 0, used0 := 0, used1 := 0, grant0 := c, grant1 := c, held0 := 0, held1 := 0, changed := true }).wr (linkStat l.val) 2).raise Pg.CHN 0
    let v := u.setReach u.enumerated;
    (∀ k, k ≠ l.val → u.slink k = s.slink k) ∧ u.rd (linkStat l.val) = 2 ∧ Interrupt u Pg.CHN 0 ∧ Frame s { u with chn := s.chn } (linkStat l.val :: raised Pg.CHN) ∧
    (s.role = 1 → l.val = 0 → exec (.chnLinkUp l) s = s.done (({ u with chn := { u.chn with due := u.chn.inFlight ++ u.chn.due, inFlight := [] } }).sendBatches 8)) ∧
    (s.role = 2 → l.val = 1 → (∀ i, i ∈ s.chainUnits → (v.unit i).reachable = v.enumerated i) ∧ v.linkIsUp 1 = true ∧
      exec (.chnLinkUp l) s = s.done (if s.chn.walkDue then ({ v with chn := { v.chn with walkDue := false } }).linkCtlFrame 1 2 (be 1 1) else v)) ∧
    (¬ (s.role = 1 ∧ l.val = 0) → ¬ (s.role = 2 ∧ l.val = 1) → exec (.chnLinkUp l) s = s.done u)) ∧
  (∀ (l : Fin 2) (s : State), s.linkIsUp l.val = true → After (.chnLinkTimeout l) s (fun t =>
    t.slink l.val = { s.slink l.val with sent := [], wait0 := [], wait1 := [] } ∧ (∀ k, k ≠ l.val → t.slink k = s.slink k) ∧ t.rd (linkStat l.val) = (if s.linkUsed l.val then 1 else 0) ∧
    Counted s t F.CHN_LINK_DOWN_CNT ∧ Interrupt t Pg.CHN 1 ∧
    (s.role = 2 → l.val = 1 → (∀ i, (t.unit i).reachable = false ∧ ({ t.unit i with reachable := (s.unit i).reachable } : UnitInfo) = s.unit i) ∧ (s.chn.units.any (fun e => e.2.reachable) = true → Interrupt t Pg.CHN 5)) ∧
    (¬ (s.role = 2 ∧ l.val = 1) → t.chn = { s.chn with links := t.chn.links }) ∧
    Frame s { t with chn := s.chn } ([linkStat l.val, F.CHN_LINK_DOWN_CNT] ++ raised Pg.CHN))) ∧
  (∀ (l : Fin 3) (s : State), LinkOpen s l.val → After (.chnRetransmit l) s (fun t => (∀ e ∈ (s.slink l.val).sent, Sent t (wire s l.val e.1 e.2)) ∧
    t.rd (linkRtx l.val) = min (s.rd (linkRtx l.val) + (s.slink l.val).sent.length) ((linkRtx l.val).bound - 1) ∧ Frame s t [linkRtx l.val, F.CHN_TX_FRAMES])) ∧
  (∀ (l : Fin 3) (bytes : List Byte) (s : State), s.linkIsUp l.val = true →
    let data := creditFrame l.val (field bytes 0 1 % 16) && s.domOn Dom.PKT
    let dropped := fun (t : State) => (l.val ≠ 2 → Counted s t F.CHN_RX_DROP) ∧ (data = true → Counted s t F.CRU_REWIND) ∧ Frame s t ((if l.val = 2 then [] else [F.CHN_RX_DROP]) ++ (if data then [F.CRU_REWIND] else []))
    let kept := fun (a : State) (seq : Nat) => a.setSlink l.val { a.slink l.val with rxSeq := some seq, rxHeld := seq, changed := true }
    let counted := fun (a : State) => if l.val = 2 then a else a.wrap F.CHN_RX_FRAMES
    let acts := fun (a : State) (f : LinkFrame) => if l.val = 2 then a.mirFrameActs f else a.frameActs l.val (field bytes 4 4) f;
    ((linkParse bytes).isNone = true → After (.chnFrameRx l bytes) s (fun t => dropped t)) ∧
    (∀ x, linkParse bytes = some x →
      let seq := x.1
      let f := x.2;
      ((s.slink l.val).inOrder seq = false → After (.chnFrameRx l bytes) s (fun t => dropped t)) ∧
      ((s.slink l.val).inOrder seq = true → creditFrame l.val f.typ = false →
        let w := counted (kept s seq)
        let r := w.linkMicOk l.val bytes f seq;
        w.chn = { s.chn with links := w.chn.links } ∧ (l.val ≠ 2 → w.rd F.CHN_RX_FRAMES = (s.rd F.CHN_RX_FRAMES + 1) % F.CHN_RX_FRAMES.bound) ∧ (∀ k, k ≠ l.val → w.slink k = s.slink k) ∧
        Frame s { w with chn := s.chn } (if l.val = 2 then [] else [F.CHN_RX_FRAMES]) ∧
        (s.keyAllows (linkKeySlot l.val) Mst.CHN false Use.LINK_MIC = true → r.2 = w) ∧
        (r.1 = false → exec (.chnFrameRx l bytes) s = s.done (r.2.sat (linkMicFail l.val))) ∧
        (r.1 = true → field bytes 0 1 / 16 ≠ 1 → exec (.chnFrameRx l bytes) s = s.done r.2) ∧
        (r.1 = true → field bytes 0 1 / 16 = 1 → exec (.chnFrameRx l bytes) s = s.done (acts r.2 f))) ∧
      ((s.slink l.val).inOrder seq = true → creditFrame l.val f.typ = true →
        let c := s.linkCommit l.val bytes
        let u := c.2
        let bp := u.classBp (writerClass (if l.val = 2 then 68 else 64)) && (l.val != 2 || f.cls 2 == 1)
        let w := counted ((kept u seq).linkGrant l.val (f.cls l.val))
        let r := w.linkMicOk l.val bytes f seq
        let d := r.2.linkWindow (r.2.snapOf l.val (some (0x10000 + l.val)) false) (0x10000 + l.val) seq;
        (c.1 = false → exec (.chnFrameRx l bytes) s = s.done (if l.val = 2 then u else u.sat F.CHN_RX_DROP)) ∧
        (c.1 = true →
          (w.slink l.val).rxSeq = some seq ∧ (w.slink l.val).changed = true ∧
          (bp = false → f.cls l.val = 0 → (w.slink l.val).grant0 = ((u.slink l.val).grant0 + 1) % 65536) ∧ (bp = false → f.cls l.val = 1 → (w.slink l.val).grant1 = ((u.slink l.val).grant1 + 1) % 65536) ∧
          (bp = true → (w.slink l.val).grant0 = (u.slink l.val).grant0 ∧ (w.slink l.val).grant1 = (u.slink l.val).grant1) ∧
          (r.1 = false → exec (.chnFrameRx l bytes) s = s.done (r.2.sat (linkMicFail l.val))) ∧
          (r.1 = true → field bytes 0 1 / 16 ≠ 1 → exec (.chnFrameRx l bytes) s = s.done r.2) ∧
          (r.1 = true → field bytes 0 1 / 16 = 1 → l.val = 2 → exec (.chnFrameRx l bytes) s = s.done (r.2.mirFrameActs f)) ∧
          (r.1 = true → field bytes 0 1 / 16 = 1 → l.val ≠ 2 → d.1 = .accept → exec (.chnFrameRx l bytes) s = s.done (d.2.forward l.val f)) ∧
          (r.1 = true → field bytes 0 1 / 16 = 1 → l.val ≠ 2 → d.1 ≠ .accept → exec (.chnFrameRx l bytes) s = s.done d.2))))) ∧
  (∀ (l : Fin 3) (src : Byte) (ack : BitVec 32) (c0 c1 : BitVec 16) (s : State), s.linkIsUp l.val = true → (l.val = 2 → src.toNat ≠ s.linkSelf 2) →
    let u := s.setSlink l.val { s.slink l.val with sent := (s.slink l.val).sent.filter (fun e => decide (ack.toNat < e.1)), cred0 := c0.toNat, cred1 := c1.toNat };
    (∀ k, k ≠ l.val → u.slink k = s.slink k) ∧ Frame s { u with chn := s.chn } [] ∧ ((s.slink l.val).waiting = 0 → exec (.linkctl l src ack c0 c1) s = s.done u) ∧
    exec (.linkctl l src ack c0 c1) s = s.done (u.linkDrain l.val (u.slink l.val).waiting)) ∧
  (∀ (l : Fin 3) (s : State), LinkOpen s l.val →
    let x := s.slink l.val
    After (.linkctlSend l) s (fun t => SentOn (s.setSlink l.val { x with changed := false }) t l.val 1 (be 4 (x.rxSeq.getD x.rxHeld) ++ be 2 x.grant0 ++ be 2 x.grant1) ∧
      t.chn = { s.chn with links := t.chn.links } ∧ Frame s { t with chn := s.chn } [F.CHN_TX_FRAMES])) ∧
  (∀ (l : Fin 3) (s : State),
    let x := s.slink l.val
    let bp := s.classBp (writerClass (if l.val = 2 then 68 else 64))
    (bp = false → After (.creditReturn l) s (fun t => t.slink l.val = { x with grant0 := (x.grant0 + x.held0) % 65536, grant1 := (x.grant1 + x.held1) % 65536, held0 := 0, held1 := 0, changed := x.changed || decide (0 < x.held0 + x.held1) } ∧
      (∀ k, k ≠ l.val → t.slink k = s.slink k) ∧ t.chn = { s.chn with links := t.chn.links } ∧ Frame s { t with chn := s.chn } [])) ∧
    (bp = true → After (.creditReturn l) s (fun t => Frame s t []))) ∧
  (∀ (unit : BitVec 6) (body : List Byte) (s : State), After (.chnEvent unit body) s (fun t => Frame s t []) ∧ After (.chnHost unit body) s (fun t => Frame s t []))

/-- ENUM gives a RELAY the address it carries: it differs from the address held before or not, bit 3 and ADDR_CHANGED where it does; the walk goes on downstream where CHN_DN is UP, else ENUM_END goes back; then it names itself, its ports run and its batches go. From 64 on it has no address. ENUM_END passes a RELAY, and at the HEAD sets the number of units, which are reachable, bit 2. A RELAY whose walk gets no answer ends it itself. JOIN_REQ passes a RELAY and starts a walk at the HEAD; a RELAY without an address sends it. ADDR_ACCEPT makes the address the one held, and journals it. TIME, TIME_REQ and TIME_RSP frames are stamped as received, a TIME from the source ends its loss, and TIME_REQ is answered with its receive time; a beacon goes out and is stamped where the unit has a source. A read of a stamp FIFO pops its oldest entry and latches its words. Model's choices: log entry 98. -/
def Obligations.TheTokenWalkAndChainTime : Prop :=
  (∀ (next : Byte) (s : State), s.linkIsUp 0 = true →
    (s.role ≠ 1 → After (.enum next) s (fun t => Frame s t [])) ∧
    (s.role = 1 → 64 ≤ next.toNat →
      let u := (({ s with chn := { s.chn with hasAddr := false } } : State).wr F.CHN_ADDR 0x3F).wr F.CHN_STAT_NOADDR 1;
      u.rd F.CHN_ADDR = 0x3F ∧ u.rd F.CHN_STAT_NOADDR = 1 ∧ exec (.enum next) s = s.done ((u.linkCtlFrame 0 3 (be 1 63 ++ be 1 1)).portsFollow)) ∧
    (s.role = 1 → next.toNat < 64 →
      let a := (({ s with chn := { s.chn with hasAddr := true, enumWait := s.chn.enumWait || s.linkIsUp 1 } } : State).wr F.CHN_ADDR next.toNat).wr F.CHN_STAT_NOADDR 0
      let u := if next.toNat = s.rd F.CHN_ADDR_PREV then a.wr F.CHN_STAT_ADDR_CHANGED 0 else (a.wr F.CHN_STAT_ADDR_CHANGED 1).raise Pg.CHN 3;
      u.rd F.CHN_ADDR = next.toNat ∧ u.rd F.CHN_STAT_NOADDR = 0 ∧
      (next.toNat = s.rd F.CHN_ADDR_PREV → u.rd F.CHN_STAT_ADDR_CHANGED = 0) ∧ (next.toNat ≠ s.rd F.CHN_ADDR_PREV → u.rd F.CHN_STAT_ADDR_CHANGED = 1 ∧ Interrupt u Pg.CHN 3) ∧
      Frame s { u with chn := s.chn } ([F.CHN_ADDR, F.CHN_STAT_NOADDR, F.CHN_STAT_ADDR_CHANGED] ++ raised Pg.CHN) ∧
      exec (.enum next) s = s.done (((if s.linkIsUp 1 then u.linkCtlFrame 1 2 (be 1 (next.toNat + 1)) else u.linkCtlFrame 0 3 (be 1 next.toNat ++ be 1 0)).sendUnitId.portsFollow).sendBatches 8))) ∧
  (∀ (last : Byte) (overflow : Bool) (s : State), s.linkIsUp 1 = true →
    (s.role = 1 → LinkOpen s 0 → After (.enumEnd last overflow) s (fun t => SentOn s t 0 3 (be 1 last.toNat ++ be 1 (b2n overflow)) ∧ t.chn = { s.chn with enumWait := false, links := t.chn.links } ∧
      Frame s { t with chn := s.chn } [F.CHN_TX_FRAMES])) ∧
    (s.role = 2 → After (.enumEnd last overflow) s (fun t => t.rd F.CHN_UNITS = (last.toNat + 1) % F.CHN_UNITS.bound ∧ Interrupt t Pg.CHN 2 ∧
      (∀ i ∈ s.chainUnits, (t.unit i).reachable = (decide (1 ≤ i) && decide (i < t.rd F.CHN_UNITS))) ∧ (∀ i, ({ t.unit i with reachable := (s.unit i).reachable } : UnitInfo) = s.unit i) ∧
      (s.chn.units.any (fun e => e.2.reachable && !(decide (1 ≤ e.1) && decide (e.1 < t.rd F.CHN_UNITS))) = true → Interrupt t Pg.CHN 5) ∧ t.chn = { s.chn with units := t.chn.units } ∧
      Frame s { t with chn := s.chn } (F.CHN_UNITS :: raised Pg.CHN)))) ∧
  (∀ s : State, s.role = 1 → LinkOpen s 0 →
    (s.chn.enumWait = true → After .enumTimeout s (fun t => SentOn s t 0 3 (be 1 (s.rd F.CHN_ADDR) ++ be 1 0) ∧ t.chn = { s.chn with enumWait := false, links := t.chn.links } ∧
      Frame s { t with chn := s.chn } [F.CHN_TX_FRAMES])) ∧
    (s.chn.enumWait = false → After .enumTimeout s (fun t => Frame s t [])) ∧
    (s.chn.hasAddr = false → After .joinReqSend s (fun t => SentOn s t 0 7 [] ∧ t.chn = { s.chn with links := t.chn.links } ∧ Frame s { t with chn := s.chn } [F.CHN_TX_FRAMES])) ∧
    (s.chn.hasAddr = true → After .joinReqSend s (fun t => Frame s t [])) ∧
    (s.linkIsUp 1 = true → After .joinReq s (fun t => SentOn s t 0 7 [] ∧ t.chn = { s.chn with links := t.chn.links } ∧ Frame s { t with chn := s.chn } [F.CHN_TX_FRAMES]))) ∧
  (∀ s : State, s.role = 2 → LinkOpen s 1 → After .joinReq s (fun t => SentOn s t 1 2 (be 1 1) ∧ t.chn = { s.chn with links := t.chn.links, walkDue := false } ∧ Frame s { t with chn := s.chn } [F.CHN_TX_FRAMES])) ∧
  (∀ (m : Master) (v : Word) (s : State), s.judge m Pg.CHN 0x40 = .open →
    (b2n (bit v 0) = s.rd F.CHN_CTL_EN_UP → b2n (bit v 1) = s.rd F.CHN_CTL_EN_DN →
      (bit v 2 = true → s.rd F.CHN_STAT_ADDR_CHANGED = 1 →
        let u := ((s.wr F.CHN_ADDR_PREV (s.rd F.CHN_ADDR)).wr F.CHN_STAT_ADDR_CHANGED 0).journal 10 (be 1 0x50 ++ be 1 5 ++ be 1 (s.rd F.CHN_ADDR));
        u.rd F.CHN_ADDR_PREV = s.rd F.CHN_ADDR ∧ u.rd F.CHN_STAT_ADDR_CHANGED = 0 ∧ Journaled s u 10 (be 1 0x50 ++ be 1 5 ++ be 1 (s.rd F.CHN_ADDR)) ∧
        Frame s { u with jrn := s.jrn } [F.CHN_ADDR_PREV, F.CHN_STAT_ADDR_CHANGED] ∧ exec (.addrAccept m v) s = s.done (u.portsFollow.sendBatches 8)) ∧
      (bit v 2 = false ∨ s.rd F.CHN_STAT_ADDR_CHANGED = 0 → After (.addrAccept m v) s (fun t => Frame s t []))) ∧
    (bit v 0 = false → s.rd F.CHN_CTL_EN_UP = 1 → b2n (bit v 1) = s.rd F.CHN_CTL_EN_DN → bit v 2 = false → After (.addrAccept m v) s (fun t => t.rd F.CHN_CTL_EN_UP = 0 ∧ t.rd F.CHN_STAT_UP = 0 ∧
      t.slink 0 = { s.slink 0 with sent := [], wait0 := [], wait1 := [] } ∧ t.chn = { s.chn with links := t.chn.links } ∧ Frame s { t with chn := s.chn } [F.CHN_CTL_EN_UP, F.CHN_STAT_UP])) ∧
    (bit v 0 = true → s.rd F.CHN_CTL_EN_UP = 0 → b2n (bit v 1) = s.rd F.CHN_CTL_EN_DN → bit v 2 = false → After (.addrAccept m v) s (fun t => t.rd F.CHN_CTL_EN_UP = 1 ∧
      t.rd F.CHN_STAT_UP = (if s.domOn Dom.UPL && s.role != 2 && !s.pwr.portsOff then 1 else 0) ∧ Frame s t [F.CHN_CTL_EN_UP, F.CHN_STAT_UP]))) ∧
  (∀ (l : Fin 2) (seq : BitVec 32) (time : BitVec 64) (q : Byte) (s : State), s.linkIsUp l.val = true →
    let src := l.val == 0 && s.srcSel == 5
    After (.time l seq time q) s (fun t => Stamped s t (2 * l.val) 16 ⟨s.raw, 4, 0, seq.toNat⟩ ∧
      (src = true → t.rd F.TIME_QSTAT_MISSED = 0 ∧ t.rd F.TIME_QSTAT_SRC_LOST = 0 ∧ (s.rd F.TIME_QSTAT_MISSED ≠ 0 ∨ s.rd F.TIME_QSTAT_SRC_LOST = 1 → Interrupt t Pg.TIME 2)) ∧
      t.chn = { s.chn with stamps := t.chn.stamps } ∧ (src = true → Frame s { t with chn := s.chn } ([F.TIME_QSTAT_MISSED, F.TIME_QSTAT_SRC_LOST] ++ raised Pg.TIME)) ∧ (src = false → Frame s { t with chn := s.chn } [])) ∧
    (LinkOpen s l.val → After (.timeReq l seq) s (fun t => Stamped s t (2 * l.val) 16 ⟨s.raw, 5, 0, seq.toNat⟩ ∧
      SentOn s t l.val 6 (be 8 s.now ++ be 1 s.tim.cur.qual.toNat ++ be 8 s.now) ∧ Stamped s t (2 * l.val + 1) 16 ⟨s.raw, 6, 0, ((s.slink l.val).txSeq + 1) % 2 ^ 32⟩ ∧
      t.chn = { s.chn with stamps := t.chn.stamps, links := t.chn.links } ∧ Frame s { t with chn := s.chn } [F.CHN_TX_FRAMES])) ∧
    After (.timeRsp l seq) s (fun t => Stamped s t (2 * l.val) 16 ⟨s.raw, 6, 0, seq.toNat⟩ ∧ t.chn = { s.chn with stamps := t.chn.stamps } ∧ Frame s { t with chn := s.chn } [])) ∧
  (∀ s : State, LinkOpen s 1 →
    (qSource s.tim.cur.qual ≠ 0 → After .timeBeaconSend s (fun t => SentOn s t 1 4 (be 8 s.now ++ be 1 s.tim.cur.qual.toNat) ∧ Stamped s t 3 16 ⟨s.raw, 4, 0, ((s.slink 1).txSeq + 1) % 2 ^ 32⟩ ∧
      t.chn = { s.chn with stamps := t.chn.stamps, links := t.chn.links } ∧ Frame s { t with chn := s.chn } [F.CHN_TX_FRAMES])) ∧
    (qSource s.tim.cur.qual = 0 → After .timeBeaconSend s (fun t => Frame s t []))) ∧
  (∀ (m : Master) (j : Fin 8) (s : State), s.dead = false → s.pageOn (if j.val < 4 then Pg.CHN else Pg.ETH) = true →
    let q := SMap.getD s.chn.stamps j.val []
    let e := q.head?.getD ⟨0, 0, 0, 0⟩
    let p := (j.val - 4) / 2
    let d := j.val % 2
    After (.stampFifoRead m j) s (fun t => t.bus.rdata = [BitVec.ofNat 32 e.count] ∧ SMap.getD t.chn.stamps j.val [] = q.tail ∧ (∀ i, i ≠ j.val → SMap.getD t.chn.stamps i [] = SMap.getD s.chn.stamps i []) ∧
      t.chn = { s.chn with stamps := t.chn.stamps } ∧ t.bus = { s.bus with rdata := t.bus.rdata, shadow := t.bus.shadow } ∧
      (j.val < 4 → t.rd (F.CHN_TS_LO j.val) = e.count % 2 ^ 32 ∧ t.rd (F.CHN_TS_HI j.val) = e.count / 2 ^ 32 % 2 ^ 32 ∧ t.rd (F.CHN_TS_INFO_VALID j.val) = b2n q.head?.isSome ∧
        t.rd (F.CHN_TS_INFO_TYPE j.val) = e.typ % 16 ∧ t.rd (F.CHN_TS_SEQ j.val) = e.seq % 2 ^ 32 ∧
        Frame s { t with chn := s.chn, bus := s.bus } [F.CHN_TS_LO j.val, F.CHN_TS_HI j.val, F.CHN_TS_INFO_VALID j.val, F.CHN_TS_INFO_TYPE j.val, F.CHN_TS_SEQ j.val]) ∧
      (4 ≤ j.val → t.rd (F.ETH_TS_LO p d) = e.count % 2 ^ 32 ∧ t.rd (F.ETH_TS_HI p d) = e.count / 2 ^ 32 % 2 ^ 32 ∧ t.rd (F.ETH_TS_INFO_VALID p d) = b2n q.head?.isSome ∧
        t.rd (F.ETH_TS_INFO_MSGTYPE p d) = e.typ % 16 ∧ t.rd (F.ETH_TS_INFO_DOMAIN p d) = e.dom % 256 ∧ t.rd (F.ETH_TS_INFO_SEQID p d) = e.seq % 65536 ∧
        Frame s { t with chn := s.chn, bus := s.bus } [F.ETH_TS_LO p d, F.ETH_TS_HI p d, F.ETH_TS_INFO_VALID p d, F.ETH_TS_INFO_MSGTYPE p d, F.ETH_TS_INFO_DOMAIN p d, F.ETH_TS_INFO_SEQID p d])))

/-- A UNIT_ID whose certificates verify registers its seal key, the newest first and two at most; else it is counted. REVOKE drops the key that UNIT_KEY names; FORGET drops the unit's unbound nodes. A batch whose format, key or signature is wrong is a verification failure, counted with both bits, logged and asked for again; one before its turn is held and the missing one is asked for; one accepted before is acknowledged again. One whose turn it is, is asked for again where PREV differs, fails where the records do not give the root, and else is filed, its seal journaled and kept, counted OK, the unit's key, SEQ and digest move on, and it is acknowledged. A request is repeated up to three times, then the break is counted with bit 3, logged, and the interval marked GAP. An acknowledgement ends a RELAY's batch, a request sends one again, a proof request is answered to the HEAD, and its answer or its absence ends the HEAD's request. Model's choices: log entries 64, 81, 99, 100. -/
def Obligations.TheHeadAndItsUnits : Prop :=
  (∀ (unit : BitVec 6) (cert sealCert : List Byte) (s : State), s.role = 2 → s.domOn Dom.SEC = true →
    let r := s.invoke 10 Mst.SEC true Use.ANCHOR;
    (r.1.isNone = true → exec (.unitId unit cert sealCert) s = s.done (r.2.sat F.CHN_MIC_FAIL)) ∧
    (∀ anchor, r.1 = some anchor →
      let ok := Config.certVerify anchor cert && Config.certVerify (Config.certSubject cert) sealCert
      let key := Config.certSubject sealCert
      let x := s.unit unit.toNat
      After (.unitId unit cert sealCert) s (fun t =>
        (ok = true → t.unit unit.toNat = { x with keys := (key :: x.keys.filter (fun k => k != key)).take 2 } ∧ (∀ i, i ≠ unit.toNat → t.unit i = s.unit i) ∧ t.chn = { s.chn with units := t.chn.units } ∧ Frame s { t with chn := s.chn } []) ∧
        (ok = false → Counted s t F.CHN_MIC_FAIL ∧ Frame s t [F.CHN_MIC_FAIL])))) ∧
  (∀ (m : Master) (v : Word) (s : State), s.judge m Pg.CHN 0x70 = .open →
    let u := s.rd F.CHN_UNIT_SEL
    let revoked := fun (t : State) => t.unit u = ({ s.unit u with keys := (s.unit u).keys.filter (fun k => ofBe (keyId k) != s.rd F.CHN_UNIT_KEY) } : UnitInfo) ∧ (∀ i, i ≠ u → t.unit i = s.unit i) ∧
      t.chn = { s.chn with units := t.chn.units } ∧ Frame s { t with chn := s.chn } []
    let forgot := fun (t : State) => t.chn = { s.chn with nodes := s.chn.nodes.filter (fun e => e.1 / 65536 != u || s.nodeBound u (e.1 % 65536)) } ∧
      t.rd F.CHN_NODES_USED = t.chn.nodes.length % F.CHN_NODES_USED.bound ∧ Frame s { t with chn := s.chn } [F.CHN_NODES_USED]
    let done := fun (t : State) => (s.role = 2 → bits v 1 0 = 1 → revoked t) ∧ (s.role = 2 → bits v 1 0 = 2 → forgot t) ∧ (s.role ≠ 2 ∨ (bits v 1 0 ≠ 1 ∧ bits v 1 0 ≠ 2) → Frame s t [])
    After (.unitRevoke m v) s (fun t => done t) ∧ After (.unitForget m v) s (fun t => done t)) ∧
  (∀ (unit : BitVec 6) (b : List Byte) (recs : List (List Byte)) (s : State), s.aggregates = true →
    let u := unit.toNat
    let d := s.dropLost u
    let v := d.wrap F.PKE_VERIFIES
    let x := v.unit u
    let q := sealSeqOf b
    let want := (x.lastSeq.map (fun n => n + 1)).getD q
    let failed := fun (a : State) =>
      let w := (((a.sat F.HLM_UNIT_FAIL).raise Pg.HLM 2).sat F.CHN_BATCH_FAIL).raise Pg.CHN 4
      let e := w.legalEvent 12 3 7 w.jrn.seq (be 1 u ++ be 4 (sealStart b))
      (e.setUnit u { e.unit u with bad := some b }).requestBatch u want;
    (s.chn.acks.any (fun a => a.unit == u && s.batchLost a) = false → d = s) ∧
    ((v.sealKey u b).isNone = true → exec (.batch unit b recs) s = s.done (failed v)) ∧
    (∀ key, v.sealKey u b = some key →
      (q < want → v.chn.acks.any (fun a => a.unit == u && a.seq == q) = false → exec (.batch unit b recs) s = s.done (v.toUnit u 2 0 (be 8 q))) ∧
      (q < want → v.chn.acks.any (fun a => a.unit == u && a.seq == q) = true → After (.batch unit b recs) s (fun t => Frame v t [])) ∧
      (want < q → x.held.length < 16 → (∀ h ∈ x.held, sealSeqOf h.sealB ≠ q) → exec (.batch unit b recs) s = s.done ((v.setUnit u { x with held := x.held ++ [⟨b, recs⟩] }).requestBatch u want)) ∧
      (q = want → v.jrnRoom = true →
        let plain := recs.map clearSealed
        let differs := !x.digest.isEmpty && (b.drop 120).take 48 != x.digest
        let c := v.compress ((if plain.length = 0 then 0 else 2 * plain.length - 1) + 2)
        (differs = true → exec (.batch unit b recs) s = s.done ((c.setUnit u { x with bad := some b }).requestBatch u q)) ∧
        (differs = false → rootOk b plain = false → exec (.batch unit b recs) s = s.done (failed c)) ∧
        (differs = false → rootOk b plain = true →
          let rs := plain.mapIdx (fun i y => batchRec u (field b 24 8) i y)
          let f := (rs.foldl (fun (a : State) r => a.fileBatchRec r) c).plnSync
          let late := f.hlm.reseals.any (fun y => y.istart == sealStart b)
          let g := if late then f.sat F.HLM_LATE_UNIT else f
          let y := f.unit u
          let h := { f.hlm with unitKept := f.hlm.unitKept ++ [b], unitSeals := f.hlm.unitSeals.filter (fun z =>
              !(z.unit == u && z.bad && sealStart z.bytes == sealStart b && field z.bytes 6 2 == field b 6 2)) ++ [⟨u, b, false, late⟩] }
          let w := (({ g with hlm := h } : State).wrap F.HLM_UNIT_OK).setUnit u { y with keys := key :: y.keys.filter (fun k => k != key), lastSeq := some q, digest := sealDigest b, bad := none, asked := y.asked.filter (fun z => decide (q < z.1)) }
          let e := if decide (0 < w.tar.start) && decide (sealEnd b ≤ w.tar.start) then w.legalEvent 5 3 7 w.jrn.seq (be 1 u ++ be 4 (sealStart b)) else w
          let a : BatchAck := { unit := u, seq := q, startC := field b 24 8, left := (rs.filter (fun r => (f.nodeIndex u r.node).isSome)).length, sealB := b }
          exec (.batch unit b recs) s = s.done ((({ e with chn := { e.chn with acks := e.chn.acks ++ [a] } }).settleBatches).takeHeld u 16))))) ∧
  (∀ (i : Fin 16384) (s : State) (x : Desc), s.runningTask i.val 3 = some x → ∀ r, x.record = some r →
    let d := if r.annex || r.kind = 3 then none else s.current r.slotKey
    let u := (((s.journal 1 r.t4Body).keepRec r).countFiled r).touchSegment r
    let w := u.setDesc i.val { x with arg := u.jrn.seq + 1, disp := d }
    let held := s.igtFull && !s.on F.PRF_STATE_FALLBACK
    let filed := fun (a : State) (e : Option Rec) =>
      let b := (if r.kind = 3 then a else a.chainTask 4 x.flow r e).taskEnd i.val .ok 0
      ({ b with chn := { b.chn with acks := b.chn.acks.map (fun y : BatchAck => if y.unit = r.unit && y.startC = r.startC && y.jseq.isNone then { y with left := y.left - 1 } else y) } }).settleBatches;
    (s.working = false → exec (.profileUpdate i) s = s.done (s.taskEnd i.val .ok 0)) ∧
    (s.working = true → x.arg = 0 → held = true → After (.profileUpdate i) s (fun t => Frame s t [])) ∧
    (s.working = true → x.arg = 0 → held = false → s.jrnRoom = false → After (.profileUpdate i) s (fun t => Counted s t F.IGT_JRNL_WAIT ∧ Frame s t [F.IGT_JRNL_WAIT])) ∧
    (s.working = true → x.arg = 0 → held = false → s.jrnRoom = true → u.writeThrough = true → exec (.profileUpdate i) s = s.done w) ∧
    (s.working = true → x.arg = 0 → held = false → s.jrnRoom = true → u.writeThrough = false → exec (.profileUpdate i) s = s.done (filed w d)) ∧
    (s.working = true → x.arg ≠ 0 → s.writeThrough = false ∨ s.jrn.tail.all (fun y => y.seq + 1 != x.arg) = true → exec (.profileUpdate i) s = s.done (filed s x.disp)) ∧
    (s.working = true → x.arg ≠ 0 → s.writeThrough = true → s.jrn.tail.any (fun y => y.seq + 1 == x.arg) = true → After (.profileUpdate i) s (fun t => Frame s t []))) ∧
  (∀ (unit : BitVec 6) (s : State), s.aggregates = true →
    let u := unit.toNat
    let d := s.dropLost u
    let x := d.unit u;
    (x.asked.isNone = true → x.lastSeq = (s.unit u).lastSeq → exec (.batchReqTimer unit) s = s.done (d.takeHeld u 16) ∧ (x.held = [] → After (.batchReqTimer unit) s (fun t => Frame d t []))) ∧
    (x.asked.isNone = true → x.lastSeq ≠ (s.unit u).lastSeq → exec (.batchReqTimer unit) s = s.done (d.requestBatch u ((x.lastSeq.map (fun q => q + 1)).getD 0))) ∧
    (∀ e, x.asked = some e →
      let q := e.1
      let n := e.2
      let v := (d.setUnit u { x with asked := some (q, n + 1) }).sat F.CHN_BATCH_REQ
      let w := (d.sat F.HLM_CHAIN_BREAK).raise Pg.HLM 3
      let span := d.missedInterval u q
      let l := w.legalEvent 12 3 7 w.jrn.seq (be 1 u ++ be 4 ((span.map (fun y => y.1)).getD 0))
      let g := (span.map (fun y => l.markGaps u y.1 y.2)).getD l
      let k := ((g.unit u).bad.map (fun b => g.keepUnitSeal u b true)).getD g;
      (n < 3 → Counted d v F.CHN_BATCH_REQ ∧ exec (.batchReqTimer unit) s = s.done (v.toUnit u 3 0 (be 8 q))) ∧
      (3 ≤ n → Counted d w F.HLM_CHAIN_BREAK ∧ Interrupt w Pg.HLM 3 ∧
        exec (.batchReqTimer unit) s = s.done ((k.setUnit u { k.unit u with lastSeq := some q, digest := [], asked := none, bad := none }).takeHeld u 16)))) ∧
  (∀ (seq : BitVec 64) (s : State), s.role = 1 →
    let u := ({ s with chn := { s.chn with inFlight := s.chn.inFlight.filter (fun q => q != seq.toNat) } } : State);
    exec (.batchAck seq) s = s.done (u.sendBatches 8) ∧
    (∀ x, s.hlm.sealed.find? (fun y => y.seq == seq.toNat) = some x → s.linkIsUp 0 = true → s.rd F.CHN_STAT_ADDR_CHANGED = 0 →
      exec (.batchReq seq) s = s.done (s.sendBodies 0 0 false false 1 (batchBodies (s.linkMtu 0 - 36) x.bytes (s.batchRecs x)))) ∧
    (s.hlm.sealed.all (fun y => y.seq != seq.toNat) = true → After (.batchReq seq) s (fun t => Frame s t []))) ∧
  (∀ (body : List Byte) (s : State), s.role = 1 → s.domOn Dom.PKT = true →
    let r := s.ownProof (field body 0 4) (field body 4 4) (field body 8 1) false
    (∀ b, r.getLeft? = some b → exec (.proofReq body) s = s.done (s.toHead 6 1 b)) ∧
    (∀ c, r.getRight? = some c → 2 ≤ c ∧ c ≤ 6 ∧ exec (.proofReq body) s = s.done (s.toHead 6 c []))) ∧
  (∀ (unit : BitVec 6) (proof : List Byte) (s : State) (p : ProofReq), s.hlm.prq = some p → p.unit = unit.toNat → p.unit ≠ 0 →
    let ended := fun (u : State) (r : Nat) (t : State) => t.hlm = { u.hlm with prq := none } ∧ t.rd F.HLM_PRQ_CTL_BUSY = 0 ∧ t.rd F.HLM_PRQ_CTL_RES = r ∧ Interrupt t Pg.HLM 5 ∧
      Frame u { t with hlm := u.hlm } ([F.HLM_PRQ_CTL_BUSY, F.HLM_PRQ_CTL_RES, F.HLM_PRQ_LEN] ++ raised Pg.HLM)
    let o := s.outputPacket (s.rd F.HLM_PRQ_Q) proof;
    (∀ res : Fin 9, res.val ≠ 1 → After (.proofRsp unit res proof) s (fun t => ended s res.val t ∧ t.rd F.HLM_PRQ_LEN = s.rd F.HLM_PRQ_LEN)) ∧
    (p.ext = false → After (.proofRsp unit 1 proof) s (fun t => ended o.2 (if o.1 then 1 else 8) t ∧ (o.1 = true → t.rd F.HLM_PRQ_LEN = proof.length % F.HLM_PRQ_LEN.bound))) ∧
    (p.ext = true → ∀ e, s.proofExt ((proof.drop 96).take 288) = some e →
      let all := proof.take 3 ++ be 1 1 ++ proof.drop 4 ++ e
      let o := s.outputPacket (s.rd F.HLM_PRQ_Q) all
      After (.proofRsp unit 1 proof) s (fun t => ended o.2 (if o.1 then 1 else 8) t ∧ (o.1 = true → t.rd F.HLM_PRQ_LEN = all.length % F.HLM_PRQ_LEN.bound))) ∧
    (p.ext = true → (s.proofExt ((proof.drop 96).take 288)).isNone = true → After (.proofRsp unit 1 proof) s (fun t => ended s 3 t)) ∧
    After .proofUnreachable s (fun t => ended s 7 t))

/-- An enabled port's link comes up with its speed and bit 8p, or goes down with bit 8p + 1 and its peer's halts end; a standing back-pressure is told to a port that is up. A running port counts a frame with a wrong FCS, and one that its filters or MAXLEN reject, and commits nothing of either; else it counts the frame, stamps an event message, or counts it with bit 3 where the FIFO is full, and commits the frame without its tag while PKT is on. A PAUSE halts the port and a PFC frame the priorities it names, zero quanta release them, and they end when the quanta run out; it is counted. While back-pressure stands the PAUSE is repeated. Model's choices: log entries 13, 22, 100. -/
def Obligations.EthernetPorts : Prop :=
  (∀ (p : Fin 2) (speed : BitVec 2) (s : State), s.rd (F.ETH_CTL_EN p.val) = 1 → s.dead = false → s.domOn Dom.UPL = true → s.rd (F.ETH_STAT_LINK p.val) ≠ 1 →
    let rate := if s.rd (F.ETH_CTL_MODE p.val) = 1 then 1 else if s.rd (F.ETH_CTL_MODE p.val) = 2 then max 2 speed.toNat else 0
    let u := ((s.wr (F.ETH_STAT_LINK p.val) 1).wr (F.ETH_STAT_SPEED p.val) rate).raise Pg.ETH (8 * p.val);
    u.rd (F.ETH_STAT_LINK p.val) = 1 ∧ u.rd (F.ETH_STAT_SPEED p.val) = rate ∧ Interrupt u Pg.ETH (8 * p.val) ∧ Frame s u ([F.ETH_STAT_LINK p.val, F.ETH_STAT_SPEED p.val] ++ raised Pg.ETH) ∧
    exec (.ethLinkUp p speed) s = s.done u.ethPause ∧ (s.classBp 2 = false → s.chn.pausing = 0 → exec (.ethLinkUp p speed) s = s.done u)) ∧
  (∀ (p : Fin 2) (s : State), (s.rd (F.ETH_STAT_LINK p.val) ≠ 1 → After (.ethLinkDown p) s (fun t => Frame s t [])) ∧
    (s.rd (F.ETH_STAT_LINK p.val) = 1 →
      let u := (({ s with chn := { s.chn with halts := s.chn.halts.filter (fun h => h / 16 != p.val) } } : State).wr (F.ETH_STAT_LINK p.val) 0).raise Pg.ETH (1 + 8 * p.val);
      u.rd (F.ETH_STAT_LINK p.val) = 0 ∧ Interrupt u Pg.ETH (1 + 8 * p.val) ∧
      Frame s { u with chn := s.chn } (F.ETH_STAT_LINK p.val :: raised Pg.ETH) ∧ exec (.ethLinkDown p) s = s.done u.ethPause ∧
      (s.classBp 2 = false → s.chn.pausing = 0 → exec (.ethLinkDown p) s = s.done u))) ∧
  (∀ (p : Fin 2) (bytes : List Byte) (s : State), s.ethRuns p.val = true →
    let passes := s.ethPasses p.val bytes && decide (bytes.length + 4 ≤ s.rdIn (F.ETH_MAXLEN p.val) 64 9216)
    After (.ethFrameRx p bytes false) s (fun t => Counted s t (F.ETH_RX_FCS_ERR p.val) ∧ Frame s t [F.ETH_RX_FCS_ERR p.val]) ∧
    (passes = false → After (.ethFrameRx p bytes true) s (fun t => Counted s t (F.ETH_RX_FILTERED p.val) ∧ Frame s t [F.ETH_RX_FILTERED p.val])) ∧
    (passes = true →
      let x := ptpStamp bytes s.raw
      let u := (s.wrap (F.ETH_RX_FRAMES p.val)).ethStamp p.val 0 bytes;
      u.rd (F.ETH_RX_FRAMES p.val) = (s.rd (F.ETH_RX_FRAMES p.val) + 1) % (F.ETH_RX_FRAMES p.val).bound ∧ u.chn = { s.chn with stamps := u.chn.stamps } ∧
      (x.isNone = true → Frame s u [F.ETH_RX_FRAMES p.val]) ∧
      (∀ e, x = some e → Stamped s u (4 + 2 * p.val) 64 e ∧
        ((SMap.getD s.chn.stamps (4 + 2 * p.val) []).length < 64 → Interrupt u Pg.ETH (2 + 8 * p.val) ∧ Frame s { u with chn := s.chn } (F.ETH_RX_FRAMES p.val :: raised Pg.ETH)) ∧
        (64 ≤ (SMap.getD s.chn.stamps (4 + 2 * p.val) []).length → Counted s u (F.ETH_STS_OVF p.val) ∧ Interrupt u Pg.ETH (3 + 8 * p.val) ∧ Frame s u ([F.ETH_RX_FRAMES p.val, F.ETH_STS_OVF p.val] ++ raised Pg.ETH))) ∧
      (s.domOn Dom.PKT = false → exec (.ethFrameRx p bytes true) s = s.done u) ∧
      (s.domOn Dom.PKT = true →
        let w := 66 + p.val
        let c := u.packetStart w w
        exec (.ethFrameRx p bytes true) s = s.done (if (SMap.find? c.cru.ctx w).isSome then c.packetCommit w (untag bytes) u.raw u.tim.cur.qual.toNat 0 0 (tagInfo bytes) else c.dropCtx w)))) ∧
  (∀ (p : Fin 2) (pfc : Bool) (prios : Byte) (quanta : BitVec 16) (s : State), s.ethRuns p.val = true →
    let named := fun (h : Nat) => if pfc then (List.range 8).any (fun c => prios.toNat.testBit c && h == 16 * p.val + c) else h == 16 * p.val + 8
    After (.pauseRx p pfc prios quanta) s (fun t => Counted s t (F.ETH_PAUSE_RX p.val) ∧ (∀ h, named h = false → (h ∈ t.chn.halts ↔ h ∈ s.chn.halts)) ∧ (∀ h, named h = true → (h ∈ t.chn.halts ↔ quanta ≠ 0)) ∧
      t.chn = { s.chn with halts := t.chn.halts } ∧ Frame s { t with chn := s.chn } [F.ETH_PAUSE_RX p.val])) ∧
  (∀ (p : Fin 2) (c : Fin 9) (s : State), After (.ethPauseExpire p c) s (fun t => (∀ h, h ∈ t.chn.halts ↔ h ∈ s.chn.halts ∧ h ≠ 16 * p.val + c.val) ∧ t.chn = { s.chn with halts := t.chn.halts } ∧ Frame s { t with chn := s.chn } [])) ∧
  (∀ (p : Fin 2) (s : State), s.ethRuns p.val = true →
    (s.chn.pausing.getLsbD p.val = true → s.classBp 2 = true → After (.pauseRefresh p) s (fun t => Sent t (.pause p.val (s.rd (F.ETH_PFC_EN p.val)) (s.rd (F.ETH_PAUSE_Q p.val))) ∧
      Counted s t (F.ETH_PAUSE_TX p.val) ∧ Frame s t [F.ETH_PAUSE_TX p.val])) ∧
    (s.chn.pausing.getLsbD p.val = false ∨ s.classBp 2 = false → After (.pauseRefresh p) s (fun t => Frame s t [])))

/-- The mirror link comes UP with its initial credits and bit 0; a standby then synchronises: records above the fork point are counted and everything is discarded, bit 6, a full copy; else INCREMENTAL where the missing is still held, and a full copy where it is not. It goes DOWN counted with bit 1. After SOLO_TO an active unit whose partner is out goes on SOLO, bit 3; a standby is no longer eligible. A heartbeat shows the partner's TOP and epoch; an active unit takes its APPLIED; one that carries this unit's own slot or other straps is a pair conflict, bit 7: the claim goes down. A heartbeat holds claim, mode, TOP, APPLIED and epoch, and goes out in one frame. A lost partner is counted with bit 2. A HEALTH report is latched with bit 5, and the standby sends it. Model's choices: log entries 103, 104, 106. -/
def Obligations.TheMirrorLinkAndItsReports : Prop :=
  (∀ (held : Bool) (fork : Option (BitVec 64)) (s : State), s.linkUsed 2 = true → s.linkIsUp 2 = false →
    let c := s.linkCred 2
    let f := match fork with | some f => some f.toNat | none => s.pair.fork
    let a := ((s.setSlink 2 { s.slink 2 with rxSeq := none, sent := [], wait0 := [], wait1 := [], cred0 := 0, cred1 := 0, used0 := 0, used1 := 0, grant0 := c, grant1 := c, held0 := 0, held1 := 0, changed := true }).wr F.MIR_STAT_LINK 2).raise Pg.MIR 0
    let u := ({ a with pair := { a.pair with linkLost := false, soloTo := false, fork := f } } : State)
    let goes := s.isStandby && !s.pair.givenUp && !s.pair.barred
    let full := fun (t : State) => ((t.wr F.MIR_STAT_SYNC 2).sat F.MIR_FULL_COPIES).wr F.MIR_COPY_PM 0
    let forked := f.any (fun n => decide (n < s.jrn.seq))
    let b := if forked then full (((u.discardAll).addSat F.MIR_FORK_DROP (s.jrn.seq - f.getD 0)).raise Pg.MIR 6) else if held then u.wr F.MIR_STAT_SYNC 1 else full u
    let v := ({ b with pair := { b.pair with fork := none, lagFrom := none, stores := [], behind := [] } } : State);
    (∀ k, k ≠ 2 → u.slink k = s.slink k) ∧ u.rd F.MIR_STAT_LINK = 2 ∧ Interrupt u Pg.MIR 0 ∧ Frame s { u with chn := s.chn, pair := s.pair } (F.MIR_STAT_LINK :: raised Pg.MIR) ∧
    (goes = false → exec (.mirLinkUp held fork) s = s.done u) ∧
    (goes = true → exec (.mirLinkUp held fork) s = s.done v.syncReqSend.syncUpdate ∧
      (forked = true → v.jrn = {} ∧ v.prf = {} ∧ v.hlm = {} ∧ v.tch = {} ∧ v.tar = {} ∧ v.nand.map = [] ∧ v.nand.aus = [] ∧ v.gate.nbr = [] ∧ v.rd F.MIR_STAT_SYNC = 2 ∧
        v.rd F.MIR_FORK_DROP = min (s.rd F.MIR_FORK_DROP + (s.jrn.seq - f.getD 0)) (F.MIR_FORK_DROP.bound - 1) ∧ Counted s v F.MIR_FULL_COPIES ∧ v.rd F.MIR_COPY_PM = 0 ∧ Interrupt v Pg.MIR 6) ∧
      (forked = false → held = true → v.rd F.MIR_STAT_SYNC = 1 ∧ Frame u { v with pair := u.pair } [F.MIR_STAT_SYNC]) ∧
      (forked = false → held = false → v.rd F.MIR_STAT_SYNC = 2 ∧ Counted s v F.MIR_FULL_COPIES ∧ v.rd F.MIR_COPY_PM = 0 ∧
        Frame u { v with pair := u.pair } [F.MIR_STAT_SYNC, F.MIR_FULL_COPIES, F.MIR_COPY_PM]))) ∧
  (∀ s : State, s.linkIsUp 2 = true → After .mirLinkDown s (fun t => t.slink 2 = { s.slink 2 with sent := [], wait0 := [], wait1 := [] } ∧ t.chn = { s.chn with links := t.chn.links } ∧
    t.rd F.MIR_STAT_LINK = (if s.linkUsed 2 then 1 else 0) ∧ Counted s t F.MIR_LINK_DOWN_CNT ∧ Interrupt t Pg.MIR 1 ∧ t.pair = { s.pair with linkLost := true, soloTo := false } ∧
    Frame s { t with chn := s.chn, pair := s.pair } ([F.MIR_STAT_LINK, F.MIR_LINK_DOWN_CNT] ++ raised Pg.MIR))) ∧
  (∀ s : State, s.partnered = true → s.linkIsUp 2 = false →
    (s.pair.active = true → 2 ≤ s.pair.partnerOut → s.rd F.MIR_STAT_SOLO = 0 →
      let u := (({ s with pair := { s.pair with soloTo := true } } : State).wr F.MIR_STAT_SOLO 1).raise Pg.MIR 3;
      u.rd F.MIR_STAT_SOLO = 1 ∧ Interrupt u Pg.MIR 3 ∧
      Frame s { u with pair := s.pair } (F.MIR_STAT_SOLO :: raised Pg.MIR) ∧ exec .soloTimeout s = s.done u.flushAcks) ∧
    (s.pair.active = true → s.pair.partnerOut < 2 ∨ s.rd F.MIR_STAT_SOLO = 1 → After .soloTimeout s (fun t => t.pair = { s.pair with soloTo := true } ∧ Frame s { t with pair := s.pair } [])) ∧
    (s.pair.active = false → After .soloTimeout s (fun t => t.pair = { s.pair with soloTo := true } ∧ t.rd F.MIR_STAT_SYNC = 0 ∧ t.rd F.MIR_STAT_ELIG = 0 ∧ Frame s { t with pair := s.pair } [F.MIR_STAT_SYNC, F.MIR_STAT_ELIG]))) ∧
  (∀ (src : Byte) (body : List Byte) (s : State), s.partnered = true → s.linkIsUp 2 = true → body.length = 32 →
    let conflict := src.toNat == s.linkSelf 2 || field body 30 1 / 4 % 4 != s.role
    let h := heartbeatOf body
    (conflict = true → s.rd F.MIR_STAT_PAIR_CFG = 1 → After (.heartbeat src body) s (fun t => Frame s t [])) ∧
    (conflict = true → s.rd F.MIR_STAT_PAIR_CFG = 0 → s.canGiveUp = false → After (.heartbeat src body) s (fun t => t.rd F.MIR_STAT_PAIR_CFG = 1 ∧ Interrupt t Pg.MIR 7 ∧
      t.pair = { s.pair with barred := true, active := false, givenUp := true, handover := none, found := 0 } ∧ t.rd F.CLM_GIVEUP_CAUSE = 128 ∧ t.rd F.CLM_GIVEUP_CAUSE_REQ = 0 ∧ Counted s t F.CLM_GIVEUPS ∧
      t.rd F.CLM_CLAIM = 0 ∧ t.rd F.MIR_STAT_SOLO = 0 ∧ t.rd F.MIR_STAT_ELIG = 0 ∧ Interrupt t Pg.CLM 6 ∧
      Frame s { t with pair := s.pair } ([F.MIR_STAT_PAIR_CFG, F.CLM_GIVEUP_CAUSE, F.CLM_GIVEUP_CAUSE_REQ, F.CLM_GIVEUPS, F.CLM_CLAIM, F.MIR_STAT_SOLO, F.MIR_STAT_ELIG] ++ raised Pg.MIR ++ raised Pg.CLM))) ∧
    (conflict = true → s.rd F.MIR_STAT_PAIR_CFG = 0 → s.canGiveUp = true →
      let a := (s.wr F.MIR_STAT_PAIR_CFG 1).raise Pg.MIR 7
      let u := ({ a with pair := { a.pair with barred := true } } : State);
      u.rd F.MIR_STAT_PAIR_CFG = 1 ∧ Interrupt u Pg.MIR 7 ∧ Frame s { u with pair := s.pair } (F.MIR_STAT_PAIR_CFG :: raised Pg.MIR) ∧ exec (.heartbeat src body) s = s.done (u.giveUp 128 false)) ∧
    (conflict = false →
      let was := match s.pair.hb with | some x => s.on F.MIR_STAT_PARTNER_HB && decide (8 ≤ x.claim / 4096) | none => false
      let a := ((({ s with pair := { s.pair with hb := some h } } : State).wr F.MIR_STAT_PARTNER_HB 1).wr64 F.MIR_TOP_LO F.MIR_TOP_HI h.top).wr F.CLM_EPOCH (max (s.rd F.CLM_EPOCH) h.epoch)
      let b := a.wr64 F.MIR_APPLIED_LO F.MIR_APPLIED_HI h.applied
      let u := if s.isActive then (if h.flags.testBit 3 then b.wr F.MIR_STAT_SOLO 0 else b) else a
      let asks := s.isStandby && !s.pair.givenUp && !was && decide (8 ≤ h.claim / 4096) && s.rd F.MIR_STAT_SYNC != 0 && s.rd F.MIR_STAT_SYNC != 3;
      u.pair = { s.pair with hb := some h } ∧ u.rd F.MIR_STAT_PARTNER_HB = 1 ∧ u.mirTop = h.top % 2 ^ 64 ∧ u.rd F.CLM_EPOCH = max (s.rd F.CLM_EPOCH) h.epoch % F.CLM_EPOCH.bound ∧
      (s.isActive = true → u.rd64 F.MIR_APPLIED_LO F.MIR_APPLIED_HI = h.applied % 2 ^ 64 ∧ (h.flags.testBit 3 = true → u.rd F.MIR_STAT_SOLO = 0) ∧ (h.flags.testBit 3 = false → u.rd F.MIR_STAT_SOLO = s.rd F.MIR_STAT_SOLO) ∧
        exec (.heartbeat src body) s = s.done (u.flushAcks.handoverCheck.claimSync.pairRun) ∧
        Frame s { u with pair := s.pair } [F.MIR_STAT_PARTNER_HB, F.MIR_TOP_LO, F.MIR_TOP_HI, F.CLM_EPOCH, F.MIR_APPLIED_LO, F.MIR_APPLIED_HI, F.MIR_STAT_SOLO]) ∧
      (s.isActive = false → Frame s { u with pair := s.pair } [F.MIR_STAT_PARTNER_HB, F.MIR_TOP_LO, F.MIR_TOP_HI, F.CLM_EPOCH] ∧
        (asks = false → exec (.heartbeat src body) s = s.done (u.syncUpdate.claimSync.pairRun)) ∧ (asks = true → exec (.heartbeat src body) s = s.done (u.syncUpdate.syncReqSend.claimSync.pairRun))))) ∧
  (∀ s : State, s.ownClaim < 65536 → s.jrn.seq < 2 ^ 64 →
    let h := heartbeatOf s.heartbeatBody
    h.claim = s.ownClaim ∧ h.mode = s.mode ∧ h.flags.testBit 0 = s.on F.MIR_STAT_ELIG ∧ h.top = s.jrn.seq ∧ h.applied = (if s.pair.active then 0 else s.jrn.seq) ∧ h.epoch = s.rd F.CLM_EPOCH % 4096) ∧
  (∀ s : State, s.partnered = true → LinkOpen s 2 → (s.slink 2).wait0 = [] → (s.slink 2).wait1 = [] → 0 < (s.slink 2).credit 0 →
    let frame := fun (typ : Nat) (b : List Byte) => ({ typ := typ, flags := 96, src := s.linkSelf 2, dst := 1 - s.linkSelf 2, body := b } : LinkFrame)
    let seq := ((s.slink 2).txSeq + 1) % 2 ^ 32
    let out := fun (u : State) (typ : Nat) (b : List Byte) (t : State) => Sent t (wire s 2 seq (frame typ b)) ∧
      t.slink 2 = { s.slink 2 with txSeq := seq, sent := (s.slink 2).sent ++ [(seq, frame typ b)], used0 := (s.slink 2).used0 + 1 } ∧ t.chn = { s.chn with links := t.chn.links } ∧ Frame u { t with chn := u.chn } []
    (s.isActive = true → s.giveUpCauses = 0 → (∀ j ∈ s.journalRecs, j.seq ≤ s.pair.shipped) → s.pair.shipped = s.jrn.seq → After .heartbeatSend s (fun t => out s 8 s.heartbeatBody t)) ∧
    (s.isStandby = true → s.syncUpdate.linkIsUp 2 = true → After .heartbeatSend s (fun t => out s.syncUpdate 8 s.syncUpdate.heartbeatBody t) ∧ After .healthSend s (fun t => out s.syncUpdate 12 s.syncUpdate.healthBody t))) ∧
  (∀ s : State, (s.rd F.MIR_STAT_PARTNER_HB = 1 → After .partnerLost s (fun t => t.rd F.MIR_STAT_PARTNER_HB = 0 ∧ Counted s t F.MIR_HB_MISS ∧ Interrupt t Pg.MIR 2 ∧ Frame s t ([F.MIR_STAT_PARTNER_HB, F.MIR_HB_MISS] ++ raised Pg.MIR))) ∧
    (s.rd F.MIR_STAT_PARTNER_HB = 0 → After .partnerLost s (fun t => Frame s t []))) ∧
  (∀ (body : List Byte) (s : State), s.isActive = true → s.linkIsUp 2 = true → body.length = 32 → After (.health body) s (fun t => (∀ w, w < 8 → t.rd (F.MIR_HEALTH w) = field body (4 * w) 4) ∧ Interrupt t Pg.MIR 5 ∧
    Frame s t ((List.range 8).map (fun w => F.MIR_HEALTH w) ++ raised Pg.MIR)))

/-- An active unit asked for what is above a sequence ships it while it holds it, else every AU and the journal it has. A standby applies the record whose turn it is, ignores one it has, waits where the journal is full, and turns to a full copy at a gap; a unit that has given up notes the fork point of a TAKEOVER entry. A shipped AU is programmed under a LOCAL MAP record of its own, or kept until an erased AU takes it. GIVE_UP journals its entry, drops the claim and goes to STANDBY; REJOIN starts contention again; HANDOVER drains, and once no work is left and all is applied it journals its entry, and once that is applied the claim goes down with bit 7; a handover that takes too long is abandoned with HO_FAIL. CLM.CTL is refused while an override acts on it. Model's choices: log entries 101, 102, 103, 104, 106. -/
def Obligations.ShippingApplyingAndHandingOver : Prop :=
  (∀ (seq : BitVec 64) (s : State), (s.isActive = false ∨ s.linkIsUp 2 = false → After (.syncReq seq) s (fun t => Frame s t [])) ∧
    (s.isActive = true → LinkOpen s 2 →
      (s.holdsFrom seq.toNat = true → After (.syncReq seq) s (fun t => t.pair = { s.pair with shipped := s.jrn.seq } ∧ t.chn = { s.chn with links := t.chn.links } ∧
        (s.rd F.MIR_TX_REC < F.MIR_TX_REC.bound → t.rd F.MIR_TX_REC = (s.rd F.MIR_TX_REC + (s.journalRecs.filter (fun j => decide (seq.toNat - 1 < j.seq))).length) % F.MIR_TX_REC.bound) ∧ Frame s { t with pair := s.pair, chn := s.chn } [F.MIR_TX_REC])) ∧
      (s.holdsFrom seq.toNat = false → After (.syncReq seq) s (fun t => t.pair = { s.pair with shipped := s.jrn.seq } ∧ t.chn = { s.chn with links := t.chn.links } ∧ t.rd F.MIR_COPY_PM = 1000 ∧
        Frame s { t with pair := s.pair, chn := s.chn } [F.MIR_TX_REC, F.MIR_COPY_PM])))) ∧
  (∀ (seq : BitVec 64) (kind : Fin 16) (loc : Bool) (body : List Byte) (c : Carried) (s : State), s.isStandby = true → s.linkIsUp 2 = true → 1 ≤ kind.val → kind.val ≤ 12 →
    let j : JRec := { seq := seq.toNat, kind := kind.val, isLocal := loc, body := body }
    let go := !s.pair.givenUp && !s.pair.barred
    let u := ({ s with pair := { s.pair with behind := s.pair.behind ++ [(j, c)] } } : State)
    let w := ((u.wr F.MIR_STAT_SYNC 2).sat F.MIR_FULL_COPIES).wr F.MIR_COPY_PM 0
    let n := s.pair.behind.length + 1;
    (go = true → s.rd F.MIR_STAT_SYNC ≠ 0 → j.seq = s.receivedTo + 1 → s.jrnRoom = true → exec (.jrec seq kind loc body c) s = s.done ((u.applyBehind n).igtSync.syncUpdate.pairRun)) ∧
    (go = true → s.rd F.MIR_STAT_SYNC ≠ 0 → j.seq = s.receivedTo + 1 → s.jrnRoom = true → s.pair.behind = [] → s.canApply j.seq = true →
      exec (.jrec seq kind loc body c) s = s.done ((({ s with jrn := { s.jrn with seq := j.seq, tail := s.jrn.tail ++ [{ j with own := !loc }] } } : State).applyEffect j c).igtSync.syncUpdate.pairRun)) ∧
    (go = true → s.rd F.MIR_STAT_SYNC ≠ 0 → j.seq = s.receivedTo + 1 → s.jrnRoom = true → s.pair.behind = [] → s.canApply j.seq = false → exec (.jrec seq kind loc body c) s = s.done (u.igtSync.syncUpdate.pairRun)) ∧
    (go = true → j.seq ≤ s.receivedTo ∨ s.rd F.MIR_STAT_SYNC = 0 ∨ (s.receivedTo + 1 < j.seq ∧ s.rd F.MIR_STAT_SYNC = 3) → exec (.jrec seq kind loc body c) s = s.done s.pairRun) ∧
    (go = true → s.rd F.MIR_STAT_SYNC = 1 → s.receivedTo + 1 < j.seq → s.jrnRoom = true → w.rd F.MIR_STAT_SYNC = 2 ∧ Counted s w F.MIR_FULL_COPIES ∧ w.rd F.MIR_COPY_PM = 0 ∧
      exec (.jrec seq kind loc body c) s = s.done ((w.applyBehind n).igtSync.syncUpdate.pairRun)) ∧
    (go = true → s.rd F.MIR_STAT_SYNC = 2 → s.receivedTo + 1 < j.seq → s.jrnRoom = true → exec (.jrec seq kind loc body c) s = s.done ((u.applyBehind n).igtSync.syncUpdate.pairRun)) ∧
    (go = true → s.rd F.MIR_STAT_SYNC ≠ 0 → j.seq = s.receivedTo + 1 → s.jrnRoom = false → exec (.jrec seq kind loc body c) s = s.done ((s.sat F.IGT_JRNL_WAIT).pairRun)) ∧
    (go = false → After (.jrec seq kind loc body c) s (fun t =>
      t.pair = (if kind.val = 10 ∧ field body 0 1 = 0x50 ∧ field body 1 1 = 2 then { s.pair with fork := some (field body 5 8) } else s.pair) ∧ Frame s { t with pair := s.pair } []))) ∧
  (∀ (logical phys : BitVec 32) (data : List Byte) (seq : BitVec 64) (s : State), s.isStandby = true → s.linkIsUp 2 = true → s.pair.givenUp = false → s.pair.barred = false → s.rd F.MIR_STAT_SYNC ≠ 0 →
    let rest := s.pair.stores.filter (fun y => !(y.logical == logical.toNat && y.seq == seq.toNat))
    let p := ({ s with pair := { s.pair with stores := rest } } : State)
    let u := ((p.auProgram phys.toNat logical.toNat data).journalRec 11 true (be 2 1 ++ be 2 0 ++ be 4 logical.toNat ++ be 4 phys.toNat)).mapSet logical.toNat phys.toNat;
    (s.igtWrites = true → s.auErased phys.toNat = true → u.pair = { s.pair with stores := rest } ∧ u.nand.aus = SMap.set s.nand.aus phys.toNat ⟨logical.toNat, data⟩ ∧
      u.nand.map = SMap.set s.nand.map logical.toNat phys.toNat ∧ u.jrn.seq = s.jrn.seq ∧ u.jrn.tail = s.jrn.tail ++ [{ seq := s.jrn.seq, kind := 11, isLocal := true, body := be 2 1 ++ be 2 0 ++ be 4 logical.toNat ++ be 4 phys.toNat }] ∧
      u.rd F.IGT_PROG_AU = (s.rd F.IGT_PROG_AU + 1) % F.IGT_PROG_AU.bound ∧ Frame s { u with pair := s.pair, nand := s.nand, jrn := s.jrn } [F.IGT_PROG_AU, F.LDG_WORD 34, F.LDG_WORD 35] ∧
      exec (.store logical phys data seq) s = s.done ((u.applyBehind s.pair.behind.length).igtSync.syncUpdate.pairRun)) ∧
    (s.igtWrites = false ∨ s.auErased phys.toNat = false → After (.store logical phys data seq) s (fun t => t.pair = { s.pair with stores := rest ++ [⟨logical.toNat, data, seq.toNat⟩] } ∧ Frame s { t with pair := s.pair } []))) ∧
  (∀ (m : Master) (v : Word) (s : State), s.judge m Pg.CLM 0x5C = .open → s.ovrHolds .claim = true → m ≠ .smp →
    exec (.giveUp m v) s = s.done (s.denyWrite m Cause.OWNER_DENY Pg.CLM 0x5C) ∧ exec (.rejoin m v) s = s.done (s.denyWrite m Cause.OWNER_DENY Pg.CLM 0x5C) ∧
    exec (.handover m v) s = s.done (s.denyWrite m Cause.OWNER_DENY Pg.CLM 0x5C)) ∧
  (∀ (m : Master) (v : Word) (s : State), s.judge m Pg.CLM 0x5C = .open → s.ovrHolds .claim = false ∨ m = .smp →
    (bit v 0 = true → s.canGiveUp = false → After (.giveUp m v) s (fun t => Frame s t [])) ∧
    (bit v 0 = true → s.canGiveUp = true →
      let u := s.dropClaim 0 true;
      Journaled s u 10 (be 1 0x50 ++ be 1 1 ++ be 2 (s.rd F.CLM_EPOCH) ++ be 1 0 ++ be 8 0 ++ be 8 s.raw) ∧
      u.pair = { s.pair with active := false, givenUp := true, handover := none, found := 0 } ∧ u.rd F.CLM_GIVEUP_CAUSE = 0 ∧ u.rd F.CLM_GIVEUP_CAUSE_REQ = 1 ∧ Counted s u F.CLM_GIVEUPS ∧ u.rd F.CLM_CLAIM = 0 ∧ u.rd F.MIR_STAT_SOLO = 0 ∧
      Interrupt u Pg.CLM 6 ∧ (∀ b, s.upd.bundle = some b → u.upd = { s.upd with bundle := some { b with bad := true } }) ∧ (s.upd.bundle.isNone = true → u.upd = s.upd) ∧
      Frame s { u with pair := s.pair, jrn := s.jrn, upd := s.upd } ([F.CLM_GIVEUP_CAUSE, F.CLM_GIVEUP_CAUSE_REQ, F.CLM_GIVEUPS, F.CLM_CLAIM, F.MIR_STAT_SOLO] ++ raised Pg.CLM) ∧
      exec (.giveUp m v) s = s.done (u.standDown.changeTo Md.STANDBY)) ∧
    (bit v 0 = false → bit v 1 = false → bit v 2 = true → s.isStandby = true → s.pair.givenUp = true ∨ s.pair.barred = true → s.rd F.MIR_STAT_PAIR_CFG = 0 →
      let u := ({ s with pair := { s.pair with givenUp := false, barred := false, rounds := 0, sawActive := false, stale := s.rd F.MIR_STAT_SYNC != 3 } } : State);
      (s.linkIsUp 2 = true → exec (.rejoin m v) s = s.done (u.syncStart true).claimSync) ∧
      (s.linkIsUp 2 = false → exec (.rejoin m v) s = s.done (u.wr F.MIR_STAT_SYNC 0).claimSync)) ∧
    (bit v 0 = false → bit v 1 = false → bit v 2 = true → s.isStandby = false ∨ s.rd F.MIR_STAT_PAIR_CFG = 1 ∨ (s.pair.givenUp = false ∧ s.pair.barred = false) →
      After (.rejoin m v) s (fun t => t.rd F.CLM_CLAIM = s.ownClaim % F.CLM_CLAIM.bound ∧ Frame s t [F.CLM_CLAIM])) ∧
    (bit v 0 = false → bit v 1 = true → bit v 2 = false →
      (s.canGiveUp = true → s.pair.handover = none → isRole s.mode = true →
        let u := ({ s with pair := { s.pair with handover := some .draining } } : State).wr F.CLM_STAT_HO_FAIL 0;
        u.rd F.CLM_STAT_HO_FAIL = 0 ∧ exec (.handover m v) s = s.done u.ethPause.claimSync) ∧
      (s.canGiveUp = false ∨ s.pair.handover ≠ none ∨ isRole s.mode = false → After (.handover m v) s (fun t => t.rd F.CLM_CLAIM = s.ownClaim % F.CLM_CLAIM.bound ∧ Frame s t [F.CLM_CLAIM])))) ∧
  (∀ s : State, s.isActive = true → s.mirApplied = s.jrn.seq →
    (s.pair.handover = some .draining → s.workInFlight = true → After .handoverComplete s (fun t => Frame s t [])) ∧
    (s.pair.handover = some .draining → s.workInFlight = false →
      let u := ({ s with pair := { s.pair with handover := some .waiting } } : State).pairEntry 4 0 0;
      Journaled s u 10 (be 1 0x50 ++ be 1 4 ++ be 2 (s.rd F.CLM_EPOCH) ++ be 1 0 ++ be 8 0 ++ be 8 s.raw) ∧
      Frame s { u with pair := s.pair, jrn := s.jrn } [] ∧ exec .handoverComplete s = s.done u.ship) ∧
    (s.pair.handover = some .waiting → s.upd.pairWait.isNone = true →
      let u := ((s.claimDown 0 true).wr F.CLM_STAT_HO_FAIL 0).raise Pg.CLM 7;
      u.pair = { s.pair with active := false, givenUp := true, handover := none, found := 0 } ∧ u.rd F.CLM_GIVEUP_CAUSE = 0 ∧ u.rd F.CLM_GIVEUP_CAUSE_REQ = 1 ∧
      Counted s u F.CLM_GIVEUPS ∧ u.rd F.CLM_CLAIM = 0 ∧ u.rd F.MIR_STAT_SOLO = 0 ∧ u.rd F.CLM_STAT_HO_FAIL = 0 ∧ Interrupt u Pg.CLM 6 ∧ Interrupt u Pg.CLM 7 ∧
      Frame s { u with pair := s.pair } ([F.CLM_GIVEUP_CAUSE, F.CLM_GIVEUP_CAUSE_REQ, F.CLM_GIVEUPS, F.CLM_CLAIM, F.MIR_STAT_SOLO, F.CLM_STAT_HO_FAIL] ++ raised Pg.CLM) ∧
      exec .handoverComplete s = s.done (u.ethPause.standDown.changeTo Md.STANDBY)) ∧
    (s.pair.handover = some .waiting → ∀ l, s.upd.pairWait = some l →
      let u := (((s.claimDown 0 true).wr F.CLM_STAT_HO_FAIL 0).raise Pg.CLM 7).ethPause.standDown.changeTo Md.STANDBY
      exec .handoverComplete s = s.done (if u.upd.pairWait = some l then ({ u with upd := { u.upd with pairWait := none, pairNext := some l } }).rejoin else u))) ∧
  (∀ s : State, (s.pair.handover = some .draining →
      let u := (({ s with pair := { s.pair with handover := none } } : State).wr F.CLM_STAT_HO_FAIL 1).raise Pg.CLM 7;
      u.rd F.CLM_STAT_HO_FAIL = 1 ∧ Interrupt u Pg.CLM 7 ∧ Frame s { u with pair := s.pair } (F.CLM_STAT_HO_FAIL :: raised Pg.CLM) ∧
      exec .handoverTimeout s = s.done u.ethPause) ∧
    (s.pair.handover ≠ some .draining → After .handoverTimeout s (fun t => Frame s t [])))

/-- A unit without a partner wins its rounds with its own claim, and ROUND and ROUNDS advance. In a pair DRAM errors within a second are counted, and enough are a cause; a line held low counts a bus fault with bit 5 and stops the outputs; a wrong CRC counts; a valid frame shows the winning claim, its slot and round and who is eligible; WIN's rise sets bit 0, its fall bit 1 and revokes CONTROL, each with alert 4. The higher claim wins, a tie goes to slot A. A standby that wins soundly takes over: TAKEOVER is entered, counted, EPOCH is raised up to its top, the entry with the fork point is journaled and the unit is active; one whose win the partner's heartbeat contradicts is barred, with a bus fault. A takeover that is ready enters the role mode with bit 0 and alert 0, and CONTROL is pending with bit 2 and alert 5. A pending grant is given or denied by the arbiter that names the epoch, with bit 3 and a journal entry, or bit 4; a write of both denies. Model's choices: log entries 103, 105, 106, 114. -/
def Obligations.ClaimRoundsTakeoverAndControl : Prop :=
  (∀ (partner : Option (BitVec 16)) (pround : BitVec 6) (crcOk stuck : Bool) (ue : Byte) (s : State), s.mode ≠ Md.OFF → s.mode ≠ Md.VAULT → s.dead = false → s.partnered = false →
    let k := (s.pair.soloRound + 1) % 64
    let u := ({ s with pair := { s.pair with soloRound := k } } : State).srcRounds;
    (s.domOn Dom.UPL = false → exec (.claimRound partner pround crcOk stuck ue) s = s.done u) ∧
    (s.domOn Dom.UPL = true → After (.claimRound partner pround crcOk stuck ue) s (fun t => t.rd F.CLM_WIN_STAT_CLAIM = s.ownClaim % F.CLM_WIN_STAT_CLAIM.bound ∧ t.rd F.CLM_WIN_STAT_WIN = 1 ∧ t.rd F.CLM_WIN_STAT_ROUND = k ∧
      t.rd F.CLM_ROUNDS = (s.rd F.CLM_ROUNDS + 1) % F.CLM_ROUNDS.bound ∧ t.rd F.CLM_CLAIM = s.ownClaim % F.CLM_CLAIM.bound ∧
      Frame u t [F.CLM_WIN_STAT_CLAIM, F.CLM_WIN_STAT_WIN, F.CLM_WIN_STAT_ROUND, F.CLM_ROUNDS, F.CLM_CLAIM]))) ∧
  (∀ (s : State) (own : Nat), (s.beats own none = true) ∧ (∀ c, c < own → s.beats own (some c) = true) ∧ (∀ c, own < c → s.beats own (some c) = false) ∧
    (s.pins.pairSel = 1 → s.beats own (some own) = true) ∧ (s.pins.pairSel = 2 → s.beats own (some own) = false)) ∧
  (∀ (partner : Option (BitVec 16)) (pround : BitVec 6) (ue : Byte) (s : State), s.domOn Dom.UPL = true → s.mode ≠ Md.OFF → s.mode ≠ Md.VAULT → s.dead = false → s.partnered = true →
    let errors := s.pair.ueAt.filter (fun c => decide (s.raw < c + 250000000)) ++ List.replicate ue.toNat s.raw
    let cause := decide (0 < ue.toNat) && s.pair.active && decide (s.rdIn F.CLM_GIVEUP_UE_N 1 255 ≤ errors.length)
    let d := ({ s with pair := { s.pair with ueAt := errors, found := if cause then s.pair.found ||| 1 else s.pair.found } } : State)
    let v := d.selfCheck.syncUpdate
    let own := v.ownClaim
    let other := (partner.map (fun c => c.toNat)).getD 0
    let win := s.beats own (partner.map (fun c => c.toNat))
    let claim := if win then own else other
    let mine := b2n (own != 0)
    let theirs := b2n (other != 0)
    let stop := (({ ((v.sat F.CLM_BUS_FAULT).raise Pg.CLM 5) with pair := { v.pair with issuing := false } } : State).gpioFollow ((v.sat F.CLM_BUS_FAULT).raise Pg.CLM 5))
    let shown := (((v.wr F.CLM_WIN_STAT_CLAIM claim).wr F.CLM_WIN_STAT_SLOT (if win then s.slotBit else 1 - s.slotBit)).wr F.CLM_WIN_STAT_ROUND (if win then (v.rd F.CLM_WIN_STAT_ROUND + 1) % 64 else pround.toNat)).wr F.CLM_WIN_STAT_ELIG (if s.slotBit = 1 then mine + 2 * theirs else theirs + 2 * mine)
    let a := shown.wrap F.CLM_ROUNDS
    let u := ({ a with pair := { v.pair with rounds := min 3 (v.pair.rounds + b2n (v.mode == Md.STANDBY)), sawActive := v.pair.sawActive || decide (8 ≤ claim / 4096), partnerOut := if theirs = 0 then min 2 (v.pair.partnerOut + 1) else 0 } } : State).winChange win
    let w := (u.issueChange (win && 8 ≤ claim / 4096)).soloCheck
    let x := (({ w with pair := { w.pair with barred := true } } : State).sat F.CLM_BUS_FAULT).raise Pg.CLM 5;
    (s.canGiveUp = false → d.selfCheck = d) ∧
    (∀ crcOk : Bool, exec (.claimRound partner pround crcOk true ue) s = s.done stop.claimSync.srcRounds ∧ Counted v stop F.CLM_BUS_FAULT ∧ Interrupt stop Pg.CLM 5 ∧
      Frame v { stop with pair := v.pair } (F.CLM_BUS_FAULT :: raised Pg.CLM ++ raised Pg.GPIO)) ∧
    (exec (.claimRound partner pround false false ue) s = s.done ((v.sat F.CLM_CRC_ERR).claimSync.srcRounds)) ∧
    (u.rd F.CLM_WIN_STAT_CLAIM = claim % F.CLM_WIN_STAT_CLAIM.bound ∧ u.rd F.CLM_WIN_STAT_SLOT = (if win then s.slotBit else 1 - s.slotBit) ∧
      u.rd F.CLM_ROUNDS = (v.rd F.CLM_ROUNDS + 1) % F.CLM_ROUNDS.bound ∧ u.rd F.CLM_WIN_STAT_WIN = b2n win ∧
      (win = true → v.rd F.CLM_WIN_STAT_WIN = 0 → Interrupt u Pg.CLM 0 ∧ Alerted u 4) ∧ (win = false → v.rd F.CLM_WIN_STAT_WIN = 1 → Interrupt u Pg.CLM 1 ∧ Alerted u 4 ∧ u.rd F.CLM_CTRL_STAT = 0) ∧
      (win = true → u.rd F.CLM_CTRL_STAT = v.rd F.CLM_CTRL_STAT) ∧
      Frame v { u with pair := v.pair } ([F.CLM_WIN_STAT_CLAIM, F.CLM_WIN_STAT_SLOT, F.CLM_WIN_STAT_ROUND, F.CLM_WIN_STAT_ELIG, F.CLM_WIN_STAT_WIN, F.CLM_ROUNDS, F.CLM_CTRL_STAT] ++ raised Pg.CLM) ∧
      (win = false ∨ own = 0 ∨ w.isStandby = false → exec (.claimRound partner pround true false ue) s = s.done w.claimSync.srcRounds) ∧
      (win = true → own ≠ 0 → w.isStandby = true → w.winIsSound own = true → exec (.claimRound partner pround true false ue) s = s.done w.takeOver.claimSync.srcRounds) ∧
      (win = true → own ≠ 0 → w.isStandby = true → w.winIsSound own = false → Counted w x F.CLM_BUS_FAULT ∧ Interrupt x Pg.CLM 5 ∧ exec (.claimRound partner pround true false ue) s = s.done x.claimSync.srcRounds))) ∧
  (∀ s : State, s.partnered = true →
    let u := (s.enter Md.TAKEOVER).sat F.CLM_TAKEOVERS
    let e := s.rd F.CLM_EPOCH
    let a := if e < 4095 then u.wr F.CLM_EPOCH (e + 1) else u
    let b := if 4094 ≤ e then a.wr F.CLM_STAT_EPOCH_SAT 1 else a
    let c := ({ b with pair := { b.pair with active := true, stores := [], behind := [], lagFrom := none, shipped := s.jrn.seq, found := 0 } } : State)
    let x := (((c.pairEntry 2 0 s.jrn.seq).wr F.MIR_STAT_ELIG 0).wr F.MIR_LAG 0).wr64 F.MIR_APPLIED_LO F.MIR_APPLIED_HI 0;
    u.rd F.MODE_CUR = Md.TAKEOVER ∧ u.rd F.MODE_PREV = s.mode % F.MODE_PREV.bound ∧ Interrupt u Pg.MODE 0 ∧ Alerted u 0 ∧ u.rd F.MODE_STAT_BUSY = 0 ∧
    u.rd F.CLM_TAKEOVERS = min (s.pstModeChange.rd F.CLM_TAKEOVERS + 1) (F.CLM_TAKEOVERS.bound - 1) ∧
    (e < 4095 → x.rd F.CLM_EPOCH = e + 1) ∧ (4094 ≤ e → x.rd F.CLM_STAT_EPOCH_SAT = 1) ∧
    Journaled c x 10 (be 1 0x50 ++ be 1 2 ++ be 2 (x.rd F.CLM_EPOCH) ++ be 1 0 ++ be 8 s.jrn.seq ++ be 8 u.raw) ∧
    x.rd F.MIR_STAT_ELIG = 0 ∧ x.rd F.MIR_LAG = 0 ∧ x.mirApplied = 0 ∧
    Frame u { x with pair := u.pair, jrn := u.jrn } [F.CLM_EPOCH, F.CLM_STAT_EPOCH_SAT, F.MIR_STAT_ELIG, F.MIR_LAG, F.MIR_APPLIED_LO, F.MIR_APPLIED_HI] ∧
    s.takeOver = x.gateRestore.tchRestart.changeTo x.roleMode) ∧
  (∀ s : State, s.mode = Md.TAKEOVER → s.pwr.ramping = none → s.pwr.change = some ⟨s.roleMode, []⟩ → isRole s.roleMode = true →
    let e := s.enter s.roleMode
    let d := ({ e with pwr := { e.pwr with portsOff := false, mirOff := false } } : State).takeoverDone
    let w := (d.restoration.portsFollow.linksFollow.ovrDone .mode).ovrDone .claim;
    e.rd F.MODE_CUR = s.roleMode ∧ e.rd F.MODE_PREV = Md.TAKEOVER ∧ e.rd F.MODE_STAT_BUSY = 0 ∧ Interrupt e Pg.MODE 0 ∧ Alerted e 0 ∧
    d.rd F.CLM_CTRL_STAT = 1 ∧ Interrupt d Pg.CLM 2 ∧ Alerted d 5 ∧
    exec .takeoverReady s = s.done (if w.role = 2 then w.startWalk else w).ovrSettle) ∧
  (∀ (m : Master) (v : Word) (s : State), s.judge m Pg.CLM 0x64 = .open → s.ovrHolds .claim = false ∨ m = .smp →
    let heard := !s.on F.CLM_CTRL_ARB && bits v 27 16 == s.rd F.CLM_EPOCH
    let denied := fun (t : State) => t.rd F.CLM_CTRL_STAT = 3 ∧ Interrupt t Pg.CLM 4 ∧ Frame s t (F.CLM_CTRL_STAT :: raised Pg.CLM)
    let u := ((s.wr F.CLM_CTRL_STAT 2).raise Pg.CLM 3).pairEntry 3 0 0;
    (heard = true → bit v 1 = true → s.rd F.CLM_CTRL_STAT = 1 → After (.ctrlDeny m v) s (fun t => denied t) ∧ After (.ctrlGrant m v) s (fun t => denied t)) ∧
    (heard = true → bit v 1 = false → bit v 0 = true → s.rd F.CLM_CTRL_STAT = 1 → u.rd F.CLM_CTRL_STAT = 2 ∧ Interrupt u Pg.CLM 3 ∧
      Journaled s u 10 (be 1 0x50 ++ be 1 3 ++ be 2 (s.rd F.CLM_EPOCH) ++ be 1 0 ++ be 8 0 ++ be 8 s.raw) ∧ Frame s { u with jrn := s.jrn } (F.CLM_CTRL_STAT :: raised Pg.CLM) ∧ exec (.ctrlGrant m v) s = s.done u.pushServe) ∧
    (heard = false ∨ s.rd F.CLM_CTRL_STAT ≠ 1 → After (.ctrlDeny m v) s (fun t => Frame s t []) ∧ After (.ctrlGrant m v) s (fun t => Frame s t []))) ∧
  (∀ (m : Master) (v : Word) (s : State), s.judge m Pg.CLM 0x64 = .open → s.ovrHolds .claim = true → m ≠ .smp →
    exec (.ctrlDeny m v) s = s.done (s.denyWrite m Cause.OWNER_DENY Pg.CLM 0x64) ∧ exec (.ctrlGrant m v) s = s.done (s.denyWrite m Cause.OWNER_DENY Pg.CLM 0x64))

/-- SEL shows a slot's attributes and information. An import unwraps its bytes with the slot named, a public key must lie on the curve, and a generated key is random; where the slot may take the command, is empty and the type is right, the key is stored under the staged attributes with a new mask and the next generation, and its blob where it persists, result 1; else the results are 5, 8, 6, 3 or 2. ZEROISE empties a slot and its blob with bit 3, NARROW sets attributes that only narrow, else result 4, and neither takes a fixed slot, result 5. A word without GO does nothing. A slot whose expiry has come is emptied, EXPIRED, with bit 2. An anneal pass gives slots new masks and leaves every key as it was; one over all slots is counted. Model's choices: log entries 93, 94. -/
def Obligations.KeySlotCommands : Prop :=
  (∀ (m : Master) (v : Word) (s : State), s.judge m Pg.KEYS 0x40 = .open →
    let k := s.slot (bits v 7 0)
    After (.keySelect m v) s (fun t => t.rd F.KEYS_SEL = bits v 7 0 ∧ t.rd F.KEYS_ATTR_LO = k.attr % 2 ^ 32 ∧ t.rd F.KEYS_ATTR_HI = k.attr / 2 ^ 32 % 2 ^ 32 ∧ t.rd F.KEYS_INFO_TYPE = k.typ % F.KEYS_INFO_TYPE.bound ∧
      t.rd F.KEYS_INFO_ORIGIN = k.origin % F.KEYS_INFO_ORIGIN.bound ∧ t.rd F.KEYS_INFO_PERSIST = b2n k.persist ∧ t.rd F.KEYS_INFO_EXPIRED = b2n k.expired ∧ t.rd F.KEYS_INFO_GEN = k.gen % F.KEYS_INFO_GEN.bound ∧
      Frame s t [F.KEYS_SEL, F.KEYS_ATTR_LO, F.KEYS_ATTR_HI, F.KEYS_INFO_TYPE, F.KEYS_INFO_ORIGIN, F.KEYS_INFO_PERSIST, F.KEYS_INFO_EXPIRED, F.KEYS_INFO_GEN])) ∧
  (∀ (m : Master) (machine : Bool) (v : Word) (s : State), s.judge m Pg.KEYS 0xB4 = .open → bit v 31 = false →
    After (.keyImport m machine v) s (fun t => Frame s t []) ∧ After (.keyImportPub m machine v) s (fun t => Frame s t []) ∧ After (.keyGenerate m machine v) s (fun t => Frame s t []) ∧
    After (.keyZeroise m machine v) s (fun t => Frame s t []) ∧ After (.keyNarrow m machine v) s (fun t => Frame s t [])) ∧
  (∀ (m : Master) (machine : Bool) (v : Word) (s : State), s.judge m Pg.KEYS 0xB4 = .open → bit v 31 = true →
    let i := s.rd F.KEYS_SEL
    let typ := bits v 3 0
    let cmd := bits v 27 24
    let refused := fun (u : State) (r : Nat) (t : State) => t.rd F.KEYS_RES = r ∧ Interrupt t Pg.KEYS 0 ∧ Frame u t (F.KEYS_RES :: raised Pg.KEYS)
    let p := bit v 4 && decide (8 ≤ i) && decide (i < 240)
    let stored := fun (typ origin : Nat) (key : List Byte) (t : State) =>
      t.keyOf i = key ∧ (t.slot i).typ = typ ∧ (t.slot i).origin = origin ∧ (t.slot i).attr = attrStored i s.staged ∧ (t.slot i).persist = p ∧ (t.slot i).gen = ((s.slot i).gen + 1) % 65536 ∧ (t.slot i).expired = false ∧
      (∀ j, j ≠ i → t.slot j = s.slot j) ∧ (p = true → t.sec.blobs = SMap.set s.sec.blobs i ⟨typ, attrStored i s.staged, origin, Config.wrap (t.keyOf 4) key⟩) ∧ (p = false → t.sec.blobs = s.sec.blobs) ∧
      t.rd F.KEYS_RES = 1 ∧ Interrupt t Pg.KEYS 0 ∧ t.sec = { s.sec with slots := t.sec.slots, blobs := t.sec.blobs } ∧ Frame s { t with sec := s.sec, fresh := s.fresh } ([F.KEYS_RES, F.KEYS_USED] ++ raised Pg.KEYS)
    (cmd = 1 → s.slotTakes i 1 typ = false → After (.keyImport m machine v) s (fun t => refused s 5 t)) ∧
    (cmd = 1 → s.slotTakes i 1 typ = true → (s.slot i).typ ≠ 0 → After (.keyImport m machine v) s (fun t => refused s 8 t)) ∧
    (cmd = 1 → s.slotTakes i 1 typ = true → (s.slot i).typ = 0 → (typ = 0 ∨ 5 ≤ typ) → After (.keyImport m machine v) s (fun t => refused s 6 t)) ∧
    (cmd = 1 → s.slotTakes i 1 typ = true → (s.slot i).typ = 0 → 1 ≤ typ → typ ≤ 4 →
      let r := s.invoke (bits v 23 16) (invoker m) (secureWrite m machine) Use.UNWRAP;
      (r.1.isNone = true → After (.keyImport m machine v) s (fun t => refused r.2 3 t)) ∧
      (∀ kek, r.1 = some kek → r.2 = s ∧
        ((Config.unwrap kek (s.keyIn (keyLen typ + 8))).isNone = true → After (.keyImport m machine v) s (fun t => refused s 2 t)) ∧
        (∀ key, Config.unwrap kek (s.keyIn (keyLen typ + 8)) = some key → After (.keyImport m machine v) s (fun t => stored typ 1 key t)))) ∧
    (cmd = 2 → s.slotTakes i 2 5 = false → After (.keyImportPub m machine v) s (fun t => refused s 5 t)) ∧
    (cmd = 2 → s.slotTakes i 2 5 = true → (s.slot i).typ ≠ 0 → After (.keyImportPub m machine v) s (fun t => refused s 8 t)) ∧
    (cmd = 2 → s.slotTakes i 2 5 = true → (s.slot i).typ = 0 →
      let fits := decide (i < 240) && (s.keyIn 97).headD 0 == 4 && Config.onCurve (s.keyIn 97);
      (fits = true → After (.keyImportPub m machine v) s (fun t => stored 5 1 (s.keyIn 97) t)) ∧ (fits = false → After (.keyImportPub m machine v) s (fun t => refused s 6 t))) ∧
    (cmd = 3 → s.slotTakes i 3 typ = false → After (.keyGenerate m machine v) s (fun t => refused s 5 t)) ∧
    (cmd = 3 → s.slotTakes i 3 typ = true → (s.slot i).typ ≠ 0 → After (.keyGenerate m machine v) s (fun t => refused s 8 t)) ∧
    (cmd = 3 → s.slotTakes i 3 typ = true → (s.slot i).typ = 0 → (typ = 0 ∨ 5 ≤ typ) → After (.keyGenerate m machine v) s (fun t => refused s 6 t)) ∧
    (cmd = 3 → s.slotTakes i 3 typ = true → (s.slot i).typ = 0 → 1 ≤ typ → typ ≤ 3 → After (.keyGenerate m machine v) s (fun t => (t.keyOf i).length = keyLen typ ∧ stored typ 2 (t.keyOf i) t)) ∧
    (cmd = 3 → s.slotTakes i 3 4 = true → (s.slot i).typ = 0 → typ = 4 → After (.keyGenerate m machine v) s (fun t => (t.keyOf i).length = 48 ∧ stored 4 2 (t.keyOf i) t)) ∧
    (cmd = 4 → slotFixed i = true → After (.keyZeroise m machine v) s (fun t => refused s 5 t)) ∧
    (cmd = 4 → slotFixed i = false → After (.keyZeroise m machine v) s (fun t => t.slot i = { gen := ((s.slot i).gen + 1) % 65536 } ∧ (∀ j, j ≠ i → t.slot j = s.slot j) ∧ t.sec.blobs = SMap.erase s.sec.blobs i ∧
      t.rd F.KEYS_RES = 1 ∧ Interrupt t Pg.KEYS 0 ∧ Interrupt t Pg.KEYS 3 ∧ t.sec = { s.sec with slots := t.sec.slots, blobs := t.sec.blobs } ∧ Frame s { t with sec := s.sec } ([F.KEYS_RES, F.KEYS_USED] ++ raised Pg.KEYS))) ∧
    (cmd = 5 → slotFixed i = true → After (.keyNarrow m machine v) s (fun t => refused s 5 t)) ∧
    (cmd = 5 → slotFixed i = false → (s.slot i).typ = 0 → After (.keyNarrow m machine v) s (fun t => refused s 6 t)) ∧
    (cmd = 5 → slotFixed i = false → (s.slot i).typ ≠ 0 → narrows (s.slot i).attr s.staged = false → After (.keyNarrow m machine v) s (fun t => refused s 4 t)) ∧
    (cmd = 5 → slotFixed i = false → (s.slot i).typ ≠ 0 → narrows (s.slot i).attr s.staged = true → After (.keyNarrow m machine v) s (fun t =>
      t.slot i = { s.slot i with attr := s.staged, gen := ((s.slot i).gen + 1) % 65536 } ∧ (∀ j, j ≠ i → t.slot j = s.slot j) ∧ (∀ b, SMap.find? s.sec.blobs i = some b → SMap.find? t.sec.blobs i = some { b with attr := s.staged }) ∧
      t.rd F.KEYS_RES = 1 ∧ Interrupt t Pg.KEYS 0 ∧ t.sec = { s.sec with slots := t.sec.slots, blobs := t.sec.blobs } ∧ Frame s { t with sec := s.sec } ([F.KEYS_RES, F.KEYS_USED] ++ raised Pg.KEYS)))) ∧
  (∀ old new n : Nat, narrows old new = true → ((56 ≤ n ∧ n ≤ 63) ∨ (48 ≤ n ∧ n ≤ 53) ∨ (32 ≤ n ∧ n ≤ 47)) → new.testBit n = true → old.testBit n = true) ∧
  (∀ (slot : Byte) (s : State),
    let k := s.slot slot.toNat
    let due := s.domOn Dom.SEC && k.typ != 0 && attrExpiry k.attr != 0 && decide (attrExpiry k.attr ≤ s.ledgerTime)
    (due = true → After (.keyExpire slot) s (fun t => t.slot slot.toNat = { gen := (k.gen + 1) % 65536, expired := true } ∧ (∀ j, j ≠ slot.toNat → t.slot j = s.slot j) ∧ t.sec.blobs = SMap.erase s.sec.blobs slot.toNat ∧
      Interrupt t Pg.KEYS 2 ∧ t.sec = { s.sec with slots := t.sec.slots, blobs := t.sec.blobs } ∧ Frame s { t with sec := s.sec } (F.KEYS_USED :: raised Pg.KEYS))) ∧
    (due = false → After (.keyExpire slot) s (fun t => Frame s t []))) ∧
  (∀ s : State, s.mode ≠ Md.OFF →
    let kept := fun (t : State) => (∀ i, t.keyOf i = s.keyOf i ∧ ({ t.slot i with sum := (s.slot i).sum, mask := (s.slot i).mask } : KeySlot) = s.slot i) ∧ t.sec = { s.sec with slots := t.sec.slots }
    (s.domOn Dom.SEC = true → After .annealPass s (fun t => kept t ∧ t.rd F.SEC_ANNEAL_PASSES = (s.rd F.SEC_ANNEAL_PASSES + 1) % F.SEC_ANNEAL_PASSES.bound ∧ t.ledger 20 = min (s.ledger 20 + 1) (2 ^ 48 - 1) ∧
      Frame s { t with sec := s.sec, fresh := s.fresh } [F.SEC_ANNEAL_PASSES, F.LDG_WORD 40, F.LDG_WORD 41, F.KEYS_USED])) ∧
    (s.domOn Dom.SEC = false → After .annealPass s (fun t => kept t ∧ (∀ i, i < 240 → t.slot i = s.slot i) ∧ Frame s { t with sec := s.sec, fresh := s.fresh } [F.KEYS_USED])))

/-- A life-cycle command needs its key word, and good supplies, else result 4. BLANK to FACTORY gives the device its secret and derives slots 0 to 4; FACTORY to PROVISIONED needs the four anchors and both certificates and dates the ledger; PROVISIONED to FIELD needs debug off, no change outstanding and a legal generation; RETURN and RETIRED need a fresh challenge and a token, but RETURN to RETIRED. A transition stores the state and its time, result 1 with bit 0; a missing requirement is result 3, a wrong token 2, with bit 1, and the challenge is used up. RETURN and RETIRED clear: every slot empty, tokens, nonces and challenges gone, the roots blocked. A read of a challenge issues a new one. A debug request is accepted with its level, counted, where the state lets it or its token is right. An enabled tamper cause empties every slot, is recorded and counted with its alert and, where SEC is on, bit 1, and asks for a reset. Model's choices: log entries 93, 94, 95, 116. -/
def Obligations.LifeCycleDebugAndTamper : Prop :=
  (∀ (m : Master) (v : Word) (s : State), s.judge m Pg.LIFE 0xB4 = .open →
    let key := bits v 31 16 == 0x1CFE
    let fit := s.pins.mainsOk && s.mode != Md.OUTAGE && s.mode != Md.HOLDUP
    let lc := s.fuses.lc
    let to_ := bits v 3 0
    let refused := fun (r : Nat) (t : State) => t.rd F.LIFE_STAT_RES = r ∧ Interrupt t Pg.LIFE 1 ∧ Frame s t (F.LIFE_STAT_RES :: raised Pg.LIFE)
    let moved := fun (n : Nat) (t : State) => t.fuses = { s.fuses with lc := n } ∧ t.rd F.LIFE_LAST_T = s.ledgerTime % F.LIFE_LAST_T.bound ∧ t.rd F.LIFE_STAT_RES = 1 ∧ t.rd F.LIFE_STAT_DONE = 1 ∧ Interrupt t Pg.LIFE 0
    let lifeFields := [F.LIFE_LAST_T, F.LIFE_STAT_RES, F.LIFE_STAT_DONE] ++ raised Pg.LIFE
    (key = false → After (.lcToFactory m v) s (fun t => Frame s t []) ∧ After (.lcToProvisioned m v) s (fun t => Frame s t []) ∧ After (.lcToField m v) s (fun t => Frame s t []) ∧ After (.lcToReturn m v) s (fun t => Frame s t []) ∧ After (.lcToRetired m v) s (fun t => Frame s t [])) ∧
    (key = true → fit = false → After (.lcToFactory m v) s (fun t => refused 4 t) ∧ After (.lcToProvisioned m v) s (fun t => refused 4 t) ∧ After (.lcToField m v) s (fun t => refused 4 t) ∧ After (.lcToReturn m v) s (fun t => refused 4 t) ∧ After (.lcToRetired m v) s (fun t => refused 4 t)) ∧
    (key = true → fit = true → ¬ ((lc = 0 ∧ to_ = 1) ∨ (lc = 1 ∧ (to_ = 2 ∨ to_ = 4)) ∨ (lc = 2 ∧ (to_ = 3 ∨ to_ = 4 ∨ to_ = 5)) ∨ (lc = 3 ∧ (to_ = 4 ∨ to_ = 5)) ∨ (lc = 4 ∧ to_ = 5)) → After (.lcToFactory m v) s (fun t => refused 3 t) ∧ After (.lcToProvisioned m v) s (fun t => refused 3 t) ∧ After (.lcToField m v) s (fun t => refused 3 t) ∧ After (.lcToReturn m v) s (fun t => refused 3 t) ∧ After (.lcToRetired m v) s (fun t => refused 3 t)) ∧
    (key = true → fit = true → lc = 0 → to_ = 1 → After (.lcToFactory m v) s (fun t => t.fuses = { s.fuses with lc := 1, ds := t.fuses.ds } ∧ (s.fuses.ds ≠ [] → t.fuses.ds = s.fuses.ds) ∧ (s.fuses.ds = [] → t.fuses.ds.length = 48) ∧
      t.rd F.LIFE_LAST_T = s.ledgerTime % F.LIFE_LAST_T.bound ∧ t.rd F.LIFE_STAT_RES = 1 ∧ t.rd F.LIFE_STAT_DONE = 1 ∧ Interrupt t Pg.LIFE 0 ∧ t.rd F.SEC_STAT_DERIVED = 1 ∧
      (∀ i, i < 5 → (t.slot i).attr = derivedAttr i ∧ (t.slot i).origin = 0 ∧ (t.slot i).typ = (if i ≤ 2 then 4 else 2) ∧ t.keyOf i = ({ s with fuses := t.fuses } : State).derivedKey i) ∧
      (∀ i, 5 ≤ i → t.slot i = s.slot i) ∧ t.gate = { s.gate with keys := t.gate.keys, groupKeys := t.gate.groupKeys } ∧ Frame s { t with fuses := s.fuses, sec := s.sec, gate := s.gate, fresh := s.fresh } (lifeFields ++ [F.KEYS_USED, F.SEC_STAT_DERIVED, F.SEC_STAT_TEST_ROOT, F.SEC_STAT_DICE]))) ∧
    (key = true → fit = true → lc = 1 → to_ = 2 →
      let ready := [10, 11, 12, 13].all (fun i => (s.slot i).typ == 5) && (SMap.find? s.sec.certs 1).isSome && (SMap.find? s.sec.certs 2).isSome;
      (ready = true → After (.lcToProvisioned m v) s (fun t => moved 2 t ∧ t.ledger 28 = min s.date (2 ^ 48 - 1) ∧ Frame s { t with fuses := s.fuses } (lifeFields ++ [F.LDG_WORD 56, F.LDG_WORD 57]))) ∧
      (ready = false → After (.lcToProvisioned m v) s (fun t => refused 3 t))) ∧
    (key = true → fit = true → lc = 2 → to_ = 3 →
      let ready := s.rd F.DBG_LEVEL == 0 && !s.cfgDirty && decide (1 ≤ s.rd F.LGL_LGEN);
      (ready = true → After (.lcToField m v) s (fun t => moved 3 t ∧ Frame s { t with fuses := s.fuses } lifeFields)) ∧ (ready = false → After (.lcToField m v) s (fun t => refused 3 t))) ∧
    (key = true → fit = true → lc = 4 → to_ = 5 → exec (.lcToRetired m v) s = s.done (s.lcCommit 5)) ∧
    (key = true → fit = true →
      let sig := (List.range 24).flatMap (fun w => be 4 (s.rd (F.LIFE_TOKEN w)))
      let u := ({ s with sec := { s.sec with lifeChal := none } } : State)
      let chal := s.chalFresh s.sec.lifeChal
      let wrong := fun (t : State) => t.sec = u.sec ∧ t.rd F.LIFE_STAT_RES = 2 ∧ Interrupt t Pg.LIFE 1 ∧ Frame s { t with sec := s.sec } (F.LIFE_STAT_RES :: raised Pg.LIFE)
      let back := u.invoke 13 Mst.SEC true Use.ANCHOR
      let gone := u.invoke 12 Mst.SEC true Use.ANCHOR;
      (1 ≤ lc → lc ≤ 3 → to_ = 4 → chal.isNone = true → After (.lcToReturn m v) s (fun t => wrong t)) ∧
      (lc = 2 ∨ lc = 3 → to_ = 5 → chal.isNone = true → After (.lcToRetired m v) s (fun t => wrong t)) ∧
      (∀ c, chal = some c → 1 ≤ lc → lc ≤ 3 → to_ = 4 →
        let good := back.1.any (fun pub => Config.ecdsaVerify pub (s.tokenMsg c 1 4 false) sig);
        (good = true → exec (.lcToReturn m v) s = s.done (u.lcCommit 4)) ∧ (good = false → exec (.lcToReturn m v) s = s.done (back.2.lcRefuse 2)) ∧ (good = false → back.1.isSome = true → After (.lcToReturn m v) s (fun t => wrong t))) ∧
      (∀ c, chal = some c → lc = 2 ∨ lc = 3 → to_ = 5 →
        let good := gone.1.any (fun pub => Config.ecdsaVerify pub (s.tokenMsg c 1 5 false) sig);
        (good = true → exec (.lcToRetired m v) s = s.done (u.lcCommit 5)) ∧ (good = false → exec (.lcToRetired m v) s = s.done (gone.2.lcRefuse 2)) ∧ (good = false → gone.1.isSome = true → After (.lcToRetired m v) s (fun t => wrong t))))) ∧
  (∀ (lc : Nat) (s : State), lc = 4 ∨ lc = 5 →
    let t := s.lcCommit lc;
    t.fuses = { s.fuses with lc := lc, blocked := true } ∧ (∀ i, (t.slot i).typ = 0) ∧ (∀ w, w < 24 → t.rd (F.LIFE_TOKEN w) = 0 ∧ t.rd (F.DBG_TOKEN w) = 0) ∧ (∀ w, w < 8 → t.rd (F.SEC_ATT_NONCE w) = 0) ∧
    t.sec.lifeChal.isNone = true ∧ t.sec.dbgChal.isNone = true ∧ t.lgl.chal = [] ∧ t.rd F.DBG_SCAN_CLEARED = 1 ∧ (∀ b, b < 2 → t.rd (F.OBJ_SESS_STAT_ROLE b) = 4) ∧ (lc = 5 → t.sec.certs = []) ∧ t.rd F.LIFE_LAST_T = s.ledgerTime % F.LIFE_LAST_T.bound ∧ t.rd F.LIFE_STAT_RES = 1 ∧ t.rd F.LIFE_STAT_DONE = 1 ∧ Interrupt t Pg.LIFE 0) ∧
  (∀ (m : Master) (s : State), s.dead = false →
    let x := s.freeVal (2 ^ 64);
    (s.pageOn Pg.LIFE = true → After (.lifeChallenge m) s (fun t => t.sec = { s.sec with lifeChal := some (x, s.raw) } ∧ t.rd F.LIFE_CHAL_LO = x % 2 ^ 32 ∧ t.rd F.LIFE_CHAL_HI = x / 2 ^ 32 ∧
      t.bus.rdata = [BitVec.ofNat 32 x] ∧ SMap.find? t.bus.shadow (shadowKey m Pg.LIFE 0x50) = some (BitVec.ofNat 32 (x / 2 ^ 32)) ∧ Frame s { t with sec := s.sec, bus := s.bus, fresh := s.fresh } [F.LIFE_CHAL_LO, F.LIFE_CHAL_HI])) ∧
    (s.pageOn Pg.DBG = true → After (.debugChallenge m) s (fun t => t.sec = { s.sec with dbgChal := some (x, s.raw) } ∧ t.rd F.DBG_CHAL_LO = x % 2 ^ 32 ∧ t.rd F.DBG_CHAL_HI = x / 2 ^ 32 ∧
      t.bus.rdata = [BitVec.ofNat 32 x] ∧ SMap.find? t.bus.shadow (shadowKey m Pg.DBG 0x48) = some (BitVec.ofNat 32 (x / 2 ^ 32)) ∧ Frame s { t with sec := s.sec, bus := s.bus, fresh := s.fresh } [F.DBG_CHAL_LO, F.DBG_CHAL_HI]))) ∧
  (∀ (m : Master) (v : Word) (s : State), s.judge m Pg.DBG 0xAC = .open →
    let level := min 2 (bits v 1 0)
    let accepted := fun (t : State) => t.rd F.DBG_PEND = level ∧ t.rd F.DBG_SCAN_PEND = b2n (bit v 8) ∧ t.rd F.DBG_RES = 1 ∧ Interrupt t Pg.DBG 0 ∧ (level ≠ 0 → Counted s t F.DBG_UNLOCKS) ∧
      Frame s { t with sec := s.sec } ([F.DBG_PEND, F.DBG_SCAN_PEND, F.DBG_RES] ++ (if level = 0 then [] else [F.DBG_UNLOCKS]) ++ raised Pg.DBG)
    let refused := fun (r : Nat) (t : State) => t.rd F.DBG_RES = r ∧ Interrupt t Pg.DBG 0 ∧ Frame s { t with sec := s.sec } (F.DBG_RES :: raised Pg.DBG)
    let used := fun (t : State) => t.sec = { s.sec with dbgChal := none }
    (bit v 31 = false → After (.debugRequest m v) s (fun t => Frame s t [])) ∧
    (bit v 31 = true → level = 0 ∨ s.fuses.lc ≤ 1 ∨ s.fuses.lc = 4 → After (.debugRequest m v) s (fun t => accepted t ∧ t.sec = s.sec)) ∧
    (bit v 31 = true → level ≠ 0 → s.fuses.lc = 5 → After (.debugRequest m v) s (fun t => refused 3 t ∧ t.sec = s.sec)) ∧
    (bit v 31 = true → level ≠ 0 → s.fuses.lc = 2 ∨ s.fuses.lc = 3 → (s.chalFresh s.sec.dbgChal).isNone = true → After (.debugRequest m v) s (fun t => refused 2 t ∧ used t)) ∧
    (∀ c, s.chalFresh s.sec.dbgChal = some c → bit v 31 = true → level ≠ 0 → s.fuses.lc = 2 ∨ s.fuses.lc = 3 →
      let u := ({ s with sec := { s.sec with dbgChal := none } } : State)
      let r := u.invoke 12 Mst.SEC true Use.ANCHOR
      let good := r.1.any (fun pub => Config.ecdsaVerify pub (s.tokenMsg c 2 level (bit v 8)) ((List.range 24).flatMap (fun w => be 4 (s.rd (F.DBG_TOKEN w)))));
      (good = true → After (.debugRequest m v) s (fun t => accepted t ∧ used t)) ∧ (good = false → r.1.isSome = true → After (.debugRequest m v) s (fun t => refused 2 t ∧ used t)) ∧
      (good = false → exec (.debugRequest m v) s = s.done (r.2.dbgRefuse 2)))) ∧
  (∀ (cause : Fin 6) (s : State),
    let acts := s.mode != Md.OFF && (s.rd F.SEC_TAMPER_EN).testBit cause.val
    let a := ((s.zeroiseAll.wr F.SEC_TAMPER_STAT (s.rd F.SEC_TAMPER_STAT ||| 2 ^ cause.val)).ledgerAdd 21 1).alert 6
    let u := if s.domOn Dom.SEC then a.raise Pg.SEC 1 else a;
    (acts = false → After (.tamper cause) s (fun t => Frame s t [])) ∧
    (acts = true → (∀ i, (u.slot i).typ = 0) ∧ u.rd F.SEC_TAMPER_STAT = (s.rd F.SEC_TAMPER_STAT ||| 2 ^ cause.val) % F.SEC_TAMPER_STAT.bound ∧ u.ledger 21 = min (s.ledger 21 + 1) (2 ^ 48 - 1) ∧ Alerted u 6 ∧ u.sec = { s.sec with slots := u.sec.slots } ∧
      (s.domOn Dom.SEC = true → Interrupt u Pg.SEC 1) ∧
      Frame s { u with sec := s.sec } ([F.KEYS_USED, F.SEC_STAT_DERIVED, F.SEC_TAMPER_STAT, F.LDG_WORD 42, F.LDG_WORD 43, F.SMP_ALERT_STAT] ++ raised Pg.SEC) ∧
      (s.mode = Md.VAULT → exec (.tamper cause) s = s.done u) ∧ (s.mode ≠ Md.VAULT → exec (.tamper cause) s = s.done (u.startReset 4 1))))

/-- GO of an item without an output queue ends with result 6. Item 0 is the report, signed with slot 2, or result 4 where that slot refuses; the report has 480 bytes, with version, life cycle, debug level, role, serial number, ledger time and measurements at their places and the signature over the first 384. Item 5 is the identity key, or 2 without one; items 1 to 4 the certificates, or 2. The packet goes to the queue with result 1, or 6 where it takes none. INSTALL takes the vendor's certificate before PROVISIONED and the owner's, in PROVISION mode, else result 4; a cell that holds no host packet is result 2, another subject than the identity key 3. Every result sets bit 0. Model's choices: log entries 4, 64. -/
def Obligations.AttestationAndCertificates : Prop :=
  (∀ s : State, s.attReport.length = 480 ∧ field s.attReport 0 2 = 1 ∧ field s.attReport 2 1 = s.fuses.lc % 256 ∧ field s.attReport 3 1 = s.rd F.DBG_LEVEL % 256 ∧ field s.attReport 4 1 = s.role % 256 ∧
    field s.attReport 8 8 = s.fuses.serial % 2 ^ 64 ∧ field s.attReport 16 8 = s.ledgerTime % 2 ^ 64 ∧ field s.attReport 24 4 = s.rd F.CFG_GEN % 2 ^ 32 ∧ field s.attReport 28 4 = s.rd F.LGL_LGEN % 2 ^ 32 ∧
    (∀ w, w < 8 → field s.attReport (32 + 4 * w) 4 = s.rd (F.SEC_ATT_NONCE w) % 2 ^ 32) ∧ (∀ j, j < 6 → (s.attReport.drop (64 + 48 * j)).take 48 = (s.measure j ++ be 48 0).take 48) ∧
    s.attReport.drop 384 = (Config.ecdsaSign (s.keyOf 2) (s.attReport.take 384) ++ be 96 0).take 96) ∧
  (∀ (m : Master) (v : Word) (s : State), s.judge m Pg.SEC 0xA0 = .open →
    let item := bits v 2 0
    let r := s.wr F.SEC_ATT_CTL_ITEM item
    let ended := fun (u : State) (n : Nat) (t : State) => t.rd F.SEC_ATT_CTL_RES = n ∧ t.rd F.SEC_ATT_CTL_ITEM = item ∧ Interrupt t Pg.SEC 0 ∧ Frame u t ([F.SEC_ATT_CTL_RES, F.SEC_ATT_CTL_ITEM] ++ raised Pg.SEC)
    (bit v 29 = false → bit v 31 = false → After (.attestItem m v) s (fun t => t.rd F.SEC_ATT_CTL_ITEM = item ∧ Frame s t [F.SEC_ATT_CTL_ITEM]) ∧ After (.attestReport m v) s (fun t => t.rd F.SEC_ATT_CTL_ITEM = item ∧ Frame s t [F.SEC_ATT_CTL_ITEM])) ∧
    (bit v 29 = false → bit v 31 = true → queueNamed (s.rd F.SEC_OUT_Q) = false → After (.attestItem m v) s (fun t => ended s 6 t) ∧ After (.attestReport m v) s (fun t => ended s 6 t)) ∧
    (bit v 29 = false → bit v 31 = true → queueNamed (s.rd F.SEC_OUT_Q) = true →
      (item = 0 → s.keyAllows 2 Mst.SEC true Use.ATTEST_SIGN = false → After (.attestReport m v) s (fun t => t.rd F.SEC_ATT_CTL_RES = 4 ∧ Interrupt t Pg.SEC 0 ∧ Counted s t F.KEYS_DENY_CNT ∧ Interrupt t Pg.KEYS 1 ∧
        Frame s t ([F.SEC_ATT_CTL_RES, F.SEC_ATT_CTL_ITEM, F.KEYS_DENY_CNT, F.KEYS_DENY_LOG_VALID, F.KEYS_DENY_LOG_USAGE, F.KEYS_DENY_LOG_MASTER, F.KEYS_DENY_LOG_SLOT] ++ raised Pg.SEC ++ raised Pg.KEYS))) ∧
      (item = 0 → s.keyAllows 2 Mst.SEC true Use.ATTEST_SIGN = true →
        let o := r.outputPacket (s.rd F.SEC_OUT_Q) s.attReport
        After (.attestReport m v) s (fun t => ended o.2 (if o.1 then 1 else 6) t)) ∧
      (item = 5 → (s.slot 1).typ = 0 → After (.attestItem m v) s (fun t => ended s 2 t)) ∧
      (item = 5 → (s.slot 1).typ ≠ 0 →
        let o := r.outputPacket (s.rd F.SEC_OUT_Q) (Config.pubKey (s.keyOf 1))
        After (.attestItem m v) s (fun t => ended o.2 (if o.1 then 1 else 6) t)) ∧
      (item ≠ 0 → item ≠ 5 → (SMap.find? s.sec.certs item).isNone = true → After (.attestItem m v) s (fun t => ended s 2 t)) ∧
      (∀ c, SMap.find? s.sec.certs item = some c → item ≠ 0 → item ≠ 5 →
        let o := r.outputPacket (s.rd F.SEC_OUT_Q) c
        After (.attestItem m v) s (fun t => ended o.2 (if o.1 then 1 else 6) t))) ∧
    (bit v 29 = true →
      let mayBe := s.mode == Md.PROVISION && (item == 2 || (item == 1 && decide (s.fuses.lc ≤ 1)))
      let cell := s.rd F.SEC_IN_CELL
      let held := (s.link cell).st == .held && (s.link cell).host
      let same := Config.certSubject (s.pktPayload cell) == Config.pubKey (s.keyOf 1);
      (mayBe = false → After (.certInstall m v) s (fun t => ended s 4 t)) ∧
      (mayBe = true → held = false → After (.certInstall m v) s (fun t => ended s 2 t)) ∧
      (mayBe = true → held = true → same = true → After (.certInstall m v) s (fun t => t.sec = { s.sec with certs := SMap.set s.sec.certs item (s.pktPayload cell) } ∧
          t.rd F.SEC_ATT_CTL_RES = 1 ∧ Interrupt t Pg.SEC 0 ∧ Frame s { t with sec := s.sec } ([F.SEC_ATT_CTL_RES, F.SEC_ATT_CTL_ITEM] ++ raised Pg.SEC))) ∧
      (mayBe = true → held = true → same = false → After (.certInstall m v) s (fun t => ended s 3 t))))

/-- A chunk needs GO and a packet of a host context, result 8, at the next offset, result 7; it is appended, its packet released, result 1; with the final one the checks run and give the result with bit 0, and the IMGID where it is VERIFIED, or NO_SPACE without the store. An ill-formed image, or one that a check refuses, counts with bit 1; a verified one counts and enters the lowest free entry while it fits, with its journal entry. DELETE removes the selected entry with its entry; FORWARD sends it on where CHN_DN is UP; a silence sends it again. A RELAY gathers a chain image chunk by chunk from offset 0, and checks it and reports once it is complete. A STORED report of a unit is kept, and ends the sender's wait, a STATUS too, bit 6 at the HEAD; the pair order follows its standby: eligible, it hands over; fallen back, it ends with result 6. Model's choices: log entry 117. -/
def Obligations.ImagesLoadedStoredAndForwarded : Prop :=
  (∀ (op img arg : Nat) (s : State), s.role ≠ 1 ∨ s.linkIsUp 0 = false → s.reportUp op img arg = s) ∧
  (∀ (m : Master) (v : Word) (s : State), s.judge m Pg.UPD 0x4C = .open →
    let c := s.rd F.UPD_LOAD_CELL
    let b := s.upd.load ++ s.pktPayload c
    let r := ({ s with upd := { s.upd with load := b } } : State).releasePacket c
    let g := (({ r.wr F.UPD_LOAD_RES 1 with upd := { s.upd with load := [] } } : State)).takeImage b;
    (bit v 31 = false → After (.imageChunk m v) s (fun t => Frame s t []) ∧ After (.imageVerify m v) s (fun t => Frame s t [])) ∧
    (bit v 31 = true → s.hostHeld c = false → After (.imageChunk m v) s (fun t => t.rd F.UPD_LOAD_RES = 8 ∧ Frame s t [F.UPD_LOAD_RES]) ∧ After (.imageVerify m v) s (fun t => t.rd F.UPD_LOAD_RES = 8 ∧ Frame s t [F.UPD_LOAD_RES])) ∧
    (bit v 31 = true → s.hostHeld c = true → s.rd F.UPD_LOAD_OFS ≠ s.upd.load.length → After (.imageChunk m v) s (fun t => t.rd F.UPD_LOAD_RES = 7 ∧ Frame s t [F.UPD_LOAD_RES]) ∧ After (.imageVerify m v) s (fun t => t.rd F.UPD_LOAD_RES = 7 ∧ Frame s t [F.UPD_LOAD_RES])) ∧
    (bit v 31 = true → s.hostHeld c = true → s.rd F.UPD_LOAD_OFS = s.upd.load.length → bit v 0 = false → After (.imageChunk m v) s (fun t => t.upd = { s.upd with load := b } ∧ t.rd F.UPD_LOAD_RES = 1 ∧ Frame r t [F.UPD_LOAD_RES])) ∧
    (bit v 31 = true → s.hostHeld c = true → s.rd F.UPD_LOAD_OFS = s.upd.load.length → bit v 0 = true →
      (r.updStore = false → After (.imageVerify m v) s (fun t => t.upd = { s.upd with load := [] } ∧ t.rd F.UPD_LOAD_RES = 6 ∧ Interrupt t Pg.UPD 0 ∧ Frame r { t with upd := r.upd } (F.UPD_LOAD_RES :: raised Pg.UPD))) ∧
      (r.updStore = true → After (.imageVerify m v) s (fun t => t.rd F.UPD_LOAD_RES = g.1 % F.UPD_LOAD_RES.bound ∧ (g.1 = 2 → t.rd F.UPD_LOAD_ID = imgId (b.take 256) % 2 ^ 32) ∧ (g.1 ≠ 2 → t.rd F.UPD_LOAD_ID = g.2.rd F.UPD_LOAD_ID) ∧
        Interrupt t Pg.UPD 0 ∧ Frame g.2 t ([F.UPD_LOAD_RES, F.UPD_LOAD_ID] ++ raised Pg.UPD))))) ∧
  (∀ (b : List Byte) (s : State),
    let c := s.checkImage (imageOf b)
    let st := (c.2.wrap F.UPD_IMG_RX).storeImage (imageOf b)
    let u := (s.takeImage b).2;
    (imageFormed (imageOf b) = false → c = (4, s)) ∧
    (c.1 ≠ 2 → (s.takeImage b).1 = c.1 ∧ Counted c.2 u F.UPD_VERIFY_FAIL ∧ Interrupt u Pg.UPD 1 ∧ Frame c.2 u (F.UPD_VERIFY_FAIL :: raised Pg.UPD)) ∧
    (c.1 = 2 → st.1 = 2 → s.takeImage b = (2, st.2.autoForward (imageOf b))) ∧ (c.1 = 2 → st.1 ≠ 2 → s.takeImage b = st)) ∧
  (∀ (x : Image) (k : Nat) (s : State), (s.storeEntry (imgId x.head)).isSome = true → s.storeImage x = (2, s)) ∧
  (∀ (x : Image) (k : Nat) (s : State), (s.storeEntry (imgId x.head)).isNone = true → (List.range 16).find? (fun j => (SMap.find? s.upd.store j).isNone) = some k →
    let room := decide (s.storeBytes + (imageBytes x).length ≤ s.rdIn F.UPD_STORE_MIB 64 4096 * 1048576)
    let u := (s.storeImage x).2;
    (room = false → s.storeImage x = (6, s)) ∧
    (room = true → (s.storeImage x).1 = 2 ∧ u.upd = { s.upd with store := SMap.set s.upd.store k x } ∧
      Journaled s u 10 (be 1 0x55 ++ be 1 1 ++ be 1 (hdrPart x.head) ++ be 1 k ++ be 4 (imgId x.head) ++ be 4 (hdrVersion x.head) ++ be 8 s.raw) ∧ Frame s { u with upd := s.upd, jrn := s.jrn } [])) ∧
  (∀ (x : Image) (s : State), (s.storeEntry (imgId x.head)).isNone = true → (List.range 16).all (fun j => (SMap.find? s.upd.store j).isSome) = true → s.storeImage x = (6, s)) ∧
  (∀ (m : Master) (v : Word) (s : State), s.judge m Pg.UPD 0x68 = .open →
    let k := s.rd F.UPD_IMG_SEL
    ((SMap.find? s.upd.store k).isNone = true → After (.imageDelete m v) s (fun t => Frame s t []) ∧ After (.imageForward m v) s (fun t => Frame s t [])) ∧
    (∀ x, SMap.find? s.upd.store k = some x →
      (bits v 1 0 = 1 → After (.imageDelete m v) s (fun t => t.upd = { s.upd with store := SMap.erase s.upd.store k } ∧
        Journaled s t 10 (be 1 0x55 ++ be 1 6 ++ be 1 (hdrPart x.head) ++ be 1 k ++ be 4 (imgId x.head) ++ be 4 (hdrVersion x.head) ++ be 8 s.raw) ∧ Frame s { t with upd := s.upd, jrn := s.jrn } [])) ∧
      (bits v 1 0 = 2 → s.linkIsUp 1 = true → s.role ≠ 0 → exec (.imageForward m v) s = s.done (({ s with upd := { s.upd with fwd := some (imgId x.head) } } : State).sendImage x)) ∧
      (bits v 1 0 = 2 → s.linkIsUp 1 = false ∨ s.role = 0 → After (.imageForward m v) s (fun t => Frame s t [])))) ∧
  (∀ s : State, s.upd.fwd.isNone = true → After .imageResend s (fun t => Frame s t [])) ∧
  (∀ (s : State) (img : Nat), s.upd.fwd = some img →
    let x := (s.storeEntry img).bind (fun k => SMap.find? s.upd.store k)
    let goes := s.linkIsUp 1 && s.role != 0;
    (x.isNone = true → After .imageResend s (fun t => t.upd = { s.upd with fwd := none } ∧ Frame s { t with upd := s.upd } [])) ∧ (x.isSome = true → goes = false → After .imageResend s (fun t => Frame s t []))) ∧
  (∀ (s : State) (img : Nat), s.upd.fwd = some img → ∀ x, (s.storeEntry img).bind (fun k => SMap.find? s.upd.store k) = some x → s.linkIsUp 1 = true → s.role ≠ 0 →
    exec .imageResend s = s.done (({ s with upd := { s.upd with fwd := some (imgId x.head) } } : State).sendImage x)) ∧
  (∀ (img ofs : Word) (b : List Byte) (s : State), s.role = 1 → s.linkIsUp 0 = true → s.updStore = true →
    let whole := fun (l : List Byte) => decide (352 ≤ l.length) && decide (352 + hdrPayload (l.take 256) ≤ l.length)
    let l0 := if ofs = 0 then [] else (s.upd.arriving.getD (0, [])).2
    let l := l0 ++ b
    let follows := ofs == 0 || s.upd.arriving == some (img.toNat, l0) && decide (l0.length = ofs.toNat)
    let g := ({ s with upd := { s.upd with arriving := none } } : State).takeImage l;
    (follows = true → whole l = false → After (.updateChunk img ofs b) s (fun t => t.upd = { s.upd with arriving := some (img.toNat, l) } ∧ Frame s { t with upd := s.upd } [])) ∧
    (follows = true → whole l = true → exec (.updateChunk img ofs b) s = s.done (g.2.reportUp 2 img.toNat g.1)) ∧
    (follows = false → After (.updateChunk img ofs b) s (fun t => Frame s t []))) ∧
  (∀ (img ofs : Word) (b : List Byte) (s : State), s.role ≠ 1 ∨ s.linkIsUp 0 = false ∨ s.updStore = false → After (.updateChunk img ofs b) s (fun t => Frame s t [])) ∧
  (∀ (unit : BitVec 6) (img : Word) (res : BitVec 4) (s : State), s.linkIsUp 1 = true → s.role ≠ 0 → After (.updateStored unit img res) s (fun t =>
    t.upd = { s.upd with units := SMap.set s.upd.units unit.toNat (res.toNat, img.toNat, (s.unitReport unit.toNat).2.2), fwd := if s.upd.fwd = some img.toNat ∧ unit.toNat = s.linkSelf 1 + 1 then none else s.upd.fwd } ∧
    (s.role = 2 → Interrupt t Pg.UPD 6 ∧ Frame s { t with upd := s.upd } (raised Pg.UPD)) ∧ (s.role ≠ 2 → Frame s { t with upd := s.upd } []))) ∧
  (∀ (unit : BitVec 6) (stat : Word) (s : State), s.role = 2 → s.linkIsUp 1 = true → After (.updateStatus (some unit) stat) s (fun t =>
    t.upd = { s.upd with units := SMap.set s.upd.units unit.toNat ((s.unitReport unit.toNat).1, (s.unitReport unit.toNat).2.1, bits stat 3 0) } ∧ Interrupt t Pg.UPD 6 ∧ Frame s { t with upd := s.upd } (raised Pg.UPD))) ∧
  (∀ (stat : Word) (s : State), s.upd.pairWait.isNone = true ∨ s.pair.active = false → After (.updateStatus none stat) s (fun t => Frame s t [])) ∧
  (∀ (s : State) (l : List Nat), s.upd.pairWait = some l → ∀ stat : Word, s.pair.active = true →
    let eligible := s.on F.MIR_STAT_PARTNER_HB && s.pair.hb.any (fun h => h.flags.testBit 0);
    (bits stat 3 0 = 6 → After (.updateStatus none stat) s (fun t => t.upd = { s.upd with pairWait := none } ∧ t.rd F.UPD_STAT_RES = 6 ∧ Frame s { t with upd := s.upd } [F.UPD_STAT_RES])) ∧
    (bits stat 3 0 = 4 → eligible = true → exec (.updateStatus none stat) s = s.done s.handoverStart) ∧
    (bits stat 3 0 ≠ 6 → bits stat 3 0 ≠ 4 ∨ eligible = false → After (.updateStatus none stat) s (fun t => Frame s t [])))

/-- NODE_PUSH of a node image starts a push to the listed entries where none runs and the list's packet is held, and releases it. A node's report moves to the block it asks for, counts it done with bit 5, or counts its failure; one for another image changes nothing. A block that gets no answer is sent again, up to the limit, then the node fails. A push waits for CONTROL and for nodes. A bundle is refused: BUSY while one runs, without the grant, without its preconditions, where a base does not match, or where no order is compatible; else it starts with its order, step 0, result 0 and STATE 1. A RELAY takes the HEAD's APPLY likewise, and a pair's order waits for its standby with an entry for each image. Model's choices: log entries 117, 118. -/
def Obligations.NodePushesAndBundlesStarted : Prop :=
  (∀ s : State, s.upd.push.isNone = true → s.pushServe = s) ∧
  (∀ (s : State) (x : Image), s.upd.push = some x →
    (s.upd.nodes.isEmpty = true → s.pushServe = (({ s with upd := { s.upd with push := none, pushed := imgId x.head :: s.upd.pushed } } : State).dropOlder x)) ∧
    (s.upd.nodes.isEmpty = false → s.rd F.CLM_CTRL_STAT ≠ 2 ∨ s.working = false → s.pushServe = s)) ∧
  (∀ (m : Master) (v : Word) (s : State), s.judge m Pg.UPD 0x68 = .open → bits v 1 0 = 3 → ∀ x, SMap.find? s.upd.store (s.rd F.UPD_IMG_SEL) = some x →
    let c := s.rd F.UPD_NODE_LIST
    let mayBe := hdrPart x.head == 8 && s.hostHeld c && s.upd.push.isNone
    let l := (List.range ((s.pktPayload c).length / 2)).map (fun k => field (s.pktPayload c) (2 * k) 2)
    let u := ({ s with upd := { s.upd with push := some x, nodes := l.eraseDups.map (fun i => { nbr := i, block := 0, sent := false, tries := 0 }) } } : State);
    (mayBe = false → After (.nodePush m v) s (fun t => Frame s t [])) ∧ (mayBe = true → exec (.nodePush m v) s = s.done (u.releasePacket c).pushServe)) ∧
  (∀ (nbr : BitVec 16) (img next : Word) (st : Byte) (s : State), s.upd.push.isNone = true ∨ (s.upd.nodes.find? (fun y => y.nbr == nbr.toNat)).isNone = true →
    After (.imgStat nbr img next st) s (fun t => Frame s t []) ∧ After (.nodeBlockTimeout nbr) s (fun t => Frame s t [])) ∧
  (∀ (nbr : BitVec 16) (img next : Word) (st : Byte) (s : State) (x : Image), s.upd.push = some x → ∀ y, s.upd.nodes.find? (fun z => z.nbr == nbr.toNat) = some y →
    let left := s.upd.nodes.filter (fun z => z.nbr != nbr.toNat)
    let same := imgId x.head == img.toNat
    let n : NodePush := { y with block := next.toNat, tries := if next.toNat = y.block then y.tries else 0, sent := next.toNat == 0xFFFFFFFF }
    let u := ({ s with upd := { s.upd with nodes := s.upd.nodes.map (fun z => if z.nbr = y.nbr then n else z) } } : State)
    let d := ({ (s.sat F.UPD_NODE_DONE).raise Pg.UPD 5 with upd := { s.upd with nodes := left } } : State)
    let f := ({ s.sat F.UPD_NODE_FAIL with upd := { s.upd with nodes := left } } : State);
    (same = false ∨ 4 ≤ st.toNat → After (.imgStat nbr img next st) s (fun t => Frame s t [])) ∧ (same = true → st = 0 → exec (.imgStat nbr img next st) s = s.done u.pushServe) ∧
    (same = true → st = 1 → Counted s d F.UPD_NODE_DONE ∧ Interrupt d Pg.UPD 5 ∧ Frame s { d with upd := s.upd } (F.UPD_NODE_DONE :: raised Pg.UPD) ∧ exec (.imgStat nbr img next st) s = s.done d.pushServe) ∧
    (same = true → st = 2 ∨ st = 3 → Counted s f F.UPD_NODE_FAIL ∧ Frame s { f with upd := s.upd } [F.UPD_NODE_FAIL] ∧ exec (.imgStat nbr img next st) s = s.done f.pushServe)) ∧
  (∀ (nbr : BitVec 16) (s : State) (x : Image), s.upd.push = some x → ∀ y, s.upd.nodes.find? (fun z => z.nbr == nbr.toNat) = some y →
    let left := s.upd.nodes.filter (fun z => z.nbr != nbr.toNat)
    let n : NodePush := { y with tries := y.tries + 1 }
    let u := ({ s with upd := { s.upd with nodes := s.upd.nodes.map (fun z => if z.nbr = y.nbr then n else z) } } : State)
    let f := ({ s.sat F.UPD_NODE_FAIL with upd := { s.upd with nodes := left } } : State);
    (y.sent = false ∨ s.rd F.CLM_CTRL_STAT ≠ 2 → After (.nodeBlockTimeout nbr) s (fun t => Frame s t [])) ∧
    (y.sent = true → s.rd F.CLM_CTRL_STAT = 2 → s.rdIn F.UPD_NODE_RETRY 1 15 ≤ y.tries → exec (.nodeBlockTimeout nbr) s = s.done f.pushServe) ∧
    (y.sent = true → s.rd F.CLM_CTRL_STAT = 2 → y.tries < s.rdIn F.UPD_NODE_RETRY 1 15 → exec (.nodeBlockTimeout nbr) s = s.done (u.sendBlock x y))) ∧
  (∀ (s : State) (l : List Image),
    let st := s.rd F.UPD_STAT_STATE
    let busy := decide (1 ≤ st) && decide (st ≤ 5)
    let fit := (s.mode == s.roleMode || s.mode == Md.STANDBY) && s.on F.LIFE_STAT_DONE && isBundle l
    let based := l.all (fun x => s.baseMatches x)
    let o := (s.pickOrder l).getD []
    let u := (((((({ s with upd := { s.upd with bundle := some { images := o } } } : State).wr F.UPD_STAT_STEP 0).wr F.UPD_STAT_STEPS o.length).wr F.UPD_STAT_RES 0).wr F.UPD_ORDER (orderWord o)).beginStep o.head?).wr F.UPD_STAT_STATE 1
    let p := hdrPart ((o.head?.map (fun x => x.head)).getD []);
    let refused := fun (r : Nat) (t : State) => t.rd F.UPD_STAT_RES = r ∧ Frame s t [F.UPD_STAT_RES];
    (busy = true → refused 9 (s.applyBundle l true)) ∧ (busy = false → s.rd F.CLM_CTRL_STAT ≠ 2 → refused 4 (s.applyBundle l true)) ∧ (busy = false → s.rd F.CLM_CTRL_STAT = 2 → fit = false → refused 10 (s.applyBundle l true)) ∧
    (busy = false → s.rd F.CLM_CTRL_STAT = 2 → fit = true → based = false → refused 3 (s.applyBundle l true)) ∧
    (busy = false → s.rd F.CLM_CTRL_STAT = 2 → fit = true → based = true → (s.pickOrder l).isNone = true → refused 2 (s.applyBundle l true)) ∧
    (busy = false → s.rd F.CLM_CTRL_STAT = 2 → fit = true → based = true → (s.pickOrder l).isSome = true →
      u.upd.bundle = some { images := o } ∧ u.rd F.UPD_STAT_STEP = 0 ∧ u.rd F.UPD_STAT_STEPS = o.length % F.UPD_STAT_STEPS.bound ∧ u.rd F.UPD_STAT_RES = 0 ∧ u.rd F.UPD_ORDER = orderWord o % F.UPD_ORDER.bound ∧ u.rd F.UPD_STAT_STATE = 1 ∧
      ((u.part p).slot (s.part p).other).st = 1 ∧ (∀ q, q < 9 → q ≠ p → u.part q = s.part q) ∧ u.upd = { s.upd with bundle := u.upd.bundle, parts := u.upd.parts } ∧
      Frame s { u with upd := s.upd } [F.UPD_STAT_STEP, F.UPD_STAT_STEPS, F.UPD_STAT_RES, F.UPD_ORDER, F.UPD_STAT_STATE, F.UPD_PART_ACT (p - 1), F.UPD_PART_STATE_A (p - 1), F.UPD_PART_STATE_B (p - 1), F.UPD_PART_TRIALS (p - 1), F.UPD_PART_VER_A (p - 1), F.UPD_PART_VER_B (p - 1)] ∧
      s.applyBundle l true = u.reportUp 4 0 u.updStat)) ∧
  (∀ (imgs : List Word) (s : State), (s.role ≠ 1 ∨ s.linkIsUp 0 = false → After (.updateApply imgs) s (fun t => Frame s t [])) ∧
    (s.role = 1 → s.linkIsUp 0 = true → (s.imagesOf (imgs.map (fun w => w.toNat))).isNone = true → After (.updateApply imgs) s (fun t => t.rd F.UPD_STAT_RES = 10 ∧ Frame s t [F.UPD_STAT_RES]))) ∧
  (∀ (imgs : List Word) (s : State) (l : List Image), s.imagesOf (imgs.map (fun w => w.toNat)) = some l → s.role = 1 → s.linkIsUp 0 = true → exec (.updateApply imgs) s = s.done (s.applyBundle l true)) ∧
  (∀ (m : Master) (v : Word) (s : State), s.judge m Pg.UPD 0x70 = .open →
    let keyed := bits v 31 16 == 0xA9B1 && bit v 0
    let l := s.selected
    let st := s.rd F.UPD_STAT_STATE
    let busy := (decide (1 ≤ st) && decide (st ≤ 5)) || s.upd.pairWait.isSome
    let ready := s.on F.MIR_STAT_PARTNER_HB && s.pair.hb.any (fun h => h.flags.testBit 0 && h.flags.testBit 3)
    let fit := s.partnered && s.pair.active && s.mode == s.roleMode && s.on F.LIFE_STAT_DONE && ready && isBundle l
    let based := l.all (fun x => s.baseMatches x)
    let go := keyed && bit v 1 && !busy
    let refused := fun (r : Nat) (t : State) => t.rd F.UPD_STAT_RES = r ∧ Frame s t [F.UPD_STAT_RES];
    (keyed = false → After (.bundleApply m v) s (fun t => Frame s t [])) ∧ (keyed = true → bit v 1 = false → exec (.bundleApply m v) s = s.done (s.applyBundle l true)) ∧
    (keyed = true → bit v 1 = true → busy = true → After (.bundleApply m v) s (fun t => refused 9 t)) ∧ (go = true → s.rd F.CLM_CTRL_STAT ≠ 2 → After (.bundleApply m v) s (fun t => refused 4 t)) ∧
    (go = true → s.rd F.CLM_CTRL_STAT = 2 → fit = false → After (.bundleApply m v) s (fun t => refused 10 t)) ∧ (go = true → s.rd F.CLM_CTRL_STAT = 2 → fit = true → based = false → After (.bundleApply m v) s (fun t => refused 3 t)) ∧
    (go = true → s.rd F.CLM_CTRL_STAT = 2 → fit = true → based = true → (s.pickOrder l).isNone = true → After (.bundleApply m v) s (fun t => refused 2 t)) ∧
    (go = true → s.rd F.CLM_CTRL_STAT = 2 → fit = true → based = true → (s.pickOrder l).isSome = true → After (.bundleApply m v) s (fun t =>
      t.upd = { s.upd with pairWait := some (l.map (fun x => imgId x.head)) } ∧ t.rd F.UPD_STAT_RES = 0 ∧ t.jrn.seq = s.jrn.seq + l.length ∧ t.jrn.tail.length = s.jrn.tail.length + l.length ∧
      Frame s { t with upd := s.upd, jrn := s.jrn } [F.UPD_STAT_RES])))

/-- The part whose turn it is is built into its slot that is not active, NEXT, with its entry and STATE 2, where the stream builds the target digest; else the slot is FAILED and the bundle falls back with result 5. In the window of R490 the unit resets. A part whose trial is well passes with its entry and bit 2: the next step begins, or AWAIT_CONFIRM with bit 3; a trial that is not well falls back with result 6. A fall-back counts, sets its result, and reverts part by part in reverse order, one per reset: the new slot FAILED, the old one ACTIVE. Confirmation makes each new slot ACTIVE and its predecessor OLD, raises the fused minimum, releases the reserves, result 1 and STATE 0; REJECT, result 8, and the missing confirmation, result 7, fall back. Model's choices: log entries 96, 115, 118. -/
def Obligations.PartsBuiltTriedConfirmedAndRevertedAgain : Prop :=
  (∀ (b : Bundle) (res : Nat) (s : State),
    let n := b.step + b2n b.built
    let st := if n = 0 then 6 else 5
    let bd := if n = 0 then none else some { b with back := n }
    let u := ((({ s with upd := { s.upd with bundle := bd } } : State).sat F.UPD_FALLBACKS).wr F.UPD_STAT_RES res).wr F.UPD_STAT_STATE st;
    res < 16 → Counted s u F.UPD_FALLBACKS ∧ u.rd F.UPD_STAT_RES = res ∧ u.rd F.UPD_STAT_STATE = st ∧ Frame s { u with upd := s.upd } [F.UPD_FALLBACKS, F.UPD_STAT_RES, F.UPD_STAT_STATE] ∧
      (n ≠ 0 → s.fallBack b res = u.reportUp 4 0 u.updStat) ∧ (n = 0 → s.fallBack b res = (u.reportUp 4 0 u.updStat).raise Pg.UPD 4)) ∧
  (∀ (rb : Bool) (s : State) (b : Bundle), s.upd.bundle = some b → ∀ x, b.images[b.step]? = some x → 1 ≤ hdrPart x.head → hdrPart x.head ≤ 5 →
    let p := hdrPart x.head
    let mayBe := s.rd F.UPD_STAT_STATE == 1 && !b.built && s.updStore
    let target := buildRecs (if hdrFull x.head then [] else ((s.part p).slot (s.part p).act).data) x.stream.length x.stream
    let good := rb && target.any (fun d => (Config.sha384 d ++ be 48 0).take 48 == hdrTarget x.head)
    let d := target.getD []
    let g := s.formatReserve x
    let y := g.part p
    let w := (g.setPart p { y.put y.other { st := 2, head := x.head, sig := x.sig, data := d } with trials := 0 }).updJournal 2 p y.other (imgId x.head) (hdrVersion x.head)
    let u := ({ w with upd := { w.upd with bundle := some { b with built := true, reached := false, bad := false } } } : State).wr F.UPD_STAT_STATE 2
    let f := s.setPart p (y.put y.other { st := 6, head := x.head, sig := x.sig, data := d })
    let none_ := (({ f with upd := { f.upd with bundle := none } } : State).wr F.UPD_STAT_RES 5).wr F.UPD_STAT_STATE 0
    let partFields := [F.UPD_PART_ACT (p - 1), F.UPD_PART_STATE_A (p - 1), F.UPD_PART_STATE_B (p - 1), F.UPD_PART_TRIALS (p - 1), F.UPD_PART_VER_A (p - 1), F.UPD_PART_VER_B (p - 1)];
    (mayBe = false → After (.partBuilt rb) s (fun t => Frame s t [])) ∧
    (mayBe = true → good = true → ((u.part p).slot y.other).st = 2 ∧ ((u.part p).slot y.other).data = d ∧ ((u.part p).slot y.other).head = x.head ∧ (u.part p).act = (s.part p).act ∧ (∀ q, q < 9 → q ≠ p → u.part q = s.part q) ∧
      Journaled s u 10 (be 1 0x55 ++ be 1 2 ++ be 1 p ++ be 1 y.other ++ be 4 (imgId x.head) ++ be 4 (hdrVersion x.head) ++ be 8 s.raw) ∧
      Frame s { u with upd := s.upd, jrn := s.jrn, cfg := s.cfg, lgl := s.lgl } (partFields ++ [F.UPD_STAT_STATE, F.CFG_FMT_OLD]) ∧ exec (.partBuilt rb) s = s.done (u.reportUp 4 0 u.updStat)) ∧
    (mayBe = true → good = false → ((f.part p).slot y.other).st = 6 ∧ (f.part p).act = (s.part p).act ∧ (∀ q, q < 9 → q ≠ p → f.part q = s.part q) ∧ Frame s { f with upd := s.upd } partFields ∧
      (b.step = 0 → exec (.partBuilt rb) s = s.done (none_.reportUp 4 0 none_.updStat)) ∧ (b.step ≠ 0 → exec (.partBuilt rb) s = s.done (f.fallBack b 5)))) ∧
  (∀ (x : Image) (s : State),
    let cur := s.rd F.CFG_FMT_CUR
    let u := s.formatReserve x;
    (hdrPart x.head ≠ 4 → hdrPart x.head ≠ 2 → u = s) ∧ (hdrPart x.head = 4 → hdrFmt x.head = cur → u = s) ∧
    (hdrPart x.head = 4 → hdrFmt x.head ≠ cur → (s.cfgPick cur).isSome = true → u.cfg = { s.cfg with reserve := (s.cfgPick cur).map (fun e => e.1) } ∧ u.rd F.CFG_FMT_OLD = cur ∧ Frame s { u with cfg := s.cfg } [F.CFG_FMT_OLD]) ∧
    (hdrPart x.head = 2 → hdrFmt x.head ≠ hdrFmt (s.running 2).head → u.lgl.reserve = some { gen := s.rd F.LGL_LGEN, image := s.lgl.image, good := true, fmt := hdrFmt (s.running 2).head } ∧ Frame s { u with lgl := s.lgl } [])) ∧
  (∀ s : State, (s.rd F.UPD_STAT_STATE = 2 → s.resetWindow = true → exec .updateReset s = s.done (s.startReset 4 2)) ∧
    (s.rd F.UPD_STAT_STATE ≠ 2 ∨ s.resetWindow = false → After .updateReset s (fun t => Frame s t []))) ∧
  (∀ (s : State) (b : Bundle), s.upd.bundle = some b → ∀ x, b.images[b.step]? = some x →
    let trial := s.rd F.UPD_STAT_STATE == 3
    let p := hdrPart x.head
    let j := s.updJournal 3 p (s.part p).other (imgId x.head) (hdrVersion x.head)
    let v := (({ j with upd := { j.upd with bundle := some { b with step := b.step + 1, built := false, reached := false } } } : State).wr F.UPD_STAT_STEP (b.step + 1)).raise Pg.UPD 2
    let a := v.wr F.UPD_STAT_STATE 4
    let u := (v.beginStep b.images[b.step + 1]?).wr F.UPD_STAT_STATE 1;
    (trial = false → After .trialPass s (fun t => Frame s t []) ∧ After .trialFail s (fun t => Frame s t [])) ∧
    (trial = true → s.trialWell b = true → Interrupt v Pg.UPD 2 ∧ v.rd F.UPD_STAT_STEP = (b.step + 1) % F.UPD_STAT_STEP.bound ∧ Journaled s v 10 (be 1 0x55 ++ be 1 3 ++ be 1 p ++ be 1 (s.part p).other ++ be 4 (imgId x.head) ++ be 4 (hdrVersion x.head) ++ be 8 s.raw) ∧
      Frame s { v with upd := s.upd, jrn := s.jrn } (F.UPD_STAT_STEP :: raised Pg.UPD) ∧ After .trialFail s (fun t => Frame s t []) ∧
      (b.images.length ≤ b.step + 1 → exec .trialPass s = s.done ((a.reportUp 4 0 a.updStat).raise Pg.UPD 3)) ∧ (b.step + 1 < b.images.length → exec .trialPass s = s.done (u.reportUp 4 0 u.updStat))) ∧
    (trial = true → s.trialWell b = false → exec .trialFail s = s.done (s.fallBack b 6) ∧ After .trialPass s (fun t => Frame s t []))) ∧
  (∀ s : State, s.upd.bundle.isNone = true → ∀ rb : Bool, After .trialPass s (fun t => Frame s t []) ∧ After .trialFail s (fun t => Frame s t []) ∧ After (.partBuilt rb) s (fun t => Frame s t []) ∧ After .fallbackStep s (fun t => Frame s t []) ∧ After .confirmTimeout s (fun t => Frame s t [])) ∧
  (∀ (s : State) (b : Bundle), s.upd.bundle = some b → ∀ x, b.images[b.back - 1]? = some x →
    let p := hdrPart x.head
    let y := s.part p
    let z := { ((y.put y.other { y.slot y.other with st := 6 }).put y.act { y.slot y.act with st := 4 }) with trials := 0 }
    let j := (s.setPart p z).updJournal 5 p y.other (imgId x.head) (hdrVersion x.head)
    let u := ({ j with upd := { j.upd with bundle := some { b with back := b.back - 1 } } } : State)
    let e := ({ u with upd := { u.upd with bundle := none } } : State).wr F.UPD_STAT_STATE 6
    let go := s.rd F.UPD_STAT_STATE == 5 && s.resetWindow && decide (0 < b.back);
    (go = false → After .fallbackStep s (fun t => Frame s t [])) ∧
    (go = true → 1 ≤ p → p ≤ 5 → y.act ≤ 1 → ((u.part p).slot y.other).st = 6 ∧ ((u.part p).slot y.act).st = 4 ∧ (u.part p).act = y.act ∧ (u.part p).trials = 0 ∧ (∀ q, q < 9 → q ≠ p → u.part q = s.part q) ∧
      Journaled s u 10 (be 1 0x55 ++ be 1 5 ++ be 1 p ++ be 1 y.other ++ be 4 (imgId x.head) ++ be 4 (hdrVersion x.head) ++ be 8 s.raw) ∧
      Frame s { u with upd := s.upd, jrn := s.jrn } [F.UPD_PART_ACT (p - 1), F.UPD_PART_STATE_A (p - 1), F.UPD_PART_STATE_B (p - 1), F.UPD_PART_TRIALS (p - 1), F.UPD_PART_VER_A (p - 1), F.UPD_PART_VER_B (p - 1)]) ∧
    (go = true → b.back = 1 → exec .fallbackStep s = s.done (((e.reportUp 4 0 e.updStat).raise Pg.UPD 4).startReset 4 2)) ∧ (go = true → b.back ≠ 1 → exec .fallbackStep s = s.done (u.startReset 4 2))) ∧
  (∀ (x : Image) (s : State), 1 ≤ hdrPart x.head → hdrPart x.head ≤ 5 → (s.part (hdrPart x.head)).act ≤ 1 →
    let p := hdrPart x.head
    let y := s.part p
    let t := s.confirmPart x;
    (t.part p).act = y.other ∧ ((t.part p).slot y.other).st = 4 ∧ ((t.part p).slot y.act).st = 5 ∧ (t.part p).trials = 0 ∧ ((t.part p).slot y.other).head = (y.slot y.other).head ∧
    t.svnMin p = max (s.svnMin p) (hdrSvn x.head) ∧ (∀ q, q < 9 → q ≠ p → t.svnMin q = s.svnMin q ∧ t.part q = s.part q) ∧
    (∀ k, k < 16 → SMap.find? t.upd.store k = if (SMap.find? s.upd.store k).any (fun o => hdrPart o.head == p && hdrModel o.head == hdrModel x.head && decide (hdrVersion o.head < hdrVersion x.head)) then none else SMap.find? s.upd.store k)) ∧
  (∀ (m : Master) (v : Word) (s : State) (b : Bundle), s.upd.bundle = some b → s.judge m Pg.UPD 0x74 = .open →
    let st := s.rd F.UPD_STAT_STATE
    let keyed := bits v 31 16 == 0xC0F1
    let confirm := keyed && !bit v 1 && bit v 0 && st == 4
    let reject := keyed && bit v 1 && decide (1 ≤ st) && decide (st ≤ 4)
    let c := b.images.foldl (fun (t : State) x => t.confirmPart x) s
    let u := ((({ c with upd := { c.upd with bundle := none }, cfg := { c.cfg with reserve := none }, lgl := { c.lgl with reserve := none } } : State).wr F.CFG_FMT_OLD 0).wr F.UPD_STAT_RES 1).wr F.UPD_STAT_STATE 0;
    (reject = true → exec (.updateReject m v) s = s.done (s.fallBack b 8)) ∧ (bit v 1 = true → reject = false → After (.updateReject m v) s (fun t => Frame s t [])) ∧
    (bit v 1 = false → confirm = false → After (.updateConfirm m v) s (fun t => Frame s t [])) ∧ (confirm = true → exec (.updateConfirm m v) s = s.done (u.reportUp 4 0 u.updStat))) ∧
  (∀ (m : Master) (v : Word) (s : State), s.upd.bundle.isNone = true → s.judge m Pg.UPD 0x74 = .open → After (.updateReject m v) s (fun t => Frame s t []) ∧ After (.updateConfirm m v) s (fun t => Frame s t [])) ∧
  (∀ (s : State) (b : Bundle), s.upd.bundle = some b →
    (s.rd F.UPD_STAT_STATE = 4 → s.rd F.UPD_CONFIRM_TO ≠ 0 → exec .confirmTimeout s = s.done (s.fallBack b 7)) ∧
    (s.rd F.UPD_STAT_STATE ≠ 4 ∨ s.rd F.UPD_CONFIRM_TO = 0 → After .confirmTimeout s (fun t => Frame s t [])))

/-- A full reset is recorded with its cause, source and time, and counted; it waits for the pre-flush where something is to be programmed, then for nothing more without a panel: BOOT begins, every domain to power up in order, the claim and the requests gone. One asked for while another runs is that one; in HOLDUP it waits for Quench. RESET_N below 100 ns is ignored, from 1 µs it resets; SWF needs its key; the watchdog warns with bit 0 and alert 10, and resets with cause 3. The pre-flush leaves tail and map clean or a remainder kept. A domain that is ready is on with its locks and starts; one without power-good gives its credit back and is recorded with bit 3: BOOT goes on, another entry ends with BUDGET. A domain that waits gets its credit once it fits. A domain reset is recorded, ends with bit 1, and for MEM and NVM becomes a full one. Model's choices: log entries 1, 109, 110, 111. -/
def Obligations.ResetsWatchdogAndDomains : Prop :=
  (∀ (cause src : Nat) (s : State), 1 ≤ cause → cause ≤ 4 → src < 16 →
    let u := ({ s.recordReset cause src with rst := { s.rst with seq := some (cause, src), flushDone := !s.preFlushDue } } : State)
    let waits := s.mode == Md.HOLDUP && s.pwr.quench;
    (s.rst.seq.isSome = true → s.startReset cause src = s) ∧
    (s.rst.seq.isNone = true → waits = true → s.startReset cause src = { s with rst := { s.rst with waiting := some (s.rst.waiting.getD (cause, src)) } }) ∧
    (s.rst.seq.isNone = true → waits = false → s.dsp.typ = 0 → u.rd F.RST_LAST_CAUSE = cause ∧ u.rd F.RST_LAST_SRC = src ∧ u.rd64 F.RST_LAST_C_LO F.RST_LAST_C_HI = s.raw % 2 ^ 64 ∧ u.rd F.RST_LAST_KEPT = 0 ∧
      Counted s u (F.RST_CNT (cause - 1)) ∧ u.ledger (11 + cause) = min (s.ledger (11 + cause) + 1) (2 ^ 48 - 1) ∧
      Frame s { u with rst := s.rst } [F.RST_LAST_CAUSE, F.RST_LAST_SRC, F.RST_LAST_C_LO, F.RST_LAST_C_HI, F.RST_LAST_KEPT, F.RST_CNT (cause - 1), F.LDG_WORD (2 * (11 + cause)), F.LDG_WORD (2 * (11 + cause) + 1)] ∧
      (s.preFlushDue = true → s.startReset cause src = u) ∧ (s.preFlushDue = false → s.startReset cause src = u.finishReset))) ∧
  (∀ s : State, let t := s.finishReset;
    t.rd F.MODE_CUR = Md.BOOT ∧ t.rd F.MODE_PREV = s.mode % 16 ∧ t.rd F.MODE_STAT_BUSY = 1 ∧ t.pwr.change = some ⟨Md.BOOT, powerOrder⟩ ∧ t.rst.seq.isNone = true ∧ t.rst.asked = [] ∧ t.rst.inReset = [] ∧ t.rst.wdtRun = false ∧
      t.pair.active = false ∧ t.pair.givenUp = false) ∧
  (∀ (ns : Nat) (s : State), (ns ≤ 100 → After (.resetPin ns) s (fun t => Frame s t [])) ∧
    (1000 ≤ ns → s.mode = Md.OFF → After (.resetPin ns) s (fun t => Frame s t [])) ∧
    (1000 ≤ ns → s.mode = Md.VAULT → s.pins.mainGood = true → s.pins.pfN = true → exec (.resetPin ns) s = s.done (s.wake s.tim.vault 2 0)) ∧
    (1000 ≤ ns → s.mode = Md.VAULT → s.pins.mainGood = false ∨ s.pins.pfN = false → After (.resetPin ns) s (fun t => Frame s t [])) ∧
    (1000 ≤ ns → s.mode ≠ Md.OFF → s.mode ≠ Md.VAULT → exec (.resetPin ns) s = s.done (s.startReset 2 0)) ∧
    (100 < ns → ns < 1000 → exec (.resetPin ns) s = s.done s.tookFree ∨ exec (.resetPin ns) s = s.done (s.tookFree.pinReset 0))) ∧
  (∀ (m : Master) (v : Word) (s : State), s.judge m Pg.RST 0x6C = .open →
    let barred := s.ovrHolds .reset && m != .smp
    let keyed := bits v 31 16 == 0x5F0F && bit v 0;
    (barred = true → exec (.softwareReset m v) s = s.done (s.denyWrite m Cause.OWNER_DENY Pg.RST 0x6C)) ∧ (barred = false → keyed = true → exec (.softwareReset m v) s = s.done (s.startReset 4 0)) ∧
    (barred = false → keyed = false → After (.softwareReset m v) s (fun t => Frame s t []))) ∧
  (∀ (m : Master) (v : Word) (s : State), s.judge m Pg.RST 0x74 = .open →
    (v = 0xC1C10000 → After (.wdtKick m v) s (fun t => t.rst = { s.rst with wdtAt := s.raw } ∧ Frame s { t with rst := s.rst } [])) ∧ (v ≠ 0xC1C10000 → After (.wdtKick m v) s (fun t => Frame s t []))) ∧
  (∀ s : State, let on := s.rst.wdtRun && s.rd F.RST_WDT_PERIOD != 0
    let span := s.rdIn F.RST_WDT_PERIOD 100 60000 * 250000
    let half := on && decide (s.rst.wdtAt + span / 2 ≤ s.raw)
    let full := on && decide (s.rst.wdtAt + span ≤ s.raw);
    (half = true → After .wdtWarn s (fun t => Interrupt t Pg.RST 0 ∧ Alerted t 10 ∧ Frame s t (raised Pg.RST))) ∧ (half = false → After .wdtWarn s (fun t => Frame s t [])) ∧
    (full = true → exec .watchdogExpire s = s.done (s.startReset 3 0)) ∧ (full = false → After .watchdogExpire s (fun t => Frame s t []))) ∧
  (∀ s : State,
    let due := s.rst.seq.isSome && !s.rst.flushDone
    let u := ({ s with rst := { s.rst with kept := true, flushDone := true } } : State).wr F.RST_LAST_KEPT 1
    let f := ({ s.flushAll with rst := { s.rst with flushDone := true } } : State);
    (∀ kept : Bool, due = false → After (.preFlushEnd kept) s (fun t => Frame s t [])) ∧ (due = true → exec (.preFlushEnd true) s = s.done u.resetGo) ∧
    (due = true → f.jrn.tail = [] ∧ f.nand.dirty = [] ∧ f.nand.map = s.nand.map ∧ f.jrn.seq = s.jrn.seq ∧ Frame s { f with rst := s.rst, jrn := s.jrn, nand := s.nand } igtFields ∧ exec (.preFlushEnd false) s = s.done f.resetGo)) ∧
  (∀ s : State, let go := s.rst.seq.isSome && s.rst.flushDone && !s.bezelBusy; (go = true → s.resetGo = s.finishReset) ∧ (go = false → s.resetGo = s)) ∧
  (∀ (d : Fin 12) (s : State),
    let ramps := s.pwr.ramping == some d.val
    let u := (({ s with pwr := { s.pwr with ramping := none, change := s.pwr.change.map (fun c => { c with todo := c.todo.tail }) } } : State).wr F.PWR_DOM_ON (s.rd F.PWR_DOM_ON ||| 2 ^ d.val)).wr F.CLK_LOCK (s.rd F.CLK_LOCK ||| domIslands d.val ||| 2)
    let x := s.rst.inReset.find? (fun y => y.1 == d.val)
    let r := ({ s with rst := { s.rst with inReset := s.rst.inReset.filter (fun y => y.1 != d.val) } } : State)
    let w := ((r.startDom d.val).cmpSkip.raise Pg.RST 1).ovrDom d.val 1;
    (ramps = true → exec (.domainReady d) s = s.done (((u.reloadPages d.val).startDom d.val).advance).ovrSettle) ∧
    (ramps = false → x.isSome = true → d.val ≠ Dom.LGL → exec (.domainReady d) s = s.done w) ∧
    (ramps = false → x.isSome = true → d.val = Dom.LGL → exec (.domainReady d) s = s.done (w.legalEvent 9 (x.getD (0, 0)).2 7 (w.jrn.seq + 1) (be 8 5))) ∧
    (ramps = false → x.isNone = true → After (.domainReady d) s (fun t => Frame s t []))) ∧
  (∀ (d : Fin 12) (s : State),
    let ramps := s.pwr.ramping == some d.val
    let f := ((s.wr F.ARB_DOM_USED (s.rd F.ARB_DOM_USED - domCredit d.val)).wr F.PWR_DOM_FAULT (s.rd F.PWR_DOM_FAULT ||| 2 ^ d.val)).raise Pg.PWR 3
    let u := ({ f with pwr := { s.pwr with ramping := none, domFailed := true, change := s.pwr.change.map (fun c => { c with todo := c.todo.tail }) } } : State)
    let e := (({ f with pwr := { s.pwr with ramping := none, change := none } } : State).wr F.MODE_STAT_RES 3).wr F.MODE_STAT_BUSY (b2n (s.mode == Md.HOLDUP));
    (ramps = false → After (.domainFault d) s (fun t => Frame s t [])) ∧
    (ramps = true → f.rd F.ARB_DOM_USED = s.rd F.ARB_DOM_USED - domCredit d.val ∧ Interrupt f Pg.PWR 3 ∧ Frame s f ([F.ARB_DOM_USED, F.PWR_DOM_FAULT] ++ raised Pg.PWR)) ∧
    (ramps = true → s.mode = Md.BOOT → exec (.domainFault d) s = s.done u.advance.ovrSettle) ∧
    (ramps = true → s.mode ≠ Md.BOOT → s.mode ≠ Md.TAKEOVER → s.ovrHolds .mode = false → e.rd F.MODE_STAT_RES = 3 ∧ exec (.domainFault d) s = s.done (e.powerDownTo (e.modeDomains e.mode)).ovrSettle)) ∧
  (∀ (d : Fin 12) (s : State) (c : ModeChange), s.pwr.change = some c →
    let waits := s.pwr.ramping.isNone && c.todo.head? == some d.val
    let fits := decide (s.rd F.ARB_DOM_USED + domCredit d.val ≤ s.rd F.ARB_DOM_BUDGET);
    (waits = true → fits = true → After (.domainCreditGrant d) s (fun t => t.pwr = { s.pwr with ramping := some d.val } ∧ t.rd F.ARB_DOM_USED = (s.rd F.ARB_DOM_USED + domCredit d.val) % F.ARB_DOM_USED.bound ∧ Frame s { t with pwr := s.pwr } [F.ARB_DOM_USED])) ∧
    (waits = false ∨ fits = false → After (.domainCreditGrant d) s (fun t => Frame s t []))) ∧
  (∀ (d : Fin 12) (s : State),
    let x := s.rst.asked.find? (fun y => y.1 == d.val)
    let u := ({ s with rst := { s.rst with asked := s.rst.asked.filter (fun y => y.1 != d.val) } } : State)
    let off := d.val == Dom.AON || !s.domPowered d.val
    let full := d.val == Dom.MEM || d.val == Dom.NVM || (d.val == Dom.SEC && (s.on F.DBG_SCAN_OPEN || s.on F.DBG_SCAN_ABORTED))
    let e := ({ u with rst := { u.rst with memLost := u.rst.memLost || d.val == Dom.MEM } } : State)
    let w := u.domResetStart d.val (x.getD (0, 0)).2;
    (x.isNone = true → After (.domainReset d) s (fun t => Frame s t [])) ∧
    (x.isSome = true → off = true → exec (.domainReset d) s = s.done (u.ovrDom d.val 2).selfCheck) ∧ (x.isSome = true → off = false → full = true → exec (.domainReset d) s = s.done (e.startReset 4 3).selfCheck) ∧
    (x.isSome = true → off = false → full = false → d.val ≠ Dom.IOX ∨ s.dsp.typ = 0 → exec (.domainReset d) s = s.done w.selfCheck)) ∧
  (∀ (d : Fin 12) (by_ : Nat) (s : State),
    let v := ((((s.wr F.RST_LAST_CAUSE 5).wr F.RST_LAST_SRC 0).wr64 F.RST_LAST_C_LO F.RST_LAST_C_HI s.raw).sat (F.RST_CNT 4)).ledgerAdd 16 1
    let y := (((v.trialSees d.val).pstDomain d.val).domClear d.val).reloadPages d.val
    let w := s.domResetStart d.val by_;
    Counted s v (F.RST_CNT 4) ∧ v.ledger 16 = min (s.ledger 16 + 1) (2 ^ 48 - 1) ∧ w.rst.inReset = y.rst.inReset.filter (fun z => z.1 != d.val) ++ [(d.val, by_)] ∧
      SMap.find? w.rst.domCnt d.val = some (min (2 ^ 32 - 1) (SMap.getD s.rst.domCnt d.val 0 + 1)) ∧ Frame y { w with rst := y.rst, pair := y.pair } [])

/-- Power-on from OFF starts anew with the straps as sampled: POR, no key slot, BOOT with every domain to power up; from VAULT with VBAK held it wakes with its slots, the raw count resumed; a request that holds it there, or another mode, is left. VBAK alone takes OFF to VAULT; without either the unit is OFF, no domain on, tail and map gone. The fall of PF_N is captured, bit 2, alert 2, and begins HOLDUP with Quench, but in BOOT before READY. Quench ends with its FLUSH_DONE record and the flush as it stands; a waiting reset goes on, a request goes to VAULT. A return programs all, clears the flush and goes to the mode left. A collapse ends HOLDUP in VAULT or OFF, its flush short where Quench ran; without warning the tail is lost. Model's choices: log entries 90, 111, 112, 113. -/
def Obligations.SuppliesHoldupAndVault : Prop :=
  (∀ (held : Bool) (straps pair : BitVec 2) (e : Nat) (nand : NandFit) (s : State),
    let pins := { s.pins with roleSel := straps, pairSel := pair, mainGood := true, pfN := true, vbak := held || s.pins.vbak, nand := nand }
    let stays := (s.mode != Md.OFF && s.mode != Md.VAULT) || (s.mode == Md.VAULT && s.pwr.vaultByReq)
    let anew := s.mode == Md.OFF || !held
    let booting := fun (from_ : Nat) (t : State) => t.pins = pins ∧ t.rd F.MODE_CUR = Md.BOOT ∧ t.rd F.MODE_PREV = from_ ∧ t.rd F.MODE_STAT_BUSY = 1 ∧ t.rd F.RST_LAST_CAUSE = 1 ∧ t.rd F.RST_LAST_SRC = 0 ∧
      t.pwr.change = some ⟨Md.BOOT, powerOrder⟩ ∧ t.rst.seq.isNone = true ∧ t.pair.active = false;
    (stays = true → After (.powerOn held straps pair e nand) s (fun t => Frame s t [])) ∧
    (stays = false → anew = true → After (.powerOn held straps pair e nand) s (fun t => booting Md.OFF t ∧ t.sec.slots = [] ∧ t.nand = s.nand ∧ t.jrn = s.jrn)) ∧
    (stays = false → anew = false → After (.powerOn held straps pair e nand) s (fun t => booting Md.VAULT t ∧ t.sec.slots = s.sec.slots ∧ t.tim.raw = (s.tim.held + e / 4) % 2 ^ 64))) ∧
  (∀ s : State, (s.mode = Md.OFF → s.pins.mainGood = false → After .vbakRise s (fun t => t.pins = { s.pins with vbak := true } ∧ t.rd F.MODE_CUR = Md.VAULT ∧ t.rd F.CLK_GATE_STAT = 2 ∧ t.pwr.vaultByReq = false ∧ t.sec.slots = [] ∧ t.jrn.tail = [] ∧ t.nand.map = [])) ∧
    (s.mode ≠ Md.OFF ∨ s.pins.mainGood = true → After .vbakRise s (fun t => t.pins = { s.pins with vbak := true } ∧ Frame s { t with pins := s.pins } [])) ∧
    (s.mode = Md.VAULT → s.pins.mainGood = false → After .vbakLost s (fun t => t.pins = { s.pins with vbak := false } ∧ t.rd F.MODE_CUR = Md.OFF ∧ t.rd F.PWR_DOM_ON = 0 ∧ t.rd F.ARB_DOM_USED = 0 ∧ t.rd F.SMP_ALERT_STAT = 0 ∧ t.jrn.tail = [] ∧ t.nand.map = [] ∧ t.nand.dirty = [])) ∧
    (s.mode ≠ Md.VAULT ∨ s.pins.mainGood = true → After .vbakLost s (fun t => t.pins = { s.pins with vbak := false } ∧ Frame s { t with pins := s.pins } []))) ∧
  (∀ s : State,
    let falls := s.mode != Md.OFF && s.mode != Md.VAULT && s.pins.pfN
    let ready := s.on F.IGT_STATE_READY
    let u := ((({ s with pins := { s.pins with pfN := false } } : State).capture 1).raise Pg.PWR 2).alert 2;
    (falls = false → After .powerFail s (fun t => t.pins = { s.pins with pfN := false } ∧ Frame s { t with pins := s.pins } [])) ∧
    (falls = true → u.rd (F.TIME_CAP_LO 1) = s.raw % 2 ^ 32 ∧ u.rd (F.TIME_CAP_HI 1) = s.raw / 2 ^ 32 % 2 ^ 32 ∧ u.rd (F.TIME_CAP_FLAGS_VALID 1) = 1 ∧
      u.rd (F.TIME_CAP_FLAGS_SEQ 1) = (s.rd (F.TIME_CAP_FLAGS_SEQ 1) + 1) % 65536 ∧ (s.rd (F.TIME_CAP_FLAGS_VALID 1) = 1 → u.rd (F.TIME_CAP_FLAGS_OVF 1) = 1 ∧ Interrupt u Pg.TIME 7) ∧ Interrupt u Pg.TIME 6 ∧ Interrupt u Pg.PWR 2 ∧ Alerted u 2 ∧
      Frame s { u with pins := s.pins } ([F.TIME_CAP_LO 1, F.TIME_CAP_HI 1, F.TIME_CAP_FLAGS_VALID 1, F.TIME_CAP_FLAGS_SEQ 1, F.TIME_CAP_FLAGS_OVF 1] ++ raised Pg.TIME ++ raised Pg.PWR)) ∧
    (falls = true → s.mode = Md.HOLDUP → exec .powerFail s = s.done u) ∧ (falls = true → s.mode = Md.BOOT → ready = false → exec .powerFail s = s.done u.keptLost.goDown) ∧
    (falls = true → s.mode ≠ Md.HOLDUP → s.mode ≠ Md.BOOT ∨ ready = true → exec .powerFail s = s.done (u.holdup false))) ∧
  (∀ (req : Bool) (s : State), let t := s.holdup req;
    t.rd F.MODE_CUR = Md.HOLDUP ∧ t.rd F.MODE_STAT_BUSY = 1 ∧ t.pwr.quench = true ∧ t.pwr.vaultReq = req ∧ t.pwr.change.isNone = true ∧ t.pwr.ramping.isNone = true ∧ t.rst.wdtRun = false ∧
      [Dom.LGL, Dom.TSK, Dom.APP, Dom.FPA, Dom.FPB].all (fun d => !t.domPowered d) = true) ∧
  (∀ s : State, (s.pins.vbak = true → s.goDown.rd F.MODE_CUR = Md.VAULT ∧ s.goDown.pwr.vaultByReq = false) ∧ (s.pins.vbak = false → s.goDown.rd F.MODE_CUR = Md.OFF ∧ s.goDown.rd F.PWR_DOM_ON = 0)) ∧
  (∀ s : State,
    let due := s.mode == Md.HOLDUP && s.pwr.quench
    let cut := ((s.journalRecs.filter (fun j => j.kind == 3)).getLast?.map (fun j => j.seq)).getD 0
    let d := s.journalRec 12 true (be 8 cut ++ be 4 s.tailBytes ++ be 4 s.nand.dirty.length)
    let f := { d with nand := { d.nand with flush := some ⟨d.jrn.tail, d.dirtyPages, true⟩ } }
    let g := if s.rd F.IGT_STATE_MODE = 5 then s else f
    let u := ({ g with pwr := { s.pwr with quench := false } } : State)
    let w := ({ u with rst := { s.rst with waiting := none }, ovr := { s.ovr with waitReset := false, running := if s.ovr.waitReset then some .reset else s.ovr.running } } : State).wr F.PWR_HOLDUP_MS s.holdupMs
    let x := s.rst.waiting.getD (0, 0);
    (due = false → After .quenchEnd s (fun t => Frame s t [])) ∧
    (s.rd F.IGT_STATE_MODE ≠ 5 → f.jrn.seq = s.jrn.seq + 1 ∧ f.nand.map = s.nand.map ∧ Frame s { f with jrn := s.jrn, nand := s.nand } []) ∧
    (due = true → s.rst.waiting.isSome = true → exec .quenchEnd s = s.done (w.startReset x.1 x.2).ovrSettle) ∧
    (due = true → s.rst.waiting.isNone = true → s.pwr.vaultReq = false → exec .quenchEnd s = s.done u.ovrSettle) ∧
    (due = true → s.rst.waiting.isNone = true → s.pwr.vaultReq = true → exec .quenchEnd s = s.done ((((u.wr F.PWR_HOLDUP_MS s.holdupMs).enterVault true).ovrEnd .mode 1).ovrSettle))) ∧
  (∀ (ms : BitVec 16) (s : State),
    let due := s.mode == Md.HOLDUP && !s.pwr.quench && !s.pwr.vaultReq && s.pins.mainGood && s.rst.seq.isNone && s.pwr.change.isNone
    let u := ({ s with pins := { s.pins with pfN := true } } : State).wr F.PWR_HOLDUP_MS ms.toNat
    let f := if s.rd F.IGT_STATE_MODE = 5 then u else { u.flushAll with nand := { u.flushAll.nand with flush := none } }
    let g := if f.cfg.interrupted then ({ f with cfg := { f.cfg with interrupted := false } } : State).wr F.CFG_CSTAT_RESULT 2 else f
    let w := ({ g with rst := { g.rst with wdtRun := s.pwr.modeLeft != Md.BOOT, wdtAt := s.raw } } : State).tierUpdate;
    (due = false → After (.holdupReturn ms) s (fun t => Frame s t [])) ∧
    (due = true → s.on F.DBG_SCAN_ABORTED = true → exec (.holdupReturn ms) s = s.done (u.startReset 4 5).ovrSettle) ∧
    (due = true → s.rd F.IGT_STATE_MODE ≠ 5 → w.jrn.tail = [] ∧ w.nand.dirty = [] ∧ w.nand.flush.isNone = true ∧ w.nand.map = s.nand.map ∧ w.cfg.interrupted = false ∧ (s.cfg.interrupted = true → w.rd F.CFG_CSTAT_RESULT = 2) ∧
      Frame s { w with pins := s.pins, jrn := s.jrn, nand := s.nand, cfg := s.cfg, rst := s.rst } ([F.PWR_HOLDUP_MS, F.CFG_CSTAT_RESULT, F.IGT_STATE_TIER, F.IGT_DIRTY_EFF] ++ igtFields)) ∧
    (due = true → s.on F.DBG_SCAN_ABORTED = false → s.pwr.modeLeft ≠ Md.BOOT → exec (.holdupReturn ms) s = s.done (w.changeTo s.pwr.modeLeft).ovrSettle)) ∧
  (∀ (ms : BitVec 16) (kept : Nat) (s : State),
    let u := ({ s with pins := { s.pins with mainGood := false, pfN := false } } : State);
    (s.mode = Md.OFF → exec (.supplyCollapse ms kept) s = s.done u) ∧
    (s.mode = Md.VAULT → s.pins.vbak = true → After (.supplyCollapse ms kept) s (fun t => t.pwr = { s.pwr with vaultByReq := false } ∧ t.pins = u.pins ∧ Frame u { t with pwr := s.pwr } [])) ∧
    (s.mode = Md.VAULT → s.pins.vbak = false → After (.supplyCollapse ms kept) s (fun t => t.rd F.MODE_CUR = Md.OFF ∧ t.rd F.PWR_DOM_ON = 0)) ∧
    (s.mode = Md.HOLDUP → s.pwr.quench = false → exec (.supplyCollapse ms kept) s = s.done (u.wr F.PWR_HOLDUP_MS ms.toNat).goDown) ∧
    (s.mode = Md.HOLDUP → s.pwr.quench = true → exec (.supplyCollapse ms kept) s = s.done ((u.shortFlush kept).wr F.PWR_HOLDUP_MS ms.toNat).goDown) ∧
    (s.mode ≠ Md.OFF → s.mode ≠ Md.VAULT → s.mode ≠ Md.HOLDUP → exec (.supplyCollapse ms kept) s = s.done (u.keptLost.shortFlush 0).cancelChange.goDown)) ∧
  (∀ (kept : Nat) (s : State), s.rd F.IGT_STATE_MODE ≠ 5 → (s.shortFlush kept).nand.flush = some ⟨s.jrn.tail.take kept, [], false⟩)

/-- A request needs its key. It is refused, with bit 1: an unused code BAD_MODE, while a change is under way BUSY, where the life cycle does not allow it REFUSED_LC, where no row leads there BAD_MODE, where the budget does not hold BUDGET; while an override changes the mode it is denied and BUSY. Accepted, RES is OK: SERVICE and PROVISION are entered, the role mode by a reset, VAULT by a HOLDUP, and VAULT wakes. The fall of MAINS_OK is captured with bit 0 and alert 3, its rise sets bit 1. OUTAGE begins in a role mode with the mains away, counted, and ends in the mode it left. The end of BOOT shows its time with bit 2 and its target: SERVICE where the role is not admitted, a domain failed, the DRAM does not fit or the firmware is wrong, else STANDBY in a pair, else the role; a chip that is dead stays. Model's choices: log entries 108, 114. -/
def Obligations.ModeRequestsOutageAndTheEndOfBoot : Prop :=
  (∀ (m : Master) (v : Word) (s : State), s.judge m Pg.MODE 0x44 = .open →
    let key := bits v 31 16 == 0x30DE
    let n := bits v 3 0
    let barred := m != .smp && s.ovrHolds .mode
    let leaves := isRole s.mode || s.mode == Md.PROVISION || s.mode == Md.STANDBY
    let refused := fun (r : Nat) (t : State) => t.rd F.MODE_STAT_RES = r ∧ Interrupt t Pg.MODE 1 ∧ Frame s t (F.MODE_STAT_RES :: raised Pg.MODE)
    let row := (n == Md.SERVICE && leaves) || (n == Md.PROVISION && s.mode == Md.SERVICE) || (isRole n && n == s.roleMode && (s.mode == Md.SERVICE || s.mode == Md.PROVISION)) || (n == Md.VAULT && (leaves || s.mode == Md.SERVICE))
    let taken := key && !barred && decide (n < 12)
    let open_ := taken && !s.modeBusy && s.modeAdmitted n
    let good := s.pins.mainGood && s.pins.pfN
    let u := s.wr F.MODE_STAT_RES 1
    let d := s.denyWrite m Cause.OWNER_DENY Pg.MODE 0x44;
    (key = false → After (.modeRequest m v) s (fun t => Frame s t [])) ∧
    (key = true → barred = true → After (.modeRequest m v) s (fun t => t.rd F.MODE_STAT_RES = 4 ∧ Interrupt t Pg.MODE 1 ∧ Frame d t (F.MODE_STAT_RES :: raised Pg.MODE))) ∧
    (key = true → barred = false → 12 ≤ n → After (.modeRequest m v) s (fun t => refused 5 t)) ∧ (taken = true → s.modeBusy = true → After (.modeRequest m v) s (fun t => refused 4 t)) ∧
    (taken = true → s.modeBusy = false → s.modeAdmitted n = false → After (.modeRequest m v) s (fun t => refused 2 t)) ∧
    (open_ = true → s.mode ≠ Md.VAULT → row = false → After (.modeRequest m v) s (fun t => refused 5 t)) ∧ (open_ = true → s.mode ≠ Md.VAULT → row = true → n ≠ Md.VAULT → s.modeFits n = false → After (.modeRequest m v) s (fun t => refused 3 t)) ∧
    (open_ = true → s.mode = Md.VAULT → good = false → After (.modeRequest m v) s (fun t => refused 5 t)) ∧
    (open_ = true → s.mode = Md.VAULT → good = true → exec (.modeRequest m v) s = s.done (u.wake u.tim.vault 1 0)) ∧
    (open_ = true → n = Md.SERVICE → leaves = true → s.modeFits n = true → s.partnered = false ∨ s.pair.active = false → exec (.modeRequest m v) s = s.done (u.changeTo Md.SERVICE)) ∧
    (open_ = true → n = Md.SERVICE → leaves = true → s.modeFits n = true → s.partnered = true → s.pair.active = true → exec (.modeRequest m v) s = s.done ((u.dropClaim 0 true).standDown.changeTo Md.SERVICE)) ∧
    (open_ = true → n = Md.PROVISION → s.mode = Md.SERVICE → s.modeFits n = true → exec (.modeRequest m v) s = s.done (u.changeTo Md.PROVISION)) ∧
    (open_ = true → isRole n = true → n = s.roleMode → s.mode = Md.SERVICE ∨ s.mode = Md.PROVISION → s.modeFits n = true → exec (.modeRequest m v) s = s.done (u.startReset 4 4)) ∧
    (open_ = true → n = Md.VAULT → s.mode ≠ Md.VAULT → row = true → exec (.modeRequest m v) s = s.done (u.holdup true))) ∧
  (∀ s : State, (s.pins.mainsOk = false → After .mainsOkFall s (fun t => Frame s t [])) ∧ (s.pins.mainsOk = true → After .mainsOkRise s (fun t => Frame s t [])) ∧
    (s.pins.mainsOk = true → After .mainsOkFall s (fun t => t.pins = { s.pins with mainsOk := false } ∧ t.pwr = { s.pwr with mainsEdge := s.raw } ∧
      (s.mode = Md.OFF → Frame s { t with pins := s.pins, pwr := s.pwr } []) ∧ (s.mode ≠ Md.OFF → Interrupt t Pg.PWR 0 ∧ Alerted t 3) ∧
      (s.mode = Md.VAULT → Frame s { t with pins := s.pins, pwr := s.pwr } (raised Pg.PWR)) ∧
      (s.mode ≠ Md.OFF → s.mode ≠ Md.VAULT → t.rd (F.TIME_CAP_LO 2) = s.raw % 2 ^ 32 ∧ t.rd (F.TIME_CAP_HI 2) = s.raw / 2 ^ 32 % 2 ^ 32 ∧ t.rd (F.TIME_CAP_FLAGS_VALID 2) = 1 ∧ Interrupt t Pg.TIME 6 ∧
        Frame s { t with pins := s.pins, pwr := s.pwr } ([F.TIME_CAP_LO 2, F.TIME_CAP_HI 2, F.TIME_CAP_FLAGS_VALID 2, F.TIME_CAP_FLAGS_SEQ 2, F.TIME_CAP_FLAGS_OVF 2] ++ raised Pg.TIME ++ raised Pg.PWR)))) ∧
    (s.pins.mainsOk = false → After .mainsOkRise s (fun t => t.pins = { s.pins with mainsOk := true } ∧ t.pwr = { s.pwr with mainsEdge := s.raw } ∧
      (s.mode = Md.OFF → Frame s { t with pins := s.pins, pwr := s.pwr } []) ∧ (s.mode ≠ Md.OFF → Interrupt t Pg.PWR 1 ∧ Frame s { t with pins := s.pins, pwr := s.pwr } (raised Pg.PWR))))) ∧
  (∀ s : State,
    let due := isRole s.mode && !s.pins.mainsOk && s.pins.pfN && s.on F.PWR_CTL_OUT_EN && s.pwr.change.isNone && s.rst.seq.isNone && s.modeAdmitted Md.OUTAGE
    let q := s.pstModeChange
    let u := ({ ((s.enter Md.OUTAGE).sat F.PWR_OUTAGE_CNT).ledgerAdd 31 1 with pwr := { q.pwr with change := none, ramping := none, outLeft := s.mode } } : State)
    let w := u.portsFollow.outReport 1
    let back := s.mode == Md.OUTAGE && s.pins.mainsOk && s.pwr.change.isNone && s.rst.seq.isNone;
    (due = false → After .outageEnter s (fun t => Frame s t [])) ∧
    (u.rd F.MODE_CUR = Md.OUTAGE ∧ u.rd F.MODE_STAT_BUSY = 0 ∧ u.rd64 F.MODE_ENTRY_LO F.MODE_ENTRY_HI = s.raw % 2 ^ 64 ∧ Interrupt u Pg.MODE 0 ∧ Alerted u 0 ∧ Counted q u F.PWR_OUTAGE_CNT ∧ u.ledger 31 = min (q.ledger 31 + 1) (2 ^ 48 - 1)) ∧
    (s.mode < 16 → u.rd F.MODE_PREV = s.mode) ∧
    Frame q { u with pwr := q.pwr } ([F.MODE_CUR, F.MODE_PREV, F.MODE_STAT_BUSY, F.MODE_ENTRY_LO, F.MODE_ENTRY_HI, F.PWR_OUTAGE_CNT, F.LDG_WORD 62, F.LDG_WORD 63] ++ raised Pg.MODE) ∧
    (due = true → exec .outageEnter s = s.done ((if w.pwr.appHost = true then w else w.domOff Dom.APP).outSettle).ovrSettle) ∧
    (back = true → exec .outageExit s = s.done (s.changeTo s.pwr.outLeft).ovrSettle) ∧ (back = false → After .outageExit s (fun t => Frame s t []))) ∧
  (∀ (mib : Nat) (s : State), (s.dead = true → s.bootTarget mib = Md.BOOT) ∧ (s.dead = false → s.roleAdmitted = false ∨ s.pwr.domFailed = true ∨ s.dramFits mib = false ∨ s.fwOk = false → s.bootTarget mib = Md.SERVICE) ∧
    (s.dead = false → s.roleAdmitted = true → s.pwr.domFailed = false → s.dramFits mib = true → s.fwOk = true → s.bootTarget mib = if s.partnered then Md.STANDBY else s.roleMode)) ∧
  (∀ (ms : BitVec 16) (mib : Nat) (s : State),
    let due := s.mode == Md.BOOT && s.pwr.ramping.isNone && s.pwr.change == some ⟨Md.BOOT, []⟩
    let tgt := s.bootTarget mib
    let u := (s.bootDone ms.toNat).wr F.MODE_TGT tgt
    let x := ({ u with pwr := { u.pwr with change := none } } : State).wr F.MODE_STAT_BUSY 0
    let h := u.hostChoice
    let w := if s.pwr.domFailed then h.arrive tgt else h.changeTo tgt;
    (due = false → After (.bootEnd ms mib) s (fun t => Frame s t [])) ∧
    (u.rd F.MODE_BOOT_MS = ms.toNat ∧ Interrupt u Pg.MODE 2 ∧ u.rd F.MODE_TGT = tgt % 16 ∧ u.rst = { s.rst with wdtRun := true, wdtAt := s.raw } ∧ u.pair = { s.pair with stale := s.rd F.MIR_STAT_SYNC != 3, rounds := 0, sawActive := false } ∧ u.rd F.MIR_STAT_SYNC = 0) ∧
    (s.partnered = false → u.rd F.CLM_CTRL_STAT = 2) ∧ (s.ledger 27 ≠ 0 → u.ledger 27 = s.ledger 27) ∧ (s.ledger 27 = 0 → u.ledger 27 = min s.date (2 ^ 48 - 1)) ∧
    Frame s { u with rst := s.rst, pair := s.pair } ([F.MODE_BOOT_MS, F.MODE_TGT, F.MIR_STAT_SYNC, F.CLM_CTRL_STAT, F.CLM_GIVEUP_CAUSE, F.LDG_WORD 54, F.LDG_WORD 55, F.DSP_LEGAL_FW, F.DSP_LEGAL_CHK_HI, F.DSP_LEGAL_CHK_LO] ++ raised Pg.MODE) ∧
    (due = true → tgt = Md.BOOT → exec (.bootEnd ms mib) s = s.done x.ovrSettle) ∧
    (due = true → tgt ≠ Md.BOOT → w.role = 2 → w.working = true → exec (.bootEnd ms mib) s = s.done w.startWalk.trialReached.ovrSettle) ∧
    (due = true → tgt ≠ Md.BOOT → w.role ≠ 2 ∨ w.working = false → exec (.bootEnd ms mib) s = s.done w.trialReached.ovrSettle))

/-- A slice starts on the next unit where slices run: a bank drains, an executor's enable bit clears, a modem waits for its silent window. Not isolated in time, it is skipped and counted; the third skip in a row moves NEXT on. Its end counts a slice, decides by the verdict, or of a bank by its retired cells, and moves the order on. A pass returns an executor to service; a failure is logged and counted with bit 0 and alert 7, a first one asks for a retest, a second keeps a spare out and marks the others FAULTY. RETEST marks the selected unit; a full run is for SERVICE, refused with 3 elsewhere, and its end gives the result, a pass with its date. Coverage is per mille of the counted units. Each second advances LTIME, each powered one POH's; a sample of Tj gives its band, its weight and its hours; the checkpoint gives REM_D, LIFE_WARN below WARN_D, and the journal record. Model's choices: log entries 119, 120, 121. -/
def Obligations.SelfTestAndTheLedger : Prop :=
  (∀ s : State, s.pstRuns = false ∨ s.pstNext.isNone = true → After .pstSlice s (fun t => Frame s t [])) ∧
  (∀ (s : State) (u : Nat), s.pstNext = some u → s.pstRuns = true →
    let at_ := fun (silent : Bool) (t : State) => t.pst.slice = some ⟨u, silent⟩ ∧ t.pst.full = s.pst.full
    let b := ({ s with pst := { s.pst with slice := some ⟨u, false⟩ } } : State).drainGo u
    let drains := b.cru.drain == some u;
    (u < 16 → drains = true → exec .pstSlice s = s.done b) ∧ (u < 16 → drains = false → exec .pstSlice s = s.done (b.pstSkip u)) ∧
    (16 ≤ u → u < 43 → (s.rd (unitEnable u).1).testBit (unitEnable u).2 = true → After .pstSlice s (fun t => at_ false t ∧ t.pstUnit u = { s.pstUnit u with held := true } ∧
      t.rd (unitEnable u).1 = s.rd (unitEnable u).1 - 2 ^ (unitEnable u).2 ∧ Frame s { t with pst := s.pst } [(unitEnable u).1])) ∧
    (16 ≤ u → u < 43 → (s.rd (unitEnable u).1).testBit (unitEnable u).2 = false → After .pstSlice s (fun t => at_ false t ∧ t.pst.units = s.pst.units ∧ Frame s { t with pst := s.pst } [])) ∧
    (43 ≤ u → After .pstSlice s (fun t => at_ (s.silentOpen (u - 43)) t ∧ t.pst.units = s.pst.units ∧ Frame s { t with pst := s.pst } []))) ∧
  (∀ s : State, s.pst.slice.isNone = true → ∀ (ok : Bool) (code : Byte) (bad : List (BitVec 16)), After .pstIsolationTimeout s (fun t => Frame s t []) ∧ After (.pstSliceEnd ok code bad) s (fun t => Frame s t [])) ∧
  (∀ (s : State) (x : PstSlice), s.pst.slice = some x →
    let y := s.pstUnit x.unit
    let w := s.pstSkip x.unit;
    (s.pstIsolated x = true → After .pstIsolationTimeout s (fun t => Frame s t [])) ∧ (s.pstIsolated x = false → exec .pstIsolationTimeout s = s.done (w.unitReturn x.unit)) ∧ w.pst.slice.isNone = true ∧ Counted s w F.PST_SKIPS ∧
    (y.skips < 2 → w.pstUnit x.unit = { y with skips := y.skips + 1 } ∧ w.pst.full = s.pst.full ∧ Frame s { w with pst := s.pst } [F.PST_SKIPS]) ∧
    (2 ≤ y.skips → s.pst.full.isNone = true → w.pstUnit x.unit = { y with skips := 0, retest := false } ∧ w.rd F.PST_NEXT = (if y.retest then s.rd F.PST_NEXT else (x.unit + 1) % 107) ∧ Frame s { w with pst := s.pst } [F.PST_SKIPS, F.PST_NEXT])) ∧
  (∀ (ok : Bool) (code : Byte) (bad : List (BitVec 16)) (s : State) (x : PstSlice), s.pst.slice = some x →
    let k := x.unit
    let v := (({ s with pst := { s.pst with slice := none } } : State).wrap F.PST_SLICES).ledgerAdd 23 1
    let w := if k < 16 then v.bankTested k (bad.map (fun c => c.toNat)) else v
    let pass := if k < 16 then decide ((w.retired.filter (fun c => c % 16 == k)).length ≤ min (max (w.rd F.PST_CRU_RET_MAX) 1) 255) else ok
    let e := if pass then (w.pstPass k).pstShow else w.pstFail k code.toNat
    let y := if (s.pstUnit k).retest = false ∧ s.pst.full.isNone = true then e.wr F.PST_NEXT ((k + 1) % 107) else e;
    v.rd F.PST_SLICES = (s.rd F.PST_SLICES + 1) % F.PST_SLICES.bound ∧ v.ledger 23 = min (s.ledger 23 + 1) (2 ^ 48 - 1) ∧ Frame s { v with pst := s.pst } [F.PST_SLICES, F.LDG_WORD 46, F.LDG_WORD 47] ∧
    (s.pstIsolated x = false → After (.pstSliceEnd ok code bad) s (fun t => Frame s t [])) ∧ (s.pstIsolated x = true → exec (.pstSliceEnd ok code bad) s = s.done ((y.fullNext k pass).pstCoverage).selfCheck)) ∧
  (∀ (k : Nat) (s : State), 16 ≤ k → k < 43 → let t := s.pstPass k
    let back := (s.pstUnit k).st == 0 || (s.pstUnit k).retest;
    (back = true → t.pstUnit k = { st := 0, last := 1, passAt := some s.ledgerTime }) ∧ (back = false → t.pstUnit k = { s.pstUnit k with last := 1, skips := 0, passAt := some s.ledgerTime }) ∧
    (back = true → (s.pstUnit k).held = true → (t.rd (unitEnable k).1).testBit (unitEnable k).2 = true) ∧ Frame s { t with pst := s.pst, pair := s.pair } [(unitEnable k).1]) ∧
  (∀ (k code : Nat) (s : State), 16 ≤ k → k < 107 → code < 256 → let t := s.pstFail k code
    let again := (s.pstUnit k).failed || (s.pstUnit k).st != 0
    let spare := decide (k < 38) || decide (43 ≤ k)
    let critical := unitDomain k == Dom.PKT || unitDomain k == Dom.TSK || k == 38;
    Counted s t F.PST_FAILS ∧ t.rd F.PST_FAIL_LOG_VALID = 1 ∧ t.rd F.PST_FAIL_LOG_CODE = code ∧ t.rd F.PST_FAIL_LOG_UNIT = k ∧ t.ledger 24 = min (s.ledger 24 + 1) (2 ^ 48 - 1) ∧ Interrupt t Pg.PST 0 ∧ Alerted t 7 ∧
    (t.pstUnit k).last = 2 ∧ (t.pstUnit k).failed = true ∧ (again = false → (t.pstUnit k).retest = true ∧ (t.pstUnit k).st = 0) ∧ (again = true → (t.pstUnit k).retest = false ∧ (t.pstUnit k).st = (if spare then 1 else 2) ∧ Interrupt t Pg.PST 1) ∧
    (spare = true → (t.pstUnit k).held = true) ∧ (critical = true → s.pair.active = true → t.pair.found = s.pair.found ||| 4) ∧
    (k < 43 → Frame s { t with pst := s.pst, pair := s.pair, upd := s.upd } ([F.PST_FAILS, F.PST_FAIL_LOG_VALID, F.PST_FAIL_LOG_CODE, F.PST_FAIL_LOG_UNIT, F.LDG_WORD 48, F.LDG_WORD 49, F.PST_OUT 0, F.PST_OUT 1, F.PST_OUT 2, F.PST_OUT 3, (unitEnable k).1] ++ raised Pg.PST))) ∧
  (∀ (k : Nat) (pass : Bool) (s : State), s.pst.full.isSome = true →
    let l := (s.pst.full.getD ([], true)).1
    let good := (s.pst.full.getD ([], true)).2 && pass
    let rest := l.filter (fun v => v != k)
    let t := s.fullNext k pass;
    (rest.isEmpty = false → t.pst = { s.pst with full := some (rest, good) } ∧ Frame s { t with pst := s.pst } []) ∧
    (rest.isEmpty = true → t.pst = { s.pst with full := none } ∧ t.rd F.PST_FULL_CTL_BUSY = 0 ∧ t.rd F.PST_FULL_CTL_RES = (if good then 1 else 2) ∧ Interrupt t Pg.PST 2 ∧ (good = true → t.ledger 29 = min s.date (2 ^ 48 - 1)) ∧
      Frame s { t with pst := s.pst } ([F.PST_FULL_CTL_BUSY, F.PST_FULL_CTL_RES, F.LDG_WORD 58, F.LDG_WORD 59] ++ raised Pg.PST))) ∧
  (∀ s : State, let l := (List.range 107).filter (fun u => !s.pstMasked u && s.domPowered (unitDomain u))
    let c := 1000 * (l.filter (fun u => (s.pstUnit u).passAt.any (fun p => decide (s.ledgerTime ≤ p + 86400)))).length / l.length
    let t := s.pstCoverage;
    (s.domOn Dom.IOX = false → t = s) ∧ (s.domOn Dom.IOX = true → l.isEmpty = true → t.rd F.PST_COVERAGE = s.freeVal 1024 ∧ Frame s { t with fresh := s.fresh } (F.PST_COVERAGE :: raised Pg.PST)) ∧
    (s.domOn Dom.IOX = true → l.isEmpty = false → t.rd F.PST_COVERAGE = c ∧ (c < 1000 → 1000 ≤ s.rd F.PST_COVERAGE → isRole s.mode = true → Interrupt t Pg.PST 3) ∧ Frame s t (F.PST_COVERAGE :: raised Pg.PST))) ∧
  (∀ (m : Master) (v : Word) (s : State), s.judge m Pg.PST 0x98 = .open → let u := min 106 (s.rd F.PST_UNIT_SEL);
    (bit v 0 = true → After (.pstRetest m v) s (fun t => t.pst = { s.pst with units := SMap.set s.pst.units u { s.pstUnit u with retest := true } } ∧ Frame s { t with pst := s.pst } [])) ∧
    (bit v 0 = false → After (.pstRetest m v) s (fun t => Frame s t []))) ∧
  (∀ (m : Master) (v : Word) (s : State), s.judge m Pg.PST 0x9C = .open → let go := bit v 0 && s.pst.full.isNone;
    (go = false → After (.pstFullRun m v) s (fun t => Frame s t [])) ∧ (go = true → s.mode ≠ Md.SERVICE → After (.pstFullRun m v) s (fun t => t.rd F.PST_FULL_CTL_RES = 3 ∧ Frame s t [F.PST_FULL_CTL_RES])) ∧
    (go = true → s.mode = Md.SERVICE → After (.pstFullRun m v) s (fun t => t.pst = { s.pst with full := some ((List.range 107).filter (fun u => s.domOn (unitDomain u)), true) } ∧
      t.rd F.PST_FULL_CTL_BUSY = 1 ∧ t.rd F.PST_FULL_CTL_RES = 0 ∧ Frame s { t with pst := s.pst } [F.PST_FULL_CTL_BUSY, F.PST_FULL_CTL_RES]))) ∧
  (∀ (tj : Byte) (s : State), let off := s.mode == Md.OFF || s.mode == Md.VAULT
    let b := (([0, 25, 50, 70, 85, 100, 115] : List Int).filter (fun e => decide (e ≤ tj.toInt))).length
    let n := SMap.getD s.ldg.bands b 0 + 1;
    (off = true → After (.tjSample tj) s (fun t => Frame s t [])) ∧
    (off = false → After (.tjSample tj) s (fun t => t.rd F.LDG_TJ = tj.toNat ∧ t.rd F.LDG_BAND = b ∧ t.ledger 25 = min (s.ledger 25 + [3, 31, 257, 1112, 2997, 7459, 17302, 29269].getD b 0) (2 ^ 48 - 1) ∧
      t.ldg = { s.ldg with bands := SMap.set s.ldg.bands b (if 3600 ≤ n then 0 else n) } ∧ t.ledger (2 + b) = min (s.ledger (2 + b) + (if 3600 ≤ n then 1 else 0)) (2 ^ 48 - 1) ∧
      Frame s { t with ldg := s.ldg } [F.LDG_TJ, F.LDG_BAND, F.LDG_WORD 50, F.LDG_WORD 51, F.LDG_WORD (2 * (2 + b)), F.LDG_WORD (2 * (2 + b) + 1), F.DSP_TEMP_STAT_BAND, F.DSP_TEMP_STAT_TEMP]))) ∧
  (∀ s : State, let up := s.mode != Md.VAULT
    let hour := decide (3600 ≤ s.ldg.poh + 1)
    let g := if up then { s.ldg with poh := if hour then 0 else s.ldg.poh + 1 } else s.ldg
    let u := ({ s.ledgerAdd 0 1 with ldg := g } : State)
    let w := if up && hour then u.ledgerAdd 1 1 else u;
    (s.mode = Md.OFF → After .ledgerSecond s (fun t => Frame s t [])) ∧
    (s.mode ≠ Md.OFF → exec .ledgerSecond s = s.done w.pstCoverage ∧ w.ledger 0 = min (s.ledger 0 + 1) (2 ^ 48 - 1) ∧ w.ledger 1 = min (s.ledger 1 + (if up && hour then 1 else 0)) (2 ^ 48 - 1) ∧
      Frame s { w with ldg := s.ldg } [F.LDG_WORD 0, F.LDG_WORD 1, F.LDG_WORD 2, F.LDG_WORD 3])) ∧
  (∀ s : State, let due := decide (s.ledgerTime % 3600 = 0) && s.domOn Dom.MEM && s.mode != Md.OFF && s.mode != Md.VAULT
    let v := errorPages.foldl (fun (t : State) p => t.takeErrors p) s
    let used := v.ledger 25
    let gained := used - ((v.ldg.hist.find? (fun e => decide (e.1 + 2592000 ≤ v.ledgerTime))).map (fun e => e.2)).getD 0
    let u := v.lifeUpdate
    let w := u.ledgerAdd 56 1;
    (due = false → After .ledgerCheckpoint s (fun t => Frame s t [])) ∧
    (u.ledger 26 = (if 1262304000 * 4096 < used then 0 else if gained = 0 then 2 ^ 48 - 1 else min ((1262304000 * 4096 - used) * 30 / gained) (2 ^ 48 - 1)) ∧ (u.ledger 26 < v.rd F.LDG_WARN_D → Interrupt u Pg.LDG 0 ∧ Alerted u 11) ∧
      u.ldg = { v.ldg with hist := ((v.ledgerTime, used) :: v.ldg.hist).take 721 } ∧ Frame v { u with ldg := v.ldg } ([F.LDG_WORD 52, F.LDG_WORD 53] ++ raised Pg.LDG)) ∧
    (due = true → After .ledgerCheckpoint s (fun t => Interrupt t Pg.LDG 1 ∧ Journaled w t 10 (be 1 0x4C ++ ((List.range 116).map (fun i => w.rd (F.LDG_WORD i))).flatMap (fun x => be 4 x)) ∧
      Frame w { t with jrn := w.jrn, ldg := w.ldg } (raised Pg.LDG) ∧ (s.rd F.IGT_STATE_MODE ≠ 5 → t.ldg = { w.ldg with ckpt := some ((List.range 116).map (fun i => w.rd (F.LDG_WORD i))) }))))

/-- SUCC_CTL acts with its key only. EXPORT is refused without a host queue with 9, and outside SERVICE with 6; it stops the field ports, the chain and the mirror link, closes and seals, takes the checkpoints, and writes the bundle to the queue: EXPORTED and result 1, or 9 where cells lack. The bundle has its header and a signature under slot 2. A chunk must be of a host packet, result 6, at the next offset, result 7; it is kept and its packet released, result 1. With LAST the bundle is checked in order: 6, 2, 4, 5, 3, 8, and is accepted with 1; only a unit out of a pair slot takes more than the ledger, which is kept apart, SUCCESSIONS advancing and the own counters unchanged. A measurement of the reference is held, OK within REF_TOL, else bit 0, beyond ten times it tamper cause 3. A PLL that loses lock clears its bit, bit 1. Model's choices: log entries 116, 122, 123. -/
def Obligations.SuccessionAndClockFaults : Prop :=
  (∀ (m : Master) (v : Word) (s : State), exec (.succChunk m v) s = exec (.succExport m v) s ∧ exec (.succImport m v) s = exec (.succExport m v) s) ∧
  (∀ (m : Master) (v : Word) (s : State), s.judge m Pg.LDG 0x50 = .open →
    let key := bits v 31 16 == 0x5CCE
    let out := key && bit v 0
    let named := decide (80 ≤ s.rd F.LDG_SUCC_Q) && decide (s.rd F.LDG_SUCC_Q < 1024)
    let chunk := key && !bit v 0 && bit v 1
    let x := s.rd F.LDG_SUCC_CELL
    let follows := s.hostHeld x && s.rd F.LDG_SUCC_OFS == s.ldg.load.length
    let b := s.ldg.load ++ s.pktPayload x
    let r := ({ s with pwr := { s.pwr with portsOff := true, mirOff := true } } : State).portsFollow.linksFollow.succSeal.succCheckpoints
    let g := r.succPackets (r.rd F.LDG_SUCC_Q) (pieces 65504 r.bundle.length r.bundle)
    let k := ({ s with ldg := { s.ldg with load := b } } : State).releasePacket x
    let ends := fun (r : Nat) (a t : State) => t.rd F.LDG_SUCC_STAT_RES = r ∧ Interrupt t Pg.LDG 2 ∧ Frame a t (F.LDG_SUCC_STAT_RES :: raised Pg.LDG);
    (out = false → chunk = false → After (.succExport m v) s (fun t => Frame s t []) ∧ After (.succChunk m v) s (fun t => Frame s t []) ∧ After (.succImport m v) s (fun t => Frame s t [])) ∧
    (out = true → named = false → After (.succExport m v) s (fun t => ends 9 s t)) ∧ (out = true → named = true → s.mode ≠ Md.SERVICE → After (.succExport m v) s (fun t => ends 6 s t)) ∧
    (out = true → named = true → s.mode = Md.SERVICE → g.1 = true → After (.succExport m v) s (fun t => t.rd F.LDG_SUCC_STAT_EXPORTED = 1 ∧ t.rd F.LDG_SUCC_STAT_RES = 1 ∧ Interrupt t Pg.LDG 2 ∧ Frame g.2 t ([F.LDG_SUCC_STAT_EXPORTED, F.LDG_SUCC_STAT_RES] ++ raised Pg.LDG))) ∧
    (out = true → named = true → s.mode = Md.SERVICE → g.1 = false → After (.succExport m v) s (fun t => ends 9 g.2 t)) ∧
    (chunk = true → s.hostHeld x = false → After (.succChunk m v) s (fun t => t.rd F.LDG_SUCC_STAT_RES = 6 ∧ Frame s t [F.LDG_SUCC_STAT_RES])) ∧
    (chunk = true → s.hostHeld x = true → follows = false → After (.succChunk m v) s (fun t => t.rd F.LDG_SUCC_STAT_RES = 7 ∧ Frame s t [F.LDG_SUCC_STAT_RES])) ∧
    (chunk = true → follows = true → bit v 2 = false → After (.succChunk m v) s (fun t => t.ldg.load = b ∧ t.rd F.LDG_SUCC_STAT_RES = 1 ∧ Frame k t [F.LDG_SUCC_STAT_RES]))) ∧
  (∀ (m : Master) (v : Word) (s : State), s.judge m Pg.LDG 0x50 = .open →
    let x := s.rd F.LDG_SUCC_CELL
    let last := bits v 31 16 == 0x5CCE && !bit v 0 && bit v 1 && bit v 2 && s.hostHeld x && s.rd F.LDG_SUCC_OFS == s.ldg.load.length
    let r := ({ s with ldg := { s.ldg with load := [] } } : State).releasePacket x
    let may := r.mode == Md.PROVISION && r.fuses.lc == 2 && r.hlm.sealed.all (fun y => !y.released)
    let none_ := (bundleOf s.jrn.seq (s.ldg.load ++ s.pktPayload x)).isNone
    let ends := fun (r : Nat) (a t : State) => t.rd F.LDG_SUCC_STAT_RES = r ∧ Interrupt t Pg.LDG 2 ∧ Frame a t (F.LDG_SUCC_STAT_RES :: raised Pg.LDG);
    (last = true → may = false → After (.succImport m v) s (fun t => ends 6 r t)) ∧ (last = true → may = true → none_ = true → After (.succImport m v) s (fun t => ends 2 r t))) ∧
  (∀ (s : State) (y : SuccBundle), bundleOf s.jrn.seq (s.ldg.load ++ s.pktPayload (s.rd F.LDG_SUCC_CELL)) = some y → ∀ (m : Master) (v : Word), s.judge m Pg.LDG 0x50 = .open →
    let x := s.rd F.LDG_SUCC_CELL
    let r := ({ s with ldg := { s.ldg with load := [] } } : State).releasePacket x
    let may := r.mode == Md.PROVISION && r.fuses.lc == 2 && r.hlm.sealed.all (fun y => !y.released)
    let last := bits v 31 16 == 0x5CCE && !bit v 0 && bit v 1 && bit v 2 && s.hostHeld x && s.rd F.LDG_SUCC_OFS == s.ldg.load.length && may
    let a := r.invoke 10 Mst.SEC true Use.ANCHOR
    let signed := bundleSigned a.1 (s.ldg.load ++ s.pktPayload x) y
    let fit := y.role == r.role && decide (y.grade ≤ r.fuses.grade) && signed
    let dev := field (Config.certExt y.aliasC) 288 1
    let ends := fun (r : Nat) (a t : State) => t.rd F.LDG_SUCC_STAT_RES = r ∧ Interrupt t Pg.LDG 2 ∧ Frame a t (F.LDG_SUCC_STAT_RES :: raised Pg.LDG);
    (last = true → y.role ≠ r.role → After (.succImport m v) s (fun t => ends 4 r t)) ∧ (last = true → y.role = r.role → r.fuses.grade < y.grade → After (.succImport m v) s (fun t => ends 5 r t)) ∧
    (last = true → y.role = r.role → y.grade ≤ r.fuses.grade → signed = false → After (.succImport m v) s (fun t => ends 3 a.2 t)) ∧
    (last = true → fit = true → dev ≠ 0 → After (.succImport m v) s (fun t => ends 8 a.2 t)) ∧
    (last = true → fit = true → dev = 0 → r.pins.pairSel ≠ 3 → After (.succImport m v) s (fun t => ends 1 (a.2.importLedger y) t)) ∧
    (last = true → fit = true → dev = 0 → r.pins.pairSel = 3 → After (.succImport m v) s (fun t => ends 1 (((((a.2.importConfig y).importLegal y).importGate y).importState y).importLedger y) t))) ∧
  (∀ (y : SuccBundle) (s : State), let t := s.importLedger y;
    (∀ i, i < 116 → t.rd (F.LDG_PRED i) = y.ledger.getD i 0 % 2 ^ 32) ∧ t.rd F.LDG_STAT_PRED = 1 ∧ t.ledger 57 = min (s.ledger 57 + 1) (2 ^ 48 - 1) ∧ (∀ i, i < 57 → t.ledger i = s.ledger i) ∧ SameBody s t) ∧
  (∀ (y : SuccBundle) (s : State), let t := s.importState y;
    t.prf = { s.prf with chans := y.chans, base := y.chans, figs := y.figs, figDay := y.figDay, fbDay := y.figDay } ∧ t.chn = { s.chn with units := y.units } ∧ t.tch = { s.tch with dets := y.dets, saved := y.dets, mbrs := y.mbrs, ckpt := y.mbrs } ∧
      t.rd64 F.HLM_SEQ_LO F.HLM_SEQ_HI = y.seq % 2 ^ 64 ∧ t.rd64 F.HLM_RSEQ_LO F.HLM_RSEQ_HI = y.rseq % 2 ^ 64 ∧
      Frame s { t with prf := s.prf, chn := s.chn, tch := s.tch, hlm := s.hlm } ([F.HLM_SEQ_LO, F.HLM_SEQ_HI, F.HLM_RSEQ_LO, F.HLM_RSEQ_HI] ++ (List.range 12).map F.HLM_LAST_DIGEST)) ∧
  (∀ s : State, field s.bundle 0 4 = 0x474B5342 ∧ field s.bundle 4 2 = 1 ∧ field s.bundle 6 1 = s.role % 256 ∧ field s.bundle 7 1 = s.fuses.grade % 256 ∧ field s.bundle 8 8 = s.fuses.serial % 2 ^ 64 ∧
    field s.bundle 16 8 = s.ledgerTime % 2 ^ 64 ∧ field s.bundle 24 8 = s.bundle.length % 2 ^ 64 ∧ field s.bundle 32 1 = 8 ∧ s.bundle.drop (s.bundle.length - 96) = (Config.ecdsaSign (s.keyOf 2) (s.bundle.take (s.bundle.length - 96)) ++ be 96 0).take 96) ∧
  (∀ (err : BitVec 16) (s : State), let off := s.mode == Md.OFF || s.mode == Md.VAULT
    let e := err.toInt.natAbs
    let tol := 10 * s.rd F.CLK_REF_TOL
    let u := ((s.wr F.CLK_REF_ERR err.toNat).wr F.CLK_REF_OK 0).raise Pg.CLK 0;
    (off = true → After (.refFault err) s (fun t => Frame s t [])) ∧
    (off = false → e ≤ tol → After (.refFault err) s (fun t => t.rd F.CLK_REF_ERR = err.toNat ∧ t.rd F.CLK_REF_OK = 1 ∧ Frame s t [F.CLK_REF_ERR, F.CLK_REF_OK])) ∧
    (off = false → tol < e → e ≤ 10 * tol → After (.refFault err) s (fun t => t.rd F.CLK_REF_ERR = err.toNat ∧ t.rd F.CLK_REF_OK = 0 ∧ Interrupt t Pg.CLK 0 ∧ Frame s t ([F.CLK_REF_ERR, F.CLK_REF_OK] ++ raised Pg.CLK))) ∧
    (off = false → 10 * tol < e → exec (.refFault err) s = s.done (u.tamper 3))) ∧
  (∀ (i : Fin 14) (s : State), ((s.rd F.CLK_LOCK).testBit i.val = false → After (.lockLost i) s (fun t => Frame s t [])) ∧
    ((s.rd F.CLK_LOCK).testBit i.val = true → After (.lockLost i) s (fun t => t.rd F.CLK_LOCK = (s.rd F.CLK_LOCK - 2 ^ i.val) % F.CLK_LOCK.bound ∧ Interrupt t Pg.CLK 1 ∧ Frame s t (F.CLK_LOCK :: raised Pg.CLK))))

/-- A staged image is refused without a panel, 5, while another is under way, 3, or with a wrong CRC, 2; it waits for a legal page, rails or a clear; else it is loaded, on an LCD BUSY. A clear is only scheduled, bit 3. An LCD takes its new image at the start of a pair of frames, counted, result 1, and the polarity reverses. Each e-paper frame drives every segment by its old and new state; the last one commits the image, a clear all black or all white; a cut one ends in discharge. One bad copy of the frame memory is mended from the other and counted, bit 2; two give 7 and clear an LCD from its next pair of frames on. Rails rise in order and fall in reverse; the discharge ends with the panel down. A stale temperature turns to Tj plus OFS, bit 5. A press is debounced and counted, bit 1 from 50 ms to 2 s, the legal page from 2 s with bit 4; its views follow one another, then the host's image. -/
def Obligations.ThePanelsImagesRailsAndLegalPage : Prop :=
  (∀ (m : Master) (v : Word) (s : State), exec (.displayClear m v) s = exec (.displayUpdate m v) s) ∧
  (∀ (m : Master) (v : Word) (s : State), s.judge m Pg.DSP 0x60 = .open →
    let a := if bit v 1 then (s.wr F.DSP_UPD_STAT_CLEAR_PEND 1).raise Pg.DSP 3 else s
    let img := s.stagedImage
    let waits := s.on F.DSP_UPD_STAT_LEGAL || s.dsp.seq.isSome || decide (0 < s.dsp.clearLeft)
    let good := imageCrc img == s.rd F.DSP_UPD_CRC
    let free := !waits && !s.on F.DSP_UPD_STAT_BUSY && decide (s.dsp.typ ≠ 0)
    let h := ({ a with dsp := { s.dsp with held := true } } : State)
    let stat := a.rd (F.INT_STAT Pg.DSP)
    let l := (({ a with dsp := { s.dsp with fm0 := img, fm1 := img, fmOn := true, crcBad := false, todo := s.dsp.todo ++ [.host (img % 2 ^ s.dsp.segments)] } } : State).wr F.DSP_FM_CRC (imageCrc img)).wr (F.INT_STAT Pg.DSP) (if s.dsp.crcBad && stat.testBit 2 then stat - 4 else stat)
    let u := l.updPage Pg.DSP;
    (bit v 0 = false → bit v 1 = true → After (.displayClear m v) s (fun t => t.rd F.DSP_UPD_STAT_CLEAR_PEND = 1 ∧ Interrupt t Pg.DSP 3 ∧ Frame s t (F.DSP_UPD_STAT_CLEAR_PEND :: raised Pg.DSP))) ∧
    (bit v 0 = false → bit v 1 = false → After (.displayUpdate m v) s (fun t => Frame s t [])) ∧
    (bit v 0 = true → s.dsp.typ = 0 → exec (.displayUpdate m v) s = s.done (a.wr F.DSP_UPD_STAT_RES 5).dspSettle) ∧
    (bit v 0 = true → s.dsp.typ ≠ 0 → waits = true → exec (.displayUpdate m v) s = s.done h.dspSettle) ∧
    (bit v 0 = true → s.dsp.typ ≠ 0 → waits = false → s.on F.DSP_UPD_STAT_BUSY = true → exec (.displayUpdate m v) s = s.done (a.wr F.DSP_UPD_STAT_RES 3).dspSettle) ∧
    (bit v 0 = true → free = true → good = false → exec (.displayUpdate m v) s = s.done (a.wr F.DSP_UPD_STAT_RES 2).dspSettle) ∧
    (bit v 0 = true → free = true → good = true → exec (.displayUpdate m v) s = s.done u.dspSettle) ∧
    (bit v 0 = true → free = true → good = true → s.dsp.typ ≠ 3 → s.dsp.run.isNone = true → s.dsp.held = false → After (.displayUpdate m v) s (fun t => t.dsp = l.dsp ∧ t.rd F.DSP_UPD_STAT_BUSY = 1 ∧ t.rd F.DSP_FM_CRC = imageCrc img ∧
      Frame a { t with dsp := s.dsp } ([F.DSP_FM_CRC, F.DSP_UPD_STAT_BUSY] ++ raised Pg.DSP)))) ∧
  (∀ s : State, let goes := s.domOn Dom.IOX && (s.dsp.typ == 1 || s.dsp.typ == 2) && s.dsp.seq.isNone && s.dsp.run.isNone && !s.dsp.held
    let off := !(s.domOn Dom.IOX && (s.dsp.typ == 1 || s.dsp.typ == 2) && s.dsp.seq.isNone)
    let c := commons s.dsp.typ s.dsp.coms
    let inv := if s.dsp.inv = 3 ∨ c = 1 then 0 else s.dsp.inv
    let shown := if s.dsp.clearLeft = 3 then 0 else s.dsp.shown
    let img := (s.dsp.todo.headD .white).target s.dsp
    let light := s.on F.DSP_FL_EN;
    (off = true → After .lcdFrame s (fun t => Frame s t [])) ∧
    (goes = true → s.dsp.clearLeft ≠ 1 ∨ s.dsp.ready = true → s.dsp.negative = false ∨ 1 < s.dsp.clearLeft ∨ s.dsp.todo.isEmpty = true → After .lcdFrame s (fun t =>
      t.dsp = { s.dsp with negative := !s.dsp.negative, clearLeft := s.dsp.clearLeft - 1, shown := shown } ∧ t.rd F.DSP_UPD_STAT_BUSY = b2n (!s.dsp.todo.isEmpty) ∧
      Sent t (.lcdFrame shown (!s.dsp.negative) c inv) ∧ Frame s { t with dsp := s.dsp } [F.DSP_UPD_STAT_BUSY])) ∧
    (goes = true → s.dsp.negative = true → s.dsp.clearLeft = 0 → s.dsp.todo = [.host img] → After .lcdFrame s (fun t => t.dsp = { s.dsp with negative := false, todo := [], shown := img, host := img } ∧
      t.rd F.DSP_UPDATES = (s.rd F.DSP_UPDATES + 1) % F.DSP_UPDATES.bound ∧ t.ledger 19 = min (s.ledger 19 + 1) (2 ^ 48 - 1) ∧ t.rd F.DSP_UPD_STAT_RES = 1 ∧ t.rd F.DSP_UPD_STAT_BUSY = 0 ∧ Sent t (.lcdFrame img false c inv) ∧
      Frame s { t with dsp := s.dsp } [F.DSP_UPDATES, F.LDG_WORD 38, F.LDG_WORD 39, F.DSP_UPD_STAT_RES, F.DSP_UPD_STAT_BUSY])) ∧
    (goes = true → s.dsp.clearLeft = 1 → s.dsp.ready = false → s.dsp.todo.isEmpty = true → After .lcdFrame s (fun t => t.dsp.ready = true ∧ t.dsp.clearLeft = 0 ∧ t.dsp.negative = !s.dsp.negative ∧
      (light = true → t.dsp.light = true ∧ Sent t (.light (min 1000 (s.rd F.DSP_FL_DUTY)))) ∧ Frame s { t with dsp := s.dsp } [F.DSP_UPD_STAT_BUSY]))) ∧
  (∀ s : State, s.domOn Dom.IOX = false ∨ s.dsp.run.isNone = true → After .epdFrame s (fun t => Frame s t [])) ∧
  (∀ (s : State) (r : EpdRun), s.dsp.run = some r → s.domOn Dom.IOX = true →
    let drives := fun (w : Nat) => OutMsg.epdFrame (frameDrives 56 w (r.draw.from_ s.dsp) (r.draw.target s.dsp))
    let last := !r.cut && decide (r.left ≤ 1)
    let rest := r.phases.tail
    let w := rest.headD 0
    let img := r.draw.target s.dsp
    let u := s.epdDone r.draw;
    (r.cut = true → After .epdFrame s (fun t => t.dsp = { s.dsp with run := none, discharge := true } ∧ Sent t .linesV0 ∧ Frame s { t with dsp := s.dsp } [])) ∧
    (r.cut = false → 1 < r.left → After .epdFrame s (fun t => t.dsp = { s.dsp with run := some { r with left := r.left - 1 } } ∧ Sent t (drives (r.phases.headD 0)) ∧ Frame s { t with dsp := s.dsp } [])) ∧
    (last = true → rest.isEmpty = false → After .epdFrame s (fun t => t.dsp = { s.dsp with run := some { r with phases := rest, left := w % 256 } } ∧ Sent t (drives w) ∧ Frame s { t with dsp := s.dsp } [])) ∧
    (last = true → rest.isEmpty = true → exec .epdFrame s = s.done u.dspSettle) ∧
    (r.draw = .black → u.dsp = { s.dsp with run := none, old := 2 ^ s.dsp.segments - 1 } ∧ Frame s { u with dsp := s.dsp } []) ∧
    (r.draw = .white → u.dsp.run.isNone = true ∧ u.dsp.old = 0 ∧ u.dsp.ready = true ∧ u.rd F.DSP_UPD_STAT_CLEAR_PEND = 0 ∧ Frame s { u with dsp := s.dsp } [F.DSP_UPD_STAT_CLEAR_PEND]) ∧
    (r.draw = .host img ∨ r.draw = .own img → u.rd F.DSP_AON_IMG_LO = img % 2 ^ 32 ∧ u.rd F.DSP_AON_IMG_HI = img / 2 ^ 32 % 2 ^ 24 ∧ u.rd F.DSP_AON_COMMITTED = 1) ∧
    (r.draw = .own img → u.dsp = { s.dsp with run := none, old := img } ∧ Frame s { u with dsp := s.dsp } [F.DSP_AON_IMG_LO, F.DSP_AON_IMG_HI, F.DSP_AON_COMMITTED]) ∧
    (r.draw = .host img → u.dsp = { s.dsp with run := none, old := img, host := img } ∧ u.rd F.DSP_UPDATES = (s.rd F.DSP_UPDATES + 1) % F.DSP_UPDATES.bound ∧ u.ledger 19 = min (s.ledger 19 + 1) (2 ^ 48 - 1) ∧ u.rd F.DSP_UPD_STAT_RES = 1 ∧ Interrupt u Pg.DSP 0 ∧
      Frame s { u with dsp := s.dsp } ([F.DSP_AON_IMG_LO, F.DSP_AON_IMG_HI, F.DSP_AON_COMMITTED, F.DSP_UPDATES, F.LDG_WORD 38, F.LDG_WORD 39, F.DSP_UPD_STAT_RES] ++ raised Pg.DSP))) ∧
  (∀ n w old new k : Nat, k < n → frameDrives n w old new / 4 ^ k % 4 = w / 4 ^ (4 + (if new.testBit k then 2 else 0) + (if old.testBit k then 1 else 0)) % 4) ∧
  (∀ (flip0 flip1 : Nat) (s : State), let f0 := s.dsp.fm0 ^^^ (flip0 % 2 ^ 448)
    let f1 := s.dsp.fm1 ^^^ (flip1 % 2 ^ 448)
    let runs := s.domOn Dom.IOX && s.dsp.fmOn
    let good0 := imageCrc f0 == s.rd F.DSP_FM_CRC
    let good1 := imageCrc f1 == s.rd F.DSP_FM_CRC
    let lcd := s.dsp.typ == 1 || s.dsp.typ == 2
    let mended := fun (f : Nat) (t : State) => t.dsp = { s.dsp with fm0 := f, fm1 := f, crcBad := true } ∧ Counted s t F.DSP_CRC_ERR ∧ Interrupt t Pg.DSP 2 ∧ Frame s { t with dsp := s.dsp } (F.DSP_CRC_ERR :: raised Pg.DSP);
    (runs = false → After (.frameCrcCheck flip0 flip1) s (fun t => Frame s t [])) ∧
    (runs = true → good0 = true → good1 = true → After (.frameCrcCheck flip0 flip1) s (fun t => t.dsp = { s.dsp with fm0 := f0, fm1 := f1 } ∧ Frame s { t with dsp := s.dsp } [])) ∧
    (runs = true → good0 = true → good1 = false → After (.frameCrcCheck flip0 flip1) s (fun t => mended f0 t)) ∧ (runs = true → good0 = false → good1 = true → After (.frameCrcCheck flip0 flip1) s (fun t => mended f1 t)) ∧
    (runs = true → good0 = false → good1 = false → After (.frameCrcCheck flip0 flip1) s (fun t => t.rd F.DSP_UPD_STAT_RES = 7 ∧ Interrupt t Pg.DSP 2 ∧ t.dsp.crcBad = true ∧
      (lcd = true → t.dsp = { s.dsp with fm0 := 0, fm1 := 0, crcBad := true, clearLeft := if s.dsp.negative then 3 else 4 } ∧ t.rd F.DSP_FM_CRC = imageCrc 0) ∧
      (lcd = false → t.dsp = { s.dsp with fm0 := f0, fm1 := f1, crcBad := true }) ∧ Frame s { t with dsp := s.dsp } ([F.DSP_UPD_STAT_RES, F.DSP_FM_CRC] ++ raised Pg.DSP)))) ∧
  (∀ s : State, (s.domOn Dom.IOX = false → After .panelRailStep s (fun t => Frame s t []) ∧ After .dischargeEnd s (fun t => Frame s t [])) ∧
    (s.domOn Dom.IOX = true → s.dsp.seq.isNone = true → exec .panelRailStep s = s.done s.holdupIox.resetGo) ∧ (s.domOn Dom.IOX = true → s.dsp.discharge = false → exec .dischargeEnd s = s.done s.holdupIox.resetGo)) ∧
  (∀ (k : Nat) (s : State), s.domOn Dom.IOX = true → s.dsp.seq = some (.rising k) →
    let want := (List.range 3).filter (fun j => decide (k ≤ j) && (s.rd F.DSP_CTL_RAILS).testBit j)
    let i := want.headD 0
    let w := ({ s with dsp := { s.dsp with rails := s.dsp.rails ||| BitVec.ofNat 3 (2 ^ i) }, out := .rail i true :: s.out } : State)
    let u := ({ w with dsp := { w.dsp with seq := some (.rising (i + 1)) } } : State);
    (want.isEmpty = true → exec .panelRailStep s = s.done s.railsUp.holdupIox.resetGo) ∧ (1 < want.length → exec .panelRailStep s = s.done u.holdupIox.resetGo) ∧ (want.length = 1 → exec .panelRailStep s = s.done w.railsUp.holdupIox.resetGo)) ∧
  (∀ s : State, s.dsp.typ = 1 ∨ s.dsp.typ = 2 → s.railsUp.dsp = { s.dsp with seq := none, clearLeft := 2, shown := 0, negative := false, fm0 := 0, fm1 := 0, fmOn := true } ∧ s.railsUp.rd F.DSP_FM_CRC = imageCrc 0 ∧ Frame s { s.railsUp with dsp := s.dsp } [F.DSP_FM_CRC]) ∧
  (∀ s : State, s.domOn Dom.IOX = true →
    let falls := s.dsp.seq == some .falling
    let i := ([2, 1, 0].find? (fun j => s.dsp.rails.getLsbD j)).getD 0
    let d := { s.dsp with rails := s.dsp.rails &&& ~~~(BitVec.ofNat 3 (2 ^ i)), seq := some .falling }
    let w := ({ s with dsp := d, out := .rail i false :: s.out } : State)
    let off := ({ s with dsp := {} } : State)
    let z := ({ s with dsp := { s.dsp with discharge := false } } : State).panelDown;
    (falls = true → s.dsp.rails ≠ 0 → exec .panelRailStep s = s.done w.holdupIox.resetGo) ∧ (falls = true → s.dsp.rails = 0 → exec .panelRailStep s = s.done off.holdupIox.resetGo) ∧
    (s.dsp.discharge = true → exec .dischargeEnd s = s.done z.holdupIox.resetGo ∧ Sent z .linesV0 ∧ Frame s { z with dsp := s.dsp } []) ∧ (s.dsp.discharge = true → s.dsp.rails = 0 → z.dsp = {}) ∧
    (s.dsp.discharge = true → s.dsp.rails ≠ 0 → z.dsp = { d with discharge := false, ready := false, light := false, todo := [], legal := [], held := false, clearLeft := 0 } ∧ Sent z (.rail i false))) ∧
  (∀ s : State, let due := s.domOn Dom.IOX && s.on F.DSP_TEMP_SRC && !s.on F.DSP_TEMP_STAT_STALE
    let T := signed8 (s.rd F.LDG_TJ) + signed8 (s.rd F.DSP_TEMP_OFS);
    (due = false → After .tempStale s (fun t => Frame s t [])) ∧
    (due = true → After .tempStale s (fun t => t.rd F.DSP_TEMP_STAT_STALE = 1 ∧ Interrupt t Pg.DSP 5 ∧ t.rd F.DSP_TEMP_STAT_TEMP = (T % 256).toNat ∧ t.rd F.DSP_TEMP_STAT_BAND = (s.epdEdges.filter (fun e => decide (e ≤ T))).length ∧
      Frame s t ([F.DSP_TEMP_STAT_STALE, F.DSP_TEMP_STAT_TEMP, F.DSP_TEMP_STAT_BAND] ++ raised Pg.DSP)))) ∧
  (∀ (ms : Nat) (s : State), let c := s.wrap F.DSP_BTN_CNT
    let a := if 50 ≤ ms ∧ ms ≤ 2000 then c.raise Pg.DSP 1 else c
    let acts := s.domOn Dom.IOX && decide (20 ≤ ms)
    let can := decide (2000 ≤ ms) && decide (4 ≤ min 16 (s.rd F.DSP_DIGITS)) && s.dsp.ready && !s.on F.DSP_UPD_STAT_LEGAL
    let u := (({ a with dsp := { s.dsp with legal := s.legalViews.tail, todo := s.dsp.todo ++ [.own (s.legalViews.headD 0)] } } : State).wr F.DSP_UPD_STAT_LEGAL 1).raise Pg.DSP 4;
    (acts = false → After (.buttonPress ms) s (fun t => Frame s t [])) ∧ a.rd F.DSP_BTN_CNT = (s.rd F.DSP_BTN_CNT + 1) % F.DSP_BTN_CNT.bound ∧ (50 ≤ ms → ms ≤ 2000 → Interrupt a Pg.DSP 1) ∧ Frame s a (F.DSP_BTN_CNT :: raised Pg.DSP) ∧
    (acts = true → can = false → exec (.buttonPress ms) s = s.done a) ∧ (acts = true → can = true → exec (.buttonPress ms) s = s.done u.dspSettle)) ∧
  (∀ s : State, let shows := s.domOn Dom.IOX && s.on F.DSP_UPD_STAT_LEGAL
    let u := ({ s with dsp := { s.dsp with legal := s.dsp.legal.tail, todo := s.dsp.todo ++ [.own (s.dsp.legal.headD 0)] } } : State)
    let e := ({ s with dsp := { s.dsp with todo := s.dsp.todo ++ [.own s.dsp.host] } } : State).wr F.DSP_UPD_STAT_LEGAL 0;
    (shows = false → After .legalViewNext s (fun t => Frame s t [])) ∧ (shows = true → s.dsp.legal.isEmpty = false → exec .legalViewNext s = s.done u.dspSettle) ∧ (shows = true → s.dsp.legal.isEmpty = true → exec .legalViewNext s = s.done e.dspSettle))

end
end

