-- ==== Sys2Proof/Laws/Maps.lean ====
section
/-!
SUPPORT. Laws of the sparse maps: reading after setting and erasing, and that both keep the keys rising.
-/
namespace Sys2Proof.Machine

theorem SMap.find?_set_self {α : Type} (m : SMap α) (j : Nat) (w : α) : SMap.find? (SMap.set m j w) j = some w := by
  induction m with
  | nil => simp [SMap.set, SMap.find?]
  | cons e m ih =>
    obtain ⟨k, v⟩ := e
    simp only [SMap.set]
    split
    · simp [SMap.find?]
    · split
      · simp [SMap.find?]
      · rename_i h _
        simp [SMap.find?, h, ih]

theorem SMap.find?_set_ne {α : Type} (m : SMap α) (j i : Nat) (w : α) (h : i ≠ j) :
    SMap.find? (SMap.set m j w) i = SMap.find? m i := by
  induction m with
  | nil => simp [SMap.set, SMap.find?, h]
  | cons e m ih =>
    obtain ⟨k, v⟩ := e
    simp only [SMap.set]
    split
    · rename_i hj
      subst hj
      simp [SMap.find?, h]
    · split
      · simp [SMap.find?, h]
      · simp [SMap.find?, ih]

theorem SMap.find?_erase_self {α : Type} (m : SMap α) (j : Nat) : SMap.find? (SMap.erase m j) j = none := by
  induction m with
  | nil => rfl
  | cons e m ih =>
    obtain ⟨k, v⟩ := e
    simp only [SMap.erase]
    split
    · exact ih
    · rename_i h
      simp [SMap.find?, h, ih]

theorem SMap.find?_erase_ne {α : Type} (m : SMap α) (j i : Nat) (h : i ≠ j) :
    SMap.find? (SMap.erase m j) i = SMap.find? m i := by
  induction m with
  | nil => rfl
  | cons e m ih =>
    obtain ⟨k, v⟩ := e
    simp only [SMap.erase]
    split
    · rename_i hj
      subst hj
      simp [SMap.find?, h, ih]
    · simp [SMap.find?, ih]

theorem SMap.getD_set_self {α : Type} (m : SMap α) (j : Nat) (w d : α) : SMap.getD (SMap.set m j w) j d = w := by
  simp [SMap.getD, SMap.find?_set_self]

theorem SMap.getD_set_ne {α : Type} (m : SMap α) (j i : Nat) (w d : α) (h : i ≠ j) :
    SMap.getD (SMap.set m j w) i d = SMap.getD m i d := by
  simp [SMap.getD, SMap.find?_set_ne m j i w h]

theorem SMap.getD_erase_self {α : Type} (m : SMap α) (j : Nat) (d : α) : SMap.getD (SMap.erase m j) j d = d := by
  simp [SMap.getD, SMap.find?_erase_self]

theorem SMap.getD_erase_ne {α : Type} (m : SMap α) (j i : Nat) (d : α) (h : i ≠ j) :
    SMap.getD (SMap.erase m j) i d = SMap.getD m i d := by
  simp [SMap.getD, SMap.find?_erase_ne m j i h]

theorem SMap.getD_modify_self {α : Type} (m : SMap α) (j : Nat) (d : α) (f : α → α) :
    SMap.getD (SMap.modify m j d f) j d = f (SMap.getD m j d) := by
  simp [SMap.modify, SMap.getD_set_self]

theorem SMap.getD_modify_ne {α : Type} (m : SMap α) (j i : Nat) (d e : α) (f : α → α) (h : i ≠ j) :
    SMap.getD (SMap.modify m j d f) i e = SMap.getD m i e := by
  simp [SMap.modify, SMap.getD_set_ne m j i _ e h]

/-- Every key of a map lies above a number. -/
def SMap.above {α : Type} (b : Nat) : SMap α → Bool
  | [] => true
  | (k, _) :: m => decide (b < k) && SMap.above b m

theorem SMap.above_trans {α : Type} (m : SMap α) (a b : Nat) (hab : a < b) (h : SMap.above b m = true) : SMap.above a m = true := by
  induction m with
  | nil => rfl
  | cons e m ih =>
    obtain ⟨k, v⟩ := e
    simp only [SMap.above, Bool.and_eq_true, decide_eq_true_eq] at h ⊢
    exact ⟨by omega, ih h.2⟩

theorem SMap.rising_cons {α : Type} (k : Nat) (v : α) (m : SMap α) :
    SMap.rising ((k, v) :: m) = true ↔ SMap.above k m = true ∧ SMap.rising m = true := by
  induction m generalizing k v with
  | nil => simp [SMap.rising, SMap.above]
  | cons e m ih =>
    obtain ⟨j, w⟩ := e
    simp only [SMap.rising, SMap.above, Bool.and_eq_true, decide_eq_true_eq]
    constructor
    · intro h
      exact ⟨⟨h.1, SMap.above_trans m k j h.1 ((ih j w).1 h.2).1⟩, h.2⟩
    · intro h
      exact ⟨h.1.1, h.2⟩

theorem SMap.above_set {α : Type} (m : SMap α) (b j : Nat) (w : α) (hb : b < j) (h : SMap.above b m = true) :
    SMap.above b (SMap.set m j w) = true := by
  induction m with
  | nil => simp [SMap.set, SMap.above, hb]
  | cons e m ih =>
    obtain ⟨k, v⟩ := e
    simp only [SMap.above, Bool.and_eq_true, decide_eq_true_eq] at h
    simp only [SMap.set]
    split
    · simp [SMap.above, hb, h.2]
    · split
      · simp [SMap.above, hb, h.1, h.2]
      · simp [SMap.above, h.1, ih h.2]

/-- Setting a key keeps the keys rising. -/
theorem SMap.rising_set {α : Type} (m : SMap α) (j : Nat) (w : α) (h : SMap.rising m = true) : SMap.rising (SMap.set m j w) = true := by
  induction m with
  | nil => rfl
  | cons e m ih =>
    obtain ⟨k, v⟩ := e
    have hc := (SMap.rising_cons k v m).1 h
    simp only [SMap.set]
    split
    · rename_i hj
      subst hj
      exact (SMap.rising_cons j w m).2 hc
    · split
      · rename_i hlt
        refine (SMap.rising_cons j w _).2 ⟨?_, h⟩
        simp only [SMap.above, Bool.and_eq_true, decide_eq_true_eq]
        exact ⟨hlt, SMap.above_trans m j k hlt hc.1⟩
      · refine (SMap.rising_cons k v _).2 ⟨SMap.above_set m k j w (by omega) hc.1, ih hc.2⟩

theorem SMap.above_erase {α : Type} (m : SMap α) (b j : Nat) (h : SMap.above b m = true) : SMap.above b (SMap.erase m j) = true := by
  induction m with
  | nil => rfl
  | cons e m ih =>
    obtain ⟨k, v⟩ := e
    simp only [SMap.above, Bool.and_eq_true, decide_eq_true_eq] at h
    simp only [SMap.erase]
    split
    · exact ih h.2
    · simp [SMap.above, h.1, ih h.2]

/-- Removing a key keeps the keys rising. -/
theorem SMap.rising_erase {α : Type} (m : SMap α) (j : Nat) (h : SMap.rising m = true) : SMap.rising (SMap.erase m j) = true := by
  induction m with
  | nil => rfl
  | cons e m ih =>
    obtain ⟨k, v⟩ := e
    have hc := (SMap.rising_cons k v m).1 h
    simp only [SMap.erase]
    split
    · exact ih hc.2
    · exact (SMap.rising_cons k v _).2 ⟨SMap.above_erase m k j hc.1, ih hc.2⟩

end Sys2Proof.Machine
end

