-- ==== Sys2Proof/Laws/State.lean ====
section
/-!
SUPPORT. What each named update of the state leaves alone, one lemma for each field: no later proof unfolds a record update.
-/
namespace Sys2Proof.Machine


/-! ## `State.wr` changes only `regs` -/

@[simp] theorem State.wr_pending (s : State) (f : Fld) (v : Nat) : (s.wr f v).pending = s.pending := rfl
@[simp] theorem State.wr_fresh (s : State) (f : Fld) (v : Nat) : (s.wr f v).fresh = s.fresh := rfl
@[simp] theorem State.wr_out (s : State) (f : Fld) (v : Nat) : (s.wr f v).out = s.out := rfl
@[simp] theorem State.wr_irq (s : State) (f : Fld) (v : Nat) : (s.wr f v).irq = s.irq := rfl
@[simp] theorem State.wr_bus (s : State) (f : Fld) (v : Nat) : (s.wr f v).bus = s.bus := rfl
@[simp] theorem State.wr_cfg (s : State) (f : Fld) (v : Nat) : (s.wr f v).cfg = s.cfg := rfl
@[simp] theorem State.wr_ovr (s : State) (f : Fld) (v : Nat) : (s.wr f v).ovr = s.ovr := rfl
@[simp] theorem State.wr_tim (s : State) (f : Fld) (v : Nat) : (s.wr f v).tim = s.tim := rfl
@[simp] theorem State.wr_ports (s : State) (f : Fld) (v : Nat) : (s.wr f v).ports = s.ports := rfl
@[simp] theorem State.wr_credits (s : State) (f : Fld) (v : Nat) : (s.wr f v).credits = s.credits := rfl
@[simp] theorem State.wr_zc (s : State) (f : Fld) (v : Nat) : (s.wr f v).zc = s.zc := rfl
@[simp] theorem State.wr_gpioCmp (s : State) (f : Fld) (v : Nat) : (s.wr f v).gpioCmp = s.gpioCmp := rfl
@[simp] theorem State.wr_sunGrid (s : State) (f : Fld) (v : Nat) : (s.wr f v).sunGrid = s.sunGrid := rfl
@[simp] theorem State.wr_pib (s : State) (f : Fld) (v : Nat) : (s.wr f v).pib = s.pib := rfl
@[simp] theorem State.wr_gate (s : State) (f : Fld) (v : Nat) : (s.wr f v).gate = s.gate := rfl
@[simp] theorem State.wr_cru (s : State) (f : Fld) (v : Nat) : (s.wr f v).cru = s.cru := rfl
@[simp] theorem State.wr_retired (s : State) (f : Fld) (v : Nat) : (s.wr f v).retired = s.retired := rfl
@[simp] theorem State.wr_pln (s : State) (f : Fld) (v : Nat) : (s.wr f v).pln = s.pln := rfl
@[simp] theorem State.wr_heldFirings (s : State) (f : Fld) (v : Nat) : (s.wr f v).heldFirings = s.heldFirings := rfl
@[simp] theorem State.wr_bndPrf (s : State) (f : Fld) (v : Nat) : (s.wr f v).bndPrf = s.bndPrf := rfl
@[simp] theorem State.wr_bndTch (s : State) (f : Fld) (v : Nat) : (s.wr f v).bndTch = s.bndTch := rfl
@[simp] theorem State.wr_prf (s : State) (f : Fld) (v : Nat) : (s.wr f v).prf = s.prf := rfl
@[simp] theorem State.wr_tar (s : State) (f : Fld) (v : Nat) : (s.wr f v).tar = s.tar := rfl
@[simp] theorem State.wr_lgl (s : State) (f : Fld) (v : Nat) : (s.wr f v).lgl = s.lgl := rfl
@[simp] theorem State.wr_hlm (s : State) (f : Fld) (v : Nat) : (s.wr f v).hlm = s.hlm := rfl
@[simp] theorem State.wr_tch (s : State) (f : Fld) (v : Nat) : (s.wr f v).tch = s.tch := rfl
@[simp] theorem State.wr_jrn (s : State) (f : Fld) (v : Nat) : (s.wr f v).jrn = s.jrn := rfl
@[simp] theorem State.wr_nand (s : State) (f : Fld) (v : Nat) : (s.wr f v).nand = s.nand := rfl
@[simp] theorem State.wr_chn (s : State) (f : Fld) (v : Nat) : (s.wr f v).chn = s.chn := rfl
@[simp] theorem State.wr_pair (s : State) (f : Fld) (v : Nat) : (s.wr f v).pair = s.pair := rfl
@[simp] theorem State.wr_sec (s : State) (f : Fld) (v : Nat) : (s.wr f v).sec = s.sec := rfl
@[simp] theorem State.wr_upd (s : State) (f : Fld) (v : Nat) : (s.wr f v).upd = s.upd := rfl
@[simp] theorem State.wr_pins (s : State) (f : Fld) (v : Nat) : (s.wr f v).pins = s.pins := rfl
@[simp] theorem State.wr_pwr (s : State) (f : Fld) (v : Nat) : (s.wr f v).pwr = s.pwr := rfl
@[simp] theorem State.wr_rst (s : State) (f : Fld) (v : Nat) : (s.wr f v).rst = s.rst := rfl
@[simp] theorem State.wr_mem (s : State) (f : Fld) (v : Nat) : (s.wr f v).mem = s.mem := rfl
@[simp] theorem State.wr_fuses (s : State) (f : Fld) (v : Nat) : (s.wr f v).fuses = s.fuses := rfl
@[simp] theorem State.wr_pst (s : State) (f : Fld) (v : Nat) : (s.wr f v).pst = s.pst := rfl
@[simp] theorem State.wr_ldg (s : State) (f : Fld) (v : Nat) : (s.wr f v).ldg = s.ldg := rfl
@[simp] theorem State.wr_dsp (s : State) (f : Fld) (v : Nat) : (s.wr f v).dsp = s.dsp := rfl

/-! ## `State.emit` changes only `out` -/

@[simp] theorem State.emit_pending (s : State) (m : OutMsg) : (s.emit m).pending = s.pending := rfl
@[simp] theorem State.emit_regs (s : State) (m : OutMsg) : (s.emit m).regs = s.regs := rfl
@[simp] theorem State.emit_fresh (s : State) (m : OutMsg) : (s.emit m).fresh = s.fresh := rfl
@[simp] theorem State.emit_irq (s : State) (m : OutMsg) : (s.emit m).irq = s.irq := rfl
@[simp] theorem State.emit_bus (s : State) (m : OutMsg) : (s.emit m).bus = s.bus := rfl
@[simp] theorem State.emit_cfg (s : State) (m : OutMsg) : (s.emit m).cfg = s.cfg := rfl
@[simp] theorem State.emit_ovr (s : State) (m : OutMsg) : (s.emit m).ovr = s.ovr := rfl
@[simp] theorem State.emit_tim (s : State) (m : OutMsg) : (s.emit m).tim = s.tim := rfl
@[simp] theorem State.emit_ports (s : State) (m : OutMsg) : (s.emit m).ports = s.ports := rfl
@[simp] theorem State.emit_credits (s : State) (m : OutMsg) : (s.emit m).credits = s.credits := rfl
@[simp] theorem State.emit_zc (s : State) (m : OutMsg) : (s.emit m).zc = s.zc := rfl
@[simp] theorem State.emit_gpioCmp (s : State) (m : OutMsg) : (s.emit m).gpioCmp = s.gpioCmp := rfl
@[simp] theorem State.emit_sunGrid (s : State) (m : OutMsg) : (s.emit m).sunGrid = s.sunGrid := rfl
@[simp] theorem State.emit_pib (s : State) (m : OutMsg) : (s.emit m).pib = s.pib := rfl
@[simp] theorem State.emit_gate (s : State) (m : OutMsg) : (s.emit m).gate = s.gate := rfl
@[simp] theorem State.emit_cru (s : State) (m : OutMsg) : (s.emit m).cru = s.cru := rfl
@[simp] theorem State.emit_retired (s : State) (m : OutMsg) : (s.emit m).retired = s.retired := rfl
@[simp] theorem State.emit_pln (s : State) (m : OutMsg) : (s.emit m).pln = s.pln := rfl
@[simp] theorem State.emit_heldFirings (s : State) (m : OutMsg) : (s.emit m).heldFirings = s.heldFirings := rfl
@[simp] theorem State.emit_bndPrf (s : State) (m : OutMsg) : (s.emit m).bndPrf = s.bndPrf := rfl
@[simp] theorem State.emit_bndTch (s : State) (m : OutMsg) : (s.emit m).bndTch = s.bndTch := rfl
@[simp] theorem State.emit_prf (s : State) (m : OutMsg) : (s.emit m).prf = s.prf := rfl
@[simp] theorem State.emit_tar (s : State) (m : OutMsg) : (s.emit m).tar = s.tar := rfl
@[simp] theorem State.emit_lgl (s : State) (m : OutMsg) : (s.emit m).lgl = s.lgl := rfl
@[simp] theorem State.emit_hlm (s : State) (m : OutMsg) : (s.emit m).hlm = s.hlm := rfl
@[simp] theorem State.emit_tch (s : State) (m : OutMsg) : (s.emit m).tch = s.tch := rfl
@[simp] theorem State.emit_jrn (s : State) (m : OutMsg) : (s.emit m).jrn = s.jrn := rfl
@[simp] theorem State.emit_nand (s : State) (m : OutMsg) : (s.emit m).nand = s.nand := rfl
@[simp] theorem State.emit_chn (s : State) (m : OutMsg) : (s.emit m).chn = s.chn := rfl
@[simp] theorem State.emit_pair (s : State) (m : OutMsg) : (s.emit m).pair = s.pair := rfl
@[simp] theorem State.emit_sec (s : State) (m : OutMsg) : (s.emit m).sec = s.sec := rfl
@[simp] theorem State.emit_upd (s : State) (m : OutMsg) : (s.emit m).upd = s.upd := rfl
@[simp] theorem State.emit_pins (s : State) (m : OutMsg) : (s.emit m).pins = s.pins := rfl
@[simp] theorem State.emit_pwr (s : State) (m : OutMsg) : (s.emit m).pwr = s.pwr := rfl
@[simp] theorem State.emit_rst (s : State) (m : OutMsg) : (s.emit m).rst = s.rst := rfl
@[simp] theorem State.emit_mem (s : State) (m : OutMsg) : (s.emit m).mem = s.mem := rfl
@[simp] theorem State.emit_fuses (s : State) (m : OutMsg) : (s.emit m).fuses = s.fuses := rfl
@[simp] theorem State.emit_pst (s : State) (m : OutMsg) : (s.emit m).pst = s.pst := rfl
@[simp] theorem State.emit_ldg (s : State) (m : OutMsg) : (s.emit m).ldg = s.ldg := rfl
@[simp] theorem State.emit_dsp (s : State) (m : OutMsg) : (s.emit m).dsp = s.dsp := rfl

/-! ## `State.tookFree` changes only `fresh` -/

@[simp] theorem State.tookFree_pending (s : State)  : (s.tookFree).pending = s.pending := rfl
@[simp] theorem State.tookFree_regs (s : State)  : (s.tookFree).regs = s.regs := rfl
@[simp] theorem State.tookFree_out (s : State)  : (s.tookFree).out = s.out := rfl
@[simp] theorem State.tookFree_irq (s : State)  : (s.tookFree).irq = s.irq := rfl
@[simp] theorem State.tookFree_bus (s : State)  : (s.tookFree).bus = s.bus := rfl
@[simp] theorem State.tookFree_cfg (s : State)  : (s.tookFree).cfg = s.cfg := rfl
@[simp] theorem State.tookFree_ovr (s : State)  : (s.tookFree).ovr = s.ovr := rfl
@[simp] theorem State.tookFree_tim (s : State)  : (s.tookFree).tim = s.tim := rfl
@[simp] theorem State.tookFree_ports (s : State)  : (s.tookFree).ports = s.ports := rfl
@[simp] theorem State.tookFree_credits (s : State)  : (s.tookFree).credits = s.credits := rfl
@[simp] theorem State.tookFree_zc (s : State)  : (s.tookFree).zc = s.zc := rfl
@[simp] theorem State.tookFree_gpioCmp (s : State)  : (s.tookFree).gpioCmp = s.gpioCmp := rfl
@[simp] theorem State.tookFree_sunGrid (s : State)  : (s.tookFree).sunGrid = s.sunGrid := rfl
@[simp] theorem State.tookFree_pib (s : State)  : (s.tookFree).pib = s.pib := rfl
@[simp] theorem State.tookFree_gate (s : State)  : (s.tookFree).gate = s.gate := rfl
@[simp] theorem State.tookFree_cru (s : State)  : (s.tookFree).cru = s.cru := rfl
@[simp] theorem State.tookFree_retired (s : State)  : (s.tookFree).retired = s.retired := rfl
@[simp] theorem State.tookFree_pln (s : State)  : (s.tookFree).pln = s.pln := rfl
@[simp] theorem State.tookFree_heldFirings (s : State)  : (s.tookFree).heldFirings = s.heldFirings := rfl
@[simp] theorem State.tookFree_bndPrf (s : State)  : (s.tookFree).bndPrf = s.bndPrf := rfl
@[simp] theorem State.tookFree_bndTch (s : State)  : (s.tookFree).bndTch = s.bndTch := rfl
@[simp] theorem State.tookFree_prf (s : State)  : (s.tookFree).prf = s.prf := rfl
@[simp] theorem State.tookFree_tar (s : State)  : (s.tookFree).tar = s.tar := rfl
@[simp] theorem State.tookFree_lgl (s : State)  : (s.tookFree).lgl = s.lgl := rfl
@[simp] theorem State.tookFree_hlm (s : State)  : (s.tookFree).hlm = s.hlm := rfl
@[simp] theorem State.tookFree_tch (s : State)  : (s.tookFree).tch = s.tch := rfl
@[simp] theorem State.tookFree_jrn (s : State)  : (s.tookFree).jrn = s.jrn := rfl
@[simp] theorem State.tookFree_nand (s : State)  : (s.tookFree).nand = s.nand := rfl
@[simp] theorem State.tookFree_chn (s : State)  : (s.tookFree).chn = s.chn := rfl
@[simp] theorem State.tookFree_pair (s : State)  : (s.tookFree).pair = s.pair := rfl
@[simp] theorem State.tookFree_sec (s : State)  : (s.tookFree).sec = s.sec := rfl
@[simp] theorem State.tookFree_upd (s : State)  : (s.tookFree).upd = s.upd := rfl
@[simp] theorem State.tookFree_pins (s : State)  : (s.tookFree).pins = s.pins := rfl
@[simp] theorem State.tookFree_pwr (s : State)  : (s.tookFree).pwr = s.pwr := rfl
@[simp] theorem State.tookFree_rst (s : State)  : (s.tookFree).rst = s.rst := rfl
@[simp] theorem State.tookFree_mem (s : State)  : (s.tookFree).mem = s.mem := rfl
@[simp] theorem State.tookFree_fuses (s : State)  : (s.tookFree).fuses = s.fuses := rfl
@[simp] theorem State.tookFree_pst (s : State)  : (s.tookFree).pst = s.pst := rfl
@[simp] theorem State.tookFree_ldg (s : State)  : (s.tookFree).ldg = s.ldg := rfl
@[simp] theorem State.tookFree_dsp (s : State)  : (s.tookFree).dsp = s.dsp := rfl

/-! ## `State.setShadow` changes only `bus` -/

@[simp] theorem State.setShadow_pending (s : State) (m : Master) (p off : Nat) (w : Word) : (s.setShadow m p off w).pending = s.pending := rfl
@[simp] theorem State.setShadow_regs (s : State) (m : Master) (p off : Nat) (w : Word) : (s.setShadow m p off w).regs = s.regs := rfl
@[simp] theorem State.setShadow_fresh (s : State) (m : Master) (p off : Nat) (w : Word) : (s.setShadow m p off w).fresh = s.fresh := rfl
@[simp] theorem State.setShadow_out (s : State) (m : Master) (p off : Nat) (w : Word) : (s.setShadow m p off w).out = s.out := rfl
@[simp] theorem State.setShadow_irq (s : State) (m : Master) (p off : Nat) (w : Word) : (s.setShadow m p off w).irq = s.irq := rfl
@[simp] theorem State.setShadow_cfg (s : State) (m : Master) (p off : Nat) (w : Word) : (s.setShadow m p off w).cfg = s.cfg := rfl
@[simp] theorem State.setShadow_ovr (s : State) (m : Master) (p off : Nat) (w : Word) : (s.setShadow m p off w).ovr = s.ovr := rfl
@[simp] theorem State.setShadow_tim (s : State) (m : Master) (p off : Nat) (w : Word) : (s.setShadow m p off w).tim = s.tim := rfl
@[simp] theorem State.setShadow_ports (s : State) (m : Master) (p off : Nat) (w : Word) : (s.setShadow m p off w).ports = s.ports := rfl
@[simp] theorem State.setShadow_credits (s : State) (m : Master) (p off : Nat) (w : Word) : (s.setShadow m p off w).credits = s.credits := rfl
@[simp] theorem State.setShadow_zc (s : State) (m : Master) (p off : Nat) (w : Word) : (s.setShadow m p off w).zc = s.zc := rfl
@[simp] theorem State.setShadow_gpioCmp (s : State) (m : Master) (p off : Nat) (w : Word) : (s.setShadow m p off w).gpioCmp = s.gpioCmp := rfl
@[simp] theorem State.setShadow_sunGrid (s : State) (m : Master) (p off : Nat) (w : Word) : (s.setShadow m p off w).sunGrid = s.sunGrid := rfl
@[simp] theorem State.setShadow_pib (s : State) (m : Master) (p off : Nat) (w : Word) : (s.setShadow m p off w).pib = s.pib := rfl
@[simp] theorem State.setShadow_gate (s : State) (m : Master) (p off : Nat) (w : Word) : (s.setShadow m p off w).gate = s.gate := rfl
@[simp] theorem State.setShadow_cru (s : State) (m : Master) (p off : Nat) (w : Word) : (s.setShadow m p off w).cru = s.cru := rfl
@[simp] theorem State.setShadow_retired (s : State) (m : Master) (p off : Nat) (w : Word) : (s.setShadow m p off w).retired = s.retired := rfl
@[simp] theorem State.setShadow_pln (s : State) (m : Master) (p off : Nat) (w : Word) : (s.setShadow m p off w).pln = s.pln := rfl
@[simp] theorem State.setShadow_heldFirings (s : State) (m : Master) (p off : Nat) (w : Word) : (s.setShadow m p off w).heldFirings = s.heldFirings := rfl
@[simp] theorem State.setShadow_bndPrf (s : State) (m : Master) (p off : Nat) (w : Word) : (s.setShadow m p off w).bndPrf = s.bndPrf := rfl
@[simp] theorem State.setShadow_bndTch (s : State) (m : Master) (p off : Nat) (w : Word) : (s.setShadow m p off w).bndTch = s.bndTch := rfl
@[simp] theorem State.setShadow_prf (s : State) (m : Master) (p off : Nat) (w : Word) : (s.setShadow m p off w).prf = s.prf := rfl
@[simp] theorem State.setShadow_tar (s : State) (m : Master) (p off : Nat) (w : Word) : (s.setShadow m p off w).tar = s.tar := rfl
@[simp] theorem State.setShadow_lgl (s : State) (m : Master) (p off : Nat) (w : Word) : (s.setShadow m p off w).lgl = s.lgl := rfl
@[simp] theorem State.setShadow_hlm (s : State) (m : Master) (p off : Nat) (w : Word) : (s.setShadow m p off w).hlm = s.hlm := rfl
@[simp] theorem State.setShadow_tch (s : State) (m : Master) (p off : Nat) (w : Word) : (s.setShadow m p off w).tch = s.tch := rfl
@[simp] theorem State.setShadow_jrn (s : State) (m : Master) (p off : Nat) (w : Word) : (s.setShadow m p off w).jrn = s.jrn := rfl
@[simp] theorem State.setShadow_nand (s : State) (m : Master) (p off : Nat) (w : Word) : (s.setShadow m p off w).nand = s.nand := rfl
@[simp] theorem State.setShadow_chn (s : State) (m : Master) (p off : Nat) (w : Word) : (s.setShadow m p off w).chn = s.chn := rfl
@[simp] theorem State.setShadow_pair (s : State) (m : Master) (p off : Nat) (w : Word) : (s.setShadow m p off w).pair = s.pair := rfl
@[simp] theorem State.setShadow_sec (s : State) (m : Master) (p off : Nat) (w : Word) : (s.setShadow m p off w).sec = s.sec := rfl
@[simp] theorem State.setShadow_upd (s : State) (m : Master) (p off : Nat) (w : Word) : (s.setShadow m p off w).upd = s.upd := rfl
@[simp] theorem State.setShadow_pins (s : State) (m : Master) (p off : Nat) (w : Word) : (s.setShadow m p off w).pins = s.pins := rfl
@[simp] theorem State.setShadow_pwr (s : State) (m : Master) (p off : Nat) (w : Word) : (s.setShadow m p off w).pwr = s.pwr := rfl
@[simp] theorem State.setShadow_rst (s : State) (m : Master) (p off : Nat) (w : Word) : (s.setShadow m p off w).rst = s.rst := rfl
@[simp] theorem State.setShadow_mem (s : State) (m : Master) (p off : Nat) (w : Word) : (s.setShadow m p off w).mem = s.mem := rfl
@[simp] theorem State.setShadow_fuses (s : State) (m : Master) (p off : Nat) (w : Word) : (s.setShadow m p off w).fuses = s.fuses := rfl
@[simp] theorem State.setShadow_pst (s : State) (m : Master) (p off : Nat) (w : Word) : (s.setShadow m p off w).pst = s.pst := rfl
@[simp] theorem State.setShadow_ldg (s : State) (m : Master) (p off : Nat) (w : Word) : (s.setShadow m p off w).ldg = s.ldg := rfl
@[simp] theorem State.setShadow_dsp (s : State) (m : Master) (p off : Nat) (w : Word) : (s.setShadow m p off w).dsp = s.dsp := rfl

/-! ## `State.answer` changes only `bus` -/

@[simp] theorem State.answer_pending (s : State) (w : Word) : (s.answer w).pending = s.pending := rfl
@[simp] theorem State.answer_regs (s : State) (w : Word) : (s.answer w).regs = s.regs := rfl
@[simp] theorem State.answer_fresh (s : State) (w : Word) : (s.answer w).fresh = s.fresh := rfl
@[simp] theorem State.answer_out (s : State) (w : Word) : (s.answer w).out = s.out := rfl
@[simp] theorem State.answer_irq (s : State) (w : Word) : (s.answer w).irq = s.irq := rfl
@[simp] theorem State.answer_cfg (s : State) (w : Word) : (s.answer w).cfg = s.cfg := rfl
@[simp] theorem State.answer_ovr (s : State) (w : Word) : (s.answer w).ovr = s.ovr := rfl
@[simp] theorem State.answer_tim (s : State) (w : Word) : (s.answer w).tim = s.tim := rfl
@[simp] theorem State.answer_ports (s : State) (w : Word) : (s.answer w).ports = s.ports := rfl
@[simp] theorem State.answer_credits (s : State) (w : Word) : (s.answer w).credits = s.credits := rfl
@[simp] theorem State.answer_zc (s : State) (w : Word) : (s.answer w).zc = s.zc := rfl
@[simp] theorem State.answer_gpioCmp (s : State) (w : Word) : (s.answer w).gpioCmp = s.gpioCmp := rfl
@[simp] theorem State.answer_sunGrid (s : State) (w : Word) : (s.answer w).sunGrid = s.sunGrid := rfl
@[simp] theorem State.answer_pib (s : State) (w : Word) : (s.answer w).pib = s.pib := rfl
@[simp] theorem State.answer_gate (s : State) (w : Word) : (s.answer w).gate = s.gate := rfl
@[simp] theorem State.answer_cru (s : State) (w : Word) : (s.answer w).cru = s.cru := rfl
@[simp] theorem State.answer_retired (s : State) (w : Word) : (s.answer w).retired = s.retired := rfl
@[simp] theorem State.answer_pln (s : State) (w : Word) : (s.answer w).pln = s.pln := rfl
@[simp] theorem State.answer_heldFirings (s : State) (w : Word) : (s.answer w).heldFirings = s.heldFirings := rfl
@[simp] theorem State.answer_bndPrf (s : State) (w : Word) : (s.answer w).bndPrf = s.bndPrf := rfl
@[simp] theorem State.answer_bndTch (s : State) (w : Word) : (s.answer w).bndTch = s.bndTch := rfl
@[simp] theorem State.answer_prf (s : State) (w : Word) : (s.answer w).prf = s.prf := rfl
@[simp] theorem State.answer_tar (s : State) (w : Word) : (s.answer w).tar = s.tar := rfl
@[simp] theorem State.answer_lgl (s : State) (w : Word) : (s.answer w).lgl = s.lgl := rfl
@[simp] theorem State.answer_hlm (s : State) (w : Word) : (s.answer w).hlm = s.hlm := rfl
@[simp] theorem State.answer_tch (s : State) (w : Word) : (s.answer w).tch = s.tch := rfl
@[simp] theorem State.answer_jrn (s : State) (w : Word) : (s.answer w).jrn = s.jrn := rfl
@[simp] theorem State.answer_nand (s : State) (w : Word) : (s.answer w).nand = s.nand := rfl
@[simp] theorem State.answer_chn (s : State) (w : Word) : (s.answer w).chn = s.chn := rfl
@[simp] theorem State.answer_pair (s : State) (w : Word) : (s.answer w).pair = s.pair := rfl
@[simp] theorem State.answer_sec (s : State) (w : Word) : (s.answer w).sec = s.sec := rfl
@[simp] theorem State.answer_upd (s : State) (w : Word) : (s.answer w).upd = s.upd := rfl
@[simp] theorem State.answer_pins (s : State) (w : Word) : (s.answer w).pins = s.pins := rfl
@[simp] theorem State.answer_pwr (s : State) (w : Word) : (s.answer w).pwr = s.pwr := rfl
@[simp] theorem State.answer_rst (s : State) (w : Word) : (s.answer w).rst = s.rst := rfl
@[simp] theorem State.answer_mem (s : State) (w : Word) : (s.answer w).mem = s.mem := rfl
@[simp] theorem State.answer_fuses (s : State) (w : Word) : (s.answer w).fuses = s.fuses := rfl
@[simp] theorem State.answer_pst (s : State) (w : Word) : (s.answer w).pst = s.pst := rfl
@[simp] theorem State.answer_ldg (s : State) (w : Word) : (s.answer w).ldg = s.ldg := rfl
@[simp] theorem State.answer_dsp (s : State) (w : Word) : (s.answer w).dsp = s.dsp := rfl

/-! ## Operations over those -/

@[simp] theorem State.addSat_pending (s : State) (f : Fld) (n : Nat) : (s.addSat f n).pending = s.pending := rfl
@[simp] theorem State.addSat_fresh (s : State) (f : Fld) (n : Nat) : (s.addSat f n).fresh = s.fresh := rfl
@[simp] theorem State.addSat_out (s : State) (f : Fld) (n : Nat) : (s.addSat f n).out = s.out := rfl
@[simp] theorem State.addSat_irq (s : State) (f : Fld) (n : Nat) : (s.addSat f n).irq = s.irq := rfl
@[simp] theorem State.addSat_bus (s : State) (f : Fld) (n : Nat) : (s.addSat f n).bus = s.bus := rfl
@[simp] theorem State.addSat_cfg (s : State) (f : Fld) (n : Nat) : (s.addSat f n).cfg = s.cfg := rfl
@[simp] theorem State.addSat_ovr (s : State) (f : Fld) (n : Nat) : (s.addSat f n).ovr = s.ovr := rfl
@[simp] theorem State.addSat_tim (s : State) (f : Fld) (n : Nat) : (s.addSat f n).tim = s.tim := rfl
@[simp] theorem State.addSat_ports (s : State) (f : Fld) (n : Nat) : (s.addSat f n).ports = s.ports := rfl
@[simp] theorem State.addSat_credits (s : State) (f : Fld) (n : Nat) : (s.addSat f n).credits = s.credits := rfl
@[simp] theorem State.addSat_zc (s : State) (f : Fld) (n : Nat) : (s.addSat f n).zc = s.zc := rfl
@[simp] theorem State.addSat_gpioCmp (s : State) (f : Fld) (n : Nat) : (s.addSat f n).gpioCmp = s.gpioCmp := rfl
@[simp] theorem State.addSat_sunGrid (s : State) (f : Fld) (n : Nat) : (s.addSat f n).sunGrid = s.sunGrid := rfl
@[simp] theorem State.addSat_pib (s : State) (f : Fld) (n : Nat) : (s.addSat f n).pib = s.pib := rfl
@[simp] theorem State.addSat_gate (s : State) (f : Fld) (n : Nat) : (s.addSat f n).gate = s.gate := rfl
@[simp] theorem State.addSat_cru (s : State) (f : Fld) (n : Nat) : (s.addSat f n).cru = s.cru := rfl
@[simp] theorem State.addSat_retired (s : State) (f : Fld) (n : Nat) : (s.addSat f n).retired = s.retired := rfl
@[simp] theorem State.addSat_pln (s : State) (f : Fld) (n : Nat) : (s.addSat f n).pln = s.pln := rfl
@[simp] theorem State.addSat_heldFirings (s : State) (f : Fld) (n : Nat) : (s.addSat f n).heldFirings = s.heldFirings := rfl
@[simp] theorem State.addSat_bndPrf (s : State) (f : Fld) (n : Nat) : (s.addSat f n).bndPrf = s.bndPrf := rfl
@[simp] theorem State.addSat_bndTch (s : State) (f : Fld) (n : Nat) : (s.addSat f n).bndTch = s.bndTch := rfl
@[simp] theorem State.addSat_prf (s : State) (f : Fld) (n : Nat) : (s.addSat f n).prf = s.prf := rfl
@[simp] theorem State.addSat_tar (s : State) (f : Fld) (n : Nat) : (s.addSat f n).tar = s.tar := rfl
@[simp] theorem State.addSat_lgl (s : State) (f : Fld) (n : Nat) : (s.addSat f n).lgl = s.lgl := rfl
@[simp] theorem State.addSat_hlm (s : State) (f : Fld) (n : Nat) : (s.addSat f n).hlm = s.hlm := rfl
@[simp] theorem State.addSat_tch (s : State) (f : Fld) (n : Nat) : (s.addSat f n).tch = s.tch := rfl
@[simp] theorem State.addSat_jrn (s : State) (f : Fld) (n : Nat) : (s.addSat f n).jrn = s.jrn := rfl
@[simp] theorem State.addSat_nand (s : State) (f : Fld) (n : Nat) : (s.addSat f n).nand = s.nand := rfl
@[simp] theorem State.addSat_chn (s : State) (f : Fld) (n : Nat) : (s.addSat f n).chn = s.chn := rfl
@[simp] theorem State.addSat_pair (s : State) (f : Fld) (n : Nat) : (s.addSat f n).pair = s.pair := rfl
@[simp] theorem State.addSat_sec (s : State) (f : Fld) (n : Nat) : (s.addSat f n).sec = s.sec := rfl
@[simp] theorem State.addSat_upd (s : State) (f : Fld) (n : Nat) : (s.addSat f n).upd = s.upd := rfl
@[simp] theorem State.addSat_pins (s : State) (f : Fld) (n : Nat) : (s.addSat f n).pins = s.pins := rfl
@[simp] theorem State.addSat_pwr (s : State) (f : Fld) (n : Nat) : (s.addSat f n).pwr = s.pwr := rfl
@[simp] theorem State.addSat_rst (s : State) (f : Fld) (n : Nat) : (s.addSat f n).rst = s.rst := rfl
@[simp] theorem State.addSat_mem (s : State) (f : Fld) (n : Nat) : (s.addSat f n).mem = s.mem := rfl
@[simp] theorem State.addSat_fuses (s : State) (f : Fld) (n : Nat) : (s.addSat f n).fuses = s.fuses := rfl
@[simp] theorem State.addSat_pst (s : State) (f : Fld) (n : Nat) : (s.addSat f n).pst = s.pst := rfl
@[simp] theorem State.addSat_ldg (s : State) (f : Fld) (n : Nat) : (s.addSat f n).ldg = s.ldg := rfl
@[simp] theorem State.addSat_dsp (s : State) (f : Fld) (n : Nat) : (s.addSat f n).dsp = s.dsp := rfl
@[simp] theorem State.sat_pending (s : State) (f : Fld) : (s.sat f).pending = s.pending := rfl
@[simp] theorem State.sat_fresh (s : State) (f : Fld) : (s.sat f).fresh = s.fresh := rfl
@[simp] theorem State.sat_out (s : State) (f : Fld) : (s.sat f).out = s.out := rfl
@[simp] theorem State.sat_irq (s : State) (f : Fld) : (s.sat f).irq = s.irq := rfl
@[simp] theorem State.sat_bus (s : State) (f : Fld) : (s.sat f).bus = s.bus := rfl
@[simp] theorem State.sat_cfg (s : State) (f : Fld) : (s.sat f).cfg = s.cfg := rfl
@[simp] theorem State.sat_ovr (s : State) (f : Fld) : (s.sat f).ovr = s.ovr := rfl
@[simp] theorem State.sat_tim (s : State) (f : Fld) : (s.sat f).tim = s.tim := rfl
@[simp] theorem State.sat_ports (s : State) (f : Fld) : (s.sat f).ports = s.ports := rfl
@[simp] theorem State.sat_credits (s : State) (f : Fld) : (s.sat f).credits = s.credits := rfl
@[simp] theorem State.sat_zc (s : State) (f : Fld) : (s.sat f).zc = s.zc := rfl
@[simp] theorem State.sat_gpioCmp (s : State) (f : Fld) : (s.sat f).gpioCmp = s.gpioCmp := rfl
@[simp] theorem State.sat_sunGrid (s : State) (f : Fld) : (s.sat f).sunGrid = s.sunGrid := rfl
@[simp] theorem State.sat_pib (s : State) (f : Fld) : (s.sat f).pib = s.pib := rfl
@[simp] theorem State.sat_gate (s : State) (f : Fld) : (s.sat f).gate = s.gate := rfl
@[simp] theorem State.sat_cru (s : State) (f : Fld) : (s.sat f).cru = s.cru := rfl
@[simp] theorem State.sat_retired (s : State) (f : Fld) : (s.sat f).retired = s.retired := rfl
@[simp] theorem State.sat_pln (s : State) (f : Fld) : (s.sat f).pln = s.pln := rfl
@[simp] theorem State.sat_heldFirings (s : State) (f : Fld) : (s.sat f).heldFirings = s.heldFirings := rfl
@[simp] theorem State.sat_bndPrf (s : State) (f : Fld) : (s.sat f).bndPrf = s.bndPrf := rfl
@[simp] theorem State.sat_bndTch (s : State) (f : Fld) : (s.sat f).bndTch = s.bndTch := rfl
@[simp] theorem State.sat_prf (s : State) (f : Fld) : (s.sat f).prf = s.prf := rfl
@[simp] theorem State.sat_tar (s : State) (f : Fld) : (s.sat f).tar = s.tar := rfl
@[simp] theorem State.sat_lgl (s : State) (f : Fld) : (s.sat f).lgl = s.lgl := rfl
@[simp] theorem State.sat_hlm (s : State) (f : Fld) : (s.sat f).hlm = s.hlm := rfl
@[simp] theorem State.sat_tch (s : State) (f : Fld) : (s.sat f).tch = s.tch := rfl
@[simp] theorem State.sat_jrn (s : State) (f : Fld) : (s.sat f).jrn = s.jrn := rfl
@[simp] theorem State.sat_nand (s : State) (f : Fld) : (s.sat f).nand = s.nand := rfl
@[simp] theorem State.sat_chn (s : State) (f : Fld) : (s.sat f).chn = s.chn := rfl
@[simp] theorem State.sat_pair (s : State) (f : Fld) : (s.sat f).pair = s.pair := rfl
@[simp] theorem State.sat_sec (s : State) (f : Fld) : (s.sat f).sec = s.sec := rfl
@[simp] theorem State.sat_upd (s : State) (f : Fld) : (s.sat f).upd = s.upd := rfl
@[simp] theorem State.sat_pins (s : State) (f : Fld) : (s.sat f).pins = s.pins := rfl
@[simp] theorem State.sat_pwr (s : State) (f : Fld) : (s.sat f).pwr = s.pwr := rfl
@[simp] theorem State.sat_rst (s : State) (f : Fld) : (s.sat f).rst = s.rst := rfl
@[simp] theorem State.sat_mem (s : State) (f : Fld) : (s.sat f).mem = s.mem := rfl
@[simp] theorem State.sat_fuses (s : State) (f : Fld) : (s.sat f).fuses = s.fuses := rfl
@[simp] theorem State.sat_pst (s : State) (f : Fld) : (s.sat f).pst = s.pst := rfl
@[simp] theorem State.sat_ldg (s : State) (f : Fld) : (s.sat f).ldg = s.ldg := rfl
@[simp] theorem State.sat_dsp (s : State) (f : Fld) : (s.sat f).dsp = s.dsp := rfl
@[simp] theorem State.wrap_pending (s : State) (f : Fld) : (s.wrap f).pending = s.pending := rfl
@[simp] theorem State.wrap_fresh (s : State) (f : Fld) : (s.wrap f).fresh = s.fresh := rfl
@[simp] theorem State.wrap_out (s : State) (f : Fld) : (s.wrap f).out = s.out := rfl
@[simp] theorem State.wrap_irq (s : State) (f : Fld) : (s.wrap f).irq = s.irq := rfl
@[simp] theorem State.wrap_bus (s : State) (f : Fld) : (s.wrap f).bus = s.bus := rfl
@[simp] theorem State.wrap_cfg (s : State) (f : Fld) : (s.wrap f).cfg = s.cfg := rfl
@[simp] theorem State.wrap_ovr (s : State) (f : Fld) : (s.wrap f).ovr = s.ovr := rfl
@[simp] theorem State.wrap_tim (s : State) (f : Fld) : (s.wrap f).tim = s.tim := rfl
@[simp] theorem State.wrap_ports (s : State) (f : Fld) : (s.wrap f).ports = s.ports := rfl
@[simp] theorem State.wrap_credits (s : State) (f : Fld) : (s.wrap f).credits = s.credits := rfl
@[simp] theorem State.wrap_zc (s : State) (f : Fld) : (s.wrap f).zc = s.zc := rfl
@[simp] theorem State.wrap_gpioCmp (s : State) (f : Fld) : (s.wrap f).gpioCmp = s.gpioCmp := rfl
@[simp] theorem State.wrap_sunGrid (s : State) (f : Fld) : (s.wrap f).sunGrid = s.sunGrid := rfl
@[simp] theorem State.wrap_pib (s : State) (f : Fld) : (s.wrap f).pib = s.pib := rfl
@[simp] theorem State.wrap_gate (s : State) (f : Fld) : (s.wrap f).gate = s.gate := rfl
@[simp] theorem State.wrap_cru (s : State) (f : Fld) : (s.wrap f).cru = s.cru := rfl
@[simp] theorem State.wrap_retired (s : State) (f : Fld) : (s.wrap f).retired = s.retired := rfl
@[simp] theorem State.wrap_pln (s : State) (f : Fld) : (s.wrap f).pln = s.pln := rfl
@[simp] theorem State.wrap_heldFirings (s : State) (f : Fld) : (s.wrap f).heldFirings = s.heldFirings := rfl
@[simp] theorem State.wrap_bndPrf (s : State) (f : Fld) : (s.wrap f).bndPrf = s.bndPrf := rfl
@[simp] theorem State.wrap_bndTch (s : State) (f : Fld) : (s.wrap f).bndTch = s.bndTch := rfl
@[simp] theorem State.wrap_prf (s : State) (f : Fld) : (s.wrap f).prf = s.prf := rfl
@[simp] theorem State.wrap_tar (s : State) (f : Fld) : (s.wrap f).tar = s.tar := rfl
@[simp] theorem State.wrap_lgl (s : State) (f : Fld) : (s.wrap f).lgl = s.lgl := rfl
@[simp] theorem State.wrap_hlm (s : State) (f : Fld) : (s.wrap f).hlm = s.hlm := rfl
@[simp] theorem State.wrap_tch (s : State) (f : Fld) : (s.wrap f).tch = s.tch := rfl
@[simp] theorem State.wrap_jrn (s : State) (f : Fld) : (s.wrap f).jrn = s.jrn := rfl
@[simp] theorem State.wrap_nand (s : State) (f : Fld) : (s.wrap f).nand = s.nand := rfl
@[simp] theorem State.wrap_chn (s : State) (f : Fld) : (s.wrap f).chn = s.chn := rfl
@[simp] theorem State.wrap_pair (s : State) (f : Fld) : (s.wrap f).pair = s.pair := rfl
@[simp] theorem State.wrap_sec (s : State) (f : Fld) : (s.wrap f).sec = s.sec := rfl
@[simp] theorem State.wrap_upd (s : State) (f : Fld) : (s.wrap f).upd = s.upd := rfl
@[simp] theorem State.wrap_pins (s : State) (f : Fld) : (s.wrap f).pins = s.pins := rfl
@[simp] theorem State.wrap_pwr (s : State) (f : Fld) : (s.wrap f).pwr = s.pwr := rfl
@[simp] theorem State.wrap_rst (s : State) (f : Fld) : (s.wrap f).rst = s.rst := rfl
@[simp] theorem State.wrap_mem (s : State) (f : Fld) : (s.wrap f).mem = s.mem := rfl
@[simp] theorem State.wrap_fuses (s : State) (f : Fld) : (s.wrap f).fuses = s.fuses := rfl
@[simp] theorem State.wrap_pst (s : State) (f : Fld) : (s.wrap f).pst = s.pst := rfl
@[simp] theorem State.wrap_ldg (s : State) (f : Fld) : (s.wrap f).ldg = s.ldg := rfl
@[simp] theorem State.wrap_dsp (s : State) (f : Fld) : (s.wrap f).dsp = s.dsp := rfl
@[simp] theorem State.alert_pending (s : State) (b : Nat) : (s.alert b).pending = s.pending := rfl
@[simp] theorem State.alert_fresh (s : State) (b : Nat) : (s.alert b).fresh = s.fresh := rfl
@[simp] theorem State.alert_out (s : State) (b : Nat) : (s.alert b).out = s.out := rfl
@[simp] theorem State.alert_irq (s : State) (b : Nat) : (s.alert b).irq = s.irq := rfl
@[simp] theorem State.alert_bus (s : State) (b : Nat) : (s.alert b).bus = s.bus := rfl
@[simp] theorem State.alert_cfg (s : State) (b : Nat) : (s.alert b).cfg = s.cfg := rfl
@[simp] theorem State.alert_ovr (s : State) (b : Nat) : (s.alert b).ovr = s.ovr := rfl
@[simp] theorem State.alert_tim (s : State) (b : Nat) : (s.alert b).tim = s.tim := rfl
@[simp] theorem State.alert_ports (s : State) (b : Nat) : (s.alert b).ports = s.ports := rfl
@[simp] theorem State.alert_credits (s : State) (b : Nat) : (s.alert b).credits = s.credits := rfl
@[simp] theorem State.alert_zc (s : State) (b : Nat) : (s.alert b).zc = s.zc := rfl
@[simp] theorem State.alert_gpioCmp (s : State) (b : Nat) : (s.alert b).gpioCmp = s.gpioCmp := rfl
@[simp] theorem State.alert_sunGrid (s : State) (b : Nat) : (s.alert b).sunGrid = s.sunGrid := rfl
@[simp] theorem State.alert_pib (s : State) (b : Nat) : (s.alert b).pib = s.pib := rfl
@[simp] theorem State.alert_gate (s : State) (b : Nat) : (s.alert b).gate = s.gate := rfl
@[simp] theorem State.alert_cru (s : State) (b : Nat) : (s.alert b).cru = s.cru := rfl
@[simp] theorem State.alert_retired (s : State) (b : Nat) : (s.alert b).retired = s.retired := rfl
@[simp] theorem State.alert_pln (s : State) (b : Nat) : (s.alert b).pln = s.pln := rfl
@[simp] theorem State.alert_heldFirings (s : State) (b : Nat) : (s.alert b).heldFirings = s.heldFirings := rfl
@[simp] theorem State.alert_bndPrf (s : State) (b : Nat) : (s.alert b).bndPrf = s.bndPrf := rfl
@[simp] theorem State.alert_bndTch (s : State) (b : Nat) : (s.alert b).bndTch = s.bndTch := rfl
@[simp] theorem State.alert_prf (s : State) (b : Nat) : (s.alert b).prf = s.prf := rfl
@[simp] theorem State.alert_tar (s : State) (b : Nat) : (s.alert b).tar = s.tar := rfl
@[simp] theorem State.alert_lgl (s : State) (b : Nat) : (s.alert b).lgl = s.lgl := rfl
@[simp] theorem State.alert_hlm (s : State) (b : Nat) : (s.alert b).hlm = s.hlm := rfl
@[simp] theorem State.alert_tch (s : State) (b : Nat) : (s.alert b).tch = s.tch := rfl
@[simp] theorem State.alert_jrn (s : State) (b : Nat) : (s.alert b).jrn = s.jrn := rfl
@[simp] theorem State.alert_nand (s : State) (b : Nat) : (s.alert b).nand = s.nand := rfl
@[simp] theorem State.alert_chn (s : State) (b : Nat) : (s.alert b).chn = s.chn := rfl
@[simp] theorem State.alert_pair (s : State) (b : Nat) : (s.alert b).pair = s.pair := rfl
@[simp] theorem State.alert_sec (s : State) (b : Nat) : (s.alert b).sec = s.sec := rfl
@[simp] theorem State.alert_upd (s : State) (b : Nat) : (s.alert b).upd = s.upd := rfl
@[simp] theorem State.alert_pins (s : State) (b : Nat) : (s.alert b).pins = s.pins := rfl
@[simp] theorem State.alert_pwr (s : State) (b : Nat) : (s.alert b).pwr = s.pwr := rfl
@[simp] theorem State.alert_rst (s : State) (b : Nat) : (s.alert b).rst = s.rst := rfl
@[simp] theorem State.alert_mem (s : State) (b : Nat) : (s.alert b).mem = s.mem := rfl
@[simp] theorem State.alert_fuses (s : State) (b : Nat) : (s.alert b).fuses = s.fuses := rfl
@[simp] theorem State.alert_pst (s : State) (b : Nat) : (s.alert b).pst = s.pst := rfl
@[simp] theorem State.alert_ldg (s : State) (b : Nat) : (s.alert b).ldg = s.ldg := rfl
@[simp] theorem State.alert_dsp (s : State) (b : Nat) : (s.alert b).dsp = s.dsp := rfl

@[simp] theorem State.sendVector_pending (s : State) (v : Nat) : (s.sendVector v).pending = s.pending := by
  simp only [State.sendVector]; split
  · rfl
  · split <;> rfl
@[simp] theorem State.sendVector_regs (s : State) (v : Nat) : (s.sendVector v).regs = s.regs := by
  simp only [State.sendVector]; split
  · rfl
  · split <;> rfl
@[simp] theorem State.sendVector_fresh (s : State) (v : Nat) : (s.sendVector v).fresh = s.fresh := by
  simp only [State.sendVector]; split
  · rfl
  · split <;> rfl
@[simp] theorem State.sendVector_bus (s : State) (v : Nat) : (s.sendVector v).bus = s.bus := by
  simp only [State.sendVector]; split
  · rfl
  · split <;> rfl
@[simp] theorem State.sendVector_cfg (s : State) (v : Nat) : (s.sendVector v).cfg = s.cfg := by
  simp only [State.sendVector]; split
  · rfl
  · split <;> rfl
@[simp] theorem State.sendVector_ovr (s : State) (v : Nat) : (s.sendVector v).ovr = s.ovr := by
  simp only [State.sendVector]; split
  · rfl
  · split <;> rfl
@[simp] theorem State.sendVector_tim (s : State) (v : Nat) : (s.sendVector v).tim = s.tim := by
  simp only [State.sendVector]; split
  · rfl
  · split <;> rfl
@[simp] theorem State.sendVector_ports (s : State) (v : Nat) : (s.sendVector v).ports = s.ports := by
  simp only [State.sendVector]; split
  · rfl
  · split <;> rfl
@[simp] theorem State.sendVector_credits (s : State) (v : Nat) : (s.sendVector v).credits = s.credits := by
  simp only [State.sendVector]; split
  · rfl
  · split <;> rfl
@[simp] theorem State.sendVector_zc (s : State) (v : Nat) : (s.sendVector v).zc = s.zc := by
  simp only [State.sendVector]; split
  · rfl
  · split <;> rfl
@[simp] theorem State.sendVector_gpioCmp (s : State) (v : Nat) : (s.sendVector v).gpioCmp = s.gpioCmp := by
  simp only [State.sendVector]; split
  · rfl
  · split <;> rfl
@[simp] theorem State.sendVector_sunGrid (s : State) (v : Nat) : (s.sendVector v).sunGrid = s.sunGrid := by
  simp only [State.sendVector]; split
  · rfl
  · split <;> rfl
@[simp] theorem State.sendVector_pib (s : State) (v : Nat) : (s.sendVector v).pib = s.pib := by
  simp only [State.sendVector]; split
  · rfl
  · split <;> rfl
@[simp] theorem State.sendVector_gate (s : State) (v : Nat) : (s.sendVector v).gate = s.gate := by
  simp only [State.sendVector]; split
  · rfl
  · split <;> rfl
@[simp] theorem State.sendVector_cru (s : State) (v : Nat) : (s.sendVector v).cru = s.cru := by
  simp only [State.sendVector]; split
  · rfl
  · split <;> rfl
@[simp] theorem State.sendVector_retired (s : State) (v : Nat) : (s.sendVector v).retired = s.retired := by
  simp only [State.sendVector]; split
  · rfl
  · split <;> rfl
@[simp] theorem State.sendVector_pln (s : State) (v : Nat) : (s.sendVector v).pln = s.pln := by
  simp only [State.sendVector]; split
  · rfl
  · split <;> rfl
@[simp] theorem State.sendVector_heldFirings (s : State) (v : Nat) : (s.sendVector v).heldFirings = s.heldFirings := by
  simp only [State.sendVector]; split
  · rfl
  · split <;> rfl
@[simp] theorem State.sendVector_bndPrf (s : State) (v : Nat) : (s.sendVector v).bndPrf = s.bndPrf := by
  simp only [State.sendVector]; split
  · rfl
  · split <;> rfl
@[simp] theorem State.sendVector_bndTch (s : State) (v : Nat) : (s.sendVector v).bndTch = s.bndTch := by
  simp only [State.sendVector]; split
  · rfl
  · split <;> rfl
@[simp] theorem State.sendVector_prf (s : State) (v : Nat) : (s.sendVector v).prf = s.prf := by
  simp only [State.sendVector]; split
  · rfl
  · split <;> rfl
@[simp] theorem State.sendVector_tar (s : State) (v : Nat) : (s.sendVector v).tar = s.tar := by
  simp only [State.sendVector]; split
  · rfl
  · split <;> rfl
@[simp] theorem State.sendVector_lgl (s : State) (v : Nat) : (s.sendVector v).lgl = s.lgl := by
  simp only [State.sendVector]; split
  · rfl
  · split <;> rfl
@[simp] theorem State.sendVector_hlm (s : State) (v : Nat) : (s.sendVector v).hlm = s.hlm := by
  simp only [State.sendVector]; split
  · rfl
  · split <;> rfl
@[simp] theorem State.sendVector_tch (s : State) (v : Nat) : (s.sendVector v).tch = s.tch := by
  simp only [State.sendVector]; split
  · rfl
  · split <;> rfl
@[simp] theorem State.sendVector_jrn (s : State) (v : Nat) : (s.sendVector v).jrn = s.jrn := by
  simp only [State.sendVector]; split
  · rfl
  · split <;> rfl
@[simp] theorem State.sendVector_nand (s : State) (v : Nat) : (s.sendVector v).nand = s.nand := by
  simp only [State.sendVector]; split
  · rfl
  · split <;> rfl
@[simp] theorem State.sendVector_chn (s : State) (v : Nat) : (s.sendVector v).chn = s.chn := by
  simp only [State.sendVector]; split
  · rfl
  · split <;> rfl
@[simp] theorem State.sendVector_pair (s : State) (v : Nat) : (s.sendVector v).pair = s.pair := by
  simp only [State.sendVector]; split
  · rfl
  · split <;> rfl
@[simp] theorem State.sendVector_sec (s : State) (v : Nat) : (s.sendVector v).sec = s.sec := by
  simp only [State.sendVector]; split
  · rfl
  · split <;> rfl
@[simp] theorem State.sendVector_upd (s : State) (v : Nat) : (s.sendVector v).upd = s.upd := by
  simp only [State.sendVector]; split
  · rfl
  · split <;> rfl
@[simp] theorem State.sendVector_pins (s : State) (v : Nat) : (s.sendVector v).pins = s.pins := by
  simp only [State.sendVector]; split
  · rfl
  · split <;> rfl
@[simp] theorem State.sendVector_pwr (s : State) (v : Nat) : (s.sendVector v).pwr = s.pwr := by
  simp only [State.sendVector]; split
  · rfl
  · split <;> rfl
@[simp] theorem State.sendVector_rst (s : State) (v : Nat) : (s.sendVector v).rst = s.rst := by
  simp only [State.sendVector]; split
  · rfl
  · split <;> rfl
@[simp] theorem State.sendVector_mem (s : State) (v : Nat) : (s.sendVector v).mem = s.mem := by
  simp only [State.sendVector]; split
  · rfl
  · split <;> rfl
@[simp] theorem State.sendVector_fuses (s : State) (v : Nat) : (s.sendVector v).fuses = s.fuses := by
  simp only [State.sendVector]; split
  · rfl
  · split <;> rfl
@[simp] theorem State.sendVector_pst (s : State) (v : Nat) : (s.sendVector v).pst = s.pst := by
  simp only [State.sendVector]; split
  · rfl
  · split <;> rfl
@[simp] theorem State.sendVector_ldg (s : State) (v : Nat) : (s.sendVector v).ldg = s.ldg := by
  simp only [State.sendVector]; split
  · rfl
  · split <;> rfl
@[simp] theorem State.sendVector_dsp (s : State) (v : Nat) : (s.sendVector v).dsp = s.dsp := by
  simp only [State.sendVector]; split
  · rfl
  · split <;> rfl
@[simp] theorem State.setCond_pending (s : State) (v : Nat) (c : Bool) : (s.setCond v c).pending = s.pending := by
  simp only [State.setCond]; split
  · split
    · rfl
    · simp
  · rfl
@[simp] theorem State.setCond_regs (s : State) (v : Nat) (c : Bool) : (s.setCond v c).regs = s.regs := by
  simp only [State.setCond]; split
  · split
    · rfl
    · simp
  · rfl
@[simp] theorem State.setCond_fresh (s : State) (v : Nat) (c : Bool) : (s.setCond v c).fresh = s.fresh := by
  simp only [State.setCond]; split
  · split
    · rfl
    · simp
  · rfl
@[simp] theorem State.setCond_bus (s : State) (v : Nat) (c : Bool) : (s.setCond v c).bus = s.bus := by
  simp only [State.setCond]; split
  · split
    · rfl
    · simp
  · rfl
@[simp] theorem State.setCond_cfg (s : State) (v : Nat) (c : Bool) : (s.setCond v c).cfg = s.cfg := by
  simp only [State.setCond]; split
  · split
    · rfl
    · simp
  · rfl
@[simp] theorem State.setCond_ovr (s : State) (v : Nat) (c : Bool) : (s.setCond v c).ovr = s.ovr := by
  simp only [State.setCond]; split
  · split
    · rfl
    · simp
  · rfl
@[simp] theorem State.setCond_tim (s : State) (v : Nat) (c : Bool) : (s.setCond v c).tim = s.tim := by
  simp only [State.setCond]; split
  · split
    · rfl
    · simp
  · rfl
@[simp] theorem State.setCond_ports (s : State) (v : Nat) (c : Bool) : (s.setCond v c).ports = s.ports := by
  simp only [State.setCond]; split
  · split
    · rfl
    · simp
  · rfl
@[simp] theorem State.setCond_credits (s : State) (v : Nat) (c : Bool) : (s.setCond v c).credits = s.credits := by
  simp only [State.setCond]; split
  · split
    · rfl
    · simp
  · rfl
@[simp] theorem State.setCond_zc (s : State) (v : Nat) (c : Bool) : (s.setCond v c).zc = s.zc := by
  simp only [State.setCond]; split
  · split
    · rfl
    · simp
  · rfl
@[simp] theorem State.setCond_gpioCmp (s : State) (v : Nat) (c : Bool) : (s.setCond v c).gpioCmp = s.gpioCmp := by
  simp only [State.setCond]; split
  · split
    · rfl
    · simp
  · rfl
@[simp] theorem State.setCond_sunGrid (s : State) (v : Nat) (c : Bool) : (s.setCond v c).sunGrid = s.sunGrid := by
  simp only [State.setCond]; split
  · split
    · rfl
    · simp
  · rfl
@[simp] theorem State.setCond_pib (s : State) (v : Nat) (c : Bool) : (s.setCond v c).pib = s.pib := by
  simp only [State.setCond]; split
  · split
    · rfl
    · simp
  · rfl
@[simp] theorem State.setCond_gate (s : State) (v : Nat) (c : Bool) : (s.setCond v c).gate = s.gate := by
  simp only [State.setCond]; split
  · split
    · rfl
    · simp
  · rfl
@[simp] theorem State.setCond_cru (s : State) (v : Nat) (c : Bool) : (s.setCond v c).cru = s.cru := by
  simp only [State.setCond]; split
  · split
    · rfl
    · simp
  · rfl
@[simp] theorem State.setCond_retired (s : State) (v : Nat) (c : Bool) : (s.setCond v c).retired = s.retired := by
  simp only [State.setCond]; split
  · split
    · rfl
    · simp
  · rfl
@[simp] theorem State.setCond_pln (s : State) (v : Nat) (c : Bool) : (s.setCond v c).pln = s.pln := by
  simp only [State.setCond]; split
  · split
    · rfl
    · simp
  · rfl
@[simp] theorem State.setCond_heldFirings (s : State) (v : Nat) (c : Bool) : (s.setCond v c).heldFirings = s.heldFirings := by
  simp only [State.setCond]; split
  · split
    · rfl
    · simp
  · rfl
@[simp] theorem State.setCond_bndPrf (s : State) (v : Nat) (c : Bool) : (s.setCond v c).bndPrf = s.bndPrf := by
  simp only [State.setCond]; split
  · split
    · rfl
    · simp
  · rfl
@[simp] theorem State.setCond_bndTch (s : State) (v : Nat) (c : Bool) : (s.setCond v c).bndTch = s.bndTch := by
  simp only [State.setCond]; split
  · split
    · rfl
    · simp
  · rfl
@[simp] theorem State.setCond_prf (s : State) (v : Nat) (c : Bool) : (s.setCond v c).prf = s.prf := by
  simp only [State.setCond]; split
  · split
    · rfl
    · simp
  · rfl
@[simp] theorem State.setCond_tar (s : State) (v : Nat) (c : Bool) : (s.setCond v c).tar = s.tar := by
  simp only [State.setCond]; split
  · split
    · rfl
    · simp
  · rfl
@[simp] theorem State.setCond_lgl (s : State) (v : Nat) (c : Bool) : (s.setCond v c).lgl = s.lgl := by
  simp only [State.setCond]; split
  · split
    · rfl
    · simp
  · rfl
@[simp] theorem State.setCond_hlm (s : State) (v : Nat) (c : Bool) : (s.setCond v c).hlm = s.hlm := by
  simp only [State.setCond]; split
  · split
    · rfl
    · simp
  · rfl
@[simp] theorem State.setCond_tch (s : State) (v : Nat) (c : Bool) : (s.setCond v c).tch = s.tch := by
  simp only [State.setCond]; split
  · split
    · rfl
    · simp
  · rfl
@[simp] theorem State.setCond_jrn (s : State) (v : Nat) (c : Bool) : (s.setCond v c).jrn = s.jrn := by
  simp only [State.setCond]; split
  · split
    · rfl
    · simp
  · rfl
@[simp] theorem State.setCond_nand (s : State) (v : Nat) (c : Bool) : (s.setCond v c).nand = s.nand := by
  simp only [State.setCond]; split
  · split
    · rfl
    · simp
  · rfl
@[simp] theorem State.setCond_chn (s : State) (v : Nat) (c : Bool) : (s.setCond v c).chn = s.chn := by
  simp only [State.setCond]; split
  · split
    · rfl
    · simp
  · rfl
@[simp] theorem State.setCond_pair (s : State) (v : Nat) (c : Bool) : (s.setCond v c).pair = s.pair := by
  simp only [State.setCond]; split
  · split
    · rfl
    · simp
  · rfl
@[simp] theorem State.setCond_sec (s : State) (v : Nat) (c : Bool) : (s.setCond v c).sec = s.sec := by
  simp only [State.setCond]; split
  · split
    · rfl
    · simp
  · rfl
@[simp] theorem State.setCond_upd (s : State) (v : Nat) (c : Bool) : (s.setCond v c).upd = s.upd := by
  simp only [State.setCond]; split
  · split
    · rfl
    · simp
  · rfl
@[simp] theorem State.setCond_pins (s : State) (v : Nat) (c : Bool) : (s.setCond v c).pins = s.pins := by
  simp only [State.setCond]; split
  · split
    · rfl
    · simp
  · rfl
@[simp] theorem State.setCond_pwr (s : State) (v : Nat) (c : Bool) : (s.setCond v c).pwr = s.pwr := by
  simp only [State.setCond]; split
  · split
    · rfl
    · simp
  · rfl
@[simp] theorem State.setCond_rst (s : State) (v : Nat) (c : Bool) : (s.setCond v c).rst = s.rst := by
  simp only [State.setCond]; split
  · split
    · rfl
    · simp
  · rfl
@[simp] theorem State.setCond_mem (s : State) (v : Nat) (c : Bool) : (s.setCond v c).mem = s.mem := by
  simp only [State.setCond]; split
  · split
    · rfl
    · simp
  · rfl
@[simp] theorem State.setCond_fuses (s : State) (v : Nat) (c : Bool) : (s.setCond v c).fuses = s.fuses := by
  simp only [State.setCond]; split
  · split
    · rfl
    · simp
  · rfl
@[simp] theorem State.setCond_pst (s : State) (v : Nat) (c : Bool) : (s.setCond v c).pst = s.pst := by
  simp only [State.setCond]; split
  · split
    · rfl
    · simp
  · rfl
@[simp] theorem State.setCond_ldg (s : State) (v : Nat) (c : Bool) : (s.setCond v c).ldg = s.ldg := by
  simp only [State.setCond]; split
  · split
    · rfl
    · simp
  · rfl
@[simp] theorem State.setCond_dsp (s : State) (v : Nat) (c : Bool) : (s.setCond v c).dsp = s.dsp := by
  simp only [State.setCond]; split
  · split
    · rfl
    · simp
  · rfl
@[simp] theorem State.updPage_pending (s : State) (p : Nat) : (s.updPage p).pending = s.pending := by
  simp only [State.updPage]; split <;> simp
@[simp] theorem State.updPage_regs (s : State) (p : Nat) : (s.updPage p).regs = s.regs := by
  simp only [State.updPage]; split <;> simp
@[simp] theorem State.updPage_fresh (s : State) (p : Nat) : (s.updPage p).fresh = s.fresh := by
  simp only [State.updPage]; split <;> simp
@[simp] theorem State.updPage_bus (s : State) (p : Nat) : (s.updPage p).bus = s.bus := by
  simp only [State.updPage]; split <;> simp
@[simp] theorem State.updPage_cfg (s : State) (p : Nat) : (s.updPage p).cfg = s.cfg := by
  simp only [State.updPage]; split <;> simp
@[simp] theorem State.updPage_ovr (s : State) (p : Nat) : (s.updPage p).ovr = s.ovr := by
  simp only [State.updPage]; split <;> simp
@[simp] theorem State.updPage_tim (s : State) (p : Nat) : (s.updPage p).tim = s.tim := by
  simp only [State.updPage]; split <;> simp
@[simp] theorem State.updPage_ports (s : State) (p : Nat) : (s.updPage p).ports = s.ports := by
  simp only [State.updPage]; split <;> simp
@[simp] theorem State.updPage_credits (s : State) (p : Nat) : (s.updPage p).credits = s.credits := by
  simp only [State.updPage]; split <;> simp
@[simp] theorem State.updPage_zc (s : State) (p : Nat) : (s.updPage p).zc = s.zc := by
  simp only [State.updPage]; split <;> simp
@[simp] theorem State.updPage_gpioCmp (s : State) (p : Nat) : (s.updPage p).gpioCmp = s.gpioCmp := by
  simp only [State.updPage]; split <;> simp
@[simp] theorem State.updPage_sunGrid (s : State) (p : Nat) : (s.updPage p).sunGrid = s.sunGrid := by
  simp only [State.updPage]; split <;> simp
@[simp] theorem State.updPage_pib (s : State) (p : Nat) : (s.updPage p).pib = s.pib := by
  simp only [State.updPage]; split <;> simp
@[simp] theorem State.updPage_gate (s : State) (p : Nat) : (s.updPage p).gate = s.gate := by
  simp only [State.updPage]; split <;> simp
@[simp] theorem State.updPage_cru (s : State) (p : Nat) : (s.updPage p).cru = s.cru := by
  simp only [State.updPage]; split <;> simp
@[simp] theorem State.updPage_retired (s : State) (p : Nat) : (s.updPage p).retired = s.retired := by
  simp only [State.updPage]; split <;> simp
@[simp] theorem State.updPage_pln (s : State) (p : Nat) : (s.updPage p).pln = s.pln := by
  simp only [State.updPage]; split <;> simp
@[simp] theorem State.updPage_heldFirings (s : State) (p : Nat) : (s.updPage p).heldFirings = s.heldFirings := by
  simp only [State.updPage]; split <;> simp
@[simp] theorem State.updPage_bndPrf (s : State) (p : Nat) : (s.updPage p).bndPrf = s.bndPrf := by
  simp only [State.updPage]; split <;> simp
@[simp] theorem State.updPage_bndTch (s : State) (p : Nat) : (s.updPage p).bndTch = s.bndTch := by
  simp only [State.updPage]; split <;> simp
@[simp] theorem State.updPage_prf (s : State) (p : Nat) : (s.updPage p).prf = s.prf := by
  simp only [State.updPage]; split <;> simp
@[simp] theorem State.updPage_tar (s : State) (p : Nat) : (s.updPage p).tar = s.tar := by
  simp only [State.updPage]; split <;> simp
@[simp] theorem State.updPage_lgl (s : State) (p : Nat) : (s.updPage p).lgl = s.lgl := by
  simp only [State.updPage]; split <;> simp
@[simp] theorem State.updPage_hlm (s : State) (p : Nat) : (s.updPage p).hlm = s.hlm := by
  simp only [State.updPage]; split <;> simp
@[simp] theorem State.updPage_tch (s : State) (p : Nat) : (s.updPage p).tch = s.tch := by
  simp only [State.updPage]; split <;> simp
@[simp] theorem State.updPage_jrn (s : State) (p : Nat) : (s.updPage p).jrn = s.jrn := by
  simp only [State.updPage]; split <;> simp
@[simp] theorem State.updPage_nand (s : State) (p : Nat) : (s.updPage p).nand = s.nand := by
  simp only [State.updPage]; split <;> simp
@[simp] theorem State.updPage_chn (s : State) (p : Nat) : (s.updPage p).chn = s.chn := by
  simp only [State.updPage]; split <;> simp
@[simp] theorem State.updPage_pair (s : State) (p : Nat) : (s.updPage p).pair = s.pair := by
  simp only [State.updPage]; split <;> simp
@[simp] theorem State.updPage_sec (s : State) (p : Nat) : (s.updPage p).sec = s.sec := by
  simp only [State.updPage]; split <;> simp
@[simp] theorem State.updPage_upd (s : State) (p : Nat) : (s.updPage p).upd = s.upd := by
  simp only [State.updPage]; split <;> simp
@[simp] theorem State.updPage_pins (s : State) (p : Nat) : (s.updPage p).pins = s.pins := by
  simp only [State.updPage]; split <;> simp
@[simp] theorem State.updPage_pwr (s : State) (p : Nat) : (s.updPage p).pwr = s.pwr := by
  simp only [State.updPage]; split <;> simp
@[simp] theorem State.updPage_rst (s : State) (p : Nat) : (s.updPage p).rst = s.rst := by
  simp only [State.updPage]; split <;> simp
@[simp] theorem State.updPage_mem (s : State) (p : Nat) : (s.updPage p).mem = s.mem := by
  simp only [State.updPage]; split <;> simp
@[simp] theorem State.updPage_fuses (s : State) (p : Nat) : (s.updPage p).fuses = s.fuses := by
  simp only [State.updPage]; split <;> simp
@[simp] theorem State.updPage_pst (s : State) (p : Nat) : (s.updPage p).pst = s.pst := by
  simp only [State.updPage]; split <;> simp
@[simp] theorem State.updPage_ldg (s : State) (p : Nat) : (s.updPage p).ldg = s.ldg := by
  simp only [State.updPage]; split <;> simp
@[simp] theorem State.updPage_dsp (s : State) (p : Nat) : (s.updPage p).dsp = s.dsp := by
  simp only [State.updPage]; split <;> simp
@[simp] theorem State.deliver_pending (s : State) (p : Nat) : (s.deliver p).pending = s.pending := by
  simp only [State.deliver]; split
  · split <;> simp
  · simp
@[simp] theorem State.deliver_fresh (s : State) (p : Nat) : (s.deliver p).fresh = s.fresh := by
  simp only [State.deliver]; split
  · split <;> simp
  · simp
@[simp] theorem State.deliver_bus (s : State) (p : Nat) : (s.deliver p).bus = s.bus := by
  simp only [State.deliver]; split
  · split <;> simp
  · simp
@[simp] theorem State.deliver_cfg (s : State) (p : Nat) : (s.deliver p).cfg = s.cfg := by
  simp only [State.deliver]; split
  · split <;> simp
  · simp
@[simp] theorem State.deliver_ovr (s : State) (p : Nat) : (s.deliver p).ovr = s.ovr := by
  simp only [State.deliver]; split
  · split <;> simp
  · simp
@[simp] theorem State.deliver_tim (s : State) (p : Nat) : (s.deliver p).tim = s.tim := by
  simp only [State.deliver]; split
  · split <;> simp
  · simp
@[simp] theorem State.deliver_ports (s : State) (p : Nat) : (s.deliver p).ports = s.ports := by
  simp only [State.deliver]; split
  · split <;> simp
  · simp
@[simp] theorem State.deliver_credits (s : State) (p : Nat) : (s.deliver p).credits = s.credits := by
  simp only [State.deliver]; split
  · split <;> simp
  · simp
@[simp] theorem State.deliver_zc (s : State) (p : Nat) : (s.deliver p).zc = s.zc := by
  simp only [State.deliver]; split
  · split <;> simp
  · simp
@[simp] theorem State.deliver_gpioCmp (s : State) (p : Nat) : (s.deliver p).gpioCmp = s.gpioCmp := by
  simp only [State.deliver]; split
  · split <;> simp
  · simp
@[simp] theorem State.deliver_sunGrid (s : State) (p : Nat) : (s.deliver p).sunGrid = s.sunGrid := by
  simp only [State.deliver]; split
  · split <;> simp
  · simp
@[simp] theorem State.deliver_pib (s : State) (p : Nat) : (s.deliver p).pib = s.pib := by
  simp only [State.deliver]; split
  · split <;> simp
  · simp
@[simp] theorem State.deliver_gate (s : State) (p : Nat) : (s.deliver p).gate = s.gate := by
  simp only [State.deliver]; split
  · split <;> simp
  · simp
@[simp] theorem State.deliver_cru (s : State) (p : Nat) : (s.deliver p).cru = s.cru := by
  simp only [State.deliver]; split
  · split <;> simp
  · simp
@[simp] theorem State.deliver_retired (s : State) (p : Nat) : (s.deliver p).retired = s.retired := by
  simp only [State.deliver]; split
  · split <;> simp
  · simp
@[simp] theorem State.deliver_pln (s : State) (p : Nat) : (s.deliver p).pln = s.pln := by
  simp only [State.deliver]; split
  · split <;> simp
  · simp
@[simp] theorem State.deliver_heldFirings (s : State) (p : Nat) : (s.deliver p).heldFirings = s.heldFirings := by
  simp only [State.deliver]; split
  · split <;> simp
  · simp
@[simp] theorem State.deliver_bndPrf (s : State) (p : Nat) : (s.deliver p).bndPrf = s.bndPrf := by
  simp only [State.deliver]; split
  · split <;> simp
  · simp
@[simp] theorem State.deliver_bndTch (s : State) (p : Nat) : (s.deliver p).bndTch = s.bndTch := by
  simp only [State.deliver]; split
  · split <;> simp
  · simp
@[simp] theorem State.deliver_prf (s : State) (p : Nat) : (s.deliver p).prf = s.prf := by
  simp only [State.deliver]; split
  · split <;> simp
  · simp
@[simp] theorem State.deliver_tar (s : State) (p : Nat) : (s.deliver p).tar = s.tar := by
  simp only [State.deliver]; split
  · split <;> simp
  · simp
@[simp] theorem State.deliver_lgl (s : State) (p : Nat) : (s.deliver p).lgl = s.lgl := by
  simp only [State.deliver]; split
  · split <;> simp
  · simp
@[simp] theorem State.deliver_hlm (s : State) (p : Nat) : (s.deliver p).hlm = s.hlm := by
  simp only [State.deliver]; split
  · split <;> simp
  · simp
@[simp] theorem State.deliver_tch (s : State) (p : Nat) : (s.deliver p).tch = s.tch := by
  simp only [State.deliver]; split
  · split <;> simp
  · simp
@[simp] theorem State.deliver_jrn (s : State) (p : Nat) : (s.deliver p).jrn = s.jrn := by
  simp only [State.deliver]; split
  · split <;> simp
  · simp
@[simp] theorem State.deliver_nand (s : State) (p : Nat) : (s.deliver p).nand = s.nand := by
  simp only [State.deliver]; split
  · split <;> simp
  · simp
@[simp] theorem State.deliver_chn (s : State) (p : Nat) : (s.deliver p).chn = s.chn := by
  simp only [State.deliver]; split
  · split <;> simp
  · simp
@[simp] theorem State.deliver_pair (s : State) (p : Nat) : (s.deliver p).pair = s.pair := by
  simp only [State.deliver]; split
  · split <;> simp
  · simp
@[simp] theorem State.deliver_sec (s : State) (p : Nat) : (s.deliver p).sec = s.sec := by
  simp only [State.deliver]; split
  · split <;> simp
  · simp
@[simp] theorem State.deliver_upd (s : State) (p : Nat) : (s.deliver p).upd = s.upd := by
  simp only [State.deliver]; split
  · split <;> simp
  · simp
@[simp] theorem State.deliver_pins (s : State) (p : Nat) : (s.deliver p).pins = s.pins := by
  simp only [State.deliver]; split
  · split <;> simp
  · simp
@[simp] theorem State.deliver_pwr (s : State) (p : Nat) : (s.deliver p).pwr = s.pwr := by
  simp only [State.deliver]; split
  · split <;> simp
  · simp
@[simp] theorem State.deliver_rst (s : State) (p : Nat) : (s.deliver p).rst = s.rst := by
  simp only [State.deliver]; split
  · split <;> simp
  · simp
@[simp] theorem State.deliver_mem (s : State) (p : Nat) : (s.deliver p).mem = s.mem := by
  simp only [State.deliver]; split
  · split <;> simp
  · simp
@[simp] theorem State.deliver_fuses (s : State) (p : Nat) : (s.deliver p).fuses = s.fuses := by
  simp only [State.deliver]; split
  · split <;> simp
  · simp
@[simp] theorem State.deliver_pst (s : State) (p : Nat) : (s.deliver p).pst = s.pst := by
  simp only [State.deliver]; split
  · split <;> simp
  · simp
@[simp] theorem State.deliver_ldg (s : State) (p : Nat) : (s.deliver p).ldg = s.ldg := by
  simp only [State.deliver]; split
  · split <;> simp
  · simp
@[simp] theorem State.deliver_dsp (s : State) (p : Nat) : (s.deliver p).dsp = s.dsp := by
  simp only [State.deliver]; split
  · split <;> simp
  · simp
@[simp] theorem State.raiseBits_pending (s : State) (p m : Nat) : (s.raiseBits p m).pending = s.pending := by simp [State.raiseBits]
@[simp] theorem State.raiseBits_fresh (s : State) (p m : Nat) : (s.raiseBits p m).fresh = s.fresh := by simp [State.raiseBits]
@[simp] theorem State.raiseBits_bus (s : State) (p m : Nat) : (s.raiseBits p m).bus = s.bus := by simp [State.raiseBits]
@[simp] theorem State.raiseBits_cfg (s : State) (p m : Nat) : (s.raiseBits p m).cfg = s.cfg := by simp [State.raiseBits]
@[simp] theorem State.raiseBits_ovr (s : State) (p m : Nat) : (s.raiseBits p m).ovr = s.ovr := by simp [State.raiseBits]
@[simp] theorem State.raiseBits_tim (s : State) (p m : Nat) : (s.raiseBits p m).tim = s.tim := by simp [State.raiseBits]
@[simp] theorem State.raiseBits_ports (s : State) (p m : Nat) : (s.raiseBits p m).ports = s.ports := by simp [State.raiseBits]
@[simp] theorem State.raiseBits_credits (s : State) (p m : Nat) : (s.raiseBits p m).credits = s.credits := by simp [State.raiseBits]
@[simp] theorem State.raiseBits_zc (s : State) (p m : Nat) : (s.raiseBits p m).zc = s.zc := by simp [State.raiseBits]
@[simp] theorem State.raiseBits_gpioCmp (s : State) (p m : Nat) : (s.raiseBits p m).gpioCmp = s.gpioCmp := by simp [State.raiseBits]
@[simp] theorem State.raiseBits_sunGrid (s : State) (p m : Nat) : (s.raiseBits p m).sunGrid = s.sunGrid := by simp [State.raiseBits]
@[simp] theorem State.raiseBits_pib (s : State) (p m : Nat) : (s.raiseBits p m).pib = s.pib := by simp [State.raiseBits]
@[simp] theorem State.raiseBits_gate (s : State) (p m : Nat) : (s.raiseBits p m).gate = s.gate := by simp [State.raiseBits]
@[simp] theorem State.raiseBits_cru (s : State) (p m : Nat) : (s.raiseBits p m).cru = s.cru := by simp [State.raiseBits]
@[simp] theorem State.raiseBits_retired (s : State) (p m : Nat) : (s.raiseBits p m).retired = s.retired := by simp [State.raiseBits]
@[simp] theorem State.raiseBits_pln (s : State) (p m : Nat) : (s.raiseBits p m).pln = s.pln := by simp [State.raiseBits]
@[simp] theorem State.raiseBits_heldFirings (s : State) (p m : Nat) : (s.raiseBits p m).heldFirings = s.heldFirings := by simp [State.raiseBits]
@[simp] theorem State.raiseBits_bndPrf (s : State) (p m : Nat) : (s.raiseBits p m).bndPrf = s.bndPrf := by simp [State.raiseBits]
@[simp] theorem State.raiseBits_bndTch (s : State) (p m : Nat) : (s.raiseBits p m).bndTch = s.bndTch := by simp [State.raiseBits]
@[simp] theorem State.raiseBits_prf (s : State) (p m : Nat) : (s.raiseBits p m).prf = s.prf := by simp [State.raiseBits]
@[simp] theorem State.raiseBits_tar (s : State) (p m : Nat) : (s.raiseBits p m).tar = s.tar := by simp [State.raiseBits]
@[simp] theorem State.raiseBits_lgl (s : State) (p m : Nat) : (s.raiseBits p m).lgl = s.lgl := by simp [State.raiseBits]
@[simp] theorem State.raiseBits_hlm (s : State) (p m : Nat) : (s.raiseBits p m).hlm = s.hlm := by simp [State.raiseBits]
@[simp] theorem State.raiseBits_tch (s : State) (p m : Nat) : (s.raiseBits p m).tch = s.tch := by simp [State.raiseBits]
@[simp] theorem State.raiseBits_jrn (s : State) (p m : Nat) : (s.raiseBits p m).jrn = s.jrn := by simp [State.raiseBits]
@[simp] theorem State.raiseBits_nand (s : State) (p m : Nat) : (s.raiseBits p m).nand = s.nand := by simp [State.raiseBits]
@[simp] theorem State.raiseBits_chn (s : State) (p m : Nat) : (s.raiseBits p m).chn = s.chn := by simp [State.raiseBits]
@[simp] theorem State.raiseBits_pair (s : State) (p m : Nat) : (s.raiseBits p m).pair = s.pair := by simp [State.raiseBits]
@[simp] theorem State.raiseBits_sec (s : State) (p m : Nat) : (s.raiseBits p m).sec = s.sec := by simp [State.raiseBits]
@[simp] theorem State.raiseBits_upd (s : State) (p m : Nat) : (s.raiseBits p m).upd = s.upd := by simp [State.raiseBits]
@[simp] theorem State.raiseBits_pins (s : State) (p m : Nat) : (s.raiseBits p m).pins = s.pins := by simp [State.raiseBits]
@[simp] theorem State.raiseBits_pwr (s : State) (p m : Nat) : (s.raiseBits p m).pwr = s.pwr := by simp [State.raiseBits]
@[simp] theorem State.raiseBits_rst (s : State) (p m : Nat) : (s.raiseBits p m).rst = s.rst := by simp [State.raiseBits]
@[simp] theorem State.raiseBits_mem (s : State) (p m : Nat) : (s.raiseBits p m).mem = s.mem := by simp [State.raiseBits]
@[simp] theorem State.raiseBits_fuses (s : State) (p m : Nat) : (s.raiseBits p m).fuses = s.fuses := by simp [State.raiseBits]
@[simp] theorem State.raiseBits_pst (s : State) (p m : Nat) : (s.raiseBits p m).pst = s.pst := by simp [State.raiseBits]
@[simp] theorem State.raiseBits_ldg (s : State) (p m : Nat) : (s.raiseBits p m).ldg = s.ldg := by simp [State.raiseBits]
@[simp] theorem State.raiseBits_dsp (s : State) (p m : Nat) : (s.raiseBits p m).dsp = s.dsp := by simp [State.raiseBits]
@[simp] theorem State.raise_pending (s : State) (p b : Nat) : (s.raise p b).pending = s.pending := by simp [State.raise]
@[simp] theorem State.raise_fresh (s : State) (p b : Nat) : (s.raise p b).fresh = s.fresh := by simp [State.raise]
@[simp] theorem State.raise_bus (s : State) (p b : Nat) : (s.raise p b).bus = s.bus := by simp [State.raise]
@[simp] theorem State.raise_cfg (s : State) (p b : Nat) : (s.raise p b).cfg = s.cfg := by simp [State.raise]
@[simp] theorem State.raise_ovr (s : State) (p b : Nat) : (s.raise p b).ovr = s.ovr := by simp [State.raise]
@[simp] theorem State.raise_tim (s : State) (p b : Nat) : (s.raise p b).tim = s.tim := by simp [State.raise]
@[simp] theorem State.raise_ports (s : State) (p b : Nat) : (s.raise p b).ports = s.ports := by simp [State.raise]
@[simp] theorem State.raise_credits (s : State) (p b : Nat) : (s.raise p b).credits = s.credits := by simp [State.raise]
@[simp] theorem State.raise_zc (s : State) (p b : Nat) : (s.raise p b).zc = s.zc := by simp [State.raise]
@[simp] theorem State.raise_gpioCmp (s : State) (p b : Nat) : (s.raise p b).gpioCmp = s.gpioCmp := by simp [State.raise]
@[simp] theorem State.raise_sunGrid (s : State) (p b : Nat) : (s.raise p b).sunGrid = s.sunGrid := by simp [State.raise]
@[simp] theorem State.raise_pib (s : State) (p b : Nat) : (s.raise p b).pib = s.pib := by simp [State.raise]
@[simp] theorem State.raise_gate (s : State) (p b : Nat) : (s.raise p b).gate = s.gate := by simp [State.raise]
@[simp] theorem State.raise_cru (s : State) (p b : Nat) : (s.raise p b).cru = s.cru := by simp [State.raise]
@[simp] theorem State.raise_retired (s : State) (p b : Nat) : (s.raise p b).retired = s.retired := by simp [State.raise]
@[simp] theorem State.raise_pln (s : State) (p b : Nat) : (s.raise p b).pln = s.pln := by simp [State.raise]
@[simp] theorem State.raise_heldFirings (s : State) (p b : Nat) : (s.raise p b).heldFirings = s.heldFirings := by simp [State.raise]
@[simp] theorem State.raise_bndPrf (s : State) (p b : Nat) : (s.raise p b).bndPrf = s.bndPrf := by simp [State.raise]
@[simp] theorem State.raise_bndTch (s : State) (p b : Nat) : (s.raise p b).bndTch = s.bndTch := by simp [State.raise]
@[simp] theorem State.raise_prf (s : State) (p b : Nat) : (s.raise p b).prf = s.prf := by simp [State.raise]
@[simp] theorem State.raise_tar (s : State) (p b : Nat) : (s.raise p b).tar = s.tar := by simp [State.raise]
@[simp] theorem State.raise_lgl (s : State) (p b : Nat) : (s.raise p b).lgl = s.lgl := by simp [State.raise]
@[simp] theorem State.raise_hlm (s : State) (p b : Nat) : (s.raise p b).hlm = s.hlm := by simp [State.raise]
@[simp] theorem State.raise_tch (s : State) (p b : Nat) : (s.raise p b).tch = s.tch := by simp [State.raise]
@[simp] theorem State.raise_jrn (s : State) (p b : Nat) : (s.raise p b).jrn = s.jrn := by simp [State.raise]
@[simp] theorem State.raise_nand (s : State) (p b : Nat) : (s.raise p b).nand = s.nand := by simp [State.raise]
@[simp] theorem State.raise_chn (s : State) (p b : Nat) : (s.raise p b).chn = s.chn := by simp [State.raise]
@[simp] theorem State.raise_pair (s : State) (p b : Nat) : (s.raise p b).pair = s.pair := by simp [State.raise]
@[simp] theorem State.raise_sec (s : State) (p b : Nat) : (s.raise p b).sec = s.sec := by simp [State.raise]
@[simp] theorem State.raise_upd (s : State) (p b : Nat) : (s.raise p b).upd = s.upd := by simp [State.raise]
@[simp] theorem State.raise_pins (s : State) (p b : Nat) : (s.raise p b).pins = s.pins := by simp [State.raise]
@[simp] theorem State.raise_pwr (s : State) (p b : Nat) : (s.raise p b).pwr = s.pwr := by simp [State.raise]
@[simp] theorem State.raise_rst (s : State) (p b : Nat) : (s.raise p b).rst = s.rst := by simp [State.raise]
@[simp] theorem State.raise_mem (s : State) (p b : Nat) : (s.raise p b).mem = s.mem := by simp [State.raise]
@[simp] theorem State.raise_fuses (s : State) (p b : Nat) : (s.raise p b).fuses = s.fuses := by simp [State.raise]
@[simp] theorem State.raise_pst (s : State) (p b : Nat) : (s.raise p b).pst = s.pst := by simp [State.raise]
@[simp] theorem State.raise_ldg (s : State) (p b : Nat) : (s.raise p b).ldg = s.ldg := by simp [State.raise]
@[simp] theorem State.raise_dsp (s : State) (p b : Nat) : (s.raise p b).dsp = s.dsp := by simp [State.raise]
@[simp] theorem State.errUnc_pending (s : State) (p : Nat) : (s.errUnc p).pending = s.pending := by simp [State.errUnc]
@[simp] theorem State.errUnc_fresh (s : State) (p : Nat) : (s.errUnc p).fresh = s.fresh := by simp [State.errUnc]
@[simp] theorem State.errUnc_bus (s : State) (p : Nat) : (s.errUnc p).bus = s.bus := by simp [State.errUnc]
@[simp] theorem State.errUnc_cfg (s : State) (p : Nat) : (s.errUnc p).cfg = s.cfg := by simp [State.errUnc]
@[simp] theorem State.errUnc_ovr (s : State) (p : Nat) : (s.errUnc p).ovr = s.ovr := by simp [State.errUnc]
@[simp] theorem State.errUnc_tim (s : State) (p : Nat) : (s.errUnc p).tim = s.tim := by simp [State.errUnc]
@[simp] theorem State.errUnc_ports (s : State) (p : Nat) : (s.errUnc p).ports = s.ports := by simp [State.errUnc]
@[simp] theorem State.errUnc_credits (s : State) (p : Nat) : (s.errUnc p).credits = s.credits := by simp [State.errUnc]
@[simp] theorem State.errUnc_zc (s : State) (p : Nat) : (s.errUnc p).zc = s.zc := by simp [State.errUnc]
@[simp] theorem State.errUnc_gpioCmp (s : State) (p : Nat) : (s.errUnc p).gpioCmp = s.gpioCmp := by simp [State.errUnc]
@[simp] theorem State.errUnc_sunGrid (s : State) (p : Nat) : (s.errUnc p).sunGrid = s.sunGrid := by simp [State.errUnc]
@[simp] theorem State.errUnc_pib (s : State) (p : Nat) : (s.errUnc p).pib = s.pib := by simp [State.errUnc]
@[simp] theorem State.errUnc_gate (s : State) (p : Nat) : (s.errUnc p).gate = s.gate := by simp [State.errUnc]
@[simp] theorem State.errUnc_cru (s : State) (p : Nat) : (s.errUnc p).cru = s.cru := by simp [State.errUnc]
@[simp] theorem State.errUnc_retired (s : State) (p : Nat) : (s.errUnc p).retired = s.retired := by simp [State.errUnc]
@[simp] theorem State.errUnc_pln (s : State) (p : Nat) : (s.errUnc p).pln = s.pln := by simp [State.errUnc]
@[simp] theorem State.errUnc_heldFirings (s : State) (p : Nat) : (s.errUnc p).heldFirings = s.heldFirings := by simp [State.errUnc]
@[simp] theorem State.errUnc_bndPrf (s : State) (p : Nat) : (s.errUnc p).bndPrf = s.bndPrf := by simp [State.errUnc]
@[simp] theorem State.errUnc_bndTch (s : State) (p : Nat) : (s.errUnc p).bndTch = s.bndTch := by simp [State.errUnc]
@[simp] theorem State.errUnc_prf (s : State) (p : Nat) : (s.errUnc p).prf = s.prf := by simp [State.errUnc]
@[simp] theorem State.errUnc_tar (s : State) (p : Nat) : (s.errUnc p).tar = s.tar := by simp [State.errUnc]
@[simp] theorem State.errUnc_lgl (s : State) (p : Nat) : (s.errUnc p).lgl = s.lgl := by simp [State.errUnc]
@[simp] theorem State.errUnc_hlm (s : State) (p : Nat) : (s.errUnc p).hlm = s.hlm := by simp [State.errUnc]
@[simp] theorem State.errUnc_tch (s : State) (p : Nat) : (s.errUnc p).tch = s.tch := by simp [State.errUnc]
@[simp] theorem State.errUnc_jrn (s : State) (p : Nat) : (s.errUnc p).jrn = s.jrn := by simp [State.errUnc]
@[simp] theorem State.errUnc_nand (s : State) (p : Nat) : (s.errUnc p).nand = s.nand := by simp [State.errUnc]
@[simp] theorem State.errUnc_chn (s : State) (p : Nat) : (s.errUnc p).chn = s.chn := by simp [State.errUnc]
@[simp] theorem State.errUnc_pair (s : State) (p : Nat) : (s.errUnc p).pair = s.pair := by simp [State.errUnc]
@[simp] theorem State.errUnc_sec (s : State) (p : Nat) : (s.errUnc p).sec = s.sec := by simp [State.errUnc]
@[simp] theorem State.errUnc_upd (s : State) (p : Nat) : (s.errUnc p).upd = s.upd := by simp [State.errUnc]
@[simp] theorem State.errUnc_pins (s : State) (p : Nat) : (s.errUnc p).pins = s.pins := by simp [State.errUnc]
@[simp] theorem State.errUnc_pwr (s : State) (p : Nat) : (s.errUnc p).pwr = s.pwr := by simp [State.errUnc]
@[simp] theorem State.errUnc_rst (s : State) (p : Nat) : (s.errUnc p).rst = s.rst := by simp [State.errUnc]
@[simp] theorem State.errUnc_mem (s : State) (p : Nat) : (s.errUnc p).mem = s.mem := by simp [State.errUnc]
@[simp] theorem State.errUnc_fuses (s : State) (p : Nat) : (s.errUnc p).fuses = s.fuses := by simp [State.errUnc]
@[simp] theorem State.errUnc_pst (s : State) (p : Nat) : (s.errUnc p).pst = s.pst := by simp [State.errUnc]
@[simp] theorem State.errUnc_ldg (s : State) (p : Nat) : (s.errUnc p).ldg = s.ldg := by simp [State.errUnc]
@[simp] theorem State.errUnc_dsp (s : State) (p : Nat) : (s.errUnc p).dsp = s.dsp := by simp [State.errUnc]
@[simp] theorem State.errCorr_pending (s : State) (p : Nat) : (s.errCorr p).pending = s.pending := rfl
@[simp] theorem State.errCorr_fresh (s : State) (p : Nat) : (s.errCorr p).fresh = s.fresh := rfl
@[simp] theorem State.errCorr_out (s : State) (p : Nat) : (s.errCorr p).out = s.out := rfl
@[simp] theorem State.errCorr_irq (s : State) (p : Nat) : (s.errCorr p).irq = s.irq := rfl
@[simp] theorem State.errCorr_bus (s : State) (p : Nat) : (s.errCorr p).bus = s.bus := rfl
@[simp] theorem State.errCorr_cfg (s : State) (p : Nat) : (s.errCorr p).cfg = s.cfg := rfl
@[simp] theorem State.errCorr_ovr (s : State) (p : Nat) : (s.errCorr p).ovr = s.ovr := rfl
@[simp] theorem State.errCorr_tim (s : State) (p : Nat) : (s.errCorr p).tim = s.tim := rfl
@[simp] theorem State.errCorr_ports (s : State) (p : Nat) : (s.errCorr p).ports = s.ports := rfl
@[simp] theorem State.errCorr_credits (s : State) (p : Nat) : (s.errCorr p).credits = s.credits := rfl
@[simp] theorem State.errCorr_zc (s : State) (p : Nat) : (s.errCorr p).zc = s.zc := rfl
@[simp] theorem State.errCorr_gpioCmp (s : State) (p : Nat) : (s.errCorr p).gpioCmp = s.gpioCmp := rfl
@[simp] theorem State.errCorr_sunGrid (s : State) (p : Nat) : (s.errCorr p).sunGrid = s.sunGrid := rfl
@[simp] theorem State.errCorr_pib (s : State) (p : Nat) : (s.errCorr p).pib = s.pib := rfl
@[simp] theorem State.errCorr_gate (s : State) (p : Nat) : (s.errCorr p).gate = s.gate := rfl
@[simp] theorem State.errCorr_cru (s : State) (p : Nat) : (s.errCorr p).cru = s.cru := rfl
@[simp] theorem State.errCorr_retired (s : State) (p : Nat) : (s.errCorr p).retired = s.retired := rfl
@[simp] theorem State.errCorr_pln (s : State) (p : Nat) : (s.errCorr p).pln = s.pln := rfl
@[simp] theorem State.errCorr_heldFirings (s : State) (p : Nat) : (s.errCorr p).heldFirings = s.heldFirings := rfl
@[simp] theorem State.errCorr_bndPrf (s : State) (p : Nat) : (s.errCorr p).bndPrf = s.bndPrf := rfl
@[simp] theorem State.errCorr_bndTch (s : State) (p : Nat) : (s.errCorr p).bndTch = s.bndTch := rfl
@[simp] theorem State.errCorr_prf (s : State) (p : Nat) : (s.errCorr p).prf = s.prf := rfl
@[simp] theorem State.errCorr_tar (s : State) (p : Nat) : (s.errCorr p).tar = s.tar := rfl
@[simp] theorem State.errCorr_lgl (s : State) (p : Nat) : (s.errCorr p).lgl = s.lgl := rfl
@[simp] theorem State.errCorr_hlm (s : State) (p : Nat) : (s.errCorr p).hlm = s.hlm := rfl
@[simp] theorem State.errCorr_tch (s : State) (p : Nat) : (s.errCorr p).tch = s.tch := rfl
@[simp] theorem State.errCorr_jrn (s : State) (p : Nat) : (s.errCorr p).jrn = s.jrn := rfl
@[simp] theorem State.errCorr_nand (s : State) (p : Nat) : (s.errCorr p).nand = s.nand := rfl
@[simp] theorem State.errCorr_chn (s : State) (p : Nat) : (s.errCorr p).chn = s.chn := rfl
@[simp] theorem State.errCorr_pair (s : State) (p : Nat) : (s.errCorr p).pair = s.pair := rfl
@[simp] theorem State.errCorr_sec (s : State) (p : Nat) : (s.errCorr p).sec = s.sec := rfl
@[simp] theorem State.errCorr_upd (s : State) (p : Nat) : (s.errCorr p).upd = s.upd := rfl
@[simp] theorem State.errCorr_pins (s : State) (p : Nat) : (s.errCorr p).pins = s.pins := rfl
@[simp] theorem State.errCorr_pwr (s : State) (p : Nat) : (s.errCorr p).pwr = s.pwr := rfl
@[simp] theorem State.errCorr_rst (s : State) (p : Nat) : (s.errCorr p).rst = s.rst := rfl
@[simp] theorem State.errCorr_mem (s : State) (p : Nat) : (s.errCorr p).mem = s.mem := rfl
@[simp] theorem State.errCorr_fuses (s : State) (p : Nat) : (s.errCorr p).fuses = s.fuses := rfl
@[simp] theorem State.errCorr_pst (s : State) (p : Nat) : (s.errCorr p).pst = s.pst := rfl
@[simp] theorem State.errCorr_ldg (s : State) (p : Nat) : (s.errCorr p).ldg = s.ldg := rfl
@[simp] theorem State.errCorr_dsp (s : State) (p : Nat) : (s.errCorr p).dsp = s.dsp := rfl
@[simp] theorem State.accErr_pending (s : State) (m : Master) (c a : Nat) : (s.accErr m c a).pending = s.pending := by
  simp only [State.accErr]; split <;> rfl
@[simp] theorem State.accErr_fresh (s : State) (m : Master) (c a : Nat) : (s.accErr m c a).fresh = s.fresh := by
  simp only [State.accErr]; split <;> rfl
@[simp] theorem State.accErr_out (s : State) (m : Master) (c a : Nat) : (s.accErr m c a).out = s.out := by
  simp only [State.accErr]; split <;> rfl
@[simp] theorem State.accErr_irq (s : State) (m : Master) (c a : Nat) : (s.accErr m c a).irq = s.irq := by
  simp only [State.accErr]; split <;> rfl
@[simp] theorem State.accErr_bus (s : State) (m : Master) (c a : Nat) : (s.accErr m c a).bus = s.bus := by
  simp only [State.accErr]; split <;> rfl
@[simp] theorem State.accErr_cfg (s : State) (m : Master) (c a : Nat) : (s.accErr m c a).cfg = s.cfg := by
  simp only [State.accErr]; split <;> rfl
@[simp] theorem State.accErr_ovr (s : State) (m : Master) (c a : Nat) : (s.accErr m c a).ovr = s.ovr := by
  simp only [State.accErr]; split <;> rfl
@[simp] theorem State.accErr_tim (s : State) (m : Master) (c a : Nat) : (s.accErr m c a).tim = s.tim := by
  simp only [State.accErr]; split <;> rfl
@[simp] theorem State.accErr_ports (s : State) (m : Master) (c a : Nat) : (s.accErr m c a).ports = s.ports := by
  simp only [State.accErr]; split <;> rfl
@[simp] theorem State.accErr_credits (s : State) (m : Master) (c a : Nat) : (s.accErr m c a).credits = s.credits := by
  simp only [State.accErr]; split <;> rfl
@[simp] theorem State.accErr_zc (s : State) (m : Master) (c a : Nat) : (s.accErr m c a).zc = s.zc := by
  simp only [State.accErr]; split <;> rfl
@[simp] theorem State.accErr_gpioCmp (s : State) (m : Master) (c a : Nat) : (s.accErr m c a).gpioCmp = s.gpioCmp := by
  simp only [State.accErr]; split <;> rfl
@[simp] theorem State.accErr_sunGrid (s : State) (m : Master) (c a : Nat) : (s.accErr m c a).sunGrid = s.sunGrid := by
  simp only [State.accErr]; split <;> rfl
@[simp] theorem State.accErr_pib (s : State) (m : Master) (c a : Nat) : (s.accErr m c a).pib = s.pib := by
  simp only [State.accErr]; split <;> rfl
@[simp] theorem State.accErr_gate (s : State) (m : Master) (c a : Nat) : (s.accErr m c a).gate = s.gate := by
  simp only [State.accErr]; split <;> rfl
@[simp] theorem State.accErr_cru (s : State) (m : Master) (c a : Nat) : (s.accErr m c a).cru = s.cru := by
  simp only [State.accErr]; split <;> rfl
@[simp] theorem State.accErr_retired (s : State) (m : Master) (c a : Nat) : (s.accErr m c a).retired = s.retired := by
  simp only [State.accErr]; split <;> rfl
@[simp] theorem State.accErr_pln (s : State) (m : Master) (c a : Nat) : (s.accErr m c a).pln = s.pln := by
  simp only [State.accErr]; split <;> rfl
@[simp] theorem State.accErr_heldFirings (s : State) (m : Master) (c a : Nat) : (s.accErr m c a).heldFirings = s.heldFirings := by
  simp only [State.accErr]; split <;> rfl
@[simp] theorem State.accErr_bndPrf (s : State) (m : Master) (c a : Nat) : (s.accErr m c a).bndPrf = s.bndPrf := by
  simp only [State.accErr]; split <;> rfl
@[simp] theorem State.accErr_bndTch (s : State) (m : Master) (c a : Nat) : (s.accErr m c a).bndTch = s.bndTch := by
  simp only [State.accErr]; split <;> rfl
@[simp] theorem State.accErr_prf (s : State) (m : Master) (c a : Nat) : (s.accErr m c a).prf = s.prf := by
  simp only [State.accErr]; split <;> rfl
@[simp] theorem State.accErr_tar (s : State) (m : Master) (c a : Nat) : (s.accErr m c a).tar = s.tar := by
  simp only [State.accErr]; split <;> rfl
@[simp] theorem State.accErr_lgl (s : State) (m : Master) (c a : Nat) : (s.accErr m c a).lgl = s.lgl := by
  simp only [State.accErr]; split <;> rfl
@[simp] theorem State.accErr_hlm (s : State) (m : Master) (c a : Nat) : (s.accErr m c a).hlm = s.hlm := by
  simp only [State.accErr]; split <;> rfl
@[simp] theorem State.accErr_tch (s : State) (m : Master) (c a : Nat) : (s.accErr m c a).tch = s.tch := by
  simp only [State.accErr]; split <;> rfl
@[simp] theorem State.accErr_jrn (s : State) (m : Master) (c a : Nat) : (s.accErr m c a).jrn = s.jrn := by
  simp only [State.accErr]; split <;> rfl
@[simp] theorem State.accErr_nand (s : State) (m : Master) (c a : Nat) : (s.accErr m c a).nand = s.nand := by
  simp only [State.accErr]; split <;> rfl
@[simp] theorem State.accErr_chn (s : State) (m : Master) (c a : Nat) : (s.accErr m c a).chn = s.chn := by
  simp only [State.accErr]; split <;> rfl
@[simp] theorem State.accErr_pair (s : State) (m : Master) (c a : Nat) : (s.accErr m c a).pair = s.pair := by
  simp only [State.accErr]; split <;> rfl
@[simp] theorem State.accErr_sec (s : State) (m : Master) (c a : Nat) : (s.accErr m c a).sec = s.sec := by
  simp only [State.accErr]; split <;> rfl
@[simp] theorem State.accErr_upd (s : State) (m : Master) (c a : Nat) : (s.accErr m c a).upd = s.upd := by
  simp only [State.accErr]; split <;> rfl
@[simp] theorem State.accErr_pins (s : State) (m : Master) (c a : Nat) : (s.accErr m c a).pins = s.pins := by
  simp only [State.accErr]; split <;> rfl
@[simp] theorem State.accErr_pwr (s : State) (m : Master) (c a : Nat) : (s.accErr m c a).pwr = s.pwr := by
  simp only [State.accErr]; split <;> rfl
@[simp] theorem State.accErr_rst (s : State) (m : Master) (c a : Nat) : (s.accErr m c a).rst = s.rst := by
  simp only [State.accErr]; split <;> rfl
@[simp] theorem State.accErr_mem (s : State) (m : Master) (c a : Nat) : (s.accErr m c a).mem = s.mem := by
  simp only [State.accErr]; split <;> rfl
@[simp] theorem State.accErr_fuses (s : State) (m : Master) (c a : Nat) : (s.accErr m c a).fuses = s.fuses := by
  simp only [State.accErr]; split <;> rfl
@[simp] theorem State.accErr_pst (s : State) (m : Master) (c a : Nat) : (s.accErr m c a).pst = s.pst := by
  simp only [State.accErr]; split <;> rfl
@[simp] theorem State.accErr_ldg (s : State) (m : Master) (c a : Nat) : (s.accErr m c a).ldg = s.ldg := by
  simp only [State.accErr]; split <;> rfl
@[simp] theorem State.accErr_dsp (s : State) (m : Master) (c a : Nat) : (s.accErr m c a).dsp = s.dsp := by
  simp only [State.accErr]; split <;> rfl
@[simp] theorem State.denyWrite_pending (s : State) (m : Master) (c p off : Nat) : (s.denyWrite m c p off).pending = s.pending := by simp [State.denyWrite]
@[simp] theorem State.denyWrite_fresh (s : State) (m : Master) (c p off : Nat) : (s.denyWrite m c p off).fresh = s.fresh := by simp [State.denyWrite]
@[simp] theorem State.denyWrite_bus (s : State) (m : Master) (c p off : Nat) : (s.denyWrite m c p off).bus = s.bus := by simp [State.denyWrite]
@[simp] theorem State.denyWrite_cfg (s : State) (m : Master) (c p off : Nat) : (s.denyWrite m c p off).cfg = s.cfg := by simp [State.denyWrite]
@[simp] theorem State.denyWrite_ovr (s : State) (m : Master) (c p off : Nat) : (s.denyWrite m c p off).ovr = s.ovr := by simp [State.denyWrite]
@[simp] theorem State.denyWrite_tim (s : State) (m : Master) (c p off : Nat) : (s.denyWrite m c p off).tim = s.tim := by simp [State.denyWrite]
@[simp] theorem State.denyWrite_ports (s : State) (m : Master) (c p off : Nat) : (s.denyWrite m c p off).ports = s.ports := by simp [State.denyWrite]
@[simp] theorem State.denyWrite_credits (s : State) (m : Master) (c p off : Nat) : (s.denyWrite m c p off).credits = s.credits := by simp [State.denyWrite]
@[simp] theorem State.denyWrite_zc (s : State) (m : Master) (c p off : Nat) : (s.denyWrite m c p off).zc = s.zc := by simp [State.denyWrite]
@[simp] theorem State.denyWrite_gpioCmp (s : State) (m : Master) (c p off : Nat) : (s.denyWrite m c p off).gpioCmp = s.gpioCmp := by simp [State.denyWrite]
@[simp] theorem State.denyWrite_sunGrid (s : State) (m : Master) (c p off : Nat) : (s.denyWrite m c p off).sunGrid = s.sunGrid := by simp [State.denyWrite]
@[simp] theorem State.denyWrite_pib (s : State) (m : Master) (c p off : Nat) : (s.denyWrite m c p off).pib = s.pib := by simp [State.denyWrite]
@[simp] theorem State.denyWrite_gate (s : State) (m : Master) (c p off : Nat) : (s.denyWrite m c p off).gate = s.gate := by simp [State.denyWrite]
@[simp] theorem State.denyWrite_cru (s : State) (m : Master) (c p off : Nat) : (s.denyWrite m c p off).cru = s.cru := by simp [State.denyWrite]
@[simp] theorem State.denyWrite_retired (s : State) (m : Master) (c p off : Nat) : (s.denyWrite m c p off).retired = s.retired := by simp [State.denyWrite]
@[simp] theorem State.denyWrite_pln (s : State) (m : Master) (c p off : Nat) : (s.denyWrite m c p off).pln = s.pln := by simp [State.denyWrite]
@[simp] theorem State.denyWrite_heldFirings (s : State) (m : Master) (c p off : Nat) : (s.denyWrite m c p off).heldFirings = s.heldFirings := by simp [State.denyWrite]
@[simp] theorem State.denyWrite_bndPrf (s : State) (m : Master) (c p off : Nat) : (s.denyWrite m c p off).bndPrf = s.bndPrf := by simp [State.denyWrite]
@[simp] theorem State.denyWrite_bndTch (s : State) (m : Master) (c p off : Nat) : (s.denyWrite m c p off).bndTch = s.bndTch := by simp [State.denyWrite]
@[simp] theorem State.denyWrite_prf (s : State) (m : Master) (c p off : Nat) : (s.denyWrite m c p off).prf = s.prf := by simp [State.denyWrite]
@[simp] theorem State.denyWrite_tar (s : State) (m : Master) (c p off : Nat) : (s.denyWrite m c p off).tar = s.tar := by simp [State.denyWrite]
@[simp] theorem State.denyWrite_lgl (s : State) (m : Master) (c p off : Nat) : (s.denyWrite m c p off).lgl = s.lgl := by simp [State.denyWrite]
@[simp] theorem State.denyWrite_hlm (s : State) (m : Master) (c p off : Nat) : (s.denyWrite m c p off).hlm = s.hlm := by simp [State.denyWrite]
@[simp] theorem State.denyWrite_tch (s : State) (m : Master) (c p off : Nat) : (s.denyWrite m c p off).tch = s.tch := by simp [State.denyWrite]
@[simp] theorem State.denyWrite_jrn (s : State) (m : Master) (c p off : Nat) : (s.denyWrite m c p off).jrn = s.jrn := by simp [State.denyWrite]
@[simp] theorem State.denyWrite_nand (s : State) (m : Master) (c p off : Nat) : (s.denyWrite m c p off).nand = s.nand := by simp [State.denyWrite]
@[simp] theorem State.denyWrite_chn (s : State) (m : Master) (c p off : Nat) : (s.denyWrite m c p off).chn = s.chn := by simp [State.denyWrite]
@[simp] theorem State.denyWrite_pair (s : State) (m : Master) (c p off : Nat) : (s.denyWrite m c p off).pair = s.pair := by simp [State.denyWrite]
@[simp] theorem State.denyWrite_sec (s : State) (m : Master) (c p off : Nat) : (s.denyWrite m c p off).sec = s.sec := by simp [State.denyWrite]
@[simp] theorem State.denyWrite_upd (s : State) (m : Master) (c p off : Nat) : (s.denyWrite m c p off).upd = s.upd := by simp [State.denyWrite]
@[simp] theorem State.denyWrite_pins (s : State) (m : Master) (c p off : Nat) : (s.denyWrite m c p off).pins = s.pins := by simp [State.denyWrite]
@[simp] theorem State.denyWrite_pwr (s : State) (m : Master) (c p off : Nat) : (s.denyWrite m c p off).pwr = s.pwr := by simp [State.denyWrite]
@[simp] theorem State.denyWrite_rst (s : State) (m : Master) (c p off : Nat) : (s.denyWrite m c p off).rst = s.rst := by simp [State.denyWrite]
@[simp] theorem State.denyWrite_mem (s : State) (m : Master) (c p off : Nat) : (s.denyWrite m c p off).mem = s.mem := by simp [State.denyWrite]
@[simp] theorem State.denyWrite_fuses (s : State) (m : Master) (c p off : Nat) : (s.denyWrite m c p off).fuses = s.fuses := by simp [State.denyWrite]
@[simp] theorem State.denyWrite_pst (s : State) (m : Master) (c p off : Nat) : (s.denyWrite m c p off).pst = s.pst := by simp [State.denyWrite]
@[simp] theorem State.denyWrite_ldg (s : State) (m : Master) (c p off : Nat) : (s.denyWrite m c p off).ldg = s.ldg := by simp [State.denyWrite]
@[simp] theorem State.denyWrite_dsp (s : State) (m : Master) (c p off : Nat) : (s.denyWrite m c p off).dsp = s.dsp := by simp [State.denyWrite]
@[simp] theorem State.journalRec_pending (s : State) (k : Nat) (l : Bool) (b : List Byte) : (s.journalRec k l b).pending = s.pending := by
  simp only [State.journalRec]; split <;> rfl
@[simp] theorem State.journalRec_regs (s : State) (k : Nat) (l : Bool) (b : List Byte) : (s.journalRec k l b).regs = s.regs := by
  simp only [State.journalRec]; split <;> rfl
@[simp] theorem State.journalRec_fresh (s : State) (k : Nat) (l : Bool) (b : List Byte) : (s.journalRec k l b).fresh = s.fresh := by
  simp only [State.journalRec]; split <;> rfl
@[simp] theorem State.journalRec_out (s : State) (k : Nat) (l : Bool) (b : List Byte) : (s.journalRec k l b).out = s.out := by
  simp only [State.journalRec]; split <;> rfl
@[simp] theorem State.journalRec_irq (s : State) (k : Nat) (l : Bool) (b : List Byte) : (s.journalRec k l b).irq = s.irq := by
  simp only [State.journalRec]; split <;> rfl
@[simp] theorem State.journalRec_bus (s : State) (k : Nat) (l : Bool) (b : List Byte) : (s.journalRec k l b).bus = s.bus := by
  simp only [State.journalRec]; split <;> rfl
@[simp] theorem State.journalRec_cfg (s : State) (k : Nat) (l : Bool) (b : List Byte) : (s.journalRec k l b).cfg = s.cfg := by
  simp only [State.journalRec]; split <;> rfl
@[simp] theorem State.journalRec_ovr (s : State) (k : Nat) (l : Bool) (b : List Byte) : (s.journalRec k l b).ovr = s.ovr := by
  simp only [State.journalRec]; split <;> rfl
@[simp] theorem State.journalRec_tim (s : State) (k : Nat) (l : Bool) (b : List Byte) : (s.journalRec k l b).tim = s.tim := by
  simp only [State.journalRec]; split <;> rfl
@[simp] theorem State.journalRec_ports (s : State) (k : Nat) (l : Bool) (b : List Byte) : (s.journalRec k l b).ports = s.ports := by
  simp only [State.journalRec]; split <;> rfl
@[simp] theorem State.journalRec_credits (s : State) (k : Nat) (l : Bool) (b : List Byte) : (s.journalRec k l b).credits = s.credits := by
  simp only [State.journalRec]; split <;> rfl
@[simp] theorem State.journalRec_zc (s : State) (k : Nat) (l : Bool) (b : List Byte) : (s.journalRec k l b).zc = s.zc := by
  simp only [State.journalRec]; split <;> rfl
@[simp] theorem State.journalRec_gpioCmp (s : State) (k : Nat) (l : Bool) (b : List Byte) : (s.journalRec k l b).gpioCmp = s.gpioCmp := by
  simp only [State.journalRec]; split <;> rfl
@[simp] theorem State.journalRec_sunGrid (s : State) (k : Nat) (l : Bool) (b : List Byte) : (s.journalRec k l b).sunGrid = s.sunGrid := by
  simp only [State.journalRec]; split <;> rfl
@[simp] theorem State.journalRec_pib (s : State) (k : Nat) (l : Bool) (b : List Byte) : (s.journalRec k l b).pib = s.pib := by
  simp only [State.journalRec]; split <;> rfl
@[simp] theorem State.journalRec_gate (s : State) (k : Nat) (l : Bool) (b : List Byte) : (s.journalRec k l b).gate = s.gate := by
  simp only [State.journalRec]; split <;> rfl
@[simp] theorem State.journalRec_cru (s : State) (k : Nat) (l : Bool) (b : List Byte) : (s.journalRec k l b).cru = s.cru := by
  simp only [State.journalRec]; split <;> rfl
@[simp] theorem State.journalRec_retired (s : State) (k : Nat) (l : Bool) (b : List Byte) : (s.journalRec k l b).retired = s.retired := by
  simp only [State.journalRec]; split <;> rfl
@[simp] theorem State.journalRec_pln (s : State) (k : Nat) (l : Bool) (b : List Byte) : (s.journalRec k l b).pln = s.pln := by
  simp only [State.journalRec]; split <;> rfl
@[simp] theorem State.journalRec_heldFirings (s : State) (k : Nat) (l : Bool) (b : List Byte) : (s.journalRec k l b).heldFirings = s.heldFirings := by
  simp only [State.journalRec]; split <;> rfl
@[simp] theorem State.journalRec_bndPrf (s : State) (k : Nat) (l : Bool) (b : List Byte) : (s.journalRec k l b).bndPrf = s.bndPrf := by
  simp only [State.journalRec]; split <;> rfl
@[simp] theorem State.journalRec_bndTch (s : State) (k : Nat) (l : Bool) (b : List Byte) : (s.journalRec k l b).bndTch = s.bndTch := by
  simp only [State.journalRec]; split <;> rfl
@[simp] theorem State.journalRec_prf (s : State) (k : Nat) (l : Bool) (b : List Byte) : (s.journalRec k l b).prf = s.prf := by
  simp only [State.journalRec]; split <;> rfl
@[simp] theorem State.journalRec_tar (s : State) (k : Nat) (l : Bool) (b : List Byte) : (s.journalRec k l b).tar = s.tar := by
  simp only [State.journalRec]; split <;> rfl
@[simp] theorem State.journalRec_lgl (s : State) (k : Nat) (l : Bool) (b : List Byte) : (s.journalRec k l b).lgl = s.lgl := by
  simp only [State.journalRec]; split <;> rfl
@[simp] theorem State.journalRec_hlm (s : State) (k : Nat) (l : Bool) (b : List Byte) : (s.journalRec k l b).hlm = s.hlm := by
  simp only [State.journalRec]; split <;> rfl
@[simp] theorem State.journalRec_tch (s : State) (k : Nat) (l : Bool) (b : List Byte) : (s.journalRec k l b).tch = s.tch := by
  simp only [State.journalRec]; split <;> rfl
@[simp] theorem State.journalRec_nand (s : State) (k : Nat) (l : Bool) (b : List Byte) : (s.journalRec k l b).nand = s.nand := by
  simp only [State.journalRec]; split <;> rfl
@[simp] theorem State.journalRec_chn (s : State) (k : Nat) (l : Bool) (b : List Byte) : (s.journalRec k l b).chn = s.chn := by
  simp only [State.journalRec]; split <;> rfl
@[simp] theorem State.journalRec_pair (s : State) (k : Nat) (l : Bool) (b : List Byte) : (s.journalRec k l b).pair = s.pair := by
  simp only [State.journalRec]; split <;> rfl
@[simp] theorem State.journalRec_sec (s : State) (k : Nat) (l : Bool) (b : List Byte) : (s.journalRec k l b).sec = s.sec := by
  simp only [State.journalRec]; split <;> rfl
@[simp] theorem State.journalRec_upd (s : State) (k : Nat) (l : Bool) (b : List Byte) : (s.journalRec k l b).upd = s.upd := by
  simp only [State.journalRec]; split <;> rfl
@[simp] theorem State.journalRec_pins (s : State) (k : Nat) (l : Bool) (b : List Byte) : (s.journalRec k l b).pins = s.pins := by
  simp only [State.journalRec]; split <;> rfl
@[simp] theorem State.journalRec_pwr (s : State) (k : Nat) (l : Bool) (b : List Byte) : (s.journalRec k l b).pwr = s.pwr := by
  simp only [State.journalRec]; split <;> rfl
@[simp] theorem State.journalRec_rst (s : State) (k : Nat) (l : Bool) (b : List Byte) : (s.journalRec k l b).rst = s.rst := by
  simp only [State.journalRec]; split <;> rfl
@[simp] theorem State.journalRec_mem (s : State) (k : Nat) (l : Bool) (b : List Byte) : (s.journalRec k l b).mem = s.mem := by
  simp only [State.journalRec]; split <;> rfl
@[simp] theorem State.journalRec_fuses (s : State) (k : Nat) (l : Bool) (b : List Byte) : (s.journalRec k l b).fuses = s.fuses := by
  simp only [State.journalRec]; split <;> rfl
@[simp] theorem State.journalRec_pst (s : State) (k : Nat) (l : Bool) (b : List Byte) : (s.journalRec k l b).pst = s.pst := by
  simp only [State.journalRec]; split <;> rfl
@[simp] theorem State.journalRec_ldg (s : State) (k : Nat) (l : Bool) (b : List Byte) : (s.journalRec k l b).ldg = s.ldg := by
  simp only [State.journalRec]; split <;> rfl
@[simp] theorem State.journalRec_dsp (s : State) (k : Nat) (l : Bool) (b : List Byte) : (s.journalRec k l b).dsp = s.dsp := by
  simp only [State.journalRec]; split <;> rfl
@[simp] theorem State.journal_pending (s : State) (k : Nat) (b : List Byte) : (s.journal k b).pending = s.pending := by simp [State.journal]
@[simp] theorem State.journal_regs (s : State) (k : Nat) (b : List Byte) : (s.journal k b).regs = s.regs := by simp [State.journal]
@[simp] theorem State.journal_fresh (s : State) (k : Nat) (b : List Byte) : (s.journal k b).fresh = s.fresh := by simp [State.journal]
@[simp] theorem State.journal_out (s : State) (k : Nat) (b : List Byte) : (s.journal k b).out = s.out := by simp [State.journal]
@[simp] theorem State.journal_irq (s : State) (k : Nat) (b : List Byte) : (s.journal k b).irq = s.irq := by simp [State.journal]
@[simp] theorem State.journal_bus (s : State) (k : Nat) (b : List Byte) : (s.journal k b).bus = s.bus := by simp [State.journal]
@[simp] theorem State.journal_cfg (s : State) (k : Nat) (b : List Byte) : (s.journal k b).cfg = s.cfg := by simp [State.journal]
@[simp] theorem State.journal_ovr (s : State) (k : Nat) (b : List Byte) : (s.journal k b).ovr = s.ovr := by simp [State.journal]
@[simp] theorem State.journal_tim (s : State) (k : Nat) (b : List Byte) : (s.journal k b).tim = s.tim := by simp [State.journal]
@[simp] theorem State.journal_ports (s : State) (k : Nat) (b : List Byte) : (s.journal k b).ports = s.ports := by simp [State.journal]
@[simp] theorem State.journal_credits (s : State) (k : Nat) (b : List Byte) : (s.journal k b).credits = s.credits := by simp [State.journal]
@[simp] theorem State.journal_zc (s : State) (k : Nat) (b : List Byte) : (s.journal k b).zc = s.zc := by simp [State.journal]
@[simp] theorem State.journal_gpioCmp (s : State) (k : Nat) (b : List Byte) : (s.journal k b).gpioCmp = s.gpioCmp := by simp [State.journal]
@[simp] theorem State.journal_sunGrid (s : State) (k : Nat) (b : List Byte) : (s.journal k b).sunGrid = s.sunGrid := by simp [State.journal]
@[simp] theorem State.journal_pib (s : State) (k : Nat) (b : List Byte) : (s.journal k b).pib = s.pib := by simp [State.journal]
@[simp] theorem State.journal_gate (s : State) (k : Nat) (b : List Byte) : (s.journal k b).gate = s.gate := by simp [State.journal]
@[simp] theorem State.journal_cru (s : State) (k : Nat) (b : List Byte) : (s.journal k b).cru = s.cru := by simp [State.journal]
@[simp] theorem State.journal_retired (s : State) (k : Nat) (b : List Byte) : (s.journal k b).retired = s.retired := by simp [State.journal]
@[simp] theorem State.journal_pln (s : State) (k : Nat) (b : List Byte) : (s.journal k b).pln = s.pln := by simp [State.journal]
@[simp] theorem State.journal_heldFirings (s : State) (k : Nat) (b : List Byte) : (s.journal k b).heldFirings = s.heldFirings := by simp [State.journal]
@[simp] theorem State.journal_bndPrf (s : State) (k : Nat) (b : List Byte) : (s.journal k b).bndPrf = s.bndPrf := by simp [State.journal]
@[simp] theorem State.journal_bndTch (s : State) (k : Nat) (b : List Byte) : (s.journal k b).bndTch = s.bndTch := by simp [State.journal]
@[simp] theorem State.journal_prf (s : State) (k : Nat) (b : List Byte) : (s.journal k b).prf = s.prf := by simp [State.journal]
@[simp] theorem State.journal_tar (s : State) (k : Nat) (b : List Byte) : (s.journal k b).tar = s.tar := by simp [State.journal]
@[simp] theorem State.journal_lgl (s : State) (k : Nat) (b : List Byte) : (s.journal k b).lgl = s.lgl := by simp [State.journal]
@[simp] theorem State.journal_hlm (s : State) (k : Nat) (b : List Byte) : (s.journal k b).hlm = s.hlm := by simp [State.journal]
@[simp] theorem State.journal_tch (s : State) (k : Nat) (b : List Byte) : (s.journal k b).tch = s.tch := by simp [State.journal]
@[simp] theorem State.journal_nand (s : State) (k : Nat) (b : List Byte) : (s.journal k b).nand = s.nand := by simp [State.journal]
@[simp] theorem State.journal_chn (s : State) (k : Nat) (b : List Byte) : (s.journal k b).chn = s.chn := by simp [State.journal]
@[simp] theorem State.journal_pair (s : State) (k : Nat) (b : List Byte) : (s.journal k b).pair = s.pair := by simp [State.journal]
@[simp] theorem State.journal_sec (s : State) (k : Nat) (b : List Byte) : (s.journal k b).sec = s.sec := by simp [State.journal]
@[simp] theorem State.journal_upd (s : State) (k : Nat) (b : List Byte) : (s.journal k b).upd = s.upd := by simp [State.journal]
@[simp] theorem State.journal_pins (s : State) (k : Nat) (b : List Byte) : (s.journal k b).pins = s.pins := by simp [State.journal]
@[simp] theorem State.journal_pwr (s : State) (k : Nat) (b : List Byte) : (s.journal k b).pwr = s.pwr := by simp [State.journal]
@[simp] theorem State.journal_rst (s : State) (k : Nat) (b : List Byte) : (s.journal k b).rst = s.rst := by simp [State.journal]
@[simp] theorem State.journal_mem (s : State) (k : Nat) (b : List Byte) : (s.journal k b).mem = s.mem := by simp [State.journal]
@[simp] theorem State.journal_fuses (s : State) (k : Nat) (b : List Byte) : (s.journal k b).fuses = s.fuses := by simp [State.journal]
@[simp] theorem State.journal_pst (s : State) (k : Nat) (b : List Byte) : (s.journal k b).pst = s.pst := by simp [State.journal]
@[simp] theorem State.journal_ldg (s : State) (k : Nat) (b : List Byte) : (s.journal k b).ldg = s.ldg := by simp [State.journal]
@[simp] theorem State.journal_dsp (s : State) (k : Nat) (b : List Byte) : (s.journal k b).dsp = s.dsp := by simp [State.journal]
@[simp] theorem State.setLedger_pending (s : State) (i v : Nat) : (s.setLedger i v).pending = s.pending := rfl
@[simp] theorem State.setLedger_fresh (s : State) (i v : Nat) : (s.setLedger i v).fresh = s.fresh := rfl
@[simp] theorem State.setLedger_out (s : State) (i v : Nat) : (s.setLedger i v).out = s.out := rfl
@[simp] theorem State.setLedger_irq (s : State) (i v : Nat) : (s.setLedger i v).irq = s.irq := rfl
@[simp] theorem State.setLedger_bus (s : State) (i v : Nat) : (s.setLedger i v).bus = s.bus := rfl
@[simp] theorem State.setLedger_cfg (s : State) (i v : Nat) : (s.setLedger i v).cfg = s.cfg := rfl
@[simp] theorem State.setLedger_ovr (s : State) (i v : Nat) : (s.setLedger i v).ovr = s.ovr := rfl
@[simp] theorem State.setLedger_tim (s : State) (i v : Nat) : (s.setLedger i v).tim = s.tim := rfl
@[simp] theorem State.setLedger_ports (s : State) (i v : Nat) : (s.setLedger i v).ports = s.ports := rfl
@[simp] theorem State.setLedger_credits (s : State) (i v : Nat) : (s.setLedger i v).credits = s.credits := rfl
@[simp] theorem State.setLedger_zc (s : State) (i v : Nat) : (s.setLedger i v).zc = s.zc := rfl
@[simp] theorem State.setLedger_gpioCmp (s : State) (i v : Nat) : (s.setLedger i v).gpioCmp = s.gpioCmp := rfl
@[simp] theorem State.setLedger_sunGrid (s : State) (i v : Nat) : (s.setLedger i v).sunGrid = s.sunGrid := rfl
@[simp] theorem State.setLedger_pib (s : State) (i v : Nat) : (s.setLedger i v).pib = s.pib := rfl
@[simp] theorem State.setLedger_gate (s : State) (i v : Nat) : (s.setLedger i v).gate = s.gate := rfl
@[simp] theorem State.setLedger_cru (s : State) (i v : Nat) : (s.setLedger i v).cru = s.cru := rfl
@[simp] theorem State.setLedger_retired (s : State) (i v : Nat) : (s.setLedger i v).retired = s.retired := rfl
@[simp] theorem State.setLedger_pln (s : State) (i v : Nat) : (s.setLedger i v).pln = s.pln := rfl
@[simp] theorem State.setLedger_heldFirings (s : State) (i v : Nat) : (s.setLedger i v).heldFirings = s.heldFirings := rfl
@[simp] theorem State.setLedger_bndPrf (s : State) (i v : Nat) : (s.setLedger i v).bndPrf = s.bndPrf := rfl
@[simp] theorem State.setLedger_bndTch (s : State) (i v : Nat) : (s.setLedger i v).bndTch = s.bndTch := rfl
@[simp] theorem State.setLedger_prf (s : State) (i v : Nat) : (s.setLedger i v).prf = s.prf := rfl
@[simp] theorem State.setLedger_tar (s : State) (i v : Nat) : (s.setLedger i v).tar = s.tar := rfl
@[simp] theorem State.setLedger_lgl (s : State) (i v : Nat) : (s.setLedger i v).lgl = s.lgl := rfl
@[simp] theorem State.setLedger_hlm (s : State) (i v : Nat) : (s.setLedger i v).hlm = s.hlm := rfl
@[simp] theorem State.setLedger_tch (s : State) (i v : Nat) : (s.setLedger i v).tch = s.tch := rfl
@[simp] theorem State.setLedger_jrn (s : State) (i v : Nat) : (s.setLedger i v).jrn = s.jrn := rfl
@[simp] theorem State.setLedger_nand (s : State) (i v : Nat) : (s.setLedger i v).nand = s.nand := rfl
@[simp] theorem State.setLedger_chn (s : State) (i v : Nat) : (s.setLedger i v).chn = s.chn := rfl
@[simp] theorem State.setLedger_pair (s : State) (i v : Nat) : (s.setLedger i v).pair = s.pair := rfl
@[simp] theorem State.setLedger_sec (s : State) (i v : Nat) : (s.setLedger i v).sec = s.sec := rfl
@[simp] theorem State.setLedger_upd (s : State) (i v : Nat) : (s.setLedger i v).upd = s.upd := rfl
@[simp] theorem State.setLedger_pins (s : State) (i v : Nat) : (s.setLedger i v).pins = s.pins := rfl
@[simp] theorem State.setLedger_pwr (s : State) (i v : Nat) : (s.setLedger i v).pwr = s.pwr := rfl
@[simp] theorem State.setLedger_rst (s : State) (i v : Nat) : (s.setLedger i v).rst = s.rst := rfl
@[simp] theorem State.setLedger_mem (s : State) (i v : Nat) : (s.setLedger i v).mem = s.mem := rfl
@[simp] theorem State.setLedger_fuses (s : State) (i v : Nat) : (s.setLedger i v).fuses = s.fuses := rfl
@[simp] theorem State.setLedger_pst (s : State) (i v : Nat) : (s.setLedger i v).pst = s.pst := rfl
@[simp] theorem State.setLedger_ldg (s : State) (i v : Nat) : (s.setLedger i v).ldg = s.ldg := rfl
@[simp] theorem State.setLedger_dsp (s : State) (i v : Nat) : (s.setLedger i v).dsp = s.dsp := rfl
@[simp] theorem State.ledgerAdd_pending (s : State) (i n : Nat) : (s.ledgerAdd i n).pending = s.pending := rfl
@[simp] theorem State.ledgerAdd_fresh (s : State) (i n : Nat) : (s.ledgerAdd i n).fresh = s.fresh := rfl
@[simp] theorem State.ledgerAdd_out (s : State) (i n : Nat) : (s.ledgerAdd i n).out = s.out := rfl
@[simp] theorem State.ledgerAdd_irq (s : State) (i n : Nat) : (s.ledgerAdd i n).irq = s.irq := rfl
@[simp] theorem State.ledgerAdd_bus (s : State) (i n : Nat) : (s.ledgerAdd i n).bus = s.bus := rfl
@[simp] theorem State.ledgerAdd_cfg (s : State) (i n : Nat) : (s.ledgerAdd i n).cfg = s.cfg := rfl
@[simp] theorem State.ledgerAdd_ovr (s : State) (i n : Nat) : (s.ledgerAdd i n).ovr = s.ovr := rfl
@[simp] theorem State.ledgerAdd_tim (s : State) (i n : Nat) : (s.ledgerAdd i n).tim = s.tim := rfl
@[simp] theorem State.ledgerAdd_ports (s : State) (i n : Nat) : (s.ledgerAdd i n).ports = s.ports := rfl
@[simp] theorem State.ledgerAdd_credits (s : State) (i n : Nat) : (s.ledgerAdd i n).credits = s.credits := rfl
@[simp] theorem State.ledgerAdd_zc (s : State) (i n : Nat) : (s.ledgerAdd i n).zc = s.zc := rfl
@[simp] theorem State.ledgerAdd_gpioCmp (s : State) (i n : Nat) : (s.ledgerAdd i n).gpioCmp = s.gpioCmp := rfl
@[simp] theorem State.ledgerAdd_sunGrid (s : State) (i n : Nat) : (s.ledgerAdd i n).sunGrid = s.sunGrid := rfl
@[simp] theorem State.ledgerAdd_pib (s : State) (i n : Nat) : (s.ledgerAdd i n).pib = s.pib := rfl
@[simp] theorem State.ledgerAdd_gate (s : State) (i n : Nat) : (s.ledgerAdd i n).gate = s.gate := rfl
@[simp] theorem State.ledgerAdd_cru (s : State) (i n : Nat) : (s.ledgerAdd i n).cru = s.cru := rfl
@[simp] theorem State.ledgerAdd_retired (s : State) (i n : Nat) : (s.ledgerAdd i n).retired = s.retired := rfl
@[simp] theorem State.ledgerAdd_pln (s : State) (i n : Nat) : (s.ledgerAdd i n).pln = s.pln := rfl
@[simp] theorem State.ledgerAdd_heldFirings (s : State) (i n : Nat) : (s.ledgerAdd i n).heldFirings = s.heldFirings := rfl
@[simp] theorem State.ledgerAdd_bndPrf (s : State) (i n : Nat) : (s.ledgerAdd i n).bndPrf = s.bndPrf := rfl
@[simp] theorem State.ledgerAdd_bndTch (s : State) (i n : Nat) : (s.ledgerAdd i n).bndTch = s.bndTch := rfl
@[simp] theorem State.ledgerAdd_prf (s : State) (i n : Nat) : (s.ledgerAdd i n).prf = s.prf := rfl
@[simp] theorem State.ledgerAdd_tar (s : State) (i n : Nat) : (s.ledgerAdd i n).tar = s.tar := rfl
@[simp] theorem State.ledgerAdd_lgl (s : State) (i n : Nat) : (s.ledgerAdd i n).lgl = s.lgl := rfl
@[simp] theorem State.ledgerAdd_hlm (s : State) (i n : Nat) : (s.ledgerAdd i n).hlm = s.hlm := rfl
@[simp] theorem State.ledgerAdd_tch (s : State) (i n : Nat) : (s.ledgerAdd i n).tch = s.tch := rfl
@[simp] theorem State.ledgerAdd_jrn (s : State) (i n : Nat) : (s.ledgerAdd i n).jrn = s.jrn := rfl
@[simp] theorem State.ledgerAdd_nand (s : State) (i n : Nat) : (s.ledgerAdd i n).nand = s.nand := rfl
@[simp] theorem State.ledgerAdd_chn (s : State) (i n : Nat) : (s.ledgerAdd i n).chn = s.chn := rfl
@[simp] theorem State.ledgerAdd_pair (s : State) (i n : Nat) : (s.ledgerAdd i n).pair = s.pair := rfl
@[simp] theorem State.ledgerAdd_sec (s : State) (i n : Nat) : (s.ledgerAdd i n).sec = s.sec := rfl
@[simp] theorem State.ledgerAdd_upd (s : State) (i n : Nat) : (s.ledgerAdd i n).upd = s.upd := rfl
@[simp] theorem State.ledgerAdd_pins (s : State) (i n : Nat) : (s.ledgerAdd i n).pins = s.pins := rfl
@[simp] theorem State.ledgerAdd_pwr (s : State) (i n : Nat) : (s.ledgerAdd i n).pwr = s.pwr := rfl
@[simp] theorem State.ledgerAdd_rst (s : State) (i n : Nat) : (s.ledgerAdd i n).rst = s.rst := rfl
@[simp] theorem State.ledgerAdd_mem (s : State) (i n : Nat) : (s.ledgerAdd i n).mem = s.mem := rfl
@[simp] theorem State.ledgerAdd_fuses (s : State) (i n : Nat) : (s.ledgerAdd i n).fuses = s.fuses := rfl
@[simp] theorem State.ledgerAdd_pst (s : State) (i n : Nat) : (s.ledgerAdd i n).pst = s.pst := rfl
@[simp] theorem State.ledgerAdd_ldg (s : State) (i n : Nat) : (s.ledgerAdd i n).ldg = s.ldg := rfl
@[simp] theorem State.ledgerAdd_dsp (s : State) (i n : Nat) : (s.ledgerAdd i n).dsp = s.dsp := rfl
@[simp] theorem State.alertPin_pending (s : State)  : (s.alertPin).pending = s.pending := by
  simp only [State.alertPin]; split <;> rfl
@[simp] theorem State.alertPin_regs (s : State)  : (s.alertPin).regs = s.regs := by
  simp only [State.alertPin]; split <;> rfl
@[simp] theorem State.alertPin_fresh (s : State)  : (s.alertPin).fresh = s.fresh := by
  simp only [State.alertPin]; split <;> rfl
@[simp] theorem State.alertPin_bus (s : State)  : (s.alertPin).bus = s.bus := by
  simp only [State.alertPin]; split <;> rfl
@[simp] theorem State.alertPin_cfg (s : State)  : (s.alertPin).cfg = s.cfg := by
  simp only [State.alertPin]; split <;> rfl
@[simp] theorem State.alertPin_ovr (s : State)  : (s.alertPin).ovr = s.ovr := by
  simp only [State.alertPin]; split <;> rfl
@[simp] theorem State.alertPin_tim (s : State)  : (s.alertPin).tim = s.tim := by
  simp only [State.alertPin]; split <;> rfl
@[simp] theorem State.alertPin_ports (s : State)  : (s.alertPin).ports = s.ports := by
  simp only [State.alertPin]; split <;> rfl
@[simp] theorem State.alertPin_credits (s : State)  : (s.alertPin).credits = s.credits := by
  simp only [State.alertPin]; split <;> rfl
@[simp] theorem State.alertPin_zc (s : State)  : (s.alertPin).zc = s.zc := by
  simp only [State.alertPin]; split <;> rfl
@[simp] theorem State.alertPin_gpioCmp (s : State)  : (s.alertPin).gpioCmp = s.gpioCmp := by
  simp only [State.alertPin]; split <;> rfl
@[simp] theorem State.alertPin_sunGrid (s : State)  : (s.alertPin).sunGrid = s.sunGrid := by
  simp only [State.alertPin]; split <;> rfl
@[simp] theorem State.alertPin_pib (s : State)  : (s.alertPin).pib = s.pib := by
  simp only [State.alertPin]; split <;> rfl
@[simp] theorem State.alertPin_gate (s : State)  : (s.alertPin).gate = s.gate := by
  simp only [State.alertPin]; split <;> rfl
@[simp] theorem State.alertPin_cru (s : State)  : (s.alertPin).cru = s.cru := by
  simp only [State.alertPin]; split <;> rfl
@[simp] theorem State.alertPin_retired (s : State)  : (s.alertPin).retired = s.retired := by
  simp only [State.alertPin]; split <;> rfl
@[simp] theorem State.alertPin_pln (s : State)  : (s.alertPin).pln = s.pln := by
  simp only [State.alertPin]; split <;> rfl
@[simp] theorem State.alertPin_heldFirings (s : State)  : (s.alertPin).heldFirings = s.heldFirings := by
  simp only [State.alertPin]; split <;> rfl
@[simp] theorem State.alertPin_bndPrf (s : State)  : (s.alertPin).bndPrf = s.bndPrf := by
  simp only [State.alertPin]; split <;> rfl
@[simp] theorem State.alertPin_bndTch (s : State)  : (s.alertPin).bndTch = s.bndTch := by
  simp only [State.alertPin]; split <;> rfl
@[simp] theorem State.alertPin_prf (s : State)  : (s.alertPin).prf = s.prf := by
  simp only [State.alertPin]; split <;> rfl
@[simp] theorem State.alertPin_tar (s : State)  : (s.alertPin).tar = s.tar := by
  simp only [State.alertPin]; split <;> rfl
@[simp] theorem State.alertPin_lgl (s : State)  : (s.alertPin).lgl = s.lgl := by
  simp only [State.alertPin]; split <;> rfl
@[simp] theorem State.alertPin_hlm (s : State)  : (s.alertPin).hlm = s.hlm := by
  simp only [State.alertPin]; split <;> rfl
@[simp] theorem State.alertPin_tch (s : State)  : (s.alertPin).tch = s.tch := by
  simp only [State.alertPin]; split <;> rfl
@[simp] theorem State.alertPin_jrn (s : State)  : (s.alertPin).jrn = s.jrn := by
  simp only [State.alertPin]; split <;> rfl
@[simp] theorem State.alertPin_nand (s : State)  : (s.alertPin).nand = s.nand := by
  simp only [State.alertPin]; split <;> rfl
@[simp] theorem State.alertPin_chn (s : State)  : (s.alertPin).chn = s.chn := by
  simp only [State.alertPin]; split <;> rfl
@[simp] theorem State.alertPin_pair (s : State)  : (s.alertPin).pair = s.pair := by
  simp only [State.alertPin]; split <;> rfl
@[simp] theorem State.alertPin_sec (s : State)  : (s.alertPin).sec = s.sec := by
  simp only [State.alertPin]; split <;> rfl
@[simp] theorem State.alertPin_upd (s : State)  : (s.alertPin).upd = s.upd := by
  simp only [State.alertPin]; split <;> rfl
@[simp] theorem State.alertPin_pins (s : State)  : (s.alertPin).pins = s.pins := by
  simp only [State.alertPin]; split <;> rfl
@[simp] theorem State.alertPin_pwr (s : State)  : (s.alertPin).pwr = s.pwr := by
  simp only [State.alertPin]; split <;> rfl
@[simp] theorem State.alertPin_rst (s : State)  : (s.alertPin).rst = s.rst := by
  simp only [State.alertPin]; split <;> rfl
@[simp] theorem State.alertPin_mem (s : State)  : (s.alertPin).mem = s.mem := by
  simp only [State.alertPin]; split <;> rfl
@[simp] theorem State.alertPin_fuses (s : State)  : (s.alertPin).fuses = s.fuses := by
  simp only [State.alertPin]; split <;> rfl
@[simp] theorem State.alertPin_pst (s : State)  : (s.alertPin).pst = s.pst := by
  simp only [State.alertPin]; split <;> rfl
@[simp] theorem State.alertPin_ldg (s : State)  : (s.alertPin).ldg = s.ldg := by
  simp only [State.alertPin]; split <;> rfl
@[simp] theorem State.alertPin_dsp (s : State)  : (s.alertPin).dsp = s.dsp := by
  simp only [State.alertPin]; split <;> rfl

end Sys2Proof.Machine
end

