-- ==== Sys2Proof/Laws/Ops.lean ====
section
/-!
SUPPORT. What the named operations do, once each: reading a field after a write, counters, interrupts, alerts, access faults and the outcome of a command.
-/
namespace Sys2Proof.Machine

/-! ## Reading a field after a write -/

theorem Fld.bound_pos (f : Fld) : 0 < f.bound := Nat.two_pow_pos _

/-- Two fields whose lowest bits differ have different keys. -/
theorem Fld.key_ne_lo (f g : Fld) (hf : f.lo < 32) (hg : g.lo < 32) (h : f.lo ≠ g.lo) : f.key ≠ g.key := by
  simp only [Fld.key]
  omega

/-- Two fields at different offsets have different keys. -/
theorem Fld.key_ne_off (f g : Fld) (hf : f.lo < 32 ∧ f.off < 0x1000) (hg : g.lo < 32 ∧ g.off < 0x1000) (h : f.off ≠ g.off) : f.key ≠ g.key := by
  simp only [Fld.key]
  omega

/-- Two fields of different pages have different keys. -/
theorem Fld.key_ne_page (f g : Fld) (hf : f.lo < 32 ∧ f.off < 0x1000 ∧ f.page < 0x1000) (hg : g.lo < 32 ∧ g.off < 0x1000 ∧ g.page < 0x1000)
    (h : f.page ≠ g.page) : f.key ≠ g.key := by
  simp only [Fld.key]
  omega

theorem getD_putField_self (m : SMap Nat) (f : Fld) (v : Nat) : SMap.getD (putField m f v) f.key f.reset = v % f.bound := by
  simp only [putField]
  split
  · rename_i h
    rw [SMap.getD_erase_self, h]
  · rw [SMap.getD_set_self]

theorem getD_putField_ne (m : SMap Nat) (f g : Fld) (v d : Nat) (h : g.key ≠ f.key) :
    SMap.getD (putField m f v) g.key d = SMap.getD m g.key d := by
  simp only [putField]
  split
  · exact SMap.getD_erase_ne m f.key g.key d h
  · exact SMap.getD_set_ne m f.key g.key _ d h

/-- A write to the register store keeps its keys rising. -/
theorem rising_putField (m : SMap Nat) (f : Fld) (v : Nat) (h : SMap.rising m = true) : SMap.rising (putField m f v) = true := by
  simp only [putField]
  split
  · exact SMap.rising_erase m f.key h
  · exact SMap.rising_set m f.key _ h

/-- A field reads as what was written to it, cut to its width. -/
@[simp] theorem State.rd_wr_self (s : State) (f : Fld) (v : Nat) : (s.wr f v).rd f = v % f.bound :=
  getD_putField_self s.regs f v

/-- A write leaves every field of another key as it was. -/
theorem State.rd_wr_ne (s : State) (f g : Fld) (v : Nat) (h : g.key ≠ f.key) : (s.wr f v).rd g = s.rd g :=
  getD_putField_ne s.regs f g v g.reset h

/-- Two states with the same register store read alike. -/
theorem State.rd_congr {s t : State} (h : s.regs = t.regs) (f : Fld) : s.rd f = t.rd f := by
  simp only [State.rd, h]

theorem State.rd_addSat_self (s : State) (f : Fld) (n : Nat) : (s.addSat f n).rd f = min (s.rd f + n) (f.bound - 1) := by
  have hb := f.bound_pos
  simp only [State.addSat, State.rd_wr_self]
  split
  · rename_i h
    rw [Nat.mod_eq_of_lt h]
    omega
  · rw [Nat.mod_eq_of_lt (by omega)]
    omega

theorem State.rd_addSat_ne (s : State) (f g : Fld) (n : Nat) (h : g.key ≠ f.key) : (s.addSat f n).rd g = s.rd g :=
  State.rd_wr_ne s f g _ h

/-- A saturating counter advances by one and stops at its greatest value. -/
theorem State.rd_sat_self (s : State) (f : Fld) : (s.sat f).rd f = min (s.rd f + 1) (f.bound - 1) :=
  State.rd_addSat_self s f 1

theorem State.rd_sat_ne (s : State) (f g : Fld) (h : g.key ≠ f.key) : (s.sat f).rd g = s.rd g :=
  State.rd_wr_ne s f g _ h

/-- A wrapping counter advances by one and passes from its greatest value to 0. -/
theorem State.rd_wrap_self (s : State) (f : Fld) : (s.wrap f).rd f = (s.rd f + 1) % f.bound :=
  State.rd_wr_self s f _

theorem State.rd_wrap_ne (s : State) (f g : Fld) (h : g.key ≠ f.key) : (s.wrap f).rd g = s.rd g :=
  State.rd_wr_ne s f g _ h

/-! ## Updates that leave the register store alone -/

@[simp] theorem State.rd_emit (s : State) (m : OutMsg) (f : Fld) : (s.emit m).rd f = s.rd f := rfl
@[simp] theorem State.rd_tookFree (s : State) (f : Fld) : s.tookFree.rd f = s.rd f := rfl
@[simp] theorem State.rd_setShadow (s : State) (m : Master) (p off : Nat) (w : Word) (f : Fld) : (s.setShadow m p off w).rd f = s.rd f := rfl
@[simp] theorem State.rd_answer (s : State) (w : Word) (f : Fld) : (s.answer w).rd f = s.rd f := rfl
@[simp] theorem State.rd_sendVector (s : State) (v : Nat) (f : Fld) : (s.sendVector v).rd f = s.rd f := State.rd_congr (by simp) f
@[simp] theorem State.rd_setCond (s : State) (v : Nat) (c : Bool) (f : Fld) : (s.setCond v c).rd f = s.rd f := State.rd_congr (by simp) f
@[simp] theorem State.rd_updPage (s : State) (p : Nat) (f : Fld) : (s.updPage p).rd f = s.rd f := State.rd_congr (by simp) f
@[simp] theorem State.rd_alertPin (s : State) (f : Fld) : s.alertPin.rd f = s.rd f := State.rd_congr (by simp) f
@[simp] theorem State.rd_journalRec (s : State) (k : Nat) (l : Bool) (b : List Byte) (f : Fld) : (s.journalRec k l b).rd f = s.rd f :=
  State.rd_congr (by simp) f
@[simp] theorem State.rd_journal (s : State) (k : Nat) (b : List Byte) (f : Fld) : (s.journal k b).rd f = s.rd f := State.rd_congr (by simp) f

/-- A record update reads as its register store does. -/
@[simp] theorem State.rd_mk (x0 x1 x2 x3 x4 x5 x6 x7 x8 x9 x10 x11 x12 x13 x14 x15 x16 x17 x18 x19 x20 x21 x22 x23 x24 x25 x26 x27 x28 x29 x30 x31 x32 x33 x34 x35 x36 x37 x38 x39 x40) (f : Fld) :
    (State.mk x0 x1 x2 x3 x4 x5 x6 x7 x8 x9 x10 x11 x12 x13 x14 x15 x16 x17 x18 x19 x20 x21 x22 x23 x24 x25 x26 x27 x28 x29 x30 x31 x32 x33 x34 x35 x36 x37 x38 x39 x40).rd f = SMap.getD x1 f.key f.reset := rfl

/-- A field of a state's own store. -/
@[simp] theorem State.getD_regs (s : State) (f : Fld) : SMap.getD s.regs f.key f.reset = s.rd f := rfl

/-! ## Alerts and interrupts -/

theorem State.rd_alert_self (s : State) (b : Nat) : (s.alert b).rd F.SMP_ALERT_STAT = (s.rd F.SMP_ALERT_STAT ||| 2 ^ b) % 2 ^ 12 :=
  State.rd_wr_self s F.SMP_ALERT_STAT _

theorem State.rd_alert_ne (s : State) (b : Nat) (g : Fld) (h : g.key ≠ F.SMP_ALERT_STAT.key) : (s.alert b).rd g = s.rd g :=
  State.rd_wr_ne s _ g _ h

/-- An alert stands once it is set. -/
theorem State.alert_set (s : State) (b : Nat) (h : b < 12) : ((s.alert b).rd F.SMP_ALERT_STAT).testBit b = true := by
  rw [State.rd_alert_self, Nat.testBit_mod_two_pow, Nat.testBit_or, Nat.testBit_two_pow_self]
  simp [h]

/-- Delivery changes no field but SMP.ALERT_STAT. -/
theorem State.rd_deliver_ne (s : State) (p : Nat) (g : Fld) (h : g.key ≠ F.SMP_ALERT_STAT.key) : (s.deliver p).rd g = s.rd g := by
  simp only [State.deliver]
  split
  · split
    · exact State.rd_alert_ne s 8 g h
    · rfl
  · exact State.rd_updPage s p g

theorem INT_STAT_key_ne_ALERT_STAT (p : Nat) : (F.INT_STAT p).key ≠ F.SMP_ALERT_STAT.key := by
  simp only [F.INT_STAT, F.SMP_ALERT_STAT, Fld.key, Ret.code]
  omega

/-- Setting bits of a page's INT_STAT: they are set, beside those that were. -/
theorem State.rd_raiseBits_self (s : State) (p m : Nat) : (s.raiseBits p m).rd (F.INT_STAT p) = (s.rd (F.INT_STAT p) ||| m) % 2 ^ 32 := by
  simp only [State.raiseBits]
  rw [State.rd_deliver_ne _ _ _ (INT_STAT_key_ne_ALERT_STAT p), State.rd_wr_self]
  rfl

theorem State.rd_raiseBits_ne (s : State) (p m : Nat) (g : Fld) (h : g.key ≠ (F.INT_STAT p).key) (ha : g.key ≠ F.SMP_ALERT_STAT.key) :
    (s.raiseBits p m).rd g = s.rd g := by
  simp only [State.raiseBits]
  rw [State.rd_deliver_ne _ _ _ ha, State.rd_wr_ne _ _ _ _ h]

/-- Raising an interrupt changes no field but the page's INT_STAT and SMP.ALERT_STAT. -/
theorem State.rd_raise_ne (s : State) (p b : Nat) (g : Fld) (h : g.key ≠ (F.INT_STAT p).key) (ha : g.key ≠ F.SMP_ALERT_STAT.key) :
    (s.raise p b).rd g = s.rd g :=
  State.rd_raiseBits_ne s p (2 ^ b) g h ha

/-- An interrupt stands once it is raised. -/
theorem State.raise_set (s : State) (p b : Nat) (h : b < 32) : ((s.raise p b).rd (F.INT_STAT p)).testBit b = true := by
  simp only [State.raise]
  rw [State.rd_raiseBits_self, Nat.testBit_mod_two_pow, Nat.testBit_or, Nat.testBit_two_pow_self]
  simp [h]

/-- Raising an interrupt clears no other. -/
theorem State.raise_keeps (s : State) (p b i : Nat) (hi : i < 32) (h : (s.rd (F.INT_STAT p)).testBit i = true) :
    ((s.raise p b).rd (F.INT_STAT p)).testBit i = true := by
  simp only [State.raise]
  rw [State.rd_raiseBits_self, Nat.testBit_mod_two_pow, Nat.testBit_or]
  simp [h, hi]

/-! ## The outcome of a command -/

/-- A command answers a next state: its effect's, with SMP_ALERT_N driven and the queue as it was. -/
theorem State.done_eq (s t : State) : s.done t = .next { t.alertPin with pending := s.pending } := rfl

/-- SMP_ALERT_N follows R71 once it is driven. -/
theorem State.alertPin_driven (s : State) : s.alertPin.irq.alertN = s.alertPin.alertLow := by
  have hl : ∀ t : State, t.regs = s.regs → t.alertLow = s.alertLow := fun t h => by
    simp only [State.alertLow, State.rd, h]
  simp only [State.alertPin]
  split
  · rename_i h
    simpa using h
  · rw [hl _ (by simp)]
    rfl

/-- What a meaning puts out stays in the outputs: driving SMP_ALERT_N only adds to them. -/
theorem State.mem_alertPin_out (s : State) (m : OutMsg) (h : m ∈ s.out) : m ∈ s.alertPin.out := by
  simp only [State.alertPin]
  split
  · exact h
  · exact List.mem_cons_of_mem _ h

@[simp] theorem State.emit_out (s : State) (m : OutMsg) : (s.emit m).out = m :: s.out := rfl

/-! ## Access faults -/

/-- A first access fault is recorded whole (R44). -/
theorem State.accErr_first (s : State) (m : Master) (c a : Nat) (h : s.on F.CHIP_ACC_ERR_VALID = false) :
    (s.accErr m c a).rd F.CHIP_ACC_ERR_VALID = 1 ∧ (s.accErr m c a).rd F.CHIP_ACC_ERR_CAUSE = c % 16 ∧
    (s.accErr m c a).rd F.CHIP_ACC_ERR_ADDR = a % 2 ^ 24 ∧ (s.accErr m c a).rd F.CHIP_ACC_ERR_MASTER = masterCode m % 4 := by
  simp only [State.accErr, h, Bool.false_eq_true, if_false]
  refine ⟨?_, ?_, ?_, ?_⟩
  · rw [State.rd_wr_ne _ _ _ _ (by decide), State.rd_wr_ne _ _ _ _ (by decide), State.rd_wr_ne _ _ _ _ (by decide), State.rd_wr_self]
    rfl
  · rw [State.rd_wr_ne _ _ _ _ (by decide), State.rd_wr_self]
    rfl
  · rw [State.rd_wr_self]
    rfl
  · rw [State.rd_wr_ne _ _ _ _ (by decide), State.rd_wr_ne _ _ _ _ (by decide), State.rd_wr_self]
    rfl

/-- A recorded access fault stands until VALID is cleared (R44). -/
theorem State.accErr_stands (s : State) (m : Master) (c a : Nat) (h : s.on F.CHIP_ACC_ERR_VALID = true) : s.accErr m c a = s := by
  simp only [State.accErr, h, if_true]

/-- A write that is let through has its effect. -/
theorem State.guarded_open (s : State) (m : Master) (p off : Nat) (eff : State → State) (h : s.judge m p off = .open) :
    s.guarded m p off eff = eff s := by
  simp only [State.guarded, h]

/-- A read that is answered has its effect. -/
theorem State.guardedRead_open (s : State) (m : Master) (p off : Nat) (eff : State → State) (hd : s.dead = false) (hp : s.pageOn p = true) :
    s.guardedRead m p off eff = eff s := by
  simp only [State.guardedRead, hd, hp]
  rfl

end Sys2Proof.Machine
end

