-- ==== Sys2Proof/Laws/Frames.lean ====
section
/-!
SUPPORT. Frames, step by step: each named operation keeps the frame of the fields it may change.
-/
namespace Sys2Proof.Safety
open Sys2Proof.Machine

theorem after_done {c : Instr} {s u : State} {P : State → Prop} (h : exec c s = s.done u)
    (hp : P { u.alertPin with pending := s.pending }) : After c s P := ⟨_, h, hp⟩

theorem SameBody.refl (s : State) : SameBody s s := by simp [SameBody]

theorem Frame.refl (s : State) (fs : List Fld) : Frame s s fs := ⟨SameBody.refl s, fun _ _ => rfl⟩

theorem Frame.wr {s t : State} {fs : List Fld} (f : Fld) (v : Nat) (hf : f ∈ fs) (h : Frame s t fs) : Frame s (t.wr f v) fs :=
  ⟨h.1, fun g hg => by rw [State.rd_wr_ne t f g v (hg f hf), h.2 g hg]⟩

theorem Frame.addSat {s t : State} {fs : List Fld} (f : Fld) (n : Nat) (hf : f ∈ fs) (h : Frame s t fs) : Frame s (t.addSat f n) fs :=
  Frame.wr f _ hf h

theorem Frame.sat {s t : State} {fs : List Fld} (f : Fld) (hf : f ∈ fs) (h : Frame s t fs) : Frame s (t.sat f) fs := Frame.wr f _ hf h

theorem Frame.wrap {s t : State} {fs : List Fld} (f : Fld) (hf : f ∈ fs) (h : Frame s t fs) : Frame s (t.wrap f) fs := Frame.wr f _ hf h

theorem Frame.alert {s t : State} {fs : List Fld} (b : Nat) (hf : F.SMP_ALERT_STAT ∈ fs) (h : Frame s t fs) : Frame s (t.alert b) fs :=
  Frame.wr F.SMP_ALERT_STAT _ hf h

/-- A change of interrupt delivery and outputs alone keeps any frame. -/
theorem Frame.of_regs {s t u : State} {fs : List Fld} (hb : SameBody t u) (hr : u.regs = t.regs) (h : Frame s t fs) : Frame s u fs := by
  refine ⟨?_, fun g hg => by rw [State.rd_congr hr, h.2 g hg]⟩
  have h1 := h.1
  simp only [SameBody] at hb h1 ⊢
  simp only [hb, h1, and_self]

theorem Frame.emit {s t : State} {fs : List Fld} (m : OutMsg) (h : Frame s t fs) : Frame s (t.emit m) fs := ⟨h.1, h.2⟩

theorem Frame.updPage {s t : State} {fs : List Fld} (p : Nat) (h : Frame s t fs) : Frame s (t.updPage p) fs :=
  Frame.of_regs (by simp [SameBody]) (by simp) h

theorem Frame.setCond {s t : State} {fs : List Fld} (v : Nat) (c : Bool) (h : Frame s t fs) : Frame s (t.setCond v c) fs :=
  Frame.of_regs (by simp [SameBody]) (by simp) h

theorem Frame.sendVector {s t : State} {fs : List Fld} (v : Nat) (h : Frame s t fs) : Frame s (t.sendVector v) fs :=
  Frame.of_regs (by simp [SameBody]) (by simp) h

theorem Frame.alertPin {s t : State} {fs : List Fld} (h : Frame s t fs) : Frame s t.alertPin fs :=
  Frame.of_regs (by simp [SameBody]) (by simp) h

theorem Frame.deliver {s t : State} {fs : List Fld} (p : Nat) (hf : F.SMP_ALERT_STAT ∈ fs) (h : Frame s t fs) : Frame s (t.deliver p) fs := by
  simp only [State.deliver]
  split
  · split
    · exact Frame.alert 8 hf h
    · exact h
  · exact Frame.updPage p h

theorem Frame.raiseBits {s t : State} {fs : List Fld} (p m : Nat) (hp : F.INT_STAT p ∈ fs) (hf : F.SMP_ALERT_STAT ∈ fs) (h : Frame s t fs) :
    Frame s (t.raiseBits p m) fs := Frame.deliver p hf (Frame.wr _ _ hp h)

theorem Frame.raise {s t : State} {fs : List Fld} (p b : Nat) (hp : F.INT_STAT p ∈ fs) (hf : F.SMP_ALERT_STAT ∈ fs) (h : Frame s t fs) :
    Frame s (t.raise p b) fs := Frame.raiseBits p _ hp hf h

theorem Frame.accErr {s t : State} {fs : List Fld} (m : Master) (c a : Nat) (hf : ∀ f ∈ accErrFields, f ∈ fs) (h : Frame s t fs) :
    Frame s (t.accErr m c a) fs := by
  simp only [State.accErr]
  split
  · exact h
  · exact Frame.wr _ _ (hf _ (by simp [accErrFields])) (Frame.wr _ _ (hf _ (by simp [accErrFields]))
      (Frame.wr _ _ (hf _ (by simp [accErrFields])) (Frame.wr _ _ (hf _ (by simp [accErrFields])) h)))

theorem Frame.denyWrite {s t : State} {fs : List Fld} (m : Master) (c p off : Nat) (hf : ∀ f ∈ accErrFields, f ∈ fs)
    (hd : F.CHIP_DENY_CNT ∈ fs) (hp : F.INT_STAT p ∈ fs) (ha : F.SMP_ALERT_STAT ∈ fs) (h : Frame s t fs) :
    Frame s (t.denyWrite m c p off) fs :=
  Frame.raise p 30 hp ha (Frame.sat _ hd (Frame.accErr m c _ hf h))

/-- The outcome of a command keeps its effect's frame. -/
theorem Frame.done {s t : State} {fs : List Fld} (l : List Instr) (h : Frame s t fs) : Frame s { t.alertPin with pending := l } fs := by
  have h2 := Frame.alertPin h
  exact ⟨h2.1, h2.2⟩

theorem Frame.mono {s t : State} {fs gs : List Fld} (hsub : ∀ f ∈ fs, f ∈ gs) (h : Frame s t fs) : Frame s t gs :=
  ⟨h.1, fun g hg => h.2 g (fun f hf => hg f (hsub f hf))⟩

theorem Frame.ite {s t u : State} {fs : List Fld} {c : Prop} [Decidable c] (h1 : Frame s t fs) (h2 : Frame s u fs) : Frame s (if c then t else u) fs := by
  split
  · exact h1
  · exact h2

end Sys2Proof.Safety
end

