-- ==== Sys2Proof/Laws/Pool.lean ====
section
/-!
SUPPORT. Laws of the Crucible's memory: every operation of it keeps the one canonical form, a byte reads as it was last written, and a write leaves every other byte alone.
-/
namespace Sys2Proof.Machine

/-- The canonical form, said over the whole list: offsets rise, and no byte listed is 0. -/
theorem poolWf_iff (m : List Host.Cell) : poolWf m = true ↔ m.Pairwise (fun a b => a.1 < b.1) ∧ ∀ e ∈ m, e.2 ≠ 0 := by
  induction m with
  | nil => simp [poolWf]
  | cons e m ih =>
    obtain ⟨a, b⟩ := e
    cases m with
    | nil => simp [poolWf]
    | cons f m =>
      obtain ⟨c, d⟩ := f
      simp only [poolWf, Bool.and_eq_true, bne_iff_ne, ne_eq, decide_eq_true_eq, ih, List.pairwise_cons, List.mem_cons, forall_eq_or_imp]
      constructor
      · rintro ⟨⟨hb, hac⟩, ⟨hc, hp⟩, hd, hr⟩
        exact ⟨⟨⟨hac, fun x hx => Nat.lt_trans hac (hc x hx)⟩, hc, hp⟩, hb, hd, hr⟩
      · rintro ⟨⟨⟨hac, -⟩, hc, hp⟩, hb, hd, hr⟩
        exact ⟨⟨hb, hac⟩, ⟨hc, hp⟩, hd, hr⟩

/-- What a write lists stood there before, or is the byte written. -/
theorem mem_poolWrite (m : List Host.Cell) (i : Nat) (v : Byte) (e : Host.Cell) (h : e ∈ poolWrite m i v) : e ∈ m ∨ (e = (i, v) ∧ v ≠ 0) := by
  induction m with
  | nil =>
    simp only [poolWrite] at h
    split at h
    · simp at h
    · exact .inr ⟨by simpa using h, ‹_›⟩
  | cons f m ih =>
    obtain ⟨a, b⟩ := f
    simp only [poolWrite] at h
    split at h
    · split at h
      · exact .inl (List.mem_cons_of_mem _ h)
      · rcases List.mem_cons.1 h with h | h
        · exact .inr ⟨h, ‹_›⟩
        · exact .inl (List.mem_cons_of_mem _ h)
    · split at h
      · split at h
        · exact .inl h
        · rcases List.mem_cons.1 h with h | h
          · exact .inr ⟨h, ‹_›⟩
          · exact .inl h
      · rcases List.mem_cons.1 h with h | h
        · exact .inl (h ▸ List.mem_cons_self)
        · exact (ih h).imp (List.mem_cons_of_mem _) id

/-- A write of one byte keeps the canonical form. -/
theorem poolWf_write (m : List Host.Cell) (i : Nat) (v : Byte) (h : poolWf m = true) : poolWf (poolWrite m i v) = true := by
  rw [poolWf_iff] at h ⊢
  refine ⟨?_, fun e he => (mem_poolWrite m i v e he).elim (h.2 e) (fun x => x.1 ▸ x.2)⟩
  have hp := h.1
  clear h
  induction m with
  | nil => simp only [poolWrite]; split <;> simp
  | cons f m ih =>
    obtain ⟨a, b⟩ := f
    obtain ⟨ha, hm⟩ := List.pairwise_cons.1 hp
    simp only [poolWrite]
    split
    · subst_vars
      split
      · exact hm
      · exact List.pairwise_cons.2 ⟨ha, hm⟩
    · split
      · split
        · exact hp
        · refine List.pairwise_cons.2 ⟨fun x hx => ?_, hp⟩
          rcases List.mem_cons.1 hx with hx | hx
          · subst hx; assumption
          · exact Nat.lt_trans ‹_› (ha x hx)
      · refine List.pairwise_cons.2 ⟨fun x hx => ?_, ih hm⟩
        rcases mem_poolWrite m i v x hx with hx | ⟨hx, -⟩
        · exact ha x hx
        · subst hx; simp only; omega

/-- Nothing below its first offset reads as other than 0. -/
theorem poolRead_below (m : List Host.Cell) (i : Nat) (h : ∀ e ∈ m, i < e.1) : poolRead m i = 0 := by
  induction m with
  | nil => rfl
  | cons f m ih =>
    obtain ⟨a, b⟩ := f
    have ha : i < a := h (a, b) List.mem_cons_self
    simp only [poolRead, show a ≠ i by omega, if_false]
    exact ih (fun e he => h e (List.mem_cons_of_mem _ he))

/-- A byte reads as it was written. -/
theorem poolRead_write_self (m : List Host.Cell) (i : Nat) (v : Byte) (h : poolWf m = true) : poolRead (poolWrite m i v) i = v := by
  have hp := ((poolWf_iff m).1 h).1
  clear h
  induction m with
  | nil => simp only [poolWrite]; split <;> simp_all [poolRead]
  | cons f m ih =>
    obtain ⟨a, b⟩ := f
    obtain ⟨ha, hm⟩ := List.pairwise_cons.1 hp
    simp only [poolWrite]
    split
    · subst_vars
      split
      · subst_vars; exact poolRead_below m _ ha
      · simp [poolRead]
    · split
      · split
        · subst_vars
          refine poolRead_below _ _ (fun e he => ?_)
          rcases List.mem_cons.1 he with he | he
          · subst he; assumption
          · exact Nat.lt_trans ‹_› (ha e he)
        · simp [poolRead]
      · simp only [poolRead, show a ≠ i by omega, if_false]
        exact ih hm

/-- A write of one byte leaves every other byte as it was. -/
theorem poolRead_write_ne (m : List Host.Cell) (i j : Nat) (v : Byte) (h : j ≠ i) : poolRead (poolWrite m i v) j = poolRead m j := by
  induction m with
  | nil => simp only [poolWrite]; split <;> simp [poolRead, h.symm]
  | cons f m ih =>
    obtain ⟨a, b⟩ := f
    simp only [poolWrite]
    split
    · subst_vars
      split <;> simp [poolRead, h.symm]
    · split
      · split <;> simp [poolRead, h.symm]
      · simp only [poolRead, ih]

/-- A write of bytes through a packet's cells keeps the canonical form. -/
theorem poolWf_writeBytes (cells : List Nat) (m : List Host.Cell) (i : Nat) (l : List Byte) (h : poolWf m = true) : poolWf (poolWriteBytes cells m i l) = true := by
  induction l generalizing m i with
  | nil => exact h
  | cons b l ih => exact ih _ _ (poolWf_write m _ b h)

/-- A write of bytes leaves every byte alone that is at none of the places written. -/
theorem poolRead_writeBytes_ne (cells : List Nat) (m : List Host.Cell) (i : Nat) (l : List Byte) (j : Nat)
    (h : ∀ k, i ≤ k → k < i + l.length → j ≠ cells.getD (k / 256) 0 * 256 + k % 256) : poolRead (poolWriteBytes cells m i l) j = poolRead m j := by
  induction l generalizing m i with
  | nil => rfl
  | cons b l ih =>
    simp only [poolWriteBytes]
    rw [ih _ _ (fun k hk hl => h k (by omega) (by simp only [List.length_cons]; omega)),
      poolRead_write_ne _ _ _ _ (h i (Nat.le_refl _) (by simp only [List.length_cons]; omega))]

/-- Giving up the bytes of some cells keeps the canonical form. -/
theorem poolWf_filter (p : Host.Cell → Bool) (m : List Host.Cell) (h : poolWf m = true) : poolWf (m.filter p) = true := by
  rw [poolWf_iff] at h ⊢
  exact ⟨h.1.filter p, fun e he => h.2 e (List.mem_filter.1 he).1⟩

/-- Any sequence of changes that each keep the canonical form keeps it. -/
theorem poolWf_foldl {α : Type} (f : List Host.Cell → α → List Host.Cell) (hf : ∀ m a, poolWf m = true → poolWf (f m a) = true)
    (l : List α) (m : List Host.Cell) (h : poolWf m = true) : poolWf (l.foldl f m) = true := by
  induction l generalizing m with
  | nil => exact h
  | cons a l ih => exact ih _ (hf m a h)

/-- The move of a cell (R236): its 256 bytes go to another cell and leave nothing behind; the form is kept. -/
theorem poolWf_move (c d : Nat) (m : List Host.Cell) (h : poolWf m = true) :
    poolWf ((List.range 256).foldl (fun m i => poolWrite (poolWrite m (d * 256 + i) (poolRead m (c * 256 + i))) (c * 256 + i) 0) m) = true :=
  poolWf_foldl _ (fun m _ hm => poolWf_write _ _ _ (poolWf_write m _ _ hm)) _ m h

/-- After reset the memory lists nothing. -/
theorem memory_reset_wf : Memory.wf State.reset = true := by decide

end Sys2Proof.Machine
end

