-- ==== Sys2Proof/WellFormed.lean ====
section
/-!
DEFINITION. Which commands are well formed: operands that the spec's formats allow where their types allow more. A command that is not well formed still has its meaning; the outside world does not send one.
-/
namespace Sys2Proof

/-- Is a command well formed: word addresses aligned (R38), a PCIe link of width 1, 2 or 4 with a speed (R64), a transaction with the data words its LEN names (R66), a reserved opcode in BAD_CMD (R66), 63 characters in a sample-link slot (R113), 32-byte descriptor images and entries (R246, R254), 16 observation levels and cores (R257), at most 32 KiB in an AU (R378), 32-byte heartbeats and health reports (R422, R423), and the lengths of a proof request, a seal and its records (R324, R330, R341)? -/
def Instr.wf (i : Instr) : Bool :=
  match i with
  | .registerWrite _ addr _ _ => addr.toNat % 4 == 0
  | .pairLatchRead _ addr => addr.toNat % 4 == 0
  | .intStatClear _ _ _ => true
  | .intForce _ _ _ => true
  | .lockPage _ _ _ => true
  | .ownerWrite _ _ _ => true
  | .domRst _ _ _ => true
  | .cfgCommit _ _ => true
  | .cfgCommitDone _ => true
  | .cfgDiscard _ _ => true
  | .pcieLinkUp width speed => (width == 1#3 || width == 2#3 || width == 4#3) && speed != 0#2
  | .pcieLinkDown => true
  | .appHostSelect => true
  | .smpRead _ _ _ => true
  | .smpWrite len _ data _ => data.length == len.toNat + 1
  | .smpBadCmd cmd _ _ => decide (128 ≤ cmd.toNat)
  | .smpAbandon op len _ data _ _ fetched => decide (fetched ≤ len.toNat + 1) && (if op == .write then data.length == len.toNat + 1 else data.isEmpty)
  | .ovrMode _ => true
  | .ovrResetFull _ => true
  | .ovrResetDomain _ => true
  | .ovrGiveUp _ => true
  | .ovrCtrlGrant _ => true
  | .ovrCtrlDeny _ => true
  | .ovrLdgDataRead _ => true
  | .timeRateCommit _ _ => true
  | .timeOffsetCommit _ _ => true
  | .timeStepCommit _ _ => true
  | .timeNowRead _ => true
  | .timeConvert _ _ => true
  | .lockSet _ _ => true
  | .lockClr _ _ => true
  | .timeFeed _ _ => true
  | .ppsInEdge => true
  | .sourceMiss => true
  | .srcLost => true
  | .holdDriftTick => true
  | .calendarLoad => true
  | .calendarTrim _ => true
  | .captureFlagsRead _ _ => true
  | .compareFire _ => true
  | .compareRetarget _ _ _ _ => true
  | .ppsOutEnd => true
  | .portEnable _ _ _ => true
  | .portDisable _ _ _ => true
  | .fslSlotRx _ _ _ chars => chars.length == 63
  | .fslCommaLoss _ => true
  | .fslAlignTimeout _ => true
  | .sync _ => true
  | .info _ _ => true
  | .status _ _ => true
  | .txEnd _ _ => true
  | .auxResult _ _ => true
  | .cmdAck _ _ => true
  | .creditRequest _ _ => true
  | .ackCreditRequest _ _ => true
  | .creditGrant _ => true
  | .creditWithdraw _ => true
  | .creditStarve _ => true
  | .txEndTimeout _ => true
  | .creditReleaseDown _ => true
  | .zcEdge _ => true
  | .zcLost _ => true
  | .gpioEdge _ _ => true
  | .gpioPulseEnd _ => true
  | .nplPreambleDetect _ => true
  | .nplHeaderDecode _ _ => true
  | .nplFrameEnd _ _ _ _ _ _ => true
  | .nplAckRx _ _ => true
  | .ackTimeout _ => true
  | .contentionSlot _ _ _ => true
  | .nplBeacon _ => true
  | .toneMapRx _ _ _ _ => true
  | .routeFrameRx _ _ _ _ _ _ => true
  | .routeExpire _ _ => true
  | .routeWaitExpire _ => true
  | .nplJoinRequest _ _ => true
  | .g3Bootstrap _ _ _ => true
  | .g3BeaconRequest _ => true
  | .pibWrite _ _ _ => true
  | .pibRead _ _ => true
  | .heldFrameCommit _ => true
  | .sunSlotStart _ _ => true
  | .lbtBackoffEnd _ _ => true
  | .sunFrameRx _ _ _ _ _ => true
  | .connectReq _ _ => true
  | .connectRsp _ _ _ _ _ => true
  | .sunAckRx _ _ => true
  | .sunAckMissing _ => true
  | .busyRx _ _ _ => true
  | .sunSupervisionTimeout _ _ => true
  | .beaconMissed _ => true
  | .scanDwellEnd _ => true
  | .connectNoAnswer _ => true
  | .mapApply _ _ _ => true
  | .nbrCreate _ _ => true
  | .nbrUnbind _ _ => true
  | .nbrBlock _ _ => true
  | .nbrUnblock _ _ => true
  | .nbrFree _ _ => true
  | .nbrFind _ _ => true
  | .nbrRead _ => true
  | .joinRequest _ _ => true
  | .joinTimeout _ => true
  | .keyInstall _ _ _ => true
  | .keyInstallDone => true
  | .gateCheckpoint => true
  | .rollGraceEnd _ => true
  | .packetStart _ _ => true
  | .reservationWaitEnd _ => true
  | .packetCommit _ _ _ _ _ => true
  | .packetRewind _ => true
  | .packetRelease _ => true
  | .queueFlush _ _ => true
  | .queueRecover _ _ => true
  | .scrubPass _ _ _ => true
  | .hctxAlloc _ _ _ => true
  | .hctxCommit _ _ _ => true
  | .hctxAbort _ _ _ => true
  | .hctxPop _ _ => true
  | .hctxFree _ _ _ => true
  | .bar2Access _ _ _ _ => true
  | .bankDrain _ _ => true
  | .drainRelocate => true
  | .drainEmpty => true
  | .drainTimeout => true
  | .bankRelease _ _ => true
  | .packetPop _ => true
  | .taskDispatch _ => true
  | .linkCheck _ _ => true
  | .decrypt _ => true
  | .validate _ => true
  | .profileUpdate _ => true
  | .tariffAccrual _ => true
  | .merkleLeaf _ => true
  | .balanceContribution _ => true
  | .retire _ => true
  | .itemTask _ => true
  | .codeTaskDone _ _ _ => true
  | .aesOpDone _ _ _ => true
  | .shaOpDone _ => true
  | .pkOpDone _ => true
  | .xferDone _ => true
  | .taskSubmit _ image => image.length == 32
  | .taskTimeout _ => true
  | .sqDoorbell _ _ _ => true
  | .sqFetch _ entry => entry.length == 32
  | .boundaryDrainComplete => true
  | .boundaryDrainLate => true
  | .obsWindowEnd waitMax waitAvg busy => waitMax.length == 16 && waitAvg.length == 16 && busy.length == 16 && busy.all (fun x => decide (x ≤ 1000))
  | .descRead _ => true
  | .profileBoundary => true
  | .setbackSpanRetire => true
  | .fallbackEnter => true
  | .fallbackExit => true
  | .profileRead _ _ => true
  | .profileReadDone _ => true
  | .profileEdit _ _ => true
  | .lockstepMismatch => true
  | .tariffCheckpoint => true
  | .periodClose => true
  | .periodSweepDone => true
  | .sessionChallenge _ => true
  | .sessionOpen _ _ => true
  | .sessionClose _ _ => true
  | .sessionTimeout _ => true
  | .objGet _ _ => true
  | .objSet _ _ => true
  | .actionActivate _ _ => true
  | .actionCancel _ _ => true
  | .actionClose _ _ => true
  | .actionAck _ _ => true
  | .sealInterval => true
  | .sealRelease => true
  | .reseal => true
  | .resealGraceExpire => true
  | .proofRequest _ _ => true
  | .proofDone => true
  | .tchGroupClose => true
  | .tchLocalise => true
  | .modelWrite _ _ => true
  | .modelRelearn _ _ => true
  | .modelHold _ _ => true
  | .modelResume _ _ => true
  | .tchConfigWrite _ _ _ => true
  | .tchDayEval => true
  | .tchCheckpoint => true
  | .auWrite _ _ data => decide (data.length ≤ 32768)
  | .journalAppend _ _ _ => true
  | .journalPageProgram => true
  | .mapPageProgram _ => true
  | .journalRelease => true
  | .gcRelocate _ _ => true
  | .blockRefresh _ _ => true
  | .patrolRead _ _ => true
  | .nandProgFail _ => true
  | .nandRead _ _ _ _ => true
  | .quenchEnd => true
  | .capTest _ _ => true
  | .holdVFall => true
  | .capTestNoFall => true
  | .capRechargeEnd => true
  | .chnLinkUp _ => true
  | .chnFrameRx _ _ => true
  | .linkctl _ _ _ _ _ => true
  | .linkctlSend _ => true
  | .chnRetransmit _ => true
  | .chnLinkTimeout _ => true
  | .creditReturn _ => true
  | .enum _ => true
  | .enumEnd _ _ => true
  | .enumTimeout => true
  | .joinReq => true
  | .joinReqSend => true
  | .addrAccept _ _ => true
  | .unitId _ _ _ => true
  | .unitRevoke _ _ => true
  | .unitForget _ _ => true
  | .batch _ sealB recs => sealB.length == 288 && recs.all (fun r => r.length == 85)
  | .batchAck _ => true
  | .batchReq _ => true
  | .batchReqTimer _ => true
  | .proofReq body => body.length == 12
  | .proofRsp _ _ _ => true
  | .proofUnreachable => true
  | .chnEvent _ _ => true
  | .chnHost _ _ => true
  | .time _ _ _ _ => true
  | .timeReq _ _ => true
  | .timeRsp _ _ => true
  | .timeBeaconSend => true
  | .stampFifoRead _ _ => true
  | .ethFrameRx _ _ _ => true
  | .pauseRx _ _ _ _ => true
  | .pauseRefresh _ => true
  | .heartbeat _ body => body.length == 32
  | .heartbeatSend => true
  | .partnerLost => true
  | .jrec _ _ _ _ _ => true
  | .store _ _ data _ => decide (data.length ≤ 32768)
  | .syncReq _ => true
  | .health body => body.length == 32
  | .healthSend => true
  | .mirLinkDown => true
  | .soloTimeout => true
  | .claimRound _ _ _ _ _ => true
  | .takeoverReady => true
  | .giveUp _ _ => true
  | .rejoin _ _ => true
  | .handover _ _ => true
  | .handoverComplete => true
  | .handoverTimeout => true
  | .ctrlGrant _ _ => true
  | .ctrlDeny _ _ => true
  | .lcToFactory _ _ => true
  | .lcToProvisioned _ _ => true
  | .lcToField _ _ => true
  | .lcToReturn _ _ => true
  | .lcToRetired _ _ => true
  | .lifeChallenge _ => true
  | .debugChallenge _ => true
  | .debugRequest _ _ => true
  | .keySelect _ _ => true
  | .keyImport _ _ _ => true
  | .keyImportPub _ _ _ => true
  | .keyGenerate _ _ _ => true
  | .keyZeroise _ _ _ => true
  | .keyNarrow _ _ _ => true
  | .keyExpire _ => true
  | .annealPass => true
  | .tamper _ => true
  | .attestReport _ _ => true
  | .attestItem _ _ => true
  | .certInstall _ _ => true
  | .imageChunk _ _ => true
  | .imageVerify _ _ => true
  | .imageDelete _ _ => true
  | .imageForward _ _ => true
  | .nodePush _ _ => true
  | .updateChunk _ _ _ => true
  | .updateStored _ _ _ => true
  | .updateApply _ => true
  | .updateStatus _ _ => true
  | .imageResend => true
  | .imgStat _ _ _ _ => true
  | .nodeBlockTimeout _ => true
  | .bundleApply _ _ => true
  | .partBuilt _ => true
  | .updateReset => true
  | .trialPass => true
  | .trialFail => true
  | .fallbackStep => true
  | .updateConfirm _ _ => true
  | .updateReject _ _ => true
  | .confirmTimeout => true
  | .powerOn _ _ _ _ _ => true
  | .vbakRise => true
  | .vbakLost => true
  | .powerFail => true
  | .holdupReturn _ => true
  | .supplyCollapse _ _ => true
  | .mainsOkFall => true
  | .outageEnter => true
  | .mainsOkRise => true
  | .outageExit => true
  | .modeRequest _ _ => true
  | .resetPin _ => true
  | .softwareReset _ _ => true
  | .wdtKick _ _ => true
  | .wdtWarn => true
  | .watchdogExpire => true
  | .preFlushEnd _ => true
  | .domainReset _ => true
  | .domainReady _ => true
  | .domainFault _ => true
  | .domainCreditGrant _ => true
  | .bootEnd _ _ => true
  | .pstSlice => true
  | .pstSliceEnd _ _ _ => true
  | .pstIsolationTimeout => true
  | .pstRetest _ _ => true
  | .pstFullRun _ _ => true
  | .tjSample _ => true
  | .ledgerSecond => true
  | .ledgerCheckpoint => true
  | .succExport _ _ => true
  | .succChunk _ _ => true
  | .succImport _ _ => true
  | .displayUpdate _ _ => true
  | .displayClear _ _ => true
  | .epdFrame => true
  | .lcdFrame => true
  | .frameCrcCheck _ _ => true
  | .panelRailStep => true
  | .dischargeEnd => true
  | .tempStale => true
  | .buttonPress _ => true
  | .legalViewNext => true
  | .registerRead _ addr => addr.toNat % 4 == 0
  | .mirLinkUp _ _ => true
  | .ethLinkUp _ speed => speed != 0#2
  | .ethLinkDown _ => true
  | .ethPauseExpire _ _ => true
  | .refFault _ => true
  | .lockLost _ => true

end Sys2Proof
end

