-- ==== Sys2Proof/Tests/Slice0.lean ====
section
/-!
SUPPORT. Tests: an ill-formed command for each check of well-formedness, results that the spec's own examples and tables give, and for each statement a state and operands that meet its hypotheses.
-/
namespace Sys2Proof.Tests
set_option Elab.async false
open Sys2Proof Sys2Proof.Machine Sys2Proof.Safety

/-- A unit in role mode with every domain on, with the fields of a list set and its role strapped. -/
def tb (l : List (Fld × Nat)) (straps : Nat) : State :=
  (((F.MODE_CUR, 4) :: (F.PWR_DOM_ON, 0xFFF) :: l).foldl (fun (t : State) e => t.wr e.1 e.2)
    { State.reset with pwr := {}, pins := { State.reset.pins with roleSel := BitVec.ofNat 2 straps } })

theorem eraseDups_of_nodup {α : Type} [BEq α] [LawfulBEq α] : ∀ l : List α, l.Nodup → l.eraseDups = l
  | [], _ => by simp
  | a :: l, h => by
    rw [List.nodup_cons] at h
    have hf : l.filter (fun b => !b == a) = l := List.filter_eq_self.2 (fun b hb => by
      simp only [Bool.not_eq_true', beq_eq_false_iff_ne, ne_eq]; rintro rfl; exact h.1 hb)
    rw [List.eraseDups_cons, hf, eraseDups_of_nodup l h.2]

/-- A state whose flow cache is full: 8,192 running atomic tasks of flows 0 to 8,191. -/
def flowFull (s : State) : State :=
  { s with pln := { s.pln with descs := (List.range 8192).map (fun i => (i, { Desc.make 3 9 true i 0 0xFFFF 0 0 [] with st := .running })) } }

theorem flowFull_no_room (s : State) : (flowFull s).flowRoom true 9000 = false := by
  have h : ((flowFull s).pln.descs.filter (fun e => e.2.atomic)).map (fun e => e.2.flow) = List.range 8192 := by
    simp [flowFull, Desc.make, List.filter_map, Function.comp_def]
  simp [State.flowRoom, State.flows, h, eraseDups_of_nodup _ List.nodup_range]

/-! ## Commands that are not well formed -/

theorem test_wf_register_write : Instr.wf (.registerWrite .pcie 0x020042#24 0xF#4 0#32) = false ∧ Instr.wf (.registerWrite .pcie 0x020044#24 0xF#4 0#32) = true := by decide +kernel
theorem test_wf_register_read : Instr.wf (.registerRead .smp 0x020041#24) = false ∧ Instr.wf (.registerRead .smp 0x020040#24) = true := by decide +kernel
theorem test_wf_pair_latch_read : Instr.wf (.pairLatchRead .app 0x008043#24) = false ∧ Instr.wf (.pairLatchRead .app 0x008040#24) = true := by decide +kernel
theorem test_wf_pcie_link_up : Instr.wf (.pcieLinkUp 3#3 2#2) = false ∧ Instr.wf (.pcieLinkUp 4#3 0#2) = false ∧ Instr.wf (.pcieLinkUp 4#3 2#2) = true := by decide +kernel
theorem test_wf_smp_bad_cmd : Instr.wf (.smpBadCmd 0x40#8 0#24 0#8) = false ∧ Instr.wf (.smpBadCmd 0xC0#8 0#24 0#8) = true := by decide +kernel
theorem test_wf_task_submit : Instr.wf (.taskSubmit 0 []) = false ∧ Instr.wf (.taskSubmit 0 (be 32 0)) = true := by decide +kernel
theorem test_wf_sq_fetch : Instr.wf (.sqFetch 0 (be 31 0)) = false ∧ Instr.wf (.sqFetch 0 (be 32 0)) = true := by decide +kernel
theorem test_wf_eth_link_up : Instr.wf (.ethLinkUp 0 0#2) = false ∧ Instr.wf (.ethLinkUp 0 1#2) = true := by decide +kernel
theorem test_wf_proof_req : Instr.wf (.proofReq (be 11 0)) = false ∧ Instr.wf (.proofReq (be 12 0)) = true := by decide +kernel
theorem test_wf_smp_write : Instr.wf (.smpWrite 1#4 0#24 [0#32] 0#8) = false ∧ Instr.wf (.smpWrite 1#4 0#24 [0#32, 0#32] 0#8) = true := by decide +kernel
theorem test_wf_smp_abandon : Instr.wf (.smpAbandon .read 0#4 0#24 [] 0#8 true 2) = false ∧ Instr.wf (.smpAbandon .write 1#4 0#24 [0#32] 0#8 true 0) = false ∧ Instr.wf (.smpAbandon .read 0#4 0#24 [] 0#8 true 1) = true := by decide +kernel
theorem test_wf_fsl_slot : Instr.wf (.fslSlotRx 0 true true (be 62 0)) = false ∧ Instr.wf (.fslSlotRx 0 true true (be 63 0)) = true := by decide +kernel
theorem test_wf_obs_window : (let l := List.replicate 16 0#32; Instr.wf (.obsWindowEnd [] l (List.replicate 16 0)) = false ∧ Instr.wf (.obsWindowEnd l [] (List.replicate 16 0)) = false ∧ Instr.wf (.obsWindowEnd l l []) = false ∧
  Instr.wf (.obsWindowEnd l l (List.replicate 16 1001)) = false ∧ Instr.wf (.obsWindowEnd l l (List.replicate 16 1000)) = true) := by decide +kernel
theorem test_wf_au_write : Instr.wf (.auWrite 0#32 0#32 (List.replicate 32769 0#8)) = false := by
  show decide ((List.replicate 32769 0#8).length ≤ 32768) = false
  rw [List.length_replicate]
  rfl
theorem test_wf_store : Instr.wf (.store 0#32 0#32 (List.replicate 32769 0#8) 0#64) = false := by
  show decide ((List.replicate 32769 0#8).length ≤ 32768) = false
  rw [List.length_replicate]
  rfl
theorem test_wf_batch : Instr.wf (.batch 0#6 (be 287 0) []) = false ∧ Instr.wf (.batch 0#6 (be 288 0) [be 84 0]) = false ∧ Instr.wf (.batch 0#6 (be 288 0) [be 85 0]) = true := by decide +kernel
theorem test_wf_heartbeat : Instr.wf (.heartbeat 1#8 (be 31 0)) = false ∧ Instr.wf (.heartbeat 1#8 (be 32 0)) = true := by decide +kernel
theorem test_wf_health : Instr.wf (.health (be 33 0)) = false ∧ Instr.wf (.health (be 32 0)) = true := by decide +kernel

/-! ## Worked results of the spec -/

/-- R45's example: the PAGE_ID of page CRU and of page FP17. -/
theorem test_page_id : pageMnem 0x020 * 256 + pageInst 0x020 = 0x43525500 ∧ pageMnem (Pg.FP 17) * 256 + pageInst (Pg.FP 17) = 0x46502011 := by decide +kernel

/-- R66's example: the CRC of the request that takes page PRF. -/
theorem test_smp_crc : crc8 [0x40, 0x02, 0x90, 0x28, 0x00, 0x00, 0x00, 0x01] = 0x6D := by decide +kernel

/-- R16's and R19's example: a status word. -/
theorem test_status_word : St.ESTIMATED ||| St.POWER_FAIL ||| St.SHORT ||| St.SEALED = 0x4092 := by decide +kernel

/-- R176: an increment that is coprime with N stands, another one gives way to the next coprime. -/
theorem test_hop : hopEff 23 64 = 23 ∧ hopEff 22 64 = 23 ∧ hopEff 64 64 = 1 := by decide +kernel

/-- R371's example: the sums of a run of three intervals, K = 0.5. -/
theorem test_cusum : cusum 0 51 128 = 0 ∧ cusum 0 674 128 = 546 ∧ cusum 546 602 128 = 1020 ∧ cusum 1020 708 128 = 1600 := by decide +kernel

/-- R537's example: remaining life after 3,652 days of the given temperatures. -/
theorem test_life_left : lifeLeft (378856800 * 3652) (378856800 * 30) = 9995 := by decide +kernel

/-- R536: a band includes its lower edge. -/
theorem test_tj_band : tjBand (-1) = 0 ∧ tjBand 0 = 1 ∧ tjBand 85 = 5 ∧ tjBand 115 = 7 := by decide +kernel

/-- R339's example: the audit path of leaf 2 of 5. -/
theorem test_audit_path : (auditPath 22 2 (List.replicate 5 [])).length = 3 := by decide +kernel

/-- The command table gives no row any bits. -/
theorem test_no_word_spells_a_command : decodeTableWord 32 0x12345678 = none ∧ State.reset.withFetchWord 32 0x12345678 = State.reset := ⟨rfl, rfl⟩

/-- The queue is first in, first out: the front command runs with the rest of the queue. -/
theorem test_queue_order : ∃ t, step { State.reset with pending := [.ppsOutEnd, .sealRelease] } = .next t ∧ t.pending = [.sealRelease] := ⟨_, rfl, rfl⟩

/-! ## States and operands that meet the statements' hypotheses -/

theorem test_wit_step_runs_front_command :
  Safety.Front { State.reset with pending := [.sealRelease, .reseal] } .sealRelease [.reseal] := rfl

theorem test_wit_empty_queue_ticks :
  State.reset.pending = [] ∧ State.reset.mode ≠ Md.OFF ∧ State.reset.mode ≠ Md.VAULT := by decide +kernel

theorem test_wit_alert_pin_follows_every_step :
  ∃ t, step { State.reset with pending := [.sealRelease] } = .next t := ⟨_, rfl⟩

theorem test_wit_refused_writes_have_no_effect :
  Safety.gatedWrite (.unitForget .pcie 1#32) = some (.pcie, Pg.CHN, 0x70) ∧ (tb [] 3).judge .pcie Pg.CHN 0x70 = .unanswered ∧
    State.reset.judge .pcie Pg.CHN 0x70 = .domOff ∧ (tb [(F.OWNER_OWNER Pg.CHN, 1)] 0).judge .pcie Pg.CHN 0x70 = .ownerDeny ∧
    (tb [(F.LOCK_LOCKED Pg.CHN, 1)] 0).judge .pcie Pg.CHN 0x70 = .locked := by decide +kernel

theorem test_wit_off_domain_reads_all_ones :
  Safety.gatedRead (.hctxPop .app 0) = some (.app, Pg.CRU, 0x234) ∧ State.reset.dead = false ∧ State.reset.pageOn Pg.CRU = false ∧
    (pageDomain (0x020234 / 0x1000)).isSome = true ∧ State.reset.pageOn (0x020234 / 0x1000) = false := by decide +kernel

theorem test_wit_reserved_pages_read_zero_and_ignore_writes :
  pageDomain (0x1C0ABC / 0x1000) = none ∧ pageDomain (0x007000 / 0x1000) = none ∧ State.reset.dead = false := by decide +kernel

theorem test_wit_register_read_and_write_of_a_word :
  (let s := ({ tb [] 0 with bus := { (tb [] 0).bus with shadow := [(shadowKey .app Pg.TIME 0x44, 7#32)] } } : State);
    s.dead = false ∧ s.pageOn Pg.TIME = true ∧ (pageDomain (0x008044 / 0x1000)).isSome = true ∧ plainRead (0x008044 / 0x1000) (0x008044 % 0x1000 / 4 * 4) = true ∧
    SMap.find? s.bus.shadow (shadowKey .app (0x008044 / 0x1000) (0x008044 % 0x1000 / 4 * 4)) = some 7#32) ∧
  (SMap.find? (tb [] 0).bus.shadow (shadowKey .app Pg.TIME 0x40) = none) ∧ plainRead Pg.TIME 0x40 = true ∧ (tb [] 0).judge .pcie Pg.PCI 0x48 = .open ∧
  (tb [] 0).judge .pcie (0x020014 / 0x1000) (0x020014 % 0x1000 / 4 * 4) = .open ∧ (tb [] 0).judge .pcie Pg.MIR 0x44 = .open ∧ plainWord Pg.MIR 0x44 = true ∧
  (tb [] 0).legalWord .pcie Pg.MIR 0x44 = false ∧
  (tb [] 0).dead = false ∧ 7#4 ≠ 0xF#4 ∧ (tb [] 0).on F.CHIP_ACC_ERR_VALID = false := by decide +kernel

theorem test_wit_header_commands_do_what_the_header_says :
  (tb [] 0).judge .pcie (0x020#12).toNat 0x10 = .open ∧ (tb [] 0).judge .pcie (0x020#12).toNat 0x18 = .open ∧ (tb [] 0).judge .pcie (0x020#12).toNat 0x24 = .open ∧
  (tb [] 0).judge .pcie (0x020#12).toNat 0x2C = .open ∧ bit 1#32 0 = true ∧ bits 0xD0E50001#32 31 16 = 0xD0E5 ∧ bit 0xD0E50001#32 0 = true ∧
  pageDomain (0x020#12).toNat = some Dom.PKT ∧ Dom.PKT ≠ Dom.AON ∧ (tb [] 0).ovrHolds .reset = false ∧ (tb [] 0).domLocked Dom.PKT = false := by decide +kernel

theorem test_wit_ownership_changes_hands :
  (let s := tb [(F.OWNER_OWNER 0x103, 1)] 0;
   let r := tb [(F.OWNER_OWNER 0x103, 1), (F.SMP_HOST_RECLAIM, 1)] 0;
   let l := tb [(F.LOCK_LOCKED 0x102, 1)] 0;
   s.dead = false ∧ (pageDomain (0x103#12).toNat).isSome = true ∧ s.pageOn (0x103#12).toNat = true ∧ (0x103#12).toNat ≠ Pg.SMP ∧ s.locked 0x103 = false ∧
   s.locked 0x102 = false ∧ s.isMain .pcie = true ∧ s.owner 0x102 = 0 ∧ bit 1#32 0 = true ∧ s.owner 0x103 = 1 ∧ bit 0#32 0 = false ∧
   r.on F.SMP_HOST_RECLAIM = true ∧ r.owner 0x103 = 1 ∧ r.locked 0x103 = false ∧ s.on F.SMP_HOST_RECLAIM = false ∧
   l.owner 0x102 = 0 ∧ l.locked 0x102 = true) := by decide +kernel

theorem test_wit_configuration_commits_1 :
  (let s := tb [] 0;
   let b := tb [(F.CFG_CSTAT_BUSY, 1)] 0;
   let r := tb [(F.CFG_ROLE, 1)] 0;
   let k := ({ s with cfg := { s.cfg with cur := [(F.MIR_CTL_EN.key, 1)] } } : State);
   s.judge .pcie Pg.CFG 0x40 = .open ∧ s.judge .pcie Pg.CFG 0x54 = .open ∧ bits 0xC0A70001#32 31 16 = 0xC0A7 ∧ bit 0xC0A70001#32 0 = true ∧ bits 0#32 31 16 ≠ 0xC0A7 ∧
   b.judge .pcie Pg.CFG 0x40 = .open ∧ b.on F.CFG_CSTAT_BUSY = true ∧ r.judge .pcie Pg.CFG 0x40 = .open ∧ r.rd F.CFG_ROLE ≠ r.role ∧
   bit 0xC0A70001#32 1 = false ∧ s.on F.CFG_CSTAT_BUSY = false ∧ s.rd F.CFG_ROLE = s.role ∧ k.judge .pcie Pg.CFG 0x54 = .open ∧
   SMap.rising k.cfgActs = true ∧ k.cfgActs = [(F.MIR_CTL_EN.key, 1)] ∧ keyClass F.MIR_CTL_EN.key = 2 ∧ keyDomain F.MIR_CTL_EN.key ≠ some Dom.LGL) := by decide +kernel

theorem test_wit_configuration_commits_2 :
  ({ State.reset with cfg := { State.reset.cfg with job := some ⟨1, 1, 0, [], [], true⟩ } } : State).cfg.job = some ⟨1, 1, 0, [], [], true⟩ := rfl

theorem test_wit_host_link_commands :
  (let s := tb [] 0;
   let u := tb [(F.PCI_LINK_UP, 1)] 0;
   let o := tb [(F.PWR_DOM_ON, 1)] 0;
   let p := ({ s with pwr := { s.pwr with hostPend := true } } : State);
   let q := ({ u with pwr := { s.pwr with hostPend := true } } : State);
   s.domOn Dom.UPL = true ∧ s.on F.PCI_LINK_UP = false ∧ u.domOn Dom.UPL = true ∧ o.domOn Dom.UPL = false ∧
   u.on F.PCI_LINK_UP = true ∧ p.pwr.hostPend = true ∧ p.pwr.appHost = false ∧ p.on F.PCI_LINK_UP = false ∧ p.rd F.CFG_HOST_SEL = 0 ∧ q.on F.PCI_LINK_UP = true ∧ q.pwr.hostPend = true) := by decide +kernel

theorem test_wit_smp_transactions :
  (tb [] 0).mode ≠ Md.OFF ∧ crc8 (smpRequest 0 0 0 []) ≠ (0xFF#8).toNat ∧ crc8 (smpRequest 1 0 0 (smpData 0 [])) ≠ (0xFF#8).toNat ∧ 128 ≤ (0x80#8).toNat ∧
  crc8 (0x80#8 :: be 3 0) ≠ (0xFF#8).toNat ∧ crc8 (0x80#8 :: be 3 0) = (BitVec.ofNat 8 (crc8 (0x80#8 :: be 3 0))).toNat ∧
  smpMisaligned 0x008FFC 2 = true ∧ smpMisaligned 0x008FFC 1 = false ∧
  crc8 (smpRequest 0 1 0x008FFC []) = (BitVec.ofNat 8 (crc8 (smpRequest 0 1 0x008FFC []))).toNat ∧
  crc8 (smpRequest 1 1 0x008FFC (smpData 1 [])) = (BitVec.ofNat 8 (crc8 (smpRequest 1 1 0x008FFC (smpData 1 [])))).toNat ∧
  (let s := tb [(F.OWNER_OWNER 8, 1)] 0;
   s.mode ≠ Md.OFF ∧ s.dead = false ∧ s.pageOn 8 = true ∧ (pageDomain (8#12).toNat).isSome = true ∧ s.owner 8 = 1 ∧ (8#12).toNat ≠ Pg.SMP ∧
   crc8 (smpRequest 1 0 (8 * 0x1000 + 0x14) [5#32]) = (BitVec.ofNat 8 (crc8 (smpRequest 1 0 (8 * 0x1000 + 0x14) [5#32]))).toNat) ∧
  (let s := tb [(F.OWNER_OWNER Pg.MIR, 1)] 0;
   let o := tb [(F.PWR_DOM_ON, 1)] 0;
   s.judge .smp Pg.MIR 0x44 = .open ∧ plainWord Pg.MIR 0x44 = true ∧ s.legalWord .smp Pg.MIR 0x44 = false ∧ plainRead Pg.MIR 0x44 = true ∧
   SMap.find? s.bus.shadow (shadowKey .smp Pg.MIR 0x44) = none ∧ (pageDomain Pg.MIR).isSome = true ∧ o.pageOn Pg.MIR = false ∧ o.mode ≠ Md.OFF ∧
   isOverride Pg.MIR 0x44 = false) := by decide +kernel

theorem test_wit_override_commands_1 :
  (let s := tb [] 0;
   let v := 0x5A000000#32;
   s.mode ≠ Md.OFF ∧ bits 0x59000000#32 31 24 ≠ 0x5A ∧ bits v 31 24 = 0x5A ∧
   ({ s with ovr := { s.ovr with running := some .mode } } : State).ovr.running = some .mode ∧
   s.ovr.running ≠ some .mode ∧ s.ovr.waitMode = none ∧ ({ s with pwr := { s.pwr with change := some ⟨Md.SERVICE, []⟩ } } : State).pwr.change.isSome = true ∧
   s.mode ≠ Md.BOOT ∧ s.mode ≠ Md.HOLDUP ∧ s.mode ≠ Md.VAULT ∧ s.ovr.running ≠ some .reset ∧ bits 0x5A000001#32 1 0 = 1 ∧ bits 0x5A000502#32 1 0 = 2 ∧
   s.domLocked (bits 0x5A000502#32 11 8) = false ∧ bits 0x5A000502#32 11 8 ≠ 0 ∧ bits 0x5A000502#32 11 8 < 12 ∧ s.domPowered 5 = true ∧
   State.reset.domPowered 5 = false ∧ State.reset.domLocked 5 = false ∧ (tb [(F.LOCK_LOCKED Pg.SEC, 1)] 0).domLocked 1 = true ∧ bits 0x5A00000F#32 3 0 ≥ 12 ∧
   (let h := ({ tb [(F.MODE_CUR, 9)] 0 with pwr := { s.pwr with quench := true } } : State);
    h.mode = Md.HOLDUP ∧ h.pwr.quench = true ∧ h.ovr.waitReset = false ∧ h.rst.seq = none) ∧
   (let x := ({ tb [(F.MODE_CUR, 1)] 0 with pins := { s.pins with mainGood := false } } : State);
    x.mode = Md.VAULT ∧ x.pins.mainGood = false)) := by decide +kernel

theorem test_wit_override_commands_2 :
  (let s := tb [] 0;
   let a := tb [(F.CLM_CTRL_ARB, 1)] 0;
   let p := tb [(F.CLM_CTRL_ARB, 1), (F.CLM_CTRL_STAT, 1)] 0;
   s.ovr.running ≠ some .claim ∧ s.on F.CLM_CTRL_ARB = false ∧ s.canGiveUp = false ∧ bit 0x5A000001#32 0 = true ∧
   a.on F.CLM_CTRL_ARB = true ∧ a.rd F.CLM_CTRL_STAT ≠ 1 ∧ bit 0x5A000002#32 0 = false ∧ p.on F.CLM_CTRL_ARB = true ∧ p.rd F.CLM_CTRL_STAT = 1 ∧
   bit 0x5A000004#32 0 = false ∧ bit 0x5A000004#32 2 = true ∧ bit 0x5A000002#32 1 = true ∧ bit 0x5A000002#32 2 = false ∧ s.pwr.change = none ∧
   ({ tb [(F.MIR_CTL_EN, 1)] 0 with pair := { s.pair with active := true }, pins := { s.pins with pairSel := 1#2 } } : State).canGiveUp = true ∧ s.dead = false ∧ (tb [(F.SMP_OVR_LDG_SEL, 116)] 0).rd F.SMP_OVR_LDG_SEL ≥ 116 ∧
   s.rd F.SMP_OVR_LDG_SEL < 116 ∧
   SMap.find? ({ s with bus := { s.bus with shadow := [(shadowKey .smp Pg.LDG 0x200, 9#32)] } } : State).bus.shadow (shadowKey .smp Pg.LDG (0x200 + 4 * s.rd F.SMP_OVR_LDG_SEL)) = some 9#32) := by
  decide +kernel

theorem test_wit_time_commits :
  (let s := tb [] 0;
   let r := ({ s with tim := { s.tim with raw := 5, lastCommit := some 0 } } : State);
   r.commitTooSoon = true ∧ r.judge .pcie Pg.TIME 0x64 = .open ∧ r.judge .pcie Pg.TIME 0x5C = .open ∧ r.judge .pcie Pg.TIME 0x6C = .open ∧
   s.commitTooSoon = false ∧ s.judge .pcie Pg.TIME 0x64 = .open ∧ 3996 * 2 ^ 40 ≤ (s.tim.stgRate + 2 ^ 32 * bits 0x400#32 15 0) * 1000 ∧
   (s.tim.stgRate + 2 ^ 32 * bits 0x400#32 15 0) * 1000 ≤ 4004 * 2 ^ 40 ∧ (s.tim.stgRate + 2 ^ 32 * bits 0x3FE#32 15 0) * 1000 < 3996 * 2 ^ 40 ∧
   s.judge .pcie Pg.TIME 0x5C = .open ∧ s.judge .pcie Pg.TIME 0x6C = .open ∧ s.partnered = false ∧
   0 ≤ (s.now : Int) + (BitVec.ofNat 64 (s.tim.stgStep + 2 ^ 32 * (1#32).toNat)).toInt) := by decide +kernel

theorem test_wit_time_reads_and_quality :
  (let s := tb [] 0;
   s.dead = false ∧ s.pageOn Pg.TIME = true ∧ s.judge .app Pg.TIME 0x7C = .ownerDeny ∧ s.judge .pcie Pg.TIME 0x7C = .open ∧ s.judge .pcie Pg.TIME 0xA0 = .open ∧
   bit 1#32 0 = true ∧ bit 1#32 1 = false ∧ bit 2#32 0 = false ∧ bit 2#32 1 = true ∧
   (tb [(F.TIME_SRC_SEL, 2)] 0).judge .pcie Pg.TIME 0xA4 = .open ∧ (tb [(F.TIME_SRC_SEL, 2)] 0).rd F.TIME_SRC_SEL = 2 ∧
   (tb [(F.TIME_SRC_SEL, 2), (F.TIME_QSTAT_MISSED, 1)] 0).rd F.TIME_QSTAT_MISSED ≠ 0 ∧ s.mode ≠ Md.OFF ∧ s.mode ≠ Md.VAULT ∧
   (tb [(F.TIME_CAP_FLAGS_VALID 0, 1)] 0).on (F.TIME_CAP_FLAGS_VALID 0) = true ∧ (tb [(F.TIME_SRC_SEL, 3)] 0).srcSel = 3 ∧
   (tb [(F.TIME_SRC_SEL, 3)] 0).srcSel ≠ 0 ∧ (tb [(F.TIME_SRC_SEL, 3), (F.TIME_QSTAT_MISSED, 2)] 0).rd F.TIME_QSTAT_MISSED = 2 ∧
   (tb [(F.TIME_SRC_SEL, 3)] 0).rd F.TIME_QSTAT_MISSED ≠ 2) := by decide +kernel

theorem test_wit_holdover_calendar_and_compare :
  (let s := tb [] 0;
   let ep := fun (q : BitVec 8) => { s with tim := { s.tim with epochs := [⟨0, 0, 0, 0x40000000000, q⟩] } };
   let c := tb [(F.TIME_CMP_CTL_EN 15, 1)] 0;
   let d := tb [(F.TIME_CMP_CTL_EN 15, 1), (F.TIME_CMP_PER_LO 15, 5)] 0;
   (ep 0#8).tim.cur.qual.getLsbD 3 = false ∧ (ep 1#8).tim.cur.qual.toNat % 8 ≠ 0 ∧ (ep 8#8).tim.cur.qual.getLsbD 3 = true ∧
   c.on (F.TIME_CMP_CTL_EN 15) = true ∧ (c.cmpUnit 15).next ≤ c.now ∧ c.cmpPer 15 = 0 ∧ d.on (F.TIME_CMP_CTL_EN 15) = true ∧ (d.cmpUnit 15).next ≤ d.now ∧
   d.cmpPer 15 ≠ 0 ∧ d.rd (F.TIME_CMP_CTL_DEST 15) = 0 ∧ (ep 0#8).tim.cur.qual.toNat % 8 = 0 ∧
   (let e := tb [(F.TIME_CMP_CTL_EN 15, 1), (F.TIME_CMP_CTL_DEST 15, 1)] 0;
    e.on (F.TIME_CMP_CTL_EN 15) = true ∧ (e.cmpUnit 15).next ≤ e.now ∧ e.rd (F.TIME_CMP_CTL_DEST 15) = 1 ∧ e.drivesPps 15 = true) ∧ s.judge .pcie Pg.TIME (0x200 + 0x20 * 15 + 0x04) = .open ∧
   s.judge .pcie Pg.TIME (0x200 + 0x20 * 15 + 0x0C) = .open ∧ ({ s with tim := { s.tim with ppsHigh := true } } : State).tim.ppsHigh = true) := by decide +kernel

theorem test_wit_port_enable_and_link_1 :
  (let s := tb [] 0;
   let e := tb [(F.FP_CTL_EN 63, 1)] 0;
   let a := tb [(F.FP_FSL_STAT_STATE 63, 1)] 0;
   let r := tb [(F.FP_CTL_EN 63, 1), (F.FP_FSL_STAT_STATE 63, 1)] 0;
   let u := tb [(F.FP_FSL_STAT_STATE 63, 2)] 0;
   let o := tb [(F.PWR_DOM_ON, 1)] 0;
   let b := ({ u with ports := [(63, { bad := 7 })] } : State);
   let c := List.replicate 61 0#8 ++ be 2 (crc16 (List.replicate 61 0#8));
   s.judge .pcie (Pg.FP 63) 0x40 = .open ∧ s.on (F.FP_CTL_EN 63) = false ∧ bit 1#32 0 = true ∧ e.judge .pcie (Pg.FP 63) 0x40 = .open ∧ e.portRuns 63 = true ∧
   s.mode ≠ Md.OUTAGE ∧ s.rd (F.FP_FSL_STAT_STATE 63) = 0 ∧ r.portRuns 63 = true ∧ r.rd (F.FP_FSL_STAT_STATE 63) ≠ 0 ∧ r.on (F.FP_CTL_EN 63) = true ∧
   bits 1#32 5 4 ≠ 2 ∧ e.on (F.FP_CTL_EN 63) = true ∧ bits 0x11#32 5 4 ≠ r.rd (F.FP_CTL_PERS 63) ∧ bit 0#32 0 = false ∧
   u.rd (F.FP_FSL_STAT_STATE 63) = 2 ∧ (u.port 63).pers ≠ 2 ∧ slotGood true true c = true ∧ (c.getD 0 0).getLsbD 0 = false ∧ (c.getD 0 0).getLsbD 1 = false ∧
   a.afeHeard 63 = true ∧ slotGood false true [] = false ∧ a.linkUp 63 = false ∧ (u.port 63).bad < 7 ∧ u.linkUp 63 = true ∧ a.rd (F.FP_FSL_STAT_STATE 63) = 1 ∧
   b.afeHeard 63 = true ∧ b.linkUp 63 = true ∧ 7 ≤ (b.port 63).bad ∧ (b.port 63).pers ≠ 2) := by decide +kernel

theorem test_wit_port_enable_and_link_2 :
  (((tb [] 0).wr (F.FP_CTL_PERS 63) 3).wr (F.FP_CTL_EN 63) 1).portRuns 63 = false := by decide +kernel

theorem test_wit_front_end_messages :
  (let a := tb [(F.FP_FSL_STAT_STATE 0, 1)] 0;
   let u := tb [(F.FP_FSL_STAT_STATE 0, 2)] 0;
   let b := ({ u with ports := [(0, { bursts := [⟨5, 0, 9, 0, false, true, 100, 0, false⟩] })] } : State);
   a.afeHeard 0 = true ∧ a.linkUp 0 = false ∧ u.afeHeard 0 = true ∧ u.linkUp 0 = true ∧ (1#64).toNat % 256 ≠ 0 ∧
   (0x0001000000000000#64).toNat / 2 ^ 48 % 256 = 1 ∧ (0#64).toNat / 2 ^ 48 % 256 ≠ 1 ∧
   (b.port 0).bursts.find? (fun b => b.tag == (0x10005#64).toNat % 256) = some ⟨5, 0, 9, 0, false, true, 100, 0, false⟩ ∧
   (b.port 0).bursts.find? (fun b => b.tag == (0x10004#64).toNat % 256) = none ∧ (0x10005#64).getLsbD 16 = true) := by decide +kernel

theorem test_wit_transmit_credits_1 :
  (let u := tb [(F.FP_FSL_STAT_STATE 7, 2), (F.FP_TX_DRAW 7, 100)] 0;
   let r := CreditReq.mk 7 100 5 0 true false;
   let q := ({ u with credits := [r] } : State);
   let g := ({ tb [(F.FP_FSL_STAT_STATE 7, 2), (F.FP_TX_DRAW 7, 100), (F.ARB_TX_BUDGET, 100)] 0 with credits := [r] } : State);
   let d := tb [(F.FP_FSL_STAT_STATE 7, 2), (F.FP_TX_DRAW 7, 100), (F.ARB_ACK_RSV, 99), (F.ARB_TX_BUDGET, 99)] 0;
   let b := tb [(F.FP_FSL_STAT_STATE 7, 2), (F.FP_TX_DRAW 7, 100), (F.ARB_ACK_RSV, 99), (F.ARB_TX_BUDGET, 200)] 0;
   let w := ({ q with ports := [(7, { pers := 2 })] } : State);
   let x := ({ q with ports := [(7, { bursts := [⟨5, 0, 9, 0, false, true, 100, 0, true⟩] })] } : State);
   u.mayTransmit 7 = true ∧ (tb [] 0).mayTransmit 7 = false ∧ u.credits.any (fun r => r.port == 7) = false ∧ u.modemTested 7 = false ∧ u.rd F.ARB_ACK_USED + u.draw 7 ≤ u.rd F.ARB_ACK_RSV ∧
   u.rd F.ARB_ACK_RSV < 2 ^ 16 ∧ d.mayTransmit 7 = true ∧ d.modemTested 7 = false ∧ d.rd F.ARB_ACK_RSV < d.rd F.ARB_ACK_USED + d.draw 7 ∧ d.txBudget < d.rd F.ARB_TX_USED + d.draw 7 ∧
   b.mayTransmit 7 = true ∧ b.rd F.ARB_ACK_RSV < b.rd F.ARB_ACK_USED + b.draw 7 ∧ b.rd F.ARB_TX_USED + b.draw 7 ≤ b.txBudget ∧ b.txBudget < 2 ^ 16 ∧ b.modemTested 7 = false ∧
   (grantable g.credits).find? (fun x => x.port == 7) = some r ∧ g.modemTested 7 = false ∧ g.mayTransmit 7 = true ∧ g.rd F.ARB_TX_USED + r.draw ≤ g.txBudget ∧ g.txBudget < 2 ^ 16 ∧ (g.sun 7).lbt = none ∧
   q.credits.any (fun r => r.port == 7) = true ∧ (q.port 7).pers ≠ 2 ∧ (q.port 7).tx = none ∧ w.credits.any (fun r => r.port == 7) = true ∧
   (w.port 7).pers = 2 ∧ q.credits.any (fun r => r.port == 7 && !r.starved) = true ∧ (x.port 7).bursts.head? = some ⟨5, 0, 9, 0, false, true, 100, 0, true⟩ ∧ (x.port 7).bursts.length = 1) := by decide +kernel

theorem test_wit_transmit_credits_2 :
  (let q := ({ tb [] 0 with credits := [CreditReq.mk 7 100 5 0 true false], ports := [(7, { tx := some {} })] } : State);
   q.credits.any (fun r => r.port == 7) = true ∧ (q.port 7).pers ≠ 2 ∧ (q.port 7).tx.isSome = true ∧ 0 + 1 < q.rdIn (F.FM_RETRY_MAX_DEFER 7) 1 255) := by decide +kernel

theorem test_wit_zero_crossings_and_pins :
  (let s := tb [(F.GPIO_ZC_CTL_EN, 7), (F.GPIO_ZC_STAT_LOST 2, 1)] 0;
   let o := tb [(F.GPIO_ZC_CTL_EN, 7), (F.GPIO_ZC_STAT_LOST 2, 0)] 0;
   let r := ({ s with zc := [(3, { rebuild := [1, 2, 3] })] } : State);
   let j := ({ o with zc := [(3, { period := 20000000 * 65536 })] } : State);
   let n := ({ o with zc := [(3, { period := 20000000 * 65536 })], tim := { o.tim with raw := 5000000 + (o.rdIn F.GPIO_ZC_CTL_DEGLITCH 10 255 * 250 + o.rd (F.GPIO_ZC_COMP 2) / 4) } } : State);
   let g := ({ tb [(F.GPIO_PULSE, 1), (F.GPIO_DIR, 0x8000), (F.GPIO_FUNC, 0x40000000)] 0 with gpioCmp := 0x8000#16 } : State);
   let i := tb [(F.GPIO_INT_RISE, 0x8000)] 0;
   s.domOn Dom.IOX = true ∧ (s.rd F.GPIO_ZC_CTL_EN).testBit 2 = true ∧ s.on (F.GPIO_ZC_STAT_LOST 2) = true ∧ (s.zcOf 3).rebuild.length < 3 ∧
   r.on (F.GPIO_ZC_STAT_LOST 2) = true ∧ 3 ≤ (r.zcOf 3).rebuild.length ∧ j.on (F.GPIO_ZC_STAT_LOST 2) = false ∧ j.rd F.GPIO_ZC_JIT_TH * 65536 < (j.zcOf 3).period ∧
   j.raw - (j.rdIn F.GPIO_ZC_CTL_DEGLITCH 10 255 * 250 + j.rd (F.GPIO_ZC_COMP 2) / 4) = (j.zcOf 3).last ∧ o.on (F.GPIO_ZC_STAT_LOST 2) = false ∧
   (n.raw - (n.rdIn F.GPIO_ZC_CTL_DEGLITCH 10 255 * 250 + n.rd (F.GPIO_ZC_COMP 2) / 4) - (n.zcOf 3).last) * 4 * 65536 = (n.zcOf 3).period ∧
   15385000 * 65536 ≤ (n.zcOf 3).period ∧ (n.zcOf 3).period ≤ 22222000 * 65536 ∧ n.on (F.GPIO_ZC_STAT_LOST 2) = false ∧
   g.gpioCmp.getLsbD 15 = true ∧ g.rd F.GPIO_PULSE ≠ 0 ∧ g.pinLevel 15 = some true ∧ g.pinCompare 15 = true ∧ g.pinArb 15 = false ∧ g.pinCap 15 = false ∧
   i.domOn Dom.IOX = true ∧ i.pinLevel 15 = none ∧ i.pinIn 15 ≠ true ∧ (i.rd F.GPIO_INT_RISE).testBit 15 = true) := by decide +kernel

theorem test_wit_plc_reception_1 :
  (let s := tb [(F.FP_FSL_STAT_STATE 0, 2)] 0;
   let x := ({ ft := 2, mode := 0, tmi := 0, nsym := 0, prio := 0, ph := 0, ar := false, info := 0 } : NplHdr);
   let r := ({ s with ports := [(0, { rxStamp := some 5, hdr := some x })] } : State);
   let q := ({ s with ports := [(0, { pers := 1, rxStamp := some 5, hdr := some { x with ft := 0 } })] } : State);
   let f := (⟨[], 0, 0, false, false, 0, 0, false, false⟩ : RxFrame);
   let k := ({ s with ports := [(0, { rxStamp := some 5, held := [f] })] } : State);
   let h := fun (v : Nat) => BitVec.ofNat 48 (v * 256 + crc8 (be 5 v));
   s.plcUp 0 = true ∧ s.modemTested 0 = false ∧ r.plcUp 0 = true ∧ (r.port 0).rxStamp.isSome = true ∧ r.hdrGood 0 1#48 = false ∧ r.hdrGood 0 (h (2 ^ 38)) = true ∧
   (nplHdrOf (h (2 ^ 38))).ft = 1 ∧ k.hdrGood 0 (h 0) = true ∧ (nplHdrOf (h 0)).ft ≠ 1 ∧ (k.port 0).held ≠ [] ∧ (r.port 0).hdr = some x ∧ (r.port 0).rxStamp = some 5 ∧
   (q.port 0).hdr = some { x with ft := 0 } ∧ (true && q.plcFrameOk 0 [0#8]) = false ∧ (s.port 0).held = [] ∧ (k.port 0).held.head? = some f ∧ k.portRoom 0 = true ∧
   (nplHdrOf (h 0)).ft = 0 ∧ r.hdrGood 0 (h 0) = true ∧ (r.port 0).held = [] ∧
   ((r.setPort 0 { r.port 0 with hdr := some (nplHdrOf (h 0)), reservedTo := r.raw + r.hdrResv 0 (nplHdrOf (h 0)) }).wr (F.FY_LAST_MODE 0) 0).portRoom 0 = true) := by decide +kernel

theorem test_wit_plc_reception_2 :
  (let s := ({ tb [(F.FP_FSL_STAT_STATE 0, 2)] 0 with ports := [(0, { pers := 1, rxStamp := some 5 })] } : State);
   (true && s.plcFrameOk 0 (List.replicate 20 0#8 ++ be 4 (crc32 (List.replicate 20 0#8)))) = true ∧
   ({ tb [(F.PWR_DOM_ON, 1)] 0 with ports := s.ports } : State).portRoom 0 = false) := by decide +kernel

theorem test_wit_plc_transmission_1 :
  (let s := tb [(F.FP_FSL_STAT_STATE 1, 2), (F.FP_TX_DRAW 1, 10)] 0;
   let x := ({ bytes := [0#8, 0#8], cell := some 0, dst := 5, next := 5, prio := 1, ar := true, mode := 2, waitAck := true } : NplTx);
   let r := ({ s with ports := [(1, { tx := some x })] } : State);
   let y := ({ s with ports := [(1, { tx := some { x with retries := 7 } })] } : State);
   let z := ({ s with ports := [(1, { tx := some { x with waitAck := false, slot := some 3 }, bursts := [⟨1, 0, 1, 0, false, false, 1, 0, false⟩] })] } : State);
   let w := ({ s with ports := [(1, { routeHeld := [x] })] } : State);
   let h := BitVec.ofNat 48 (2 ^ 38 * 256 + crc8 (be 5 (2 ^ 38)));
   (r.port 1).tx = some x ∧ r.plcUp 1 = true ∧ hcsOk h = true ∧ (nplHdrOf h).ft = 1 ∧ x.waitAck = true ∧ (nplHdrOf h).mode < 6 ∧
   (nplHdrOf h).info = field x.bytes (x.bytes.length - 2) 2 ∧ x.retries < min 7 (r.rd (F.FM_RETRY_MAX 1)) ∧
   (y.port 1).tx = some { x with retries := 7 } ∧ min 7 (y.rd (F.FM_RETRY_MAX 1)) ≤ 7 ∧ (w.port 1).routeHeld.head? = some x ∧ (s.port 1).routeHeld = [] ∧
   (z.port 1).tx = some { x with waitAck := false, slot := some 3 } ∧ z.plcUp 1 = true ∧ (false || (z.energyNow 1 false).mediumBusy 1) = false ∧
   ((z.energyNow 1 false).heldTag 1).isSome = true ∧ (z.energyNow 1 false).mayTransmit 1 = true) := by decide +kernel

theorem test_wit_plc_transmission_2 :
  (let s := ({ tb [(F.FP_FSL_STAT_STATE 1, 2), (F.FM_NET_ID 1, 5), (F.ARB_TX_BUDGET, 60000)] 0 with ports := [(1, { pers := 1 })] } : State);
   let g := ({ s with ports := [] } : State);
   let b := ({ s with ports := [(1, { pers := 1, beaconDue := true, bursts := [⟨1, 0, 1, 0, false, false, 1, 0, false⟩] })] } : State);
   let u := ((b.energyNow 1 false).nextTx 1).drawSlot 1;
   s.plcUp 1 = true ∧ (s.port 1).pers = 1 ∧ s.rd (F.FM_NET_ID 1) ≠ 0xFFFF ∧ s.mayTransmit 1 = true ∧ s.heldTag 1 = none ∧ s.credits.any (fun r => r.port == 1) = false ∧
   (b.heldTag 1).isSome = true ∧ b.plcUp 1 = true ∧ (b.port 1).pers = 1 ∧ b.mayTransmit 1 = true ∧ (u.port 1).beaconDue = true ∧ u.mediumBusy 1 = false ∧ (u.heldTag 1).isSome = true ∧
   u.mayTransmit 1 = true ∧ g.plcUp 1 = true ∧ (g.port 1).pers = 0 ∧ g.rd (F.FM_NET_ID 1) ≠ 0xFFFF) := by decide +kernel

theorem test_wit_plc_network_tables :
  (let s := ({ tb [(F.FP_FSL_STAT_STATE 2, 2)] 0 with ports := [(2, { pers := 1, routes := [(9, ⟨1, 1, 1, 0, true, 0⟩)] })] } : State);
   let o := ({ s with tim := { s.tim with raw := 2 ^ 63 } } : State);
   let g := tb [(F.FP_FSL_STAT_STATE 2, 2)] 0;
   let j := tb [(F.FP_FSL_STAT_STATE 2, 2), (F.FM_NET_ID 2, 5), (F.FM_JOIN_PERMIT 2, 1), (F.FP_NODE_LIMIT 2, 0)] 0;
   let k := tb [(F.FP_FSL_STAT_STATE 2, 2), (F.FM_NET_ID 2, 5), (F.FM_JOIN_PERMIT 2, 1), (F.FP_NODE_LIMIT 2, 10)] 0;
   let one := fun (t : State) => ({ t with ports := [(2, { pers := 1 })] } : State);
   let jj := one j;
   let kk := one k;
   let gg := one g;
   s.plcUp 2 = true ∧ (SMap.find? (s.port 2).routes 9).isSome = true ∧ (s.port 2).routes.length < 1024 ∧ SMap.find? (s.port 2).routes 9 = some ⟨1, 1, 1, 0, true, 0⟩ ∧
   0 + o.routeLife 2 * 15000000000 ≤ o.raw ∧ s.raw < 0 + s.routeLife 2 * 15000000000 ∧
   gg.plcUp 2 = true ∧ g.plcUp 2 = true ∧ g.domOn Dom.PKT = true ∧ g.joinPermitted 2 = false ∧ (gg.port 2).pers = 1 ∧ (g.port 2).pers = 0 ∧
   j.joinPermitted 2 = true ∧ j.roomFor 2 7 = false ∧ jj.joinPermitted 2 = true ∧ jj.roomFor 2 7 = false ∧ k.joinPermitted 2 = true ∧ k.roomFor 2 7 = true ∧
   kk.roomFor 2 7 = true ∧ kk.joinPermitted 2 = true ∧ (k.gateJoin 2 7).1 = .joining 0 ∧ g.judge .pcie (Pg.FM 2) 0x74 = .open ∧ g.dead = false ∧ g.pageOn (Pg.FM 2) = true) := by decide +kernel

theorem test_wit_sun_slots_and_reception :
  (let s := ({ tb [(F.FP_FSL_STAT_STATE 33, 2)] 0 with ports := [(33, { pers := 2 })] } : State);
   let d := ({ tb [(F.FP_FSL_STAT_STATE 33, 1)] 0 with ports := [(33, { pers := 2 })], tim := { s.tim with raw := 8 * s.esTicks 33 } } : State);
   let e := ({ s with tim := { s.tim with raw := 8 * s.esTicks 33 } } : State);
   let l := ({ tb [(F.FP_FSL_STAT_STATE 33, 2), (F.FY_SUN_LBT_TIME 33, 5)] 0 with ports := [(33, { pers := 2, sun := { lbt := some ⟨.data, [], 3, 3, 0, 0, 0, false, 0, false⟩ } })] } : State);
   let k := ({ tb [(F.FP_FSL_STAT_STATE 33, 2), (F.FY_SUN_LBT_TIME 33, 5)] 0 with ports := [(33, { pers := 2, sun := { lbt := some ⟨.data, [], 3, 3, 15, 0, 0, false, 0, false⟩ } })] } : State);
   let x := ({ bytes := [], cell := 1, dst := 2, seq := 9, prio := 1, ar := true, waitAck := true } : SunTx);
   let a := ({ s with ports := [(33, { pers := 2, sun := { tx := some x } })] } : State);
   let b := ({ s with ports := [(33, { pers := 2, sun := { tx := some { x with retries := 7 } } })] } : State);
   s.sunUp 33 = true ∧ (s.port 33).pers = 2 ∧ s.rd (F.FP_FSL_STAT_STATE 33) ≠ 0 ∧ d.linkUp 33 = false ∧ isBeaconSlot (d.sunEc 33) = false ∧ d.rd (F.FP_FSL_STAT_STATE 33) ≠ 0 ∧ (d.port 33).pers = 2 ∧
   e.linkUp 33 = true ∧ (e.sun 33).member = false ∧ e.sunEc 33 % 16 = 8 ∧ (e.port 33).bursts = [] ∧ e.credits = [] ∧
   (l.sun 33).lbt = some ⟨.data, [], 3, 3, 0, 0, 0, false, 0, false⟩ ∧ l.sunUp 33 = true ∧ l.sunLt 33 ≠ 0 ∧ 0 + 1 < l.rdIn (F.FY_SUN_MAX_CCA 33) 1 16 ∧
   (k.sun 33).lbt = some ⟨.data, [], 3, 3, 15, 0, 0, false, 0, false⟩ ∧ k.rdIn (F.FY_SUN_MAX_CCA 33) 1 16 ≤ 15 + 1 ∧ k.credits = [] ∧ (k.port 33).bursts = [] ∧
   s.modemTested 33 = false ∧ ([] : List Byte).length ≤ 251 ∧ 251 < (List.replicate 252 0#8).length ∧
   (a.sun 33).tx = some x ∧ x.waitAck = true ∧ x.seq = (9#32).toNat ∧ x.retries < min 7 (a.rd (F.FM_SUN_RETRY 33)) ∧
   (b.sun 33).tx = some { x with retries := 7 } ∧ min 7 (b.rd (F.FM_SUN_RETRY 33)) ≤ 7) := by decide +kernel

theorem test_wit_sun_membership_and_maps_1 :
  (let s := fun (l : List (Fld × Nat)) => ({ tb ((F.FP_FSL_STAT_STATE 33, 2) :: l) 0 with ports := [(33, { pers := 2 })] } : State);
   let q := s [(F.FM_SUN_MSTATE 33, 2)];
   let c := s [(F.FM_SUN_MSTATE 33, 3), (F.FM_SUN_MISSED 33, 2)];
   let d := s [(F.FM_SUN_MSTATE 33, 4)];
   let r := ({ d with tim := { d.tim with raw := 2 ^ 63 } } : State);
   let m := ({ r with ports := [(33, { pers := 2, sun := { member := true, conns := [(0, ⟨0, 1, 11, 0, 0⟩)] } })] } : State);
   let k := ({ r with ports := [(33, { pers := 2, sun := { conns := [(7, ⟨7, 1, 11, 0, 0⟩)] } })] } : State);
   let j := ({ d with ports := [(33, { pers := 2, sun := { conns := [(7, ⟨7, 1, 11, 0, 0⟩)] } })] } : State);
   q.sunUp 33 = true ∧ q.rd (F.FM_SUN_MSTATE 33) = 2 ∧ (3#8 : Byte) ≠ 0 ∧ c.sunUp 33 = true ∧ c.rd (F.FM_SUN_MSTATE 33) = 3 ∧ c.rd (F.FM_SUN_MISSED 33) = 2 ∧
   d.sunUp 33 = true ∧ d.rd (F.FM_SUN_MSTATE 33) = 4 ∧ (m.sun 33).member = true ∧ m.rd (F.FM_SUN_MSTATE 33) = 4 ∧ SMap.find? (m.sun 33).conns 0 = some ⟨0, 1, 11, 0, 0⟩ ∧
   m.supOut 33 ⟨0, 1, 11, 0, 0⟩ = true ∧ (k.sun 33).member = false ∧ k.supOut 33 ⟨7, 1, 11, 0, 0⟩ = true ∧ j.supOut 33 ⟨7, 1, 11, 0, 0⟩ = false ∧
   SMap.find? (k.sun 33).conns 7 = some ⟨7, 1, 11, 0, 0⟩ ∧ q.judge .pcie (Pg.FM 33) 0x244 = .open ∧ bit 2#32 0 = false ∧ bit 1#32 0 = true ∧ (q.sun 33).member = false ∧
   (q.port 33).pers = 2 ∧ q.rd (F.FP_FSL_STAT_STATE 33) ≠ 0 ∧
   (q.sunLimits 33).minCh ≤ mapCount (q.trimMap 33 (q.mapWords (F.FM_SUN_CHMAP 33)))) := by decide +kernel

theorem test_wit_sun_membership_and_maps_2 :
  (let s := ({ tb [(F.FP_FSL_STAT_STATE 33, 2), (F.ARB_TX_BUDGET, 60000), (F.FM_SUN_JOIN_PERMIT 33, 1), (F.FM_SUN_NET_ID 33, 5), (F.FP_NODE_LIMIT 33, 10)] 0 with ports := [(33, { pers := 2 })] } : State);
   let e := ({ s with tim := { s.tim with raw := 8 * s.esTicks 33 } } : State);
   let p := ({ e with ports := [(33, { pers := 2, sun := { netId := 5 } })] } : State);
   let f := p.wr (F.FP_NODE_LIMIT 33) 0;
   let g := ({ p with gate := { p.gate with nbr := [(3, { st := .active, eui := 9, port := 33, short := 4 })] } } : State);
   let z := ({ tb [(F.FP_FSL_STAT_STATE 33, 2), (F.FM_SUN_CHMAP 33 0, 0), (F.FM_SUN_CHMAP 33 1, 0), (F.FM_SUN_CHMAP 33 2, 0), (F.FM_SUN_CHMAP 33 3, 0), (F.FM_SUN_CHMAP 33 4, 0)] 0 with ports := [(33, { pers := 2 })] } : State);
   e.sunUp 33 = true ∧ (e.sun 33).member = false ∧ e.domOn Dom.PKT = true ∧ e.sunEc 33 % 16 = 8 ∧ (e.sun 33).netId = 0xFFFF ∧
   (p.sun 33).netId ≠ 0xFFFF ∧ p.joinPermitted 33 = true ∧ p.sunUp 33 = true ∧ f.roomFor 33 9 = false ∧ f.joinPermitted 33 = true ∧ p.roomFor 33 9 = true ∧ p.nbrByEui 9 = none ∧
   g.nbrByEui 9 = some 3 ∧ (g.nbr 3).st = .active ∧ (g.nbr 3).port = 33 ∧ g.roomFor 33 9 = true ∧ SMap.find? (g.sun 33).conns 4 = none ∧ (g.freeAnchor 33 (g.sun 33).ciExp).isSome = true ∧
   mapCount (z.trimMap 33 (z.mapWords (F.FM_SUN_CHMAP 33))) < (z.sunLimits 33).minCh) := by decide +kernel

theorem test_wit_neighbour_commands :
  (let s := tb [(F.GTE_NBR_EUI_LO, 7)] 0;
   let h := fun (x : Nbr) => ({ s with gate := { s.gate with nbr := [(0, x)] } } : State);
   let l := tb [(F.GTE_NBR_SEL, 65536)] 0;
   s.judge .pcie Pg.GTE 0x64 = .open ∧ bits 1#32 2 0 = 1 ∧ bits 6#32 2 0 = 6 ∧ bits 2#32 2 0 = 2 ∧ bits 3#32 2 0 = 3 ∧ bits 4#32 2 0 = 4 ∧ bits 5#32 2 0 = 5 ∧
   (h { eui := 7, st := .active }).nbrByEui s.nbrEui = some 0 ∧ s.nbrByEui s.nbrEui = none ∧ s.freeIdx = some 0 ∧ s.rd F.GTE_NBR_SEL = 0 ∧
   ((h { eui := 7, st := .active }).nbr 0).st = .active ∧ (s.nbr 0).st = .free ∧ ((h { st := .blocked, port := 3, lkey := true }).nbr 0).lkey = true ∧
   ((h { st := .blocked }).nbr 0).st = .blocked ∧ ((h { st := .blocked }).nbr 0).lkey = false ∧ l.rd F.GTE_NBR_SEL = 65536 ∧ s.dead = false ∧ s.pageOn Pg.GTE = true) := by decide +kernel

theorem test_wit_joins_checkpoints_and_node_keys :
  (let s := tb [(F.FM_NET_ID 2, 5), (F.FM_JOIN_PERMIT 2, 1), (F.FP_NODE_LIMIT 2, 10)] 0;
   let r := tb [(F.FM_NET_ID 2, 5), (F.FM_JOIN_PERMIT 2, 1), (F.FP_NODE_LIMIT 2, 0)] 0;
   let j := ({ s with gate := { s.gate with nbr := [(0, { eui := 7, st := .joining, port := 2, short := 1 })] } } : State);
   let c := ({ s with gate := { s.gate with nbr := [(0, { eui := 7, st := .preset, created := true })] } } : State);
   let a := ({ s with gate := { s.gate with nbr := [(0, { eui := 7, st := .active, port := 2, short := 1, gen := 1, grace := true })] } } : State);
   let b := ({ s with gate := { s.gate with nbr := [(0, { eui := 7, st := .blocked })] } } : State);
   let k := ({ c with sec := { c.sec with slots := [(0, { typ := 1, attr := 2 ^ 64 - 1 - 2 ^ 55 - (2 ^ 32 - 1) })] } } : State);
   let d := ({ s with gate := { s.gate with nbr := (List.range 8).map (fun i => (i, { eui := i + 1, st := .joining, port := 2, short := i + 1 })) } } : State);
   let i := ({ j with gate := { j.gate with inst := some ⟨0, 0, some []⟩ } } : State);
   let g := ({ s with gate := { s.gate with inst := some ⟨0, 5, some []⟩ } } : State);
   let h := ({ s with gate := { s.gate with inst := some ⟨0, 5, none⟩ } } : State);
   s.domOn Dom.PKT = true ∧ (tb [] 0).joinPermitted 2 = false ∧ s.joinPermitted 2 = true ∧ r.joinPermitted 2 = true ∧ r.roomFor 2 7 = false ∧ s.roomFor 2 7 = true ∧
   s.nbrByEui 7 = none ∧ s.freeIdx = some 0 ∧ s.joiningAll < s.rdIn F.GTE_JOIN_MAX 1 64 ∧ s.boundIn 2 .joining < 8 ∧ (s.freeShort 2).isSome = true ∧
   d.nbrByEui 99 = none ∧ d.freeIdx = some 8 ∧ d.roomFor 2 99 = true ∧ 8 ≤ d.boundIn 2 .joining ∧ a.nbrByEui 7 = some 0 ∧ a.roomFor 2 7 = true ∧ (a.nbr 0).st = .active ∧ (a.nbr 0).port = 2 ∧
   b.nbrByEui 7 = some 0 ∧ b.roomFor 2 7 = true ∧ (b.nbr 0).st = .blocked ∧
   (j.nbr 0).st = .joining ∧ (j.nbr 0).created = false ∧ (a.nbr 0).grace = true ∧ (a.nbr 0).gen = 1 ∧ (c.nbr 0).grace = false ∧ (c.nbr 0).st ≠ .free ∧
   s.judge .pcie Pg.GTE 0xEC = .open ∧ bit 0x80000000#32 31 = true ∧ bit 5#32 31 = false ∧ s.gate.inst = none ∧ i.gate.inst.isSome = true ∧ s.instTarget = false ∧ c.instTarget = true ∧
   g.gate.inst = some ⟨0, 5, some []⟩ ∧ h.gate.inst = some ⟨0, 5, none⟩ ∧ i.gate.inst = some ⟨0, 0, some []⟩ ∧ (i.nbr 0).st = .joining ∧ (i.port 2).pers ≠ 2 ∧ c.gate.inst = none ∧
   (c.wr F.GTE_INST_CTL_SLOT (bits 0x80000000#32 7 0)).keyAllows (bits 0x80000000#32 7 0) (invoker .pcie) (secureWrite .pcie true) Use.NODE_UNWRAP = false ∧
   k.instTarget = true ∧ k.gate.inst = none ∧ (k.wr F.GTE_INST_CTL_SLOT (bits 0x80000000#32 7 0)).keyAllows (bits 0x80000000#32 7 0) (invoker .pcie) (secureWrite .pcie true) Use.NODE_UNWRAP = true) := by decide +kernel

theorem test_wit_packet_writers :
  (let s := tb [(F.CRU_QCFG_EN 3, 1), (F.CRU_QCFG_EN 4, 0), (F.CRU_QCFG_EN 80, 1)] 0;
   let c := fun (x : WCtx) => ({ s with cru := { s.cru with ctx := [(3, x)] } } : State);
   let w := ({ s with cru := { s.cru with waiting := [(3, 3)] } } : State);
   let x := ({ s with cru := { s.cru with queues := [(3, { xoff := true })] } } : State);
   let h := ({ s with cru := { s.cru with links := [(5, { st := .held, eop := true })] } } : State);
   s.domOn Dom.PKT = true ∧ SMap.find? s.cru.ctx 3 = none ∧ s.queueOpen 3 = true ∧ s.queueOpen 4 = false ∧ writerClass 3 = 0 ∧ writerClass 80 = 5 ∧ s.queueOpen (writerQueue 80 80) = true ∧
   (s.queue 3).xoff = false ∧ s.heldBack 0 = false ∧ s.resvFor 0 ≤ s.cruFree ∧ s.resvFor 5 ≤ s.cruFree ∧ (x.queue 3).xoff = true ∧ w.cru.waiting.find? (fun x => x.1 == 3) = some (3, 3) ∧
   SMap.find? w.cru.ctx 3 = none ∧ w.cru.waiting.any (fun x => x.1 == 3) = true ∧
   SMap.find? (c ⟨3, 0, 9, []⟩).cru.ctx 3 = some ⟨3, 0, 9, []⟩ ∧ cellsFor 1 ≤ 9 ∧ ((c ⟨3, 0, 9, []⟩).takeCells 1 []).map (fun e => e.1) = some [0] ∧
   SMap.find? (c ⟨3, 0, 0, []⟩).cru.ctx 3 = some ⟨3, 0, 0, []⟩ ∧ 0 < cellsFor 0 ∧ (h.link 5).st = .held ∧ (s.link 5).st ≠ .held) := by decide +kernel

theorem test_wit_queues_scrubbing_and_banks :
  (let s := tb [(F.CRU_CTL_SCRUB_EN, 1), (F.CRU_QSEL, 80), (F.CRU_QCFG_EN 80, 0)] 0;
   let e := tb [(F.CRU_QSEL, 80), (F.CRU_QCFG_EN 80, 1)] 0;
   let h := ({ s with cru := { s.cru with links := [(5, { st := .queued, eop := true })], queues := [(80, { head := 5, tail := 5, cells := 1, pkts := 1 })] } } : State);
   let f := ({ s with cru := { s.cru with queues := [(80, { fault := true })] } } : State);
   let d := ({ h with cru := { h.cru with drain := some 5 } } : State);
   let d6 := ({ h with cru := { h.cru with drain := some 6 } } : State);
   let p := ({ s with cru := { s.cru with links := [(5, { st := .writing })], drain := some 5 } } : State);
   let i := ({ s with cru := { s.cru with isolated := some 5 } } : State);
   s.judge .pcie Pg.CRU 0x320 = .open ∧ s.judge .pcie Pg.CRU 0x180 = .open ∧ bits 1#32 1 0 = 1 ∧ bits 2#32 1 0 = 2 ∧ e.on (F.CRU_QCFG_EN 80) = true ∧ s.rd F.CRU_QSEL = 80 ∧
   h.on (F.CRU_QCFG_EN 80) = false ∧ (h.queue 80).pkts = 0 + 1 ∧ (h.popQueue 80).map (fun e => e.1) = some 5 ∧ (h.queue 80).fault = false ∧ (f.queue 80).fault = true ∧
   s.on F.CRU_CTL_SCRUB_EN = true ∧ s.domOn Dom.PKT = true ∧ (h.link (5#16 : BitVec 16).toNat).st ≠ .free ∧
   (List.find? (fun e : Nat × CQueue => (queueCells h.cru.links e.2.cells e.2.head).contains 5) h.cru.queues).isSome = true ∧ bit 0x105#32 8 = true ∧ bit 0x105#32 9 = false ∧
   bit 0x200#32 9 = true ∧ bit 0x200#32 8 = false ∧ s.cru.drain = none ∧ s.cru.isolated = none ∧ s.drainBound ≤ s.cruFree - s.bankFree 5 ∧ i.cru.isolated = some 5 ∧
   (d.cru.links.filter (fun e => e.1 % 16 == 5 && e.2.st != .free)).map (fun e => e.1) = [5] ∧ d.cellPinned 5 = false ∧ d.takeCell.map (fun e => e.1) = some 0 ∧
   (∀ e ∈ p.cru.links, e.1 % 16 = 5 → e.2.st ≠ .free → p.cellPinned e.1 = true) ∧ d6.bankLive 6 = 0 ∧ d.bankLive 5 ≠ 0) := by decide +kernel

theorem test_wit_host_contexts_and_pool_access :
  (let s := tb [(F.CRU_QCFG_EN 80, 1), (F.CRU_QCFG_EN 81, 0), (F.CRU_HCTX_POP_Q 0, 80), (F.CRU_QCFG_CONS 80, 1)] 0;
   let c := ({ s with cru := { s.cru with ctx := [(69, ⟨0, 3, 1, [5]⟩)], links := [(5, { st := .writing, host := true })] } } : State);
   let h := ({ s with cru := { s.cru with links := [(5, { st := .queued, eop := true })], queues := [(80, { head := 5, tail := 5, cells := 1, pkts := 1 })] } } : State);
   let d := ({ s with cru := { s.cru with links := [(5, { st := .held, eop := true, host := true })] } } : State);
   s.judge .pcie Pg.CRU 0x200 = .open ∧ s.judge .pcie Pg.CRU 0x228 = .open ∧ s.judge .pcie Pg.CRU 0x22C = .open ∧ s.judge .pcie Pg.CRU 0x238 = .open ∧ bits 0#32 4 0 = 0 ∧
   s.classBp 3 = false ∧ 1 ≤ s.rdIn F.CRU_HOST_LIM 0 8191 ∧ 1 ≤ s.cruFree ∧ (s.takeCells 1 []).map (fun e => e.1) = some [0] ∧ bit 0x80500000#32 31 = true ∧ bits 0x80500000#32 25 16 = 80 ∧
   SMap.find? c.cru.ctx 69 = some ⟨0, 3, 1, [5]⟩ ∧ c.queueOpen 80 = true ∧ c.queueOpen 81 = false ∧ bits 0x80510000#32 25 16 = 81 ∧ bit 1#32 0 = true ∧ s.dead = false ∧ s.pageOn Pg.CRU = true ∧
   s.popQueue 80 = none ∧ s.rd (F.CRU_QCFG_CONS 80) = 1 ∧ (h.popQueue 80).map (fun e => e.1) = some 5 ∧ (d.link (bits 0x80000005#32 15 0)).hctx = 0 ∧ (d.link 5).host = true ∧ (d.link 5).st = .held ∧
   (s.link 5).st ≠ .held ∧ s.domOn Dom.PKT = true ∧ s.owner Pg.CRU = 0 ∧ (d.link ((1280#24 : BitVec 24).toNat / 4 * 4 / 256)).host = true ∧ (s.link 0).host = false) := by decide +kernel

theorem test_wit_tasks_dispatched_and_ended_1 :
  (let s := tb [] 0;
   let d := Desc.make 3 9 false 0 0 0xFFFF 0 0 [];
   let w := fun (k : Nat) (x : Desc) => ({ s with pln := { s.pln with descs := [(k, x)] } } : State);
   let r : Desc := { d with st := .running, exec := 11 };
   let h := ({ tb [(F.PLN_SQ_SIZE 0, 4)] 0 with pln := { descs := [(0, { r with kind := 10, exec := 1, host := some (0, 1) })] } } : State);
   let p := ({ s with cru := { s.cru with links := [(5, { st := .held, eop := true })] }, pln := { s.pln with descs := [(0, { r with kind := 15, cell := 5, arg := 80, exec := 27 })] } } : State);
   let q := ({ tb [(F.CRU_QCFG_EN 80, 0)] 0 with cru := p.cru, pln := p.pln } : State);
   let c := ({ s with pln := { s.pln with chains := [(0, { resv := 16384 })] } } : State);
   s.domOn Dom.PKT = true ∧ s.domOn Dom.TSK = true ∧ ((w 0 { d with st := .ready }).taskNext 7 false).map (fun e => e.1) = some 0 ∧ (w 0 { d with st := .ready }).laneFor 7 { d with st := .ready } = some 11 ∧
   (s.taskNext 7 false).isNone = true ∧ (s.descOfImage (be 4 (16 * 2 ^ 21))).kind = 16 ∧ (s.descOfImage (be 4 (9 * 2 ^ 21))).kind = 9 ∧ s.flowRoom false 0 = true ∧ firstGap s.pln.descs 0 < 16384 ∧ s.pln.spill = [] ∧
   s.internalRoom = true ∧ c.internalRoom = false ∧
   (w 0 r).desc 0 = some r ∧ r.st = .running ∧ r.ended = none ∧ r.kind = 9 ∧ (w 0 r).isItemTask 0 r = false ∧ (w 0 r).taskPoison r = false ∧ r.host = none ∧ s.on F.PLN_FAULT_LOG_VALID = false ∧
   11 ≤ r.exec ∧ r.exec < 27 ∧ r.tries = 0 ∧ ({ r with tries := 1 } : Desc).tries ≠ 0 ∧ (h.runningTask 0 10).isSome = true ∧ h.ringSize 0 ≠ 0 ∧ h.cqIsFull 0 = false ∧
   (p.runningTask 0 15).isSome = true ∧ ((p.unhost 5).movePacket 5 80).isSome = true ∧ ((q.unhost 5).movePacket 5 80).isNone = true ∧ ((w 0 { r with kind := 7, exec := 27 }).runningTask 0 7).isSome = true) := by decide +kernel

theorem test_wit_tasks_dispatched_and_ended_2 :
  (let s := flowFull (tb [] 0);
   let d := s.descOfImage (be 4 (9 * 2 ^ 21 + 2 ^ 20 + 9000));
   (s.domOn Dom.PKT = true ∧ s.domOn Dom.TSK = true ∧ d.kind < 16 ∧ d.atomic = true ∧ d.flow = 9000) ∧ s.flowRoom true 9000 = false) := ⟨by decide +kernel, flowFull_no_room _⟩

theorem test_wit_tasks_of_a_chain_1 :
  (let s := tb [(F.IGT_STATE_TIER, 0)] 0;
   let w := fun (k : Nat) (x : Desc) => ({ s with pln := { s.pln with descs := [(0, { x with kind := k, st := .running })] } } : State);
   let r := Desc.make 3 0 false 0 0 0xFFFF 0 0 [];
   let a := Desc.make 3 0 false 0 0 5 0 0 [];
   let ue := fun (t : State) => ({ t with cru := { t.cru with ue := [5], links := [(5, { st := .held, eop := true })] } } : State);
   let ch := fun (t : State) (c : Chain) => ({ t with pln := { t.pln with chains := [(0, c)] } } : State);
   (ue (w 0 a)).taskPoison a = true ∧ (ue (w 0 a)).desc 0 = some { a with st := .running } ∧ a.ended = none ∧ a.host = none ∧ s.pln.spill = [] ∧
   ((ue (w 1 a)).desc 0).map (fun e => e.kind) = some 1 ∧ ((ue (w 2 a)).desc 0).map (fun e => e.kind) = some 2 ∧ ((ue (w 3 a)).desc 0).map (fun e => e.kind) = some 3 ∧ a.record = none ∧
   (ch (w 9 r) { itemTask := some 0 }).isItemTask 0 { r with kind := 9 } = true ∧ (w 2 r).taskPoison r = false ∧ ((ch (w 2 r) { vals := [{ bytes := [] }] }).chain 0).vals.length = 1 ∧
   (w 3 r).working = true ∧ ((ch (w 3 r) { vals := [{ bytes := [], record := some {} }] }).chain 0).val 0 = some { bytes := [], record := some {} } ∧ (w 3 r).jrnRoom = true ∧ (w 3 r).writeThrough = false ∧
   (w 3 r).igtFull = false ∧ ({ s with prf := { s.prf with writes := List.replicate 256 default } } : State).igtFull = true ∧ s.on F.PRF_STATE_FALLBACK = false ∧
   ({ s with pwr := { s.pwr with portsOff := true } } : State).working = false ∧ ((s.chain 0).val 0).isNone = true ∧ s.on F.LGL_STAT_HALTED = false ∧ s.on F.TCH_CTL_EN = false ∧ (s.chain 0).others = []) := by decide +kernel

theorem test_wit_tasks_of_a_chain_2 :
  (let s := tb [(F.TCH_CTL_EN, 1)] 0;
   let a := { Desc.make 3 11 false 0 0 5 0 0 [] with arg := 8 + 65536 * 100 };
   let p := ({ s with cru := { s.cru with links := [(5, { st := .held, eop := true }) ], pool := [(1280, 1)] } } : State);
   let b : GateSnap := { idx := some 0, nbr := { eui := 7, st := .blocked, port := 0, short := 0 } };
   let v : TchVer := { from_ := 0, en := true, phases := 1, len := 3, ref := 7, refE := [1], refV := none, members := [] };
   let r : Rec := { node := 7, chan := 1, kind := 0, len := 3 };
   let g := ({ s with tch := { s.tch with vers := [(0, [v])] } } : State);
   let j := ({ tb [(F.IGT_STATE_TIER, 2)] 0 with cru := p.cru } : State);
   a.arg / 2 ^ 60 = 0 ∧ 0 < a.arg % 65536 ∧ a.arg % 65536 ≤ 65456 ∧ p.pktLen 5 = 256 ∧ a.arg % 65536 ≤ p.pktLen 5 ∧ a.arg / 65536 % 65536 + 48 ≤ p.pktLen 5 ∧
   (2 * 2 ^ 60) / 2 ^ 60 = 2 ∧ 241 ≤ p.pktLen 5 ∧ b.idx.isSome = true ∧ b.nbr.st = .blocked ∧ g.on F.TCH_CTL_EN = true ∧ r.noacc = false ∧
   (g.groupsOf r).map (fun e => e.1) = [0] ∧ SMap.getD g.tch.closedTo 0 0 ≤ v.startOf r ∧ j.writeThrough = true) := by decide +kernel

theorem test_wit_pops_host_queues_and_drains_1 :
  (let s := tb [(F.PLN_SQ_SIZE 0, 4), (F.PLN_SQ_TAIL 0, 1), (F.CRU_QCFG_EN 80, 1), (F.PLN_QMAP_EN 80, 1)] 0;
   let p := ({ s with cru := { s.cru with links := [(5, { st := .queued, eop := true })], queues := [(80, { head := 5, tail := 5, cells := 1, pkts := 1 })] } } : State);
   let d := ({ s with pln := { s.pln with drains := [⟨5, 1, 1, false⟩] } } : State);
   let l := ({ d with pln := { d.pln with descs := [(0, Desc.make 0 2 false 0 0 0xFFFF 1 0 [])] } } : State);
   s.domOn Dom.PKT = true ∧ s.popNext ≠ some 80 ∧ p.popNext = some 80 ∧ p.pair.handover = none ∧ (2 : Int) ≤ p.dfree ∧ p.flowRoom (p.headFlow 80).1 (p.headFlow 80).2 = true ∧
   (p.popQueue 80).map (fun e => e.1) = some 5 ∧ s.judge .pcie Pg.PLN 0x314 = .open ∧ s.ringSize 0 = 16 ∧ s.rd (F.PLN_SQ_HEAD 0) % 16 ≠ s.rd (F.PLN_SQ_TAIL 0) % 16 ∧ s.classBp 3 = false ∧
   s.cqIsFull 0 = false ∧ (1 : Int) ≤ s.dfree ∧ hostKind (s.descOfImage (be 4 0)).kind = false ∧ hostKind (s.descOfImage (be 4 (9 * 2 ^ 21))).kind = true ∧ (s.descOfImage (be 4 (9 * 2 ^ 21))).cell ≠ 0xFFFF ∧
   s.hostHeld (s.descOfImage (be 4 (9 * 2 ^ 21))).cell = false ∧ (s.descOfImage (be 4 (9 * 2 ^ 21) ++ be 4 0xFFFF)).cell = 0xFFFF ∧ firstGap s.pln.descs 0 < 16384 ∧ s.pln.spill = [] ∧
   (tb [] 0).ringSize 0 = 0 ∧ d.pln.drains = [⟨5, 1, 1, false⟩] ∧ d.workBefore 5 = false ∧ l.workBefore 5 = true ∧ d.tar.armed = none ∧ s.dead = false ∧ s.pageOn Pg.PLN = true) := by decide +kernel

theorem test_wit_pops_host_queues_and_drains_2 :
  (let s0 := tb [(F.PLN_SQ_SIZE 0, 4), (F.PLN_SQ_TAIL 0, 1), (F.CRU_QCFG_EN 80, 1), (F.PLN_QMAP_EN 80, 1), (F.PLN_QMAP_ATOMIC 80, 1)] 0;
   let s := flowFull { s0 with cru := { s0.cru with links := [(5, { st := .queued, eop := true })], queues := [(80, { head := 5, tail := 5, cells := 1, pkts := 1 })], pool := [(1298, 35), (1299, 40)] } };
   let d := s.descOfImage (be 4 (9 * 2 ^ 21 + 2 ^ 20 + 9000) ++ be 4 0xFFFF);
   (s.domOn Dom.PKT = true ∧ s.pair.handover = none ∧ s.popNext = some 80 ∧ (2 : Int) ≤ s.dfree ∧ s.headFlow 80 = (true, 9000) ∧ s.pln.flowWait.contains 80 = false ∧
    s.ringSize 0 ≠ 0 ∧ s.rd (F.PLN_SQ_HEAD 0) % 16 ≠ s.rd (F.PLN_SQ_TAIL 0) % 16 ∧ s.classBp 3 = false ∧ s.cqIsFull 0 = false ∧ (1 : Int) ≤ s.dfree ∧
    hostKind d.kind = true ∧ d.cell = 0xFFFF ∧ d.atomic = true ∧ d.flow = 9000) ∧ s.flowRoom true 9000 = false) := ⟨by decide +kernel, flowFull_no_room _⟩

theorem test_wit_profiles_and_periods :
  (let s := tb [(F.LGL_STAT_RUN, 1), (F.TAR_BP_END, 60), (F.TAR_CTL_EN, 1), (F.IGT_STATE_MODE, 0)] 0;
   let n := ({ s with tim := { s.tim with epochs := [⟨0, 0, 10 ^ 15, 0x40000000000, 0⟩] } } : State);
   let b := fun (c : Nat) => ({ s with bndPrf := [⟨c, c, 1, false, false, 13⟩] } : State);
   let p := ({ s with prf := { s.prf with spans := [⟨0, 0, 0, 0⟩], read := some ⟨0, 0, 0⟩ } } : State);
   let q := ({ n with prf := { n.prf with spans := [⟨0, 0, 0, 0⟩] } } : State);
   let f := tb [(F.PRF_STATE_FALLBACK, 1), (F.IGT_STATE_MODE, 0), (F.IGT_FREE_PM, 900)] 0;
   let g := tb [(F.PRF_CTL_FB_FORCE, 1)] 0;
   let w := tb [(F.LGL_STAT_RUN, 1), (F.TAR_CLOSE_STAT_BUSY, 1)] 0;
   let k := ({ s with prf := { s.prf with notKept := [(0, none)] } } : State);
   s.domOn Dom.TSK = true ∧ s.onRaster 1 = false ∧ s.onRaster (s.minTime 3) = true ∧ s.jrnRoom = true ∧ (b 1).bndPrf = [⟨1, 1, 1, false, false, 13⟩] ∧
   p.now < 0 + p.closeLag * p.fileLen p.gridNow * 60000000000 ∧ q.prf.spans = [⟨0, 0, 0, 0⟩] ∧ 0 + q.closeLag * q.fileLen q.gridNow * 60000000000 ≤ q.now ∧
   g.on F.PRF_STATE_FALLBACK = false ∧ g.fallbackCause = 3 ∧ f.on F.PRF_STATE_FALLBACK = true ∧ f.on F.PRF_CTL_FB_FORCE = false ∧ f.rd F.IGT_STATE_MODE < 4 ∧ f.rd F.PRF_FB_TH + 10 ≤ f.rd F.IGT_FREE_PM ∧
   s.judge .pcie Pg.PRF 0xA8 = .open ∧ bit 0x80000000#32 31 = true ∧ s.on F.PRF_Q_CTL_BUSY = false ∧ p.prf.read = some ⟨0, 0, 0⟩ ∧ (match p.findRec 0 0 0 with | .inr c => c | .inl _ => 0) = 2 ∧
   s.judge .pcie Pg.PRF 0xD8 = .open ∧ s.rd F.PRF_Q_KEY_UNIT = s.unitAddr ∧ s.on F.PRF_STATE_FALLBACK = false ∧ s.slotOf 0 0 = 0 ∧ s.notKept 0 = false ∧ k.notKept 0 = true ∧ s.lglRuns = true ∧ s.rd F.IGT_STATE_MODE < 4 ∧
   s.working = true ∧ s.tarEnabled = true ∧ s.rd F.TAR_BP_END ≠ 0 ∧ s.on F.TAR_CLOSE_STAT_BUSY = false ∧ n.mayClose 60 = true ∧ s.mayClose 60 = false ∧ w.on F.TAR_CLOSE_STAT_BUSY = true ∧ w.lglRuns = true) := by decide +kernel

theorem test_wit_sessions_and_object_requests_1 :
  (let obis := fun (r : Nat) (hi lo : Nat) => tb [(F.LGL_STAT_RUN, 1), (F.IGT_STATE_MODE, 0), (F.OBJ_SESS_STAT_ROLE 0, r), (F.OBJ_REQ_OBIS_HI 0, hi), (F.OBJ_REQ_OBIS_LO 0, lo), (F.OBJ_REQ_ARG 0, 6000), (F.TAR_CTL_EN, 1)] 0;
   let s := obis 4 0 0;
   let a := obis 1 0x00000D00 0x00FF;
   let x : TarSet := ⟨2, 0, []⟩;
   let pa := ({ a with tar := { a.tar with passive := some x } } : State);
   let ar := ({ a with tar := { a.tar with armed := some { x with actMin := 6000 } } } : State);
   let c := obis 1 0x01000001 0x00FF;
   let l := obis 3 0x00006362 0x00FF;
   let k := ({ tb [(F.OBJ_SESS_STAT_ROLE 0, 1)] 0 with sec := { (tb [] 0).sec with slots := (List.range 64).map (fun i => (i, { typ := 3 })) } } : State);
   s.dead = false ∧ s.isMain .pcie = true ∧ s.locked Pg.OBJ = false ∧ bit 0x80000000#32 31 = true ∧ s.on (F.OBJ_REQ_STAT_BUSY 0) = false ∧ s.lglRuns = true ∧ objNamed 0 = none ∧ bits 0x80000000#32 1 0 = 0 ∧
   objNamed (a.rd (F.OBJ_REQ_OBIS_HI 0) * 65536 + a.rd (F.OBJ_REQ_OBIS_LO 0)) = some .tariff ∧ Obj.tariff.readable 4 = false ∧
   objNamed (c.rd (F.OBJ_REQ_OBIS_HI 0) * 65536 + c.rd (F.OBJ_REQ_OBIS_LO 0)) = some .vz ∧ Obj.vz.readable 4 = true ∧ c.objData ⟨0, 0, 0, 0, 0, 0, 0⟩ .vz 1 = some (be 4 0) ∧
   objNamed (l.rd (F.OBJ_REQ_OBIS_HI 0) * 65536 + l.rd (F.OBJ_REQ_OBIS_LO 0)) = some .log ∧ l.changeBar 3 .log (Obj.log.actable 3) = 0 ∧ c.changeBar 1 .vz (Obj.vz.actable 1) = 0 ∧
   s.changeBar 4 .tariff (Obj.tariff.actable 4) = 2 ∧ a.changeBar 1 .tariff (Obj.tariff.actable 1) = 0 ∧ pa.tar.passive = some x ∧ pa.gridNow + 15 ≤ 6000 ∧ pa.tar.armed = none ∧ pa.legalStore = true ∧
   ar.tar.armed = some { x with actMin := 6000 } ∧ ar.gridNow < 6000 ∧ c.tar.due = none ∧ c.on F.TAR_CLOSE_STAT_BUSY = false ∧ s.changeBar 0 .account (Obj.account.writable 0) = 0 ∧
   (s.setEffect { op := 1, obis := 0, acct := 0, unit := 0, attr := 0, cell := 0xFFFF, arg := 0 } .account).isNone = true ∧ bit 0x100#32 8 = true ∧ bit 0x200#32 9 = true ∧ s.pageOn Pg.OBJ = true ∧
   s.domOn Dom.LGL = true ∧ (s.slot (s.roleSlot 0)).typ ≠ 3 ∧ (k.slot (k.roleSlot 0)).typ = 3 ∧ k.domOn Dom.SEC = true ∧ SMap.find? k.lgl.chal 0 = none) := by decide +kernel

theorem test_wit_sessions_and_object_requests_2 :
  (let s := tb [(F.LGL_STAT_RUN, 1), (F.IGT_STATE_MODE, 0), (F.OBJ_SESS_STAT_ROLE 0, 0), (F.OBJ_REQ_OBIS_HI 0, 0x00008000), (F.OBJ_REQ_OBIS_LO 0, 0x01FF), (F.OBJ_REQ_ARG 0, 21504), (F.OBJ_REQ_CELL 0, 65535)] 0;
   let h := ({ s with tar := { s.tar with accts := [(5, { active := true })] } } : State);
   let k := fun (a : Nat) => ({ s with sec := { s.sec with slots := (List.range 64).map (fun i => (i, { typ := 3, attr := a })) }, lgl := { s.lgl with chal := [(0, 5)] } } : State);
   objNamed (h.rd (F.OBJ_REQ_OBIS_HI 0) * 65536 + h.rd (F.OBJ_REQ_OBIS_LO 0)) = some .binding ∧ h.changeBar 0 .binding (Obj.binding.writable 0) = 0 ∧ h.legalStore = true ∧
   (h.setEffect { op := 1, obis := 0, acct := 0, unit := 0, attr := 0, cell := 0xFFFF, arg := 21504 } .binding).isSome = true ∧ SMap.find? (k 0).lgl.chal 0 = some 5 ∧
   (k 0).keyAllows ((k 0).roleSlot 0) Mst.LGL true Use.HMAC = false ∧ (k (2 ^ 64 - 2 ^ 32)).keyAllows ((k 0).roleSlot 0) Mst.LGL true Use.HMAC = true) := by decide +kernel

theorem test_wit_seals_re_seals_and_proofs_1 :
  (let s := tb [(F.HLM_PRQ_Q, 80)] 0;
   let c : TreeClose := { cstatus := 0, ckind := 0, endC := 9, more := false };
   let tr : Tree := { startC := 1, fstartC := 1, istart := 0, part := 0, flen := 3, qual := 0, tstart := 0, restart := 0, close := some c };
   let t := ({ s with hlm := { s.hlm with trees := [tr] } } : State);
   let b := be 192 0 ++ be 96 0;
   let x : Sealed := { bytes := b, seq := 0, startC := 0, istart := 0, leaves := [], jseq := 0, released := false };
   let w := ({ s with hlm := { s.hlm with sealed := [x] } } : State);
   let h := ({ tb [(F.CHN_UNITS, 1), (F.HLM_PRQ_Q, 80), (F.HLM_PRQ_KEY_UNIT, 5)] 2 with hlm := { s.hlm with due := [b] } } : State);
   let h2 := ({ tb [(F.CHN_UNITS, 2)] 2 with hlm := { s.hlm with due := [b] } } : State);
   let q := ({ s with hlm := { s.hlm with prq := some ⟨0, 0, 0, false, 0⟩ } } : State);
   s.domOn Dom.PKT = true ∧ s.domOn Dom.SEC = true ∧ s.working = true ∧ t.hlm.trees.head? = some tr ∧ t.jrnRoom = true ∧ tr.close = some c ∧ t.treeLeaves tr = some (false, []) ∧
   w.hlm.sealed.find? (fun y => !y.released) = some x ∧ w.partnerHas 0 = true ∧ w.role = 0 ∧ h.role = 2 ∧ h.resealDue = some ([b], b) ∧ h.jrnRoom = true ∧ h.working = true ∧
   h.chainUnits.all (fun i => h.unitDelivered (field b 16 4) i) = true ∧ h2.chainUnits.all (fun i => h2.unitDelivered (field b 16 4) i) = false ∧ s.judge .pcie Pg.HLM 0x108 = .open ∧
   bit 0x80000000#32 31 = true ∧ s.hlm.prq = none ∧ queueNamed (s.rd F.HLM_PRQ_Q) = true ∧ queueNamed ((tb [(F.HLM_PRQ_Q, 5)] 0).rd F.HLM_PRQ_Q) = false ∧ s.role ≠ 2 ∧
   h.rd F.HLM_PRQ_KEY_UNIT = 5 ∧ (SMap.getD h.chn.units 5 {}).reachable = false ∧ q.hlm.prq = some ⟨0, 0, 0, false, 0⟩ ∧ (match q.ownProof 0 0 0 false with | .inr c => c | .inl _ => 0) = 2) := by decide +kernel

theorem test_wit_seals_re_seals_and_proofs_2 :
  (let s := tb [(F.HLM_PRQ_Q, 80), (F.CRU_QCFG_EN 80, 1)] 0;
   let x : Sealed := { bytes := be 56 1 ++ be 232 0, seq := 0, startC := 0, istart := 0, leaves := [[1]], jseq := 0, released := true };
   let r : Rec := { node := 7, chan := 1, kind := 0, len := 3 };
   let k := ({ s with prf := { s.prf with recs := [(0, [r])] }, hlm := { s.hlm with prq := some ⟨0, 0, 0, false, 0⟩, sealed := [x] } } : State);
   let g := ({ s with sec := { s.sec with slots := (List.range 64).map (fun i => (i, { typ := 3, attr := 2 ^ 64 - 1 - 2 ^ 55 - (2 ^ 32 - 1) })) } } : State);
   (k.ownProof 0 0 0 false).isLeft = true ∧ g.keyAllows (g.rd F.HLM_SIGN_SLOT) Mst.ENG true Use.SEAL_SIGN = true ∧ s.keyAllows (s.rd F.HLM_SIGN_SLOT) Mst.ENG true Use.SEAL_SIGN = false) := by decide +kernel

theorem test_wit_loss_detection_commands :
  (let s := tb [(F.TCH_CTL_EN, 1), (F.IGT_STATE_MODE, 0)] 0;
   let n := ({ s with tim := { s.tim with epochs := [⟨0, 0, 10 ^ 15, 0x40000000000, 0⟩] } } : State);
   let e : BndEvent := ⟨s.minTime 300, s.minTime 300, 1, false, false, 13⟩;
   let b := ({ s with bndTch := [e], tch := { s.tch with vers := [(0, [])], closedTo := [(0, 0)] } } : State);
   let o := ({ tb [] 0 with bndTch := [e] } : State);
   let x : TchAlarm := { grp := 0, ph := 0, istart := 0, starts := [], status := 0, rate := 0 };
   let a := ({ s with tch := { s.tch with alarms := [x] } } : State);
   let v : TchVer := { from_ := 0, en := true, phases := 1, len := 3, ref := 7, refE := [1], refV := none, members := [] };
   let a2 := ({ s with tch := { s.tch with alarms := [x], vers := [(0, [v])] } } : State);
   let h := ({ s with tch := { s.tch with dets := [(detKey 0 0, { st := 4 })] } } : State);
   b.bndTch.head? = some e ∧ b.domOn Dom.TSK = true ∧ b.mode ≠ Md.HOLDUP ∧ b.bndPrf.any (fun x => decide (x.c ≤ e.c)) = false ∧ b.onRaster e.target = true ∧ b.on F.TCH_CTL_EN = true ∧
   b.balanceWaits (b.gridMin e.target) = false ∧ (b.groupDue 0 (b.gridMin e.target)).length ≠ 0 ∧ o.on F.TCH_CTL_EN = false ∧ (a.verAt 0 0).isNone = true ∧ (a2.verAt 0 0).isSome = true ∧ n.tch.dayDone < n.gridNow / 1440 ∧
   s.gridNow / 1440 ≤ s.tch.dayDone ∧ s.judge .pcie Pg.TCH 0xB8 = .open ∧ (∀ b, b < 4 → (List.range 4).all (fun i => bit (BitVec.ofNat 32 (2 ^ b)) i == decide (i = b)) = true) ∧ (h.det 0 0).st = 4 ∧ (s.det 0 0).st ≠ 4 ∧
   s.judge .pcie Pg.TCH (tchRegOff .nbr01) = .open ∧
   ((tchRegFields .nbr01 0 0).foldl (fun (t : State) f => t.wr f (f.ofWord 5#32)) s).tchLegal 0 = true ∧ ((tchRegFields .refNode 0 0).foldl (fun (t : State) f => t.wr f (f.ofWord 5#32)) s).tchLegal 0 = false ∧
   s.rd F.IGT_STATE_MODE < 4) := by decide +kernel

theorem test_wit_store_writes_journal_and_reads :
  (let s := tb [(F.IGT_STATE_READY, 1), (F.IGT_STATE_MODE, 1), (F.IGT_SPARE_NOW, 40)] 0;
   let j : JRec := { seq := 0, kind := 11, isLocal := true, body := [] };
   let t := ({ s with nand := { s.nand with dirty := [0], map := [(0, 5)], aus := [(5, ⟨0, []⟩)] }, jrn := { s.jrn with tail := [j] } } : State);
   let p := ({ s with jrn := { s.jrn with pages := [[j]] } } : State);
   let q := ({ s with jrn := { s.jrn with pages := [[{ j with seq := 9 }]] } } : State);
   let f := (s.wr F.IGT_STATE_TIER 0).wr F.IGT_DIRTY_EFF 0;
   let w := s.wr F.IGT_JRNL_USED 65535;
   let r := ({ t with nand := { t.nand with jrnlMib := 1 } } : State);
   let ru := ({ r with jrn := { r.jrn with pages := [[j]], tail := [] } } : State);
   0 < s.logicalAus ∧ s.igtWrites = true ∧ s.auErased 3 = true ∧ s.jrnRoom = true ∧ s.rd F.IGT_STATE_TIER ≠ 0 ∧ f.igtWrites = true ∧ f.rd F.IGT_STATE_TIER = 0 ∧ f.rd F.IGT_DIRTY_EFF * 1024 ≤ f.dirtyKib ∧
   f.jrnRoom = true ∧ w.jrnRoom = false ∧ w.igtWrites = true ∧ t.jrnStore = true ∧ 0 ∈ t.nand.dirty ∧ s.partnered = false ∧ t.jrn.tail ≠ [] ∧ p.jrnStore = true ∧ p.jrn.pages = [[j]] ∧
   journalRises s s = false ∧ journalRises t t = false ∧ r.jrnStore = true ∧ journalRises r ru = true ∧
   j.seq < p.releaseHorizon ∧ q.releaseHorizon ≤ 9 ∧ t.validAus (t.auBlock 5) ≠ [] ∧ s.mode ≠ Md.OUTAGE ∧ s.domOn Dom.NVM = true ∧ s.rd F.IGT_STATE_MODE ≠ 5 ∧ s.pins.nand.hasAu 3 = true ∧
   (s.nblock 3).bad = false ∧ ((s.wr F.IGT_SPARE_NOW 3).rd F.IGT_SPARE_NOW - 1) * 1000 < s.pins.nand.blocks) := by decide +kernel

theorem test_wit_blocks_moved_and_capacitor_tested :
  (let s := tb [(F.IGT_STATE_READY, 1), (F.IGT_STATE_MODE, 1), (F.IGT_CAP_CTL_EN, 1), (F.IGT_CAP_HOLDUP_MW, 100), (F.IGT_CAP_CTL_LOAD_MW, 200)] 0;
   let p := ({ s with pins := { s.pins with pfN := true, mainsOk := true }, nand := { s.nand with retryAt := some (some 0) } } : State);
   let t := ({ s with nand := { s.nand with map := [(0, 5)], aus := [(5, ⟨0, []⟩)], blocks := [(0, { reads := 10000000 })] } } : State);
   let v := ({ t with nand := { t.nand with blocks := [(0, {}), (9, { erases := 10001 })] } } : State).wr F.IGT_CTL_WL_EN 1;
   let c := ({ s with nand := { s.nand with capAt := some 0 } } : State);
   let r := ({ s with nand := { s.nand with recharge := true } } : State);
   let d : CopyTo := ⟨t.pins.nand.blockAus * 3, true⟩;
   t.jrnStore = true ∧ t.auBlock 5 = 0 ∧ (t.copyAus (t.validAus 0) [d] []).isSome = true ∧ v.trails 0 = true ∧ v.jrnStore = true ∧ (v.copyAus (v.validAus 0) [d] []).isSome = true ∧
   (t.copyAus (t.validAus 0) [] []).isNone = true ∧ p.capDue = true ∧ s.capDue = false ∧ p.pinCap 0 = true ∧ p.domOn Dom.IOX = true ∧ p.pinArb 0 = false ∧
   t.rdIn F.IGT_RD_LIMIT 1000 10000000 ≤ (t.nblock 0).reads ∧ t.gcMode = 1 ∧ p.nand.capAt = none ∧ p.jrnStore = true ∧ p.pins.pfN = true ∧ p.pins.mainsOk = true ∧ p.mode ≠ Md.OUTAGE ∧
   p.rd F.IGT_CAP_CTL_EN = 1 ∧ p.judge .pcie Pg.IGT 0x94 = .open ∧ c.nand.capAt = some 0 ∧ c.rd F.IGT_CAP_HOLDUP_MW ≠ 0 ∧ (c.wr F.IGT_CAP_HOLDUP_MW 0).rd F.IGT_CAP_HOLDUP_MW = 0 ∧ r.nand.recharge = true) := by decide +kernel

theorem test_wit_serial_links_and_their_frames :
  (let s := tb [(F.CHN_CTL_EN_UP, 1), (F.CHN_CTL_EN_DN, 1)] 1;
   let h := tb [(F.CHN_CTL_EN_DN, 1), (F.CHN_UNITS, 3)] 2;
   let k : KeySlot := { typ := 1, attr := 2 ^ (56 + Mst.CHN) + 2 ^ (48 + s.fuses.lc) + 2 ^ (32 + Use.LINK_MIC), sum := [1], mask := [0] };
   let u := ({ ((s.wr F.CHN_STAT_UP 2).wr F.CHN_STAT_DN 2).wr F.MIR_STAT_LINK 2 with sec := { s.sec with slots := SMap.set (SMap.set s.sec.slots 8 k) 9 k } } : State);
   let f : LinkFrame := { typ := 4, flags := 0, src := 0, dst := 0, body := [] };
   let d := { f with typ := 0 };
   let raw := fun (f : LinkFrame) => (f.head 1 ++ be 16 0) ++ be 4 (crc32 (f.head 1 ++ be 16 0));
   let v := ({ u with pair := { u.pair with handover := none } } : State);
   s.linkUsed 0 = true ∧ s.linkIsUp 0 = false ∧ s.role = 1 ∧ s.linkUsed 1 = true ∧ s.linkIsUp 1 = false ∧ h.linkUsed 1 = true ∧ h.linkIsUp 1 = false ∧ h.role = 2 ∧ (h.wr F.CHN_STAT_DN 2).linkIsUp 1 = true ∧
   u.linkIsUp 0 = true ∧ u.keyAllows 8 Mst.CHN false Use.LINK_MIC = true ∧ u.keyAllows 9 Mst.CHN false Use.LINK_MIC = true ∧ linkParse [] = none ∧ linkParse (raw f) = some (1, f) ∧ (u.slink 0).inOrder 1 = true ∧
   ((u.setSlink 0 { rxSeq := some 5 }).slink 0).inOrder 1 = false ∧ field (raw f) 0 1 / 16 = 1 ∧ linkParse (raw d) = some (1, d) ∧ (u.linkCommit 0 (raw d)).1 = true ∧ field (raw d) 0 1 / 16 = 1 ∧
   u.linkIsUp 2 = true ∧ 7 ≠ u.linkSelf 2 ∧ v.classBp (writerClass 64) = false ∧ (v.wr F.PLN_BP_STAT_ANY 0xFF).classBp (writerClass 64) = true)
   := by decide +kernel

theorem test_wit_the_token_walk_and_chain_time :
  (let b := tb [] 1;
   let k : KeySlot := { typ := 1, attr := 2 ^ (56 + Mst.CHN) + 2 ^ (48 + b.fuses.lc) + 2 ^ (32 + Use.LINK_MIC), sum := [1], mask := [0] };
   let s := ({ tb [(F.CHN_STAT_UP, 2), (F.CHN_STAT_DN, 2), (F.CHN_CTL_EN_UP, 1), (F.CHN_STAT_ADDR_CHANGED, 1), (F.TIME_SRC_SEL, 5), (F.TIME_QSTAT_SRC_LOST, 1)] 1 with sec := { b.sec with slots := SMap.set b.sec.slots 8 k } } : State);
   let h := ({ tb [(F.CHN_STAT_DN, 2)] 2 with sec := s.sec, tim := { s.tim with epochs := [⟨0, 0, 10 ^ 15, 0x40000000000, 1⟩] } } : State);
   s.linkIsUp 0 = true ∧ s.role = 1 ∧ s.linkIsUp 1 = true ∧ s.keyAllows 8 Mst.CHN false Use.LINK_MIC = true ∧ (17#8).toNat < 64 ∧ 64 ≤ (64#8).toNat ∧ 17 ≠ s.rd F.CHN_ADDR_PREV ∧ 63 = s.rd F.CHN_ADDR_PREV ∧ h.role = 2 ∧
   h.linkIsUp 1 = true ∧ h.keyAllows 8 Mst.CHN false Use.LINK_MIC = true ∧ ({ s with chn := { s.chn with enumWait := true } } : State).chn.enumWait = true ∧ s.chn.hasAddr = false ∧ s.chn.enumWait = false ∧
   s.judge .pcie Pg.CHN 0x40 = .open ∧ b2n (bit 5#32 0) = s.rd F.CHN_CTL_EN_UP ∧ b2n (bit 5#32 1) = s.rd F.CHN_CTL_EN_DN ∧ bit 5#32 2 = true ∧ s.rd F.CHN_STAT_ADDR_CHANGED = 1 ∧
   bit 0#32 0 = false ∧ b2n (bit 0#32 1) = s.rd F.CHN_CTL_EN_DN ∧ bit 0#32 2 = false ∧ (s.wr F.CHN_CTL_EN_UP 0).rd F.CHN_CTL_EN_UP = 0 ∧ bit 1#32 0 = true ∧ bit 1#32 2 = false ∧
   (s.wr F.CHN_CTL_EN_UP 0).judge .pcie Pg.CHN 0x40 = .open ∧ s.srcSel = 5 ∧ s.rd F.TIME_QSTAT_SRC_LOST = 1 ∧ qSource h.tim.cur.qual ≠ 0 ∧ qSource s.tim.cur.qual = 0 ∧
   s.dead = false ∧ s.pageOn Pg.CHN = true ∧ s.pageOn Pg.ETH = true) := by decide +kernel

theorem test_wit_the_head_and_its_units :
  (let b0 := tb [] 2;
   let k : KeySlot := { typ := 1, attr := 2 ^ (56 + Mst.SEC) + 2 ^ (48 + b0.fuses.lc) + 2 ^ (32 + Use.ANCHOR), sum := [1], mask := [0] };
   let h := ({ tb [(F.HLM_PRQ_Q, 80)] 2 with sec := { b0.sec with slots := SMap.set b0.sec.slots 10 k } } : State);
   let n := tb [(F.MIR_STAT_SOLO, 0)] 2;
   let at_ := fun (x : UnitInfo) => ({ h with chn := { h.chn with units := [(3, x)] } } : State);
   let b := be 8 0 ++ be 8 4 ++ be 272 0;
   let r := ({ tb [(F.CHN_STAT_UP, 2)] 1 with hlm := { h.hlm with sealed := [{ bytes := b, seq := 4, startC := 0, istart := 0, leaves := [], jseq := 0, released := true }] } } : State);
   let q := fun (e : Bool) => ({ h with hlm := { h.hlm with prq := some ⟨0x3000000, 0, 0, e, 3⟩ } } : State);
   h.role = 2 ∧ h.domOn Dom.SEC = true ∧ (h.invoke 10 Mst.SEC true Use.ANCHOR).1 = some [1] ∧ (n.invoke 10 Mst.SEC true Use.ANCHOR).1 = none ∧ h.judge .pcie Pg.CHN 0x70 = .open ∧ h.aggregates = true ∧ n.aggregates = true ∧
   h.sealKey 3 [] = none ∧ (at_ { lastSeq := some 3 }).aggregates = true ∧ h.partnerHas h.jrn.seq = true ∧ h.jrnRoom = true ∧ sealSeqOf b = 4 ∧
   ((at_ { asked := some (4, 1) }).unit 3).asked = some (4, 1) ∧ ((at_ { asked := some (4, 3) }).unit 3).asked = some (4, 3) ∧ (h.unit 3).asked = none ∧ (h.unit 3).held = [] ∧
   r.role = 1 ∧ r.linkIsUp 0 = true ∧ r.rd F.CHN_STAT_ADDR_CHANGED = 0 ∧ (r.hlm.sealed.find? (fun y => y.seq == 4)).isSome = true ∧ r.hlm.sealed.find? (fun y => y.seq == 5) = none ∧ r.domOn Dom.PKT = true ∧
   r.ownProof 0 0 0 false = .inr 2 ∧ (q false).hlm.prq.isSome = true ∧ ProofReq.unit ⟨0x3000000, 0, 0, true, 3⟩ = 3 ∧ ((q false).outputPacket ((q false).rd F.HLM_PRQ_Q) []).1 = true ∧
   (q true).proofExt [] = none) := by decide +kernel

theorem test_wit_ethernet_ports :
  (let s := tb [(F.ETH_CTL_EN 0, 1)] 0;
   let u := tb [(F.ETH_CTL_EN 0, 1), (F.ETH_STAT_LINK 0, 1)] 0;
   let w := ({ u.wr F.PLN_BP_STAT_ANY 0xFF with chn := { u.chn with pausing := 3 } } : State);
   let full := ({ u with chn := { u.chn with stamps := [(4, List.replicate 64 ⟨0, 0, 0, 0⟩)] } } : State);
   let ptp := ((be 6 0xFFFFFFFFFFFF ++ be 6 1 ++ be 2 0x88F7 ++ be 34 0) : List Byte);
   s.rd (F.ETH_CTL_EN 0) = 1 ∧ s.domOn Dom.UPL = true ∧ s.rd (F.ETH_STAT_LINK 0) ≠ 1 ∧ s.classBp 2 = false ∧ s.chn.pausing = 0 ∧ u.rd (F.ETH_STAT_LINK 0) = 1 ∧ u.ethRuns 0 = true ∧
   u.ethPasses 0 ptp = true ∧ ptp.length + 4 ≤ u.rdIn (F.ETH_MAXLEN 0) 64 9216 ∧ u.ethPasses 0 (be 6 2) = false ∧ (ptpStamp ptp u.raw).isSome = true ∧ ptpStamp [] u.raw = none ∧
   64 ≤ (SMap.getD full.chn.stamps 4 []).length ∧ full.ethRuns 0 = true ∧ u.domOn Dom.PKT = true ∧ w.ethRuns 0 = true ∧ w.chn.pausing.getLsbD 0 = true ∧ w.classBp 2 = true ∧ u.chn.pausing.getLsbD 0 = false)
   := by decide +kernel

theorem test_wit_the_mirror_link_and_its_reports :
  (let b0 := tb [] 0;
   let k : KeySlot := { typ := 1, attr := 2 ^ (56 + Mst.CHN) + 2 ^ (48 + b0.fuses.lc) + 2 ^ (32 + Use.LINK_MIC), sum := [1], mask := [0] };
   let s := ({ tb [(F.MIR_CTL_EN, 1)] 0 with pins := { b0.pins with pairSel := 1 }, sec := { b0.sec with slots := SMap.set b0.sec.slots 9 k } } : State);
   let up := ({ s.wr F.MIR_STAT_LINK 2 with chn := { s.chn with links := [(2, { cred0 := 9 })] } } : State);
   let a := ({ up with pair := { s.pair with active := true } } : State);
   let y := ({ s.wr F.MODE_CUR Md.STANDBY with jrn := { s.jrn with seq := 7 } } : State);
   let z := ({ up.wr F.MODE_CUR Md.STANDBY with jrn := { s.jrn with seq := 7 } } : State);
   let solo := ({ s with pair := { s.pair with active := true, partnerOut := 2 } } : State);
   s.linkUsed 2 = true ∧ s.linkIsUp 2 = false ∧ s.isStandby = false ∧ y.linkUsed 2 = true ∧ y.linkIsUp 2 = false ∧ y.isStandby = true ∧ y.pair.givenUp = false ∧ y.pair.barred = false ∧ 3 < y.jrn.seq ∧
   up.linkIsUp 2 = true ∧ s.partnered = true ∧ solo.partnered = true ∧ solo.linkIsUp 2 = false ∧ solo.pair.active = true ∧ solo.rd F.MIR_STAT_SOLO = 0 ∧ s.pair.active = false ∧ s.pair.partnerOut < 2 ∧
   up.partnered = true ∧ (be 32 0).length = 32 ∧ field (be 32 0) 30 1 / 4 % 4 = up.role ∧ field (be 30 0 ++ be 2 0xFFFF) 30 1 / 4 % 4 ≠ up.role ∧ 9 ≠ up.linkSelf 2 ∧ up.linkSelf 2 = 0 ∧ up.rd F.MIR_STAT_PAIR_CFG = 0 ∧
   (up.wr F.MIR_STAT_PAIR_CFG 1).rd F.MIR_STAT_PAIR_CFG = 1 ∧ up.canGiveUp = false ∧ a.canGiveUp = true ∧ a.isActive = true ∧ up.isActive = false ∧ up.ownClaim < 65536 ∧ up.jrn.seq < 2 ^ 64 ∧
   up.keyAllows (linkKeySlot 2) Mst.CHN false Use.LINK_MIC = true ∧ (a.slink 2).wait0 = [] ∧ (a.slink 2).wait1 = [] ∧ 0 < (a.slink 2).credit 0 ∧ a.giveUpCauses = 0 ∧ a.pair.shipped = a.jrn.seq ∧ a.journalRecs = [] ∧
   z.isStandby = true ∧ z.linkIsUp 2 = true ∧ z.syncUpdate.linkIsUp 2 = true ∧ (up.wr F.MIR_STAT_PARTNER_HB 1).rd F.MIR_STAT_PARTNER_HB = 1) := by decide +kernel

theorem test_wit_shipping_applying_and_handing_over :
  (let b0 := tb [] 0;
   let k : KeySlot := { typ := 1, attr := 2 ^ (56 + Mst.CHN) + 2 ^ (48 + b0.fuses.lc) + 2 ^ (32 + Use.LINK_MIC), sum := [1], mask := [0] };
   let s := ({ tb [(F.MIR_CTL_EN, 1), (F.MIR_STAT_LINK, 2), (F.IGT_STATE_READY, 1), (F.IGT_STATE_MODE, 1)] 0 with pins := { b0.pins with pairSel := 1 }, sec := { b0.sec with slots := SMap.set b0.sec.slots 9 k } } : State);
   let a := ({ s with pair := { s.pair with active := true } } : State);
   let h := ({ a with jrn := { s.jrn with seq := 3, tail := [{ seq := 3, kind := 7, isLocal := true, body := [] }] } } : State);
   let z := (s.wr F.MODE_CUR Md.STANDBY).wr F.MIR_STAT_SYNC 1;
   let x := ({ z with pair := { z.pair with stores := [⟨0, [], 1⟩] } } : State);
   let g := ({ z with pair := { z.pair with givenUp := true } } : State);
   let w := fun (i : Handover) => ({ a with pair := { a.pair with handover := some i } } : State);
   let o := ({ a with ovr := { a.ovr with running := some .claim } } : State);
   a.isActive = true ∧ a.linkIsUp 2 = true ∧ a.keyAllows 9 Mst.CHN false Use.LINK_MIC = true ∧ h.holdsFrom 3 = true ∧ h.holdsFrom 1 = false ∧ s.isActive = false ∧ z.isStandby = true ∧ z.linkIsUp 2 = true ∧
   z.rd F.MIR_STAT_SYNC = 1 ∧ z.receivedTo = 0 ∧ z.jrnRoom = true ∧ z.pair.behind = [] ∧ z.canApply 1 = true ∧ x.canApply 1 = false ∧ x.isStandby = true ∧ (z.wr F.IGT_JRNL_USED 65535).jrnRoom = false ∧ g.isStandby = true ∧
   z.igtWrites = true ∧ z.auErased 3 = true ∧ (z.wr F.IGT_STATE_MODE 4).igtWrites = false ∧ o.judge .pcie Pg.CLM 0x5C = .open ∧ o.ovrHolds .claim = true ∧ a.judge .pcie Pg.CLM 0x5C = .open ∧ a.ovrHolds .claim = false ∧
   bit 1#32 0 = true ∧ a.canGiveUp = true ∧ s.canGiveUp = false ∧ bit 4#32 2 = true ∧ bit 4#32 0 = false ∧ bit 4#32 1 = false ∧ g.judge .pcie Pg.CLM 0x5C = .open ∧ g.rd F.MIR_STAT_PAIR_CFG = 0 ∧ bit 2#32 1 = true ∧
   a.pair.handover = none ∧ isRole a.mode = true ∧ a.mirApplied = a.jrn.seq ∧ (w .draining).isActive = true ∧ (w .draining).workInFlight = false ∧ (w .waiting).upd.pairWait.isNone = true) := by decide +kernel

theorem test_wit_claim_rounds_takeover_and_control :
  (let b0 := tb [] 0;
   let n := tb [(F.CLM_EPOCH, 4094), (F.CLM_CTRL_STAT, 1)] 0;
   let p := ({ tb [(F.MIR_CTL_EN, 1), (F.CLM_WIN_STAT_WIN, 1)] 0 with pins := { b0.pins with pairSel := 1 } } : State);
   let q := ({ p with pins := { b0.pins with pairSel := 2 } } : State);
   let y := ({ p.wr F.MODE_CUR Md.STANDBY with pair := { p.pair with rounds := 3 } } : State);
   let z := ({ y.wr F.MIR_STAT_PARTNER_HB 1 with pair := { y.pair with hb := some ⟨0xF000, 4, 0, 0, 0, 0⟩ } } : State);
   let t := ({ n.wr F.MODE_CUR Md.TAKEOVER with pwr := { n.pwr with change := some ⟨n.roleMode, []⟩, ramping := none } } : State);
   let o := ({ n with ovr := { n.ovr with running := some .claim } } : State);
   n.domOn Dom.UPL = true ∧ n.dead = false ∧ n.partnered = false ∧ p.partnered = true ∧ p.pins.pairSel = 1 ∧ q.pins.pairSel = 2 ∧ p.domOn Dom.UPL = true ∧ p.dead = false ∧ p.rd F.CLM_WIN_STAT_WIN = 1 ∧
   p.beats p.syncUpdate.ownClaim (some 0xFFFF) = false ∧ y.partnered = true ∧ y.isStandby = true ∧ y.syncUpdate.ownClaim ≠ 0 ∧ y.beats y.syncUpdate.ownClaim none = true ∧ y.winIsSound y.syncUpdate.ownClaim = true ∧
   z.isStandby = true ∧ z.syncUpdate.ownClaim ≠ 0 ∧ z.winIsSound z.syncUpdate.ownClaim = false ∧ z.domOn Dom.UPL = true ∧ t.mode = Md.TAKEOVER ∧ t.roleMode = n.roleMode ∧ t.pwr.change.isSome = true ∧ t.pwr.ramping = none ∧
   isRole t.roleMode = true ∧ n.mode ≠ Md.OFF ∧ n.mode ≠ Md.VAULT ∧ p.canGiveUp = false ∧ n.judge .pcie Pg.CLM 0x64 = .open ∧ n.ovrHolds .claim = false ∧ n.on F.CLM_CTRL_ARB = false ∧ bits 0x0FFE0001#32 27 16 = n.rd F.CLM_EPOCH ∧
   bit 0x0FFE0001#32 0 = true ∧ bit 0x0FFE0001#32 1 = false ∧ bits 0x0FFE0003#32 27 16 = n.rd F.CLM_EPOCH ∧ bit 0x0FFE0003#32 1 = true ∧ n.rd F.CLM_CTRL_STAT = 1 ∧ o.judge .pcie Pg.CLM 0x64 = .open ∧
   o.ovrHolds .claim = true) := by decide +kernel

theorem test_wit_key_slot_commands :
  (let b := tb [(F.KEYS_SEL, 20)] 0;
   let a := fun (i : Nat) => tb [(F.KEYS_SEL, i)] 0;
   let k : KeySlot := { typ := 1, attr := 2 ^ (56 + Mst.HOST) + 2 ^ (48 + b.fuses.lc) + 2 ^ (32 + Use.UNWRAP) + 5, sum := [1], mask := [0] };
   let full := ({ b with sec := { b.sec with slots := [(20, k), (30, k)] } } : State);
   let kek := ({ b with sec := { b.sec with slots := [(30, { k with attr := k.attr - 5 })] } } : State);
   let old := full.setLedger 0 9;
   let off := (full.wr F.PWR_DOM_ON 0).wr F.MODE_CUR Md.VAULT;
   b.judge .pcie Pg.KEYS 0x40 = .open ∧ b.judge .pcie Pg.KEYS 0xB4 = .open ∧ bit 0#32 31 = false ∧ bit 0x811E0001#32 31 = true ∧ bits 0x811E0001#32 27 24 = 1 ∧ bits 0x811E0001#32 3 0 = 1 ∧ bits 0x811E0001#32 23 16 = 30 ∧
   (a 3).slotTakes 3 1 1 = false ∧ b.slotTakes 20 1 1 = true ∧ (full.slot 20).typ ≠ 0 ∧ (b.slot 20).typ = 0 ∧ bits 0x811E0007#32 3 0 = 7 ∧ (kek.invoke 30 (invoker .pcie) (secureWrite .pcie false) Use.UNWRAP).1 = some [1] ∧
   (b.invoke 30 (invoker .pcie) (secureWrite .pcie false) Use.UNWRAP).1 = none ∧ bits 0x82000000#32 27 24 = 2 ∧ (a 3).slotTakes 3 2 5 = false ∧ b.slotTakes 20 2 5 = true ∧ bits 0x83000001#32 27 24 = 3 ∧ bits 0x83000001#32 3 0 = 1 ∧
   (a 3).slotTakes 3 3 1 = false ∧ b.slotTakes 20 3 4 = true ∧ bits 0x83000004#32 3 0 = 4 ∧ bits 0x84000000#32 27 24 = 4 ∧ slotFixed 3 = true ∧ slotFixed 20 = false ∧ bits 0x85000000#32 27 24 = 5 ∧
   full.judge .pcie Pg.KEYS 0xB4 = .open ∧ narrows k.attr 0 = false ∧ narrows k.attr k.attr = true ∧ (k.attr).testBit (56 + Mst.HOST) = true ∧ narrows k.attr full.staged = false ∧
   narrows k.attr ((full.wr F.KEYS_ATTR_LO k.attr).wr F.KEYS_ATTR_HI (k.attr / 2 ^ 32)).staged = true ∧ old.domOn Dom.SEC = true ∧ attrExpiry (old.slot 20).attr = 5 ∧ old.ledgerTime = 9 ∧ full.ledgerTime < 5 ∧
   full.mode ≠ Md.OFF ∧ full.domOn Dom.SEC = true ∧ off.domOn Dom.SEC = false ∧ off.mode ≠ Md.OFF) := by decide +kernel

theorem test_wit_life_cycle_debug_and_tamper :
  (let b := tb [] 0;
   let k : KeySlot := { typ := 5, attr := 2 ^ (56 + Mst.SEC) + 0x3F * 2 ^ 48 + 2 ^ (32 + Use.ANCHOR), sum := [1], mask := [0] };
   let at_ := fun (lc : Nat) => ({ b with pins := { b.pins with mainsOk := true }, fuses := { b.fuses with lc := lc }, sec := { b.sec with slots := [(10, k), (11, k), (12, k), (13, k)], certs := [(1, [1]), (2, [2])] } } : State);
   let ch := fun (lc : Nat) => ({ at_ lc with sec := { (at_ lc).sec with lifeChal := some (7, (at_ lc).raw), dbgChal := some (7, (at_ lc).raw) } } : State);
   let f := ({ (at_ 2).wr F.LGL_LGEN 1 with cfg := { b.cfg with cur := ((at_ 2).wr F.LGL_LGEN 1).cfgImage, curKeys := (at_ 2).sec.blobs } } : State);
   let none_ := ({ at_ 1 with sec := { b.sec with certs := [] } } : State);
   let w := fun (n : Nat) => BitVec.ofNat 32 (0x1CFE0000 + n);
   let d := fun (n : Nat) => BitVec.ofNat 32 (0x80000000 + n);
   let ta := b.wr F.SEC_TAMPER_EN 0x3F;
   let lo := fun (lc : Nat) => decide ((ch lc).judge .pcie Pg.LIFE 0xB4 = .open ∧ (ch lc).judge .pcie Pg.DBG 0xAC = .open ∧ (ch lc).pins.mainsOk = true ∧ (ch lc).mode ≠ Md.OUTAGE ∧ (ch lc).mode ≠ Md.HOLDUP);
   lo 0 = true ∧ lo 1 = true ∧ lo 2 = true ∧ lo 3 = true ∧ lo 4 = true ∧ lo 5 = true ∧ bits (w 1) 31 16 = 0x1CFE ∧ bits (w 1) 3 0 = 1 ∧ bits (w 2) 3 0 = 2 ∧ bits (w 3) 3 0 = 3 ∧ bits (w 4) 3 0 = 4 ∧ bits (w 5) 3 0 = 5 ∧ bits 1#32 31 16 ≠ 0x1CFE ∧
   ({ at_ 0 with pins := { b.pins with mainsOk := false } } : State).pins.mainsOk = false ∧ (∀ i : Fin 14, 10 ≤ i.val → ((at_ 1).slot i.val).typ = 5) ∧ (SMap.find? (at_ 1).sec.certs 1).isSome = true ∧
   (SMap.find? (at_ 1).sec.certs 2).isSome = true ∧ SMap.find? none_.sec.certs 1 = none ∧ f.rd F.DBG_LEVEL = 0 ∧ f.cfgDirty = false ∧ 1 ≤ f.rd F.LGL_LGEN ∧ f.fuses.lc = 2 ∧ (at_ 2).rd F.LGL_LGEN = 0 ∧
   ((at_ 2).chalFresh (at_ 2).sec.lifeChal).isNone = true ∧ (ch 3).chalFresh (ch 3).sec.lifeChal = some 7 ∧ ((ch 3).invoke 13 Mst.SEC true Use.ANCHOR).1 = some [1] ∧ ((ch 3).invoke 12 Mst.SEC true Use.ANCHOR).1 = some [1] ∧
   b.dead = false ∧ b.pageOn Pg.LIFE = true ∧ b.pageOn Pg.DBG = true ∧ bit (d 1) 31 = true ∧ bit 1#32 31 = false ∧ min 2 (bits (d 1) 1 0) = 1 ∧ min 2 (bits (d 0) 1 0) = 0 ∧ ((at_ 3).chalFresh (at_ 3).sec.dbgChal).isNone = true ∧
   (ch 3).chalFresh (ch 3).sec.dbgChal = some 7 ∧ ta.mode ≠ Md.OFF ∧ (ta.rd F.SEC_TAMPER_EN).testBit 2 = true ∧ ta.mode ≠ Md.VAULT ∧ (ta.wr F.MODE_CUR Md.VAULT).mode = Md.VAULT) := by decide +kernel

theorem test_wit_attestation_and_certificates :
  (let b := tb [(F.SEC_OUT_Q, 80), (F.SEC_IN_CELL, 3)] 0;
   let k : KeySlot := { typ := 4, attr := 2 ^ (56 + Mst.SEC) + 0x3F * 2 ^ 48 + 2 ^ (32 + Use.ATTEST_SIGN), sum := [1], mask := [0] };
   let s := ({ b with sec := { b.sec with slots := [(1, k), (2, k)], certs := [(2, [7])] } } : State);
   let p := ({ s.wr F.MODE_CUR Md.PROVISION with cru := { s.cru with links := SMap.set s.cru.links 3 { s.link 3 with st := .held, host := true } } } : State);
   let out := fun (i : Nat) (x : List Byte) => ((s.wr F.SEC_ATT_CTL_ITEM i).outputPacket 80 x).1 = true;
   s.judge .pcie Pg.SEC 0xA0 = .open ∧ p.judge .pcie Pg.SEC 0xA0 = .open ∧ bit 0#32 29 = false ∧ bit 0#32 31 = false ∧ bit 0x80000000#32 31 = true ∧ bits 0x80000000#32 2 0 = 0 ∧ bits 0x80000005#32 2 0 = 5 ∧ bits 0x80000002#32 2 0 = 2 ∧
   bits 0x80000003#32 2 0 = 3 ∧ queueNamed (s.rd F.SEC_OUT_Q) = true ∧ queueNamed ((s.wr F.SEC_OUT_Q 0).rd F.SEC_OUT_Q) = false ∧ s.keyAllows 2 Mst.SEC true Use.ATTEST_SIGN = true ∧ b.keyAllows 2 Mst.SEC true Use.ATTEST_SIGN = false ∧
   (b.slot 1).typ = 0 ∧ (s.slot 1).typ ≠ 0 ∧ out 2 [7] ∧ SMap.find? s.sec.certs 2 = some [7] ∧ SMap.find? s.sec.certs 3 = none ∧ bit 0x20000002#32 29 = true ∧ bits 0x20000002#32 2 0 = 2 ∧ p.mode = Md.PROVISION ∧
   (p.link 3).st = .held ∧ (p.link 3).host = true ∧ p.rd F.SEC_IN_CELL = 3 ∧ ((p.wr F.SEC_IN_CELL 9).link 9).st ≠ .held ∧ s.mode ≠ Md.PROVISION) := by decide +kernel

theorem test_wit_images_loaded_stored_and_forwarded :
  (let b := tb [(F.UPD_LOAD_CELL, 3), (F.IGT_STATE_READY, 1), (F.IGT_STATE_MODE, 1), (F.UPD_IMG_SEL, 0)] 2;
   let h := ({ b with cru := { b.cru with links := SMap.set b.cru.links 3 { b.link 3 with st := .held, host := true } } } : State);
   let x : Image := ⟨[], [], []⟩;
   let s := ({ h.wr F.CHN_STAT_DN 2 with upd := { h.upd with store := [(0, x)] } } : State);
   let r := ({ tb [(F.CHN_STAT_UP, 2), (F.IGT_STATE_READY, 1), (F.IGT_STATE_MODE, 1)] 1 with upd := { b.upd with arriving := some (5, [1, 2]) } } : State);
   let q := ({ s with upd := { s.upd with fwd := some 5 } } : State);
   let p := ({ (b.wr F.MIR_STAT_PARTNER_HB 1) with upd := { b.upd with pairWait := some [] }, pair := { b.pair with active := true, hb := some ⟨0, 0, 1, 0, 0, 0⟩ } } : State);
   b.role ≠ 1 ∧ b.judge .pcie Pg.UPD 0x4C = .open ∧ bit 0#32 31 = false ∧ bit 0x80000000#32 31 = true ∧ bit 0x80000000#32 0 = false ∧ bit 0x80000001#32 0 = true ∧ b.hostHeld 3 = false ∧ h.hostHeld 3 = true ∧
   h.judge .pcie Pg.UPD 0x4C = .open ∧ h.rd F.UPD_LOAD_CELL = 3 ∧ h.rd F.UPD_LOAD_OFS = h.upd.load.length ∧ (h.wr F.UPD_LOAD_OFS 4).rd F.UPD_LOAD_OFS ≠ h.upd.load.length ∧
   (({ h with upd := { h.upd with load := h.pktPayload 3 } } : State).releasePacket 3).updStore = true ∧ (({ (h.wr F.IGT_STATE_READY 0) with upd := { h.upd with load := h.pktPayload 3 } } : State).releasePacket 3).updStore = false ∧
   imageFormed (imageOf []) = false ∧ b.storeEntry 7 = none ∧ (List.range 16).find? (fun j => (SMap.find? b.upd.store j).isNone) = some 0 ∧
   b.storeBytes + (imageBytes x).length ≤ b.rdIn F.UPD_STORE_MIB 64 4096 * 1048576 ∧ s.judge .pcie Pg.UPD 0x68 = .open ∧ SMap.find? s.upd.store (s.rd F.UPD_IMG_SEL) = some x ∧ SMap.find? b.upd.store 0 = none ∧
   bits 1#32 1 0 = 1 ∧ bits 2#32 1 0 = 2 ∧ s.linkIsUp 1 = true ∧ s.role ≠ 0 ∧ q.upd.fwd = some 5 ∧ q.linkIsUp 1 = true ∧ s.upd.fwd = none ∧ r.role = 1 ∧ r.linkIsUp 0 = true ∧ r.updStore = true ∧ r.upd.arriving = some (5, [1, 2]) ∧
   s.role = 2 ∧ p.upd.pairWait = some [] ∧ p.pair.active = true ∧ bits 6#32 3 0 = 6 ∧ bits 4#32 3 0 = 4 ∧ p.rd F.MIR_STAT_PARTNER_HB = 1 ∧ p.pair.hb.isSome = true ∧ (1).testBit 0 = true) := by decide +kernel

theorem test_wit_node_pushes_and_bundles_started :
  (let hd := fun (p : Nat) => be 6 0 ++ be 1 p ++ be 1 1 ++ be 248 0;
   let x : Image := ⟨hd 8, [], []⟩;
   let y : Image := ⟨hd 4, [], []⟩;
   let z : Image := ⟨be 6 0 ++ be 1 4 ++ be 249 0, [], []⟩;
   let b := tb [(F.UPD_NODE_LIST, 3), (F.UPD_BUNDLE, 2), (F.CLM_CTRL_STAT, 2), (F.LIFE_STAT_DONE, 1)] 1;
   let s := ({ b.wr F.CHN_STAT_UP 2 with pins := { b.pins with roleSel := 1 }, upd := { b.upd with store := [(0, x), (1, y)] }, cru := { b.cru with links := SMap.set b.cru.links 3 { b.link 3 with st := .held, host := true } } } : State);
   let q := ({ s.wr F.MODE_CUR s.roleMode with upd := { s.upd with push := some x, nodes := [{ nbr := 7, sent := true }, { nbr := 8 }, { nbr := 9, sent := true, tries := 15 }] } } : State);
   let e := (s.wr F.MODE_CUR s.roleMode);
   let p := ({ (e.wr F.MIR_CTL_EN 1).wr F.MIR_STAT_PARTNER_HB 1 with pins := { e.pins with pairSel := 1 }, pair := { e.pair with active := true, hb := some ⟨0, 0, 9, 0, 0, 0⟩ } } : State);
   b.upd.push = none ∧ q.upd.nodes ≠ [] ∧ (q.wr F.CLM_CTRL_STAT 1).rd F.CLM_CTRL_STAT ≠ 2 ∧ s.judge .pcie Pg.UPD 0x68 = .open ∧ bits 3#32 1 0 = 3 ∧ SMap.find? s.upd.store (s.rd F.UPD_IMG_SEL) = some x ∧ hdrPart x.head = 8 ∧
   s.hostHeld (s.rd F.UPD_NODE_LIST) = true ∧ s.upd.push = none ∧ q.upd.push = some x ∧ (q.upd.nodes.find? (fun z => z.nbr == (7#16).toNat)).isSome = true ∧ q.upd.nodes.find? (fun z => z.nbr == (5#16).toNat) = none ∧
   q.rd F.CLM_CTRL_STAT = 2 ∧ q.rdIn F.UPD_NODE_RETRY 1 15 ≤ 15 ∧ 0 < q.rdIn F.UPD_NODE_RETRY 1 15 ∧ e.judge .pcie Pg.UPD 0x70 = .open ∧ bits 0xA9B10001#32 31 16 = 0xA9B1 ∧ bit 0xA9B10001#32 0 = true ∧ bit 0xA9B10001#32 1 = false ∧
   e.selected = [y] ∧ e.role = 1 ∧ e.linkIsUp 0 = true ∧ e.imagesOf [] = some [] ∧ b.imagesOf [5] = none ∧ e.rd F.UPD_STAT_STATE = 0 ∧ e.mode = e.roleMode ∧ e.rd F.LIFE_STAT_DONE = 1 ∧ isBundle [y] = true ∧ e.baseMatches y = true ∧
   (e.pickOrder [y]).isSome = true ∧ (e.wr F.UPD_STAT_STATE 2).rd F.UPD_STAT_STATE = 2 ∧ isBundle [] = false ∧ hdrFull z.head = false ∧ bit 0xA9B10003#32 0 = true ∧ bit 0xA9B10003#32 1 = true ∧ bits 0xA9B10003#32 31 16 = 0xA9B1 ∧
   p.partnered = true ∧ p.pair.active = true ∧ p.mode = p.roleMode ∧ p.rd F.MIR_STAT_PARTNER_HB = 1 ∧ (9).testBit 0 = true ∧ (9).testBit 3 = true ∧ p.selected = [y] ∧ p.rd F.CLM_CTRL_STAT = 2 ∧ p.judge .pcie Pg.UPD 0x70 = .open ∧
   p.upd.pairWait = none ∧ bits 1#32 31 16 ≠ 0xA9B1) := by decide +kernel

theorem test_wit_parts_built_tried_confirmed_and_reverted_again :
  (let y : Image := ⟨be 6 0 ++ be 1 4 ++ be 1 1 ++ be 248 0, [], []⟩;
   let bad : Image := ⟨be 6 0 ++ be 1 4 ++ be 249 0, [], [1#8] ++ be 7 0x10000000000000⟩;
   let b0 := tb [(F.IGT_STATE_READY, 1), (F.IGT_STATE_MODE, 1), (F.UPD_CONFIRM_TO, 5)] 0;
   let base := ({ b0.wr F.MODE_CUR b0.roleMode with tim := { b0.tim with raw := 100000000000 } } : State);
   let at_ := fun (st : Nat) (b : Bundle) => ({ base.wr F.UPD_STAT_STATE st with upd := { b0.upd with bundle := some b } } : State);
   let b : Bundle := { images := [y, y], reached := true };
   let c : Bundle := { images := [y] , built := true, back := 1 };
   (at_ 1 b).updStore = true ∧ b.built = false ∧ b.images[b.step]? = some y ∧ hdrPart y.head = 4 ∧ ((at_ 1 b).part 4).act ≤ 1 ∧ (buildRecs [] y.stream.length y.stream) = some [] ∧ hdrPart bad.head = 4 ∧
   buildRecs [] bad.stream.length bad.stream = none ∧ b.step + b2n b.built = 0 ∧ c.step + b2n c.built ≠ 0 ∧ (at_ 2 b).resetWindow = true ∧ (at_ 2 b).rd F.UPD_STAT_STATE = 2 ∧ (at_ 3 b).trialWell b = true ∧
   (at_ 3 c).trialWell c = false ∧ b.step + 1 < b.images.length ∧ c.images.length ≤ c.step + 1 ∧ (at_ 5 c).resetWindow = true ∧ (at_ 5 c).rd F.UPD_STAT_STATE = 5 ∧ 0 < c.back ∧ c.images[c.back - 1]? = some y ∧
   (at_ 4 b).judge .pcie Pg.UPD 0x74 = .open ∧ bits 0xC0F10001#32 31 16 = 0xC0F1 ∧ bit 0xC0F10001#32 1 = false ∧ bit 0xC0F10001#32 0 = true ∧ bit 0xC0F10002#32 1 = true ∧ (at_ 4 b).rd F.UPD_STAT_STATE = 4 ∧
   (at_ 4 b).rd F.UPD_CONFIRM_TO ≠ 0) := by decide +kernel

theorem test_wit_resets_watchdog_and_domains :
  (let s := tb [(F.RST_WDT_PERIOD, 5)] 0;
   let md := fun (m : Nat) => s.wr F.MODE_CUR m;
   let q := ({ md Md.HOLDUP with pwr := { s.pwr with quench := true } } : State);
   let r := ({ s with rst := { s.rst with seq := some (4, 0) } } : State);
   let f := ({ s.wr F.IGT_STATE_READY 1 with nand := { s.nand with dirty := [3] } } : State);
   let w := ({ s with rst := { s.rst with wdtRun := true }, tim := { s.tim with raw := 2 ^ 40 } } : State);
   let p := ({ s with pwr := { s.pwr with ramping := some 4, change := some ⟨4, [4]⟩ } } : State);
   let i := ({ s with rst := { s.rst with inReset := [(2, 0), (4, 1)], asked := [(4, 1), (10, 0)] } } : State);
   let c := ({ (s.wr F.ARB_DOM_BUDGET 60000) with pwr := { s.pwr with ramping := none, change := some ⟨4, [4]⟩ } } : State);
   let o := ({ s with ovr := { s.ovr with running := some .reset } } : State);
   let one := b2n true;
   r.rst.seq ≠ none ∧ s.rst.seq = none ∧ q.mode = Md.HOLDUP ∧ q.pwr.quench = true ∧ s.dsp.typ = 0 ∧ s.mode ≠ Md.HOLDUP ∧ f.preFlushDue = true ∧ s.preFlushDue = false ∧ (md Md.OFF).mode = Md.OFF ∧ (md Md.VAULT).mode = Md.VAULT ∧
   s.pins.mainGood = true ∧ s.pins.pfN = true ∧ s.mode ≠ Md.OFF ∧ s.mode ≠ Md.VAULT ∧ s.judge .pcie Pg.RST 0x6C = .open ∧ o.judge .pcie Pg.RST 0x6C = .open ∧ bits 0x5F0F0001#32 31 16 = 0x5F0F ∧ bit 0x5F0F0001#32 0 = true ∧
   bits 1#32 31 16 ≠ 0x5F0F ∧ o.ovrHolds .reset = true ∧ s.judge .pcie Pg.RST 0x74 = .open ∧ w.rst.wdtRun = true ∧ w.rst.wdtAt + w.rdIn F.RST_WDT_PERIOD 100 60000 * 250000 ≤ w.raw ∧ w.rd F.RST_WDT_PERIOD ≠ 0 ∧ s.rst.wdtRun = false ∧ r.rst.flushDone = false ∧ p.pwr.ramping = some (4 : Fin 12).val ∧
   (p.wr F.MODE_CUR Md.BOOT).mode = Md.BOOT ∧ p.mode ≠ Md.BOOT ∧ p.mode ≠ Md.TAKEOVER ∧ p.ovrHolds .mode = false ∧ i.pwr.ramping ≠ some 4 ∧ (i.rst.inReset.find? (fun y => y.1 == 4)) = some (4, 1) ∧
   (i.rst.inReset.find? (fun y => y.1 == 2)) = some (2, 0) ∧ Dom.LGL = 2 ∧ i.rst.inReset.find? (fun y => y.1 == 9) = none ∧ c.pwr.change = some ⟨4, [4]⟩ ∧ c.pwr.ramping = none ∧ c.rd F.ARB_DOM_USED + domCredit 4 ≤ c.rd F.ARB_DOM_BUDGET ∧
   (c.wr F.ARB_DOM_BUDGET 1).rd F.ARB_DOM_BUDGET < c.rd F.ARB_DOM_USED + domCredit 4 ∧ i.rst.asked.find? (fun y => y.1 == 4) = some (4, 1) ∧ i.rst.asked.find? (fun y => y.1 == 10) = some (10, 0) ∧ i.rst.asked.find? (fun y => y.1 == 1) = none ∧
   i.domPowered 4 = true ∧ i.domPowered 10 = true ∧ (i.wr F.PWR_DOM_ON 1).domPowered 4 = false ∧ (Dom.MEM = 3 ∨ Dom.MEM = 9) ∧ Dom.NVM = 10 ∧ one = 1) := by decide +kernel

theorem test_wit_supplies_holdup_and_vault :
  (let s := tb [] 0;
   let md := fun (m : Nat) => s.wr F.MODE_CUR m;
   let h := ({ md Md.HOLDUP with pwr := { s.pwr with quench := true } } : State);
   let v := ({ md Md.VAULT with pwr := { s.pwr with vaultByReq := true } } : State);
   let off := ({ md Md.OFF with pins := { s.pins with mainGood := false } } : State);
   let va := ({ md Md.VAULT with pins := { s.pins with mainGood := false } } : State);
   let hr := ({ (md Md.HOLDUP).wr F.IGT_STATE_MODE 1 with pwr := { s.pwr with quench := false, change := none } } : State);
   let hw := ({ h with rst := { h.rst with waiting := some (4, 0) } } : State);
   let hv := ({ h with pwr := { h.pwr with vaultReq := true } } : State);
   (md Md.OFF).mode = Md.OFF ∧ s.mode ≠ Md.OFF ∧ s.mode ≠ Md.VAULT ∧ v.mode = Md.VAULT ∧ v.pwr.vaultByReq = true ∧ (md Md.VAULT).pwr.vaultByReq = false ∧ off.mode = Md.OFF ∧ off.pins.mainGood = false ∧ va.mode = Md.VAULT ∧
   va.pins.mainGood = false ∧ s.pins.mainGood = true ∧ s.pins.pfN = true ∧ (md Md.HOLDUP).mode = Md.HOLDUP ∧ (md Md.BOOT).mode = Md.BOOT ∧ (md Md.BOOT).rd F.IGT_STATE_READY = 0 ∧ (md Md.BOOT).rst.kept = false ∧
   s.mode ≠ Md.HOLDUP ∧ s.mode ≠ Md.BOOT ∧ s.rd (F.TIME_CAP_FLAGS_VALID 1) = 0 ∧ ((s.wr (F.TIME_CAP_FLAGS_VALID 1) 1).rd (F.TIME_CAP_FLAGS_VALID 1)) = 1 ∧ s.pins.vbak = true ∧ ({ s with pins := { s.pins with vbak := false } } : State).pins.vbak = false ∧
   h.mode = Md.HOLDUP ∧ h.pwr.quench = true ∧ h.rst.waiting.isNone = true ∧ h.pwr.vaultReq = false ∧ hv.pwr.vaultReq = true ∧ hw.rst.waiting = some (4, 0) ∧ (h.wr F.IGT_STATE_MODE 5).rd F.IGT_STATE_MODE = 5 ∧ h.rd F.IGT_STATE_MODE ≠ 5 ∧
   hr.mode = Md.HOLDUP ∧ hr.pwr.vaultReq = false ∧ hr.rst.seq.isNone = true ∧ hr.pwr.change.isNone = true ∧ (hr.wr F.DBG_SCAN_ABORTED 1).on F.DBG_SCAN_ABORTED = true ∧ hr.on F.DBG_SCAN_ABORTED = false ∧ hr.rd F.IGT_STATE_MODE ≠ 5 ∧ hr.pwr.modeLeft ≠ Md.BOOT)
   := by decide +kernel

theorem test_wit_mode_requests_outage_and_the_end_of_boot :
  (let s := tb [] 0;
   let idle := fun (m : Nat) => ({ s.wr F.MODE_CUR m with pwr := { s.pwr with change := none, ramping := none }, fuses := { s.fuses with lc := 2 } } : State);
   let r := idle 4;
   let o := ({ r with ovr := { r.ovr with running := some .mode } } : State);
   let w := fun (n : Nat) => BitVec.ofNat 32 (0x30DE0000 + n);
   let p := ({ r.wr F.MIR_CTL_EN 1 with pins := { r.pins with pairSel := 1 }, pair := { r.pair with active := true } } : State);
   let m := ({ r.wr F.PWR_CTL_OUT_EN 1 with pins := { r.pins with mainsOk := false } } : State);
   let b := ({ idle Md.BOOT with pwr := { s.pwr with change := some ⟨Md.BOOT, []⟩, ramping := none } } : State);
   r.judge .pcie Pg.MODE 0x44 = .open ∧ o.judge .pcie Pg.MODE 0x44 = .open ∧ bits (w Md.SERVICE) 31 16 = 0x30DE ∧ bits (w Md.SERVICE) 3 0 = Md.SERVICE ∧ bits (w 13) 3 0 = 13 ∧ bits 4#32 31 16 ≠ 0x30DE ∧ o.ovrHolds .mode = true ∧
   b.modeBusy = true ∧ r.modeBusy = false ∧ r.modeAdmitted Md.SERVICE = true ∧ ({ r with fuses := { r.fuses with lc := 3 } } : State).modeAdmitted Md.PROVISION = false ∧ isRole r.mode = true ∧ r.modeFits Md.SERVICE = true ∧ r.partnered = false ∧
   (r.wr F.ARB_DOM_BUDGET 1).modeFits Md.SERVICE = false ∧ p.partnered = true ∧ p.pair.active = true ∧ p.modeBusy = false ∧ p.modeAdmitted Md.SERVICE = true ∧ (idle Md.VAULT).mode = Md.VAULT ∧ (idle Md.VAULT).modeBusy = false ∧
   (idle Md.VAULT).pins.mainGood = true ∧ (idle Md.VAULT).pins.pfN = true ∧ (idle Md.SERVICE).mode = Md.SERVICE ∧ (idle Md.SERVICE).modeAdmitted Md.PROVISION = true ∧ (idle Md.SERVICE).modeFits Md.PROVISION = true ∧
   (idle Md.SERVICE).modeAdmitted r.roleMode = true ∧ isRole (idle Md.SERVICE).roleMode = true ∧ r.modeAdmitted Md.VAULT = true ∧ s.pins.mainsOk = true ∧ m.pins.mainsOk = false ∧ (m.wr F.MODE_CUR Md.OFF).mode = Md.OFF ∧ isRole m.mode = true ∧ m.pins.pfN = true ∧
   m.on F.PWR_CTL_OUT_EN = true ∧ m.rst.seq.isNone = true ∧ m.modeAdmitted Md.OUTAGE = true ∧ (idle Md.OUTAGE).mode = Md.OUTAGE ∧ (idle Md.OUTAGE).pins.mainsOk = true ∧ b.mode = Md.BOOT ∧ b.pwr.change = some ⟨Md.BOOT, []⟩ ∧ b.dead = false ∧ b.roleAdmitted = true ∧
   b.pwr.domFailed = false ∧ b.fwOk = true ∧ b.bootTarget 4096 ≠ Md.BOOT ∧ b.ledger 27 = 0 ∧ (b.setLedger 27 5).ledger 27 = 5) := by decide +kernel

theorem test_wit_self_test_and_the_ledger :
  (let b := tb [] 0;
   let next := fun (k : Nat) => b.wr F.PST_NEXT k;
   let on := fun (k : Nat) (sil : Bool) => ({ b with pst := { b.pst with slice := some ⟨k, sil⟩ } } : State);
   let iso := ({ on 3 false with cru := { b.cru with isolated := some 3 } } : State);
   let ran := ({ on 3 false with pst := { (on 3 false).pst with units := [(3, { skips := 2 })] } } : State);
   let full := ({ b with pst := { b.pst with full := some ([3], true) } } : State);
   let held := ({ b with pst := { b.pst with units := [(20, { held := true, failed := true })] }, pair := { b.pair with active := true } } : State);
   let v := b.wr F.MODE_CUR Md.VAULT;
   let h := ({ b with ldg := { b.ldg with poh := 3599 } } : State);
   (b.wr F.PST_CTL_EN 0).pstRuns = false ∧ b.pstRuns = true ∧ (next 3).pstNext = some 3 ∧ b.cru.drain.isNone = true ∧ b.cru.isolated.isNone = true ∧ (next 3).drainBound ≤ (next 3).cruFree - (next 3).bankFree 3 ∧
   (next 20).pstRuns = true ∧ (next 20).pstNext = some 20 ∧ ((next 20).rd (unitEnable 20).1).testBit (unitEnable 20).2 = true ∧ (next 50).pstNext = some 50 ∧ b.pst.slice.isNone = true ∧ iso.pst.slice = some ⟨3, false⟩ ∧ iso.pstIsolated ⟨3, false⟩ = true ∧
   (on 3 false).pstIsolated ⟨3, false⟩ = false ∧ ((on 3 false).pstUnit 3).skips < 2 ∧ 2 ≤ (ran.pstUnit 3).skips ∧ ran.pst.full.isNone = true ∧ (held.pstUnit 20).held = true ∧ (held.pstUnit 20).failed = true ∧ (b.pstUnit 20).failed = false ∧ (b.pstUnit 20).st = 0 ∧
   held.pair.active = true ∧ (unitDomain 20 = Dom.TSK) ∧ full.pst.full = some ([3], true) ∧ [3].filter (fun v => v != 3) = [] ∧ [3, 4].filter (fun v => v != 3) ≠ [] ∧ b.domOn Dom.IOX = true ∧ (List.range 107).filter (fun u => !b.pstMasked u && b.domPowered (unitDomain u)) ≠ [] ∧
   1000 ≤ (b.wr F.PST_COVERAGE 1000).rd F.PST_COVERAGE ∧ isRole b.mode = true ∧ b.judge .pcie Pg.PST 0x98 = .open ∧ b.judge .pcie Pg.PST 0x9C = .open ∧ bit 1#32 0 = true ∧ bit 0#32 0 = false ∧ b.mode ≠ Md.SERVICE ∧ (b.wr F.MODE_CUR Md.SERVICE).mode = Md.SERVICE ∧
   (b.wr F.MODE_CUR Md.SERVICE).judge .pcie Pg.PST 0x9C = .open ∧ v.mode = Md.VAULT ∧ (b.wr F.MODE_CUR Md.OFF).mode = Md.OFF ∧ b.mode ≠ Md.OFF ∧ b.mode ≠ Md.VAULT ∧ 3600 ≤ h.ldg.poh + 1 ∧ b.ldg.poh + 1 < 3600 ∧ b.ledgerTime % 3600 = 0 ∧ b.domOn Dom.MEM = true ∧
   (b.ledgerAdd 0 1).ledgerTime % 3600 ≠ 0 ∧ b.rd F.IGT_STATE_MODE ≠ 5 ∧ b.ledger 26 < b.rd F.LDG_WARN_D) := by decide +kernel

theorem test_wit_succession_and_clock_faults :
  (let b := tb [(F.LDG_SUCC_CELL, 3)] 0;
   let sv := b.wr F.MODE_CUR Md.SERVICE;
   let h := ({ b with cru := { b.cru with links := SMap.set b.cru.links 3 { b.link 3 with st := .held, host := true } } } : State);
   let p := ({ h.wr F.MODE_CUR Md.PROVISION with fuses := { h.fuses with lc := 2 } } : State);
   let r := ({ p with ldg := { p.ldg with load := [] } } : State).releasePacket 3;
   let k := ({ b with sec := { b.sec with slots := SMap.set b.sec.slots 10 { typ := 1, attr := 2 ^ (56 + Mst.SEC) + 2 ^ (48 + b.fuses.lc) + 2 ^ (32 + Use.ANCHOR), sum := [1], mask := [0] } } } : State);
   b.judge .pcie Pg.LDG 0x50 = .open ∧ sv.judge .pcie Pg.LDG 0x50 = .open ∧ h.judge .pcie Pg.LDG 0x50 = .open ∧ bits 1#32 31 16 ≠ 0x5CCE ∧ bits 0x5CCE0001#32 31 16 = 0x5CCE ∧ bit 0x5CCE0001#32 0 = true ∧ bits 0x5CCE0002#32 31 16 = 0x5CCE ∧ bit 0x5CCE0002#32 0 = false ∧
   bit 0x5CCE0002#32 1 = true ∧ bit 0x5CCE0002#32 2 = false ∧ bits 0x5CCE0006#32 31 16 = 0x5CCE ∧ bit 0x5CCE0006#32 0 = false ∧ bit 0x5CCE0006#32 1 = true ∧ bit 0x5CCE0006#32 2 = true ∧ b.mode ≠ Md.SERVICE ∧ sv.mode = Md.SERVICE ∧ sv.rd F.LDG_SUCC_Q < 80 ∧
   80 ≤ (sv.wr F.LDG_SUCC_Q 81).rd F.LDG_SUCC_Q ∧ b.hostHeld 3 = false ∧ h.rd F.LDG_SUCC_CELL = 3 ∧ h.hostHeld 3 = true ∧ h.rd F.LDG_SUCC_OFS = h.ldg.load.length ∧ (h.wr F.LDG_SUCC_OFS 4).rd F.LDG_SUCC_OFS ≠ h.ldg.load.length ∧
   r.mode = Md.PROVISION ∧ r.fuses.lc = 2 ∧ r.hlm.sealed.all (fun y => !y.released) = true ∧ p.judge .pcie Pg.LDG 0x50 = .open ∧
   k.keyAllows 10 Mst.SEC true Use.ANCHOR = true ∧ b.mode ≠ Md.OFF ∧ b.mode ≠ Md.VAULT ∧ (b.wr F.MODE_CUR Md.OFF).mode = Md.OFF ∧ (5#16).toInt.natAbs ≤ 10 * b.rd F.CLK_REF_TOL ∧ 10 * b.rd F.CLK_REF_TOL < (2000#16).toInt.natAbs ∧ (2000#16).toInt.natAbs ≤ 100 * b.rd F.CLK_REF_TOL ∧
   100 * b.rd F.CLK_REF_TOL < (20000#16).toInt.natAbs ∧ (b.rd F.CLK_LOCK).testBit (5 : Fin 14).val = false ∧ (b.rd F.CLK_LOCK).testBit (0 : Fin 14).val = true ∧ b.pins.pairSel ≠ 3 ∧ ({ b with pins := { b.pins with pairSel := 3 } } : State).pins.pairSel = 3) := by decide +kernel

theorem test_wit_the_panels_images_rails_and_legal_page :
  (let b := tb [] 0;
   let on := fun (d : Dsp) => ({ b with dsp := d } : State);
   let lcd := on { typ := 1, ready := true };
   let go := (lcd.wr F.DSP_UPD_CRC (imageCrc 0));
   let run := fun (r : EpdRun) => on { typ := 3, ready := true, run := some r };
   let rise := (on { typ := 1, seq := some (.rising 0) }).wr F.DSP_CTL_RAILS 5;
   let btn := (lcd.wr F.DSP_DIGITS 8);
   let lg := (on { typ := 1, ready := true, legal := [7] }).wr F.DSP_UPD_STAT_LEGAL 1;
   let fm := (on { typ := 1, fmOn := true }).wr F.DSP_FM_CRC (imageCrc 0);
   b.judge .pcie Pg.DSP 0x60 = .open ∧ go.judge .pcie Pg.DSP 0x60 = .open ∧ bit 0#32 0 = false ∧ bit 0#32 1 = false ∧ bit 2#32 0 = false ∧ bit 2#32 1 = true ∧ bit 1#32 0 = true ∧ bit 1#32 1 = false ∧ b.dsp.typ = 0 ∧ lg.on F.DSP_UPD_STAT_LEGAL = true ∧ lg.dsp.typ ≠ 0 ∧
   go.rd F.DSP_UPD_STAT_LEGAL ≠ 1 ∧ go.dsp.seq.isNone = true ∧ go.dsp.clearLeft = 0 ∧ go.rd F.DSP_UPD_STAT_BUSY ≠ 1 ∧ imageCrc go.stagedImage = go.rd F.DSP_UPD_CRC ∧ imageCrc lcd.stagedImage ≠ lcd.rd F.DSP_UPD_CRC ∧ (go.wr F.DSP_UPD_STAT_BUSY 1).rd F.DSP_UPD_STAT_BUSY = 1 ∧
   b.domOn Dom.IOX = true ∧ (b.wr F.PWR_DOM_ON 1).domOn Dom.IOX = false ∧ lcd.dsp.run.isNone = true ∧ lcd.dsp.held = false ∧ lcd.dsp.clearLeft ≠ 1 ∧ (run ⟨.host 5, 0, [1], 1, true⟩).domOn Dom.IOX = true ∧ (run ⟨.white, 0, [1, 2], 1, false⟩).dsp.run = some ⟨.white, 0, [1, 2], 1, false⟩ ∧
   fm.domOn Dom.IOX = true ∧ fm.dsp.fmOn = true ∧ imageCrc (fm.dsp.fm0 ^^^ (0 % 2 ^ 448)) = fm.rd F.DSP_FM_CRC ∧ imageCrc (fm.dsp.fm0 ^^^ (1 % 2 ^ 448)) ≠ fm.rd F.DSP_FM_CRC ∧ rise.dsp.seq = some (.rising 0) ∧
   (List.range 3).filter (fun j => decide (0 ≤ j) && (rise.rd F.DSP_CTL_RAILS).testBit j) = [0, 2] ∧ [2, 1, 0].find? (fun j => (5#3 : BitVec 3).getLsbD j) = some 2 ∧ (b.wr F.DSP_TEMP_SRC 1).rd F.DSP_TEMP_SRC = 1 ∧ b.rd F.DSP_TEMP_STAT_STALE ≠ 1 ∧ 4 ≤ min 16 (btn.rd F.DSP_DIGITS) ∧
   btn.dsp.ready = true ∧ btn.rd F.DSP_UPD_STAT_LEGAL ≠ 1 ∧ btn.domOn Dom.IOX = true ∧ btn.legalViews.length = 4 ∧ lg.domOn Dom.IOX = true ∧ lg.dsp.legal = [7]) := by decide +kernel

end Sys2Proof.Tests
end

section
/-!
SUPPORT. What a register access that is turned away does (R2, R42, R44, R48, R73): the fault record, the count of denied writes and the interrupt, and nothing else.
-/
namespace Sys2Proof.Machine

/-! ## The gate before a write -/

theorem State.guarded_unanswered (s : State) (m : Master) (p off : Nat) (eff : State → State) (h : s.judge m p off = .unanswered) :
    s.guarded m p off eff = s := by
  simp only [State.guarded, h]

theorem State.guarded_domOff (s : State) (m : Master) (p off : Nat) (eff : State → State) (h : s.judge m p off = .domOff) :
    s.guarded m p off eff = s.accErr m Cause.DOM_OFF (p * 0x1000 + off) := by
  simp only [State.guarded, h]

theorem State.guarded_ownerDeny (s : State) (m : Master) (p off : Nat) (eff : State → State) (h : s.judge m p off = .ownerDeny) :
    s.guarded m p off eff = s.denyWrite m Cause.OWNER_DENY p off := by
  simp only [State.guarded, h]

theorem State.guarded_locked (s : State) (m : Master) (p off : Nat) (eff : State → State) (h : s.judge m p off = .locked) :
    s.guarded m p off eff = s.denyWrite m Cause.LOCKED p off := by
  simp only [State.guarded, h]

/-- A word write that is no ownership change, no session register's and no legal configuration goes through the gate of R575 alone. -/
theorem State.writeWord_guarded (s : State) (m : Master) (p off : Nat) (v : Word) (ho : off ≠ 0x28) (hp : perMaster p off = false)
    (hl : s.legalWord m p off = false ∨ m = .lgl) : s.writeWord m p off v = s.guarded m p off (fun t => t.writeOpen m p off v) := by
  have hlegal : (s.legalWord m p off && m != .lgl) = false := by
    rcases hl with hl | rfl
    · rw [hl, Bool.false_and]
    · rw [show (Master.lgl != Master.lgl) = false from rfl, Bool.and_false]
  simp only [State.writeWord, if_neg ho, hp, hlegal, Bool.false_and, Bool.false_eq_true, if_false]

/-- A write of a header register other than OWNER goes through the gate alone. -/
theorem State.writeWord_header (s : State) (m : Master) (p off : Nat) (v : Word) (hlt : off < 0x40) (ho : off ≠ 0x28) :
    s.writeWord m p off v = s.guarded m p off (fun t => t.writeOpen m p off v) := by
  have hbody : decide (0x40 ≤ off) = false := decide_eq_false (by omega)
  refine s.writeWord_guarded m p off v ho ?_ (.inl ?_)
  · simp only [perMaster, hbody, Bool.and_false, Bool.false_and]
  · simp only [State.legalWord, hbody, Bool.and_false, Bool.false_and]

/-- A write of a register of the CFG page other than OWNER goes through the gate alone. -/
theorem State.writeWord_cfg (s : State) (m : Master) (off : Nat) (v : Word) (ho : off ≠ 0x28) :
    s.writeWord m Pg.CFG off v = s.guarded m Pg.CFG off (fun t => t.writeOpen m Pg.CFG off v) :=
  s.writeWord_guarded m Pg.CFG off v ho rfl (.inl rfl)

/-! ## The record of a fault -/

theorem State.rd_accErr_ne (s : State) (m : Master) (c a : Nat) (g : Fld) (h : ∀ f ∈ Safety.accErrFields, g.key ≠ f.key) :
    (s.accErr m c a).rd g = s.rd g :=
  (Safety.Frame.accErr m c a (fun _ hf => hf) (Safety.Frame.refl s _)).2 g h

theorem INT_STAT_key_ne_off (p : Nat) (f : Fld) (hf : f.lo < 32 ∧ f.off % 0x1000 ≠ 0x10) : f.key ≠ (F.INT_STAT p).key := by
  simp only [F.INT_STAT, Fld.key]
  omega

/-- A denied write leaves the fault record as the fault left it: the count and the interrupt that follow are other fields. -/
theorem State.rd_denyWrite_accErr (s : State) (m : Master) (c p off : Nat) (f : Fld) (hf : f ∈ Safety.accErrFields) :
    (s.denyWrite m c p off).rd f = (s.accErr m c (p * 0x1000 + off)).rd f := by
  have hkeys : ∀ g ∈ Safety.accErrFields, (g.lo < 32 ∧ g.off % 0x1000 ≠ 0x10) ∧ g.key ≠ F.SMP_ALERT_STAT.key ∧ g.key ≠ F.CHIP_DENY_CNT.key := by
    decide
  obtain ⟨hoff, halert, hcnt⟩ := hkeys f hf
  rw [State.denyWrite, State.rd_raise_ne _ _ _ _ (INT_STAT_key_ne_off p f hoff) halert, State.rd_sat_ne _ _ _ hcnt]

/-- A denied write is counted once (R44). -/
theorem State.rd_denyWrite_cnt (s : State) (m : Master) (c p off : Nat) :
    (s.denyWrite m c p off).rd F.CHIP_DENY_CNT = min (s.rd F.CHIP_DENY_CNT + 1) (F.CHIP_DENY_CNT.bound - 1) := by
  rw [State.denyWrite, State.rd_raise_ne _ _ _ _ (INT_STAT_key_ne_off p _ (by decide)) (by decide), State.rd_sat_self,
    State.rd_accErr_ne _ _ _ _ _ (by decide)]

end Sys2Proof.Machine

namespace Sys2Proof.Safety
open Sys2Proof.Machine

/-! ## What a command that is turned away leads to -/

/-- The outcome of a command reads as its effect does. -/
theorem rd_outcome (u : State) (l : List Instr) (f : Fld) : ({ u.alertPin with pending := l } : State).rd f = u.rd f :=
  State.rd_alertPin u f

theorem masterCode_lt (m : Master) : masterCode m < 4 := by cases m <;> decide

/-- A command whose whole effect is a fault record changes CHIP.ACC_ERR alone, and nothing where a fault is recorded already (R44). -/
theorem after_accErr {c : Instr} {s : State} {m : Master} {cause a : Nat} (hc : cause < 16) (he : exec c s = s.done (s.accErr m cause a)) :
    After c s (fun t => Frame s t accErrFields ∧
      (s.on F.CHIP_ACC_ERR_VALID = false → t.rd F.CHIP_ACC_ERR_VALID = 1 ∧ t.rd F.CHIP_ACC_ERR_CAUSE = cause ∧
        t.rd F.CHIP_ACC_ERR_ADDR = a % 2 ^ 24 ∧ t.rd F.CHIP_ACC_ERR_MASTER = masterCode m) ∧
      (s.on F.CHIP_ACC_ERR_VALID = true → Frame s t [])) := by
  refine after_done he ⟨(Frame.accErr m cause a (fun _ hf => hf) (Frame.refl s _)).done _, fun hfirst => ?_, fun hstands => ?_⟩
  · simp only [rd_outcome]
    obtain ⟨hvalid, hcause, haddr, hmaster⟩ := s.accErr_first m cause a hfirst
    exact ⟨hvalid, hcause.trans (Nat.mod_eq_of_lt hc), haddr, hmaster.trans (Nat.mod_eq_of_lt (masterCode_lt m))⟩
  · rw [s.accErr_stands m cause a hstands]
    exact (Frame.refl s []).done _

/-- A command whose whole effect is a denied write records it, counts it and sets INT_STAT.DENY of the page, and changes nothing else (R44, R45, R73). -/
theorem after_denyWrite {c : Instr} {s : State} {m : Master} {cause p off : Nat} (hc : cause < 16)
    (he : exec c s = s.done (s.denyWrite m cause p off)) :
    After c s (fun t => Frame s t (F.CHIP_DENY_CNT :: accErrFields ++ raised p) ∧ Counted s t F.CHIP_DENY_CNT ∧ Interrupt t p 30 ∧
      (s.on F.CHIP_ACC_ERR_VALID = false → t.rd F.CHIP_ACC_ERR_VALID = 1 ∧ t.rd F.CHIP_ACC_ERR_CAUSE = cause ∧
        t.rd F.CHIP_ACC_ERR_ADDR = (p * 0x1000 + off) % 2 ^ 24 ∧ t.rd F.CHIP_ACC_ERR_MASTER = masterCode m)) := by
  refine after_done he ⟨Frame.done _ ?_, ?_, ?_, fun hfirst => ?_⟩
  · refine Frame.denyWrite m cause p off (fun f hf => ?_) ?_ ?_ ?_ (Frame.refl s _)
    · simp [hf]
    · simp
    · simp [raised]
    · simp [raised]
  · rw [Counted, rd_outcome, State.rd_denyWrite_cnt]
  · rw [Interrupt, rd_outcome]
    exact State.raise_set _ p 30 (by decide)
  · simp only [rd_outcome]
    obtain ⟨hvalid, hcause, haddr, hmaster⟩ := s.accErr_first m cause (p * 0x1000 + off) hfirst
    rw [State.rd_denyWrite_accErr _ _ _ _ _ _ (by decide), State.rd_denyWrite_accErr _ _ _ _ _ _ (by decide),
      State.rd_denyWrite_accErr _ _ _ _ _ _ (by decide), State.rd_denyWrite_accErr _ _ _ _ _ _ (by decide)]
    exact ⟨hvalid, hcause.trans (Nat.mod_eq_of_lt hc), haddr, hmaster.trans (Nat.mod_eq_of_lt (masterCode_lt m))⟩

/-- Every command that stands for a gated word write is the gate of R575 before an effect of its own. -/
theorem exec_gatedWrite {c : Instr} {m : Master} {p off : Nat} (h : gatedWrite c = some (m, p, off)) (s : State) :
    ∃ eff, exec c s = s.done (s.guarded m p off eff) := by
  unfold gatedWrite at h
  split at h
  all_goals cases h
  case h_1 | h_2 | h_3 | h_4 => exact ⟨_, congrArg s.done (State.writeWord_header _ _ _ _ _ (by decide) (by decide))⟩
  case h_5 | h_6 => exact ⟨_, congrArg s.done (State.writeWord_cfg _ _ _ _ (by decide))⟩
  all_goals exact ⟨_, rfl⟩

end Sys2Proof.Safety
end

section
open Sys2Proof Sys2Proof.Machine Sys2Proof.Safety

/-- Settles O6: each of the commands is the gate before its effect, and each way the gate is shut leads to a fault record or a denied write and nothing else. -/
theorem refusedWritesHaveNoEffect : Obligations.RefusedWritesHaveNoEffect := by
  rintro c ⟨m, p, off⟩ hgated s
  obtain ⟨eff, he⟩ := exec_gatedWrite hgated s
  refine ⟨fun h => ?_, fun h => ?_, fun h => ?_, fun h => ?_⟩
  · rw [s.guarded_unanswered m p off eff h] at he
    exact after_done he ((Frame.refl s []).done _)
  · rw [s.guarded_domOff m p off eff h] at he
    exact after_accErr (by decide) he
  · rw [s.guarded_ownerDeny m p off eff h] at he
    exact after_denyWrite (by decide) he
  · rw [s.guarded_locked m p off eff h] at he
    exact after_denyWrite (by decide) he

end

section
/-!
SUPPORT. What a register read that finds its page's domain off answers (R2, R42).
-/
namespace Sys2Proof.Machine

/-- A read of a page whose domain is off is recorded and answers all ones (R42). -/
theorem State.guardedRead_off (s : State) (m : Master) (p off : Nat) (eff : State → State) (hd : s.dead = false) (hp : s.pageOn p = false) :
    s.guardedRead m p off eff = (s.accErr m Cause.DOM_OFF (p * 0x1000 + off)).answer 0xFFFFFFFF#32 := by
  simp [State.guardedRead, hd, hp]

/-- With no reserved strap value no access is left unanswered (R2). -/
theorem State.deaf_of_alive (s : State) (m : Master) (p off : Nat) (hd : s.dead = false) : s.deaf m p off = false := by
  simp only [State.deaf, hd, Bool.false_and]

/-- A register read of a page whose domain is off is recorded and answers all ones (R42). -/
theorem State.registerRead_off (s : State) (m : Master) (addr : Nat) (hd : s.dead = false) (hdom : (pageDomain (addr / 0x1000)).isSome = true)
    (hp : s.pageOn (addr / 0x1000) = false) :
    s.registerRead m addr = (s.accErr m Cause.DOM_OFF (addr / 0x1000 * 0x1000 + addr % 0x1000 / 4 * 4)).answer 0xFFFFFFFF#32 := by
  simp [State.registerRead, s.deaf_of_alive m _ _ hd, Option.isSome_iff_ne_none.1 hdom, hp]

/-- A register read of a page that answers is a read of the word. -/
theorem State.registerRead_on (s : State) (m : Master) (addr : Nat) (hd : s.dead = false) (hdom : (pageDomain (addr / 0x1000)).isSome = true)
    (hp : s.pageOn (addr / 0x1000) = true) :
    s.registerRead m addr = s.readWord m (addr / 0x1000) (addr % 0x1000 / 4 * 4) := by
  simp [State.registerRead, s.deaf_of_alive m _ _ hd, Option.isSome_iff_ne_none.1 hdom, hp]

@[simp] theorem State.answer_rdata (s : State) (w : Word) : (s.answer w).bus.rdata = [w] := rfl
@[simp] theorem State.answer_shadow (s : State) (w : Word) : (s.answer w).bus.shadow = s.bus.shadow := rfl

end Sys2Proof.Machine

namespace Sys2Proof.Safety
open Sys2Proof.Machine

/-- The outcome of a command shows on the bus what its effect does. -/
theorem bus_outcome (u : State) (l : List Instr) : ({ u.alertPin with pending := l } : State).bus = u.bus :=
  State.alertPin_bus u

/-- An effect that leaves a frame and changes the bus beside it leaves the frame but for the bus. -/
theorem Frame.done_but_bus {s t : State} {fs : List Fld} (b : Bus) (l : List Instr) (h : Frame s t fs) :
    Frame s { { ({ t with bus := b } : State).alertPin with pending := l } with bus := s.bus } fs := by
  have hbus : t.bus = s.bus := h.1.2.1
  exact Frame.of_regs (by simp [SameBody, hbus]) (by simp) h

theorem After.mono {c : Instr} {s : State} {P Q : State → Prop} (h : After c s P) (hPQ : ∀ t, P t → Q t) : After c s Q := by
  obtain ⟨t, he, ht⟩ := h
  exact ⟨t, he, hPQ t ht⟩

theorem exec_registerRead (m : Master) (addr : BitVec 24) (s : State) : exec (.registerRead m addr) s = s.done (s.registerRead m addr.toNat) := rfl

theorem exec_pairLatchRead (m : Master) (addr : BitVec 24) (s : State) : exec (.pairLatchRead m addr) s = s.done (s.registerRead m addr.toNat) := rfl

/-- A read that finds the domain off answers all ones, leaves the shadows alone, and records a first fault with cause DOM_OFF (R42, R44). -/
theorem after_offRead {c : Instr} {s : State} {m : Master} {a : Nat} (he : exec c s = s.done ((s.accErr m Cause.DOM_OFF a).answer 0xFFFFFFFF#32)) :
    After c s (fun t => t.bus.rdata = [0xFFFFFFFF#32] ∧ t.bus.shadow = s.bus.shadow ∧ Frame s { t with bus := s.bus } accErrFields ∧
      (s.on F.CHIP_ACC_ERR_VALID = false → t.rd F.CHIP_ACC_ERR_VALID = 1 ∧ t.rd F.CHIP_ACC_ERR_CAUSE = Cause.DOM_OFF)) := by
  have hframe : Frame s (s.accErr m Cause.DOM_OFF a) accErrFields := Frame.accErr m _ a (fun _ hf => hf) (Frame.refl s _)
  refine after_done he ⟨?_, ?_, hframe.done_but_bus _ _, fun hfirst => ?_⟩
  · rw [bus_outcome, State.answer_rdata]
  · rw [bus_outcome, State.answer_shadow, State.accErr_bus]
  · obtain ⟨hvalid, hcause, -, -⟩ := s.accErr_first m Cause.DOM_OFF a hfirst
    simp only [rd_outcome, State.rd_answer]
    exact ⟨hvalid, hcause⟩

/-- Every command that stands for one register's read is a read of a page whose domain must answer, with an effect of its own. -/
theorem exec_gatedRead {c : Instr} {m : Master} {p off : Nat} (h : gatedRead c = some (m, p, off)) (s : State) :
    ∃ eff, exec c s = s.done (s.guardedRead m p off eff) := by
  unfold gatedRead at h
  split at h
  all_goals cases h
  all_goals exact ⟨_, rfl⟩

end Sys2Proof.Safety
end

section
open Sys2Proof Sys2Proof.Machine Sys2Proof.Safety

/-- Settles O7: the gate of the nine reads and of a register read finds the domain off before any effect of the read. -/
theorem offDomainReadsAllOnes : Obligations.OffDomainReadsAllOnes := by
  refine ⟨?_, fun m addr s hd hdom hp => ?_⟩
  · rintro c ⟨m, p, off⟩ hgated s hd hp
    obtain ⟨eff, he⟩ := exec_gatedRead hgated s
    rw [s.guardedRead_off m p off eff hd hp] at he
    exact after_offRead he
  · have hread := congrArg s.done (s.registerRead_off m addr.toNat hd hdom hp)
    constructor
    · exact (after_offRead ((exec_registerRead m addr s).trans hread)).mono (fun t ⟨hdata, _, hframe, _⟩ => ⟨hdata, hframe⟩)
    · exact (after_offRead ((exec_pairLatchRead m addr s).trans hread)).mono (fun t ⟨hdata, _, hframe, _⟩ => ⟨hdata, hframe⟩)

end

section
/-!
SUPPORT. The register tables (R39, R45): the offsets a row covers, and that no two fields of one word begin at the same bit.
-/
namespace Sys2Proof.Machine

/-- Every byte offset at which a row of a register table places its field. -/
def Row.offsets (r : Row) : List Nat :=
  (List.range r.count2).flatMap (fun j => (List.range (if r.stride1 = 0 then 1 else r.count1)).map (fun i => r.fld.off + r.stride2 * j + r.stride1 * i))

theorem Row.mem_offsets_of_covers {r : Row} {off : Nat} (h : r.covers off = true) : off ∈ r.offsets := by
  obtain ⟨j, hj, hcov⟩ := List.any_eq_true.1 h
  refine List.mem_flatMap.2 ⟨j, hj, List.mem_map.2 ?_⟩
  by_cases h0 : r.stride1 = 0
  · rw [if_pos h0, beq_iff_eq] at hcov
    exact ⟨0, by simp [h0], by simpa using hcov⟩
  · simp only [if_neg h0, Bool.and_eq_true, decide_eq_true_eq, beq_iff_eq] at hcov ⊢
    obtain ⟨⟨hle, hmod⟩, hlt⟩ := hcov
    have hdiv := Nat.mul_div_cancel' (Nat.dvd_of_mod_eq_zero hmod)
    exact ⟨_, List.mem_range.2 hlt, by omega⟩

/-- Two rows place no two fields of one word at the same lowest bit. -/
def Row.apart (a b : Row) : Bool := a.fld.lo != b.fld.lo || a.offsets.all (fun o => !b.covers o)

/-- Every field of a table lies in a word of 32 bits, and no two of them begin at the same bit of one word. -/
def tableApart (l : List Row) : Bool := l.all (fun r => decide (r.fld.lo < 32)) && decide (l.Pairwise (fun a b => a.apart b = true))

theorem rowsOf_apart (kind : Nat) : tableApart (rowsOf kind 0) = true := by
  unfold rowsOf
  split
  all_goals decide +kernel

/-- No row with an RC field is one whose read latches the words after it: such a row is of no port page, and of its offsets none has a latch (R43). -/
theorem rowsOf_rc (kind : Nat) :
    (rowsOf kind 0).all (fun r => r.fld.acc != .RC || (decide (kind < 0x100) && r.offsets.all (fun o => latchedAfter kind o == 0))) = true := by
  unfold rowsOf
  split
  case h_40 => rfl
  all_goals decide +kernel

theorem rowsHeader_rc (p : Nat) : (rowsHeader p).all (fun r => r.fld.acc != .RC) = true := rfl

/-! ## The fields of a word -/

/-- A field of a word of a page's body comes from a row of the page's table that covers its offset. -/
theorem State.mem_fieldsAt {s : State} {m : Master} {p off : Nat} {f : Fld} (h : f ∈ s.fieldsAt m p off) :
    ∃ r ∈ (if off < 0x40 then rowsHeader p else rowsOf (pageKind p) 0), r.covers off = true ∧ f.lo = r.fld.lo ∧ f.acc = r.fld.acc := by
  obtain ⟨r, hr, rfl⟩ := List.mem_map.1 h
  obtain ⟨hmem, hcov⟩ := List.mem_filter.1 hr
  exact ⟨r, hmem, hcov, rfl, rfl⟩

/-- The fields of a word of a page's body have keys of their own. -/
theorem State.fieldsAt_keys (s : State) (m : Master) (p off : Nat) (ho : 0x40 ≤ off) :
    (s.fieldsAt m p off).Pairwise (fun f g => f.key ≠ g.key) := by
  have htab := rowsOf_apart (pageKind p)
  simp only [tableApart, Bool.and_eq_true, List.all_eq_true, decide_eq_true_eq] at htab
  obtain ⟨hlo, hpair⟩ := htab
  simp only [State.fieldsAt, if_neg (show ¬ off < 0x40 by omega)]
  refine List.pairwise_map.2 (List.Pairwise.imp_of_mem ?_ (hpair.filter _))
  intro a b ha hb hab
  obtain ⟨hamem, hacov⟩ := List.mem_filter.1 ha
  obtain ⟨hbmem, hbcov⟩ := List.mem_filter.1 hb
  refine Fld.key_ne_lo _ _ (hlo a hamem) (hlo b hbmem) (fun heq => ?_)
  have hboth : ∀ o ∈ a.offsets, b.covers o = false := by simpa [Row.apart, show a.fld.lo = b.fld.lo from heq] using hab
  exact absurd hbcov (by rw [hboth off (Row.mem_offsets_of_covers hacov)]; decide)

theorem pageKind_of_lt {p : Nat} (h : pageKind p < 0x100) : pageKind p = p := by
  simp only [pageKind, Bool.and_eq_true, decide_eq_true_eq] at h ⊢
  split at h
  · omega
  · rename_i hport
    exact if_neg hport

/-- A word with an RC field latches no word after it (R43). -/
theorem State.latchedAfter_of_rc {s : State} {m : Master} {p off : Nat} {f : Fld} (hf : f ∈ s.fieldsAt m p off) (hrc : f.acc = .RC) :
    latchedAfter p off = 0 := by
  obtain ⟨r, hr, hcov, -, hacc⟩ := State.mem_fieldsAt hf
  have hrrc : r.fld.acc = .RC := hacc.symm.trans hrc
  split at hr
  · exact absurd hrrc (by simpa using List.all_eq_true.1 (rowsHeader_rc p) r hr)
  · have htab := List.all_eq_true.1 (rowsOf_rc (pageKind p)) r hr
    have hlatch : pageKind p < 0x100 ∧ ∀ o ∈ r.offsets, latchedAfter (pageKind p) o = 0 := by simpa [hrrc] using htab
    rw [← pageKind_of_lt hlatch.1]
    exact hlatch.2 off (Row.mem_offsets_of_covers hcov)

end Sys2Proof.Machine
end

section
/-!
SUPPORT. Reads and writes of words whose registers have no effect of their own: the fields read, restarted and stored (R13), and the words latched (R43).
-/
namespace Sys2Proof.Machine

/-! ## A chain of changes, each to one field -/

/-- Changes to fields of other keys leave a field as it was. -/
theorem State.rd_foldl_ne {upd : State → Fld → State} (hne : ∀ t f g, g.key ≠ f.key → (upd t f).rd g = t.rd g) (l : List Fld) (s : State) (g : Fld)
    (hg : ∀ f ∈ l, g.key ≠ f.key) : (l.foldl upd s).rd g = s.rd g :=
  List.foldlRecOn l upd (motive := fun t => t.rd g = s.rd g) rfl (fun t ht f hf => (hne t f g (hg f hf)).trans ht)

/-- Of changes to fields of different keys, each acts on the value its field had before all of them. -/
theorem State.rd_foldl_mem {upd : State → Fld → State} {s : State} {w : Fld → Nat} (hne : ∀ t f g, g.key ≠ f.key → (upd t f).rd g = t.rd g)
    (hself : ∀ t f, t.rd f = s.rd f → (upd t f).rd f = w f) {l : List Fld} (hl : l.Pairwise (fun f g => f.key ≠ g.key)) {f : Fld} (hf : f ∈ l) :
    (l.foldl upd s).rd f = w f := by
  obtain ⟨before, after, rfl⟩ := List.append_of_mem hf
  obtain ⟨-, hafter, hbefore⟩ := List.pairwise_append.1 hl
  rw [List.foldl_append, List.foldl_cons, State.rd_foldl_ne hne _ _ _ (List.pairwise_cons.1 hafter).1]
  exact hself _ f (State.rd_foldl_ne hne _ _ _ (fun g hg => (hbefore g hg f List.mem_cons_self).symm))

/-! ## Stores of a word -/

/-- Every field of a word of a page's body takes what its access type makes of the word written (R13). -/
theorem State.rd_storeWord (s : State) (m : Master) (p off : Nat) (v : Word) (ho : 0x40 ≤ off) {f : Fld} (hf : f ∈ s.fieldsAt m p off) :
    (s.storeWord m p off v).rd f = Safety.stored s v f := by
  refine State.rd_foldl_mem (fun t f g hne => ?_) (fun t f hrd => ?_) (s.fieldsAt_keys m p off ho) hf
  · cases hacc : f.acc
    case RO | RC => rfl
    case RW | WO | W1C | W1S => exact State.rd_wr_ne _ _ _ _ hne
  · cases hacc : f.acc
    case RO | RC => simpa only [Safety.stored, hacc] using hrd
    case RW | WO | W1C | W1S => simp only [Safety.stored, hacc, State.rd_wr_self, hrd]

/-- A write to a page's body goes past the header. -/
theorem State.writeOpen_body (s : State) (m : Master) (p off : Nat) (v : Word) (ho : 0x40 ≤ off) : s.writeOpen m p off v = s.writeBody m p off v := by
  unfold State.writeOpen
  split
  case h_6 => exact if_neg (by omega)
  all_goals omega

/-- A word whose write has no effect of its own is a word of a page's body, and no override's and no session's (R13). -/
theorem plainWord_body {p off : Nat} (h : Safety.plainWord p off = true) : 0x40 ≤ off ∧ perMaster p off = false ∧ isOverride p off = false := by
  simp only [Safety.plainWord, Bool.and_eq_true, decide_eq_true_eq, Bool.not_eq_true'] at h
  obtain ⟨⟨⟨hoff, hper⟩, hover⟩, -⟩ := h
  exact ⟨hoff, hper, hover⟩

/-- The write of a word that has no effect of its own stores the word and does nothing else (R13). -/
theorem State.writeBody_plain (s : State) (m : Master) (p off : Nat) (v : Word) (h : Safety.plainWord p off = true) :
    s.writeBody m p off v = s.storeWord m p off v := by
  simp only [Safety.plainWord, Bool.and_eq_true] at h
  obtain ⟨-, hoff⟩ := h
  unfold State.writeBody
  split
  case h_31 => rfl
  all_goals
    rename_i hk
    simp only [hk, Bool.and_eq_true, bne_iff_ne, ne_eq, Bool.false_eq_true] at hoff
  all_goals simp [hoff]

/-- A write that is let through finds the unit alive (R2). -/
theorem State.alive_of_open {s : State} {m : Master} {p off : Nat} (h : s.judge m p off = .open) : s.dead = false := by
  cases hd : s.dead
  case false => rfl
  case true => simp [State.judge, hd] at h

/-! ## Reads of a word -/

/-- The word's RC fields, as a read leaves them (R13). -/
def State.rcCleared (s : State) (m : Master) (p off : Nat) : State :=
  ((s.fieldsAt m p off).filter (fun f => f.acc == .RC)).foldl (fun t f => t.wr f (s.restartRc f)) s

/-- A read of a word whose read has no effect of its own: every branch of the read but the last names a word that has one. -/
theorem State.readWord_plain (s : State) (m : Master) (p off : Nat) (h : Safety.plainRead p off = true) :
    s.readWord m p off = s.plainRead m p off := by
  simp only [Safety.plainRead, Bool.not_eq_true', Bool.or_eq_false_iff, Bool.and_eq_false_imp, beq_iff_eq, beq_eq_false_iff_ne,
    Bool.and_eq_true, decide_eq_true_eq] at h
  simp only [State.readWord, Bool.and_eq_true, Bool.or_eq_true, decide_eq_true_eq]
  repeat rw [if_neg (by grind)]

theorem State.plainRead_shadow {s : State} {m : Master} {p off : Nat} {w : Word} (h : SMap.find? s.bus.shadow (shadowKey m p off) = some w) :
    s.plainRead m p off = ({ s with bus := { s.bus with shadow := SMap.erase s.bus.shadow (shadowKey m p off) } } : State).answer w := by
  simp only [State.plainRead, h]

theorem State.plainRead_word {s : State} {m : Master} {p off : Nat} (h : SMap.find? s.bus.shadow (shadowKey m p off) = none) :
    s.plainRead m p off = (((s.rcCleared m p off).latchNext m p off).tookFree).answer (s.word m p off) := by
  simp only [State.plainRead, h, State.rcCleared]

/-- Only a word of a page's body has RC fields. -/
theorem State.body_of_rc {s : State} {m : Master} {p off : Nat} {f : Fld} (hf : f ∈ s.fieldsAt m p off) (hrc : f.acc = .RC) : 0x40 ≤ off := by
  obtain ⟨r, hr, -, -, hacc⟩ := State.mem_fieldsAt hf
  refine Nat.le_of_not_lt (fun hlt => ?_)
  rw [if_pos hlt] at hr
  have hne := List.all_eq_true.1 (rowsHeader_rc p) r hr
  simp [← hacc, hrc] at hne

/-- A read leaves each RC field of the word at the value it starts from again (R13). -/
theorem State.rd_rcCleared (s : State) (m : Master) (p off : Nat) {f : Fld} (hf : f ∈ s.fieldsAt m p off) (hrc : f.acc = .RC) :
    (s.rcCleared m p off).rd f = s.restartRc f % f.bound := by
  have hmem : f ∈ (s.fieldsAt m p off).filter (fun f => f.acc == .RC) := List.mem_filter.2 ⟨hf, beq_iff_eq.2 hrc⟩
  have hkeys := (s.fieldsAt_keys m p off (State.body_of_rc hf hrc)).filter (fun f => f.acc == .RC)
  exact State.rd_foldl_mem (w := fun f => s.restartRc f % f.bound) (fun t f g hne => State.rd_wr_ne t f g _ hne) (fun t f _ => t.rd_wr_self f _) hkeys hmem

/-- A read that latches clears nothing: its word has no RC field (R43). -/
theorem State.rcCleared_of_latch (s : State) {m : Master} {p off : Nat} (h : latchedAfter p off ≠ 0) : s.rcCleared m p off = s := by
  have hnone : (s.fieldsAt m p off).filter (fun f => f.acc == .RC) = [] :=
    List.filter_eq_nil_iff.2 (fun f hf hrc => h (State.latchedAfter_of_rc hf (beq_iff_eq.1 hrc)))
  rw [State.rcCleared, hnone, List.foldl_nil]

theorem State.latchNext_eq (s : State) (m : Master) (p off : Nat) : ∃ b, s.latchNext m p off = { s with bus := b } := by
  unfold State.latchNext
  refine List.foldlRecOn _ _ (motive := fun t => ∃ b, t = { s with bus := b }) ⟨s.bus, rfl⟩ ?_
  rintro t ⟨b, rfl⟩ w -
  exact ⟨_, rfl⟩

/-- A word put in a shadow among others, each under a key of its own, is found there. -/
theorem State.find?_foldl_setShadow (m : Master) (p off : Nat) (g : Nat → Word) (i : Nat) (l : List Nat) (t : State)
    (h : i ∈ l ∨ SMap.find? t.bus.shadow (shadowKey m p (off + 4 * (i + 1))) = some (g i)) :
    SMap.find? (l.foldl (fun t w => t.setShadow m p (off + 4 * (w + 1)) (g w)) t).bus.shadow (shadowKey m p (off + 4 * (i + 1))) = some (g i) := by
  induction l generalizing t with
  | nil => simpa using h
  | cons w l ih =>
    refine ih _ ?_
    by_cases hw : i = w
    · subst hw
      exact .inr (SMap.find?_set_self _ _ _)
    · refine h.imp (fun hi => (List.mem_cons.1 hi).resolve_left hw) (fun hfound => ?_)
      exact (SMap.find?_set_ne _ _ _ _ (by simp only [shadowKey]; omega)).trans hfound

/-- Each word after a register that its read latches is found in the master's shadow (R43). -/
theorem State.find?_latchNext (s : State) (m : Master) (p off : Nat) {i : Nat} (hi : i < latchedAfter p off) :
    SMap.find? (s.latchNext m p off).bus.shadow (shadowKey m p (off + 4 * (i + 1))) = some (s.word m p (off + 4 * (i + 1))) :=
  State.find?_foldl_setShadow m p off (fun w => s.word m p (off + 4 * (w + 1))) i _ s (.inl (List.mem_range.2 hi))

end Sys2Proof.Machine

namespace Sys2Proof.Safety
open Sys2Proof.Machine

/-! ## What they leave alone -/

/-- A store of a word changes no field but the word's. -/
theorem Frame.storeWord (s : State) (m : Master) (p off : Nat) (v : Word) : Frame s (s.storeWord m p off v) (s.fieldsAt m p off) := by
  refine List.foldlRecOn _ _ (motive := fun t => Frame s t (s.fieldsAt m p off)) (Frame.refl s _) (fun t ht f hf => ?_)
  cases f.acc
  case RO | RC => exact ht
  case RW | WO | W1C | W1S => exact Frame.wr f _ hf ht

/-- A read's clearing changes no field but the word's RC fields. -/
theorem Frame.rcCleared (s : State) (m : Master) (p off : Nat) :
    Frame s (s.rcCleared m p off) ((s.fieldsAt m p off).filter (fun f => f.acc == .RC)) :=
  List.foldlRecOn _ _ (motive := fun t => Frame s t _) (Frame.refl s _) (fun _ ht f hf => Frame.wr f _ hf ht)

/-- An effect that leaves a frame, and changes the bus and takes free values beside it, leaves the frame but for those. -/
theorem Frame.done_but_bus_fresh {s t : State} {fs : List Fld} (b : Bus) (n : Nat) (l : List Instr) (h : Frame s t fs) :
    Frame s { { ({ t with bus := b, fresh := n } : State).alertPin with pending := l } with bus := s.bus, fresh := s.fresh } fs := by
  obtain ⟨⟨hfresh, hbus, -⟩, -⟩ := id h
  exact Frame.of_regs (by simp [SameBody, hbus, hfresh]) (by simp) h

/-! ## What they lead to -/

/-- A read of a word that stands in the master's shadow answers it and uses it up (R43). -/
theorem after_plainRead_shadow {c : Instr} {s : State} {m : Master} {p off : Nat} {w : Word} (he : exec c s = s.done (s.plainRead m p off))
    (h : SMap.find? s.bus.shadow (shadowKey m p off) = some w) :
    After c s (fun t => t.bus.rdata = [w] ∧ SMap.find? t.bus.shadow (shadowKey m p off) = none ∧ Frame s { t with bus := s.bus } []) := by
  rw [State.plainRead_shadow h] at he
  refine after_done he ⟨?_, ?_, (Frame.refl s []).done_but_bus _ _⟩
  · rw [bus_outcome, State.answer_rdata]
  · rw [bus_outcome, State.answer_shadow]
    exact SMap.find?_erase_self _ _

/-- A read of a word that stands in no shadow answers the word, restarts its RC fields and latches the words paired with it (R13, R43). -/
theorem after_plainRead_word {c : Instr} {s : State} {m : Master} {p off : Nat} (he : exec c s = s.done (s.plainRead m p off))
    (h : SMap.find? s.bus.shadow (shadowKey m p off) = none) :
    After c s (fun t => t.bus.rdata = [s.word m p off] ∧
      (∀ i ∈ List.range (latchedAfter p off), SMap.find? t.bus.shadow (shadowKey m p (off + 4 * (i + 1))) = some (s.word m p (off + 4 * (i + 1)))) ∧
      (∀ f ∈ s.fieldsAt m p off, f.acc = .RC → t.rd f = s.restartRc f % f.bound) ∧
      Frame s { t with bus := s.bus, fresh := s.fresh } ((s.fieldsAt m p off).filter (fun f => f.acc == .RC))) := by
  rw [State.plainRead_word h] at he
  obtain ⟨b, hlatch⟩ := (s.rcCleared m p off).latchNext_eq m p off
  refine after_done he ⟨?_, fun i hi => ?_, fun f hf hrc => ?_, ?_⟩
  · rw [bus_outcome, State.answer_rdata]
  · have hlt := List.mem_range.1 hi
    rw [bus_outcome, State.answer_shadow, State.tookFree_bus, s.rcCleared_of_latch (by omega)]
    exact s.find?_latchNext m p off hlt
  · rw [rd_outcome, State.rd_answer, State.rd_tookFree, hlatch]
    exact s.rd_rcCleared m p off hf hrc
  · rw [hlatch]
    exact (Frame.rcCleared s m p off).done_but_bus_fresh _ _ _

end Sys2Proof.Safety
end

section
/-!
SUPPORT. REGISTER_WRITE and REGISTER_READ (R38, R42, R43, R73): what each comes to where it is let through.
-/
namespace Sys2Proof.Machine

/-- A write to a page's INT_EN stores its bits and delivers what they let through (R45, R47). -/
theorem State.writeOpen_intEn (s : State) (m : Master) (p : Nat) (v : Word) : s.writeOpen m p 0x14 v = (s.wr (F.INT_EN p) v.toNat).deliver p := rfl

/-- The subsystem IDs of the PCI page are one word (R64). -/
theorem State.fieldsAt_subsystem (s : State) (m : Master) : s.fieldsAt m Pg.PCI 0x48 = [F.PCI_SUB_VEN, F.PCI_SUB_DEV] := rfl

/-- A write of the subsystem IDs by the page's owner stores the word and does nothing else (R64). -/
theorem State.writeWord_subsystem (s : State) (m : Master) (v : Word) (h : s.judge m Pg.PCI 0x48 = .open) :
    s.writeWord m Pg.PCI 0x48 v = s.storeWord m Pg.PCI 0x48 v := by
  rw [s.writeWord_guarded m Pg.PCI 0x48 v (by decide) rfl (.inl rfl), s.guarded_open m Pg.PCI 0x48 _ h]
  rfl

/-- A write by the page's owner of a word without an effect of its own stores the word and does nothing else (R13). -/
theorem State.writeWord_plain (s : State) (m : Master) (p off : Nat) (v : Word) (h : s.judge m p off = .open) (hplain : Safety.plainWord p off = true)
    (hl : s.legalWord m p off = false ∨ m = .lgl) : s.writeWord m p off v = s.storeWord m p off v := by
  obtain ⟨hoff, hper, -⟩ := plainWord_body hplain
  rw [s.writeWord_guarded m p off v (by omega) hper hl, s.guarded_open m p off _ h, s.writeOpen_body m p off v hoff,
    s.writeBody_plain m p off v hplain]

end Sys2Proof.Machine

namespace Sys2Proof.Safety
open Sys2Proof.Machine

/-- REGISTER_WRITE with all byte enables, of a word that is no override register, is the write of the word (R38, R73). -/
theorem exec_registerWrite_word (m : Master) (addr : BitVec 24) (v : Word) {s : State} (hd : s.dead = false)
    (hover : isOverride (addr.toNat / 0x1000) (addr.toNat % 0x1000 / 4 * 4) = false) :
    exec (.registerWrite m addr 0xF#4 v) s = s.done (s.writeWord m (addr.toNat / 0x1000) (addr.toNat % 0x1000 / 4 * 4) v) := by
  change execRegisterWrite m addr 0xF#4 v s = _
  simp [execRegisterWrite, hover, hd]

/-- A PCIe write without all byte enables is a fault record of cause SIZE and nothing else (R38). -/
theorem exec_registerWrite_partial (addr : BitVec 24) {be : BitVec 4} (v : Word) {s : State} (hd : s.dead = false) (hbe : be ≠ 0xF#4) :
    exec (.registerWrite .pcie addr be v) s = s.done (s.accErr .pcie Cause.SIZE (addr.toNat / 0x1000 * 0x1000 + addr.toNat % 0x1000 / 4 * 4)) := by
  change execRegisterWrite .pcie addr be v s = _
  simp [execRegisterWrite, hd, hbe]

/-- A command that only stores a word leaves in each of its fields what the access type makes of it (R13). -/
theorem after_storeWord {c : Instr} {s : State} {m : Master} {p off : Nat} {v : Word} (ho : 0x40 ≤ off) (he : exec c s = s.done (s.storeWord m p off v)) :
    After c s (fun t => (∀ f ∈ s.fieldsAt m p off, t.rd f = stored s v f) ∧ Frame s t (s.fieldsAt m p off)) := by
  refine after_done he ⟨fun f hf => ?_, (Frame.storeWord s m p off v).done _⟩
  rw [rd_outcome, s.rd_storeWord m p off v ho hf]

/-- A command that only writes a page's INT_EN changes it, and SMP.ALERT_STAT where the page is the SMP's (R45, R47). -/
theorem after_intEn {c : Instr} {s : State} {p : Nat} {v : Word} (he : exec c s = s.done ((s.wr (F.INT_EN p) v.toNat).deliver p)) :
    After c s (fun t => t.rd (F.INT_EN p) = v.toNat ∧ Frame s t [F.INT_EN p, F.SMP_ALERT_STAT]) := by
  have hkey : (F.INT_EN p).key ≠ F.SMP_ALERT_STAT.key := by
    simp only [F.INT_EN, F.SMP_ALERT_STAT, Fld.key, Ret.code]
    omega
  refine after_done he ⟨?_, Frame.done _ (Frame.deliver p (by simp) (Frame.wr _ _ (by simp) (Frame.refl s _)))⟩
  rw [rd_outcome, State.rd_deliver_ne _ _ _ hkey, State.rd_wr_self]
  exact Nat.mod_eq_of_lt v.isLt

end Sys2Proof.Safety
end

section
open Sys2Proof Sys2Proof.Machine Sys2Proof.Safety

/-- Settles O9: a read without an effect of its own is the shadow's word or the page's, a write without one stores each field by its type, and a write without all byte enables is a fault record. -/
theorem registerReadAndWriteOfAWord : Obligations.RegisterReadAndWriteOfAWord := by
  refine ⟨fun m addr s hd hdom hp hplain => ?_, fun m addr v s hopen => ⟨fun hplain hlegal => ?_, fun hoff => ?_⟩, fun m v s hopen => ?_,
    fun addr be v s hd hbe => ?_⟩
  · have hread := congrArg s.done ((s.registerRead_on m addr.toNat hd hdom hp).trans (s.readWord_plain m _ _ hplain))
    have hreg := (exec_registerRead m addr s).trans hread
    have hpair := (exec_pairLatchRead m addr s).trans hread
    exact ⟨fun w hw => ⟨after_plainRead_shadow hreg hw, after_plainRead_shadow hpair hw⟩,
      fun hnone => ⟨after_plainRead_word hreg hnone, after_plainRead_word hpair hnone⟩⟩
  · obtain ⟨hbody, -, hover⟩ := plainWord_body hplain
    have hwrite := exec_registerWrite_word m addr v (State.alive_of_open hopen) hover
    rw [s.writeWord_plain m _ _ v hopen hplain hlegal] at hwrite
    exact after_storeWord hbody hwrite
  · have hover : isOverride (addr.toNat / 0x1000) (addr.toNat % 0x1000 / 4 * 4) = false := by
      rw [hoff, isOverride, show decide (0x100 ≤ 0x14) = false from rfl, Bool.and_false, Bool.false_and]
    have hwrite := exec_registerWrite_word m addr v (State.alive_of_open hopen) hover
    rw [hoff] at hopen hwrite
    rw [s.writeWord_header m _ _ v (by decide) (by decide), s.guarded_open m _ _ _ hopen, s.writeOpen_intEn] at hwrite
    exact after_intEn hwrite
  · have hwrite := exec_registerWrite_word m 0x04A048#24 v (State.alive_of_open hopen) rfl
    refine (after_storeWord (by decide) (hwrite.trans (congrArg s.done (s.writeWord_subsystem m v hopen)))).mono ?_
    rintro t ⟨hstored, hframe⟩
    rw [s.fieldsAt_subsystem] at hstored hframe
    refine ⟨(hstored F.PCI_SUB_VEN (by simp)).trans ?_, (hstored F.PCI_SUB_DEV (by simp)).trans ?_, hframe⟩
    · simp [stored, F.PCI_SUB_VEN, Fld.ofWord, Fld.bound, Fld.width, bits]
    · have hlt := v.isLt
      simp only [stored, F.PCI_SUB_DEV, Fld.ofWord, Fld.bound, Fld.width, bits]
      omega
  · have hrec := after_accErr (by decide) (exec_registerWrite_partial addr v hd hbe)
    refine hrec.mono (fun t ⟨hframe, hfirst, hstands⟩ => ⟨hframe, fun h => ?_, hstands⟩)
    obtain ⟨hvalid, hcause, haddr, -⟩ := hfirst h
    have hlt := addr.isLt
    exact ⟨hvalid, hcause, by omega⟩

end

section
/-!
SUPPORT. What the HEAD's bookkeeping of its units does (R36, R337, R404, R408 to R410): keys, batches by their turn, requests and the records that a batch brought.
-/
namespace Sys2Proof.Safety
open Sys2Proof.Machine

/-- The fields that a filed record's counting changes (R273, R291). -/
def filedFields : List Fld := [F.PRF_RECORDS, F.PRF_GAPS, F.PRF_LATE, F.PRF_REPEATED] ++ raised Pg.PRF

theorem Frame.countFiled (s : State) (r : Rec) : Frame s (s.countFiled r) filedFields := by
  have hint : F.INT_STAT Pg.PRF ∈ filedFields := by simp [filedFields, raised]
  have halert : F.SMP_ALERT_STAT ∈ filedFields := by simp [filedFields, raised]
  have hrecords : Frame s (s.wrap F.PRF_RECORDS) filedFields := Frame.wrap _ (by simp [filedFields]) (Frame.refl s _)
  have hgap := Frame.ite (c := stHas r.status St.GAP = true)
    (Frame.raise Pg.PRF 0 hint halert (Frame.sat F.PRF_GAPS (by simp [filedFields]) hrecords)) hrecords
  have hlate := Frame.ite (c := r.late = true)
    (Frame.raise Pg.PRF 5 hint halert (Frame.sat F.PRF_LATE (by simp [filedFields]) hgap)) hgap
  exact Frame.ite (Frame.sat F.PRF_REPEATED (by simp [filedFields]) hlate) hlate

end Sys2Proof.Safety

namespace Sys2Proof.Machine
open Sys2Proof.Safety

/-! ## What the HEAD keeps of a unit -/

@[simp] theorem State.unit_setUnit_self (s : State) (u : Nat) (x : UnitInfo) : (s.setUnit u x).unit u = x :=
  SMap.getD_set_self _ _ _ _

theorem State.unit_setUnit_ne (s : State) {u i : Nat} (x : UnitInfo) (h : i ≠ u) : (s.setUnit u x).unit i = s.unit i :=
  SMap.getD_set_ne _ _ _ _ _ h

@[simp] theorem State.rd_setUnit (s : State) (u : Nat) (x : UnitInfo) (f : Fld) : (s.setUnit u x).rd f = s.rd f := rfl

/-! ## Keys and nodes (R404, R410, R416) -/

/-- A slot that gives its key leaves the state as it was (R456). -/
theorem State.invoke_some {s : State} {i master usage : Nat} {secure : Bool} {k : List Byte} (h : (s.invoke i master secure usage).1 = some k) :
    (s.invoke i master secure usage).2 = s := by
  unfold State.invoke at h ⊢
  split
  · rfl
  · rename_i hallow
    simp [hallow] at h

theorem State.registerUnit_noAnchor {s : State} (u : Nat) (cert sealCert : List Byte) (h : (s.invoke 10 Mst.SEC true Use.ANCHOR).1 = none) :
    s.registerUnit u cert sealCert = (s.invoke 10 Mst.SEC true Use.ANCHOR).2.sat F.CHN_MIC_FAIL := by
  simp only [State.registerUnit, h]

theorem State.registerUnit_verified {s : State} {u : Nat} {cert sealCert anchor : List Byte} (h : (s.invoke 10 Mst.SEC true Use.ANCHOR).1 = some anchor)
    (hok : (Config.certVerify anchor cert && Config.certVerify (Config.certSubject cert) sealCert) = true) :
    s.registerUnit u cert sealCert =
      s.setUnit u { s.unit u with keys := (Config.certSubject sealCert :: (s.unit u).keys.filter (fun k => k != Config.certSubject sealCert)).take 2 } := by
  simp only [State.registerUnit, h, hok, State.invoke_some h, if_true]

theorem State.registerUnit_rejected {s : State} {u : Nat} {cert sealCert anchor : List Byte} (h : (s.invoke 10 Mst.SEC true Use.ANCHOR).1 = some anchor)
    (hok : (Config.certVerify anchor cert && Config.certVerify (Config.certSubject cert) sealCert) = false) :
    s.registerUnit u cert sealCert = s.sat F.CHN_MIC_FAIL := by
  simp only [State.registerUnit, h, hok, State.invoke_some h, Bool.false_eq_true, if_false]

theorem State.unitCmd_revoke {s : State} {v : Word} (hr : s.role = 2) (hv : bits v 1 0 = 1) : s.unitCmd v = s.unitRevoke (s.rd F.CHN_UNIT_SEL) := by
  simp [State.unitCmd, hr, hv]

theorem State.unitCmd_forget {s : State} {v : Word} (hr : s.role = 2) (hv : bits v 1 0 = 2) : s.unitCmd v = s.unitForget (s.rd F.CHN_UNIT_SEL) := by
  simp [State.unitCmd, hr, hv]

/-- Outside HEAD, and for a word that is no command, UNIT_CMD has no effect (R416). -/
theorem State.unitCmd_noEffect {s : State} {v : Word} (h : s.role ≠ 2 ∨ (bits v 1 0 ≠ 1 ∧ bits v 1 0 ≠ 2)) : s.unitCmd v = s := by
  unfold State.unitCmd
  split
  · rfl
  · rename_i hr
    obtain ⟨h1, h2⟩ := h.resolve_left (by simpa using hr)
    split
    · exact absurd ‹_› h1
    · exact absurd ‹_› h2
    · rfl

/-! ## A batch by its turn (R337, R408) -/

/-- While no batch of the unit has lost a task, none is taken back. -/
theorem State.dropLost_none {s : State} {u : Nat} (h : s.chn.acks.any (fun a => a.unit == u && s.batchLost a) = false) : s.dropLost u = s := by
  have hfind : s.chn.acks.find? (fun a => a.unit == u && s.batchLost a) = none := by
    rw [← Option.not_isSome_iff_eq_none, List.find?_isSome, ← List.any_eq_true, h]
    decide
  simp only [State.dropLost, hfind]

/-- The state that judges a batch that has arrived: lost batches are taken back, and the verification is counted. -/
def State.arrived (s : State) (u : Nat) : State := (s.dropLost u).wrap F.PKE_VERIFIES

/-- The SEQ that is due from a unit: the one after the last accepted, or any where none is accepted. -/
def State.dueSeq (s : State) (u : Nat) (b : List Byte) : Nat := ((s.unit u).lastSeq.map (fun q => q + 1)).getD (sealSeqOf b)

section
variable {s : State} {u : Nat} {b key : List Byte} (recs : List (List Byte))

theorem State.batchIn_unverified (h : (s.arrived u).sealKey u b = none) :
    s.batchIn u b recs = (s.arrived u).batchFail u b ((s.arrived u).dueSeq u b) := by
  have hv : (s.dropLost u).wrap F.PKE_VERIFIES = s.arrived u := rfl
  simp only [State.batchIn, hv, h]
  rfl

/-- A verified batch is judged by its SEQ against the one that is due. -/
theorem State.batchIn_verified (h : (s.arrived u).sealKey u b = some key) :
    s.batchIn u b recs =
      if sealSeqOf b < (s.arrived u).dueSeq u b then
        (if (s.arrived u).chn.acks.any (fun a => a.unit == u && a.seq == sealSeqOf b) then s.arrived u else (s.arrived u).toUnit u 2 0 (be 8 (sealSeqOf b)))
      else if (s.arrived u).dueSeq u b < sealSeqOf b then ((s.arrived u).holdBatch u b recs).requestBatch u ((s.arrived u).dueSeq u b)
      else if !(s.arrived u).jrnRoom then ((s.arrived u).sat F.IGT_JRNL_WAIT).holdBatch u b recs
      else if ((s.arrived u).tryBatch u key b recs).1 then ((s.arrived u).tryBatch u key b recs).2.takeHeld u 16
      else ((s.arrived u).tryBatch u key b recs).2 := by
  have hv : (s.dropLost u).wrap F.PKE_VERIFIES = s.arrived u := rfl
  have hdue : (((s.dropLost u).unit u).lastSeq.map (fun q => q + 1)).getD (sealSeqOf b) = (s.arrived u).dueSeq u b := rfl
  simp only [State.batchIn, hv, hdue, h]
  rcases (s.arrived u).tryBatch u key b recs with ⟨ok, t⟩
  cases ok <;> rfl

/-- A batch accepted before is acknowledged again (R337). -/
theorem State.batchIn_acceptedBefore (h : (s.arrived u).sealKey u b = some key) (hq : sealSeqOf b < (s.arrived u).dueSeq u b)
    (hack : (s.arrived u).chn.acks.any (fun a => a.unit == u && a.seq == sealSeqOf b) = false) :
    s.batchIn u b recs = (s.arrived u).toUnit u 2 0 (be 8 (sealSeqOf b)) := by
  rw [State.batchIn_verified recs h, if_pos hq, hack]
  rfl

/-- A batch accepted before whose acknowledgement still waits has no effect (R337, R408). -/
theorem State.batchIn_ackWaits (h : (s.arrived u).sealKey u b = some key) (hq : sealSeqOf b < (s.arrived u).dueSeq u b)
    (hack : (s.arrived u).chn.acks.any (fun a => a.unit == u && a.seq == sealSeqOf b) = true) : s.batchIn u b recs = s.arrived u := by
  rw [State.batchIn_verified recs h, if_pos hq, if_pos hack]

/-- A unit's batch is held where fewer than 16 are and none of its SEQ is (R337). -/
theorem State.holdBatch_room (hlen : (s.unit u).held.length < 16) (hnew : ∀ h ∈ (s.unit u).held, sealSeqOf h.sealB ≠ sealSeqOf b) :
    s.holdBatch u b recs = s.setUnit u { s.unit u with held := (s.unit u).held ++ [⟨b, recs⟩] } := by
  refine if_neg (fun hfull => ?_)
  simp only [Bool.or_eq_true, decide_eq_true_eq, List.any_eq_true, beq_iff_eq] at hfull
  rcases hfull with hfull | ⟨h, hmem, heq⟩
  · omega
  · exact hnew h hmem heq

/-- A batch before its turn is held and the one that is due is asked for (R337). -/
theorem State.batchIn_early (h : (s.arrived u).sealKey u b = some key) (hq : (s.arrived u).dueSeq u b < sealSeqOf b)
    (hlen : ((s.arrived u).unit u).held.length < 16) (hnew : ∀ h ∈ ((s.arrived u).unit u).held, sealSeqOf h.sealB ≠ sealSeqOf b) :
    s.batchIn u b recs =
      ((s.arrived u).setUnit u { (s.arrived u).unit u with held := ((s.arrived u).unit u).held ++ [⟨b, recs⟩] }).requestBatch u ((s.arrived u).dueSeq u b) := by
  rw [State.batchIn_verified recs h, if_neg (Nat.lt_asymm hq), if_pos hq, State.holdBatch_room recs hlen hnew]

/-- A batch whose turn it is goes through steps 4 and 5, and ends where they refuse it (R337). -/
theorem State.batchIn_refused {t : State} (h : (s.arrived u).sealKey u b = some key) (hq : sealSeqOf b = (s.arrived u).dueSeq u b)
    (hroom : (s.arrived u).jrnRoom = true) (htry : (s.arrived u).tryBatch u key b recs = (false, t)) : s.batchIn u b recs = t := by
  rw [State.batchIn_verified recs h, if_neg (by omega), if_neg (by omega), hroom, htry]
  rfl

/-- A batch whose turn it is and that steps 4 and 5 accept is followed by the held ones (R337). -/
theorem State.batchIn_accepted {t : State} (h : (s.arrived u).sealKey u b = some key) (hq : sealSeqOf b = (s.arrived u).dueSeq u b)
    (hroom : (s.arrived u).jrnRoom = true) (htry : (s.arrived u).tryBatch u key b recs = (true, t)) : s.batchIn u b recs = t.takeHeld u 16 := by
  rw [State.batchIn_verified recs h, if_neg (by omega), if_neg (by omega), hroom, htry]
  rfl

/-- The state that has counted the hashing of a batch of n records. -/
def State.hashed (s : State) (n : Nat) : State := s.compress ((if n = 0 then 0 else 2 * n - 1) + 2)

theorem State.tryBatch_prevDiffers (h : (!(s.unit u).digest.isEmpty && (b.drop 120).take 48 != (s.unit u).digest) = true) :
    s.tryBatch u key b recs =
      (false, ((s.hashed (recs.map clearSealed).length).setUnit u { s.unit u with bad := some b }).requestBatch u (sealSeqOf b)) := by
  simp only [State.tryBatch, h, if_true]
  rfl

theorem State.tryBatch_rootFails (h : (!(s.unit u).digest.isEmpty && (b.drop 120).take 48 != (s.unit u).digest) = false)
    (hroot : rootOk b (recs.map clearSealed) = false) :
    s.tryBatch u key b recs = (false, (s.hashed (recs.map clearSealed).length).batchFail u b (sealSeqOf b)) := by
  simp only [State.tryBatch, h, hroot, Bool.false_eq_true, if_false, Bool.not_false, if_true]
  rfl

theorem State.tryBatch_accepts (h : (!(s.unit u).digest.isEmpty && (b.drop 120).take 48 != (s.unit u).digest) = false)
    (hroot : rootOk b (recs.map clearSealed) = true) :
    s.tryBatch u key b recs = (true, (s.hashed (recs.map clearSealed).length).acceptBatch u key b (recs.map clearSealed)) := by
  simp only [State.tryBatch, h, hroot, Bool.false_eq_true, if_false, Bool.not_true]
  rfl

/-! ## An accepted batch (R35, R337, R338, R408) -/

/-- A batch's records, as their unit filed them. -/
def batchRecsOf (u : Nat) (b : List Byte) (recs : List (List Byte)) : List Rec := recs.mapIdx (fun i y => batchRec u (field b 24 8) i y)

/-- The state in which the records of an accepted batch have their tasks. -/
def State.filedBatch (s : State) (u : Nat) (b : List Byte) (recs : List (List Byte)) : State :=
  ((batchRecsOf u b recs).foldl (fun (t : State) r => t.fileBatchRec r) s).plnSync

/-- The state that has kept an accepted batch's seal, LATE where its interval has its re-seal already. -/
def State.sealKept (s : State) (u : Nat) (b : List Byte) : State :=
  let late := s.hlm.reseals.any (fun y => y.istart == sealStart b)
  { (if late then s.sat F.HLM_LATE_UNIT else s) with
    hlm := { s.hlm with
      unitKept := s.hlm.unitKept ++ [b]
      unitSeals := s.hlm.unitSeals.filter (fun z => !(z.unit == u && z.bad && sealStart z.bytes == sealStart b && field z.bytes 6 2 == field b 6 2)) ++ [⟨u, b, false, late⟩] } }

/-- What the HEAD keeps of a unit once its batch is accepted: the key used last first, and no request for a SEQ up to the batch's. -/
def UnitInfo.moveOn (x : UnitInfo) (key b : List Byte) : UnitInfo :=
  { x with
    keys := key :: x.keys.filter (fun k => k != key), lastSeq := some (sealSeqOf b), digest := sealDigest b, bad := none
    asked := x.asked.filter (fun z => decide (sealSeqOf b < z.1)) }

theorem State.keepUnitSeal_sealKept (s : State) (u : Nat) (b : List Byte) :
    ({ s.keepUnitSeal u b false with hlm := { (s.keepUnitSeal u b false).hlm with unitKept := (s.keepUnitSeal u b false).hlm.unitKept ++ [b] } } : State) =
      s.sealKept u b := by
  simp only [State.keepUnitSeal, State.sealKept]
  split <;> rfl

theorem State.unit_sealKept (s : State) (u : Nat) (b : List Byte) (i : Nat) : (s.sealKept u b).unit i = s.unit i := by
  simp only [State.sealKept]
  split <;> rfl

theorem State.acceptBatch_eq (s : State) :
    s.acceptBatch u key b recs =
      let f := s.filedBatch u b recs
      let w := ((f.sealKept u b).wrap F.HLM_UNIT_OK).setUnit u ((f.unit u).moveOn key b)
      let e := if decide (0 < w.tar.start) && decide (sealEnd b ≤ w.tar.start) then w.legalEvent 5 3 7 w.jrn.seq (be 1 u ++ be 4 (sealStart b)) else w
      let a : BatchAck := {
        unit := u, seq := sealSeqOf b, startC := field b 24 8
        left := ((batchRecsOf u b recs).filter (fun r => (f.nodeIndex u r.node).isSome)).length, sealB := b }
      ({ e with chn := { e.chn with acks := e.chn.acks ++ [a] } } : State).settleBatches := by
  have hfiled : ((recs.mapIdx (fun i x => batchRec u (field b 24 8) i x)).foldl (fun (t : State) r => t.fileBatchRec r) s).plnSync = s.filedBatch u b recs := rfl
  have hunit : ((s.filedBatch u b recs).sealKept u b |>.wrap F.HLM_UNIT_OK).unit u = (s.filedBatch u b recs).unit u := (s.filedBatch u b recs).unit_sealKept u b u
  have hasked : ∀ a : Option (Nat × Nat), a.filter (fun z => decide (sealSeqOf b < z.1)) =
      match a with | some (q, n) => if q ≤ sealSeqOf b then none else some (q, n) | none => none := by
    rintro (_ | ⟨q, n⟩)
    · rfl
    · by_cases hq : q ≤ sealSeqOf b
      · simp [hq]
      · simp [hq, Nat.lt_of_not_le hq]
  -- built alone, this file's match is another than the model's, and `rfl` sees that they agree
  simp only [State.acceptBatch, hfiled, State.keepUnitSeal_sealKept, hunit, UnitInfo.moveOn, hasked] <;> rfl

end

/-! ## Requests and breaks (R36, R337, R408) -/

/-- With no batch held there is none whose turn can come. -/
theorem State.takeHeld_none {s : State} {u : Nat} (h : (s.unit u).held = []) (n : Nat) : s.takeHeld u n = s := by
  cases n with
  | zero => rfl
  | succ n =>
    unfold State.takeHeld
    simp only [h, List.find?_nil, List.isEmpty_nil, if_true]
    split <;> rfl

section
variable {s : State} {u : Nat}

theorem State.requestTimer_idle (hask : ((s.dropLost u).unit u).asked = none) (hseq : ((s.dropLost u).unit u).lastSeq = (s.unit u).lastSeq) :
    s.requestTimer u = (s.dropLost u).takeHeld u 16 := by
  simp [State.requestTimer, hask, hseq]

theorem State.requestTimer_takenBack (hask : ((s.dropLost u).unit u).asked = none) (hseq : ((s.dropLost u).unit u).lastSeq ≠ (s.unit u).lastSeq) :
    s.requestTimer u = (s.dropLost u).requestBatch u ((((s.dropLost u).unit u).lastSeq.map (fun q => q + 1)).getD 0) := by
  simp [State.requestTimer, hask, hseq]

theorem State.requestTimer_repeats {e : Nat × Nat} (hask : ((s.dropLost u).unit u).asked = some e) (hn : e.2 < 3) :
    s.requestTimer u = (((s.dropLost u).setUnit u { (s.dropLost u).unit u with asked := some (e.1, e.2 + 1) }).sat F.CHN_BATCH_REQ).toUnit u 3 0 (be 8 e.1) := by
  simp [State.requestTimer, hask, hn]

theorem State.requestTimer_breaks {e : Nat × Nat} (hask : ((s.dropLost u).unit u).asked = some e) (hn : 3 ≤ e.2) :
    s.requestTimer u = (s.dropLost u).chainBreak u e.1 := by
  simp [State.requestTimer, hask, Nat.not_lt.2 hn]

/-- A break is counted and logged, the interval that is missing marked, a seal that failed kept as such, and the held batches taken (R36). -/
theorem State.chainBreak_eq (s : State) (u q : Nat) :
    s.chainBreak u q =
      let w := (s.sat F.HLM_CHAIN_BREAK).raise Pg.HLM 3
      let span := s.missedInterval u q
      let l := w.legalEvent 12 3 7 w.jrn.seq (be 1 u ++ be 4 ((span.map (fun y => y.1)).getD 0))
      let g := (span.map (fun y => l.markGaps u y.1 y.2)).getD l
      let k := ((g.unit u).bad.map (fun b => g.keepUnitSeal u b true)).getD g
      (k.setUnit u { k.unit u with lastSeq := some q, digest := [], asked := none, bad := none }).takeHeld u 16 := by
  simp only [State.chainBreak]
  cases s.missedInterval u q
  all_goals
    simp only [Option.map_none, Option.getD_none, Option.map_some, Option.getD_some]
    split
  all_goals
    rename_i hbad
    simp only [hbad, Option.map_none, Option.getD_none, Option.map_some, Option.getD_some]

end

/-! ## The records of a batch (R274, R409) -/

@[simp] theorem State.keepRec_regs (s : State) (r : Rec) : (s.keepRec r).regs = s.regs := by
  unfold State.keepRec
  split <;> rfl

@[simp] theorem State.touchSegment_regs (s : State) (r : Rec) : (s.touchSegment r).regs = s.regs := by
  simp only [State.touchSegment, State.flushSegments]
  split
  · rfl
  · split
    · split <;> rfl
    · rfl

/-- Filing a record changes no register field but its counters and the interrupts they raise. -/
theorem State.rd_fileChain_ne (s : State) (r : Rec) (f : Fld) (h : ∀ g ∈ filedFields, f.key ≠ g.key) : (s.fileChain r).2.rd f = s.rd f := by
  change ((((s.journal 1 r.t4Body).keepRec r).countFiled r).touchSegment r).rd f = s.rd f
  rw [State.rd_congr (State.touchSegment_regs _ r), (Frame.countFiled _ r).2 f h, State.rd_congr (State.keepRec_regs _ r), State.rd_journal]

/-- Whether an appender must wait does not change with what it files (R392). -/
theorem State.writeThrough_fileChain (s : State) (r : Rec) : (s.fileChain r).2.writeThrough = s.writeThrough := by
  simp only [State.writeThrough]
  rw [s.rd_fileChain_ne r F.IGT_STATE_TIER (by decide), s.rd_fileChain_ne r F.IGT_STATE_MODE (by decide)]

section
variable {s : State} {i : Nat} {x : Desc} {r : Rec}

theorem State.batchTask_notWorking (h : s.working = false) : s.batchTask i x r = s.taskEnd i .ok 0 := by
  simp [State.batchTask, h]

theorem State.batchTask_igtFull (h : s.working = true) (harg : x.arg = 0) (hfull : (s.igtFull && !s.on F.PRF_STATE_FALLBACK) = true) :
    s.batchTask i x r = s := by
  simp only [State.batchTask, h, harg, hfull, Bool.not_true, Bool.false_eq_true, if_false, bne_self_eq_false, if_true]

theorem State.batchTask_noRoom (h : s.working = true) (harg : x.arg = 0) (hfull : (s.igtFull && !s.on F.PRF_STATE_FALLBACK) = false)
    (hroom : s.jrnRoom = false) : s.batchTask i x r = s.sat F.IGT_JRNL_WAIT := by
  simp only [State.batchTask, h, harg, hfull, hroom, Bool.not_true, Bool.not_false, Bool.false_eq_true, if_false, bne_self_eq_false, if_true]

/-- The task's descriptor once its record is filed: the ledger sequence it waits for, and the record it displaced. -/
def Desc.filedAs (x : Desc) (s : State) (r : Rec) : Desc := { x with arg := (s.fileChain r).2.jrn.seq + 1, disp := (s.fileChain r).1 }

theorem State.batchTask_files (h : s.working = true) (harg : x.arg = 0) (hfull : (s.igtFull && !s.on F.PRF_STATE_FALLBACK) = false)
    (hroom : s.jrnRoom = true) :
    s.batchTask i x r =
      if (s.fileChain r).2.writeThrough then (s.fileChain r).2.setDesc i (x.filedAs s r)
      else ((s.fileChain r).2.setDesc i (x.filedAs s r)).batchFiled i (x.filedAs s r) r := by
  rw [State.writeThrough_fileChain]
  simp only [State.batchTask, h, harg, hfull, hroom, Bool.not_true, Bool.false_eq_true, if_false, bne_self_eq_false]
  rfl

theorem State.batchTask_waits (h : s.working = true) (harg : x.arg ≠ 0) (hwt : s.writeThrough = true)
    (htail : s.jrn.tail.any (fun y => y.seq + 1 == x.arg) = true) : s.batchTask i x r = s := by
  simp [State.batchTask, h, harg, hwt, htail]

theorem State.batchTask_ends (h : s.working = true) (harg : x.arg ≠ 0)
    (hdurable : s.writeThrough = false ∨ s.jrn.tail.all (fun y => y.seq + 1 != x.arg) = true) : s.batchTask i x r = s.batchFiled i x r := by
  have hwait : (s.writeThrough && s.jrn.tail.any (fun y => y.seq + 1 == x.arg)) = false := by
    rcases hdurable with hwt | htail
    · rw [hwt, Bool.false_and]
    · rw [List.any_eq_not_all_not]
      simpa [bne] using fun _ => htail
  simp only [State.batchTask, h, hwait, bne_iff_ne, ne_eq, harg, not_false_eq_true, Bool.not_true, Bool.false_eq_true, if_false, if_true]

end

/-! ## A RELAY's batches (R408) -/

theorem State.sendBatch_known {s : State} {seq : Nat} {x : Sealed} (h : s.hlm.sealed.find? (fun y => y.seq == seq) = some x) :
    s.sendBatch seq = s.sendBodies 0 0 false false 1 (batchBodies (s.linkMtu 0 - 36) x.bytes (s.batchRecs x)) := by
  simp only [State.sendBatch, h]

theorem State.sendBatch_unknown {s : State} {seq : Nat} (h : s.hlm.sealed.find? (fun y => y.seq == seq) = none) : s.sendBatch seq = s := by
  simp only [State.sendBatch, h]

/-! ## Proofs (R341) -/

/-- A unit that makes no proof answers a result of 2 to 6 (R346). -/
theorem State.ownProof_code {s : State} {key slot annex c : Nat} {ext : Bool} (h : s.ownProof key slot annex ext = .inr c) : 2 ≤ c ∧ c ≤ 6 := by
  unfold State.ownProof at h
  split at h
  · cases h; decide
  · cases h; decide
  · cases h; decide
  · split at h
    · cases h; decide
    · split at h
      · cases h; decide
      · split at h
        · cases h
        · split at h
          · cases h
          · cases h; decide

theorem State.proofBack_refused {s : State} {res : Nat} (ext : Bool) (proof : List Byte) (h : res ≠ 1) : s.proofBack ext res proof = s.prqEnd res := by
  simp [State.proofBack, h]

theorem State.proofBack_plain (s : State) (proof : List Byte) : s.proofBack false 1 proof = s.prqAnswer proof := rfl

theorem State.proofBack_extended {s : State} {proof e : List Byte} (h : s.proofExt ((proof.drop 96).take 288) = some e) :
    s.proofBack true 1 proof = s.prqAnswer (proof.take 3 ++ be 1 1 ++ proof.drop 4 ++ e) := by
  simp [State.proofBack, h]

theorem State.proofBack_notResealed {s : State} {proof : List Byte} (h : s.proofExt ((proof.drop 96).take 288) = none) :
    s.proofBack true 1 proof = s.prqEnd 3 := by
  simp [State.proofBack, h]

end Sys2Proof.Machine

namespace Sys2Proof.Safety
open Sys2Proof.Machine

/-! ## What the HEAD's commands lead to -/

/-- A command without an effect leaves everything as it was. -/
theorem after_unchanged {c : Instr} {s u : State} (he : exec c s = s.done u) : After c s (fun t => Frame u t []) :=
  after_done he ((Frame.refl u []).done _)

/-- A command that only counts changes its counter alone. -/
theorem after_sat {c : Instr} {s : State} {f : Fld} (he : exec c s = s.done (s.sat f)) : After c s (fun t => Counted s t f ∧ Frame s t [f]) := by
  refine after_done he ⟨?_, (Frame.sat f (by simp) (Frame.refl s _)).done _⟩
  rw [Counted, rd_outcome, State.rd_sat_self]

/-- A frame from a state that differs in Hallmark's part alone is one of every other part. -/
theorem Frame.but_hlm {s t : State} {h : Hlm} {fs : List Fld} (hf : Frame { s with hlm := h } t fs) : Frame s { t with hlm := s.hlm } fs := by
  obtain ⟨hbody, hregs⟩ := hf
  refine ⟨?_, hregs⟩
  simp only [SameBody] at hbody ⊢
  simp only [hbody, and_self]

/-- A frame from a state that differs in the chain's part alone is one of every other part. -/
theorem Frame.but_chn {s t : State} {h : Chn} {fs : List Fld} (hf : Frame { s with chn := h } t fs) : Frame s { t with chn := s.chn } fs := by
  obtain ⟨hbody, hregs⟩ := hf
  refine ⟨?_, hregs⟩
  simp only [SameBody] at hbody ⊢
  simp only [hbody, and_self]

theorem unit_outcome (u : State) (l : List Instr) (i : Nat) : ({ u.alertPin with pending := l } : State).unit i = u.unit i := by
  simp only [State.unit, State.alertPin_chn]

/-- A command that only sets what the HEAD keeps of a unit leaves the other units alone. -/
theorem after_setUnit {c : Instr} {s : State} {u : Nat} {x : UnitInfo} (he : exec c s = s.done (s.setUnit u x)) :
    After c s (fun t => t.unit u = x ∧ (∀ i, i ≠ u → t.unit i = s.unit i) ∧ t.chn = { s.chn with units := t.chn.units } ∧ Frame s { t with chn := s.chn } []) := by
  refine after_done he ⟨?_, fun i hi => ?_, ?_, Frame.but_chn (Frame.done _ (Frame.refl _ _))⟩
  · rw [unit_outcome, State.unit_setUnit_self]
  · rw [unit_outcome, State.unit_setUnit_ne _ _ hi]
  · simp only [State.alertPin_chn]
    rfl

theorem exec_unitId {s : State} (hr : s.role = 2) (hd : s.domOn Dom.SEC = true) (unit : BitVec 6) (cert sealCert : List Byte) :
    exec (.unitId unit cert sealCert) s = s.done (s.registerUnit unit.toNat cert sealCert) := by
  change execUnitId unit cert sealCert s = _
  simp [execUnitId, hr, hd]

theorem exec_unitRevoke {s : State} {m : Master} (h : s.judge m Pg.CHN 0x70 = .open) (v : Word) : exec (.unitRevoke m v) s = s.done (s.unitCmd v) :=
  congrArg s.done (s.guarded_open m _ _ _ h)

theorem exec_unitForget {s : State} {m : Master} (h : s.judge m Pg.CHN 0x70 = .open) (v : Word) : exec (.unitForget m v) s = s.done (s.unitCmd v) :=
  congrArg s.done (s.guarded_open m _ _ _ h)

/-- FORGET leaves of the node table what is another unit's or bound, and shows its size (R410). -/
theorem after_unitForget {c : Instr} {s : State} {u : Nat} (he : exec c s = s.done (s.unitForget u)) :
    After c s (fun t => t.chn = { s.chn with nodes := s.chn.nodes.filter (fun e => e.1 / 65536 != u || s.nodeBound u (e.1 % 65536)) } ∧
      t.rd F.CHN_NODES_USED = t.chn.nodes.length % F.CHN_NODES_USED.bound ∧ Frame s { t with chn := s.chn } [F.CHN_NODES_USED]) := by
  refine after_done he ⟨?_, ?_, Frame.but_chn (Frame.done _ (Frame.wr _ _ (by simp) (Frame.refl _ _)))⟩
  · simp only [State.alertPin_chn]
    rfl
  · rw [rd_outcome]
    simp only [State.alertPin_chn]
    exact State.rd_wr_self _ _ _

/-- REVOKE, FORGET and a word that is neither, by the role and the word (R416). -/
theorem after_unitCmd {c : Instr} {s : State} {v : Word} (he : exec c s = s.done (s.unitCmd v)) :
    After c s (fun t =>
      (s.role = 2 → bits v 1 0 = 1 →
        t.unit (s.rd F.CHN_UNIT_SEL) =
            { s.unit (s.rd F.CHN_UNIT_SEL) with keys := (s.unit (s.rd F.CHN_UNIT_SEL)).keys.filter (fun k => ofBe (keyId k) != s.rd F.CHN_UNIT_KEY) } ∧
          (∀ i, i ≠ s.rd F.CHN_UNIT_SEL → t.unit i = s.unit i) ∧ t.chn = { s.chn with units := t.chn.units } ∧ Frame s { t with chn := s.chn } []) ∧
      (s.role = 2 → bits v 1 0 = 2 →
        t.chn = { s.chn with nodes := s.chn.nodes.filter (fun e => e.1 / 65536 != s.rd F.CHN_UNIT_SEL || s.nodeBound (s.rd F.CHN_UNIT_SEL) (e.1 % 65536)) } ∧
          t.rd F.CHN_NODES_USED = t.chn.nodes.length % F.CHN_NODES_USED.bound ∧ Frame s { t with chn := s.chn } [F.CHN_NODES_USED]) ∧
      (s.role ≠ 2 ∨ (bits v 1 0 ≠ 1 ∧ bits v 1 0 ≠ 2) → Frame s t [])) := by
  by_cases hnone : s.role ≠ 2 ∨ (bits v 1 0 ≠ 1 ∧ bits v 1 0 ≠ 2)
  · rw [State.unitCmd_noEffect hnone] at he
    exact (after_unchanged he).mono (fun t ht => ⟨fun hr hv => by omega, fun hr hv => by omega, fun _ => ht⟩)
  · have hrole : s.role = 2 := by omega
    by_cases hv : bits v 1 0 = 1
    · rw [State.unitCmd_revoke hrole hv] at he
      exact (after_setUnit he).mono (fun t ht => ⟨fun _ _ => ht, fun _ _ => by omega, fun h => absurd h hnone⟩)
    · rw [State.unitCmd_forget hrole (by omega)] at he
      exact (after_unitForget he).mono (fun t ht => ⟨fun _ h => absurd h hv, fun _ _ => ht, fun h => absurd h hnone⟩)

theorem exec_batch {s : State} (h : s.aggregates = true) (unit : BitVec 6) (b : List Byte) (recs : List (List Byte)) :
    exec (.batch unit b recs) s = s.done (s.batchIn unit.toNat b recs) :=
  congrArg s.done (if_pos h)

theorem exec_batchReqTimer {s : State} (h : s.aggregates = true) (unit : BitVec 6) :
    exec (.batchReqTimer unit) s = s.done (s.requestTimer unit.toNat) :=
  congrArg s.done (if_pos h)

theorem exec_profileUpdate {s : State} {i : Fin 16384} {x : Desc} {r : Rec} (h : s.runningTask i.val 3 = some x) (hr : x.record = some r) :
    exec (.profileUpdate i) s = s.done (s.batchTask i.val x r) := by
  change execProfileUpdate i s = _
  simp only [execProfileUpdate, h, hr]

/-- A break in a unit's chain is counted and raised (R36). -/
theorem chainBreak_counted (s : State) :
    Counted s ((s.sat F.HLM_CHAIN_BREAK).raise Pg.HLM 3) F.HLM_CHAIN_BREAK ∧ Interrupt ((s.sat F.HLM_CHAIN_BREAK).raise Pg.HLM 3) Pg.HLM 3 := by
  refine ⟨?_, State.raise_set _ _ _ (by decide)⟩
  rw [Counted, State.rd_raise_ne _ _ _ _ (by decide) (by decide), State.rd_sat_self]

theorem exec_batchAck {s : State} (hr : s.role = 1) (seq : BitVec 64) :
    exec (.batchAck seq) s = s.done (({ s with chn := { s.chn with inFlight := s.chn.inFlight.filter (fun q => q != seq.toNat) } } : State).sendBatches 8) :=
  congrArg s.done (if_pos hr)

/-- A RELAY whose link is up and whose address is accepted sends the batch asked for (R403, R408). -/
theorem exec_batchReq_sends {s : State} (hr : s.role = 1) (hup : s.linkIsUp 0 = true) (haddr : s.rd F.CHN_STAT_ADDR_CHANGED = 0) (seq : BitVec 64) :
    exec (.batchReq seq) s = s.done (s.sendBatch seq.toNat) := by
  change execBatchReq seq s = _
  simp [execBatchReq, hr, hup, State.on, haddr]

/-- A request for a SEQ that no kept seal has changes nothing. -/
theorem exec_batchReq_unknown {s : State} (seq : BitVec 64) (h : s.hlm.sealed.find? (fun y => y.seq == seq.toNat) = none) :
    exec (.batchReq seq) s = s.done s := by
  change execBatchReq seq s = _
  rw [execBatchReq, State.sendBatch_unknown h, ite_self]

/-- A RELAY sends its proof to the HEAD (R341). -/
theorem exec_proofReq_made {s : State} {body b : List Byte} (hr : s.role = 1) (hd : s.domOn Dom.PKT = true)
    (h : s.ownProof (field body 0 4) (field body 4 4) (field body 8 1) false = .inl b) : exec (.proofReq body) s = s.done (s.toHead 6 1 b) := by
  change execProofReq body s = _
  simp [execProofReq, hr, hd, h]

/-- A RELAY that makes no proof sends the HEAD its result (R341). -/
theorem exec_proofReq_none {s : State} {body : List Byte} {c : Nat} (hr : s.role = 1) (hd : s.domOn Dom.PKT = true)
    (h : s.ownProof (field body 0 4) (field body 4 4) (field body 8 1) false = .inr c) : exec (.proofReq body) s = s.done (s.toHead 6 c []) := by
  change execProofReq body s = _
  simp [execProofReq, hr, hd, h]

/-! ## The end of a proof request (R341) -/

/-- A proof request has ended with a result: the rest of Hallmark is as it was, and no field but the request's is another. -/
def RequestEnded (u : State) (r : Nat) (t : State) : Prop :=
  t.hlm = { u.hlm with prq := none } ∧ t.rd F.HLM_PRQ_CTL_BUSY = 0 ∧ t.rd F.HLM_PRQ_CTL_RES = r ∧ Interrupt t Pg.HLM 5 ∧
    Frame u { t with hlm := u.hlm } ([F.HLM_PRQ_CTL_BUSY, F.HLM_PRQ_CTL_RES, F.HLM_PRQ_LEN] ++ raised Pg.HLM)

theorem rd_prqEnd_ne (s : State) (r : Nat) (f : Fld) (hb : f.key ≠ F.HLM_PRQ_CTL_BUSY.key) (hr : f.key ≠ F.HLM_PRQ_CTL_RES.key)
    (hi : f.key ≠ (F.INT_STAT Pg.HLM).key) (ha : f.key ≠ F.SMP_ALERT_STAT.key) : (s.prqEnd r).rd f = s.rd f := by
  rw [State.prqEnd, State.rd_raise_ne _ _ _ _ hi ha, State.rd_wr_ne _ _ _ _ hr, State.rd_wr_ne _ _ _ _ hb]
  rfl

/-- Hallmark's part is a part like any other: a frame stays one where both states take the same. -/
theorem Frame.with_hlm {s t : State} {fs : List Fld} (h : Hlm) (hf : Frame s t fs) : Frame { s with hlm := h } { t with hlm := h } fs := by
  obtain ⟨hbody, hregs⟩ := hf
  refine ⟨?_, hregs⟩
  simp only [SameBody] at hbody ⊢
  simp only [hbody, and_self]

theorem Frame.hlm_eq {s t : State} {fs : List Fld} (hf : Frame s t fs) : t.hlm = s.hlm := by
  obtain ⟨hbody, -⟩ := hf
  simp only [SameBody] at hbody
  simp only [hbody]

/-- A request ends after what has at most written its length. -/
theorem after_prqEnd {c : Instr} {s u w : State} {r : Nat} (hr : r < 16) (hw : Frame u w [F.HLM_PRQ_LEN]) (he : exec c s = s.done (w.prqEnd r)) :
    After c s (fun t => RequestEnded u r t ∧ t.rd F.HLM_PRQ_LEN = w.rd F.HLM_PRQ_LEN) := by
  have hhlm := hw.hlm_eq
  refine after_done he ⟨⟨?_, ?_, ?_, ?_, Frame.but_hlm (h := { u.hlm with prq := none }) (Frame.done _ ?_)⟩, ?_⟩
  · simp [State.prqEnd, hhlm]
  · rw [rd_outcome, State.prqEnd, State.rd_raise_ne _ _ _ _ (by decide) (by decide), State.rd_wr_ne _ _ _ _ (by decide), State.rd_wr_self]
    rfl
  · rw [rd_outcome, State.prqEnd, State.rd_raise_ne _ _ _ _ (by decide) (by decide), State.rd_wr_self]
    exact Nat.mod_eq_of_lt hr
  · rw [Interrupt, rd_outcome]
    exact State.raise_set _ _ _ (by decide)
  · rw [State.prqEnd, hhlm]
    exact Frame.raise _ _ (by simp [raised]) (by simp [raised]) (Frame.wr _ _ (by simp) (Frame.wr _ _ (by simp)
      (Frame.with_hlm _ (Frame.mono (by simp) hw))))
  · rw [rd_outcome, rd_prqEnd_ne _ _ _ (by decide) (by decide) (by decide) (by decide)]

/-- A proof that finds room in the output queue ends the request with result 1 and its length, one that finds none with result 8 (R223, R341). -/
theorem after_prqAnswer {c : Instr} {s : State} {b : List Byte} (he : exec c s = s.done (s.prqAnswer b)) :
    After c s (fun t => RequestEnded (s.outputPacket (s.rd F.HLM_PRQ_Q) b).2 (if (s.outputPacket (s.rd F.HLM_PRQ_Q) b).1 then 1 else 8) t ∧
      ((s.outputPacket (s.rd F.HLM_PRQ_Q) b).1 = true → t.rd F.HLM_PRQ_LEN = b.length % F.HLM_PRQ_LEN.bound)) := by
  simp only [State.prqAnswer] at he
  cases hok : (s.outputPacket (s.rd F.HLM_PRQ_Q) b).1 with
  | true =>
    rw [hok, if_pos rfl] at he
    refine (after_prqEnd (r := 1) (by decide) (Frame.wr _ _ (by simp) (Frame.refl _ _)) he).mono (fun t ht => ⟨ht.1, fun _ => ?_⟩)
    rw [ht.2, State.rd_wr_self]
  | false =>
    rw [hok, if_neg Bool.false_ne_true] at he
    exact (after_prqEnd (r := 8) (by decide) (Frame.refl _ _) he).mono (fun t ht => ⟨ht.1, fun h => absurd h Bool.false_ne_true⟩)

theorem exec_proofRsp {s : State} {p : ProofReq} {unit : BitVec 6} (hp : s.hlm.prq = some p) (hu : p.unit = unit.toNat) (h0 : p.unit ≠ 0)
    (res : Fin 9) (proof : List Byte) : exec (.proofRsp unit res proof) s = s.done (s.proofBack p.ext res.val proof) := by
  change execProofRsp unit res proof s = _
  simp [execProofRsp, hp, ← hu, h0]

theorem exec_proofUnreachable {s : State} {p : ProofReq} (hp : s.hlm.prq = some p) (h0 : p.unit ≠ 0) :
    exec .proofUnreachable s = s.done (s.prqEnd 7) := by
  change execProofUnreachable s = _
  simp [execProofUnreachable, hp, h0]

end Sys2Proof.Safety
end

section
open Sys2Proof Sys2Proof.Machine Sys2Proof.Safety

/-- Settles O44: each command is the model's function of it, taken at the branch that the hypotheses name. -/
theorem theHeadAndItsUnits : Obligations.TheHeadAndItsUnits := by
  refine ⟨?_, ?_, ?_, ?_, ?_, ?_, ?_, ?_⟩
  · intro unit cert sealCert s hrole hdom
    have hexec := exec_unitId hrole hdom unit cert sealCert
    refine ⟨fun hnone => ?_, fun anchor hanchor => ?_⟩
    · rwa [State.registerUnit_noAnchor _ _ _ (Option.isNone_iff_eq_none.1 hnone)] at hexec
    · cases hok : Config.certVerify anchor cert && Config.certVerify (Config.certSubject cert) sealCert with
      | true =>
        rw [State.registerUnit_verified hanchor hok] at hexec
        exact (after_setUnit hexec).mono (fun t ht => ⟨fun _ => ht, fun h => absurd h (by decide)⟩)
      | false =>
        rw [State.registerUnit_rejected hanchor hok] at hexec
        exact (after_sat hexec).mono (fun t ht => ⟨fun h => absurd h (by decide), fun _ => ht⟩)
  · intro m v s hopen
    exact ⟨after_unitCmd (exec_unitRevoke hopen v), after_unitCmd (exec_unitForget hopen v)⟩
  · intro unit b recs s hagg
    have hexec := exec_batch hagg unit b recs
    refine ⟨State.dropLost_none, fun hnone => ?_, fun key hkey =>
      ⟨fun hq hack => ?_, fun hq hack => ?_, fun hq hlen hnew => ?_, fun hq hroom => ⟨fun hdiff => ?_, fun hsame hroot => ?_, fun hsame hroot => ?_⟩⟩⟩
    · exact hexec.trans (congrArg s.done (State.batchIn_unverified recs (Option.isNone_iff_eq_none.1 hnone)))
    · exact hexec.trans (congrArg s.done (State.batchIn_acceptedBefore recs hkey hq hack))
    · exact after_unchanged (hexec.trans (congrArg s.done (State.batchIn_ackWaits recs hkey hq hack)))
    · exact hexec.trans (congrArg s.done (State.batchIn_early recs hkey hq hlen hnew))
    · exact hexec.trans (congrArg s.done (State.batchIn_refused recs hkey hq hroom (State.tryBatch_prevDiffers recs hdiff)))
    · rw [State.batchIn_refused recs hkey hq hroom (State.tryBatch_rootFails recs hsame hroot), hq] at hexec
      exact hexec
    · rw [State.batchIn_accepted recs hkey hq hroom (State.tryBatch_accepts recs hsame hroot), State.acceptBatch_eq] at hexec
      exact hexec
  · intro i s x hrun r hr
    have hexec := exec_profileUpdate hrun hr
    refine ⟨fun hidle => ?_, fun hwork harg hfull => ?_, fun hwork harg hfull hroom => ?_, fun hwork harg hfull hroom hwt => ?_,
      fun hwork harg hfull hroom hwt => ?_, fun hwork harg hdurable => ?_, fun hwork harg hwt htail => ?_⟩
    · exact hexec.trans (congrArg s.done (State.batchTask_notWorking hidle))
    · exact after_unchanged (hexec.trans (congrArg s.done (State.batchTask_igtFull hwork harg hfull)))
    · exact after_sat (hexec.trans (congrArg s.done (State.batchTask_noRoom hwork harg hfull hroom)))
    · exact hexec.trans (congrArg s.done ((State.batchTask_files hwork harg hfull hroom).trans (if_pos hwt)))
    · exact hexec.trans (congrArg s.done ((State.batchTask_files hwork harg hfull hroom).trans (if_neg (ne_true_of_eq_false hwt))))
    · exact hexec.trans (congrArg s.done (State.batchTask_ends hwork harg hdurable))
    · exact after_unchanged (hexec.trans (congrArg s.done (State.batchTask_waits hwork harg hwt htail)))
  · intro unit s hagg
    have hexec := exec_batchReqTimer hagg unit
    refine ⟨fun hask hseq => ?_, fun hask hseq => ?_, fun e hask => ⟨fun hn => ⟨?_, ?_⟩, fun hn => ?_⟩⟩
    · have htake := hexec.trans (congrArg s.done (State.requestTimer_idle (Option.isNone_iff_eq_none.1 hask) hseq))
      exact ⟨htake, fun hheld => after_unchanged (htake.trans (congrArg s.done (State.takeHeld_none hheld 16)))⟩
    · exact hexec.trans (congrArg s.done (State.requestTimer_takenBack (Option.isNone_iff_eq_none.1 hask) hseq))
    · exact State.rd_sat_self _ _
    · exact hexec.trans (congrArg s.done (State.requestTimer_repeats hask hn))
    · obtain ⟨hcount, hint⟩ := chainBreak_counted (s.dropLost unit.toNat)
      refine ⟨hcount, hint, hexec.trans (congrArg s.done ((State.requestTimer_breaks hask hn).trans (State.chainBreak_eq _ _ _)))⟩
  · intro seq s hrole
    refine ⟨exec_batchAck hrole seq, fun x hx hup haddr => ?_, fun hall => ?_⟩
    · rw [exec_batchReq_sends hrole hup haddr, State.sendBatch_known hx]
    · refine after_unchanged (exec_batchReq_unknown seq (List.find?_eq_none.2 ?_))
      simpa using hall
  · intro body s hrole hdom
    refine ⟨fun b hb => exec_proofReq_made hrole hdom (Sum.getLeft?_eq_some_iff.1 hb), fun c hc => ?_⟩
    have hcode := Sum.getRight?_eq_some_iff.1 hc
    obtain ⟨hlo, hhi⟩ := State.ownProof_code hcode
    exact ⟨hlo, hhi, exec_proofReq_none hrole hdom hcode⟩
  · intro unit proof s p hp hu h0
    have hexec := fun res => exec_proofRsp hp hu h0 res proof
    refine ⟨fun res hres => ?_, fun hplain => ?_, fun hext e he => ?_, fun hext hnone => ?_, ?_⟩
    · exact after_prqEnd (by omega) (Frame.refl s _) ((hexec res).trans (congrArg s.done (State.proofBack_refused _ _ hres)))
    · have hend := hexec 1
      rw [hplain] at hend
      exact after_prqAnswer hend
    · have hend := hexec 1
      rw [hext] at hend
      exact after_prqAnswer (hend.trans (congrArg s.done (State.proofBack_extended he)))
    · have hend := hexec 1
      rw [hext] at hend
      exact (after_prqEnd (by decide) (Frame.refl s _)
        (hend.trans (congrArg s.done (State.proofBack_notResealed (Option.isNone_iff_eq_none.1 hnone))))).mono (fun _ h => h.1)
    · exact (after_prqEnd (by decide) (Frame.refl s _) (exec_proofUnreachable hp h0)).mono (fun _ h => h.1)

end

section
/-!
SUPPORT. What giving up a packet changes (R220, R221, R227, R231): the Crucible's own state, the Ethernet ports it pauses, the cells retired, and the fields that follow from them.
-/
namespace Sys2Proof.Safety
open Sys2Proof.Machine

/-! ## Changes of the pool -/

/-- No more than the Crucible's own state, the Ethernet ports paused, the cells retired and the listed register fields changed. -/
def PoolFrame (s t : State) (fs : List Fld) : Prop :=
  Frame s { t with cru := s.cru, chn := { t.chn with pausing := s.chn.pausing }, retired := s.retired } fs

theorem Frame.pool {s t : State} {fs : List Fld} (h : Frame s t fs) : PoolFrame s t fs := by
  obtain ⟨hbody, hregs⟩ := h
  refine ⟨?_, hregs⟩
  simp only [SameBody] at hbody ⊢
  simp only [hbody, and_self]

theorem PoolFrame.refl (s : State) (fs : List Fld) : PoolFrame s s fs := Frame.refl s fs

theorem PoolFrame.trans {s t u : State} {fs : List Fld} (h : PoolFrame s t fs) (h' : PoolFrame t u fs) : PoolFrame s u fs := by
  obtain ⟨hbody, hregs⟩ := h
  obtain ⟨hbody', hregs'⟩ := h'
  refine ⟨?_, fun g hg => (hregs' g hg).trans (hregs g hg)⟩
  have hchn : ({ t.chn with pausing := s.chn.pausing } : Chn) = s.chn → ({ u.chn with pausing := t.chn.pausing } : Chn) = t.chn →
      ({ u.chn with pausing := s.chn.pausing } : Chn) = s.chn :=
    fun ht hu => (congrArg (fun c : Chn => { c with pausing := s.chn.pausing }) hu).trans ht
  simp only [SameBody, true_and] at hbody hbody' ⊢
  simp_all only [and_self]

theorem PoolFrame.mono {s t : State} {fs gs : List Fld} (hsub : ∀ f ∈ fs, f ∈ gs) (h : PoolFrame s t fs) : PoolFrame s t gs := Frame.mono hsub h

theorem PoolFrame.ite {s t u : State} {fs : List Fld} {c : Prop} [Decidable c] (h : PoolFrame s t fs) (h' : PoolFrame s u fs) :
    PoolFrame s (if c then t else u) fs := by
  split
  · exact h
  · exact h'

theorem PoolFrame.wr {s t : State} {fs : List Fld} (f : Fld) (v : Nat) (hf : f ∈ fs) (h : PoolFrame s t fs) : PoolFrame s (t.wr f v) fs :=
  h.trans (Frame.wr f v hf (Frame.refl t fs)).pool

theorem PoolFrame.raise {s t : State} {fs : List Fld} (p b : Nat) (hp : F.INT_STAT p ∈ fs) (hf : F.SMP_ALERT_STAT ∈ fs) (h : PoolFrame s t fs) :
    PoolFrame s (t.raise p b) fs := h.trans (Frame.raise p b hp hf (Frame.refl t fs)).pool

/-- A change of the Crucible's own state keeps the frame. -/
theorem PoolFrame.cru {s t : State} {fs : List Fld} (c : Cru) (h : PoolFrame s t fs) : PoolFrame s { t with cru := c } fs :=
  h.trans (Frame.refl t fs)

theorem PoolFrame.ports {s t : State} {fs : List Fld} (h : PoolFrame s t fs) : t.ports = s.ports := by
  obtain ⟨hbody, -⟩ := h
  simp only [SameBody] at hbody
  simp only [hbody]

theorem PoolFrame.rd {s t : State} {fs : List Fld} (h : PoolFrame s t fs) {g : Fld} (hg : ∀ f ∈ fs, g.key ≠ f.key) : t.rd g = s.rd g := h.2 g hg

/-! ## What follows from FREE (R227, R237, R253, R414) -/

theorem Frame.sendPause (s : State) (p q : Nat) : Frame s (s.sendPause p q) [F.ETH_PAUSE_TX p] :=
  Frame.sat _ (by simp) (Frame.emit _ (Frame.refl s _))

theorem PoolFrame.ethPause (s : State) : PoolFrame s s.ethPause [F.ETH_PAUSE_TX 0, F.ETH_PAUSE_TX 1] := by
  refine List.foldlRecOn _ _ (motive := fun t => PoolFrame s t _) (PoolFrame.refl s _) (fun t ht p hp => ht.trans ?_)
  have hmem : ∀ f ∈ [F.ETH_PAUSE_TX p], f ∈ [F.ETH_PAUSE_TX 0, F.ETH_PAUSE_TX 1] := by
    have hlt := List.mem_range.1 hp
    rcases (show p = 0 ∨ p = 1 by omega) with rfl | rfl <;> simp
  have hflip : PoolFrame t { t with chn := { t.chn with pausing := t.chn.pausing ^^^ BitVec.ofNat 2 (2 ^ p) } } [F.ETH_PAUSE_TX 0, F.ETH_PAUSE_TX 1] :=
    Frame.refl t _
  have hsent : ∀ q, PoolFrame t (({ t with chn := { t.chn with pausing := t.chn.pausing ^^^ BitVec.ofNat 2 (2 ^ p) } } : State).sendPause p q) _ :=
    fun q => hflip.trans ((Frame.sendPause _ p q).mono hmem).pool
  exact .ite (hsent _) (.ite (.ite (hsent 0) hflip) (.refl t _))

theorem PoolFrame.cruSync (s : State) : PoolFrame s s.cruSync freeFields := by
  have hint : F.INT_STAT Pg.CRU ∈ freeFields := by simp [freeFields, raised]
  have halert : F.SMP_ALERT_STAT ∈ freeFields := by simp [freeFields, raised]
  unfold State.cruSync
  extract_lets s1 b rose fell _ s2 s3 s4 s5
  have h1 : PoolFrame s s1 freeFields := .ite (.wr _ _ (by simp [freeFields]) (.refl s _)) (.refl s _)
  have h3 : PoolFrame s s3 freeFields :=
    (PoolFrame.wr _ _ (by simp [freeFields]) (h1.cru _)).trans ((PoolFrame.ethPause _).mono (by simp [freeFields]))
  have h4 : PoolFrame s s4 freeFields := .ite (h3.raise _ 0 hint halert) h3
  have h5 : PoolFrame s s5 freeFields := .ite (h4.raise _ 1 hint halert) h4
  exact .ite (.raise _ 4 hint halert (.wr _ _ (by simp [freeFields]) (.wr _ _ (by simp [freeFields]) (h5.cru _)))) h5

/-! ## Cells given back (R220, R221, R231) -/

theorem PoolFrame.retireCell (s : State) (c : Nat) : PoolFrame s (s.retireCell c) (freeFields ++ retireFields) := by
  have hint : F.INT_STAT Pg.CRU ∈ freeFields ++ retireFields := by simp [freeFields, raised]
  have halert : F.SMP_ALERT_STAT ∈ freeFields ++ retireFields := by simp [freeFields, raised]
  have hmap : PoolFrame s { s with retired := s.retired ++ [c], cru := { s.cru with ue := s.cru.ue.filter (fun x => x != c) } } (freeFields ++ retireFields) :=
    Frame.refl s _
  exact .ite (.refl s _) (.raise _ 7 hint halert (.wr _ _ (by simp [retireFields]) (.wr _ _ (by simp [retireFields])
    (.wr _ _ (by simp [retireFields]) hmap))))

theorem PoolFrame.freeCells (s : State) (cells : List Nat) : PoolFrame s (s.freeCells cells) (freeFields ++ retireFields) :=
  .cru _ (List.foldlRecOn _ _ (motive := fun t => PoolFrame s t _) (.refl s _) (fun t ht c _ => ht.trans (.retireCell t c)))

/-- A writer that gives up its packet changes the pool, what follows from FREE, and the count of rewinds. -/
theorem PoolFrame.rewind (s : State) (w : Nat) : PoolFrame s (s.rewind w) (F.CRU_REWIND :: freeFields ++ retireFields) := by
  have hcount : ∀ t : State, PoolFrame s t (F.CRU_REWIND :: freeFields ++ retireFields) →
      PoolFrame s (t.dropCtx w).countRewind (F.CRU_REWIND :: freeFields ++ retireFields) := fun t ht => .wr _ _ (by simp) (ht.cru _)
  unfold State.rewind
  split
  · exact .ite (hcount s (.refl s _)) (.refl s _)
  · next c _ =>
    have hfreed := (PoolFrame.freeCells s c.cells).mono (fun _ hf => List.mem_cons_of_mem F.CRU_REWIND hf)
    exact (hcount _ hfreed).trans ((PoolFrame.cruSync _).mono (fun _ hf => List.mem_cons_of_mem _ (List.mem_append_left _ hf)))

end Sys2Proof.Safety
end

section
/-!
SUPPORT. What reception on a power-line port does (R136, R140 to R147, R163, R164): the port, the header kept or discarded, the blanked symbols noted, the link modes.
-/
namespace Sys2Proof.Machine

/-! ## A port beside its registers -/

@[simp] theorem State.port_setPort_self (s : State) (n : Nat) (p : Port_) : (s.setPort n p).port n = p := SMap.getD_set_self _ _ _ _

theorem State.port_congr {s t : State} (h : t.ports = s.ports) (n : Nat) : t.port n = s.port n := by
  simp only [State.port, h]

@[simp] theorem State.port_wr (s : State) (f : Fld) (v n : Nat) : (s.wr f v).port n = s.port n := rfl
@[simp] theorem State.port_addSat (s : State) (f : Fld) (k n : Nat) : (s.addSat f k).port n = s.port n := rfl
@[simp] theorem State.port_sat (s : State) (f : Fld) (n : Nat) : (s.sat f).port n = s.port n := rfl
@[simp] theorem State.port_raise (s : State) (p b n : Nat) : (s.raise p b).port n = s.port n := State.port_congr (by simp) n
@[simp] theorem State.port_rewind (s : State) (w n : Nat) : (s.rewind w).port n = s.port n := State.port_congr (Safety.PoolFrame.rewind s w).ports n
@[simp] theorem State.rd_setPort (s : State) (n : Nat) (p : Port_) (f : Fld) : (s.setPort n p).rd f = s.rd f := rfl

/-! ## Fields of a port's pages -/

theorem volatile_key_ne_ALERT_STAT {f : Fld} (h : f.ret = .V) : f.key ≠ F.SMP_ALERT_STAT.key := by
  simp only [Fld.key, h, F.SMP_ALERT_STAT, Ret.code]
  omega

/-- An interrupt changes no volatile field of another offset than INT_STAT's. -/
theorem State.rd_raise_volatile (s : State) (p b : Nat) {f : Fld} (hv : f.ret = .V) (hoff : f.lo < 32 ∧ f.off % 0x1000 ≠ 0x10) :
    (s.raise p b).rd f = s.rd f :=
  State.rd_raise_ne s p b f (INT_STAT_key_ne_off p f hoff) (volatile_key_ne_ALERT_STAT hv)

/-- Giving up a packet counts no aborted frame: each field it changes lies below the modem's pages in the store. -/
theorem State.rd_rewind_rxAbort (s : State) (w n : Nat) : (s.rewind w).rd (F.FY_RX_ABORT n) = s.rd (F.FY_RX_ABORT n) := by
  refine (Safety.PoolFrame.rewind s w).rd (fun f hf => Nat.ne_of_gt ?_)
  have hbelow : ∀ f ∈ F.CRU_REWIND :: Safety.freeFields ++ Safety.retireFields, f.key < (F.FY_RX_ABORT 0).key := by decide
  have hrise : (F.FY_RX_ABORT 0).key ≤ (F.FY_RX_ABORT n).key := by
    simp only [F.FY_RX_ABORT, Fld.key]
    omega
  exact Nat.lt_of_lt_of_le (hbelow f hf) hrise

/-! ## Headers (R144, R147, R164) -/

theorem nplHdrOf_mode_lt (h : BitVec 48) : (nplHdrOf h).mode < 8 := Nat.mod_lt _ (by decide)

/-- The port as a header that is kept leaves it: MODE stored, the medium reserved. -/
def State.hdrKept (s : State) (n : Nat) (x : NplHdr) : State :=
  (s.setPort n { s.port n with hdr := some x, reservedTo := s.raw + s.hdrResv n x }).wr (F.FY_LAST_MODE n) x.mode

theorem State.hdrKept_port (s : State) (n : Nat) (x : NplHdr) :
    (s.hdrKept n x).port n = { s.port n with hdr := some x, reservedTo := s.raw + s.hdrResv n x } := State.port_setPort_self _ _ _

/-- An acknowledgement's header ends the reception. -/
theorem State.hdrTake_ack (s : State) (n : Nat) {x : NplHdr} (h : x.ft = 1) :
    s.hdrTake n x = (s.setPort n { s.port n with rxStamp := none, hdr := none, reservedTo := s.raw + s.hdrResv n x }).wr (F.FY_LAST_MODE n) x.mode := by
  simp [State.hdrTake, h]

/-- Any other header is kept; a data frame's begins a packet where no frame is held and the port has room. -/
theorem State.hdrTake_other (s : State) (n : Nat) {x : NplHdr} (h : x.ft ≠ 1) :
    s.hdrTake n x = if x.ft = 0 ∧ (s.port n).held = [] ∧ (s.hdrKept n x).portRoom n = true then (s.hdrKept n x).packetStart n n else s.hdrKept n x := by
  simp only [State.hdrTake, if_neg h]
  change (if (decide (x.ft = 0) && ((s.hdrKept n x).port n).held.isEmpty && (s.hdrKept n x).portRoom n) = true then _ else s.hdrKept n x) = _
  simp only [State.hdrKept_port, Bool.and_eq_true, decide_eq_true_eq, List.isEmpty_iff, and_assoc]
  rfl

/-! ## Blanked symbols (R163) -/

/-- Noting blanked symbols counts them and shows the frame's own, beside the port's own figures, and may raise the alarm. -/
theorem State.noteBlanked_cases (s : State) (n k : Nat) : ∃ since count,
    let t := ((s.setPort n { s.port n with blankAt := since, blankN := count }).addSat (F.FY_IMP_BLANK n) k).wr (F.FY_LAST_BLANKED n) (min 255 k)
    s.noteBlanked n k = t ∨ s.noteBlanked n k = t.raise (Pg.FY n) 1 := by
  unfold State.noteBlanked
  extract_lets p fresh count s1 s2
  refine ⟨if fresh then s.raw else p.blankAt, count, ?_⟩
  by_cases halarm : (decide (0 < k) && decide (s.rd (F.FY_IMP_ALARM n) ≤ count)) = true
  · exact .inr (if_pos halarm)
  · exact .inl (if_neg halarm)

theorem State.noteBlanked_port (s : State) (n k : Nat) : ∃ since count, (s.noteBlanked n k).port n = { s.port n with blankAt := since, blankN := count } := by
  obtain ⟨since, count, h | h⟩ := s.noteBlanked_cases n k
  all_goals exact ⟨since, count, by simp [h]⟩

theorem State.noteBlanked_frame (s : State) (n k : Nat) :
    ∃ p, Safety.Frame (s.setPort n p) (s.noteBlanked n k) ([F.FY_IMP_BLANK n, F.FY_LAST_BLANKED n] ++ Safety.raised (Pg.FY n)) := by
  obtain ⟨since, count, h⟩ := s.noteBlanked_cases n k
  have hcounted : Safety.Frame _ _ ([F.FY_IMP_BLANK n, F.FY_LAST_BLANKED n] ++ Safety.raised (Pg.FY n)) :=
    .wr (F.FY_LAST_BLANKED n) (min 255 k) (by simp) (.addSat (F.FY_IMP_BLANK n) k (by simp)
      (.refl (s.setPort n { s.port n with blankAt := since, blankN := count }) _))
  rcases h with h | h
  · exact ⟨_, h ▸ hcounted⟩
  · exact ⟨_, h ▸ hcounted.raise _ 1 (by simp [Safety.raised]) (by simp [Safety.raised])⟩

theorem State.rd_noteBlanked_rxAbort (s : State) (n k : Nat) : (s.noteBlanked n k).rd (F.FY_RX_ABORT n) = s.rd (F.FY_RX_ABORT n) := by
  obtain ⟨p, -, hregs⟩ := s.noteBlanked_frame n k
  refine hregs _ (fun f hf => ?_)
  simp only [Safety.raised, List.cons_append, List.nil_append, List.mem_cons, List.not_mem_nil, or_false] at hf
  rcases hf with rfl | rfl | rfl | rfl
  · exact Fld.key_ne_off _ _ (by simp [F.FY_RX_ABORT]) (by simp [F.FY_IMP_BLANK]) (by simp [F.FY_RX_ABORT, F.FY_IMP_BLANK])
  · exact Fld.key_ne_off _ _ (by simp [F.FY_RX_ABORT]) (by simp [F.FY_LAST_BLANKED]) (by simp [F.FY_RX_ABORT, F.FY_LAST_BLANKED])
  · exact INT_STAT_key_ne_off _ _ (by simp [F.FY_RX_ABORT])
  · exact volatile_key_ne_ALERT_STAT rfl

theorem State.rd_noteBlanked_last (s : State) (n k : Nat) : (s.noteBlanked n k).rd (F.FY_LAST_BLANKED n) = min 255 k := by
  have hbound : min 255 k % (F.FY_LAST_BLANKED n).bound = min 255 k := Nat.mod_eq_of_lt (show min 255 k < 256 by omega)
  obtain ⟨since, count, h | h⟩ := s.noteBlanked_cases n k
  · rw [h, State.rd_wr_self, hbound]
  · rw [h, State.rd_raise_volatile _ _ _ rfl (by simp [F.FY_LAST_BLANKED]), State.rd_wr_self, hbound]

theorem State.rd_noteBlanked_count (s : State) (n k : Nat) :
    (s.noteBlanked n k).rd (F.FY_IMP_BLANK n) = min (s.rd (F.FY_IMP_BLANK n) + k) ((F.FY_IMP_BLANK n).bound - 1) := by
  have hne : (F.FY_IMP_BLANK n).key ≠ (F.FY_LAST_BLANKED n).key :=
    Fld.key_ne_off _ _ (by simp [F.FY_IMP_BLANK]) (by simp [F.FY_LAST_BLANKED]) (by simp [F.FY_IMP_BLANK, F.FY_LAST_BLANKED])
  obtain ⟨since, count, h | h⟩ := s.noteBlanked_cases n k
  · rw [h, State.rd_wr_ne _ _ _ _ hne, State.rd_addSat_self, State.rd_setPort]
  · rw [h, State.rd_raise_volatile _ _ _ rfl (by simp [F.FY_IMP_BLANK]), State.rd_wr_ne _ _ _ _ hne, State.rd_addSat_self, State.rd_setPort]

/-! ## Frames (R145, R164, R166) -/

/-- The port at the end of a frame whose header was kept: the reception is over, its blanked symbols noted. -/
def State.frameEnded (s : State) (n stamp k : Nat) : State :=
  (s.setPort n { s.port n with hdr := none, rxStamp := none, rxEnd := (stamp, s.raw), ovrSeen := false }).noteBlanked n k

theorem State.frameEnded_port (s : State) (n stamp k : Nat) : ∃ since count, (s.frameEnded n stamp k).port n =
    { s.port n with hdr := none, rxStamp := none, rxEnd := (stamp, s.raw), ovrSeen := false, blankAt := since, blankN := count } := by
  obtain ⟨since, count, h⟩ := State.noteBlanked_port (s.setPort n { s.port n with hdr := none, rxStamp := none, rxEnd := (stamp, s.raw), ovrSeen := false }) n k
  exact ⟨since, count, by rw [State.frameEnded, h, State.port_setPort_self]⟩

/-- Whether a frame is whole depends on the port's personality alone. -/
theorem State.frameEnded_plcFrameOk (s : State) (n stamp k : Nat) (f : List Byte) : (s.frameEnded n stamp k).plcFrameOk n f = s.plcFrameOk n f := by
  obtain ⟨since, count, h⟩ := s.frameEnded_port n stamp k
  simp only [State.plcFrameOk, h]

theorem State.commitHeld_none {s : State} {n : Nat} (h : (s.port n).held = []) (fuel : Nat) : s.commitHeld n (fuel + 1) = s := by
  simp [State.commitHeld, h]

theorem State.commitHeld_noRoom {s : State} {n : Nat} (h : s.portRoom n = false) (fuel : Nat) : s.commitHeld n (fuel + 1) = s := by
  rw [State.commitHeld]
  split <;> simp [h]

/-- With room the oldest held frame is committed first. -/
theorem State.commitHeld_room {s : State} {n : Nat} {r : RxFrame} (hr : (s.port n).held.head? = some r) (h : s.portRoom n = true) (fuel : Nat) :
    s.commitHeld n (fuel + 1) = ((s.setPort n { s.port n with held := (s.port n).held.tail }).takeFrame n r).commitHeld n fuel := by
  obtain ⟨rest, hheld⟩ := List.head?_eq_some_iff.1 hr
  simp [State.commitHeld, hheld, h]

theorem State.busyRearm_none {s : State} {n : Nat} (h : (s.port n).held = []) :
    s.busyRearm n = s.setPort n { s.port n with sun := { (s.port n).sun with busySent := false } } :=
  if_pos (List.isEmpty_iff.2 h)

theorem State.busyRearm_held {s : State} {n : Nat} (h : (s.port n).held ≠ []) : s.busyRearm n = s :=
  if_neg (fun hnone => h (List.isEmpty_iff.1 hnone))

end Sys2Proof.Machine

namespace Sys2Proof.Safety
open Sys2Proof.Machine

/-! ## What reception leads to -/

/-- A frame from a state that differs in the ports alone is one of every other part. -/
theorem Frame.but_ports {s t : State} {q : SMap Port_} {fs : List Fld} (hf : Frame { s with ports := q } t fs) : Frame s { t with ports := s.ports } fs := by
  obtain ⟨hbody, hregs⟩ := hf
  refine ⟨?_, hregs⟩
  simp only [SameBody] at hbody ⊢
  simp only [hbody, and_self]

theorem port_outcome (u : State) (l : List Instr) (n : Nat) : ({ u.alertPin with pending := l } : State).port n = u.port n :=
  State.port_congr (t := { u.alertPin with pending := l }) u.alertPin_ports n

theorem Frame.ports_eq {s t : State} {fs : List Fld} (hf : Frame s t fs) : t.ports = s.ports := by
  obtain ⟨hbody, -⟩ := hf
  simp only [SameBody] at hbody
  simp only [hbody]

/-- A command that sets a port and changes listed fields beside it leaves the port as it set it and no other part changed; fields read as its effect left them. -/
theorem after_setPort {c : Instr} {s u : State} {n : Nat} {p : Port_} {fs : List Fld} (hframe : Frame (s.setPort n p) u fs) (he : exec c s = s.done u) :
    After c s (fun t => t.port n = p ∧ Frame s { t with ports := s.ports } fs ∧ ∀ f, t.rd f = u.rd f) := by
  refine after_done he ⟨?_, Frame.but_ports (hframe.done _), rd_outcome u _⟩
  rw [port_outcome, State.port_congr hframe.ports_eq, State.port_setPort_self]

theorem exec_nplPreambleDetect {n : Port} {s : State} (hup : s.plcUp n.val = true) (htest : s.modemTested n.val = false) :
    exec (.nplPreambleDetect n) s = s.done ((s.setPort n.val { s.port n.val with
      rxStamp := some (s.raw - preambleTicks (s.fcc n.val) - s.latEff n.val / 4), hdr := none, ovrSeen := false }).wrap (F.FY_RX_PREAMBLE n.val)) :=
  congrArg s.done (if_pos (by rw [hup, htest]; rfl))

theorem exec_nplHeaderDecode {n : Port} {s : State} (hup : s.plcUp n.val = true) (hrx : (s.port n.val).rxStamp.isSome = true) (h : BitVec 48) :
    exec (.nplHeaderDecode n h) s = s.done (if s.hdrGood n.val h then s.hdrTake n.val (nplHdrOf h) else s.hdrDiscard n.val h) :=
  congrArg s.done (if_pos (by rw [hup, hrx]; rfl))

theorem exec_toneMapRx {n : Port} {s : State} (hup : s.plcUp n.val = true) (src : BitVec 16) (i : BitVec 4) (map : List Nat) :
    let l := s.linkMode n.val src.toNat
    exec (.toneMapRx n src i map) s = s.done (s.setLinkMode n.val src.toNat
      { l with mapIdx := i.toNat, map := map, mode := if l.ceiling = 5 ∧ map.any (fun b => b != 0) then 5 else l.mode }) := by
  change execToneMapRx n src i map s = _
  simp [execToneMapRx, hup]

/-- The end of a frame whose header was kept, by whether it is whole and whose it is. -/
theorem exec_nplFrameEnd {n : Port} {s : State} {x : NplHdr} {stamp : Nat} (hx : (s.port n.val).hdr = some x) (hstamp : (s.port n.val).rxStamp = some stamp)
    (ok : Bool) (frame : List Byte) (snr : Byte) (groups : List Byte) (blanked : Nat) :
    let k := s.blankedNow n.val blanked
    let u := s.frameEnded n.val stamp k
    exec (.nplFrameEnd n ok frame snr groups blanked) s = s.done (
      if (ok && s.plcFrameOk n.val frame) = true then
        if x.ft = 2 then u.wr (F.FY_LAST_SNR n.val) snr.toNat else (u.wr (F.FY_LAST_SNR n.val) snr.toNat).plcFrame n.val stamp x frame groups k
      else u.nplAbort n.val) := by
  intro k u
  change execNplFrameEnd n ok frame snr groups blanked s = _
  simp only [execNplFrameEnd, hx, hstamp]
  rw [← s.frameEnded_plcFrameOk n.val stamp k frame]
  rfl

theorem exec_heldFrameCommit (n : Port) (s : State) : exec (.heldFrameCommit n) s = s.done ((s.commitHeld n.val 4).busyRearm n.val) := rfl

/-- A header that is discarded is counted with FYn bit 2; with a right HCS it reserves the medium (R147, R164). -/
theorem after_hdrDiscard {c : Instr} {s : State} {n : Nat} {h : BitVec 48} (he : exec c s = s.done (s.hdrDiscard n h)) :
    After c s (fun t => Counted s t (F.FY_RX_HDR_ERR n) ∧ Interrupt t (Pg.FY n) 2 ∧
      t.port n = (if hcsOk h then { s.port n with rxStamp := none, hdr := none, reservedTo := s.raw + s.hdrResv n (nplHdrOf h) }
        else { s.port n with rxStamp := none, hdr := none, hcsBad := true }) ∧ Frame s { t with ports := s.ports } (F.FY_RX_HDR_ERR n :: raised (Pg.FY n))) := by
  have hframe := fun p => Frame.raise (Pg.FY n) 2 (by simp [raised]) (by simp [raised])
    (Frame.sat (F.FY_RX_HDR_ERR n) (by simp) (Frame.refl (s.setPort n p) (F.FY_RX_HDR_ERR n :: raised (Pg.FY n))))
  refine (after_setPort (hframe _) he).mono ?_
  rintro t ⟨hport, hrest, hrd⟩
  refine ⟨?_, ?_, hport, hrest⟩
  · rw [Counted, hrd, State.rd_raise_volatile _ _ _ rfl (by simp [F.FY_RX_HDR_ERR]), State.rd_sat_self, State.rd_setPort]
  · rw [Interrupt, hrd]
    exact State.raise_set _ _ _ (by decide)

/-- A good header stores its MODE beside what it makes of the port (R147, R167). -/
theorem after_lastMode {c : Instr} {s : State} {n : Nat} {p : Port_} {h : BitVec 48}
    (he : exec c s = s.done ((s.setPort n p).wr (F.FY_LAST_MODE n) (nplHdrOf h).mode)) :
    After c s (fun t => t.rd (F.FY_LAST_MODE n) = (nplHdrOf h).mode ∧ t.port n = p ∧ Frame s { t with ports := s.ports } [F.FY_LAST_MODE n]) := by
  refine (after_setPort (Frame.wr _ _ (by simp) (Frame.refl _ _)) he).mono (fun t ⟨hport, hrest, hrd⟩ => ⟨?_, hport, hrest⟩)
  rw [hrd, State.rd_wr_self]
  exact Nat.mod_eq_of_lt (nplHdrOf_mode_lt h)

/-- A whole beacon of another station ends in the figures of its reception (R163, R164, R167). -/
theorem after_beaconEnd {c : Instr} {s : State} {n stamp k : Nat} {snr : Byte}
    (he : exec c s = s.done ((s.frameEnded n stamp k).wr (F.FY_LAST_SNR n) snr.toNat)) :
    After c s (fun t => (t.port n).hdr = none ∧ (t.port n).rxStamp = none ∧ (t.port n).rxEnd = (stamp, s.raw) ∧
      t.rd (F.FY_LAST_SNR n) = snr.toNat ∧ t.rd (F.FY_LAST_BLANKED n) = min 255 k ∧
      t.rd (F.FY_IMP_BLANK n) = min (s.rd (F.FY_IMP_BLANK n) + k) ((F.FY_IMP_BLANK n).bound - 1) ∧
      Frame s { t with ports := s.ports } ([F.FY_IMP_BLANK n, F.FY_LAST_BLANKED n, F.FY_LAST_SNR n] ++ raised (Pg.FY n))) := by
  obtain ⟨since, count, hport⟩ := s.frameEnded_port n stamp k
  obtain ⟨p, hframe⟩ := State.noteBlanked_frame (s.setPort n { s.port n with hdr := none, rxStamp := none, rxEnd := (stamp, s.raw), ovrSeen := false }) n k
  refine after_done he ⟨?_, ?_, ?_, ?_, ?_, ?_, Frame.but_ports (Frame.done _ (Frame.wr _ _ (by simp) (hframe.mono ?_)))⟩
  · rw [port_outcome, State.port_wr, hport]
  · rw [port_outcome, State.port_wr, hport]
  · rw [port_outcome, State.port_wr, hport]
  · rw [rd_outcome, State.rd_wr_self]
    exact Nat.mod_eq_of_lt snr.isLt
  · have hne : (F.FY_LAST_BLANKED n).key ≠ (F.FY_LAST_SNR n).key :=
      Fld.key_ne_lo _ _ (by simp [F.FY_LAST_BLANKED]) (by simp [F.FY_LAST_SNR]) (by simp [F.FY_LAST_BLANKED, F.FY_LAST_SNR])
    rw [rd_outcome, State.rd_wr_ne _ _ _ _ hne]
    exact State.rd_noteBlanked_last _ n k
  · have hne : (F.FY_IMP_BLANK n).key ≠ (F.FY_LAST_SNR n).key :=
      Fld.key_ne_off _ _ (by simp [F.FY_IMP_BLANK]) (by simp [F.FY_LAST_SNR]) (by simp [F.FY_IMP_BLANK, F.FY_LAST_SNR])
    rw [rd_outcome, State.rd_wr_ne _ _ _ _ hne]
    exact State.rd_noteBlanked_count _ n k
  · simp +contextual

/-- A frame that fails decoding ends the reception and gives up its packet, counted with FYn bit 0 (R164, R220). -/
theorem after_nplAbort {c : Instr} {s : State} {n stamp k : Nat} (he : exec c s = s.done ((s.frameEnded n stamp k).nplAbort n)) :
    After c s (fun t => Counted s t (F.FY_RX_ABORT n) ∧ Interrupt t (Pg.FY n) 0 ∧ (t.port n).hdr = none ∧ (t.port n).rxStamp = none) := by
  obtain ⟨since, count, hport⟩ := s.frameEnded_port n stamp k
  have hended : (s.frameEnded n stamp k).rd (F.FY_RX_ABORT n) = s.rd (F.FY_RX_ABORT n) := State.rd_noteBlanked_rxAbort _ n k
  refine after_done he ⟨?_, ?_, ?_, ?_⟩
  · rw [Counted, rd_outcome, State.nplAbort, State.rd_raise_volatile _ _ _ rfl (by simp [F.FY_RX_ABORT]), State.rd_sat_self, State.rd_rewind_rxAbort, hended]
  · rw [Interrupt, rd_outcome]
    exact State.raise_set _ _ _ (by decide)
  · rw [port_outcome, State.nplAbort, State.port_raise, State.port_sat, State.port_rewind, hport]
  · rw [port_outcome, State.nplAbort, State.port_raise, State.port_sat, State.port_rewind, hport]

/-- A tone map that reaches its sender is kept in what the sender keeps of the link, and nothing else changes (R143, R154). -/
theorem after_setLinkMode {c : Instr} {s : State} {n a : Nat} {x : LinkMode} (he : exec c s = s.done (s.setLinkMode n a x)) :
    After c s (fun t => t.linkMode n a = x ∧ Frame s { t with ports := s.ports } []) := by
  refine (after_setPort (Frame.refl _ _) he).mono (fun t ⟨hport, hrest, _⟩ => ⟨?_, hrest⟩)
  simp [State.linkMode, hport, SMap.getD_set_self]

end Sys2Proof.Safety
end

section
open Sys2Proof Sys2Proof.Machine Sys2Proof.Safety

/-- Settles O23: each command comes to one branch of its meaning; that an aborted frame is counted once rests on the frame of the packet it gives up. -/
theorem plcReception : Obligations.PlcReception := by
  refine ⟨fun n s hup htest => ?_, fun n h s hup hrx => ?_, fun n ok frame snr groups blanked s x hx stamp hstamp => ?_,
    fun n src i map s hup => ?_, fun n s => ⟨fun hheld => ?_, fun r hr => ⟨fun hroom => ?_, fun hroom => ?_⟩⟩⟩
  · have hframe := fun p => Frame.wrap (F.FY_RX_PREAMBLE n.val) (by simp) (Frame.refl (s.setPort n.val p) [F.FY_RX_PREAMBLE n.val])
    exact (after_setPort (hframe _) (exec_nplPreambleDetect hup htest)).mono (fun t ⟨hport, hrest, hrd⟩ => ⟨hport, (hrd _).trans (State.rd_wrap_self _ _), hrest⟩)
  · have hexec := exec_nplHeaderDecode hup hrx h
    refine ⟨fun hbad => ?_, fun hgood hft => ?_, fun hgood hft => ?_⟩
    · rw [hbad, if_neg Bool.false_ne_true] at hexec
      exact after_hdrDiscard hexec
    · rw [hgood, if_pos rfl, State.hdrTake_ack _ _ hft] at hexec
      exact after_lastMode hexec
    · rw [hgood, if_pos rfl, State.hdrTake_other _ _ hft] at hexec
      refine ⟨fun hkeep => ?_, fun hdata hheld hroom => ?_⟩
      · have hnone : ¬ ((nplHdrOf h).ft = 0 ∧ (s.port n.val).held = [] ∧ (s.hdrKept n.val (nplHdrOf h)).portRoom n.val = true) := by
          rintro ⟨hdata, hheld, hroom⟩
          rcases hkeep with hne | hne | hfull
          · exact hne hdata
          · exact hne hheld
          · exact absurd (hfull.symm.trans hroom) Bool.false_ne_true
        rw [if_neg hnone] at hexec
        exact after_lastMode hexec
      · rw [if_pos ⟨hdata, hheld, hroom⟩] at hexec
        exact hexec
  · have hexec := exec_nplFrameEnd hx hstamp ok frame snr groups blanked
    refine ⟨fun hft hok => ?_, fun hbad => ?_, fun hft hok => ?_⟩
    · exact after_beaconEnd (hexec.trans (congrArg s.done ((if_pos hok).trans (if_pos hft))))
    · have habort := hexec.trans (congrArg s.done (if_neg (ne_true_of_eq_false hbad)))
      exact ⟨habort, after_nplAbort habort⟩
    · exact hexec.trans (congrArg s.done ((if_pos hok).trans (if_neg hft)))
  · refine (after_setLinkMode (exec_toneMapRx hup src i map)).mono (fun t ⟨hlink, hrest⟩ => ?_)
    rw [hlink]
    exact ⟨rfl, rfl, rfl, rfl, hrest⟩
  · have hexec := exec_heldFrameCommit n s
    rw [State.commitHeld_none hheld, State.busyRearm_none hheld] at hexec
    exact (after_setPort (Frame.refl _ []) hexec).mono (fun t ⟨hport, hrest, _⟩ => ⟨hport, hrest⟩)
  · have hexec := exec_heldFrameCommit n s
    rw [State.commitHeld_noRoom hroom, State.busyRearm_held (List.ne_nil_of_mem (List.mem_of_mem_head? hr))] at hexec
    exact after_unchanged hexec
  · rw [exec_heldFrameCommit, State.commitHeld_room hr hroom]

end

section
/-!
SUPPORT. What radio commands change (R174 to R190): the ports' own state beside the listed fields, and the radio MAC of one port within it.
-/
namespace Sys2Proof.Safety
open Sys2Proof.Machine

/-! ## Changes of the ports -/

/-- No more than the ports' own state and the listed register fields changed. -/
def PortsFrame (s t : State) (fs : List Fld) : Prop := Frame s { t with ports := s.ports } fs

theorem PortsFrame.refl (s : State) (fs : List Fld) : PortsFrame s s fs := Frame.refl s fs

theorem Frame.ports {s t : State} {fs : List Fld} (h : Frame s t fs) : PortsFrame s t fs := Frame.but_ports (q := s.ports) h

theorem PortsFrame.trans {s t u : State} {fs : List Fld} (h : PortsFrame s t fs) (h' : PortsFrame t u fs) : PortsFrame s u fs := by
  obtain ⟨hbody, hregs⟩ := h
  obtain ⟨hbody', hregs'⟩ := h'
  refine ⟨?_, fun g hg => (hregs' g hg).trans (hregs g hg)⟩
  simp only [SameBody, true_and] at hbody hbody' ⊢
  simp only [hbody, hbody', and_self]

theorem PortsFrame.mono {s t : State} {fs gs : List Fld} (hsub : ∀ f ∈ fs, f ∈ gs) (h : PortsFrame s t fs) : PortsFrame s t gs := Frame.mono hsub h

theorem PortsFrame.wr {s t : State} {fs : List Fld} (f : Fld) (v : Nat) (hf : f ∈ fs) (h : PortsFrame s t fs) : PortsFrame s (t.wr f v) fs :=
  Frame.wr f v hf h

theorem PortsFrame.sat {s t : State} {fs : List Fld} (f : Fld) (hf : f ∈ fs) (h : PortsFrame s t fs) : PortsFrame s (t.sat f) fs := h.wr f _ hf

theorem PortsFrame.raise {s t : State} {fs : List Fld} (p b : Nat) (hp : F.INT_STAT p ∈ fs) (hf : F.SMP_ALERT_STAT ∈ fs) (h : PortsFrame s t fs) :
    PortsFrame s (t.raise p b) fs := h.trans (Frame.raise p b hp hf (Frame.refl t fs)).ports

theorem PortsFrame.setPort {s t : State} {fs : List Fld} (n : Nat) (p : Port_) (h : PortsFrame s t fs) : PortsFrame s (t.setPort n p) fs := h

theorem PortsFrame.setSun {s t : State} {fs : List Fld} (n : Nat) (u : Sun) (h : PortsFrame s t fs) : PortsFrame s (t.setSun n u) fs := h

/-- A command whose effect keeps the frame leaves the ports and the fields as its effect left them. -/
theorem after_ports {c : Instr} {s u : State} {fs : List Fld} (n : Nat) (hframe : PortsFrame s u fs) (he : exec c s = s.done u) :
    After c s (fun t => t.port n = u.port n ∧ PortsFrame s t fs ∧ ∀ f, t.rd f = u.rd f) :=
  after_done he ⟨port_outcome u _ n, hframe.trans (Frame.done _ (Frame.refl u fs)).ports, rd_outcome u _⟩

/-! ## A packet released (R221) -/

theorem PoolFrame.releasePacket (s : State) (c : Nat) : PoolFrame s (s.releasePacket c) (freeFields ++ retireFields) :=
  (PoolFrame.freeCells s _).trans ((PoolFrame.cruSync _).mono (fun _ hf => List.mem_append_left _ hf))

end Sys2Proof.Safety

namespace Sys2Proof.Machine

/-! ## The radio MAC of a port -/

@[simp] theorem State.port_setSun_self (s : State) (n : Nat) (u : Sun) : (s.setSun n u).port n = { s.port n with sun := u } := State.port_setPort_self _ _ _
@[simp] theorem State.sun_setSun_self (s : State) (n : Nat) (u : Sun) : (s.setSun n u).sun n = u := congrArg Port_.sun (s.port_setSun_self n u)
@[simp] theorem State.rd_setSun (s : State) (n : Nat) (u : Sun) (f : Fld) : (s.setSun n u).rd f = s.rd f := rfl
@[simp] theorem State.sun_sat (s : State) (f : Fld) (n : Nat) : (s.sat f).sun n = s.sun n := rfl
@[simp] theorem State.sun_emit (s : State) (m : OutMsg) (n : Nat) : (s.emit m).sun n = s.sun n := rfl
@[simp] theorem State.sun_releasePacket (s : State) (c n : Nat) : (s.releasePacket c).sun n = s.sun n :=
  congrArg Port_.sun (State.port_congr (Safety.PoolFrame.releasePacket s c).ports n)

theorem State.sunUp_iff {s : State} {n : Nat} : s.sunUp n = true ↔ s.linkUp n = true ∧ (s.port n).pers = 2 := by
  simp [State.sunUp]

/-- Releasing a packet counts no failed transmission: each field it changes lies below the MAC's pages in the store. -/
theorem State.rd_releasePacket_txFail (s : State) (c n : Nat) : (s.releasePacket c).rd (F.FM_SUN_TX_FAIL n) = s.rd (F.FM_SUN_TX_FAIL n) := by
  refine (Safety.PoolFrame.releasePacket s c).rd (fun f hf => Nat.ne_of_gt ?_)
  have hbelow : ∀ f ∈ Safety.freeFields ++ Safety.retireFields, f.key < (F.FM_SUN_TX_FAIL 0).key := by decide
  have hrise : (F.FM_SUN_TX_FAIL 0).key ≤ (F.FM_SUN_TX_FAIL n).key := by
    simp only [F.FM_SUN_TX_FAIL, Fld.key]
    omega
  exact Nat.lt_of_lt_of_le (hbelow f hf) hrise

/-! ## A port that waits for nothing (R122, R179) -/

theorem State.dropCredit_noBurst {s : State} {n : Nat} (h : (s.port n).bursts = []) : s.dropCredit n = s := by
  simp [State.dropCredit, h]

theorem State.withdrawReq_noCredits {s : State} (h : s.credits = []) (n : Nat) : s.withdrawReq n = s := by
  simp [State.withdrawReq, h]

/-- Without credits the frame of the slot before is given up silently. -/
theorem State.sunGiveUp_idle {s : State} {n : Nat} (hbursts : (s.port n).bursts = []) (hcredits : s.credits = []) :
    s.sunGiveUp n = s.setSun n { s.sun n with lbt := none } := by
  simp [State.sunGiveUp, State.dropCredit_noBurst hbursts, hcredits]

/-! ## Slots (R175, R177, R179) -/

/-- A port at a slot's start, once a beacon slot has counted toward a pending map. -/
def State.slotCounted (s : State) (n : Nat) : State := if isBeaconSlot (s.sunEc n) then s.mapBeat n else s

/-- A port that has given up what waited from the slot before and is tuned to slot `e`. -/
def State.slotTuned (s : State) (n e : Nat) : State :=
  let g := s.sunGiveUp n
  (g.setSun n { g.sun n with evt := false }).tuneSlot n e (g.slotAt n)

/-- What a port does with slot `e`: once tuned, as member or as coordinator. -/
def State.slotRun (s : State) (n e : Nat) (busy : Bool) : State :=
  let u := s.slotTuned n e
  if (u.sun n).member then u.memberSlot n e busy else u.coordSlot n e busy

theorem State.slotRun_coordinator {s : State} {n e : Nat} (h : ((s.slotTuned n e).sun n).member = false) (busy : Bool) :
    s.slotRun n e busy = (s.slotTuned n e).coordSlot n e busy :=
  if_neg (ne_true_of_eq_false h)

theorem State.slotCounted_noBeacon {s : State} {n : Nat} (h : isBeaconSlot (s.sunEc n) = false) : s.slotCounted n = s :=
  if_neg (by simp [h])

theorem isBeaconSlot_of_shared {e : Nat} (h : e % 16 = 8) : isBeaconSlot e = false := by
  simp only [isBeaconSlot, beq_eq_false_iff_ne]
  omega

theorem State.coordSlot_shared (s : State) (n : Nat) {e : Nat} (h : e % 16 = 8) (busy : Bool) : s.coordSlot n e busy = s := by
  simp [State.coordSlot, isBeaconSlot_of_shared h, isSharedSlot, h]

theorem State.port_fslSend_self (s : State) (n type payload : Nat) :
    (s.fslSend n type payload).port n = { s.port n with msgs := (s.port n).msgs ++ [(type, payload)] } := State.port_setPort_self _ _ _

theorem State.tuneSlot_tuned {s : State} {n e : Nat} (h : (s.sun n).tuned = some e) (at_ : Nat) : s.tuneSlot n e at_ = s :=
  if_pos (by rw [Bool.or_eq_true, decide_eq_true_eq]; exact .inl h)

theorem State.tuneSlot_other {s : State} {n e : Nat} (h : (s.sun n).tuned ≠ some e) (hscan : s.scanning n = false) (at_ : Nat) :
    ∃ k, s.tuneSlot n e at_ = (s.setSun n { s.sun n with tuned := some e }).fslSend n 0x05 k :=
  ⟨_, if_neg (by rw [hscan, Bool.or_false, decide_eq_true_eq]; exact h)⟩

/-- A port that does not scan is tuned to the slot, with one TUNE sent unless it was so already. -/
theorem State.tuneSlot_port {s : State} {n : Nat} (hscan : s.scanning n = false) (e at_ : Nat) :
    Safety.PortsFrame s (s.tuneSlot n e at_) [] ∧ ((s.tuneSlot n e at_).port n).sun = { s.sun n with tuned := some e } ∧
      ((s.tuneSlot n e at_).port n).msgs.length = (s.port n).msgs.length + (if (s.sun n).tuned = some e then 0 else 1) := by
  by_cases htuned : (s.sun n).tuned = some e
  · rw [State.tuneSlot_tuned htuned, if_pos htuned, ← htuned]
    exact ⟨.refl s [], rfl, rfl⟩
  · obtain ⟨k, hk⟩ := State.tuneSlot_other htuned hscan at_
    rw [hk, if_neg htuned, State.port_fslSend_self, State.port_setSun_self]
    exact ⟨.setPort n _ (.setSun n _ (.refl s [])), rfl, List.length_append⟩

/-- A port that waits for no credit is tuned with nothing left of the slot before. -/
theorem State.slotTuned_idle {s : State} {n : Nat} (hbursts : (s.port n).bursts = []) (hcredits : s.credits = []) (e : Nat) :
    ∃ v at_, s.slotTuned n e = v.tuneSlot n e at_ ∧ Safety.PortsFrame s v [] ∧
      v.port n = { s.port n with sun := { s.sun n with lbt := none, evt := false } } := by
  refine ⟨_, _, rfl, ?_, ?_⟩
  · rw [State.sunGiveUp_idle hbursts hcredits]
    exact .setSun n _ (.setSun n _ (.refl s []))
  · rw [State.sunGiveUp_idle hbursts hcredits, State.port_setSun_self, State.port_setSun_self, State.sun_setSun_self]

/-- A coordinator's port that waits for no credit enters its slot tuned, with nothing left of the one before. -/
theorem State.slotTuned_port {s : State} {n : Nat} (hmember : (s.sun n).member = false) (hbursts : (s.port n).bursts = []) (hcredits : s.credits = [])
    (e : Nat) :
    Safety.PortsFrame s (s.slotTuned n e) [] ∧ ((s.slotTuned n e).port n).sun = { s.sun n with lbt := none, evt := false, tuned := some e } ∧
      ((s.slotTuned n e).port n).msgs.length = (s.port n).msgs.length + (if (s.sun n).tuned = some e then 0 else 1) := by
  obtain ⟨v, at_, hv, hcleared, hport⟩ := State.slotTuned_idle hbursts hcredits e
  have hsunv : v.sun n = { s.sun n with lbt := none, evt := false } := congrArg Port_.sun hport
  have hscan : v.scanning n = false := by
    rw [State.scanning, hport]
    simp only [hmember, Bool.false_and]
  obtain ⟨htuned, hsun, hmsgs⟩ := State.tuneSlot_port hscan e at_
  rw [hsunv] at hsun
  rw [hsunv, hport] at hmsgs
  rw [hv]
  exact ⟨hcleared.trans htuned, hsun, hmsgs⟩

/-! ## Listening (R177, R178) -/

theorem State.noteCca_eq (s : State) (n ch : Nat) (busy : Bool) : ∃ use, s.noteCca n ch busy = s.setSun n { s.sun n with ccaUse := use } := ⟨_, rfl⟩

theorem State.rd_noteCca (s : State) (n ch : Nat) (busy : Bool) (f : Fld) : (s.noteCca n ch busy).rd f = s.rd f := rfl

theorem State.sunListen_clear (s : State) (n : Nat) (x : SunLbt) :
    s.sunListen n x false = (if s.sunLt n = 0 then s else s.noteCca n x.ch false).sunGo n x := by
  unfold State.sunListen
  split <;> rfl

/-- A port that listened once more in vain: noted for the channel and counted. -/
def State.heardBusy (s : State) (n : Nat) (x : SunLbt) : State := (s.noteCca n x.ch true).sat (F.FY_SUN_CCA_BUSY n)

theorem State.sunListen_again {s : State} {n : Nat} {x : SunLbt} (hlt : s.sunLt n ≠ 0) (hcca : x.cca + 1 < s.rdIn (F.FY_SUN_MAX_CCA n) 1 16) :
    s.sunListen n x true = (s.heardBusy n x).setSun n
      { (s.heardBusy n x).sun n with lbt := some { x with cca := x.cca + 1, be := min (x.be + 1) (s.maxBe n) } } :=
  (if_neg hlt).trans (if_neg (Nat.not_le.2 hcca))

theorem State.sunListen_givesUp {s : State} {n : Nat} {x : SunLbt} (hlt : s.sunLt n ≠ 0) (hcca : s.rdIn (F.FY_SUN_MAX_CCA n) 1 16 ≤ x.cca + 1) :
    s.sunListen n x true = (((s.heardBusy n x).dropCredit n).withdrawReq n).ccaFail n :=
  (if_neg hlt).trans (if_pos hcca)

theorem State.heardBusy_frame (s : State) (n : Nat) (x : SunLbt) : Safety.PortsFrame s (s.heardBusy n x) [F.FY_SUN_CCA_BUSY n] :=
  .sat _ (by simp) (.setSun n _ (.refl s _))

theorem State.heardBusy_counted (s : State) (n : Nat) (x : SunLbt) : Safety.Counted s (s.heardBusy n x) (F.FY_SUN_CCA_BUSY n) := by
  rw [Safety.Counted, State.heardBusy, State.rd_sat_self, State.rd_noteCca]

theorem State.heardBusy_bursts (s : State) (n : Nat) (x : SunLbt) : ((s.heardBusy n x).port n).bursts = (s.port n).bursts := by
  obtain ⟨use, huse⟩ := s.noteCca_eq n x.ch true
  rw [State.heardBusy, State.port_sat, huse, State.port_setSun_self]

/-! ## Frames, acknowledgements and BUSY (R170, R184, R185, R188) -/

/-- A port that has received a frame to its end: its stamp, RSSI and channel stored. -/
def State.sunRxNoted (s : State) (n : Nat) (psdu : List Byte) (level : Byte) : State :=
  ((s.setPort n { s.port n with rxEnd := (s.sunStamp n psdu, s.raw) }).wr (F.FY_SUN_LAST_RSSI n) level.toNat).wr (F.FY_SUN_LAST_CH n)
    (if s.scanning n then s.beaconCh n (s.sun n).dwellCh else s.slotCh n (s.sunEc n))

theorem State.sunHeard_cases (s : State) (n a : Nat) : s.sunHeard n a = s ∨ ∃ u, s.sunHeard n a = s.setSun n u := by
  cases hconn : SMap.find? (s.sun n).conns a with
  | none => exact .inl (by simp only [State.sunHeard, hconn])
  | some c => exact .inr ⟨{ s.sun n with conns := SMap.set (s.sun n).conns a { c with lastRx := s.raw } }, by simp only [State.sunHeard, hconn]⟩

theorem State.sunHeard_frame (s : State) (n a : Nat) (fs : List Fld) : Safety.PortsFrame s (s.sunHeard n a) fs := by
  obtain h | ⟨u, h⟩ := s.sunHeard_cases n a
  · rw [h]
    exact .refl s fs
  · rw [h]
    exact .setSun n u (.refl s fs)

theorem State.rd_sunHeard (s : State) (n a : Nat) (f : Fld) : (s.sunHeard n a).rd f = s.rd f :=
  (s.sunHeard_frame n a []).2 f (by simp)

end Sys2Proof.Machine

namespace Sys2Proof.Safety
open Sys2Proof.Machine

/-! ## What radio commands lead to -/

theorem exec_sunSlotStart {n : Port} {s : State} (hpers : (s.port n.val).pers = 2) (hstate : s.rd (F.FP_FSL_STAT_STATE n.val) ≠ 0) (busy : Bool) :
    exec (.sunSlotStart n busy) s = s.done (if (s.slotCounted n.val).sunUp n.val then (s.slotCounted n.val).slotRun n.val (s.sunEc n.val) busy
      else s.slotCounted n.val) := by
  have hruns : ¬ (((s.port n.val).pers != 2 || decide (s.rd (F.FP_FSL_STAT_STATE n.val) = 0)) = true) := by simp [hpers, hstate]
  change execSunSlotStart n busy s = _
  rw [execSunSlotStart, if_neg hruns]
  by_cases hup : (s.slotCounted n.val).sunUp n.val = true
  · rw [if_pos hup]
    exact congrArg s.done (if_neg (by rw [Bool.not_eq_true']; exact ne_false_of_eq_true hup))
  · rw [if_neg hup]
    exact congrArg s.done (if_pos (by rw [Bool.not_eq_true']; exact eq_false_of_ne_true hup))

/-- A coordinator's shared slot ends what the last slot left, and tunes the port (R175, R179). -/
theorem after_sharedSlot {n : Port} {s : State} (hpers : (s.port n.val).pers = 2) (hstate : s.rd (F.FP_FSL_STAT_STATE n.val) ≠ 0)
    (hup : s.linkUp n.val = true) (hmember : (s.sun n.val).member = false) (hshared : s.sunEc n.val % 16 = 8)
    (hbursts : (s.port n.val).bursts = []) (hcredits : s.credits = []) (busy : Bool) :
    After (.sunSlotStart n busy) s (fun t => (t.sun n.val).lbt = none ∧ (t.sun n.val).evt = false ∧ (t.sun n.val).tuned = some (s.sunEc n.val) ∧
      (t.port n.val).msgs.length = (s.port n.val).msgs.length + (if (s.sun n.val).tuned = some (s.sunEc n.val) then 0 else 1) ∧
      Frame s { t with ports := s.ports } []) := by
  have hexec := exec_sunSlotStart hpers hstate busy
  obtain ⟨hframe, hsun, hmsgs⟩ := State.slotTuned_port hmember hbursts hcredits (s.sunEc n.val)
  have hcoord : ((s.slotTuned n.val (s.sunEc n.val)).sun n.val).member = false := (congrArg Sun.member hsun).trans hmember
  rw [State.slotCounted_noBeacon (isBeaconSlot_of_shared hshared), if_pos (State.sunUp_iff.2 ⟨hup, hpers⟩), State.slotRun_coordinator hcoord,
    State.coordSlot_shared _ _ hshared] at hexec
  refine (after_ports n.val hframe hexec).mono ?_
  rintro t ⟨hport, hrest, -⟩
  rw [← hport] at hsun hmsgs
  exact ⟨congrArg Sun.lbt hsun, congrArg Sun.evt hsun, congrArg Sun.tuned hsun, hmsgs, hrest⟩

theorem exec_lbtBackoffEnd {n : Port} {s : State} {x : SunLbt} (hx : (s.sun n.val).lbt = some x) (hup : s.sunUp n.val = true) (hclear : x.clear = false)
    (busy : Bool) : exec (.lbtBackoffEnd n busy) s = s.done (s.sunListen n.val x busy) := by
  change execLbtBackoffEnd n busy s = _
  simp [execLbtBackoffEnd, hx, hup, hclear]

/-- A listen in vain counts, and the station backs off again with a longer exponent (R178). -/
theorem after_backsOff {c : Instr} {s : State} {n : Nat} {x y : SunLbt}
    (he : exec c s = s.done ((s.heardBusy n x).setSun n { (s.heardBusy n x).sun n with lbt := some y })) :
    After c s (fun t => Counted s t (F.FY_SUN_CCA_BUSY n) ∧ (t.sun n).lbt = some y ∧ Frame s { t with ports := s.ports } [F.FY_SUN_CCA_BUSY n]) := by
  refine (after_ports n ((s.heardBusy_frame n x).setSun n _) he).mono ?_
  rintro t ⟨hport, hrest, hrd⟩
  refine ⟨?_, ?_, hrest⟩
  · rw [Counted, hrd, State.rd_setSun]
    exact s.heardBusy_counted n x
  · rw [State.sun, hport, State.port_setSun_self]

/-- A station that listened in vain for the last time gives up, counted with FYn bit 8 (R178). -/
theorem after_ccaFail {c : Instr} {s : State} {n : Nat} {x : SunLbt} (he : exec c s = s.done ((s.heardBusy n x).ccaFail n)) :
    After c s (fun t => Counted s t (F.FY_SUN_CCA_BUSY n) ∧ Counted s t (F.FY_SUN_CCA_FAIL n) ∧ (t.sun n).lbt = none ∧ Interrupt t (Pg.FY n) 8 ∧
      Frame s { t with ports := s.ports } ([F.FY_SUN_CCA_BUSY n, F.FY_SUN_CCA_FAIL n] ++ raised (Pg.FY n))) := by
  have hne : (F.FY_SUN_CCA_BUSY n).key ≠ (F.FY_SUN_CCA_FAIL n).key :=
    Fld.key_ne_off _ _ (by simp [F.FY_SUN_CCA_BUSY]) (by simp [F.FY_SUN_CCA_FAIL]) (by simp [F.FY_SUN_CCA_BUSY, F.FY_SUN_CCA_FAIL])
  have hbusy : PortsFrame s (s.heardBusy n x) ([F.FY_SUN_CCA_BUSY n, F.FY_SUN_CCA_FAIL n] ++ raised (Pg.FY n)) :=
    (s.heardBusy_frame n x).mono (by simp)
  refine (after_ports n (PortsFrame.raise (Pg.FY n) 8 (by simp [raised]) (by simp [raised])
    (.sat (F.FY_SUN_CCA_FAIL n) (by simp) (hbusy.setSun n { (s.heardBusy n x).sun n with lbt := none }))) he).mono ?_
  rintro t ⟨hport, hrest, hrd⟩
  refine ⟨?_, ?_, ?_, ?_, hrest⟩
  · rw [Counted, hrd, State.rd_raise_volatile _ _ _ rfl (by simp [F.FY_SUN_CCA_BUSY]), State.rd_sat_ne _ _ _ hne, State.rd_setSun]
    exact s.heardBusy_counted n x
  · rw [Counted, hrd, State.rd_raise_volatile _ _ _ rfl (by simp [F.FY_SUN_CCA_FAIL]), State.rd_sat_self, State.rd_setSun,
      State.heardBusy, State.rd_sat_ne _ _ _ hne.symm, State.rd_noteCca]
  · rw [State.sun, hport, State.port_raise, State.port_sat, State.port_setSun_self]
  · rw [Interrupt, hrd]
    exact State.raise_set _ _ _ (by decide)

theorem exec_sunFrameRx_badPhr {n : Port} {s : State} {psdu : List Byte} {phr : Bool} (hup : s.sunUp n.val = true) (htest : s.modemTested n.val = false)
    (hphr : phr = false ∨ 251 < psdu.length) (fcs : Bool) (level : Byte) :
    exec (.sunFrameRx n phr fcs psdu level) s = s.done (s.sat (F.FY_SUN_RX_PHR_ERR n.val)) := by
  have hheard : ¬ ((!s.sunUp n.val || s.modemTested n.val) = true) := by simp [hup, htest]
  have hbad : (!phr || decide (255 < psdu.length + 4)) = true := by
    rcases hphr with rfl | hlen
    · rfl
    · simp only [Bool.or_eq_true, decide_eq_true_eq]
      omega
  exact congrArg s.done ((if_neg hheard).trans (if_pos hbad))

theorem exec_sunFrameRx {n : Port} {s : State} {psdu : List Byte} (hup : s.sunUp n.val = true) (htest : s.modemTested n.val = false)
    (hlen : psdu.length ≤ 251) (fcs : Bool) (level : Byte) :
    exec (.sunFrameRx n true fcs psdu level) s = s.done (if fcs then (s.sunRxNoted n.val psdu level).sunFrame n.val psdu
      else (s.sunRxNoted n.val psdu level).countRewind.sat (F.FY_SUN_RX_ABORT n.val)) := by
  have hheard : ¬ ((!s.sunUp n.val || s.modemTested n.val) = true) := by simp [hup, htest]
  have hgood : ¬ ((!true || decide (255 < psdu.length + 4)) = true) := by
    simp only [Bool.not_true, Bool.false_or, decide_eq_true_eq]
    omega
  exact congrArg s.done ((if_neg hheard).trans (if_neg hgood))

/-- A frame with a bad FCS leaves RSSI and channel, and its packet counted as aborted and rewound (R170, R220). -/
theorem after_sunAbort {c : Instr} {s : State} {n : Nat} {psdu : List Byte} {level : Byte}
    (he : exec c s = s.done ((s.sunRxNoted n psdu level).countRewind.sat (F.FY_SUN_RX_ABORT n))) :
    After c s (fun t => t.rd (F.FY_SUN_LAST_RSSI n) = level.toNat ∧ Counted s t (F.FY_SUN_RX_ABORT n) ∧ Counted s t F.CRU_REWIND ∧
      Frame s { t with ports := s.ports } [F.FY_SUN_LAST_RSSI n, F.FY_SUN_LAST_CH n, F.FY_SUN_RX_ABORT n, F.CRU_REWIND]) := by
  have hne : ∀ f ∈ [F.FY_SUN_LAST_RSSI n, F.FY_SUN_LAST_CH n], f.key ≠ (F.FY_SUN_RX_ABORT n).key ∧ f.key ≠ F.CRU_REWIND.key := by
    intro f hf
    have hoff : f.lo < 32 ∧ f.off = 0x244 := by
      simp only [List.mem_cons, List.not_mem_nil, or_false] at hf
      rcases hf with rfl | rfl <;> simp [F.FY_SUN_LAST_RSSI, F.FY_SUN_LAST_CH]
    exact ⟨Fld.key_ne_off _ _ (by omega) (by simp [F.FY_SUN_RX_ABORT]) (by simp [hoff, F.FY_SUN_RX_ABORT]),
      Fld.key_ne_off _ _ (by omega) (by decide) (by simp [hoff, F.CRU_REWIND])⟩
  obtain ⟨hrssiAbort, hrssiRewind⟩ := hne _ (by simp : F.FY_SUN_LAST_RSSI n ∈ _)
  obtain ⟨hchAbort, hchRewind⟩ := hne _ (by simp : F.FY_SUN_LAST_CH n ∈ _)
  have habort : (F.FY_SUN_RX_ABORT n).key ≠ F.CRU_REWIND.key :=
    Fld.key_ne_off _ _ (by simp [F.FY_SUN_RX_ABORT]) (by decide) (by simp [F.FY_SUN_RX_ABORT, F.CRU_REWIND])
  have hch : (F.FY_SUN_LAST_RSSI n).key ≠ (F.FY_SUN_LAST_CH n).key :=
    Fld.key_ne_lo _ _ (by simp [F.FY_SUN_LAST_RSSI]) (by simp [F.FY_SUN_LAST_CH]) (by simp [F.FY_SUN_LAST_RSSI, F.FY_SUN_LAST_CH])
  have hnoted : PortsFrame s (s.sunRxNoted n psdu level) [F.FY_SUN_LAST_RSSI n, F.FY_SUN_LAST_CH n, F.FY_SUN_RX_ABORT n, F.CRU_REWIND] :=
    .wr _ _ (by simp) (.wr _ _ (by simp) (.setPort n _ (.refl s _)))
  refine (after_ports n (PortsFrame.sat _ (by simp) (PortsFrame.sat F.CRU_REWIND (by simp) hnoted)) he).mono ?_
  rintro t ⟨-, hrest, hrd⟩
  refine ⟨?_, ?_, ?_, hrest⟩
  · rw [hrd, State.rd_sat_ne _ _ _ hrssiAbort, State.rd_sat_ne _ _ _ hrssiRewind, State.sunRxNoted, State.rd_wr_ne _ _ _ _ hch,
      State.rd_wr_self]
    exact Nat.mod_eq_of_lt level.isLt
  · rw [Counted, hrd, State.rd_sat_self, State.rd_sat_ne _ _ _ habort, State.sunRxNoted, State.rd_wr_ne _ _ _ _ hchAbort.symm,
      State.rd_wr_ne _ _ _ _ hrssiAbort.symm, State.rd_setPort]
  · rw [Counted, hrd, State.rd_sat_ne _ _ _ habort.symm, State.rd_sat_self, State.sunRxNoted, State.rd_wr_ne _ _ _ _ hchRewind.symm,
      State.rd_wr_ne _ _ _ _ hrssiRewind.symm, State.rd_setPort]

section
variable {n : Port} {s : State} {x : SunTx}

theorem exec_sunAckRx_own {seq : Word} (hx : (s.sun n.val).tx = some x) (hwait : x.waitAck = true) (hseq : x.seq = seq.toNat) :
    let u := s.sunHeard n.val x.dst
    exec (.sunAckRx n seq) s = s.done ((u.setSun n.val { u.sun n.val with tx := none }).releasePacket x.cell) := by
  change execSunAckRx n seq s = _
  simp [execSunAckRx, hx, hwait, hseq]

theorem exec_sunAckRx_other {seq : Word} (hx : (s.sun n.val).tx = some x) (hseq : x.seq ≠ seq.toNat) : exec (.sunAckRx n seq) s = s.done s := by
  change execSunAckRx n seq s = _
  simp [execSunAckRx, hx, hseq]

theorem exec_sunAckMissing_again (hx : (s.sun n.val).tx = some x) (hwait : x.waitAck = true) (hleft : x.retries < min 7 (s.rd (F.FM_SUN_RETRY n.val))) :
    exec (.sunAckMissing n) s = s.done (s.setSun n.val { s.sun n.val with tx := some { x with waitAck := false, retries := x.retries + 1 } }) := by
  change execSunAckMissing n s = _
  simp only [execSunAckMissing, hx, hwait, Bool.not_true, Bool.false_eq_true, if_false, if_neg (Nat.not_le.2 hleft)]

theorem exec_sunAckMissing_last (hx : (s.sun n.val).tx = some x) (hwait : x.waitAck = true) (hleft : min 7 (s.rd (F.FM_SUN_RETRY n.val)) ≤ x.retries) :
    exec (.sunAckMissing n) s = s.done ((((s.setSun n.val { s.sun n.val with tx := none }).releasePacket x.cell).emit (.txFailed n.val)).sat
      (F.FM_SUN_TX_FAIL n.val)) := by
  change execSunAckMissing n s = _
  simp only [execSunAckMissing, State.sunFail, hx, hwait, Bool.not_true, Bool.false_eq_true, if_false, if_pos hleft]

end

/-- A transmission that ends releases its packet (R184). -/
theorem after_sunDelivered {c : Instr} {s u : State} {n cell : Nat}
    (he : exec c s = s.done ((u.setSun n { u.sun n with tx := none }).releasePacket cell)) : After c s (fun t => (t.sun n).tx = none) := by
  refine after_done he ?_
  rw [State.sun, port_outcome, ← State.sun, State.sun_releasePacket, State.sun_setSun_self]

/-- A transmission that fails tells the source, and counts (R184). -/
theorem after_sunFailed {c : Instr} {s : State} {n cell : Nat}
    (he : exec c s = s.done ((((s.setSun n { s.sun n with tx := none }).releasePacket cell).emit (.txFailed n)).sat (F.FM_SUN_TX_FAIL n))) :
    After c s (fun t => (t.sun n).tx = none ∧ Sent t (.txFailed n) ∧ Counted s t (F.FM_SUN_TX_FAIL n)) := by
  refine after_done he ⟨?_, State.mem_alertPin_out _ _ List.mem_cons_self, ?_⟩
  · rw [State.sun, port_outcome, ← State.sun, State.sun_sat, State.sun_emit, State.sun_releasePacket, State.sun_setSun_self]
  · rw [Counted, rd_outcome, State.rd_sat_self]
    exact congrArg (fun k => min (k + 1) ((F.FM_SUN_TX_FAIL n).bound - 1)) (State.rd_releasePacket_txFail (s.setSun n { s.sun n with tx := none }) cell n)

/-- A command that sets the radio MAC of a port changes nothing else. -/
theorem after_setSun {c : Instr} {s : State} {n : Nat} {u : Sun} (he : exec c s = s.done (s.setSun n u)) :
    After c s (fun t => t.sun n = u ∧ Frame s { t with ports := s.ports } []) :=
  (after_ports n (.setSun n u (.refl s [])) he).mono (fun _ ⟨hport, hrest, _⟩ =>
    ⟨(congrArg Port_.sun hport).trans (s.sun_setSun_self n u), hrest⟩)

/-- BUSY keeps the frame with its back-off, counted by a member (R188). -/
theorem after_busyRx {n : Port} {s : State} {x : SunTx} {seq : Word} (hx : (s.sun n.val).tx = some x) (hwait : x.waitAck = true)
    (hseq : x.seq = seq.toNat) (backoff : BitVec 4) :
    After (.busyRx n seq backoff) s (fun t =>
      t.sun n.val = { (s.sunHeard n.val x.dst).sun n.val with tx := some { x with waitAck := false, wait := backoff.toNat } } ∧
      ((s.sun n.val).member = true → Counted s t (F.FM_SUN_BUSY_RCVD n.val)) ∧
      Frame s { t with ports := s.ports } (if (s.sun n.val).member then [F.FM_SUN_BUSY_RCVD n.val] else [])) := by
  let v := (s.sunHeard n.val x.dst).setSun n.val { (s.sunHeard n.val x.dst).sun n.val with tx := some { x with waitAck := false, wait := backoff.toNat } }
  have hexec : exec (.busyRx n seq backoff) s = s.done (if (s.sun n.val).member then v.sat (F.FM_SUN_BUSY_RCVD n.val) else v) := by
    change execBusyRx n seq backoff s = _
    simp [execBusyRx, hx, hwait, hseq, v]
  have hframe := fun fs => PortsFrame.setSun n.val { (s.sunHeard n.val x.dst).sun n.val with tx := some { x with waitAck := false, wait := backoff.toNat } }
    (s.sunHeard_frame n.val x.dst fs)
  cases hmember : (s.sun n.val).member with
  | true =>
    rw [hmember, if_pos rfl] at hexec
    refine (after_ports n.val ((hframe [F.FM_SUN_BUSY_RCVD n.val]).sat (F.FM_SUN_BUSY_RCVD n.val) List.mem_cons_self) hexec).mono ?_
    rintro t ⟨hport, hrest, hrd⟩
    refine ⟨(congrArg Port_.sun hport).trans (State.sun_setSun_self _ _ _), fun _ => ?_, hrest⟩
    rw [Counted, hrd, State.rd_sat_self]
    exact congrArg (fun k => min (k + 1) ((F.FM_SUN_BUSY_RCVD n.val).bound - 1)) (s.rd_sunHeard n.val x.dst _)
  | false =>
    rw [hmember, if_neg Bool.false_ne_true] at hexec
    exact (after_ports n.val (hframe _) hexec).mono (fun _ ⟨hport, hrest, _⟩ =>
      ⟨(congrArg Port_.sun hport).trans (State.sun_setSun_self _ _ _), fun h => absurd h Bool.false_ne_true, hrest⟩)

end Sys2Proof.Safety
end

section
open Sys2Proof Sys2Proof.Machine Sys2Proof.Safety

/-- Settles O26: each command comes to one branch of its meaning; that a failed transmission is counted once rests on the frame of the packet it releases. -/
theorem sunSlotsAndReception : Obligations.SunSlotsAndReception := by
  refine ⟨fun n busy s hpers hstate => ⟨exec_sunSlotStart hpers hstate busy, fun hdown hbeacon => ?_, fun hup hmember hshared hbursts hcredits => ?_⟩,
    fun n s x hx hup hclear => ⟨fun hlt hcca => ?_, fun hlt hcca hcredits hbursts => ?_, ?_⟩,
    fun n fcs psdu level s hup htest => ⟨?_, fun hlong => ?_, fun hlen => ?_, fun hlen => ?_⟩,
    fun n seq s x hx hwait => ⟨fun hseq => ⟨?_, ?_⟩, fun hseq => ?_, fun hleft => ?_, fun hlast => ⟨?_, ?_⟩, fun backoff hseq => ?_⟩⟩
  · have hexec := exec_sunSlotStart hpers hstate busy
    have hsun : ¬ (s.sunUp n.val = true) := fun h => absurd (hdown.symm.trans (State.sunUp_iff.1 h).1) Bool.false_ne_true
    rw [State.slotCounted_noBeacon hbeacon, if_neg hsun] at hexec
    exact after_unchanged hexec
  · exact after_sharedSlot hpers hstate hup hmember hshared hbursts hcredits busy
  · exact after_backsOff ((exec_lbtBackoffEnd hx hup hclear true).trans (congrArg s.done (State.sunListen_again hlt hcca)))
  · have hexec := exec_lbtBackoffEnd hx hup hclear true
    rw [State.sunListen_givesUp hlt hcca, State.dropCredit_noBurst ((s.heardBusy_bursts n.val x).trans hbursts),
      State.withdrawReq_noCredits (s := s.heardBusy n.val x) hcredits] at hexec
    exact after_ccaFail hexec
  · rw [exec_lbtBackoffEnd hx hup hclear false, State.sunListen_clear]
  · exact after_sat (exec_sunFrameRx_badPhr hup htest (.inl rfl) fcs level)
  · exact after_sat (exec_sunFrameRx_badPhr hup htest (.inr hlong) fcs level)
  · exact after_sunAbort (exec_sunFrameRx hup htest hlen false level)
  · exact exec_sunFrameRx hup htest hlen true level
  · exact exec_sunAckRx_own hx hwait hseq
  · exact after_sunDelivered (exec_sunAckRx_own hx hwait hseq)
  · exact after_unchanged (exec_sunAckRx_other hx hseq)
  · exact after_setSun (exec_sunAckMissing_again hx hwait hleft)
  · exact exec_sunAckMissing_last hx hwait hlast
  · exact after_sunFailed (exec_sunAckMissing_last hx hwait hlast)
  · exact after_busyRx hx hwait hseq backoff

end

section
/-!
SUPPORT. What Planish's own operations change (R243, R249, R252, R254, R255): its state, the fields that follow from DFREE, and the Ethernet ports it pauses.
-/
namespace Sys2Proof.Machine

/-! ## Pops (R221, R243) -/

theorem State.queueXoff_eq (s : State) (q : Nat) : ∃ c, s.queueXoff q = { s with cru := c } := by
  simp only [State.queueXoff, State.setQueue]
  split
  · exact ⟨_, rfl⟩
  · split
    · exact ⟨_, rfl⟩
    · split <;> exact ⟨_, rfl⟩

/-- Taking a queue's head packet changes the Crucible alone. -/
theorem State.popQueue_eq {s : State} {q : Nat} {r : Nat × State} (h : s.popQueue q = some r) :
    r.1 = (s.queue q).head ∧ ∃ c, r.2 = { s with cru := c } := by
  simp only [State.popQueue] at h
  split at h
  · cases h
  · cases h
    exact ⟨rfl, State.queueXoff_eq _ q⟩

/-- The descriptors that the chain of a queue's packet takes (R244, R245). -/
def State.popNeed (s : State) (q : Nat) : Nat := if q < 64 then s.fieldResv else 2

section
variable {s : State} {q : Nat}

theorem State.popPacket_held (h : s.popNext ≠ some q ∨ s.dfree < (s.popNeed q : Int)) : s.popPacket q = s :=
  if_pos (by simpa [State.popNeed] using h)

theorem State.popPacket_waits (hnext : s.popNext = some q) (hneed : (s.popNeed q : Int) ≤ s.dfree)
    (hroom : s.flowRoom (s.headFlow q).1 (s.headFlow q).2 = false) (hnew : s.pln.flowWait.contains q = false) :
    s.popPacket q = ({ s with pln := { s.pln with flowWait := q :: s.pln.flowWait } } : State).flowWaits := by
  have hfree : ¬ ((s.popNext != some q || decide (s.dfree < (s.popNeed q : Int))) = true) := by simp [hnext, hneed]
  exact (if_neg hfree).trans ((if_pos (by simp [hroom])).trans (if_neg (by simp only [hnew, Bool.false_eq_true, not_false_eq_true])))

theorem State.popPacket_pops {r : Nat × State} (hr : s.popQueue q = some r) (hnext : s.popNext = some q) (hneed : (s.popNeed q : Int) ≤ s.dfree)
    (hroom : s.flowRoom (s.headFlow q).1 (s.headFlow q).2 = true) :
    let w : State := { r.2 with pln := { s.pln with rrQueue := q + 1, flowWait := s.pln.flowWait.filter (fun x => x != q) } }
    s.popPacket q = (if q < 64 then w.buildField q r.1 else w.buildCode q r.1).plnSync := by
  have hfree : ¬ ((s.popNext != some q || decide (s.dfree < (s.popNeed q : Int))) = true) := by simp [hnext, hneed]
  obtain ⟨-, c, hcru⟩ := State.popQueue_eq hr
  refine (if_neg hfree).trans ((if_neg (by simp [hroom])).trans ?_)
  simp only [hr, hcru]

end

/-! ## A wait for a flow cache entry (R249, R258) -/

theorem State.rd_flowWaits (s : State) : s.flowWaits.rd F.PLN_FLOW_WAIT = min (s.rd F.PLN_FLOW_WAIT + 1) (F.PLN_FLOW_WAIT.bound - 1) := by
  have hcount := ({ s with pln := { s.pln with flowFull := true } } : State).rd_sat_self F.PLN_FLOW_WAIT
  simp only [State.flowWaits]
  split
  · exact hcount
  · exact (State.rd_raise_ne _ _ _ _ (by decide) (by decide)).trans hcount

/-! ## What follows from DFREE (R251, R252, R258) -/

theorem State.plnSync_noSpill {s : State} (h : s.pln.spill = []) : s.plnSync = s.plnLevels := by
  simp [State.plnSync, h, State.unspill]

/-- Pausing the Ethernet ports leaves the pool alone. -/
theorem State.ethPause_pool (s : State) : s.ethPause.cru = s.cru ∧ s.ethPause.retired = s.retired := by
  refine List.foldlRecOn _ _ (motive := fun t : State => t.cru = s.cru ∧ t.retired = s.retired) ⟨rfl, rfl⟩ (fun t ht p _ => ?_)
  dsimp only
  split
  · exact ht
  · split
    · split <;> exact ht
    · exact ht

end Sys2Proof.Machine

namespace Sys2Proof.Safety
open Sys2Proof.Machine

theorem Frame.trans {s t u : State} {fs : List Fld} (h : Frame s t fs) (h' : Frame t u fs) : Frame s u fs := by
  obtain ⟨hbody, hregs⟩ := h
  obtain ⟨hbody', hregs'⟩ := h'
  refine ⟨?_, fun g hg => (hregs' g hg).trans (hregs g hg)⟩
  simp only [SameBody] at hbody hbody' ⊢
  simp only [hbody, hbody', and_self]

/-- A frame from a state that differs in Planish's part alone is one of every other part. -/
theorem Frame.but_pln {s t : State} {p : Pln} {fs : List Fld} (hf : Frame { s with pln := p } t fs) : Frame s { t with pln := s.pln } fs := by
  obtain ⟨hbody, hregs⟩ := hf
  refine ⟨?_, hregs⟩
  simp only [SameBody] at hbody ⊢
  simp only [hbody, and_self]

theorem Frame.pln_eq {s t : State} {fs : List Fld} (hf : Frame s t fs) : t.pln = s.pln := by
  obtain ⟨hbody, -⟩ := hf
  simp only [SameBody] at hbody
  simp only [hbody]

theorem Frame.chn_eq {s t : State} {fs : List Fld} (hf : Frame s t fs) : t.chn = s.chn := by
  obtain ⟨hbody, -⟩ := hf
  simp only [SameBody] at hbody
  simp only [hbody]

/-- A command that sets Planish's part and changes listed fields beside it leaves that part as it set it and no other part changed; fields read, and
messages stand, as its effect left them. -/
theorem after_setPln {c : Instr} {s u : State} {p : Pln} {fs : List Fld} (hframe : Frame { s with pln := p } u fs) (he : exec c s = s.done u) :
    After c s (fun t => t.pln = p ∧ Frame s { t with pln := s.pln } fs ∧ (∀ f, t.rd f = u.rd f) ∧ ∀ m ∈ u.out, m ∈ t.out) :=
  after_done he ⟨(State.alertPin_pln u).trans hframe.pln_eq, Frame.but_pln (hframe.done _), rd_outcome u _, u.mem_alertPin_out⟩

/-- A wait for a flow cache entry marks the cache full and is counted (R249). -/
theorem after_flowWaits {c : Instr} {s : State} {p : Pln} (he : exec c s = s.done ({ s with pln := p } : State).flowWaits) :
    After c s (fun t => t.pln = { p with flowFull := true } ∧ Counted s t F.PLN_FLOW_WAIT ∧
      Frame s { t with pln := s.pln } (F.PLN_FLOW_WAIT :: raised Pg.PLN)) := by
  have hcount : Frame { s with pln := { p with flowFull := true } } (({ s with pln := { p with flowFull := true } } : State).sat F.PLN_FLOW_WAIT)
      (F.PLN_FLOW_WAIT :: raised Pg.PLN) := .sat _ (by simp) (.refl _ _)
  refine (after_setPln (.ite hcount (.raise _ 5 (by simp [raised]) (by simp [raised]) hcount)) he).mono ?_
  rintro t ⟨hpln, hrest, hrd, -⟩
  exact ⟨hpln, (hrd _).trans (State.rd_flowWaits _), hrest⟩

/-! ## What follows from DFREE -/

/-- Pausing the Ethernet ports changes which are paused, and counts the frames sent (R253, R414). -/
theorem Frame.ethPause (s : State) :
    Frame s { s.ethPause with chn := { s.ethPause.chn with pausing := s.chn.pausing } } [F.ETH_PAUSE_TX 0, F.ETH_PAUSE_TX 1] := by
  obtain ⟨hcru, hretired⟩ := s.ethPause_pool
  obtain ⟨hbody, hregs⟩ := PoolFrame.ethPause s
  refine ⟨?_, hregs⟩
  simp only [SameBody] at hbody ⊢
  simp only [hbody, hcru, hretired, and_self]

/-- The levels are registers and interrupts, then the flow cache's mark, then the Ethernet ports. -/
theorem plnLevels_eq (s : State) : ∃ u b, Frame s u plnFields ∧ s.plnLevels = ({ u with pln := { u.pln with flowFull := b } } : State).ethPause := by
  have hint : F.INT_STAT Pg.PLN ∈ plnFields := by simp [plnFields, raised]
  have halert : F.SMP_ALERT_STAT ∈ plnFields := by simp [plnFields, raised]
  unfold State.plnLevels
  extract_lets low s1 s2 was b s3 s4 s5
  have h1 : Frame s s1 plnFields := .wr _ _ (by simp [plnFields]) (.wr _ _ (by simp [plnFields]) (.wr _ _ (by simp [plnFields]) (.refl s _)))
  have h2 : Frame s s2 plnFields := .ite (.wr _ _ (by simp [plnFields]) h1) h1
  have h3 : Frame s s3 plnFields := .wr _ _ (by simp [plnFields]) (.wr _ _ (by simp [plnFields]) h2)
  have h4 : Frame s s4 plnFields := .ite (h3.raise _ 0 hint halert) h3
  have h5 : Frame s s5 plnFields := .ite (h4.raise _ 1 hint halert) h4
  exact ⟨s5, _, h5, rfl⟩

/-- The levels change Planish's mark of the flow cache, the Ethernet ports paused, and the fields that follow from DFREE. -/
theorem Frame.plnLevels (s : State) :
    Frame s { s.plnLevels with pln := s.pln, chn := { s.plnLevels.chn with pausing := s.chn.pausing } } plnFields := by
  obtain ⟨u, b, hu, heq⟩ := plnLevels_eq s
  have hpause := (Frame.ethPause { u with pln := { u.pln with flowFull := b } }).but_pln.mono (gs := plnFields) (by simp [plnFields])
  rw [← heq, hu.chn_eq, hu.pln_eq] at hpause
  exact hu.trans hpause

theorem plnLevels_descs (s : State) : s.plnLevels.pln.descs = s.pln.descs := by
  obtain ⟨u, b, hu, heq⟩ := plnLevels_eq s
  have hpause := (Frame.ethPause { u with pln := { u.pln with flowFull := b } }).pln_eq
  rw [← heq] at hpause
  rw [show s.plnLevels.pln = _ from hpause, hu.pln_eq]

end Sys2Proof.Safety
end

section
/-!
SUPPORT. Host submission (R254): when the next entry is not fetched, the completion of an entry that is turned away, and the descriptor of one that is taken.
-/
namespace Sys2Proof.Machine

/-- Nothing is fetched from a submission queue: it has no ring or no new entry, the host's class is held back, its completion queue is full, or no
descriptor is free (R252, R254). -/
def State.sqStuck (s : State) (k : Nat) : Bool :=
  s.ringSize k == 0 || s.rd (F.PLN_SQ_HEAD k) % s.ringSize k == s.rd (F.PLN_SQ_TAIL k) % s.ringSize k || s.classBp 3 || s.cqIsFull k || decide (s.dfree < 1)

/-- SQk_HEAD past the next entry. -/
def State.sqNext (s : State) (k : Nat) : Nat := (s.rd (F.PLN_SQ_HEAD k) + 1) % s.ringSize k

/-- An entry that is turned away: SQk_HEAD moves past it, and its completion carries a status (R254). -/
def State.sqReply (s : State) (k : Nat) (entry : List Byte) (status : Nat) : State :=
  (s.wr (F.PLN_SQ_HEAD k) (s.sqNext k)).cqWrite k (field entry 8 8) (s.sqNext k) status 0

/-- The descriptor of an entry that is taken: it waits for nothing, and carries its TAG, its queue and the head that its completion reports (R254). -/
def State.sqDesc (s : State) (k : Nat) (entry : List Byte) : Desc :=
  { s.descOfImage entry with count := 0, succ := [], fans := [], stamp := field entry 8 8, host := some (k, s.sqNext k) }

/-- Planish's part once a READY descriptor stands in the lowest free index (R242, R255). -/
def Pln.withReady (p : Pln) (d : Desc) : Pln :=
  { p with descs := SMap.set p.descs (firstGap p.descs 0) { d.markLate p.lastDrain with st := .ready, order := p.order }, order := p.order + 1 }

theorem State.newDesc_ready {s : State} {d : Desc} (hgap : firstGap s.pln.descs 0 < 16384) (hcount : d.count = 0) :
    s.newDesc d = some (firstGap s.pln.descs 0, ({ s with pln := s.pln.withReady d } : State).wrap F.PLN_CREATED) := by
  simp only [State.newDesc, hcount, if_pos, if_neg (Nat.not_le.2 hgap), Pln.withReady]

section
variable {s : State} {k : Nat} {entry : List Byte}

theorem State.ringSize_pos (h : s.sqStuck k = false) : 0 < s.ringSize k := by
  simp only [State.sqStuck, Bool.or_eq_false_iff, beq_eq_false_iff_ne] at h
  obtain ⟨⟨⟨⟨hring, -⟩, -⟩, -⟩, -⟩ := h
  exact Nat.pos_of_ne_zero hring

theorem State.ringSize_le (s : State) (k : Nat) : s.ringSize k ≤ 2 ^ 12 := by
  simp only [State.ringSize]
  split
  · exact Nat.zero_le _
  · exact Nat.pow_le_pow_right (by decide) (Nat.min_le_right _ _)

/-- The head fits its register. -/
theorem State.sqNext_mod_bound (h : s.sqStuck k = false) : s.sqNext k % (F.PLN_SQ_HEAD k).bound = s.sqNext k :=
  Nat.mod_eq_of_lt (Nat.lt_of_lt_of_le (Nat.mod_lt _ (State.ringSize_pos h)) (s.ringSize_le k))

theorem State.ringSize_wr_head (s : State) (k v : Nat) : (s.wr (F.PLN_SQ_HEAD k) v).ringSize k = s.ringSize k := by
  have hkey : (F.PLN_SQ_SIZE k).key ≠ (F.PLN_SQ_HEAD k).key := by
    simp only [F.PLN_SQ_SIZE, F.PLN_SQ_HEAD, Fld.key]
    omega
  simp only [State.ringSize, State.rdIn, State.rd_wr_ne _ _ _ _ hkey]

theorem State.sqFetch_stuck (h : s.sqStuck k = true) : s.sqFetch k entry = s := if_pos h

theorem State.sqFetch_badKind (h : s.sqStuck k = false) (hkind : hostKind (s.descOfImage entry).kind = false) :
    s.sqFetch k entry = s.sqReply k entry 4 :=
  (if_neg (ne_true_of_eq_false h)).trans (if_pos (by simp [hkind]))

theorem State.sqFetch_notHeld (h : s.sqStuck k = false) (hkind : hostKind (s.descOfImage entry).kind = true)
    (hcell : (s.descOfImage entry).cell ≠ 0xFFFF) (hheld : s.hostHeld (s.descOfImage entry).cell = false) :
    s.sqFetch k entry = s.sqReply k entry 1 :=
  (if_neg (ne_true_of_eq_false h)).trans ((if_neg (by simp [hkind])).trans (if_pos (by simp [hcell, hheld])))

/-- An entry that is not turned away waits for the flow cache, or is given a descriptor. -/
theorem State.sqFetch_good (h : s.sqStuck k = false) (hkind : hostKind (s.descOfImage entry).kind = true)
    (hcell : (s.descOfImage entry).cell = 0xFFFF ∨ s.hostHeld (s.descOfImage entry).cell = true) :
    s.sqFetch k entry = if !s.flowRoom (s.descOfImage entry).atomic (s.descOfImage entry).flow then s.flowWaits else
      match s.newDesc (s.sqDesc k entry) with
      | none => s
      | some (_, t) => (({ t with pln := { t.pln with nextChain := t.pln.nextChain + 1 } } : State).wr (F.PLN_SQ_HEAD k) (s.sqNext k)).plnSync :=
  (if_neg (ne_true_of_eq_false h)).trans ((if_neg (by simp [hkind])).trans (if_neg (by
    rcases hcell with hnone | hheld
    · simp [hnone]
    · simp [hheld])))

theorem State.sqFetch_waits (h : s.sqStuck k = false) (hkind : hostKind (s.descOfImage entry).kind = true)
    (hcell : (s.descOfImage entry).cell = 0xFFFF ∨ s.hostHeld (s.descOfImage entry).cell = true)
    (hroom : s.flowRoom (s.descOfImage entry).atomic (s.descOfImage entry).flow = false) : s.sqFetch k entry = s.flowWaits :=
  (State.sqFetch_good h hkind hcell).trans (if_pos (by simp [hroom]))

/-- The state whose levels a taken entry brings up to date. -/
def State.sqTaken (s : State) (k : Nat) (entry : List Byte) : State :=
  ((({ s with pln := { s.pln.withReady (s.sqDesc k entry) with nextChain := s.pln.nextChain + 1 } } : State).wrap F.PLN_CREATED).wr
    (F.PLN_SQ_HEAD k) (s.sqNext k))

theorem State.sqFetch_takes (h : s.sqStuck k = false) (hkind : hostKind (s.descOfImage entry).kind = true)
    (hcell : (s.descOfImage entry).cell = 0xFFFF ∨ s.hostHeld (s.descOfImage entry).cell = true)
    (hroom : s.flowRoom (s.descOfImage entry).atomic (s.descOfImage entry).flow = true) (hgap : firstGap s.pln.descs 0 < 16384)
    (hspill : s.pln.spill = []) : s.sqFetch k entry = (s.sqTaken k entry).plnLevels := by
  have hsync : (s.sqTaken k entry).plnSync = (s.sqTaken k entry).plnLevels := State.plnSync_noSpill hspill
  rw [State.sqFetch_good h hkind hcell, if_neg (by simp [hroom]), State.newDesc_ready hgap rfl, ← hsync]
  rfl

end

/-- A condition that rises only adds to the outputs. -/
theorem State.mem_setCond_out (s : State) (v : Nat) (c : Bool) (m : OutMsg) (h : m ∈ s.out) : m ∈ (s.setCond v c).out := by
  have hsent : ∀ u : State, u.out = s.out → m ∈ (u.sendVector v).out := by
    intro u hu
    simp only [State.sendVector]
    split
    · exact List.mem_cons_of_mem _ (hu ▸ h)
    · split
      · exact hu ▸ h
      · exact List.mem_cons_of_mem _ (hu ▸ h)
  simp only [State.setCond]
  split
  · split
    · exact h
    · exact hsent _ rfl
  · exact h

end Sys2Proof.Machine

namespace Sys2Proof.Safety
open Sys2Proof.Machine

/-- The fields that follow from DFREE are no queue's SQ_HEAD. -/
theorem PLN_SQ_HEAD_key_ne_plnFields (k : Fin 8) : ∀ f ∈ plnFields, (F.PLN_SQ_HEAD k.val).key ≠ f.key := by
  revert k
  decide

theorem exec_sqFetch {s u : State} {k : Fin 8} {entry : List Byte} (hdom : s.domOn Dom.PKT = true) (h : s.sqFetch k.val entry = u) :
    exec (.sqFetch k entry) s = s.done u := congrArg s.done ((if_pos hdom).trans h)

/-- An entry that is turned away has its completion, and SQk_HEAD moves past it (R254). -/
theorem after_sqReply {c : Instr} {s : State} {k : Nat} {entry : List Byte} {status : Nat} (h : s.sqStuck k = false)
    (he : exec c s = s.done (s.sqReply k entry status)) :
    After c s (fun t => t.rd (F.PLN_SQ_HEAD k) = s.sqNext k ∧
      Sent t (.completion k (SMap.getD s.pln.cqTail k 0 % s.ringSize k) (field entry 8 8) (s.sqNext k) status
        (1 - SMap.getD s.pln.cqTail k 0 / s.ringSize k % 2) 0) ∧
      t.pln = { s.pln with cqTail := SMap.set s.pln.cqTail k (SMap.getD s.pln.cqTail k 0 + 1) } ∧ Frame s { t with pln := s.pln } [F.PLN_SQ_HEAD k]) := by
  have hframe : Frame { s with pln := { s.pln with cqTail := SMap.set s.pln.cqTail k (SMap.getD s.pln.cqTail k 0 + 1) } } (s.sqReply k entry status)
      [F.PLN_SQ_HEAD k] := .setCond _ _ (.emit _ (.wr (F.PLN_SQ_HEAD k) (s.sqNext k) (by simp) (.refl _ _)))
  refine (after_setPln hframe he).mono ?_
  rintro t ⟨hpln, hrest, hrd, hout⟩
  refine ⟨?_, hout _ (State.mem_setCond_out _ _ _ _ ?_), hpln, hrest⟩
  · refine (hrd _).trans ((State.rd_setCond _ _ _ _).trans ?_)
    exact (State.rd_wr_self s (F.PLN_SQ_HEAD k) (s.sqNext k)).trans (State.sqNext_mod_bound h)
  · rw [State.ringSize_wr_head]
    exact List.mem_cons_self

/-- A command whose effect brings the levels up to date leaves the descriptors as they were before that. -/
theorem after_plnLevels {c : Instr} {s u : State} {p : Pln} {fs : List Fld} (hu : Frame { s with pln := p } u fs) (he : exec c s = s.done u.plnLevels) :
    After c s (fun t => (∀ i, t.desc i = SMap.find? p.descs i) ∧ (∀ f, t.rd f = u.plnLevels.rd f) ∧
      Frame s { t with pln := s.pln, chn := { t.chn with pausing := s.chn.pausing } } (fs ++ plnFields)) := by
  refine after_done he ⟨fun i => ?_, rd_outcome _ _, ?_⟩
  · rw [State.desc, State.alertPin_pln, plnLevels_descs, hu.pln_eq]
  · have hlevels := (hu.mono (fun _ hf => List.mem_append_left plnFields hf)).trans
      ((Frame.plnLevels u).mono (fun _ hf => List.mem_append_right fs hf))
    rw [hu.chn_eq] at hlevels
    refine Frame.of_regs ?_ ?_ hlevels.but_pln
    · simp [SameBody]
    · simp

/-- An entry that is taken stands READY in the lowest free index, and SQk_HEAD moves past it (R242, R254). -/
theorem after_sqTaken {c : Instr} {s : State} {k : Fin 8} {entry : List Byte} (h : s.sqStuck k.val = false)
    (he : exec c s = s.done (s.sqTaken k.val entry).plnLevels) :
    After c s (fun t => t.rd (F.PLN_SQ_HEAD k.val) = s.sqNext k.val ∧
      t.desc (firstGap s.pln.descs 0) = some { (s.sqDesc k.val entry).markLate s.pln.lastDrain with st := .ready, order := s.pln.order } ∧
      (∀ j, j ≠ firstGap s.pln.descs 0 → t.desc j = s.desc j) ∧
      Frame s { t with pln := s.pln, chn := { t.chn with pausing := s.chn.pausing } } (F.PLN_SQ_HEAD k.val :: plnFields)) := by
  have hframe : Frame { s with pln := { s.pln.withReady (s.sqDesc k.val entry) with nextChain := s.pln.nextChain + 1 } } (s.sqTaken k.val entry)
      [F.PLN_SQ_HEAD k.val, F.PLN_CREATED] := .wr _ _ (by simp) (.wrap _ (by simp) (.refl _ _))
  refine (after_plnLevels hframe he).mono ?_
  rintro t ⟨hdesc, hrd, hrest⟩
  refine ⟨?_, (hdesc _).trans (SMap.find?_set_self _ _ _), fun j hj => (hdesc j).trans (SMap.find?_set_ne _ _ _ _ hj), hrest.mono (by simp [plnFields])⟩
  obtain ⟨-, hlevels⟩ := Frame.plnLevels (s.sqTaken k.val entry)
  exact ((hrd _).trans (hlevels _ (PLN_SQ_HEAD_key_ne_plnFields k))).trans ((State.rd_wr_self _ _ _).trans (State.sqNext_mod_bound h))

end Sys2Proof.Safety
end

section
/-!
SUPPORT. Boundary drains (R255), the observation window and the descriptor read (R257).
-/
namespace Sys2Proof.Machine

/-! ## A drain completes (R255, R256) -/

/-- The blocks that a BOUNDARY event reaches: PLN.BND_SUBS while the role's work is done. -/
def State.bndMask (s : State) : Nat := if s.working then s.rd F.PLN_BND_SUBS else 0

/-- The BOUNDARY event of a drain. -/
def State.bndEvent (s : State) (d : BndDrain) (late : Bool) : BndEvent := ⟨d.c, d.target, d.fires, d.rep, late, s.rd F.PLN_BND_PRIO⟩

/-- Planish's part once its oldest drain is done: the later drains, the count of the last one done, and the tasks that are late by it. -/
def Pln.drained (p : Pln) (d : BndDrain) : Pln :=
  { p with drains := p.drains.tail, lastDrain := max p.lastDrain d.c, descs := p.descs.map (fun e => (e.1, e.2.markLate (max p.lastDrain d.c))) }

/-- The parts of the state once a drain is done and its event is with the profiles and Touchstone. -/
def State.bndSent (s : State) (d : BndDrain) (late : Bool) : State :=
  { s with
    pln := s.pln.drained d
    bndPrf := if s.bndMask.testBit 0 then s.bndPrf ++ [s.bndEvent d late] else s.bndPrf
    bndTch := if s.bndMask.testBit 2 then s.bndTch ++ [s.bndEvent d late] else s.bndTch }

theorem State.sendBoundary_noTariff {s : State} (h : s.bndMask.testBit 3 = false ∨ s.tar.armed = none) (e : BndEvent) :
    s.sendBoundary e = { s with
      bndPrf := if s.bndMask.testBit 0 then s.bndPrf ++ [e] else s.bndPrf
      bndTch := if s.bndMask.testBit 2 then s.bndTch ++ [e] else s.bndTch } := by
  rcases h with hmask | harmed
  · exact if_neg (ne_true_of_eq_false hmask)
  · simp only [State.sendBoundary, State.tariffBoundary, harmed, ite_self]
    rfl

theorem State.bndMask_wr_out (s : State) (n : Nat) : (s.wr F.PLN_BND_STAT_OUT n).bndMask = s.bndMask := by
  have hmode := s.rd_wr_ne F.PLN_BND_STAT_OUT F.MODE_CUR n (by decide)
  have hexported := s.rd_wr_ne F.PLN_BND_STAT_OUT F.LDG_SUCC_STAT_EXPORTED n (by decide)
  have hsubs := s.rd_wr_ne F.PLN_BND_STAT_OUT F.PLN_BND_SUBS n (by decide)
  have hworking : (s.wr F.PLN_BND_STAT_OUT n).working = s.working := by
    simp only [State.working, State.mode, State.on, hmode, hexported, State.wr_pwr]
  simp only [State.bndMask, hworking, hsubs]

/-- The oldest drain's end, where no tariff set waits for it: the parts of the state, then the registers and the interrupts. -/
theorem State.completeDrain_noTariff {s : State} {d : BndDrain} (hd : s.pln.drains.head? = some d)
    (h : s.bndMask.testBit 3 = false ∨ s.tar.armed = none) (late : Bool) :
    let u := (s.bndSent d late).wr F.PLN_BND_STAT_OUT s.pln.drains.tail.length
    s.completeDrain late = if late then ((u.sat F.PLN_BND_LATE).wrap F.PLN_BND_DONE).raiseBits Pg.PLN (2 ^ 3 + 2 ^ 4)
      else (u.wrap F.PLN_BND_DONE).raise Pg.PLN 3 := by
  obtain ⟨ds, hds⟩ := List.head?_eq_some_iff.1 hd
  let v : State := ({ s with pln := s.pln.drained d } : State).wr F.PLN_BND_STAT_OUT s.pln.drains.tail.length
  have hmask : v.bndMask = s.bndMask := State.bndMask_wr_out { s with pln := s.pln.drained d } _
  have hsent := State.sendBoundary_noTariff (s := v) (by rwa [hmask]) (s.bndEvent d late)
  rw [hmask] at hsent
  simp only [State.completeDrain, hds]
  simp only [v, hds, Pln.drained, List.tail_cons, State.bndEvent] at hsent
  rw [hsent]
  simp only [State.bndSent, Pln.drained, hds, List.tail_cons, State.bndEvent]
  rfl

/-- The bits of a mask stand in INT_STAT once the mask is raised (R45). -/
theorem State.raiseBits_set (s : State) (p : Nat) {mask b : Nat} (hb : mask.testBit b = true) (hlt : b < 32) :
    ((s.raiseBits p mask).rd (F.INT_STAT p)).testBit b = true := by
  rw [State.rd_raiseBits_self, Nat.testBit_mod_two_pow, Nat.testBit_or, hb]
  simp [hlt]

/-! ## Observation (R257) -/

/-- A map that lists a figure for each of some keys has it for each of them. -/
theorem SMap.find?_map_pair {α : Type} (f : Nat → α) {j : Nat} {l : List Nat} (hj : j ∈ l) : SMap.find? (l.map (fun i => (i, f i))) j = some (f j) := by
  induction l with
  | nil => cases hj
  | cons i l ih =>
    simp only [List.map_cons, SMap.find?]
    split
    · next heq => rw [heq]
    · next hne => exact ih ((List.mem_cons.1 hj).resolve_left hne)

/-- A field that is written among fields of other keys reads as it was written. -/
theorem State.rd_foldl_wr {fld : Nat → Fld} {val : Nat → Nat} {j : Nat} {l : List Nat} (hne : ∀ i ∈ l, j ≠ i → (fld j).key ≠ (fld i).key) {s : State}
    (h : j ∈ l ∨ s.rd (fld j) = val j % (fld j).bound) :
    (l.foldl (fun t i => t.wr (fld i) (val i)) s).rd (fld j) = val j % (fld j).bound := by
  induction l generalizing s with
  | nil => simpa using h
  | cons i l ih =>
    refine ih (fun x hx => hne x (List.mem_cons_of_mem _ hx)) ?_
    by_cases hij : j = i
    · subst hij
      exact .inr (s.rd_wr_self _ _)
    · exact h.imp (fun hj => (List.mem_cons.1 hj).resolve_left hij) (fun hrd => (s.rd_wr_ne _ _ _ (hne i List.mem_cons_self hij)).trans hrd)

theorem PLN_CORE_BUSY_key_ne {i j : Nat} (hi : i < 16) (hj : j < 16) (h : j ≠ i) : (F.PLN_CORE_BUSY j).key ≠ (F.PLN_CORE_BUSY i).key := by
  have hoff : ∀ k, k < 16 → (F.PLN_CORE_BUSY k).lo < 32 ∧ (F.PLN_CORE_BUSY k).off < 0x1000 := by
    intro k hk
    simp only [F.PLN_CORE_BUSY]
    omega
  exact Fld.key_ne_off _ _ (hoff j hj) (hoff i hi) (by simp only [F.PLN_CORE_BUSY]; omega)

theorem State.foldl_setShadow_eq (s : State) (m : Master) (p : Nat) (off : Nat → Nat) (g : Nat → Word) (l : List Nat) :
    ∃ b, l.foldl (fun t w => t.setShadow m p (off w) (g w)) s = { s with bus := b } := by
  refine List.foldlRecOn l _ (motive := fun t => ∃ b, t = { s with bus := b }) ⟨s.bus, rfl⟩ ?_
  rintro t ⟨b, rfl⟩ w -
  exact ⟨_, rfl⟩

/-- The bytes of the descriptor in DESC_SEL, all 0 where it is FREE (R257). -/
def State.selImage (s : State) : List Byte := ((s.desc (s.rd F.PLN_DESC_SEL)).map Desc.image).getD (be 32 0)

/-- The read as a latch of the words after the first (R43). -/
theorem State.descRead_eq (s : State) (m : Master) :
    s.descRead m = ((List.range 7).foldl (fun t w => t.setShadow m Pg.PLN (0x1C4 + 4 * (w + 1)) (BitVec.ofNat 32 (field s.selImage (4 * w + 4) 4))) s).answer
      (BitVec.ofNat 32 (field s.selImage 0 4)) := by
  have hstep : (fun (t : State) w => t.setShadow m Pg.PLN (0x1C8 + 4 * w) (BitVec.ofNat 32 (field s.selImage (4 * w + 4) 4))) =
      fun t w => t.setShadow m Pg.PLN (0x1C4 + 4 * (w + 1)) (BitVec.ofNat 32 (field s.selImage (4 * w + 4) 4)) := by
    funext t w
    rw [show 0x1C8 + 4 * w = 0x1C4 + 4 * (w + 1) by omega]
  exact congrArg (fun latch => ((List.range 7).foldl latch s).answer (BitVec.ofNat 32 (field s.selImage 0 4))) hstep

end Sys2Proof.Machine

namespace Sys2Proof.Safety
open Sys2Proof.Machine

/-! ## What drains lead to -/

section
variable {s : State} {d : BndDrain}

theorem exec_boundaryDrainComplete_eq (hd : s.pln.drains.head? = some d) :
    exec .boundaryDrainComplete s = s.done (if s.workBefore d.c then s else s.completeDrain false) := by
  obtain ⟨ds, hds⟩ := List.head?_eq_some_iff.1 hd
  change execBoundaryDrainComplete s = _
  simp only [execBoundaryDrainComplete, hds]

theorem exec_boundaryDrainLate_eq (hd : s.pln.drains.head? = some d) :
    exec .boundaryDrainLate s = s.done (if s.workBefore d.c then s.completeDrain true else s) := by
  obtain ⟨ds, hds⟩ := List.head?_eq_some_iff.1 hd
  change execBoundaryDrainLate s = _
  simp only [execBoundaryDrainLate, hds]

theorem exec_boundaryDrainComplete (hd : s.pln.drains.head? = some d) (hwork : s.workBefore d.c = false) :
    exec .boundaryDrainComplete s = s.done (s.completeDrain false) := by
  rw [exec_boundaryDrainComplete_eq hd, if_neg (ne_true_of_eq_false hwork)]

theorem exec_boundaryDrainComplete_waits (hd : s.pln.drains.head? = some d) (hwork : s.workBefore d.c = true) :
    exec .boundaryDrainComplete s = s.done s := by
  rw [exec_boundaryDrainComplete_eq hd, if_pos hwork]

theorem exec_boundaryDrainLate (hd : s.pln.drains.head? = some d) (hwork : s.workBefore d.c = true) :
    exec .boundaryDrainLate s = s.done (s.completeDrain true) := by
  rw [exec_boundaryDrainLate_eq hd, if_pos hwork]

theorem exec_boundaryDrainLate_notLate (hd : s.pln.drains.head? = some d) (hwork : s.workBefore d.c = false) :
    exec .boundaryDrainLate s = s.done s := by
  rw [exec_boundaryDrainLate_eq hd, if_neg (ne_true_of_eq_false hwork)]

end

/-- The fields that the end of a drain changes. -/
def drainFields : List Fld := [F.PLN_BND_STAT_OUT, F.PLN_BND_DONE, F.PLN_BND_LATE] ++ raised Pg.PLN

/-- A command whose effect keeps the frame of a drain that is done, the fields of `drainFields` apart. -/
theorem after_bndSent {c : Instr} {s u : State} {d : BndDrain} {late : Bool} (hu : Frame (s.bndSent d late) u drainFields) (he : exec c s = s.done u) :
    After c s (fun t => t.pln = s.pln.drained d ∧ t.bndPrf = (s.bndSent d late).bndPrf ∧ t.bndTch = (s.bndSent d late).bndTch ∧
      Frame s { t with pln := s.pln, bndPrf := s.bndPrf, bndTch := s.bndTch } drainFields ∧ ∀ f, t.rd f = u.rd f) := by
  obtain ⟨hbody, hregs⟩ := hu.done s.pending
  refine after_done he ?_
  simp only [SameBody] at hbody
  refine ⟨?_, ?_, ?_, ⟨?_, hregs⟩, rd_outcome u _⟩
  · simp only [hbody]
    rfl
  · simp only [hbody]
  · simp only [hbody]
  · simp only [SameBody, hbody, State.bndSent, and_self]

/-- A drain that is done leaves the later ones, counts, and sets bit 3; a late one counts as LATE too, with bit 4 (R255, R256). -/
theorem after_completeDrain {c : Instr} {s : State} {d : BndDrain} (hd : s.pln.drains.head? = some d)
    (h : s.bndMask.testBit 3 = false ∨ s.tar.armed = none) (late : Bool) (he : exec c s = s.done (s.completeDrain late)) :
    After c s (fun t => t.pln.drains = s.pln.drains.tail ∧ t.pln.lastDrain = max s.pln.lastDrain d.c ∧
      t.rd F.PLN_BND_STAT_OUT = s.pln.drains.tail.length % F.PLN_BND_STAT_OUT.bound ∧
      t.rd F.PLN_BND_DONE = (s.rd F.PLN_BND_DONE + 1) % F.PLN_BND_DONE.bound ∧ Interrupt t Pg.PLN 3 ∧
      (late = true → Counted s t F.PLN_BND_LATE ∧ Interrupt t Pg.PLN 4) ∧
      t.bndPrf = (s.bndSent d late).bndPrf ∧ t.bndTch = (s.bndSent d late).bndTch ∧
      Frame s { t with pln := s.pln, bndPrf := s.bndPrf, bndTch := s.bndTch } drainFields) := by
  have hint : F.INT_STAT Pg.PLN ∈ drainFields := by simp [drainFields, raised]
  have halert : F.SMP_ALERT_STAT ∈ drainFields := by simp [drainFields, raised]
  have hdone : F.PLN_BND_DONE ∈ drainFields := by simp [drainFields]
  let u : State := (s.bndSent d late).wr F.PLN_BND_STAT_OUT s.pln.drains.tail.length
  have hu : Frame (s.bndSent d late) u drainFields := .wr _ _ (by simp [drainFields]) (.refl _ _)
  have hout : u.rd F.PLN_BND_STAT_OUT = s.pln.drains.tail.length % F.PLN_BND_STAT_OUT.bound := State.rd_wr_self _ _ _
  have hcount : ∀ f : Fld, f.key ≠ F.PLN_BND_STAT_OUT.key → u.rd f = s.rd f := fun f hf => State.rd_wr_ne (s.bndSent d late) _ _ _ hf
  rw [State.completeDrain_noTariff hd h late] at he
  cases late with
  | false =>
    refine (after_bndSent ((hu.wrap _ hdone).raise _ 3 hint halert) he).mono ?_
    rintro t ⟨hpln, hprf, htch, hrest, hrd⟩
    refine ⟨congrArg Pln.drains hpln, congrArg Pln.lastDrain hpln, ?_, ?_, ?_, fun hlate => absurd hlate Bool.false_ne_true, hprf, htch, hrest⟩
    · rw [hrd, State.rd_raise_ne _ _ _ _ (by decide) (by decide), State.rd_wrap_ne _ _ _ (by decide)]
      exact hout
    · rw [hrd, State.rd_raise_ne _ _ _ _ (by decide) (by decide), State.rd_wrap_self, ← hcount _ (by decide)]
    · rw [Interrupt, hrd]
      exact State.raise_set _ _ _ (by decide)
  | true =>
    refine (after_bndSent (((hu.sat F.PLN_BND_LATE (by simp [drainFields])).wrap _ hdone).raiseBits _ _ hint halert) he).mono ?_
    rintro t ⟨hpln, hprf, htch, hrest, hrd⟩
    have hbit : ∀ b, (2 ^ 3 + 2 ^ 4).testBit b = true → b < 32 → Interrupt t Pg.PLN b := by
      intro b hb hlt
      rw [Interrupt, hrd]
      exact State.raiseBits_set _ _ hb hlt
    refine ⟨congrArg Pln.drains hpln, congrArg Pln.lastDrain hpln, ?_, ?_, hbit 3 (by decide) (by decide),
      fun _ => ⟨?_, hbit 4 (by decide) (by decide)⟩, hprf, htch, hrest⟩
    · rw [hrd, State.rd_raiseBits_ne _ _ _ _ (by decide) (by decide), State.rd_wrap_ne _ _ _ (by decide), State.rd_sat_ne _ _ _ (by decide)]
      exact hout
    · rw [hrd, State.rd_raiseBits_ne _ _ _ _ (by decide) (by decide), State.rd_wrap_self, State.rd_sat_ne _ _ _ (by decide), ← hcount _ (by decide)]
    · rw [Counted, hrd, State.rd_raiseBits_ne _ _ _ _ (by decide) (by decide), State.rd_wrap_ne _ _ _ (by decide), State.rd_sat_self,
        ← hcount _ (by decide)]

/-! ## What observation leads to -/

/-- The figures of a window, by level or core. -/
def obsFigures (l : List Word) : SMap Nat := (List.range 16).map (fun j => (j, (l.getD j 0).toNat))

theorem getD_obsFigures (l : List Word) {j : Nat} (hj : j < 16) : SMap.getD (obsFigures l) j 0 = (l.getD j 0).toNat :=
  congrArg (fun o => o.getD 0) (SMap.find?_map_pair _ (List.mem_range.2 hj))

/-- The end of a window sets the figures of each level and core (R257). -/
theorem after_obsWindowEnd (waitMax waitAvg : List Word) (busy : List Nat) (s : State) :
    After (.obsWindowEnd waitMax waitAvg busy) s (fun t =>
      t.pln = { s.pln with obsMax := obsFigures waitMax, obsAvg := obsFigures waitAvg } ∧
      (∀ j, j < 16 → t.rd (F.PLN_CORE_BUSY j) = min 1000 (busy.getD j 0)) ∧
      Frame s { t with pln := s.pln } ((List.range 16).map (fun k => F.PLN_CORE_BUSY k))) := by
  let v : State := { s with pln := { s.pln with obsMax := obsFigures waitMax, obsAvg := obsFigures waitAvg } }
  let u := (List.range 16).foldl (fun t k => t.wr (F.PLN_CORE_BUSY k) (min 1000 (busy.getD k 0))) v
  have hframe : Frame v u ((List.range 16).map (fun k => F.PLN_CORE_BUSY k)) :=
    List.foldlRecOn _ _ (motive := fun t => Frame v t _) (.refl v _) (fun _ ht _ hk => ht.wr _ _ (List.mem_map_of_mem hk))
  refine (after_setPln hframe (u := u) rfl).mono ?_
  rintro t ⟨hpln, hrest, hrd, -⟩
  refine ⟨hpln, fun j hj => (hrd _).trans ?_, hrest⟩
  refine (State.rd_foldl_wr (val := fun k => min 1000 (busy.getD k 0)) (fun i hi => PLN_CORE_BUSY_key_ne (List.mem_range.1 hi) hj)
    (.inl (List.mem_range.2 hj))).trans (Nat.mod_eq_of_lt ?_)
  exact Nat.lt_of_le_of_lt (Nat.min_le_left _ _) (show 1000 < 2 ^ 10 by decide)

theorem exec_descRead {s : State} {m : Master} (hd : s.dead = false) (hp : s.pageOn Pg.PLN = true) : exec (.descRead m) s = s.done (s.descRead m) :=
  congrArg s.done (s.guardedRead_open m _ _ _ hd hp)

theorem selImage_free {s : State} (h : (s.desc (s.rd F.PLN_DESC_SEL)).isNone = true) : field s.selImage 0 4 = 0 := by
  rw [State.selImage, Option.isNone_iff_eq_none.1 h]
  decide

/-- A descriptor read answers the first word and latches the other seven (R43, R257). -/
theorem after_descRead {s : State} {m : Master} (hd : s.dead = false) (hp : s.pageOn Pg.PLN = true) :
    After (.descRead m) s (fun t => t.bus.rdata = [BitVec.ofNat 32 (field s.selImage 0 4)] ∧
      (∀ w, w < 7 → SMap.find? t.bus.shadow (shadowKey m Pg.PLN (0x1C8 + 4 * w)) = some (BitVec.ofNat 32 (field s.selImage (4 * w + 4) 4))) ∧
      Frame s { t with bus := s.bus } []) := by
  have he := exec_descRead (m := m) hd hp
  rw [State.descRead_eq] at he
  refine after_done he ⟨?_, fun w hw => ?_, ?_⟩
  · rw [bus_outcome, State.answer_rdata]
  · rw [bus_outcome, State.answer_shadow, show 0x1C8 + 4 * w = 0x1C4 + 4 * (w + 1) by omega]
    exact State.find?_foldl_setShadow m Pg.PLN 0x1C4 (fun i => BitVec.ofNat 32 (field s.selImage (4 * i + 4) 4)) w _ s (.inl (List.mem_range.2 hw))
  · obtain ⟨b, hlatch⟩ := s.foldl_setShadow_eq m Pg.PLN (fun w => 0x1C4 + 4 * (w + 1)) (fun w => BitVec.ofNat 32 (field s.selImage (4 * w + 4) 4)) (List.range 7)
    rw [hlatch]
    exact (Frame.refl s []).done_but_bus _ _

/-! ## What pops and doorbells lead to -/

theorem exec_packetPop {s u : State} {q : Fin 1024} (hdom : s.domOn Dom.PKT = true) (hpair : s.pair.handover = none) (h : s.popPacket q.val = u) :
    exec (.packetPop q) s = s.done u := congrArg s.done ((if_pos (by simp [hdom, hpair])).trans h)

theorem exec_packetPop_handover {s : State} {q : Fin 1024} (hpair : s.pair.handover.isSome = true) : exec (.packetPop q) s = s.done s :=
  congrArg s.done (if_neg (by simp [Option.isSome_iff_ne_none.1 hpair]))

theorem exec_sqDoorbell {s : State} {m : Master} {k : Fin 8} (v : Word) (h : s.judge m Pg.PLN (0x314 + 0x20 * k.val) = .open) :
    exec (.sqDoorbell m k v) s = s.done (s.wr (F.PLN_SQ_TAIL k.val) (bits v 11 0)) := congrArg s.done (s.guarded_open m _ _ _ h)

theorem after_sqDoorbell {s : State} {m : Master} {k : Fin 8} (v : Word) (h : s.judge m Pg.PLN (0x314 + 0x20 * k.val) = .open) :
    After (.sqDoorbell m k v) s (fun t => t.rd (F.PLN_SQ_TAIL k.val) = bits v 11 0 ∧ Frame s t [F.PLN_SQ_TAIL k.val]) := by
  refine after_done (exec_sqDoorbell v h) ⟨?_, (Frame.wr _ _ (by simp) (Frame.refl s _)).done _⟩
  rw [rd_outcome, State.rd_wr_self]
  exact Nat.mod_mod _ _

end Sys2Proof.Safety
end

section
open Sys2Proof Sys2Proof.Machine Sys2Proof.Safety

/-- Settles O35: each command comes to one branch of its meaning; that a taken entry changes no more than its descriptor and what follows from DFREE
rests on the frame of the levels. -/
theorem popsHostQueuesAndDrains : Obligations.PopsHostQueuesAndDrains := by
  refine ⟨fun q s hdom => ⟨fun hheld => ?_, fun hpair hnext hneed hroom hnew => ?_, fun r hr hpair hnext hneed hroom => ?_⟩,
    fun m k v s h => after_sqDoorbell v h,
    fun k entry s hdom => ⟨fun hstuck => ?_, fun hstuck hkind => ?_, fun hstuck hkind hcell hheld => ?_, fun hstuck hkind hcell hroom => ?_,
      fun hstuck hkind hcell hroom hgap hspill => ?_⟩,
    fun s d hd => ⟨fun hmask => ⟨fun hwork => ?_, fun hwork => ?_⟩, fun hwork => ?_, fun hwork => ?_, fun hwork => ?_, fun hwork => ?_⟩,
    fun waitMax waitAvg busy s => ?_, fun m s hd hp => ?_⟩
  · by_cases hpair : s.pair.handover = none
    · exact after_unchanged (exec_packetPop hdom hpair (State.popPacket_held (hheld.resolve_left (by simp [hpair]))))
    · exact after_unchanged (exec_packetPop_handover (Option.isSome_iff_ne_none.2 hpair))
  · exact after_flowWaits (exec_packetPop hdom hpair (State.popPacket_waits hnext hneed hroom hnew))
  · have hexec := exec_packetPop hdom hpair (State.popPacket_pops hr hnext hneed hroom)
    obtain ⟨hhead, c, hcru⟩ := State.popQueue_eq hr
    refine ⟨hhead, ?_, fun hq => ?_, fun hq => ?_⟩
    · rw [hcru]
      exact Frame.refl s []
    · rwa [if_pos hq] at hexec
    · rwa [if_neg (Nat.not_lt.2 hq)] at hexec
  · exact after_unchanged (exec_sqFetch hdom (State.sqFetch_stuck hstuck))
  · exact after_sqReply hstuck (exec_sqFetch hdom (State.sqFetch_badKind hstuck hkind))
  · exact after_sqReply hstuck (exec_sqFetch hdom (State.sqFetch_notHeld hstuck hkind hcell hheld))
  · exact (after_flowWaits (p := s.pln) (exec_sqFetch hdom (State.sqFetch_waits hstuck hkind hcell hroom))).mono
      (fun _ ⟨hpln, hcount, hrest⟩ => ⟨hcount, hpln, hrest⟩)
  · exact after_sqTaken hstuck (exec_sqFetch hdom (State.sqFetch_takes hstuck hkind hcell hroom hgap hspill))
  · exact after_completeDrain hd hmask false (exec_boundaryDrainComplete hd hwork)
  · exact after_completeDrain hd hmask true (exec_boundaryDrainLate hd hwork)
  · exact exec_boundaryDrainComplete hd hwork
  · exact exec_boundaryDrainLate hd hwork
  · exact after_unchanged (exec_boundaryDrainComplete_waits hd hwork)
  · exact after_unchanged (exec_boundaryDrainLate_notLate hd hwork)
  · refine (after_obsWindowEnd waitMax waitAvg busy s).mono ?_
    rintro t ⟨hpln, hbusy, hrest⟩
    refine ⟨fun j hj => ⟨?_, ?_, hbusy j hj⟩, ?_, hrest⟩
    · rw [hpln]
      exact getD_obsFigures waitMax hj
    · rw [hpln]
      exact getD_obsFigures waitAvg hj
    · rw [hpln]
  · refine (after_descRead hd hp).mono (fun t ⟨hdata, hshadow, hrest⟩ => ⟨hdata, fun hfree => ?_, hshadow, hrest⟩)
    rw [hdata, selImage_free hfree]

end

section
/-!
SUPPORT. The entry into FALLBACK (R288): the profiles' part also keeps the ledger sequence at which the entry stands, since from there on the records are in no programmed segment (R384).
-/
namespace Sys2Proof.Machine

theorem State.enterFallback_progSeq (s : State) (cause : Nat) : (s.enterFallback cause).prf.progSeq = s.jrn.seq := by
  simp only [State.enterFallback, State.raise_prf, State.sat_prf, State.wr_prf]

end Sys2Proof.Machine

namespace Sys2Proof.Safety
open Sys2Proof.Machine

theorem exec_fallbackEnter {s : State} (hout : s.on F.PRF_STATE_FALLBACK = false) (hcause : s.fallbackCause ≠ 0) :
    exec .fallbackEnter s = s.done (s.enterFallback s.fallbackCause) := congrArg s.done (if_neg (by simp [hout, hcause]))

/-- Every entry into FALLBACK sets the sequence up to which records are in programmed segments (R288, R384). -/
theorem progSeq_of_fallbackEnter {s t : State} (hout : s.on F.PRF_STATE_FALLBACK = false) (hcause : s.fallbackCause ≠ 0)
    (hexec : exec .fallbackEnter s = .next t) : t.prf.progSeq = s.jrn.seq := by
  rw [exec_fallbackEnter hout hcause, State.done_eq] at hexec
  injection hexec with ht
  rw [← ht, ← s.enterFallback_progSeq s.fallbackCause]
  exact congrArg Prf.progSeq (State.alertPin_prf _)

end Sys2Proof.Safety
end

section
open Sys2Proof Sys2Proof.Machine Sys2Proof.Safety

/-- Refutes O36: its clause on the entry into FALLBACK says that in the profiles' part only `notKept` and `fbDay` change, while the entry also sets
`progSeq` to the ledger sequence. A unit in role mode whose journal holds one record, with FB_FORCE set, shows it: `progSeq` goes from 0 to 1. -/
theorem not_profilesAndPeriods : ¬ Obligations.ProfilesAndPeriods := by
  rintro ⟨-, -, hfallback, -⟩
  let s : State := (Tests.tb [(F.PRF_CTL_FB_FORCE, 1)] 0).journal 8 []
  have hout : s.on F.PRF_STATE_FALLBACK = false := by decide
  have hcause : s.fallbackCause ≠ 0 := by decide
  obtain ⟨t, hexec, -, -, -, -, hprf, -⟩ := hfallback s hout hcause
  have hkept : t.prf.progSeq = 0 := congrArg Prf.progSeq hprf
  have hset : t.prf.progSeq = 1 := progSeq_of_fallbackEnter hout hcause hexec
  omega

end
